-- ==== Sys2Proof/Word.lean ====
section
/-!
DEFINITION. The word types of the model and their plainest arithmetic.
Numbers the manual only counts with are Nat; octets and registers it treats as bits are bit vectors.
-/
namespace Sys2Proof

/-- One octet of a memory, an image, a frame or an OCTETS value. -/
abbrev Byte := BitVec 8

/-- A word register or accumulator of a logic engine (R154). -/
abbrev Word := BitVec 32

/-- Sparse data by key: listed entries with strictly rising keys; an unlisted key reads as the table's default. -/
abbrev Table (α : Type) := List (Nat × α)

end Sys2Proof
end

