-- ==== Sys2Proof/Parts.lean ====
section
/-!
DEFINITION. The parts of the module's state that a resynchronisation transfers, as plain data, chapter by chapter of spec/: Syntax.lean
uses them in the operand of the donor's fence, Machine/State.lean in the state.
-/
namespace Sys2Proof

/-- The value of an object of the dictionary: a number as its bit pattern, or octets (R446). -/
inductive Val where
  | num (n : Nat)
  | oct (b : List Byte)
deriving DecidableEq, Repr

end Sys2Proof

namespace Sys2Proof.Machine

/-- A memory of octets: addresses strictly rising, no entry equal to what an unlisted address reads as. -/
abbrev Memory := List Host.Cell

/-! ## The tick and the Last (R10-R42) -/

/-- The eight phases of a tick (R19). -/
inductive Phase where
  | I | F | E | L1 | T | L2 | V | P
deriving DecidableEq, Repr

/-- The tick and the two Last banks. -/
structure TickSt where
  /-- tick number k, 48 bits (R12) -/
  k : Nat := 0
  /-- tick-in-second q (R13) -/
  q : Nat := 0
  /-- the TAI second the tick lies in (R13, R539) -/
  sec : Nat := 0
  /-- where q was last derived afresh, newest first: the tick, its q and its second; from there both count on (R13, R15, R53) -/
  marks : List (Nat × Nat × Nat) := []
  phase : Phase := .I
  running : Bool := false
  /-- TICK_RUN was written 0: the tick stops at the next tick start (R42) -/
  stopPending : Bool := false
  bankA : List Byte := []
  bankB : List Byte := []
  /-- CHECK was written and its result is not yet reported (R33) -/
  checkPending : Bool := false
  /-- the bound-eligibility the last check found for the inactive bank (R40) -/
  chkUnbound : Nat := 0
  chkFirst : Nat := 0xFFFF
  /-- k_s of a pending swap (R35) -/
  swapTick : Nat := 0
  /-- COMMIT_ID of the commit that carries the pending swap -/
  swapCommit : Nat := 0
deriving DecidableEq, Repr

/-! ## Sampled-value ingest (R43-R68) -/

/-- A filed sub-sample: its sample count, sync class (R55), value and quality words, the port it came from and its arrival stamp (R53, R63). -/
structure Filing where
  smpCnt : Nat := 0
  sync : Nat := 0
  vals : List (Nat × Nat) := []
  port : Nat := 0
  stamp : Nat := 0
deriving DecidableEq, Repr

/-- What filing hands to agreement for one stream when its window closes (R55). -/
structure StreamRec where
  s : Nat := 0
  kf : Nat := 0
  mask : Nat := 0
  digest : Nat := 0
  subs : List (Option Filing) := []
deriving DecidableEq, Repr

/-- What a channel delivers in a tick: for each sub-sample its value (32-bit pattern) and flag byte (R56). -/
structure Delivered where
  kf : Nat := 0
  subs : List (Nat × Nat) := []
deriving DecidableEq, Repr

/-- The held value of a channel and its filing tick k_g (R59). -/
structure Held where
  value : Nat := 0
  kg : Nat := 0
  valid : Bool := false
deriving DecidableEq, Repr

/-- A stream's runs of present and absent ticks, its SYNC_LOST state and the last confRev verdict (R60, R61). -/
structure StreamRt where
  present : Nat := 0
  absent : Nat := 0
  syncLost : Bool := false
  /-- a frame with the right confRev has come since the last wrong one (R61) -/
  confOk : Bool := false
  /-- the commit tick that enabled the stream (R51) -/
  enabledAt : Nat := 0
deriving DecidableEq, Repr

/-- The state of ingest. -/
structure IngestSt where
  /-- filed sub-samples, keyed (k_f * 2048 + s) * 3 + sub-sample -/
  filings : Table Filing := []
  /-- the records whose window closed at this tick's start, by stream -/
  closed : Table StreamRec := []
  /-- the records of the last 64 filing ticks as the filed-sample aperture shows them, keyed s * 64 + k_f mod 64 (R295) -/
  store : Table StreamRec := []
  /-- the agreed sub-samples of the tick, by stream; a stream not agreed has none -/
  agreed : Table (List (Option Filing)) := []
  deliv : Table Delivered := []
  held : Table Held := []
  streams : Table StreamRt := []
  /-- the last SPDU number accepted, keyed s * 2^32 + key ID (R65) -/
  replay : Table Nat := []
deriving DecidableEq, Repr

/-! ## The filter chain (R69-R98) -/

/-- One entry of a channel's history: the blocker's output, the sample's flag byte and whether anything saturated. -/
structure HistEntry where
  d : Int := 0
  flags : Nat := 0
  sat : Bool := false
deriving DecidableEq, Repr

/-- A channel's chain state: history newest first, inputs since the clearance, the DC estimate in Q24.24, its records of R84 by r,
and whether SAT has set since the clearance. -/
structure ChanSt where
  hist : List HistEntry := []
  count : Nat := 0
  m : Int := 0
  recs : Table (List Nat) := []
  latest : List Nat := []
  satSeen : Bool := false
  frozen : Bool := false
  /-- an output was written in this tick -/
  produced : Bool := false
deriving DecidableEq, Repr

/-- A coefficient bank: tap count, coefficient octets and gain table (R88, R103). -/
structure Bank where
  taps : Nat := 0
  words : List Byte := []
  gain : List Nat := []
deriving DecidableEq, Repr

/-- A bank as configuration MRAM keeps it (R88). -/
structure StoredBank where
  taps : Nat := 0
  words : List Byte := []
  crc : Nat := 0
deriving DecidableEq, Repr

/-- A profile's two banks, a pending check and a pending swap (R88-R92). -/
structure ProfileSt where
  a : Bank := {}
  b : Bank := {}
  checkPending : Bool := false
  swapTick : Nat := 0
  swapCommit : Nat := 0
deriving DecidableEq, Repr

/-- The state of the filter chain. `cleared` holds this tick's causes of history clearance: cause, first channel, count (R87). -/
structure FilterSt where
  chans : Table ChanSt := []
  profiles : Table ProfileSt := []
  cleared : List (Nat × Nat × Nat) := []
deriving DecidableEq, Repr

/-! ## The phasor engine (R99-R122) -/

/-- A complex binary32 value. -/
structure Cx where
  re : Nat := 0
  im : Nat := 0
deriving DecidableEq, Repr

/-- One output of the filter as the phasor engine keeps it: VALUE and the status fields of word 3 (R84, R105). -/
structure PhHist where
  value : Nat := 0
  flags : Nat := 0
  sat : Bool := false
  frozen : Bool := false
  warm : Bool := false
deriving DecidableEq, Repr

/-- A phasor record of R114 in its fields. -/
structure Phasor where
  x : Cx := {}
  mag : Nat := 0
  freq : Nat := 0
  tick : Nat := 0
  status : Nat := 0
  origin : Nat := 0
  /-- whether a phasor has been produced since the last clearance (R117) -/
  made : Bool := false
deriving DecidableEq, Repr

/-- A channel's phasor state: history newest first, the two records by r, the latest record, and whether one is written this tick. -/
structure PhChan where
  hist : List PhHist := []
  recs : Table Phasor := []
  latest : Phasor := {}
  fresh : Bool := false
deriving DecidableEq, Repr

/-- A reference group's loop (R109-R113). Runs are of consecutive ticks. -/
structure RefGroup where
  psi : Nat := 0
  integ : Int := 0
  delta : Int := 0
  /-- Delta of past ticks, newest first, for ROCOF (R113) -/
  deltas : List Int := []
  /-- the psi of the first tick with the signal present is still to be taken (R111) -/
  seedPsi : Bool := true
  lockRun : Nat := 0
  errRun : Nat := 0
  absentRun : Nat := 0
  presentRun : Nat := 0
  holdTicks : Nat := 0
  lockedTicks : Nat := 0
  limitRun : Nat := 0
  eps : Int := 0
  theta : Int := 0
  signal : Bool := false
  rocof : Nat := 0
  rocofValid : Bool := false
  resid : Nat := 0
  srcMag : Nat := 0
  srcTick : Nat := 0
  srcFlags : Nat := 0
  freqLimit : Bool := false
  slewLimit : Bool := false
  /-- the range limit that acted last was the lower one, of 40 Hz (R110) -/
  limitLow : Bool := false
deriving DecidableEq, Repr

/-- A reference group's frequency record of R115 in its fields. -/
structure FreqRec where
  freq : Nat := 0
  rocof : Nat := 0
  resid : Nat := 0
  srcMag : Nat := 0
  tick : Nat := 0
  status : Nat := 0
deriving DecidableEq, Repr

/-- A three-phase group's record of R119 in its fields. -/
structure SeqRec where
  x0 : Cx := {}
  x1 : Cx := {}
  x2 : Cx := {}
  m0 : Nat := 0
  m1 : Nat := 0
  m2 : Nat := 0
  freq : Nat := 0
  tick : Nat := 0
  status : Nat := 0
  origin : Nat := 0
  made : Bool := false
deriving DecidableEq, Repr

/-- The state of the phasor engine. -/
structure PhasorSt where
  chans : Table PhChan := []
  groups : Table RefGroup := []
  /-- the state and the Delta in the previous tick of a group that a commit of this tick enables or disables (R101, R112, R114) -/
  before : Table (Nat × Int) := []
  /-- the frequency records as phase F wrote them last, of the groups enabled then (R115, R116) -/
  freqs : Table FreqRec := []
  /-- the FREQ that phase F wrote last into the records of the other groups: binary32 of F_nom -/
  offFreq : Nat := 0x42480000
  seqs : Table SeqRec := []
deriving DecidableEq, Repr

/-! ## The element array (R123-R153) -/

/-- One past magnitude of a RATE slot and whether its source was valid then (R126, R144). -/
structure RateEntry where
  q : Nat := 0
  valid : Bool := false
deriving DecidableEq, Repr

/-- A slot's state between ticks (R129) and the record it last wrote (R150). -/
structure SlotSt where
  pa : Bool := false
  pb : Bool := false
  pc : Bool := false
  up : Nat := 0
  op : Bool := false
  dn : Nat := 0
  /-- the raw operate decision of the last evaluation -/
  opRaw : Bool := false
  /-- the condition of loop 0 while PHASES = 0 -/
  p0 : Bool := false
  /-- the TIMER accumulator, 33 bits, and the running ticks (R146, R147) -/
  acc : Nat := 0
  nRun : Nat := 0
  /-- ticks not running under definite reset (R148) -/
  offRun : Nat := 0
  running : Bool := false
  hist : List RateEntry := []
  out : Nat := 0
  value : Nat := 0
  value2 : Nat := 0
  tick : Nat := 0
  puTick : Nat := 0
  opTick : Nat := 0
  incTable : List Nat := []
  decTable : List Nat := []
deriving DecidableEq, Repr

/-- The state of the element array. -/
structure ElementSt where
  slots : Table SlotSt := []
  /-- slots that start from the reset state at the start of the next phase E (R134, R136) -/
  resets : List Nat := []
deriving DecidableEq, Repr

/-! ## The logic engines and remote stations (R154-R185) -/

/-- A timer's state (R165); `last` is A at its last execution. -/
structure TimerSt where
  run : Bool := false
  q : Bool := false
  k0 : Nat := 0
  last : Bool := false
deriving DecidableEq, Repr

/-- A counter's count and edge memory (R166). -/
structure CounterSt where
  cv : Int := 0
  edge : Bool := false
deriving DecidableEq, Repr

/-- A pass in progress: what exists only within a pass (R155), and the bits written so far (R159). -/
structure PassSt where
  /-- 1 = L1, 2 = L2; 0 = no pass in progress -/
  pass : Nat := 0
  pc : Nat := 0
  a : Bool := false
  w : Word := 0
  /-- branch stack: (S, true for AND) -/
  branches : List (Bool × Bool) := []
  calls : List Nat := []
  used : Nat := 0
  writes : Table Nat := []
deriving DecidableEq, Repr

/-- A logic engine (R154). Timers, counters and word registers not listed are as after a cold start; presets and constants not listed are the image's. -/
structure EngineSt where
  image : List Byte := []
  /-- the image came through a tenant's dictionary port (R218) -/
  viaPort : Bool := false
  /-- the ownership that is in force: START and WORDS (R169, R171) -/
  own : List (Nat × Nat) := []
  /-- the image that passed and gave that ownership and its safe values (R169, R171); empty where none is in force -/
  inForce : List Byte := []
  checkPending : Bool := false
  words : Table Word := []
  timers : Table TimerSt := []
  counters : Table CounterSt := []
  consts : Table Nat := []
  presets : Table Nat := []
  limits : Table Nat := []
  run : PassSt := {}
  /-- an error-section run is due in the first pass of this tick (R183) -/
  errDue : Bool := false
  /-- stopped at this tick's start: owned bits take safe values at L1 start (R171) -/
  safeDue : Bool := false
  /-- event 0x0608 has been raised and the engine has had no pass since (R161) -/
  idleSaid : Bool := false
deriving DecidableEq, Repr

/-- What has arrived for a remote station: the last valid message's mapped bits, bad-quality bits, TAL, order and earliest arrival
tick, and whether a valid and an invalid one came (R180, R244). -/
structure StMsg where
  valid : Bool := false
  invalid : Bool := false
  bits : Nat := 0
  qbad : Nat := 0
  tal : Nat := 0
  k : Nat := 0
  order : Nat := 0
deriving DecidableEq, Repr

/-- A remote station: what has arrived since its last record, its record of the tick, the agreed one, and the held values of R182. -/
structure StationRt where
  rx : StMsg := {}
  record : StMsg := {}
  agreed : StMsg := {}
  tal : Nat := 0
  /-- the mapped bits and the bad-quality bits of the last valid message in the agreed image (R182) -/
  last : Nat × Nat := (0, 0)
  held : Option Nat := none
deriving DecidableEq, Repr

/-- The state of the logic engines. `snap` is the snapshot of the bits written outside element slots, taken at pass start (R158). -/
structure LogicSt where
  engines : Table EngineSt := []
  snap : Table Nat := []
  stations : Table StationRt := []
  /-- the agreed remote-input image of this tick has been formed (R181) -/
  imaged : Bool := false
  /-- the passes L2 of this tick have begun (R161) -/
  l2 : Bool := false
deriving DecidableEq, Repr

/-! ## Stages (R452) -/

/-- One staged write: object, selector (an instance, or 0xFFFF for every instance) and value. -/
structure StageEntry where
  obj : Nat := 0
  sel : Nat := 0
  val : Val := .num 0
deriving DecidableEq, Repr

/-- The states of a commit (R460). -/
inductive CommitState where
  | none | proposed | confirmed | armed | applying | refused | cancelled | missed | applied | overruled
deriving DecidableEq, Repr

/-- A commit held by the module (R457-R460). -/
structure Commit where
  id : Nat := 0
  /-- 1 dictionary, 2 tenant port, 3 module-internal -/
  kind : Nat := 1
  originRank : Nat := 0
  path : Nat := 0
  target : Nat := 0
  entries : List StageEntry := []
  state : CommitState := .proposed
  code : Nat := 0
  /-- proposed on this module -/
  own : Bool := true
  /-- the path it was proposed through, as `pathNo` numbers it -/
  pathNo : Nat := 0
  /-- ranks that have accepted -/
  accepted : List Nat := []
  /-- the members concerned: ranks in the vote at the proposal -/
  members : List Nat := []
  /-- KIND 2: ranks whose identical PROPOSE is held -/
  copies : List Nat := []
  appliedRanks : Nat := 0
  /-- a step of the time base by this offset, KIND 3 (R387) -/
  step : Option Int := Option.none
  /-- new time status bits, KIND 3 (R391) -/
  timeBits : Option Nat := Option.none
  /-- a freeze of this tenant for violations, KIND 3 (R216) -/
  freeze : Option Nat := Option.none
deriving DecidableEq, Repr

/-- An SDO transfer: its object and instance, the octets received or the snapshot still to be sent, the toggle bit expected, the size
indicated, and the channel and node it began on (R465, R466). -/
structure SdoXfer where
  up : Bool := false
  obj : Nat := 0
  sel : Nat := 0
  data : List Byte := []
  toggle : Bool := false
  size : Option Nat := Option.none
  chan : Nat := 0
  node : Nat := 0
deriving DecidableEq, Repr

/-- A value that arrives in parts (R472). -/
structure PartXfer where
  obj : Nat := 0
  sel : Nat := 0
  data : List Byte := []
deriving DecidableEq, Repr

/-- A DTP session: its key, the last SEQ served with the response to it, the requester, and the snapshot of its last READ (R469-R471). -/
structure Session where
  key : List Byte := []
  seq : Nat := 0
  cached : List Byte := []
  addr : Nat := 0
  udpPort : Nat := 0
  snap : Option (Nat × Nat × List Byte) := Option.none
deriving DecidableEq, Repr

/-- The dictionary's transfer state: stages and last codes by path, commits held, and the next COMMIT_ID sequence number. -/
structure DictSt where
  stages : Table (List StageEntry) := []
  /-- the abort code of the last access of each path, 0 when it was served -/
  lastAbort : Table Nat := []
  /-- the last COMMIT_ID each path proposed (0x1F00.04) -/
  lastCommit : Table Nat := []
  held : List Commit := []
  /-- offset and length of the fragments of a PROPOSE that have arrived, by COMMIT_ID (R458) -/
  frags : Table (List (Nat × Nat)) := []
  idSeq : Nat := 0
  idSeqDrawn : Bool := false
  sdo : Option SdoXfer := Option.none
  /-- unfinished values by path, and DTP sessions by number -/
  parts : Table PartXfer := []
  sessions : Table Session := []
deriving DecidableEq, Repr

/-! ## Cores and tenants (R186-R233) -/

/-- The privilege a hart runs at (R188). -/
inductive HartMode where
  | m | hs | u | vs | vu
deriving DecidableEq, Repr

/-- A cache: the numbers of its 64-octet lines, and whether each is dirty (R187). Coherence is kept, so a line's octets are the memory's. -/
abbrev Cache := List (Nat × Bool)

/-- An interrupt file of an IMSIC: 255 identities (R188). -/
structure ImsicFile where
  delivery : Nat := 0
  threshold : Nat := 0
  /-- bit i: identity i is pending, enabled -/
  eip : Nat := 0
  eie : Nat := 0
deriving DecidableEq, Repr

/-- A domain of the APLIC: its configuration, source and target words by source, pending and enabled sources (R188). -/
structure AplicDom where
  cfg : Nat := 0
  sources : Table Nat := []
  targets : Table Nat := []
  ip : Nat := 0
  ie : Nat := 0
deriving DecidableEq, Repr

/-- The IOMMU: the device-directory pointer, directory entries by device ID, commands queued, and faults recorded as device ID, cause and
address (R188, R207). -/
structure IommuSt where
  ddtp : Nat := 0
  dir : Table (List Nat) := []
  commands : List (List Nat) := []
  faults : List (Nat × Nat × Nat) := []
deriving DecidableEq, Repr

/-- A hart. `ctx` is its context in the layout of R203, 2 KiB, empty for all zeros. -/
structure HartSt where
  ctx : List Byte := []
  mode : HartMode := .m
  /-- control and status registers that the context does not hold, by number: mstatus, the trap registers of M and HS, PMP, counters, stimecmp
  (R188) -/
  csr : Table Nat := []
  /-- tdata1 to tdata3 of the four triggers, keyed 3 times the trigger plus 0 to 2 (R188) -/
  triggers : Table Nat := []
  /-- the IMSIC's M file, S file and second guest file; the first is in the context (R188, R203) -/
  mFile : ImsicFile := {}
  sFile : ImsicFile := {}
  gFile : ImsicFile := {}
  /-- the store buffer, oldest entry first: address and octets (R198) -/
  stores : List (Nat × List Byte) := []
  /-- the L1 instruction and data caches (R187) -/
  l1i : Cache := []
  l1d : Cache := []
  /-- what the branch predictors and the return-address stack hold, as one number each, 0 when cleared (R196, R197) -/
  predictor : Nat := 0
  returns : Nat := 0
  /-- hgatp, with the VMID in bits 57:44 (R201) -/
  hgatp : Nat := 0
  /-- the tenant in the window, 0 in background, with the window's tick, START and END (R201, R208) -/
  winTenant : Nat := 0
  winTick : Nat := 0
  winStart : Nat := 0
  winEnd : Nat := 0
  winIndex : Nat := 0
  /-- the background's mode and hgatp while a window runs -/
  bgMode : HartMode := .m
  bgHgatp : Nat := 0
  /-- local interrupt 20 waits for the background to resume (R206) -/
  irq20 : Bool := false
  /-- the octets of the last load, and whether the last store-conditional succeeded -/
  loaded : List Byte := []
  scOk : Bool := false
  /-- the remote load that stalls the hart until data or a fault comes: address and octets (R297) -/
  stalled : Option (Nat × Nat) := none
  /-- the address a load-reserved holds -/
  reserved : Option Nat := none
  /-- MRAM words (aligned 8-octet addresses) this hart has written that are not yet durable (R200) -/
  mramPend : List Nat := []
deriving DecidableEq, Repr

/-- A ring of descriptors (R208). -/
structure Ring where
  base : Nat := 0
  size : Nat := 0
  tail : Nat := 0
  head : Nat := 0
deriving DecidableEq, Repr

/-- The dictionary-port registers of a VF or of aperture 0 (R208, R463). -/
structure DpRegs where
  addr : Nat := 0
  instSel : Nat := 0
  tick : Nat := 0
  len : Nat := 0
  status : Nat := 0
  abort : Nat := 0
  data : List Byte := []
  offset : Nat := 0
  total : Nat := 0
  /-- the parts of a value written so far (R472) -/
  parts : List Byte := []
  partsFor : Nat := 0
deriving DecidableEq, Repr

/-- What the VF of a tenant holds that is no object; instance 0 is aperture 0. -/
structure TenantSt where
  irqLatch : Nat := 0
  resGen : Nat := 0
  tickShift : Nat := 0
  tickHi : Nat := 0
  mbIn : Nat := 0
  mbOut : Nat := 0
  tx : Ring := {}
  rx : Ring := {}
  /-- descriptors taken and not completed: address, and whether the frame passed R216 -/
  txTaken : List (Nat × Bool) := []
  tbits : Table Nat := []
  dp : DpRegs := {}
  /-- submissions since creation (R457), and the commit that carries the last one -/
  submits : Nat := 0
  dpCommit : Nat := 0
  frozenAt : Nat := 0
deriving DecidableEq, Repr

/-- A publication slot of a tenant (R211-R213): the commit being copied, the frames standing by tick, and the retransmission schedule. -/
structure PubSlot where
  busy : Bool := false
  result : Nat := 0
  copyLen : Nat := 0
  copyTick : Nat := 0
  standing : Table (List Byte) := []
  sq : Nat := 0
  frame : List Byte := []
  interval : Nat := 0
  due : Nat := 0
  commitTick : Nat := 0
deriving DecidableEq, Repr

/-- A supervisor's SC0 frame buffer (R214). -/
structure Sc0Buf where
  busy : Bool := false
  result : Nat := 0
  copyLen : Nat := 0
  copyTick : Nat := 0
  standing : Table (List Byte) := []
  /-- the frame last voted, and its tick -/
  frame : List Byte := []
  frameTick : Nat := 0
deriving DecidableEq, Repr

/-- The state of the cores and tenants. -/
structure TenSt where
  harts : Table HartSt := []
  tenants : Table TenantSt := []
  pubs : Table PubSlot := []
  sc0 : Table Sc0Buf := []
  /-- tenant SRAM being cleared: offset and size (R224) -/
  clearing : List (Nat × Nat) := []
  /-- where the image being read stands, and the image loaded (R227, R230) -/
  readPos : Nat := 0
  loadBuf : List Byte := []
  /-- the tenant or, for a chain state, 0x100 whose image is being read (R227) -/
  saving : Nat := 0
  /-- the L2 caches by cluster (R187), the APLIC's M and S domains and the IOMMU (R188) -/
  l2 : Table Cache := []
  aplicM : AplicDom := {}
  aplicS : AplicDom := {}
  iommu : IommuSt := {}
deriving DecidableEq, Repr

/-! ## The hold register (R250) and what resynchronisation carries (R268) -/

/-- A vector as the vote compares it (R248, R249): SETTINGS_DIGEST and the octets of the body. -/
structure VoteVec where
  digest : Nat := 0
  body : List Byte := []
deriving DecidableEq, Repr

/-- A logic-owned GOOSE slot as it is published: its 64 member bits and the stNum of their last change. -/
structure LogicPub where
  bits : Nat := 0
  stNum : Nat := 0
  sq : Nat := 0
  /-- the tick of the last change -/
  chg : Option Nat := none
  /-- rebuilt at the hold limit and not sent since (R263) -/
  fresh : Bool := false
deriving DecidableEq, Repr

/-- The hold register with the publisher and revert state (R250, R260): the last majority vector, logic-owned slots, consecutive ticks
each rank has been eligible, and the revert hold-off. -/
structure HoldSt where
  voted : VoteVec := {}
  /-- the voted output bits of 0x30000 to 0x33FFF and 0x38000 to 0x3FFFF -/
  bits : Table Nat := []
  slots : Table LogicPub := []
  runs : Table Nat := []
  holdoffOn : Bool := false
  holdoffLeft : Nat := 0
  /-- outputs stand at safe values since the hold limit (R263) -/
  safe : Bool := false
deriving DecidableEq, Repr

/-- What a donor transfers to a joiner (R268): objects of access RWT and RWS and the states of their blocks, banks, chain state,
hold register, tenants with their memory, and the commits pending (R459). -/
structure Chain where
  k : Nat := 0
  q : Nat := 0
  marks : List (Nat × Nat × Nat) := []
  objects : Table Val := []
  bankA : List Byte := []
  bankB : List Byte := []
  /-- the pending swap of the Last: k_s, the commit that carries it, and the bound-eligibility found for the inactive bank (R35, R40) -/
  swap : Nat × Nat × Nat × Nat := (0, 0, 0, 0xFFFF)
  ingest : IngestSt := {}
  filter : FilterSt := {}
  phasor : PhasorSt := {}
  element : ElementSt := {}
  logic : LogicSt := {}
  bits : Table Nat := []
  hold : HoldSt := {}
  tenants : Table TenantSt := []
  pubs : Table PubSlot := []
  sc0 : Table Sc0Buf := []
  clearing : List (Nat × Nat) := []
  mem : Memory := []
  commits : List Commit := []
  /-- KCV and invocation counter of every slot that a triad-wide object names (R490) -/
  kcv : Table Nat := []
  inv : Table Nat := []
deriving DecidableEq, Repr


end Sys2Proof.Machine
end

