-- ==== Sys2Proof/Syntax.lean ====
section
/-!
DEFINITION. The commands of the module, one constructor of `Instr` per row of spec/opcode_table.json, and the plain data their operands carry.
Frames and messages whose encodings belong to published standards come as their parsed fields (log entry 13).
-/
namespace Sys2Proof

/-- The path an access to the dictionary takes (R452): the supervisor's dictionary port, the SDO server, a DTP session,
or a tenant's dictionary port. -/
inductive Path where
  | supervisor
  | sdo
  | dtp (session : Nat)
  | tenant (t : Nat)
deriving DecidableEq, Repr

/-! ### Sampled-value frames (R43-R47, R64, R65) -/

/-- One ASDU as received: the fields of R45 that are present. `seqLen` is the length of seqData in octets and `seq` its values,
each a 32-bit value word and its quality word, as received. -/
structure Asdu where
  svID : Option (List Byte) := none
  smpCnt : Option Nat := none
  confRev : Option Nat := none
  smpSynch : Option Nat := none
  seqLen : Option Nat := none
  seq : List (Nat × Nat) := []
  gmIdentity : Option (List Byte) := none
  otherTag : Bool := false
deriving DecidableEq, Repr

/-- The encoding a frame for ingest carries (R43). -/
inductive SvEncoding where
  | layer2 | routed4 | routed6 | other
deriving DecidableEq, Repr

/-- The authentication a PDU carries (R64): none, AES-GMAC with a 128-bit or 64-bit tag, or anything the module refuses. -/
inductive SvAuth where
  | none | gmac128 | gmac64 | hmac | encrypted
deriving DecidableEq, Repr

/-- A sampled-value frame as it reaches port 792. `vlan` is the 802.1Q VLAN ID, none when untagged. The authenticated octets and
the tag stand beside the parsed fields; the standards' encodings are not part of the spec (log entry 13). -/
structure SvFrame where
  encoding : SvEncoding := .layer2
  fragment : Bool := false
  tunnelled : Bool := false
  dstMac : List Byte := []
  vlan : Option Nat := none
  appid : Nat := 0
  sim : Bool := false
  asdus : List Asdu := []
  srcAddr : List Byte := []
  udpPort : Nat := 0
  auth : SvAuth := .none
  keyId : Nat := 0
  spdu : Nat := 0
  iv : List Byte := []
  authData : List Byte := []
  tag : List Byte := []
  /-- the arrival stamp against the tick clock, in ns of the oscillator's slewed count (R53; log entry 87) -/
  stamp : Nat := 0
deriving DecidableEq, Repr

/-! ### Frames at a switch port (R308-R375) -/

/-- A frame at a switch port. The parsed form of a sampled-value frame stands beside its octets (log entry 13). -/
structure SwFrame where
  port : Nat := 0
  /-- octets from the destination address on, without the FCS -/
  bytes : List Byte := []
  /-- the time of reception, in ns of the oscillator's slewed count (R370; log entry 87) -/
  ts : Nat := 0
  sv : Option SvFrame := none
  /-- descriptor flags of a frame from a peer (R280) -/
  flags : Nat := 0
  /-- the class a tenant's transmit descriptor gives (R210) -/
  cls : Nat := 0
  /-- the bank arbiter has no cycles left for SC1 to SC7 (R312) -/
  saturated : Bool := false
deriving DecidableEq, Repr

/-! ### GOOSE frames (R178, R180) -/

/-- A member of a GOOSE dataset: a BOOLEAN, a BIT STRING of `width` bits whose first bit is bit 0 of `value`, or anything else. -/
inductive GooseMember where
  | boolean (b : Bool)
  | bitString (value width : Nat)
  | other
deriving DecidableEq, Repr

/-- A GOOSE frame in the fields that R178 and R180 read; `stNum` and `sqNum` order messages of one publisher. -/
structure GooseFrame where
  dstMac : List Byte := []
  appid : Nat := 0
  goCBRef : List Byte := []
  confRev : Nat := 0
  ndsCom : Bool := false
  test : Bool := false
  tal : Nat := 0
  stNum : Nat := 0
  sqNum : Nat := 0
  members : List GooseMember := []
  /-- the octets of the frame, which a copy to the peers carries (R244) -/
  bytes : List Byte := []
deriving DecidableEq, Repr

/-! ### Triad messages (R240, R241, R248) -/

/-- The header fields of a triad message (R240). -/
structure TriadHdr where
  rank : Nat := 0
  moduleId : Nat := 0
  mstate : Nat := 0
  tick : Nat := 0
  digest : Nat := 0
  status : Nat := 0
  laceView : Nat := 0
  voteView : Nat := 0
deriving DecidableEq, Repr

/-- AGREE: masks and digests of the enabled streams, and digests of the enabled stations, each in ascending order. -/
structure AgreeMsg where
  hdr : TriadHdr := {}
  masks : List Nat := []
  digests : List Nat := []
  stations : List Nat := []
  /-- the sender's station records, by which a module takes a record its peers agree on (R244) -/
  records : List Machine.StMsg := []
deriving DecidableEq, Repr

/-- VECTOR: the header and the octets of the body, OUTBITS and PUB (R248). -/
structure VectorMsg where
  hdr : TriadHdr := {}
  body : List Byte := []
deriving DecidableEq, Repr

/-! ### Welt (R278-R280, R288, R296) -/

/-- The header fields of a received flit that concern the link: link, SEQ, ACK and the credits returned (R278). Of a packet of several flits they are the
first flit's SEQ and the last flit's ACK and credits (log entry 75). -/
structure FlitHdr where
  l : Nat := 0
  seq : Nat := 0
  ack : Nat := 0
  cvc : Nat := 0
  ccnt : Nat := 0
deriving DecidableEq, Repr

/-- Why a flit is discarded: a bad CRC, an unexpected SEQ, a reserved type or the wrong VC (R279, R281). -/
inductive FlitFault where
  | crc | seq | type
deriving DecidableEq, Repr

/-- The routed packet types of R279. -/
inductive PktType where
  | frame | rdReq | wrReq | fence | rdRsp | rdErr | xtrig
deriving DecidableEq, Repr

/-- The TYPE code of a packet (R279). -/
def PktType.code : PktType → Nat
  | .frame => 4
  | .rdReq => 5
  | .wrReq => 6
  | .fence => 7
  | .rdRsp => 8
  | .rdErr => 9
  | .xtrig => 10

/-- Whether a type may use a virtual channel (R279). -/
def PktType.onVc : PktType → Nat → Bool
  | .frame, v => v == 0 || v == 1
  | .rdReq, v | .wrReq, v | .fence, v => v == 2
  | .rdRsp, v | .rdErr, v => v == 3
  | .xtrig, v => v == 0

/-- A packet in the fields of R278 and R280. `flags` is descriptor bytes 2-3 of a FRAME (bit 0 INGEST, 1 TRIAD, 2 STATION, 3 COMMIT). -/
structure Packet where
  ty : PktType := .frame
  vc : Nat := 1
  dst : Nat := 0
  src : Nat := 0
  hops : Nat := 15
  flags : Nat := 0
  cls : Nat := 0
  tagGen : Nat := 0
  len : Nat := 0
  offset : Nat := 0
  fenceId : Nat := 0
  status : Nat := 0
  tick : Nat := 0
  data : List Byte := []
deriving DecidableEq, Repr

/-- An operand and the time at which its command comes. -/
structure Timed (α : Type) where
  it : α
  now : Nat
deriving DecidableEq, Repr

/-- A packet that arrives, with the header fields of its flits (R278, R280). -/
structure WeltRx where
  h : FlitHdr := {}
  p : Packet := {}
deriving DecidableEq, Repr

/-- An AGREE message that arrives, with the station records whose digests it carries (R244; log entry 82). -/
structure AgreeRx where
  h : FlitHdr := {}
  p : Packet := {}
  records : List Machine.StMsg := []
deriving DecidableEq, Repr

/-- A HELLO flit's payload in its fields (R288). -/
structure Hello where
  moduleId : Nat := 0
  triadId : Nat := 0
  rank : Nat := 0
  mstate : Nat := 0
  link : Nat := 0
  lanes : Nat := 0
  rateMax : Nat := 0
  rateNow : Nat := 0
  credits : List Nat := []
  digest : Nat := 0
deriving DecidableEq, Repr

/-- A HELLO that arrives, with the sender's k and q (log entry 79). -/
structure HelloRx where
  hello : Hello := {}
  k : Nat := 0
  q : Nat := 0
deriving DecidableEq, Repr

/-- The octets of a frame and its service class. -/
structure ClassedFrame where
  bytes : List Byte := []
  cls : Nat := 0
deriving DecidableEq, Repr

/-- What is sampled as RESET_N rises: TRIAD_POS, and whether a TEST ball is not low (R234, R554). -/
structure Straps where
  pos : Nat := 0
  test : Bool := false
deriving DecidableEq, Repr

/-- What makes a link judge its transmit utilisation (R302): a window of 10 ms or of 1 ms ends, with the share in per cent, or a packet has waited more
than 20 µs at the head of a VC queue while holding a credit. -/
inductive UtilWindow where
  | tenMs (util : Nat)
  | oneMs (util : Nat)
  | waited
deriving DecidableEq, Repr

/-- A master of remote accesses (R293, R296). -/
inductive Master where
  | hart (j : Nat)
  | fetch
  | dma (c : Nat)
deriving DecidableEq, Repr


/-! ### Time (R380-R396) -/

/-- A PTP message in the fields that are used; the standard's encoding is not part of the spec (log entry 13). Times are in ns. -/
structure PtpMsg where
  port : Nat := 0
  domain : Nat := 0
  seq : Nat := 0
  /-- identity and port of the sender -/
  sender : Nat := 0
  senderPort : Nat := 0
  twoStep : Bool := false
  /-- originTimestamp, preciseOriginTimestamp -/
  origin : Nat := 0
  corr : Int := 0
  /-- ingress time, in the oscillator's slewed count -/
  ts : Nat := 0
  p1 : Nat := 128
  cls : Nat := 248
  acc : Nat := 0xFE
  var : Nat := 0xFFFF
  p2 : Nat := 128
  gmId : Nat := 0
  steps : Nat := 0
  utcOffset : Int := 0
  utcValid : Bool := false
  leap61 : Bool := false
  leap59 : Bool := false
deriving DecidableEq, Repr

/-- A decoded IRIG-B frame (R383): its time in seconds of the year, the year where the format carries it, and the control functions of
IEEE C37.118.1; `now` is the oscillator's slewed count at the on-time point. -/
structure IrigFrame where
  good : Bool := true
  secOfYear : Nat := 0
  year : Option Nat := none
  /-- the local offset of the control functions, in s -/
  localOffset : Int := 0
  leapPending : Bool := false
  leapDelete : Bool := false
  quality : Nat := 0
  now : Nat := 0
deriving DecidableEq, Repr

/-- The PTP messages that a timer sends. -/
inductive PtpKind where
  | announce | sync | followUp | pdelayReq | pdelayResp
deriving DecidableEq, Repr

/-! ### CAN frames (R424, R441) -/

/-- A CAN frame: identifier, flags, DLC and data of the length the DLC gives. -/
structure CanFrame where
  ident : Nat := 0
  ide : Bool := false
  rtr : Bool := false
  fdf : Bool := false
  brs : Bool := false
  esi : Bool := false
  dlc : Nat := 0
  data : List Byte := []
deriving DecidableEq, Repr


/-! ### What the module observes when a write is served -/

/-- The operations of an atomic memory instruction (R188). -/
inductive AmoOp where
  | swap | add | xor | and | or | min | max | minu | maxu
deriving DecidableEq, Repr

/-- What a core does at an address: a scalar load or store, an instruction fetch, an atomic operation, a load-reserved or store-conditional, or
one element of a vector load, unit-stride or not, or of a vector store (R188, R189, R191). -/
inductive CoreAccess where
  | load | store | fetch
  | amo (op : AmoOp)
  | lr | sc
  | vload (unit : Bool)
  | vstore
deriving DecidableEq, Repr

/-- What the effect of a write may depend on and the module's state does not hold: the oscillator's count since reset in ns, the operating time
since reset (in units of 1/4,096 s), whether a CAN bus is idle, whether the other voting modules hold an inactive image or bank of the same CRC
(R34), and whether the access comes from a hart in M mode (R486). -/
structure Env where
  now : Nat := 0
  opTime : Nat := 0
  idle : Bool := false
  same : Bool := false
  mMode : Bool := false
deriving DecidableEq, Repr


/-- The commands of the module: every row of the table of operations and events, in its order. -/
inductive Instr where
  /-- TICK_START (R12). At each tick start k and q advance, filing for k - D closes, stream and station records form and AGREE is sent to both peers. -/
  | tickStart
  /-- FIRST_TICK_START (R539). The tick starts by itself at the first second boundary after the time base has held time of day, with k derived from TAI seconds. -/
  | firstTickStart (taiS : Nat)
  /-- TICK_STOP (R42). A write of 0 to TICK_RUN releases any claim and stops phases I–P at the next tick start. -/
  | tickStop (path : Path)
  /-- TICK_RUN_START (R42). A write of 1 to TICK_RUN restarts the tick, and is refused if the active bank's RATE differs from TICK_RATE. -/
  | tickRunStart (path : Path) (now : Nat)
  /-- TICK_RATE_WRITE (R32). A write of a new TICK_RATE while stopped loads the built-in default Last into bank A and clears bank B's check result. -/
  | tickRateWrite (path : Path) (v : Nat)
  /-- INACTIVE_IMAGE_WRITE (R33). A write of a Last image to the inactive bank computes INACTIVE_CRC and invalidates any earlier check result. -/
  | inactiveImageWrite (path : Path) (image : List Byte)
  /-- LAST_CHECK (R33). A write of 1 to CHECK starts the check of the inactive Last image. -/
  | lastCheck (path : Path) (v : Nat)
  /-- LAST_CHECK_DONE (R33). The Last check completes and CHECK_RESULT reports PASS, errors and warnings. -/
  | lastCheckDone
  /-- LAST_SWAP_REQUEST (R34). A write of k_s to SWAP_TICK requests a triad-wide Last swap, or swaps at once while the tick is stopped. -/
  | lastSwapRequest (path : Path) (kS : Nat) (env : Env)
  /-- LAST_SWAP_CANCEL (R35). A write to SWAP_CANCEL cancels a pending swap before k_s - 16, and is refused otherwise. -/
  | lastSwapCancel (path : Path) (v : Nat)
  /-- LAST_STORE (R42). A write of 1 to STORE saves the active Last in configuration MRAM as the start-up Last. -/
  | lastStore (path : Path) (v : Nat)
  /-- FILTER_PHASE (R69). At the start of phase F the filter chain, the phasor engine, the loops and the sequence components process the agreed samples of the tick. -/
  | filterPhase
  /-- ELEMENT_PHASE (R129). At the start of phase E every slot in use is evaluated in two stages and its output bits are written. -/
  | elementPhase
  /-- LOGIC_PASS_L1 (R161). At the start of phase L1 each RUNNING engine runs pass L1 from SEC_L1 within its budget. -/
  | logicPassL1
  /-- LOGIC_PASS_L2 (R161). At the start of phase L2 each RUNNING engine runs pass L2 from SEC_L2 within its budget. -/
  | logicPassL2
  /-- WINDOW_ENTRY (R201). At a window START the context engine saves background context and resumes the tenant on the core. -/
  | windowEntry (w : Nat) (late : Bool)
  /-- WINDOW_EXIT (R202). At window END the context engine saves the tenant's context, optionally cleans caches, and restores background work. -/
  | windowExit (w : Nat)
  /-- PHASE_T_END (R217). At the end of phase T the module snapshots every tenant-written bit word. -/
  | phaseTEnd
  /-- VOTE_START (R248). At V start each module forms its output vector, sends VECTOR to both peers, and samples logic-bit Clicker triggers and TRIG outputs. -/
  | voteStart (now : Nat)
  /-- VOTE_DEADLINE (R249). At the vote deadline each MEMBER forms the majority from the vectors present. -/
  | voteDeadline (own : Bool)
  /-- V_END (R260). At V end the module fixes the majority, status bits, eligible set, preferred publisher, Lace drive and hold register, and judges applying commits. -/
  | vEnd
  /-- PUBLISH_START (R30). At P start, if the publish gate is open, the publisher hands the tick's publish entries to egress in table order. -/
  | publishStart (now : Nat)
  /-- GUARD_TIME_START (R41). At the guard time before P start, a port carrying publish entries stops starting SC1–SC7 frames. -/
  | guardTimeStart (p : Nat)
  /-- INGEST_FRAME_ARRIVAL (R53). A sampled-value frame reaches port 792, is stamped, checked, and each ASDU is filed, or discarded as late, early or duplicate. -/
  | ingestFrameArrival (f : SvFrame) (port : Nat) (overload : Bool)
  /-- STREAM_RUNNING (R60). After three consecutive present ticks a WAITING or LOST stream becomes RUNNING. -/
  | streamRunning (strm : Nat)
  /-- STREAM_LOST (R60). After LOSS_TICKS consecutive absent ticks a RUNNING stream becomes LOST. -/
  | streamLost (strm : Nat)
  /-- SUBST_HOLD_EXPIRY (R59). A HOLD channel's held value ages past HOLD_LIMIT filing ticks and 0 is delivered instead. -/
  | substHoldExpiry (c : Nat)
  /-- PROFILE_TAPS_WRITE (R88). A write of INACTIVE_TAPS sets N of the inactive bank, recomputes its CRC and invalidates its check. -/
  | profileTapsWrite (path : Path) (p n : Nat)
  /-- PROFILE_COEFFS_WRITE (R88). A write of INACTIVE_COEFFS loads the inactive bank's coefficients, recomputes its CRC and invalidates its check. -/
  | profileCoeffsWrite (path : Path) (p : Nat) (words : List Byte)
  /-- PROFILE_CHECK (R89). A write of 1 to a profile's CHECK starts the check of its inactive bank. -/
  | profileCheck (path : Path) (p v : Nat)
  /-- PROFILE_CHECK_DONE (R89). The bank check completes, reporting its result and computing the gain table. -/
  | profileCheckDone (p : Nat)
  /-- PROFILE_SWAP_REQUEST (R90). A write of k_s to a profile's SWAP_TICK requests a triad-wide bank swap. -/
  | profileSwapRequest (path : Path) (p kS : Nat) (env : Env)
  /-- PROFILE_SWAP_CANCEL (R90). A write to a profile's SWAP_CANCEL cancels a pending swap before k_s - 16. -/
  | profileSwapCancel (path : Path) (p v : Nat)
  /-- PROFILE_SWAP_NOW (R92). A write to SWAP_NOW while the tick is stopped exchanges the banks at once on this module. -/
  | profileSwapNow (path : Path) (p v : Nat)
  /-- PROFILE_STORE (R97). A write of 1 to a profile's STORE saves its active bank in configuration MRAM. -/
  | profileStore (path : Path) (p v : Nat)
  /-- GROUP_LOCKED (R111). After 48 consecutive present ticks with small error an ACQUIRE group becomes LOCKED. -/
  | groupLocked (v : Nat)
  /-- LOCK_LOST (R111). After 8 present ticks with error above 1/8 turn a LOCKED group returns to ACQUIRE. -/
  | lockLost (v : Nat)
  /-- SIGNAL_LOST_HOLD (R111). After LOS_TICKS consecutive absent ticks the group enters HOLD with its frequency held. -/
  | signalLostHold (v : Nat)
  /-- HOLD_REACQUIRE (R111). After three consecutive present ticks a HOLD group returns to ACQUIRE. -/
  | holdReacquire (v : Nat)
  /-- FALLBACK_ENTERED (R111). After HOLD_LIMIT ticks in HOLD the group enters FALLBACK. -/
  | fallbackEntered (v : Nat)
  /-- FALLBACK_REACQUIRE (R111). After three consecutive present ticks a FALLBACK group returns to ACQUIRE. -/
  | fallbackReacquire (v : Nat)
  /-- FREQ_LIMIT_RUN (R110). In the 48th consecutive tick in which the range limit acts, event 0x0734 is raised. -/
  | freqLimitRun (v : Nat)
  /-- ROCOF_VALID (R113). After Wr + 1 LOCKED ticks ROCOF becomes valid and its status bit sets. -/
  | rocofValid (v : Nat)
  /-- OP_DELAY_EXPIRY (R129). A slot's run of PU exceeds OP_DELAY ticks and OP sets. -/
  | opDelayExpiry (e : Nat)
  /-- DROP_DELAY_EXPIRY (R129). DROP_DELAY ticks after op_raw falls, OP clears. -/
  | dropDelayExpiry (e : Nat)
  /-- TIMER_OPERATE (R147). A TIMER slot's accumulator or running count reaches its operate point and op_raw sets. -/
  | timerOperate (e : Nat)
  /-- TIMER_DEFINITE_RESET_EXPIRY (R148). Under definite reset, the held accumulator and count clear after round(SET4 × R) ticks not running. -/
  | timerDefiniteResetExpiry (e : Nat)
  /-- LD (R164). A := bit. -/
  | lgLd (g a : Nat)
  /-- LDN (R164). A := NOT bit. -/
  | lgLdn (g a : Nat)
  /-- AND (R164). A := A AND bit. -/
  | lgAnd (g a : Nat)
  /-- ANDN (R164). A := A AND NOT bit. -/
  | lgAndn (g a : Nat)
  /-- OR (R164). A := A OR bit. -/
  | lgOr (g a : Nat)
  /-- ORN (R164). A := A OR NOT bit. -/
  | lgOrn (g a : Nat)
  /-- XOR (R164). A := A XOR bit. -/
  | lgXor (g a : Nat)
  /-- XORN (R164). A := A XOR NOT bit. -/
  | lgXorn (g a : Nat)
  /-- ST (R164). bit := A. -/
  | lgSt (g a : Nat)
  /-- STN (R164). bit := NOT A. -/
  | lgStn (g a : Nat)
  /-- SET (R164). If A = 1 the bit is set. -/
  | lgSet (g a : Nat)
  /-- RST (R164). If A = 1 the bit is cleared. -/
  | lgRst (g a : Nat)
  /-- JMP (R164). Jump within the section. -/
  | lgJmp (g i : Nat)
  /-- JMPC (R164). Jump if A = 1. -/
  | lgJmpc (g i : Nat)
  /-- JMPN (R164). Jump if A = 0. -/
  | lgJmpn (g i : Nat)
  /-- ANDB (R164). Push (A, AND) on the branch stack and set A to 1. -/
  | lgAndb (g : Nat)
  /-- ORB (R164). Push (A, OR) on the branch stack and set A to 0. -/
  | lgOrb (g : Nat)
  /-- BCL (R164). Pop (S, op) and set A := S op A. -/
  | lgBcl (g : Nat)
  /-- NOT (R164). A := NOT A. -/
  | lgNot (g : Nat)
  /-- CALL (R164). Push the return index and continue at the start of section S. -/
  | lgCall (g sect : Nat)
  /-- RET (R164). Pop the call stack and continue there. -/
  | lgRet (g : Nat)
  /-- REDGE (R164). Rising-edge memory: A takes A AND NOT bit, and bit takes the old A. -/
  | lgRedge (g a : Nat)
  /-- FEDGE (R164). Falling-edge memory: A takes NOT A AND bit, and bit takes the old A. -/
  | lgFedge (g a : Nat)
  /-- TON (R165). On-delay timer step measured in ticks; A := Q. -/
  | lgTon (g t : Nat)
  /-- TOF (R165). Off-delay timer step measured in ticks; A := Q. -/
  | lgTof (g t : Nat)
  /-- TP (R165). Pulse timer step measured in ticks; A := Q. -/
  | lgTp (g t : Nat)
  /-- LDTQ (R164). A := Q of the timer as left by its last execution. -/
  | lgLdtq (g t : Nat)
  /-- CTU (R166). Count up on a rising edge of A, saturating; A := CV ≥ PV. -/
  | lgCtu (g c : Nat)
  /-- CTD (R166). Count down on a rising edge of A, saturating; A := CV ≤ 0. -/
  | lgCtd (g c : Nat)
  /-- CRST (R164). If A = 1 the counter's CV is cleared. -/
  | lgCrst (g c : Nat)
  /-- LDCQ (R164). A := CV ≥ PV. -/
  | lgLdcq (g c : Nat)
  /-- LDW (R164). W := register. -/
  | lgLdw (g r : Nat)
  /-- LDK (R164). W := constant-pool word. -/
  | lgLdk (g c : Nat)
  /-- LDI (R164). W := sign-extended immediate. -/
  | lgLdi (g i : Nat)
  /-- STW (R164). register := W. -/
  | lgStw (g r : Nat)
  /-- MOV (R164). destination register := source register. -/
  | lgMov (g src dst : Nat)
  /-- LDTV (R164). W := the timer's elapsed ticks, capped at PT. -/
  | lgLdtv (g t : Nat)
  /-- LDCV (R164). W := CV. -/
  | lgLdcv (g c : Nat)
  /-- CEQ (R164). A := W = register. -/
  | lgCeq (g r : Nat)
  /-- CNE (R164). A := W ≠ register. -/
  | lgCne (g r : Nat)
  /-- CGT (R164). A := W > register. -/
  | lgCgt (g r : Nat)
  /-- CGE (R164). A := W ≥ register. -/
  | lgCge (g r : Nat)
  /-- CLT (R164). A := W < register. -/
  | lgClt (g r : Nat)
  /-- CLE (R164). A := W ≤ register. -/
  | lgCle (g r : Nat)
  /-- END (R159). End the pass and commit its writes. -/
  | lgEnd (g : Nat)
  /-- PASS_OVERRUN (R172). The pass's budget count is exhausted before END, so the engine faults and its owned bits take safe values. -/
  | passOverrun (g : Nat)
  /-- LOGIC_IMAGE_WRITE (R171). A write of an engine image takes a STOPPED or FAULTED engine to UNLOADED and invalidates the check. -/
  | logicImageWrite (path : Path) (g : Nat) (image : List Byte)
  /-- LOGIC_CHECK (R170). A write of 1 to CHECK starts the logic image check. -/
  | logicCheck (path : Path) (g v : Nat)
  /-- LOGIC_CHECK_DONE (R170). The image check completes, and on PASS the engine moves to STOPPED and takes ownership. -/
  | logicCheckDone (g : Nat)
  /-- ENGINE_START_REQUEST (R173). A write of START_TICK proposes an engine start, with a FAULTED engine restartable only by the supervisor. -/
  | engineStartRequest (path : Path) (g kS : Nat) (env : Env)
  /-- ENGINE_STOP_REQUEST (R171). A write of STOP_TICK proposes an engine stop. -/
  | engineStopRequest (path : Path) (g kT : Nat) (env : Env)
  /-- LOGIC_STORE (R184). A write of 1 to STORE saves the checked image in configuration MRAM. -/
  | logicStore (path : Path) (g v : Nat)
  /-- ENGINE_AUTOSTART (R175). An AUTOSTART engine starts by itself at the tick at which the module first takes part in the vote. -/
  | engineAutostart (g : Nat)
  /-- GOOSE_STATION_RX (R180). A GOOSE frame matching an enabled station is judged valid or invalid and feeds the station record. -/
  | gooseStationRx (f : GooseFrame) (origin : Option Nat)
  /-- STATION_DROPOUT (R181). A PRESENT station with no valid message for more than L ticks, or an invalid one, becomes DROPPED. -/
  | stationDropout (r : Nat)
  /-- CORE_MEMORY_ACCESS (R191). A core load or store is checked against the memory map, alignment and tenant range, completing or faulting. -/
  | coreMemoryAccess (hart : Nat) (acc : CoreAccess) (a n : Nat) (bytes : List Byte) (env : Env)
  /-- FROZEN_GUEST_RETURN (R206). An SRET or MRET into a frozen tenant's VMID raises an illegal-instruction exception.
  `tval`: the core gives the word as the trap value, and 0 otherwise. -/
  | frozenGuestReturn (hart word : Nat) (tval : Bool)
  /-- MRAM_SYNC_READ (R200). A load of MRAM_SYNC stalls until every earlier MRAM write of the hart is durable, then returns 1. -/
  | mramSyncRead (hart : Nat)
  /-- PUB_COMMIT (R211). A 64-bit write of PUB_COMMIT commits a tenant frame to a publication slot, checking the token and spoof rules. -/
  | pubCommit (t u data : Nat)
  /-- PUB_COPY_DONE (R211). The module finishes copying the committed frame and clears BUSY. -/
  | pubCopyDone (t u : Nat)
  /-- PUB_RETRANSMIT (R213). A slot's retransmission interval expires and the frame is sent again with sqNum raised. -/
  | pubRetransmit (i now : Nat)
  /-- SC0_COMMIT (R214). A 64-bit write of SC0_COMMIT commits a supervisor frame for tick k_b, or refuses it. -/
  | sc0Commit (b data : Nat)
  /-- SC0_COPY_DONE (R214). The module finishes copying the SC0 frame and clears BUSY. -/
  | sc0CopyDone (b : Nat)
  /-- TX_TAIL_WRITE (R209). A write of TXQ_TAIL hands descriptors to the module, which takes and checks their frames. -/
  | txTailWrite (t : Nat) (tail : Timed Nat)
  /-- TX_DESCRIPTOR_DONE (R209). The module completes a transmit descriptor, clearing OWN and setting DONE or ERR. -/
  | txDescriptorDone (t : Nat)
  /-- RX_FRAME_DELIVERY (R209). A frame forwarded to a tenant port is written into the tenant's receive ring with its timestamp. -/
  | rxFrameDelivery (t : Nat) (frame : ClassedFrame) (ts : Nat)
  /-- TENANT_DP_SUBMIT (R218). A write of 1 to DP_CTRL submits a tenant dictionary-port write as a KIND 2 commit. -/
  | tenantDpSubmit (t : Nat)
  /-- MB_OUT_POST (R220). The tenant posts an outbound mailbox slot, which is stamped and signalled to the supervisor. -/
  | mbOutPost (t slot gen : Nat)
  /-- MB_IN_RELEASE (R220). The tenant frees an inbound mailbox slot. -/
  | mbInRelease (t slot gen : Nat)
  /-- MB_POST (R220). The supervisor posts an inbound tenant mailbox slot, naming a generation. -/
  | mbPost (t slot gen : Nat)
  /-- MB_RELEASE (R220). The supervisor frees an outbound tenant mailbox slot, naming a generation. -/
  | mbRelease (t slot gen : Nat)
  /-- VF_IRQ_LATCH_CLEAR (R208). A write of 1s to VF_IRQ_LATCH clears the latched identities. -/
  | vfIrqLatchClear (t mask : Nat)
  /-- VIOL_CLEAR (R216). A write of 1 to VIOL_CLEAR clears VIOL_COUNT. -/
  | violClear (path : Path) (t v : Nat)
  /-- CREATE_TICK_WRITE (R205). A write of CREATE_TICK proposes tenant creation as a triad-wide commit. -/
  | createTickWrite (path : Path) (t k : Nat) (env : Env)
  /-- DESTROY_TICK_WRITE (R205). A write of DESTROY_TICK proposes tenant destruction. -/
  | destroyTickWrite (path : Path) (t k : Nat) (env : Env)
  /-- FREEZE_TICK_WRITE (R205). A write of FREEZE_TICK proposes a tenant freeze. -/
  | freezeTickWrite (path : Path) (t k : Nat) (env : Env)
  /-- UNFREEZE_TICK_WRITE (R205). A write of UNFREEZE_TICK proposes a tenant unfreeze. -/
  | unfreezeTickWrite (path : Path) (t k : Nat) (env : Env)
  /-- RESOURCE_COMMIT_TICK_WRITE (R222). A write of the allotment COMMIT_TICK closes the staged allotment into a commit. -/
  | resourceCommitTickWrite (path : Path) (t k : Nat) (env : Env)
  /-- RESTORE_TICK_WRITE (R230). A write of RESTORE_TICK proposes restoring a written tenant image. -/
  | restoreTickWrite (path : Path) (k : Nat) (env : Env)
  /-- SRAM_CLEAR_DONE (R224). Background clearing of removed tenant SRAM completes and the memory becomes allottable. -/
  | sramClearDone
  /-- IMAGE_SAVE (R227). A write of 1 to SAVE begins serialising the state image of a tenant frozen with kind ALL. -/
  | imageSave (path : Path) (v : Nat)
  /-- IMAGE_SEGMENT_READ (R227). A read of IMAGE returns the next segment of the state image being serialised. -/
  | imageSegmentRead (path : Path) (n : Nat)
  /-- IMAGE_SEGMENT_WRITE (R230). A write of an IMAGE segment loads a restore image and, on the final segment, checks it. -/
  | imageSegmentWrite (path : Path) (offset : Nat) (bytes : List Byte) (last : Bool)
  /-- AGREE_RX (R240). A peer's AGREE message arrives and is accepted or judged absent. -/
  | agreeRx (x : AgreeRx)
  /-- AGREE_DEADLINE (R246). At the peer AGREE deadline each stream and station is agreed or not, and fetches are issued. -/
  | agreeDeadline
  /-- FETCH_DEADLINE (R243). At the fetch deadline unfinished fetches leave samples MISSING, and agreed values, flags and substitutes are finalised. -/
  | fetchDeadline
  /-- VECTOR_RX (R240). A peer's VECTOR message arrives for the vote. -/
  | vectorRx (x : WeltRx)
  /-- DEMOTION (R251). A member's minority run, absence count or detected error reaches its limit and it is demoted and excluded. -/
  | demotion (r : Nat)
  /-- HOLD_LIMIT_REACHED (R263). HELD_TICKS reaches HOLD_LIMIT and the LAST_PUB holder turns outputs to safe values. -/
  | holdLimitReached
  /-- REVERT_DELAY_ELAPSED (R265). Rank 1 has been eligible for REVERT_DELAY ticks, so the publisher releases and the hold-off starts. -/
  | revertDelayElapsed
  /-- REVERT_HOLDOFF_END (R265). The revert hold-off ends and the lowest eligible rank becomes publisher. -/
  | revertHoldoffEnd
  /-- LACE_CLAIM_DECODED (R257). A sense line decodes CLAIM, which opens the gate or triggers contention handling. -/
  | laceClaimDecoded (r : Nat)
  /-- LACE_ALIVE_DECODED (R257). A sense line decodes ALIVE. -/
  | laceAliveDecoded (r : Nat)
  /-- LACE_PATTERN_LOST (R257). A line leaves CLAIM or ALIVE on a bad half-period or missing edge, and becomes UNQUALIFIED. -/
  | lacePatternLost (r : Nat)
  /-- LACE_DEAD_TIMEOUT (R257). After 20 µs without CLAIM or ALIVE the line decodes DEAD. -/
  | laceDeadTimeout (r : Nat)
  /-- LACE_LOOPBACK_FAULT (R258). The own line mismatches the drive for 40 µs, setting LACE_FAULT and closing the gate. -/
  | laceLoopbackFault
  /-- LACE_VIEW_FAULT (R258). For 8 ticks the decoded line state differs from both peers' view, setting LACE_FAULT. -/
  | laceViewFault (r : Nat)
  /-- LACE_FAULT_CLEAR (R258). After 4,800 fault-free ticks LACE_FAULT clears. -/
  | laceFaultClear
  /-- LACE_GENERATOR_TIMEOUT (R256). A pattern generator not re-armed for two tick periods goes OFF. -/
  | laceGeneratorTimeout
  /-- FOREIGN_CLAIM_ALARM (R266). A line shows CLAIM for 8 ticks while its module is not P, and event 0x030D is raised. -/
  | foreignClaimAlarm (r : Nat)
  /-- FORM_WAIT_EXPIRY (R238). After FORM_WAIT ticks without a MEMBER, with a matching peer in SEEK, triad formation is announced. -/
  | formWaitExpiry (r kForm k q : Nat)
  /-- FORMATION_TICK (R239). At k_form both forming modules become MEMBERs with state as after a tick stop. -/
  | formationTick
  /-- RESYNC_TIMEOUT (R238). RESYNC fails on donor loss, transfer error or 2 s, and the module returns to SEEK or OUT. -/
  | resyncTimeout (cause : Nat)
  /-- SHADOW_COMPLETE (R238). After 48 shadow ticks matching the majority, the module becomes a MEMBER. -/
  | shadowComplete
  /-- REJOIN_WRITE (R273). A write of 1 to REJOIN takes an OUT or CONFLICT module to SEEK. -/
  | rejoinWrite (path : Path) (v : Nat)
  /-- WELT_LANES_WRITE (R289). A write of LANES takes the link to OFF, then to TRAIN. -/
  | weltLanesWrite (path : Path) (l v : Nat)
  /-- LANE_TRAIN_LOCK (R289). Every lane of a training link achieves block lock and deskew, and HELLO is sent. -/
  | laneTrainLock (l : Nat)
  /-- LANE_TRAIN_TIMEOUT (R289). Training fails to lock within 10 ms and restarts. -/
  | laneTrainTimeout (l : Nat)
  /-- WELT_HELLO_RX (R289). A HELLO flit arrives and the link goes ACTIVE or to FAULT, with peer fields updated. -/
  | weltHelloRx (h : FlitHdr) (x : HelloRx)
  /-- WELT_HELLO_SEND (R288). The HELLO interval expires and a HELLO is sent. -/
  | weltHelloSend (l : Nat)
  /-- WELT_HELLO_TIMEOUT (R289). No HELLO arrives for 3 ms, and the link goes DOWN. -/
  | weltHelloTimeout (l : Nat)
  /-- WELT_LOCK_LOSS (R289). A lane loses lock for 1 µs, and the link goes DOWN with its buffers discarded. -/
  | weltLockLoss (l : Nat)
  /-- WELT_DOWN_RETRAIN (R289). 10 µs after DOWN the link returns to TRAIN. -/
  | weltDownRetrain (l : Nat)
  /-- WELT_IDLE_RX (R283). An IDLE flit arrives, carrying ACK and credits. -/
  | weltIdleRx (h : FlitHdr)
  /-- WELT_FLIT_DISCARD (R281). A flit with a bad CRC, unexpected SEQ or reserved type is discarded, and a NAK is sent on the first discard. -/
  | weltFlitDiscard (l : Nat) (cause : FlitFault)
  /-- WELT_NAK_RX (R281). A NAK arrives and the transmitter replays from ACK + 1. -/
  | weltNakRx (h : FlitHdr)
  /-- WELT_NAK_REPEAT (R281). The receiver is still waiting for a SEQ after 2 µs, so it repeats its NAK. -/
  | weltNakRepeat (l : Nat)
  /-- WELT_REPLAY_TIMEOUT (R281). A flit stays unacknowledged for 4 µs and is replayed, and the 16th replay takes the link DOWN. -/
  | weltReplayTimeout (l : Nat)
  /-- WELT_FRAME_RX (R280). A W1 FRAME packet arrives and is delivered to the switch or ingest, or forwarded. -/
  | weltFrameRx (h : FlitHdr) (p : Packet) (sv : Option SvFrame) (goose : Option GooseFrame) (ts : Nat)
  /-- PACKET_AGE_EXPIRY (R286). A packet waits more than 250 µs in the module and is discarded. -/
  | packetAgeExpiry (l i : Nat)
  /-- WELT_RD_REQ_RX (R294). An RD_REQ arrives and is checked against grants, and a response or RD_ERR is returned. -/
  | weltRdReqRx (h : FlitHdr) (p : Packet)
  /-- WELT_WR_REQ_RX (R294). A posted WR_REQ arrives and is written if granted, or discarded. -/
  | weltWrReqRx (h : FlitHdr) (p : Packet) (env : Env)
  /-- WELT_FENCE_RX (R299). A FENCE arrives and FENCE_ID is recorded once earlier W2 packets are delivered. -/
  | weltFenceRx (h : FlitHdr) (p : Packet) (c : Option Machine.Chain)
  /-- WELT_RD_RSP_RX (R296). A read response arrives and is stored for its WAITING tag, or discarded as stale. -/
  | weltRdRspRx (h : FlitHdr) (p : Packet)
  /-- WELT_RD_ERR_RX (R296). A read error arrives and its STATUS is stored for the tag. -/
  | weltRdErrRx (h : FlitHdr) (p : Packet)
  /-- WELT_XTRIG_RX (R410). An XTRIG flit arrives, is delivered to matching Clicker terms and is forwarded if broadcast. -/
  | weltXtrigRx (h : FlitHdr) (p : Packet) (now : Nat)
  /-- REMOTE_READ (R296). A master issues a remote read, which is logged and queued as RD_REQ or answered RETRY. -/
  | remoteRead (w : Master) (a n : Nat)
  /-- REMOTE_READ_REISSUE (R297). The master reissues its read and collects data or a fault, or RETRY again. -/
  | remoteReadReissue (w : Master) (a n : Nat)
  /-- REMOTE_WRITE (R299). A hart or DMA remote store is accepted into the W2 queue of its route. -/
  | remoteWrite (w : Master) (a : Nat) (bytes : List Byte) (fence : Option Nat)
  /-- RESP_TIMEOUT_EXPIRY (R296). A WAITING tag reaches RESP_TIMEOUT and is HELD with STATUS 4. -/
  | respTimeoutExpiry (t : Nat)
  /-- HOLD_TIME_EXPIRY (R296). A HELD entry is not collected within 50 µs and is discarded. -/
  | holdTimeExpiry (t : Nat)
  /-- QUARANTINE_EXPIRY (R296). A quarantined tag returns to FREE after 8 ms. -/
  | quarantineExpiry (t : Nat)
  /-- RATE_PROPOSAL (R302). A utilisation window meets the step condition, and a REQ is sent. -/
  | rateProposal (l : Nat) (w : UtilWindow) (now : Nat)
  /-- RATE_REQ_RX (R303). A RATE REQ arrives and is answered ACK or NAK, resolving collisions. -/
  | rateReqRx (h : FlitHdr) (code nonce util : Nat)
  /-- RATE_ACK_RX (R304). A RATE ACK with the proposal's NONCE arrives, and the link enters QUIESCE. -/
  | rateAckRx (h : FlitHdr) (nonce : Nat)
  /-- RATE_NAK_RX (R304). A RATE NAK arrives, the proposal ends and back-off starts. -/
  | rateNakRx (h : Timed FlitHdr)
  /-- RATE_MARK_RX (R304). A MARK arrives, and once the own MARK is sent the lanes retrain at the new code. -/
  | rateMarkRx (h : FlitHdr)
  /-- RATE_PROPOSAL_TIMEOUT (R304). A proposal has no answer in 50 µs and returns to ACTIVE. -/
  | rateProposalTimeout (l : Timed Nat)
  /-- QUIESCE_DRAINED (R304). The own replay buffer empties in QUIESCE and MARK is sent. -/
  | quiesceDrained (l : Nat)
  /-- RETRAIN_LOCK (R304). The lanes lock at the new code, and HELLO exchange updates RATE_NOW. -/
  | retrainLock (l : Nat)
  /-- RETRAIN_TIMEOUT (R304). No lock within 100 µs, so the link returns to the old code. -/
  | retrainTimeout (l : Timed Nat)
  /-- RETRAIN_FALLBACK_TIMEOUT (R304). No lock at the old code within 1 ms, so the link goes DOWN. -/
  | retrainFallbackTimeout (l : Nat)
  /-- SWITCH_CLASSIFY (R313). Once 64 bytes have arrived the frame is classified, forwarded, metered, admitted, copied and possibly cut through. -/
  | switchClassify (f : SwFrame)
  /-- EGRESS_SCHEDULE (R319). An egress port becomes free and the scheduler starts the next copy by precedence, priority and DWRR. -/
  | egressSchedule (p now : Nat) (ecc : Option (Nat × Nat × Bool))
  /-- QUEUE_PROMOTION (R320). A head copy waits past AGE_THRESH and moves to the next higher class queue. -/
  | queuePromotion (p c now : Nat)
  /-- MAC_SWEEP (R336). The sweeper's interval starts a pass that clears HIT or ages out learned entries. -/
  | macSweep
  /-- MAC_FLUSH_PORT (R337). A write of p to FLUSH_PORT removes the learned entries of port p. -/
  | macFlushPort (path : Path) (p : Nat)
  /-- MAC_INSERT (R338). OP 1 inserts or replaces a static MAC entry. -/
  | macInsert (path : Path)
  /-- MAC_DELETE (R338). OP 2 deletes a MAC entry. -/
  | macDelete (path : Path)
  /-- MAC_LOOKUP (R338). OP 3 copies a MAC entry into DEST and FLAGS. -/
  | macLookup (path : Path)
  /-- MAC_DUMP_START (R338). OP 4 starts a dump of the MAC table. -/
  | macDumpStart (path : Path)
  /-- MAC_DUMP_NEXT (R338). A read of DUMP_NEXT returns the next entry of the dump. -/
  | macDumpNext (path : Path)
  /-- ROUTE_INSERT (R341). OP 1 inserts or replaces a route, setting filter bits first. -/
  | routeInsert (path : Path)
  /-- ROUTE_DELETE (R341). OP 2 deletes a route, then clears its filter bits. -/
  | routeDelete (path : Path)
  /-- ROUTE_LOOKUP_OP (R341). OP 3 looks up a route. -/
  | routeLookupOp (path : Path)
  /-- LANE_MODE_WRITE (R348). A write of a lane MODE disables its ports with flush, and retrains the lane. -/
  | laneModeWrite (path : Path) (l v : Nat)
  /-- LANE_POLARITY_WRITE (R348). A write of POLARITY inverts pairs and retrains the lane. -/
  | lanePolarityWrite (path : Path) (l v : Nat)
  /-- PORT_ENABLE_WRITE (R350). A write of a port's ENABLE takes it to DOWN or DISABLED. -/
  | portEnableWrite (path : Path) (p v : Nat)
  /-- PORT_DORMANT_WRITE (R350). A write of DORMANT takes an UP port to DORMANT or wakes it. -/
  | portDormantWrite (path : Path) (p v : Nat)
  /-- PORT_LINK_UP (R350). The link condition holds for LINK_UP_TIME and the port goes UP. -/
  | portLinkUp (p : Nat) (bad : Option Nat)
  /-- PORT_LINK_LOSS (R350). The link condition is lost for 10 µs, so the port goes DOWN and its queues are flushed. -/
  | portLinkLoss (p cause : Nat)
  /-- LANE_CDR_LOSS (R369). A lane loses CDR lock and retrains. -/
  | laneCdrLoss (l : Nat)
  /-- FRAME_RECEIVED (R352). A front-port frame ends and is judged on length and FCS, with tags, HSR and PRP handled. -/
  | frameReceived (f : SwFrame) (fcs : Bool)
  /-- PAUSE_FRAME_RX (R355). A received pause frame stops SC1–SC7 starts for its quanta, or is ignored. -/
  | pauseFrameRx (p quanta : Nat)
  /-- PAUSE_EXPIRY (R355). A received pause time expires and SC1–SC7 frames may start again. -/
  | pauseExpiry (p : Nat)
  /-- PAUSE_XOFF_REPEAT (R354). Half of PAUSE_QUANTA elapses with occupancy still high and XOFF is sent again. -/
  | pauseXoffRepeat (p : Nat)
  /-- DUP_ENTRY_FORGET (R360). A duplicate-table entry is forgotten after FORGET_TIME. -/
  | dupEntryForget (i : Nat)
  /-- LANE_GROUP_GATE (R368). A lane group idle for GATE_DELAY is gated. -/
  | laneGroupGate (j : Nat)
  /-- EYE_MONITOR (R369). The 10 ms eye report updates and warns below EYE_WARN. -/
  | eyeMonitor (l height width : Nat)
  /-- PTP_SYNC_RX (R381). A PTP Sync arrives for an instance port or a transparent-clock port. -/
  | ptpSyncRx (x : PtpMsg)
  /-- PTP_FOLLOW_UP_RX (R393). A PTP Follow_Up arrives. -/
  | ptpFollowUpRx (x : PtpMsg)
  /-- PTP_ANNOUNCE_RX (R393). A PTP Announce arrives and feeds the BMCA. -/
  | ptpAnnounceRx (x : PtpMsg)
  /-- PTP_PDELAY_REQ_RX (R396). A peer-delay request arrives and is answered. -/
  | ptpPdelayReqRx (x : PtpMsg)
  /-- PTP_PDELAY_RESP_RX (R396). A peer-delay response arrives and the peer delay is measured. -/
  | ptpPdelayRespRx (p t1 t2 t3 t4 : Nat) (corr : Int)
  /-- PTP_MANAGEMENT_RX (R393). A PTP management message is passed to port 864. -/
  | ptpManagementRx (f : SwFrame)
  /-- PTP_MESSAGE_SEND (R394). A master or peer-delay interval expires and the PTP message is sent. -/
  | ptpMessageSend (p : Nat) (kind : PtpKind) (now : Nat)
  /-- PTP_ANNOUNCE_TIMEOUT (R381). The announce receipt timeout expires and the PTP source is lost. -/
  | ptpAnnounceTimeout (p : Nat)
  /-- PTP_SYNC_MISSED (R381). Three Sync intervals pass without Sync and the PTP source is lost. -/
  | ptpSyncMissed (i : Nat)
  /-- IRIG_FRAME_RX (R383). An IRIG-B frame is decoded with its on-time point timestamped. -/
  | irigFrameRx (f : IrigFrame)
  /-- IRIG_FRAME_LOSS (R381). Two consecutive IRIG-B frames are missing or bad and the source is lost. -/
  | irigFrameLoss
  /-- PPS_IN_EDGE (R380). A PPS input edge is timestamped and gives a phase-only offset. -/
  | ppsInEdge (i now : Nat)
  /-- PPS_LOSS_TIMEOUT (R381). No PPS edge for 1.001 s and the source is lost. -/
  | ppsLossTimeout (i : Nat)
  /-- SOURCE_QUALIFIED (R381). A source completes 2 s of qualification, and selection and time-base state are re-evaluated. -/
  | sourceQualified (j : Nat)
  /-- STEP_RETRY (R384). 10 s after a cancelled step, with the offset still above 1 µs, a new request is made. -/
  | stepRetry
  /-- STEP_CAPTURE_CHECK (R387). At k_t - 48 a MEMBER with a capture running cancels the step. -/
  | stepCaptureCheck
  /-- REF10M_QUALIFIED (R385). REF10M holds within ±10 ppm for 2 s and qualifies. -/
  | ref10mQualified
  /-- REF10M_LOSS (R385). REF10M has no edge for 10 µs or errs beyond 10 ppm and is lost. -/
  | ref10mLoss
  /-- OFFSET_EXCURSION_TIMEOUT (R378). The offset stays above 1 µs for 1 s while LOCKED, and the time base returns to LOCKING. -/
  | offsetExcursionTimeout
  /-- HOLDOVER_LIMIT_EXPIRY (R378). The holdover time reaches HOLDOVER_LIMIT and the time base enters FREERUN. -/
  | holdoverLimitExpiry
  /-- TOD_SET_WRITE (R378). A write of TOD_SET sets the time of day where an initial set is allowed. -/
  | todSetWrite (path : Path) (v now : Nat)
  /-- LEADER_CHANGE (R388). Another MEMBER ranks better for 2 s, or the leader leaves, and the time leader changes. -/
  | leaderChange (r : Nat)
  /-- TIME_TRANSFER_SEND (R389). The leader's 1/16 s interval expires and Sync and Follow_Up are sent on each triad link. -/
  | timeTransferSend (now : Nat)
  /-- TIME_TRANSFER_RX (R390). A follower receives the leader's Sync and Follow_Up and disciplines its time base. -/
  | timeTransferRx (l origin delay now : Nat)
  /-- TIME_TRANSFER_LOSS (R390). Three Sync intervals pass without the leader's transfer and the follower holds frequency. -/
  | timeTransferLoss
  /-- FOLLOWER_DEVIATION (R388). A follower's own source deviates by more than TRIAD_DEV for 10 s, raising event 0x0109. -/
  | followerDeviation
  /-- PPS_OUT_EDGE (R397). A second boundary plus OFFSET produces a PPS output pulse. -/
  | ppsOutEdge (o now : Nat)
  /-- LEAP_SECOND (R376). At the end of the UTC day a pending leap second changes UTC_OFFSET. -/
  | leapSecond
  /-- CLICKER_ROW_WRITE (R402). The capture engine writes each slot's rows for k_f, testing masks, placing triggers and completing records. -/
  | clickerRowWrite (now : Nat)
  /-- TRIG_INPUT_EDGE (R409). A filtered TRIG input edge is timestamped and offered as a trigger. -/
  | trigInputEdge (j now : Nat) (level : Bool)
  /-- CLICKER_FORCE (R406). A write of 1 to FORCE triggers the slot in software. -/
  | clickerForce (path : Path) (x v now : Nat)
  /-- CLICKER_STOP (R412). A write of 1 to STOP completes a TRIGGERED record. -/
  | clickerStop (path : Path) (x v : Nat)
  /-- CLICKER_DRAIN (R412). A write of 1 to DRAIN starts draining a COMPLETE record. -/
  | clickerDrain (path : Path) (x v : Nat)
  /-- CLICKER_RELEASE (R412). A write of 1 to RELEASE discards the record and rearms the slot. -/
  | clickerRelease (path : Path) (x v : Nat)
  /-- CLICKER_RESEND (R419). A write to RESEND sends a byte range of the record again. -/
  | clickerResend (path : Path) (x : Nat) (b : List Byte)
  /-- DRAIN_FRAME_SEND (R418). Under DRAIN_RATE the next drain frame is sent, and after the last byte the slot becomes DONE. -/
  | drainFrameSend (now : Nat)
  /-- TRIG_PULSE_END (R409). An output pulse of OUT_WIDTH ends. -/
  | trigPulseEnd (j now : Nat)
  /-- CAN_FRAME_RX (R432). A CAN frame ends without error and is offered to stations, the bridge and the FIFO. -/
  | canFrameRx (n : Nat) (f : CanFrame) (sof now : Nat)
  /-- CAN_TX_SUCCESS (R430). A transmitted frame completes and its buffer reads SENT or takes the next bridge frame. -/
  | canTxSuccess (n now : Nat)
  /-- CAN_ARB_LOSS (R430). A buffer loses arbitration and its loss count is checked against ARB_RETRY. -/
  | canArbLoss (n : Nat)
  /-- CAN_TX_ERROR (R430). An error during transmission counts against ERR_RETRY and the error counters. -/
  | canTxError (n : Nat) (counts : Bool) (now : Nat)
  /-- BUSOFF_AUTO_RECOVERY (R424). After 128 occurrences of 11 recessive bits a bus-off channel recovers. -/
  | busoffAutoRecovery (n now : Nat)
  /-- CAN_RECOVER (R424). A write of 1 to RECOVER starts bus-off recovery. -/
  | canRecover (path : Path) (n v now : Nat)
  /-- CAN_MODE_WRITE (R426). A write of MODE passes the channel through OFF, aborting buffers and clearing counters. -/
  | canModeWrite (path : Path) (n v : Nat)
  /-- CAN_TX_REQUEST (R428). CTRL REQUEST makes a supervisor buffer PENDING. -/
  | canTxRequest (path : Path) (i now : Nat) (idle : Bool)
  /-- CAN_TX_ABORT (R430). CTRL ABORT aborts a PENDING buffer or ends a transmitting one after its frame. -/
  | canTxAbort (path : Path) (i : Nat)
  /-- CAN_FIFO_READ (R432). A read of RX_NEXT returns and removes the oldest FIFO record. -/
  | canFifoRead (path : Path) (n : Nat)
  /-- TT_CYCLE_START (R433). At P start of a cycle tick the basic cycle starts and the reference message is sent. -/
  | ttCycleStart (n now : Nat)
  /-- TT_WINDOW_START (R437). A time-triggered column window starts and sends its voted message if allowed. -/
  | ttWindowStart (n j now : Nat)
  /-- TUNNEL_WAIT_EXPIRY (R442). TUNNEL_WAIT elapses since the batch's first record and the tunnel frame is sent. -/
  | tunnelWaitExpiry (now : Nat)
  /-- TUNNEL_FRAME_RX (R442). A tunnel frame arrives at port 865 and its records are checked and routed. -/
  | tunnelFrameRx (bytes : List Byte) (now : Nat)
  /-- DICTIONARY_WRITE (R447). A write to an object with no row of its own is applied, staged or refused by access code. -/
  | dictionaryWrite (path : Path) (obj sel : Nat) (bytes : List Byte) (env : Env)
  /-- STAGE_COMMIT (R453). A write of COMMIT_TICK proposes the path's stage as a commit. -/
  | stageCommit (path : Path) (v : Nat) (env : Env)
  /-- STAGE_DISCARD (R475). A write of 1 to DISCARD empties the path's stage. -/
  | stageDiscard (path : Path) (v : Nat)
  /-- COMMIT_CANCEL (R459). A write of a COMMIT_ID to CANCEL sends CANCEL before k_t - 16. -/
  | commitCancel (path : Path) (v : Nat)
  /-- COMMIT_PROPOSE_RX (R460). A PROPOSE arrives, is checked, and is answered ACCEPT or REFUSE. -/
  | commitProposeRx (rank sendTick : Nat) (c : Machine.Commit) (fragOffset fragLen : Nat) (env : Env)
  /-- COMMIT_ACCEPT_RX (R460). An ACCEPT arrives, and when all are in the origin sends CONFIRM. -/
  | commitAcceptRx (rank id : Nat)
  /-- COMMIT_REFUSE_RX (R460). A REFUSE arrives and the commit becomes REFUSED. -/
  | commitRefuseRx (rank id code : Nat)
  /-- COMMIT_CONFIRM_RX (R460). A CONFIRM arrives and the commit becomes CONFIRMED. -/
  | commitConfirmRx (rank id : Nat)
  /-- COMMIT_CANCEL_RX (R460). A CANCEL received before k_t - 8 makes the commit CANCELLED. -/
  | commitCancelRx (rank id code : Nat)
  /-- COMMIT_ACCEPT_DEADLINE (R459). At k_t - 32 an origin without every ACCEPT cancels, and KIND 2 commits self-confirm or refuse. -/
  | commitAcceptDeadline
  /-- COMMIT_ARM (R460). At k_t - 8 the outcome is fixed: CONFIRMED commits arm, PROPOSED ones are MISSED or CANCELLED. -/
  | commitArm
  /-- COMMIT_APPLY (R456). At the start of k_t the commits of that tick are rechecked and applied in COMMIT_ID order. -/
  | commitApply (env : Env)
  /-- DP_WRITE (R463). DP_CTRL 1 writes DP_DATA to the addressed object. -/
  | dpWrite (env : Env)
  /-- DP_READ (R463). DP_CTRL 2 reads up to 512 bytes from DP_OFFSET into DP_DATA. -/
  | dpRead (env : Env)
  /-- DP_COMMIT (R463). DP_CTRL 3 commits the stage at DP_TICK. -/
  | dpCommit (env : Env)
  /-- SDO_INITIATE_DOWNLOAD (R464). An SDO initiate-download request begins a write, expedited or segmented. -/
  | sdoInitiateDownload (obj : Nat) (expedited : Bool) (size : Option Nat) (bytes : List Byte) (env : Env)
  /-- SDO_DOWNLOAD_SEGMENT (R466). An SDO download segment is received and applied on the last segment. -/
  | sdoDownloadSegment (toggle : Bool) (bytes : List Byte) (last : Bool) (env : Env)
  /-- SDO_INITIATE_UPLOAD (R466). An SDO initiate-upload request takes a snapshot and begins a read. -/
  | sdoInitiateUpload (obj : Nat) (env : Env)
  /-- SDO_UPLOAD_SEGMENT (R466). An SDO upload-segment request returns the next segment. -/
  | sdoUploadSegment (toggle : Bool)
  /-- SDO_ABORT_RX (R464). An SDO abort frame ends the transfer. -/
  | sdoAbortRx (code : Nat)
  /-- SDO_BLOCK_REQUEST (R464). A block-transfer request is refused with 0x0504_0001. -/
  | sdoBlockRequest (obj : Nat)
  /-- SDO_TIMEOUT (R466). A gap above SDO_TIMEOUT aborts the transfer. -/
  | sdoTimeout
  /-- NMT_RESET_NODE (R464). NMT reset node resets the SDO server. -/
  | nmtResetNode (node : Nat)
  /-- NMT_RESET_COMMUNICATION (R464). NMT reset communication resets the SDO server. -/
  | nmtResetCommunication (node : Nat)
  /-- NMT_OTHER_COMMAND (R464). Any other NMT command is ignored. -/
  | nmtOtherCommand (cmd node : Nat)
  /-- DTP_HELLO (R469). A HELLO is verified and opens a session with a derived key, or is refused. -/
  | dtpHello (addr udpPort : Nat) (datagram : List Byte)
  /-- DTP_READ (R471). A READ returns bytes of a value, taking a snapshot at OFFSET 0. -/
  | dtpRead (addr udpPort : Nat) (datagram : List Byte) (env : Env)
  /-- DTP_WRITE (R472). A WRITE delivers a part of a value, applied with LAST. -/
  | dtpWrite (addr udpPort : Nat) (datagram : List Byte) (env : Env)
  /-- DTP_CLOSE (R469). CLOSE ends the session, destroying its key and stage. -/
  | dtpClose (addr udpPort : Nat) (datagram : List Byte)
  /-- DTP_IDLE_TIMEOUT (R469). A session idle for DTP_IDLE closes. -/
  | dtpIdleTimeout (session : Nat)
  /-- DTP_SNAPSHOT_EXPIRY (R471). A READ snapshot expires after 2 s. -/
  | dtpSnapshotExpiry (session : Nat)
  /-- DTP_KEY_SLOT_WRITE (R469). A write of DTP_KEY_SLOT closes every session. -/
  | dtpKeySlotWrite (path : Path) (v : Nat)
  /-- LIFECYCLE_CHANGE (R480). A write of LC_TARGET with a valid token zeroises keys, blows fuses and resets the module. A request
  through JTAG brings the LC_TOKEN that JTAG wrote before it (R478). -/
  | lifecycleChange (path : Path) (mMode : Bool) (jtag : Option (List Byte)) (target t : Nat)
  /-- OK_HASH_WRITE (R482). The owner key hash is written once in PROVISIONED. -/
  | okHashWrite (path : Path) (mMode : Bool) (b : List Byte)
  /-- MIN_SVN_SET (R502). A write of MIN_SVN_SET blows the thermometer fuse up to the value. -/
  | minSvnSet (path : Path) (mMode : Bool) (v : Nat)
  /-- KEY_INSTALL (R487). KEY_CMD 1 installs a key into an empty slot with its counter from the ledger. -/
  | keyInstall (path : Path) (mMode : Bool)
  /-- KEY_DERIVE (R484). KEY_CMD 2 derives a key from the root or a KDF slot into a slot. -/
  | keyDerive (path : Path) (mMode : Bool)
  /-- KEY_DESTROY (R487). KEY_CMD 3 zeroises a slot. -/
  | keyDestroy (path : Path) (mMode : Bool)
  /-- KEY_REMASK (R491). A slot's re-mask time comes and its shares are re-masked. -/
  | keyRemask (i : Nat)
  /-- ENTROPY_HEALTH_FAIL (R497). A health test fails and the block is discarded, with three failures in 1 s disabling the DRBG. -/
  | entropyHealthFail (test now : Nat)
  /-- DRBG_RESEED (R498). After 1 s or 2^20 requests the DRBG reseeds. -/
  | drbgReseed
  /-- DEBUGGER_ATTACH (R503). A debugger first attaches after reset, raising event 0x0A12. -/
  | debuggerAttach
  /-- EVENT_RAISED (R512). An event takes its code and global tokens and is written as a durable record, queued, or suppressed. -/
  | eventRaised (same t : Nat)
  /-- RECORDER_SCAN_DONE (R513). The restart scan completes, the next SEQ is set and the power-up record is written. -/
  | recorderScanDone (t : Nat)
  /-- OP_TIME_CHECKPOINT (R515). Every CHECKPOINT seconds a checkpoint record is written. -/
  | opTimeCheckpoint (t : Nat)
  /-- ANCHOR_WRITE (R516). A write of 1 to ANCHOR records a time-anchor record. -/
  | anchorWrite (path : Path) (v t now : Nat)
  /-- CODE_TOKEN_REFILL (R518). A code's bucket regains a token with suppressions pending, and a summary record is written. -/
  | codeTokenRefill (code t : Nat)
  /-- GLOBAL_TOKEN_REFILL (R519). The global bucket refills, queued records are written, and a drop record follows when the queue drains. -/
  | globalTokenRefill (t : Nat)
  /-- SW_WRITE (R522). A write of 1 to SW_WRITE records a supervisor event. -/
  | swWrite (path : Path) (v t : Nat)
  /-- RESET_ASSERT (R532). RESET_N falls and the module enters its reset state within 1 µs. `low` says how far a record under
  way had come, and is none for a low shorter than 50 ns (R559). -/
  | resetAssert (low : Option Nat)
  /-- RESET_RELEASE (R538). RESET_N rises, the boot ROM clears SRAM and reads fuses, and the recorder scan starts. `pins` is what is
  sampled then, `ref` the REFCLK pairs present. -/
  | resetRelease (pins : Straps) (ref : Nat)
  /-- INTERNAL_RESET_END (R536). An internal reset's hold ends and start-up begins. -/
  | internalResetEnd (pos ref : Nat)
  /-- SECURE_BOOT (R501). The boot ROM verifies a flash copy and starts the supervisor, or halts. -/
  | secureBoot (a b : Option (List Byte))
  /-- CONFIG_DONE (R538). A write of 1 to CONFIG_DONE completes step 6 and starts lane training. -/
  | configDone (path : Path) (v : Nat)
  /-- LANES_UP_COMPLETE (R538). Every enabled Welt link leaves TRAIN, or 100 ms elapse, and time lock begins. -/
  | lanesUpComplete (elapsed : Bool)
  /-- AVS_SAMPLE (R528). Every 10 µs the slack sensors are sampled and VDD_CORE is raised or lowered. -/
  | avsSample (slack fails : Nat)
  /-- AVSBUS_RETRY (R530). Every 100 ms the stopped loop tries AVSBus again. -/
  | avsbusRetry (fails : Nat)
  /-- SYSCLK_LOSS (R535). SYSCLK is absent or off-frequency and the module resets with cause 7. -/
  | sysclkLoss
  /-- REFCLK_LOSS (R535). A REFCLK pair is lost or returns, and its lanes lose lock. -/
  | refclkLoss (j : Nat) (present : Bool)
  /-- THERMAL_SAMPLE (R541). Every 1 ms TEMP_MAX is measured, and warns or trips at the limits. -/
  | thermalSample (temps : List Nat)
  /-- WATCHDOG_EXPIRY (R536). WDT_PERIOD elapses without a kick and the module resets with cause 4. -/
  | watchdogExpiry (now : Nat)
  /-- WDT_KICK (R536). A write of 0x5A to WDT_KICK restarts the watchdog period. -/
  | wdtKick (path : Path) (mMode : Bool) (v now : Nat)
  /-- SW_RESET (R536). A write of 0xA5 to SW_RESET from M mode resets the module with cause 3. -/
  | swReset (aperture : Bool) (path : Path) (mMode : Bool) (v : Timed Nat)
  /-- JTAG_RESET (R536). A system reset through the debug module resets the module with cause 5. -/
  | jtagReset
  /-- CAN_RX_ERROR (R424). An error detected on the bus while the channel is not transmitting raises its receive error count, sends an error flag and may take it to error passive. -/
  | canRxError (n : Nat) (by8 : Bool) (now : Nat)
  /-- DONOR_COPY_COMPLETE (R269). The donor finishes copying the transferred memory and sends the fence after the last write of tick k_c. -/
  | donorCopyComplete (r : Nat)
  /-- ILLEGAL_INSTRUCTION (R188). A core executes an instruction or CSR access of an absent extension and takes an illegal-instruction exception. -/
  | illegalInstruction (hart word : Nat)
deriving DecidableEq, Repr

end Sys2Proof
end

