-- ==== Sys2Proof/Decode.lean ====
section
/-!
DEFINITION. The command that a word spells by the bits of the table of operations. The table gives no row any bits: the module has no instruction
decoder, and its commands come from outside as terms of `Instr` (log entry 184).
-/
namespace Sys2Proof

/-- The command an instruction word of `nbits` bits spells: none, since no row of the table has an encoding. -/
def decodeTableWord (_nbits _w : Nat) : Option Instr := none

end Sys2Proof
end

