-- ==== Sys2Proof/Config.lean ====
section
/-!
DEFINITION. What an implementation fixes and the free values of the model: constants with no body, of which nothing can be proved.
-/
namespace Sys2Proof

/-- The n-th free value: DRBG draws and every other value the spec leaves open while the module goes on (log entry 5). -/
opaque Config.freeValue : Nat → Nat

/-- The 16-octet AES-GMAC tag of a published standard over data under a key and nonce (R64, R492); the algorithm is not part of the spec. -/
opaque Config.gmac : (key iv data : List Byte) → List Byte

/-- Word i of the stored half of a preset's base-rate coefficient set: fixed in the silicon, not listed by the manual (R80). -/
opaque Config.presetBase : (preset i : Nat) → Nat

/-- Which of the values within 1 LSB of a third of the base-rate word the triple-rate word i takes (R80). -/
opaque Config.presetThird : (preset i : Nat) → Nat

/-- HMAC-SHA-256 of a published standard (R228, R467): 32 octets. -/
opaque Config.hmac : (key data : List Byte) → List Byte

/-- SHA-384 of a published standard: 48 octets (R479, R482, R501). -/
opaque Config.sha384 : (data : List Byte) → List Byte

/-- Whether an ECDSA P-384 signature over the SHA-384 of data verifies under a public key (R479, R500); the algorithm is not part of the spec. -/
opaque Config.ecdsaOk : (key sig data : List Byte) → Bool

/-- Octet a of the boot ROM (R191): fixed in the silicon, not listed by the manual. -/
opaque Config.bootRom : (a : Nat) → Byte

/-- clockClass and clockAccuracy that a master announces while LOCKED to a triad leader's transfer: R395 lists no such case. -/
opaque Config.followerClock : Nat × Nat

/-- Octets that field i of the payload of an event code takes: the manual packs the fields in order but gives no widths (R509). -/
opaque Config.payloadWidth : (code i : Nat) → Nat

/-- The severity level of a hardware event code: fixed in the module, not listed by the manual (R510). -/
opaque Config.eventLevel : (code : Nat) → Nat

/-- The octets from offset 0x14 on of a module-internal commit record: N_ENTRY and the entries, which the manual does not give (R457). `what` is
1 for a freeze of tenant `value`, 2 for a step of the time base by `value`, 3 for the time status bits `value`. -/
opaque Config.internalTail : (what : Nat) → (value : Int) → List Byte

/-- The number in an event's payload by which it names something that the manual leaves without a number: the event's code, and what is named as the
model numbers it. Event 0x0B07 (R476): 0 an opening, 1 CLOSE, 2 idle, 3 the last SEQ, 4 a write of DTP_KEY_SLOT, 5 a key slot destroyed. The others
stand where they are raised (0x0206, 0x0301, 0x0303, 0x0305, 0x0306, 0x0510, 0x0721, 0x0724, 0x0734, 0x0906). -/
opaque Config.eventField : (code what : Nat) → Nat

/-- What distinguishes the NaN that an operation makes, of a format that stores p bits of significand: IEEE 754 leaves its sign and payload open, and so does the
manual (R104). -/
opaque Config.nanBits : (p : Nat) → Nat

/-- VALUE of TIMER slot e whose magnitude is M, as a binary32 pattern: the manual states none (R145, R150; log entry 37). -/
opaque Config.timerValue : (e mm : Nat) → Nat

/-- The frame of logic-owned GOOSE slot u with member bits, stNum and sqNum: the manual gives its contents and not its octets (R213, R248). -/
opaque Config.logicFrame : (u bits stNum sq : Nat) → List Byte

/-- The octets of the Sync, or of the Follow_Up, of the leader's time transfer at a time of its time base: messages of IEEE 1588 in domain 255, of which the
manual gives no address and no sequence number (R389). -/
opaque Config.transferFrame : (followUp : Bool) → (time : Nat) → List Byte

/-- The room, in flits, of the W2 queue of a route's link for the bridge's own requests (R299), and of the space that holds a target's responses (R300): the
manual gives neither. -/
opaque Config.w2Room : Nat
opaque Config.outputRoom : Nat

/-- SYSCLK_PPM as measured in tick k, an I16 pattern: the manual states no value (R544). -/
opaque Config.sysclkPpm : (k : Nat) → Nat

end Sys2Proof
end

