-- ==== Sys2Proof/Machine/State.lean ====
section
/-!
DEFINITION. What a step can stop with, and the state of the module: plain data, holding every piece of state the spec gives it.
Registers, counters and settings that are objects of the dictionary live in one store of values, `Mod.dict`; what is not an object stands
in a structure per chapter of spec/.
-/
namespace Sys2Proof.Machine

/-- Why the machine stops. Nothing in this hardware stops with a fault: the type has no constructor that a meaning raises but `deviceRegister`. -/
inductive Fault where
  /-- Raised by CORE_MEMORY_ACCESS and WELT_WR_REQ_RX for a store to the device-register region 0x0000_5000_0000 to 0x0000_53FF_FFFF, the
  module's own backing store, whose layout R463 keeps out of the interface. Safe: the hardware goes on where the model stops. -/
  | deviceRegister
deriving DecidableEq, Repr

/-- Why a command has no meaning. -/
inductive Refusal where
  /-- Raised by `exec` for a command that has no meaning yet, named by its mnemonic. Safe. -/
  | notModelled (mnemonic : String)
deriving DecidableEq, Repr

/-! ## The dictionary's table rows -/

/-- The value types of R446. -/
inductive ObjTy where
  | bool | u8 | u16 | u32 | u64 | i8 | i16 | i32 | i64 | f32 | str | octs | tick
deriving DecidableEq, Repr

/-- The access codes of R447. -/
inductive Access where
  | ro | rw | wo | rwt | rws
deriving DecidableEq, Repr

/-- One row of an object table: the object, its instances (none when it has none), type, access, default, and the values a write may carry. -/
structure ObjRow where
  obj : Nat
  inst : Option (Nat × Nat)
  ty : ObjTy
  acc : Access
  dflt : Val
  lo : Nat
  hi : Nat
  lenMin : Nat
  lenMax : Nat
  lenMul : Nat
deriving DecidableEq, Repr

/-- An event raised and not yet taken by the recorder: its code and payload fields. -/
structure Ev where
  code : Nat
  payload : List Nat
deriving DecidableEq, Repr

/-! ## The triad (R234-R274) -/

/-- What a peer's HELLO last said of it (R288). -/
structure PeerInfo where
  id : Nat := 0
  mstate : Nat := 0
  digest : Nat := 0
  /-- k and q as the peer counts them (R12) -/
  k : Nat := 0
  q : Nat := 0
deriving DecidableEq, Repr

/-- A fetch of a peer's filed samples (R243): stream, peer rank, and whether the data came. -/
structure Fetch where
  s : Nat := 0
  peer : Nat := 0
  digest : Nat := 0
  done : Bool := false
deriving DecidableEq, Repr

/-- The Lace drive (R256). -/
inductive Drive where
  | off | alive | claim
deriving DecidableEq, Repr

/-- The state of the triad: messages of the tick, the vote, the Lace line and membership. -/
structure TriadSt where
  peers : Table PeerInfo := []
  agrees : Table AgreeMsg := []
  vectors : Table VectorMsg := []
  fetches : List Fetch := []
  /-- the drive as the lines were sampled at V start (R258) -/
  vDrive : Drive := .off
  /-- the first tick whose vector counts in SHADOW (R238) -/
  shadowFrom : Nat := 0
  /-- the own vector formed at V start, and the ranks present, in the majority and excluded in the tick, bit r - 1 -/
  own : VoteVec := {}
  ownInTime : Bool := false
  /-- the status word of the own vector -/
  ownStatus : Nat := 0
  /-- how far the tick has come: 1 the AGREE deadline, 2 the fetch deadline, 3 V start, 4 the vote deadline, 5 V end have passed -/
  stage : Nat := 0
  /-- E(k) as ranks, bit r - 1 (R260) -/
  eligible : Nat := 0
  present : Nat := 0
  inMajority : Nat := 0
  majority : Option VoteVec := none
  /-- VOTE_VIEW of the tick before (R240) -/
  lastView : Nat := 0
  hold : HoldSt := {}
  /-- the ticks in which a rank was absent, newest first (R251) -/
  absences : Table (List Nat) := []
  /-- the last tick with a detected error (R240) -/
  errorAt : Option Nat := none
  drive : Drive := .off
  rearmed : Nat := 0
  lastPub : Bool := false
  gateAtP : Bool := false
  /-- what time-triggered columns were armed with at P start: whether the tick was voted, the bits, and the columns that publish entries of KIND 3 name,
  256 times the channel and the column (R437, R438) -/
  armed : Bool := false
  armedBits : Table Nat := []
  armedCan : List Nat := []
  /-- the line states sampled at V start, and runs of ticks by line (R258, R266) -/
  laceView : Nat := 0
  viewRun : Table Nat := []
  foreignRun : Table Nat := []
  faultFree : Nat := 0
  /-- ticks in SEEK without a MEMBER seen (R238), and the formation announced -/
  seekTicks : Nat := 0
  kForm : Option Nat := none
  formPeer : Nat := 0
  attempts : Nat := 0
  /-- the tick at which the module first took part in the vote since reset, or adopted a donor's state (R175) -/
  firstVote : Option Nat := none
  shadowRun : Nat := 0
  /-- the tick at which RESYNC was entered -/
  resyncAt : Nat := 0
deriving DecidableEq, Repr

/-! ## Welt links and the bridge (R275-R307) -/

/-- The states of the rate handshake within ACTIVE and RATE (R304); `fallback` is RETRAIN at the old code. -/
inductive RateHs where
  | idle | proposed | quiesce | retrain | fallback
deriving DecidableEq, Repr

/-- A flit in its fields but for ACK, which it takes as it is sent (R278). -/
structure Flit where
  seq : Nat := 0
  cvc : Nat := 0
  ccnt : Nat := 0
  ty : Nat := 0
  vc : Nat := 0
  sop : Bool := false
  eop : Bool := false
  valid : Nat := 0
  dst : Nat := 0
  src : Nat := 0
  payload : List Byte := []
deriving DecidableEq, Repr

/-- A packet queued on a link, with the link in whose receive buffer its flits stand until they are sent on (R283, R286). -/
structure Queued where
  pkt : Packet := {}
  via : Option Nat := none
deriving DecidableEq, Repr

/-- A request in a W2 receive buffer, with what the model has beside it: the writer's surroundings, what a donor's fence carries, and whether a grant
admits it (R282, R294, R300). -/
structure W2Entry where
  pkt : Packet := {}
  env : Env := {}
  chain : Option Chain := none
  granted : Bool := false
deriving DecidableEq, Repr

/-- A link. -/
structure WeltLink where
  txSeq : Nat := 0
  rxSeq : Nat := 0
  /-- flits sent and not acknowledged, oldest first (R281) -/
  replay : List Flit := []
  /-- replays of the oldest of them -/
  replays : Nat := 0
  /-- credits held for W0 to W3, credits to be returned, and the VC whose turn it is to return them (R283) -/
  credits : List Nat := [0, 0, 0, 0]
  due : List Nat := [0, 0, 0, 0]
  dueTurn : Nat := 0
  /-- flits that stand in the receive buffer of each VC (R282) -/
  inbuf : List Nat := [0, 0, 0, 0]
  /-- the requests in the W2 receive buffer, oldest first (R300) -/
  w2 : List W2Entry := []
  /-- a NAK has been sent for the SEQ expected -/
  nak : Bool := false
  /-- link-local flits that wait for room in the replay buffer: type and payload -/
  loc : List (Nat × List Byte) := []
  /-- packets that wait for a credit or for room in the replay buffer, oldest first -/
  waiting : List Queued := []
  /-- the flits still to be sent of the packet begun on W0 to W3, and the link it came by -/
  cur : List (List Flit × Option Nat) := [([], none), ([], none), ([], none), ([], none)]
  /-- slots left to W1, W2 and W3 in the round of R284 -/
  wrr : List Nat := [0, 2, 1, 4]
  /-- what the last ten windows of 10 ms carried, in per cent of the slots times the payload rate in kb/s, newest first (R302) -/
  utils : List Nat := []
  /-- until when a step up, and a step down, is not proposed, in ns of the oscillator's count (R302) -/
  noUp : Option Nat := none
  noDown : Option Nat := none
  hs : RateHs := .idle
  hsCode : Nat := 0
  hsOld : Nat := 0
  hsNonce : Nat := 0
  markSent : Bool := false
  markSeen : Bool := false
  /-- the steps up of bring-up still go on (R289) -/
  climb : Bool := false
  peerMax : Nat := 2
  peerRank : Nat := 0
deriving DecidableEq, Repr

/-- The states of a bridge entry (R296). -/
inductive TagState where
  | free | waiting | held | quarantine
deriving DecidableEq, Repr

/-- A bridge entry. -/
structure TagSt where
  state : TagState := .free
  gen : Nat := 0
  master : Master := .fetch
  addr : Nat := 0
  len : Nat := 0
  data : List Byte := []
  status : Nat := 0
  outstanding : Bool := false
deriving DecidableEq, Repr

/-- The state of the Welt fabric. -/
structure WeltSt where
  links : Table WeltLink := []
  tags : Table TagSt := []
  /-- W3 packets sent to a destination, for the turn of R285 -/
  turns : Table Nat := []
deriving DecidableEq, Repr

/-! ## The switch and the ports (R308-R375) -/

/-- A copy of a frame in the shared buffer (R311, R318). -/
structure Copy where
  /-- the number of the reception it is a copy of -/
  no : Nat := 0
  ingress : Nat := 0
  /-- the queue it stands in -/
  cls : Nat := 0
  /-- octets from the destination address on, without the FCS -/
  frame : List Byte := []
  /-- the egress VLAN -/
  vlan : Nat := 0
  /-- cells taken from the SC0 reserve and from the shared pool (R316) -/
  res : Nat := 0
  shr : Nat := 0
  /-- its last octet has been written -/
  whole : Bool := true
  /-- voted output: 1 a publish entry, 2 a repetition; 0 otherwise (R259, R263, R310) -/
  pub : Nat := 0
  /-- the TAI time by which the first bit of a bound-eligible publish entry leaves (R40, R42) -/
  bound : Option Nat := none
  /-- the mirror session it was made for -/
  mirror : Option Nat := none
  /-- the frame keeps its HSR tag, being forwarded round the ring (R360) -/
  ring : Bool := false
  /-- the redundancy sequence number it leaves with (R361, R364) -/
  rseq : Option Nat := none
  /-- descriptor flags for a Welt port, and the packet's destination where it is not the link's neighbour (R62, R280) -/
  flags : Nat := 0
  dst : Option Nat := none
  /-- the arrival tick, the ingress timestamp and the time its age counts from (R320) -/
  tick : Nat := 0
  ts : Nat := 0
  since : Nat := 0
deriving DecidableEq, Repr

/-- A pattern filter of a port: MASK, CHECK and ACTION (R365, R366). -/
structure Pattern where
  mask : List Byte := []
  check : Nat := 0
  action : Nat := 0
deriving DecidableEq, Repr

/-- A switch port. -/
structure SwPort where
  /-- copies queued, in the order they were queued; class c's queue is those with `cls = c` (R319) -/
  q : List Copy := []
  /-- deficits of the eight classes, and the class whose turn it is in the round -/
  deficit : List Nat := [0, 0, 0, 0, 0, 0, 0, 0]
  turn : Nat := 7
  sending : Option Copy := none
  /-- the copy being sent is cut through (R321) -/
  cut : Bool := false
  /-- the guard time of R41 runs -/
  guard : Bool := false
  /-- a received pause holds SC1 to SC7 (R355) -/
  paused : Bool := false
  /-- XOFF has been sent and no XON since (R354) -/
  xoff : Bool := false
  /-- the SC0 meter (R314): tokens used, in 10^-5 bit, since when, the rate in force, and the last demotion -/
  meterUsed : Nat := 0
  meterAt : Nat := 0
  meterRate : Nat := 10
  demotedAt : Option Nat := none
  /-- the reception in progress on this port -/
  rx : Option Nat := none
  /-- the link condition of a front port holds, as last reported (R350) -/
  link : Bool := false
  /-- egress timestamps of PTP event messages, oldest first (R371) -/
  tsQueue : List (List Byte) := []
  /-- the pattern filters of the frame under evaluation, as they stood when it began (R373) -/
  held : Option (List Pattern) := none
deriving DecidableEq, Repr

/-- An entry of the MAC table (R334). -/
structure MacEntry where
  mac : List Byte := []
  context : Nat := 0
  dest : Nat := 0
  static : Bool := false
  hit : Bool := false
  clear : Nat := 0
  tick : Nat := 0
deriving DecidableEq, Repr

/-- A route (R339): family 4 or 6, length, prefix masked to it, next hop. -/
structure Route where
  family : Nat := 4
  len : Nat := 0
  pfx : List Byte := []
  hop : Nat := 0
deriving DecidableEq, Repr

/-- An entry of a duplicate table (R360, R363), oldest arrival first in its table. -/
structure DupEntry where
  mac : List Byte := []
  seq : Nat := 0
  port : Nat := 0
deriving DecidableEq, Repr

/-- The state of the switch core, the forwarding tables and the ports. -/
structure SwSt where
  ports : Table SwPort := []
  /-- cells taken from the SC0 reserve and from the shared pool -/
  resUsed : Nat := 0
  shrUsed : Nat := 0
  /-- the number the next reception takes -/
  nextNo : Nat := 0
  /-- SC0 bits offered and bank words moved in this tick (R315, R329) -/
  sc0Bits : Nat := 0
  words : Nat := 0
  /-- the last tick that broke the first limit of R315 -/
  overAt : Option Nat := none
  /-- candidates counted by each mirror session (R326) -/
  mirrors : Table Nat := []
  /-- the MAC table by bucket, and bucket 32,768 for the overflow store (R334) -/
  mac : Table (List MacEntry) := []
  /-- the entries a dump has still to return (R338) -/
  dump : List (List Byte) := []
  /-- the routes by bucket, and bucket 16,384 for the overflow store (R339) -/
  routes : Table (List Route) := []
  /-- the duplicate tables: ring r at r, PRP pair q at 64 + q -/
  dups : Table (List DupEntry) := []
  /-- the next sequence number of each PRP pair (R364) -/
  prpSeq : Table Nat := []
deriving DecidableEq, Repr

/-! ## Time (R376-R399) -/

/-- How the servo moves the time base (R384, R385): at the source's rate or the held one, within 10 ppm, or at MAX_SLEW. -/
inductive Servo where
  | hold | slew | maxSlew
deriving DecidableEq, Repr

/-- What a source of time has shown since it began to qualify: the offsets measured, the last edge or frame, and whether it is a valid one. -/
structure SrcSt where
  offsets : List Int := []
  /-- the time of the last edge (PPS) or the second of the last frame (IRIG-B) -/
  last : Option Nat := none
deriving DecidableEq, Repr

/-- A grandmaster as an Announce describes it, and the path it came by. -/
structure Gm where
  p1 : Nat := 128
  cls : Nat := 248
  acc : Nat := 0xFE
  var : Nat := 0xFFFF
  p2 : Nat := 128
  id : Nat := 0
  steps : Nat := 0
  sender : Nat := 0
  port : Nat := 0
deriving DecidableEq, Repr

/-- A PTP port: the best Announce heard on it and a two-step Sync that waits for its Follow_Up (sequence, ingress time, correction). -/
structure PtpPort where
  best : Option Gm := none
  sync : Option (Nat × Nat × Int) := none
deriving DecidableEq, Repr

/-- The state of time. -/
structure TimeSt where
  /-- what initial sets and steps have moved the time base by, in ns: it reads the oscillator's slewed count plus this -/
  off : Int := 0
  /-- LOCKED at least once since reset, and to a time-of-day source; TOD_SET written (R378, R380, R539) -/
  everLocked : Bool := false
  lockedTod : Bool := false
  todSet : Bool := false
  /-- the state held before LOCKING -/
  before : Nat := 0
  /-- the better source whose qualifying abandoned a switch (R382) -/
  waitBetter : Option Nat := none
  servo : Servo := .hold
  /-- no step request for 10 s after a cancellation (R384) -/
  stepHold : Bool := false
  /-- an initial set waits for the next tick start (R15, R378) -/
  jump : Option Int := none
  srcs : Table SrcSt := []
  /-- the leader's time transfer is valid (R390) -/
  xfer : Bool := false
  /-- UTC_OFFSET came from a source that knows it, or from a write (R392) -/
  leapKnown : Bool := false
  ptp : Table PtpPort := []
deriving DecidableEq, Repr

/-! ## The Clicker (R400-R423) -/

/-- What a record row of filing tick k_f draws on: the time of the tick, agreed samples, filter outputs (VALUE and FLAGS_OR by channel), logic
bits at V start of tick k_f + D, and psi, Delta and LOCKED of the reference groups at its F start (R402, R407, R411). -/
structure CapTick where
  kf : Nat := 0
  /-- the tick k_f + D -/
  k : Nat := 0
  sec : Nat := 0
  q : Nat := 0
  raw : Table Delivered := []
  filt : Table (Nat × Nat) := []
  bits : Table Nat := []
  outs : Table Nat := []
  groups : Table (Nat × Int × Bool) := []
  tq : Nat := 0
  /-- the time base slews faster than 10 ppm (R417) -/
  slew : Bool := false
deriving DecidableEq, Repr

/-- An analogue descriptor in force (R416). SCALE and GD_US are binary32 patterns; `run` counts consecutive violating samples (R411). -/
structure ClickSig where
  kind : Nat := 1
  c : Nat := 0
  unit : Nat := 0
  skew : Int := 0
  mask : Nat := 255
  profile : Nat := 0
  scale : Nat := 0
  gd : Nat := 0
  run : Nat := 0
deriving DecidableEq, Repr

/-- A row held in the ring: its filing tick, instant, TIME_QUALITY and whether the time base slewed. -/
structure ClickRow where
  kf : Nat := 0
  time : Nat := 0
  tq : Nat := 0
  slew : Bool := false
deriving DecidableEq, Repr

/-- A detection: the term, the trigger instant, whether it comes from a KIND 3 term, and whether a side was not synchronised (R406-R410). -/
structure Detect where
  term : Nat := 0
  instant : Nat := 0
  cross : Bool := false
  unsync : Bool := false
deriving DecidableEq, Repr

/-- A record slot (R408-R418). -/
structure ClickSlot where
  sigs : List ClickSig := []
  bins : List Nat := []
  /-- rows held, oldest first, the ring index of the oldest, and how many rows of the record stand before it no longer -/
  rows : List ClickRow := []
  first : Nat := 0
  gone : Nat := 0
  /-- the instant of the row after the last one held -/
  next : Nat := 0
  /-- TIME_QUALITY over the record's rows: OR of bits 6:5, the largest of bits 4:0, AND of bit 7; and FIRST_TICK, FIRST_TIME, TQ_FIRST -/
  tqOr : Nat := 0
  tqMax : Nat := 0
  tqAnd : Bool := true
  firstRow : ClickRow := {}
  slew : Bool := false
  /-- the detections since arming and the pending trigger, or the record's -/
  dets : List Detect := []
  trig : Option Detect := none
  /-- the trigger row's number in the record -/
  trigRow : Option Nat := none
  termMask : Nat := 0
  trigTerm : Nat := 255
  clipped : Bool := false
  retriggers : Nat := 0
  overRow : Option Nat := none
  /-- the first row of a step, with its instant and the step's value (R417) -/
  stepRow : Option (Nat × Nat × Int) := none
  /-- octets of the image sent, the final header of a continuous record sent, and ranges to be sent again (R418, R419) -/
  sent : Nat := 0
  headSent : Bool := false
  finalSent : Bool := false
  resend : List (Nat × Nat) := []
deriving DecidableEq, Repr

/-- The state of the Clicker. -/
structure ClickerSt where
  /-- the last ticks captured, newest first -/
  hist : List CapTick := []
  /-- psi, Delta and LOCKED of the enabled groups at F start -/
  groups : Table (Nat × Int × Bool) := []
  slots : Table ClickSlot := []
  /-- the tick whose rows were written last, plus 1 -/
  wrote : Nat := 0
  /-- the last steps of the time base: k_t and value -/
  steps : List (Nat × Int) := []
  /-- the slot whose drain frame was sent last -/
  turn : Nat := 63
deriving DecidableEq, Repr

/-! ## CAN channels and the bridge (R424-R444) -/

/-- What a channel is sending: a transmit buffer, a reference message, or the frame of an exclusive column. -/
inductive CanTx where
  | buf (b : Nat)
  | ref
  | excl (j : Nat)
deriving DecidableEq, Repr

/-- The system matrix as a basic cycle runs it (R433, R438). -/
structure TtRun where
  cycleTicks : Nat := 1
  cycles : Nat := 1
  columns : List Byte := []
  matrix : List Byte := []
deriving DecidableEq, Repr

/-- A CAN channel. -/
structure CanChan where
  /-- records of the receive FIFO, oldest first, and whether one has been discarded since it was last empty (R432) -/
  fifo : List (List Byte) := []
  overrun : Bool := false
  /-- the bridge queue, oldest first (R440) -/
  queue : List CanFrame := []
  sending : Option CanTx := none
  /-- another node's frame is on the bus -/
  busy : Bool := false
  /-- the reference message waiting to be sent, and one that has lost arbitration to a frame not yet received (R434) -/
  ref : Option CanFrame := none
  refLost : Bool := false
  /-- an exclusive frame that waits for an idle bus: column, frame, and the window's end in ns of TAI (R437) -/
  excl : Option (Nat × CanFrame × Nat) := none
  /-- the arbitrating window: start and end in ns of TAI (R431) -/
  arb : Nat × Nat := (0, 0)
  run : Option TtRun := none
  /-- the cycle's start, in ns of TAI -/
  cycleAt : Nat := 0
deriving DecidableEq, Repr

/-- The request of a transmit buffer: its loss and error counts, and whether an abort waits for the frame under way (R430). -/
structure CanBuf where
  losses : Nat := 0
  errors : Nat := 0
  abort : Bool := false
deriving DecidableEq, Repr

/-- The channels, their buffers, and the tunnel: the batch, the count of frames sent, and the last SEQ plus 1 by NODE (R442). -/
structure CanSt where
  chans : Table CanChan := []
  bufs : Table CanBuf := []
  batch : List (List Byte) := []
  seq : Nat := 0
  seen : Table Nat := []
deriving DecidableEq, Repr

/-! ## Keys (R477-R507) -/

/-- A key slot's secret: two shares whose exclusive or is the key, and the fixed field of its nonces (R485, R491, R492). -/
structure KeySlot where
  shareA : List Byte := []
  shareB : List Byte := []
  fixed : List Byte := []
deriving DecidableEq, Repr

/-- The key store. -/
structure KeysSt where
  slots : Table KeySlot := []
  /-- KEY_VALUE and LC_TOKEN as last written; none since the last command, or since reset (R479, R487) -/
  value : Option (List Byte) := none
  token : List Byte := []
  /-- the times of health-test failures in the last second, in ns of the oscillator's count (R497) -/
  fails : List Nat := []
  /-- a debugger has attached since the reset (R503) -/
  attached : Bool := false
  /-- keys for which event 0x0A20 or 0x0A21 has been raised, by slot: 1 and 2 (R494) -/
  warned : Table Nat := []
deriving DecidableEq, Repr

/-! ## The event recorder (R508-R524) -/

/-- A record that waits to be written: everything but POWER_CYCLE, SEQ and CRC. `t` is the time since reset release, in units of 1/4,096 s. -/
structure RecEntry where
  code : Nat := 0
  severity : Nat := 0
  source : Nat := 0
  payload : List Byte := []
  t : Nat := 0
deriving DecidableEq, Repr

/-- The token bucket of a code: tokens taken, and occurrences suppressed since the code's last record, with the times of the first and the
last and the payload of the last (R517, R518). -/
structure Bucket where
  used : Nat := 0
  count : Nat := 0
  first : Nat := 0
  last : Nat := 0
  payload : List Byte := []
deriving DecidableEq, Repr

/-- The event recorder. -/
structure RecSt where
  /-- the restart scan is complete; the operating time it found, and when since reset release it resumed from there (R513, R514) -/
  scanned : Bool := false
  base : Nat := 0
  origin : Nat := 0
  buckets : Table Bucket := []
  /-- tokens taken from the global bucket, the queue, records dropped since the last record of them, the time of the first of these, and
  whether their record takes the next token (R519) -/
  used : Nat := 0
  queue : List RecEntry := []
  drops : Nat := 0
  firstDrop : Nat := 0
  dropDue : Bool := false
  /-- the slot written last and its octets before that (R511, R512) -/
  undo : Option (Nat × List Byte) := none
deriving DecidableEq, Repr

/-! ## Power, reset and start-up (R525-R545) -/

/-- Limits of the core voltage. -/
inductive VLimit where
  | low | high
deriving DecidableEq, Repr

/-- Reset, voltage scaling, clocks, temperature and the watchdog. -/
structure PowerSt where
  /-- the level of XSPI_RESET_N: low from a reset on until the boot ROM raises it before its first read (R561) -/
  xspi : Bool := false
  /-- held in reset: by RESET_N (1) or by an internal cause 2 to 7; 0 while the module runs. The state right after power-on is held by RESET_N. -/
  held : Nat := 1
  /-- the cause of the last reset, the temperature of the hottest sensor as last measured and TEMP_TRIP at a thermal trip, binary32 patterns:
  the SMBus target answers in reset (R542), and a thermal reset is held (R536) -/
  cause : Nat := 0
  tempMax : Nat := 0
  trip : Nat := 0
  /-- secure boot accepted no copy: the boot ROM has halted (R501) -/
  halted : Bool := false
  /-- a TEST ball was not low when RESET_N rose: the factory test mode, which nothing leaves but a reset (R554) -/
  factory : Bool := false
  /-- the voltage loop runs (R528); it has stopped commanding for want of an answer (R530); runs of samples with slack below SLACK_LOW and above
  SLACK_HIGH; the limit at which it stands -/
  avs : Bool := false
  avsStopped : Bool := false
  lowRun : Nat := 0
  highRun : Nat := 0
  limit : Option VLimit := none
  /-- the thermal warning stands and SMB_ALERT_N is asserted (R541) -/
  warning : Bool := false
  /-- when the watchdog's period began, in ns of the oscillator's count (R536) -/
  wdtAt : Nat := 0
deriving DecidableEq, Repr

/-! ## What leaves the module -/

/-- A response of the SDO server (R464): acknowledgements of a download, a whole value or its size at the start of an upload, a segment with its toggle
and whether it is the last, or an abort. -/
inductive SdoReply where
  | downloadOk (obj : Nat)
  | segmentOk (toggle : Bool)
  | value (obj : Nat) (bytes : List Byte)
  | size (obj n : Nat)
  | segment (toggle : Bool) (bytes : List Byte) (last : Bool)
  | abort (obj code : Nat)
deriving DecidableEq, Repr

/-- Something that leaves the module, in the order it left. -/
inductive Out where
  /-- octets that an access returns: of an object, an image segment or a load -/
  | data (bytes : List Byte)
  /-- a dictionary access refused with an abort code -/
  | abort (code : Nat)
  /-- the 64 octets of a flit on a Welt link; again on a replay (R278, R281) -/
  | flit (l : Nat) (bytes : List Byte)
  /-- the bridge's answer to a remote read: RETRY, data, or a fault (R296) -/
  | readRetry (master : Master)
  | readData (master : Master) (bytes : List Byte)
  | readFault (master : Master)
  /-- the announcement of a formation tick, with the sender's own k (R239) -/
  | formation (kForm k : Nat)
  /-- the Lace drive changed (R256) -/
  | lace (d : Drive)
  /-- the fence of a completed transfer, with what it carried (R268, R269) -/
  | donorFence (dst : Nat) (c : Chain)
  /-- the first bit of a copy leaves on a port, with its octets without the FCS; and the copy being sent ends with the inverse of its FCS (R322) -/
  | tx (p : Nat) (frame : List Byte)
  | txCut (p : Nat)
  /-- a pause frame with its quanta (R354) -/
  | pause (p quanta : Nat)
  /-- a PTP message on a front port: its kind, domain, and the fields R390 to R396 give (R394) -/
  | ptp (p : Nat) (kind : PtpKind) (domain : Nat) (fields : List Nat)
  /-- the level of TRIG line j as an output (R409) -/
  | trig (j : Nat) (level : Bool)
  /-- a rising edge of PPS_OUT o, high for its WIDTH in ms (R397) -/
  | ppsOut (o width : Nat)
  /-- a CAN frame begins on a channel (R429, R434, R437) -/
  | canFrame (n : Nat) (f : CanFrame)
  /-- a CAN channel acknowledges a frame, or sends an error flag (R426) -/
  | canAck (n : Nat)
  | canError (n : Nat)
  /-- the level of XSPI_RESET_N changed (R561) -/
  | xspiReset (level : Bool)
  /-- the boot ROM starts the supervisor at an offset of supervisor SRAM, in M mode (R501) -/
  | boot (entry : Nat)
  /-- a command on AVSBus: the voltage in mV, and whether it drew a valid response (R528, R530) -/
  | avs (mV : Nat) (answered : Bool)
  /-- a response of the SDO server on a CAN channel with identifier 0x580 + NODE_ID (R464) -/
  | sdo (chan node : Nat) (r : SdoReply)
  /-- a DTP response from port 47812 to an address and port (R467) -/
  | datagram (addr udpPort : Nat) (bytes : List Byte)
deriving DecidableEq, Repr

/-! ## What power cycles and resets keep -/

/-- The fuses: the groups G0 to G4, ROOT_M, ROOT_P, ROOT_O and ROOT_S (empty when not blown), VK_HASH and OK_HASH, MIN_SVN and VCORE_MIN
(R477, R482, R483, R502, R528). -/
structure Fuses where
  groups : List Nat := [0, 0, 0, 0, 0]
  roots : List (List Byte) := [[], [], [], []]
  vkHash : List Byte := []
  okHash : List Byte := []
  minSvn : Nat := 0
  vcoreMin : Nat := 650
deriving DecidableEq, Repr

/-- Configuration MRAM: the start-up Last, profiles and logic images (R31, R88, R175). -/
structure NvSt where
  last : List Byte := []
  profiles : Table StoredBank := []
  logic : Table (List Byte) := []
  /-- the counter ledger: fingerprint and ceiling, oldest first (R496) -/
  ledger : List (List Byte × Nat) := []
  fuses : Fuses := {}
deriving DecidableEq, Repr

/-! ## The module and the queue -/

/-- The module: everything but the queue of waiting commands. -/
structure Mod where
  /-- every object of the dictionary, keyed object * 65536 + instance; an unlisted key reads its default -/
  dict : Table Val := []
  tick : TickSt := {}
  ingest : IngestSt := {}
  filter : FilterSt := {}
  phasor : PhasorSt := {}
  element : ElementSt := {}
  logic : LogicSt := {}
  ten : TenSt := {}
  triad : TriadSt := {}
  welt : WeltSt := {}
  sw : SwSt := {}
  time : TimeSt := {}
  click : ClickerSt := {}
  can : CanSt := {}
  recorder : RecSt := {}
  power : PowerSt := {}
  /-- memory of the physical address space outside device registers and the measurement window (R191) -/
  mem : Memory := []
  dic : DictSt := {}
  keys : KeysSt := {}
  nv : NvSt := {}
  /-- status bits of the logic bit space that their owners set and clear, by address; unlisted reads 0 -/
  bits : Table Nat := []
  /-- events raised and not yet taken by the recorder -/
  raised : List Ev := []
  /-- everything that has left the module -/
  out : List Out := []
  /-- the MODEL's own: how many free values have been used (log entry 5) -/
  freeCount : Nat := 0
deriving DecidableEq, Repr

/-- The state: the module and the commands that wait, first in, first out. -/
structure State where
  mod : Mod := {}
  pending : List Instr := []
deriving DecidableEq, Repr

/-- The state right after reset. -/
def State.reset : State := {}

end Sys2Proof.Machine
end

