-- ==== Sys2Proof/Machine/Objects.lean ====
section
/-!
DEFINITION. The object dictionary's table of objects (every object table of spec/): index and subindex, instances,
type, access, default, and what values a write may carry.
An object is named `index * 256 + subindex`. A row's range is what the object's Meaning states; where it states none, the
type's own range (log entry 7). The logic-engine objects 0x5900 + g ... 0x5960 + g and the pattern filters 0x3400 + f
stand here under g = 0 and f = 0 (`objBase`).
-/
namespace Sys2Proof.Machine

/-- An object without instances holding a number: type, access, default, least and greatest value. -/
def n0 (o : Nat) (ty : ObjTy) (acc : Access) (d lo hi : Nat) : ObjRow :=
  { obj := o, inst := none, ty := ty, acc := acc, dflt := .num d, lo := lo, hi := hi, lenMin := 0, lenMax := 0, lenMul := 1 }

/-- An object with instances `a` to `b` holding a number. -/
def n1 (o a b : Nat) (ty : ObjTy) (acc : Access) (d lo hi : Nat) : ObjRow :=
  { n0 o ty acc d lo hi with inst := some (a, b) }

/-- An object without instances holding octets: access, default, least and greatest length, and what the length divides by. -/
def b0 (o : Nat) (ty : ObjTy) (acc : Access) (d : List Byte) (mn mx mul : Nat) : ObjRow :=
  { obj := o, inst := none, ty := ty, acc := acc, dflt := .oct d, lo := 0, hi := 0, lenMin := mn, lenMax := mx, lenMul := mul }

/-- An object with instances `a` to `b` holding octets. -/
def b1 (o a b : Nat) (ty : ObjTy) (acc : Access) (d : List Byte) (mn mx mul : Nat) : ObjRow :=
  { b0 o ty acc d mn mx mul with inst := some (a, b) }

/-- Objects 0x1000 to 0x10FF (R475). -/
def objRows10 : List ObjRow := [
  n0 0x100000 .u32 .ro 0 0 0xFFFFFFFF,  -- DEVICE_TYPE
  b0 0x100800 .str .ro [89, 75, 45, 49, 48, 50, 52] 0 16 1,  -- DEVICE_NAME
  b0 0x100900 .str .ro [66, 48] 0 16 1,  -- HW_VERSION
  b0 0x100A00 .str .ro [] 0 64 1,  -- SW_VERSION
  n0 0x101801 .u32 .ro 2685 0 0xFFFFFFFF,  -- VENDOR_ID
  n0 0x101802 .u32 .ro 1024 0 0xFFFFFFFF,  -- PRODUCT_CODE
  n0 0x101803 .u32 .ro 176 0 0xFFFFFFFF,  -- REVISION
  n0 0x101804 .u32 .ro 0 0 0xFFFFFFFF,  -- SERIAL
  n0 0x101901 .u8 .ro 0 0 255 ]  -- GRADE

/-- Objects 0x1f00 to 0x1fFF (R475). -/
def objRows1F : List ObjRow := [
  n0 0x1F0001 .u16 .ro 0 0 65535,  -- STAGE_ENTRIES
  n0 0x1F0002 .tick .wo 0 0 0xFFFFFFFFFFFF,  -- COMMIT_TICK
  n0 0x1F0003 .u8 .wo 0 1 1,  -- DISCARD
  n0 0x1F0004 .u32 .ro 0 0 0xFFFFFFFF,  -- COMMIT_ID
  n0 0x1F0005 .u8 .ro 0 0 255,  -- COMMIT_STATE
  n0 0x1F0006 .u32 .ro 0 0 0xFFFFFFFF,  -- COMMIT_ABORT
  n0 0x1F0007 .u32 .wo 0 0 0xFFFFFFFF,  -- CANCEL
  n0 0x1F0008 .u32 .ro 0 0 0xFFFFFFFF,  -- STAGE_BYTES
  n0 0x1F0101 .u8 .ro 0 0 255,  -- PENDING
  n0 0x1F0102 .u32 .ro 0 0 0xFFFFFFFF,  -- APPLIED
  n0 0x1F0103 .u32 .ro 0 0 0xFFFFFFFF,  -- MISSED
  n0 0x1F1001 .u8 .rw 191 0 191,  -- SDO_CHANNEL
  n0 0x1F1002 .u8 .rw 1 1 127,  -- NODE_ID
  n0 0x1F1003 .u16 .rw 500 10 10000,  -- SDO_TIMEOUT
  n0 0x1F1004 .u16 .rw 0 0 65535,  -- SDO_SELECTOR
  n0 0x1F1005 .u32 .ro 0 0 0xFFFFFFFF,  -- SDO_LAST_ABORT
  b1 0x1F2001 0 255 .octs .rw [] 0 8192 2,  -- GROUP
  n0 0x1F3001 .u8 .rw 0 0 1,  -- DTP_ENABLE
  n0 0x1F3002 .u16 .rw 65535 0 65535,  -- DTP_KEY_SLOT
  n0 0x1F3003 .u8 .ro 8 0 255,  -- DTP_SESSIONS
  n0 0x1F3004 .u16 .rw 30 1 3600,  -- DTP_IDLE
  n0 0x1F3005 .u8 .ro 0 0 255,  -- DTP_OPEN
  n0 0x1F3006 .u32 .ro 0 0 0xFFFFFFFF,  -- DTP_AUTH_FAILS
  n0 0x1F3007 .u32 .ro 0 0 0xFFFFFFFF,  -- DTP_SEQ_DISCARDS
  n1 0x1F4001 0 15 .u32 .ro 0 0 0xFFFFFFFF,  -- LOG_ID
  n1 0x1F4002 0 15 .tick .ro 0 0 0xFFFFFFFFFFFF,  -- LOG_TARGET
  n1 0x1F4003 0 15 .u8 .ro 0 0 255,  -- LOG_STATE
  n1 0x1F4004 0 15 .u8 .ro 0 0 255,  -- APPLIED_RANKS
  n1 0x1F4005 0 15 .u32 .ro 0 0 0xFFFFFFFF ]  -- LOG_CODE

/-- Objects 0x2000 to 0x20FF (R42, R544). -/
def objRows20 : List ObjRow := [
  n0 0x200001 .u8 .rws 0 0 1,  -- TICK_RATE
  n0 0x200002 .u8 .rws 8 1 32,  -- ALIGN_DELAY
  n0 0x200003 .u8 .rw 1 0 1,  -- TICK_RUN
  n0 0x201001 .tick .ro 0 0 0xFFFFFFFFFFFF,  -- TICK_NOW
  n0 0x201002 .u16 .ro 0 0 65535,  -- TICK_IN_SECOND
  n0 0x201003 .u8 .ro 0 0 255,  -- PHASE_NOW
  n0 0x201004 .u8 .ro 0 0 255,  -- TICK_STATE
  n0 0x202001 .u8 .ro 0 0 255,  -- ACTIVE_BANK
  b0 0x202002 .octs .rw [] 0 12516 1,  -- INACTIVE_IMAGE
  n0 0x202003 .u8 .wo 0 1 1,  -- CHECK
  n0 0x202004 .u32 .ro 0 0 0xFFFFFFFF,  -- CHECK_RESULT
  n0 0x202005 .tick .rwt 0 0 0xFFFFFFFFFFFF,  -- SWAP_TICK
  n0 0x202006 .u8 .ro 0 0 255,  -- SWAP_STATE
  n0 0x202007 .u32 .ro 0 0 0xFFFFFFFF,  -- ACTIVE_CRC
  n0 0x202008 .u32 .ro 0 0 0xFFFFFFFF,  -- INACTIVE_CRC
  n0 0x202009 .u8 .wo 0 1 1,  -- SWAP_CANCEL
  n0 0x20200A .u8 .wo 0 1 1,  -- STORE
  n0 0x20200B .tick .ro 0 0 0xFFFFFFFFFFFF,  -- LAST_SWAP_TICK
  n0 0x202101 .u16 .ro 0 0 65535,  -- UNBOUND_COUNT
  n0 0x202102 .u16 .ro 65535 0 65535,  -- FIRST_UNBOUND
  n0 0x202103 .u32 .ro 0 0 0xFFFFFFFF,  -- BOUND_MISS_COUNT
  n0 0x203001 .u8 .ro 0 0 255,  -- STARTUP_STEP
  n0 0x203002 .u8 .ro 0 0 255,  -- RESET_CAUSE
  b0 0x203003 .octs .ro [] 40 40 1,  -- STEP_TIMES
  n0 0x203004 .u8 .wo 0 0 255,  -- SW_RESET
  n0 0x203005 .u8 .wo 0 1 1,  -- CONFIG_DONE
  n0 0x203006 .u16 .rw 0 0 10000,  -- WDT_PERIOD
  n0 0x203007 .u8 .wo 0 0 255,  -- WDT_KICK
  n0 0x204001 .u8 .rw 1 0 1,  -- AVS_ENABLE
  n0 0x204002 .u16 .ro 800 0 65535,  -- VCORE_CMD
  n0 0x204003 .u16 .ro 0 0 65535,  -- VCORE_MIN
  n0 0x204004 .u16 .ro 0 0 65535,  -- SLACK_NOW
  n0 0x204005 .u16 .rw 30 0 65535,  -- SLACK_LOW
  n0 0x204006 .u16 .rw 60 0 65535,  -- SLACK_HIGH
  n0 0x204007 .u16 .rw 10 0 65535,  -- SLACK_FLOOR
  n0 0x204008 .u32 .ro 0 0 0xFFFFFFFF,  -- AVS_COMMANDS
  n0 0x204009 .u32 .ro 0 0 0xFFFFFFFF,  -- AVSBUS_ERRORS
  n0 0x205001 .i16 .ro 0 0 65535,  -- SYSCLK_PPM
  n0 0x205002 .u16 .ro 0 0 65535,  -- REFCLK_OK
  n0 0x205003 .u8 .ro 0 0 255,  -- PLL_LOCK
  n1 0x206001 0 15 .f32 .ro 0 0 0xFFFFFFFF,  -- TEMP
  n0 0x206002 .f32 .ro 0 0 0xFFFFFFFF,  -- TEMP_MAX
  n0 0x206003 .f32 .rw 0x42be0000 0 0xFFFFFFFF,  -- TEMP_WARN
  n0 0x206004 .f32 .rw 0x42dc0000 0 0xFFFFFFFF,  -- TEMP_TRIP
  n0 0x206005 .f32 .ro 0 0 0xFFFFFFFF ]  -- TEMP_PEAK

/-- Objects 0x3000 to 0x30FF (R329). -/
def objRows30 : List ObjRow := [
  n0 0x300001 .u32 .ro 0x18000 0 0xFFFFFFFF,  -- CELLS_TOTAL
  n0 0x300002 .u32 .ro 0x18000 0 0xFFFFFFFF,  -- CELLS_FREE
  n0 0x300003 .u32 .ro 8192 0 0xFFFFFFFF,  -- SC0_RESERVE
  n0 0x300004 .u32 .ro 0 0 0xFFFFFFFF,  -- SC0_CELLS
  n0 0x300005 .u16 .ro 0 0 65535,  -- BUF_LOAD
  n0 0x300006 .u16 .ro 0 0 65535,  -- BUF_LOAD_NOW
  n0 0x300007 .u32 .ro 0 0 0xFFFFFFFF,  -- SC0_DROPS
  n0 0x300008 .u32 .ro 0 0 0xFFFFFFFF,  -- ECC_CORRECTED
  n0 0x300009 .u32 .ro 0 0 0xFFFFFFFF,  -- ECC_UNCORRECTED
  n0 0x30000A .u32 .ro 0 0 0xFFFFFFFF,  -- C_IN
  n0 0x30000B .u32 .ro 0 0 0xFFFFFFFF,  -- C_OUT
  n0 0x30000C .u32 .ro 0 0 0xFFFFFFFF,  -- SC0_OVER_TICKS
  n0 0x30000D .u32 .rw 16384 0 0x16000,  -- MIRROR_FLOOR
  n0 0x30000E .u32 .ro 0 0 0xFFFFFFFF,  -- SC0_OFFERED_MAX
  n1 0x300101 0 7 .u8 .rw 0 2 7,  -- PCP_CLASS
  n0 0x300102 .u8 .rw 6 2 7,  -- UNTAGGED_CLASS
  b0 0x300103 .octs .rwt [] 0 64 4,  -- TRIP_APPIDS
  n1 0x300201 2 7 .u16 .rw 0 1518 65535,  -- QUANTUM
  n1 0x300202 3 7 .u16 .rw 0 0 65535,  -- AGE_THRESH
  n1 0x300203 1 7 .u8 .rw 16 1 64,  -- ALPHA
  n1 0x301001 0 767 .u8 .rwt 10 1 50,  -- SC0_RATE
  n1 0x301002 0 866 .u8 .rw 1 0 1,  -- CUT_THROUGH
  n1 0x301003 0 866 .u8 .ro 0 0 255,  -- PORT_UP
  n1 0x301004 0 866 .u32 .ro 0 0 0xFFFFFFFF,  -- RATE
  n1 0x301010 0 866 .u32 .ro 0 0 0xFFFFFFFF,  -- TX_FRAMES
  n1 0x301011 0 866 .u32 .ro 0 0 0xFFFFFFFF,  -- QUEUE_DROPS
  n1 0x301012 0 866 .u32 .ro 0 0 0xFFFFFFFF,  -- FLUSHED
  n1 0x301013 0 866 .u32 .ro 0 0 0xFFFFFFFF,  -- DOWN_DROPS
  n1 0x301014 0 866 .u32 .ro 0 0 0xFFFFFFFF,  -- PROMOTED
  n1 0x301015 0 866 .u32 .ro 0 0 0xFFFFFFFF,  -- SC0_DEMOTED
  n1 0x301016 0 866 .u32 .ro 0 0 0xFFFFFFFF,  -- CT_FRAMES
  n1 0x301017 0 866 .u32 .ro 0 0 0xFFFFFFFF,  -- CT_BAD
  n1 0x301018 0 866 .u32 .ro 0 0 0xFFFFFFFF,  -- BW_DROPS
  b1 0x301020 0 866 .octs .ro (List.replicate 32 0) 32 32 1,  -- QUEUE_CELLS
  n1 0x301021 0 866 .u32 .ro 0 0 0xFFFFFFFF,  -- HOL_AGE_MAX
  n1 0x302001 0 7 .u8 .rw 0 0 1,  -- ENABLE
  b1 0x302002 0 7 .octs .rw [] 0 128 2,  -- SOURCES
  n1 0x302003 0 7 .u8 .rw 0 0 2,  -- DIRECTION
  n1 0x302004 0 7 .u16 .rw 65535 0 65535,  -- DEST
  n1 0x302005 0 7 .u16 .rw 1 1 65535,  -- SAMPLE_N
  n1 0x302006 0 7 .u16 .rw 0 0 65535,  -- TRUNCATE
  n1 0x302007 0 7 .u32 .ro 0 0 0xFFFFFFFF,  -- MIRRORED
  n1 0x302008 0 7 .u32 .ro 0 0 0xFFFFFFFF ]  -- MIRROR_DROPS

/-- Objects 0x3100 to 0x31FF (R374). -/
def objRows31 : List ObjRow := [
  n1 0x310001 0 191 .u8 .rw 0 0 7,  -- MODE
  n1 0x310002 0 191 .u8 .rw 0 0 2,  -- FEC
  n1 0x310003 0 191 .u8 .rw 1 0 1,  -- AN_ENABLE
  n1 0x310004 0 191 .u8 .rw 0 0 255,  -- POLARITY
  n1 0x310005 0 191 .u8 .ro 0 0 255,  -- LOCK
  n1 0x310006 0 191 .u8 .rw 0 0 1,  -- EQ_FREEZE
  n1 0x310007 0 191 .u8 .ro 0 0 255,  -- CTLE
  b1 0x310008 0 191 .octs .ro (List.replicate 5 0) 5 5 1,  -- DFE
  n1 0x310009 0 191 .u16 .ro 0 0 65535,  -- EYE_HEIGHT
  n1 0x31000A 0 191 .u16 .ro 0 0 65535,  -- EYE_WIDTH
  n1 0x31000B 0 191 .u16 .rw 0 0 65535,  -- EYE_WARN
  n1 0x31000C 0 191 .u32 .ro 0 0 0xFFFFFFFF ]  -- LOCK_LOSSES

/-- Objects 0x3200 to 0x32FF (R374). -/
def objRows32 : List ObjRow := [
  n1 0x320001 0 767 .u8 .rw 1 0 1,  -- ENABLE
  n1 0x320002 0 767 .u8 .ro 0 0 255,  -- STATE
  n1 0x320003 0 767 .u8 .rw 0 0 1,  -- DORMANT
  n1 0x320004 0 767 .u16 .rw 1000 0 65535,  -- LINK_UP_TIME
  n1 0x320005 0 767 .u16 .rw 1522 64 9216,  -- MAX_FRAME
  n1 0x320006 0 767 .u8 .rw 0 0 1,  -- PROCESS_BUS
  n1 0x320007 0 767 .u8 .rw 0 0 1,  -- PAUSE_TX
  n1 0x320008 0 767 .u8 .rw 1 0 1,  -- PAUSE_RX
  n1 0x320009 0 767 .u32 .rw 256 0 0xFFFFFFFF,  -- PAUSE_HIGH
  n1 0x32000A 0 767 .u32 .rw 128 0 0xFFFFFFFF,  -- PAUSE_LOW
  n1 0x32000B 0 767 .u16 .rw 65535 0 65535,  -- PAUSE_QUANTA
  n1 0x32000C 0 767 .u16 .rw 1 1 4094,  -- PVID
  n1 0x32000D 0 767 .u8 .rw 0 0 2,  -- TAG_MODE
  n1 0x32000E 0 767 .u8 .rw 0 0 2,  -- ACCEPT
  n1 0x32000F 0 767 .u16 .rw 34984 0 65535,  -- S_TPID
  n1 0x320010 0 767 .u8 .rw 1 0 1,  -- UNTAG_PVID
  n1 0x320011 0 767 .u8 .rw 0 0 7,  -- DEFAULT_PCP
  n1 0x320012 0 767 .u8 .rw 0 0 2,  -- REDUNDANCY
  n1 0x320013 0 767 .i32 .rw 0 0 0xFFFFFFFF,  -- TS_RX_OFFSET
  n1 0x320014 0 767 .i32 .rw 0 0 0xFFFFFFFF,  -- TS_TX_OFFSET
  b1 0x320015 0 767 .octs .ro [] 0 64 1,  -- TX_TS_NEXT
  n1 0x320016 0 767 .u32 .ro 0 0 0xFFFFFFFF,  -- INGRESS_OCC
  n1 0x320020 0 767 .u32 .ro 0 0 0xFFFFFFFF,  -- RX_FRAMES
  n1 0x320021 0 767 .u32 .ro 0 0 0xFFFFFFFF,  -- RX_FCS_ERRORS
  n1 0x320022 0 767 .u32 .ro 0 0 0xFFFFFFFF,  -- RX_RUNTS
  n1 0x320023 0 767 .u32 .ro 0 0 0xFFFFFFFF,  -- RX_OVERSIZE
  n1 0x320024 0 767 .u32 .ro 0 0 0xFFFFFFFF,  -- RX_MAC_CONTROL
  n1 0x320025 0 767 .u32 .ro 0 0 0xFFFFFFFF,  -- TX_PAUSE
  n1 0x320026 0 767 .u32 .ro 0 0 0xFFFFFFFF,  -- PAUSE_IGNORED
  n1 0x320027 0 767 .u32 .ro 0 0 0xFFFFFFFF,  -- VLAN_DROPS
  n1 0x320028 0 767 .u32 .ro 0 0 0xFFFFFFFF,  -- TX_OVERSIZE
  n1 0x320029 0 767 .u32 .ro 0 0 0xFFFFFFFF,  -- LINK_DOWNS
  n1 0x32002A 0 767 .u32 .ro 0 0 0xFFFFFFFF,  -- DORMANT_ADMITS
  n1 0x32002B 0 767 .u32 .ro 0 0 0xFFFFFFFF ]  -- TX_TS_LOST

/-- Objects 0x3300 to 0x33FF (R374). -/
def objRows33 : List ObjRow := [
  n1 0x330001 0 63 .u8 .rwt 0 0 1,  -- ENABLE
  n1 0x330002 0 63 .u16 .rwt 65535 0 65535,  -- PORT_A
  n1 0x330003 0 63 .u16 .rwt 65535 0 65535,  -- PORT_B
  n1 0x330004 0 63 .u16 .rw 400 10 1000,  -- FORGET_TIME
  n1 0x330005 0 63 .u32 .ro 0 0 0xFFFFFFFF,  -- DUPLICATES
  n1 0x330006 0 63 .u32 .ro 0 0 0xFFFFFFFF,  -- OWN_REMOVED
  n1 0x330007 0 63 .u32 .ro 0 0 0xFFFFFFFF,  -- UNTAGGED_DROPS
  n1 0x330008 0 63 .u16 .ro 0 0 65535,  -- SEQ
  n1 0x330009 0 63 .u32 .ro 0 0 0xFFFFFFFF,  -- EVICTIONS
  n1 0x338001 0 383 .u8 .rwt 0 0 1,  -- ENABLE
  n1 0x338002 0 383 .u16 .rwt 65535 0 65535,  -- PORT_A
  n1 0x338003 0 383 .u16 .rwt 65535 0 65535,  -- PORT_B
  n1 0x338004 0 383 .u8 .rwt 0 0 255,  -- PEER_MODULE
  n1 0x338005 0 383 .u16 .rwt 65535 0 65535,  -- PEER_PORT
  n1 0x338006 0 383 .u16 .rw 400 10 1000,  -- FORGET_TIME
  n1 0x338007 0 383 .u32 .ro 0 0 0xFFFFFFFF,  -- DUPLICATES
  n1 0x338008 0 383 .u32 .ro 0 0 0xFFFFFFFF,  -- WRONG_LAN
  n1 0x338009 0 383 .u32 .ro 0 0 0xFFFFFFFF ]  -- EVICTIONS

/-- Objects 0x3400 to 0x34FF (R374). -/
def objRows34 : List ObjRow := [
  b1 0x340001 0 767 .octs .rw (List.replicate 16 0) 16 16 1,  -- MASK
  n1 0x340002 0 767 .u16 .rw 0 0 65535,  -- CHECK
  n1 0x340003 0 767 .u8 .rw 0 0 255,  -- ACTION
  n1 0x340004 0 767 .u32 .ro 0 0 0xFFFFFFFF ]  -- HITS

/-- Objects 0x3500 to 0x35FF (R374). -/
def objRows35 : List ObjRow := [
  n1 0x350001 0 11 .u16 .rw 10 0 1000,  -- GATE_DELAY
  n1 0x350002 0 11 .u8 .ro 0 0 255,  -- GATED
  n1 0x350003 0 11 .u32 .ro 0 0 0xFFFFFFFF ]  -- WAKES

/-- Objects 0x3800 to 0x38FF (R344). -/
def objRows38 : List ObjRow := [
  n0 0x380001 .u32 .ro 0 0 0xFFFFFFFF,  -- MAC_ENTRIES
  n0 0x380002 .u32 .ro 0 0 0xFFFFFFFF,  -- MAC_STATIC
  n0 0x380003 .u16 .rw 60 1 3600,  -- SWEEP_INTERVAL
  n0 0x380004 .u32 .ro 0 0 0xFFFFFFFF,  -- LEARN_FAILS
  n0 0x380005 .u32 .ro 0 0 0xFFFFFFFF,  -- STATIC_MOVE_DROPS
  n0 0x380006 .u32 .ro 0 0 0xFFFFFFFF,  -- REMOVED
  n0 0x380007 .u32 .ro 0 0 0xFFFFFFFF,  -- MOVES
  n0 0x380008 .u16 .wo 0 0 65535,  -- FLUSH_PORT
  b0 0x380009 .octs .rw (List.replicate 6 0) 6 6 1,  -- ROUTER_MAC
  n0 0x38000A .u32 .ro 0 0 0xFFFFFFFF,  -- UNKNOWN_DROPS
  n0 0x38000B .u32 .ro 0 0 0xFFFFFFFF,  -- MC_SOURCE
  n0 0x381001 .u16 .rw 0 0 4095,  -- KEY_CONTEXT
  b0 0x381002 .octs .rw (List.replicate 6 0) 6 6 1,  -- KEY_MAC
  n0 0x381003 .u16 .rw 0 0 65535,  -- DEST
  n0 0x381004 .u8 .rw 0 0 255,  -- FLAGS
  n0 0x381005 .u8 .wo 0 0 255,  -- OP
  n0 0x381006 .u8 .ro 0 0 255,  -- RESULT
  b0 0x381007 .octs .ro [] 0 16 1 ]  -- DUMP_NEXT

/-- Objects 0x3900 to 0x39FF (R344). -/
def objRows39 : List ObjRow := [
  b1 0x390001 1 4094 .octs .rw (List.replicate 109 0) 109 109 1,  -- MEMBERS
  n1 0x390002 1 4094 .u16 .rw 0 0 4095,  -- CONTEXT
  n1 0x390003 1 4094 .u8 .rw 1 0 1,  -- LEARN
  n1 0x390004 1 4094 .u8 .rw 1 0 1,  -- UNKNOWN_UC
  n1 0x390005 1 4094 .u8 .rw 0 0 1,  -- UNKNOWN_MC
  n1 0x390006 1 4094 .u16 .rw 65535 0 65535,  -- FLOOD_GROUP
  n1 0x390007 1 4094 .u8 .rw 0 0 1,  -- ROUTE
  b1 0x392001 0 4095 .octs .rw [] 0 128 2 ]  -- PORTS

/-- Objects 0x3a00 to 0x3aFF (R344). -/
def objRows3A : List ObjRow := [
  n0 0x3A0001 .u32 .ro 0 0 0xFFFFFFFF,  -- ROUTE_UNITS
  n0 0x3A0002 .u32 .ro 0 0 0xFFFFFFFF,  -- ROUTED_FRAMES
  n0 0x3A0003 .u32 .ro 0 0 0xFFFFFFFF,  -- NO_ROUTE_DROPS
  n0 0x3A0004 .u32 .ro 0 0 0xFFFFFFFF,  -- TO_SUPERVISOR
  n0 0x3A1001 .u8 .rw 4 0 255,  -- FAMILY
  b0 0x3A1002 .octs .rw [] 0 16 4,  -- PREFIX
  n0 0x3A1003 .u8 .rw 0 0 128,  -- LENGTH
  n0 0x3A1004 .u16 .rw 0 0 65535,  -- NEXT_HOP
  n0 0x3A1005 .u8 .wo 0 0 255,  -- OP
  n0 0x3A1006 .u8 .ro 0 0 255,  -- RESULT
  n1 0x3A2001 0 16383 .u16 .rw 65535 0 65535,  -- NH_PORT
  n1 0x3A2002 0 16383 .u16 .rw 1 1 4094,  -- NH_VLAN
  b1 0x3A2003 0 16383 .octs .rw (List.replicate 6 0) 6 6 1,  -- NH_MAC
  b1 0x3A3001 0 15 .octs .rw [] 0 16 4 ]  -- LOCAL_ADDR

/-- Objects 0x3b00 to 0x3bFF (R344). -/
def objRows3B : List ObjRow := [
  n1 0x3B0001 0 4095 .u32 .rw 0 0 0xFFFFFFFF,  -- ACTIONS
  n1 0x3B0002 0 4095 .u16 .rw 65535 0 65535,  -- IN_PORT
  n1 0x3B0003 0 4095 .u16 .rw 0 0 65535,  -- VLAN
  n1 0x3B0004 0 4095 .u32 .rw 0 0 0xFFFFFFFF,  -- ETHERTYPE
  b1 0x3B0005 0 4095 .octs .rw (List.replicate 12 0) 12 12 1,  -- DST_MAC
  b1 0x3B0006 0 4095 .octs .rw (List.replicate 12 0) 12 12 1,  -- SRC_MAC
  n1 0x3B0007 0 4095 .u32 .rw 0 0 0xFFFFFFFF,  -- APPID
  b1 0x3B0008 0 4095 .octs .rw [] 0 17 1,  -- IP_DST
  n1 0x3B0009 0 4095 .u16 .rw 0 0 65535,  -- IP_PROTO
  n1 0x3B000A 0 4095 .u32 .rw 65535 0 0xFFFFFFFF,  -- L4_DST
  n1 0x3B000B 0 4095 .u16 .rw 0 0 65535,  -- REDIRECT_DEST
  n1 0x3B000C 0 4095 .u32 .ro 0 0 0xFFFFFFFF ]  -- HITS

/-- Objects 0x3c00 to 0x3cFF (R398). -/
def objRows3C : List ObjRow := [
  n0 0x3C0001 .u8 .ro 0 0 255,  -- TIME_STATE
  n0 0x3C0002 .u8 .ro 255 0 255,  -- SELECTED
  n0 0x3C0003 .i64 .ro 0 0 0xFFFFFFFFFFFFFFFF,  -- OFFSET
  n0 0x3C0004 .u8 .ro 127 0 255,  -- TIME_QUALITY
  n0 0x3C0005 .u32 .rw 1800 1 0x15180,  -- HOLDOVER_LIMIT
  n0 0x3C0006 .u16 .rw 100 10 200,  -- MAX_SLEW
  n0 0x3C0007 .u8 .rwt 1 0 1,  -- STEP_ENABLE
  n0 0x3C0008 .u8 .rw 1 0 1,  -- REVERTIVE
  n0 0x3C0009 .i16 .rw 37 0 65535,  -- UTC_OFFSET
  n0 0x3C000A .u8 .ro 0 0 255,  -- LEAP_PENDING
  n0 0x3C000B .u64 .wo 0 0 0xFFFFFFFFFFFFFFFF,  -- TOD_SET
  n0 0x3C000C .u32 .ro 0 0 0xFFFFFFFF,  -- HOLDOVER_TIME
  n0 0x3C000D .u32 .ro 0 0 0xFFFFFFFF,  -- STEPS
  n0 0x3C000E .i64 .ro 0 0 0xFFFFFFFFFFFFFFFF,  -- LAST_STEP
  n0 0x3C000F .u8 .ro 0 0 255,  -- LEADER
  n0 0x3C0010 .u8 .ro 0 0 255,  -- FOLLOWING
  n0 0x3C0011 .u32 .rw 1000 0 0xFFFFFFFF,  -- TRIAD_DEV
  n1 0x3C1001 0 3 .u8 .ro 0 0 255,  -- TYPE
  n1 0x3C1002 0 3 .u8 .rw 255 0 255,  -- PRIORITY
  n1 0x3C1003 0 3 .u8 .ro 0 0 255,  -- QSTATE
  n1 0x3C1004 0 3 .i64 .ro 0 0 0xFFFFFFFFFFFFFFFF,  -- SRC_OFFSET
  n1 0x3C1005 0 3 .tick .ro 0 0 0xFFFFFFFFFFFF,  -- QUALIFIED_TICK
  n1 0x3C1006 0 3 .u32 .ro 0 0 0xFFFFFFFF,  -- LOSSES
  n0 0x3C2001 .u8 .rw 0 0 2,  -- IN1_MODE
  n0 0x3C2002 .u8 .rw 0 0 1,  -- IRIG_CF
  n0 0x3C2003 .i32 .rw 0 0 0xFFFFFFFF,  -- IRIG_OFFSET
  n0 0x3C2004 .u16 .rw 0 0 65535,  -- IRIG_YEAR
  n0 0x3C2005 .i32 .rw 0 0 0xFFFFFFFF,  -- IN_DELAY0
  n0 0x3C2006 .i32 .rw 0 0 0xFFFFFFFF,  -- IN_DELAY1
  n0 0x3C2007 .u8 .ro 0 0 255,  -- REF10M_STATE
  n1 0x3C3001 0 1 .u8 .rw 1 0 2,  -- MODE
  n1 0x3C3002 0 1 .i32 .rw 0 0 0xFFFFFFFF,  -- OFFSET
  n1 0x3C3003 0 1 .u16 .rw 100 1 500 ]  -- WIDTH

/-- Objects 0x3d00 to 0x3dFF (R398). -/
def objRows3D : List ObjRow := [
  n1 0x3D0001 0 1 .u8 .rws 0 0 1,  -- ENABLE
  n1 0x3D0002 0 1 .u8 .rws 0 0 1,  -- PROFILE
  n1 0x3D0003 0 1 .u8 .rws 0 0 255,  -- DOMAIN
  b1 0x3D0004 0 1 .octs .rws [] 0 32 2,  -- PORTS
  n1 0x3D0005 0 1 .u8 .rws 0 0 2,  -- MODE
  n1 0x3D0006 0 1 .u8 .rw 128 0 255,  -- PRIORITY1
  n1 0x3D0007 0 1 .u8 .rw 128 0 255,  -- PRIORITY2
  n1 0x3D0008 0 1 .u8 .rws 1 0 1,  -- ONE_STEP
  n1 0x3D0009 0 1 .u16 .rws 0 0 4094,  -- VLAN_ID
  n1 0x3D000A 0 1 .u8 .rw 4 0 7,  -- PCP
  n1 0x3D000B 0 1 .u8 .rw 7 0 255,  -- CLASS_MAX
  b1 0x3D000C 0 1 .octs .ro [] 0 8 1,  -- GM_IDENTITY
  n1 0x3D000D 0 1 .u16 .ro 0 0 65535,  -- STEPS_REMOVED
  n1 0x3D000E 0 1 .u16 .rw 50 0 65535,  -- LOCAL_INACCURACY
  n1 0x3D4001 0 767 .u8 .ro 1 0 255,  -- PORT_STATE
  n1 0x3D4002 0 767 .u32 .ro 0 0 0xFFFFFFFF,  -- PEER_DELAY
  n1 0x3D4003 0 767 .i32 .rw 0 0 0xFFFFFFFF,  -- ASYMMETRY
  n0 0x3D8001 .u8 .rw 1 0 1 ]  -- TC_ENABLE

/-- Objects 0x4000 to 0x40FF (R67). -/
def objRows40 : List ObjRow := [
  n0 0x400001 .u16 .ro 0 0 65535,  -- STREAMS_ENABLED
  n0 0x400002 .u32 .ro 0 0 0xFFFFFFFF,  -- UNKNOWN_FRAMES
  n0 0x400003 .u32 .ro 0 0 0xFFFFFFFF,  -- MALFORMED_FRAMES
  n0 0x400004 .u32 .ro 0 0 0xFFFFFFFF,  -- OVERRUN_FRAMES
  n0 0x400005 .u16 .rws 102 0 65535,  -- RSV_UDP_PORT
  n1 0x401001 0 2047 .u8 .rwt 0 0 1,  -- ENABLE
  b1 0x401002 0 2047 .octs .rws (List.replicate 6 0) 6 6 1,  -- DST_MAC
  n1 0x401003 0 2047 .u16 .rws 0 0 4094,  -- VLAN_ID
  n1 0x401004 0 2047 .u16 .rws 16384 0 65535,  -- APPID
  b1 0x401005 0 2047 .str .rws [] 1 64 1,  -- SVID
  n1 0x401006 0 2047 .u32 .rws 1 0 0xFFFFFFFF,  -- CONF_REV
  n1 0x401007 0 2047 .u8 .rws 0 0 1,  -- RATE
  n1 0x401008 0 2047 .u8 .rws 1 1 8,  -- ASDUS
  n1 0x401009 0 2047 .u8 .rws 8 1 16,  -- VALUES
  n1 0x40100A 0 2047 .u16 .rws 0 0 16383,  -- CHAN_BASE
  n1 0x40100B 0 2047 .u8 .rws 2 0 2,  -- SYNC_REQ
  n1 0x40100C 0 2047 .u8 .rws 1 0 1,  -- SYNC_POLICY
  n1 0x40100D 0 2047 .u8 .rws 0 0 1,  -- TEST_ACCEPT
  n1 0x40100E 0 2047 .u8 .rws 0 0 1,  -- SIM_ACCEPT
  n1 0x40100F 0 2047 .u8 .rws 0 0 2,  -- TRANSPORT
  n1 0x401010 0 2047 .u8 .rws 0 0 2,  -- AUTH
  n1 0x401011 0 2047 .u16 .rws 0 0 511,  -- KEY_SLOT_A
  n1 0x401012 0 2047 .u16 .rws 0 0 511,  -- KEY_SLOT_B
  b1 0x401013 0 2047 .octs .rws [] 0 16 4,  -- SRC_ADDR
  n1 0x401014 0 2047 .u16 .rws 24 1 4800,  -- LOSS_TICKS
  n1 0x401015 0 2047 .u8 .ro 0 0 255,  -- STATE
  b1 0x401016 0 2047 .octs .ro [] 0 8 1,  -- GM_IDENTITY
  n1 0x401020 0 2047 .u32 .ro 0 0 0xFFFFFFFF,  -- FRAMES_OK
  n1 0x401021 0 2047 .u32 .ro 0 0 0xFFFFFFFF,  -- LATE_SAMPLES
  n1 0x401022 0 2047 .u32 .ro 0 0 0xFFFFFFFF,  -- EARLY_SAMPLES
  n1 0x401023 0 2047 .u32 .ro 0 0 0xFFFFFFFF,  -- DUPLICATES
  n1 0x401024 0 2047 .u32 .ro 0 0 0xFFFFFFFF,  -- SHAPE_ERRORS
  n1 0x401025 0 2047 .u32 .ro 0 0 0xFFFFFFFF,  -- SIM_DISCARDS
  n1 0x401026 0 2047 .u32 .ro 0 0 0xFFFFFFFF,  -- DUP_MISMATCH
  n1 0x401027 0 2047 .u32 .ro 0 0 0xFFFFFFFF,  -- AUTH_FAILS
  n1 0x401028 0 2047 .u32 .ro 0 0 0xFFFFFFFF,  -- REPLAYS
  n1 0x401029 0 2047 .u32 .ro 0 0 0xFFFFFFFF,  -- MISSING_TICKS
  n1 0x402001 0 16383 .u16 .ro 65535 0 65535,  -- STREAM
  n1 0x402002 0 16383 .u8 .rwt 0 0 2,  -- KIND
  n1 0x402003 0 16383 .u8 .rwt 0 0 2,  -- SUBST
  n1 0x402004 0 16383 .u16 .rwt 48 1 4800,  -- HOLD_LIMIT
  n1 0x402005 0 16383 .f32 .rwt 0x3f800000 0 0xFFFFFFFF,  -- SCALE
  n1 0x402006 0 16383 .u8 .ro 64 0 255 ]  -- LAST_FLAGS

/-- Objects 0x4400 to 0x44FF (R97). -/
def objRows44 : List ObjRow := [
  n0 0x440001 .u32 .ro 0 0 0xFFFFFFFF,  -- POOL_USED
  n0 0x440002 .u32 .ro 0x100000 0 0xFFFFFFFF,  -- POOL_SIZE
  n1 0x441001 0 16383 .u8 .rwt 1 0 63,  -- PROFILE
  n1 0x441002 0 16383 .u8 .rwt 3 0 8,  -- SHIFT
  n1 0x441003 0 16383 .u8 .rwt 1 0 1,  -- DCB_ENABLE
  n1 0x441004 0 16383 .u16 .rwt 2000 10 10000,  -- DCB_TAU
  n1 0x441005 0 16383 .u32 .rwt 0 0 0xFFFFFFFF,  -- FREEZE_SRC
  n1 0x441006 0 16383 .u8 .rwt 0 0 1,  -- SW_FREEZE
  n1 0x441007 0 16383 .f32 .ro 0 0 0xFFFFFFFF,  -- DC_ESTIMATE
  n1 0x441008 0 16383 .u8 .ro 0 0 255,  -- STATUS
  n1 0x441009 0 16383 .u32 .ro 0 0 0xFFFFFFFF,  -- SAT_COUNT
  n1 0x44100A 0 16383 .f32 .ro 0 0 0xFFFFFFFF,  -- GROUP_DELAY
  n1 0x44100B 0 16383 .u32 .ro 0 0 0xFFFFFFFF,  -- ALPHA
  n1 0x442001 0 63 .u8 .rws 0 0 1,  -- RATE
  n1 0x442002 0 63 .u8 .rws 1 1 8,  -- DIVISOR
  n1 0x442003 0 63 .u16 .rws 96 1 288,  -- TAPS_MAX
  n1 0x442004 0 63 .u8 .ro 0 0 255,  -- ACTIVE_BANK
  n1 0x442005 0 63 .u16 .ro 0 0 65535,  -- ACTIVE_TAPS
  n1 0x442006 0 63 .u32 .ro 0 0 0xFFFFFFFF,  -- ACTIVE_CRC
  n1 0x442007 0 63 .u16 .rw 0 0 65535,  -- INACTIVE_TAPS
  b1 0x442008 0 63 .octs .rw [] 0 576 1,  -- INACTIVE_COEFFS
  n1 0x442009 0 63 .u32 .ro 0 0 0xFFFFFFFF,  -- INACTIVE_CRC
  n1 0x44200A 0 63 .u8 .wo 0 1 1,  -- CHECK
  n1 0x44200B 0 63 .u32 .ro 0 0 0xFFFFFFFF,  -- CHECK_RESULT
  n1 0x44200C 0 63 .tick .rwt 0 0 0xFFFFFFFFFFFF,  -- SWAP_TICK
  n1 0x44200D 0 63 .u8 .ro 0 0 255,  -- SWAP_STATE
  n1 0x44200E 0 63 .u8 .wo 0 1 1,  -- SWAP_CANCEL
  n1 0x44200F 0 63 .u8 .wo 0 1 1,  -- SWAP_NOW
  n1 0x442010 0 63 .u16 .ro 0 0 65535,  -- USERS
  b1 0x442011 0 63 .octs .ro [] 0 576 1,  -- ACTIVE_COEFFS
  n1 0x442012 0 63 .u8 .wo 0 1 1,  -- STORE
  b1 0x442013 0 63 .octs .ro [] 0 576 1,  -- TRIPLE_COEFFS
  n1 0x442014 0 63 .u16 .ro 0 0 65535,  -- TRIPLE_TAPS
  n1 0x442015 0 63 .u32 .ro 0 0 0xFFFFFFFF,  -- TRIPLE_CRC
  n0 0x443001 .u16 .ro 0 0 65535,  -- MIXED_DELAY
  n0 0x443002 .u16 .ro 65535 0 65535,  -- FIRST_MIXED_DELAY
  n0 0x443003 .u16 .ro 0 0 65535,  -- MIXED_BLOCKER
  n0 0x443004 .u16 .ro 65535 0 65535 ]  -- FIRST_MIXED_BLOCKER

/-- Objects 0x4500 to 0x45FF (R121). -/
def objRows45 : List ObjRow := [
  n0 0x450001 .u32 .ro 0 0 0xFFFFFFFF,  -- PH_POOL_USED
  n0 0x450002 .u32 .ro 0x200000 0 0xFFFFFFFF,  -- PH_POOL_SIZE
  n0 0x450003 .u8 .rws 0 0 1,  -- F_NOMINAL
  n1 0x451001 0 16383 .u8 .rwt 0 0 1,  -- PH_ENABLE
  n1 0x451002 0 16383 .u8 .rwt 1 0 2,  -- WINDOW
  n1 0x451003 0 16383 .u8 .rwt 0 0 255,  -- REF_GROUP
  n1 0x451004 0 16383 .u8 .rwt 1 0 1,  -- GAIN_CORR
  n1 0x451005 0 16383 .f32 .ro 0 0 0xFFFFFFFF,  -- MAG
  n1 0x451006 0 16383 .f32 .ro 0 0 0xFFFFFFFF,  -- ANGLE
  n1 0x451007 0 16383 .u32 .ro 0 0 0xFFFFFFFF,  -- PH_STATUS
  n1 0x452001 0 255 .u8 .rwt 0 0 1,  -- ENABLE
  n1 0x452002 0 255 .u8 .rwt 0 0 1,  -- SRC_MODE
  n1 0x452003 0 255 .u16 .rwt 0 0 65535,  -- SRC
  n1 0x452004 0 255 .f32 .rwt 0x447a0000 0 0xFFFFFFFF,  -- SIG_MIN
  n1 0x452005 0 255 .u8 .rwt 5 1 20,  -- BANDWIDTH
  n1 0x452006 0 255 .u8 .rwt 4 1 64,  -- LOS_TICKS
  n1 0x452007 0 255 .u16 .rwt 9600 1 65535,  -- HOLD_LIMIT
  n1 0x452008 0 255 .u16 .rwt 65535 0 65535,  -- FALLBACK
  n1 0x452009 0 255 .u16 .rwt 96 1 4800,  -- ROCOF_WINDOW
  n1 0x45200A 0 255 .u8 .ro 0 0 255,  -- STATE
  n1 0x45200B 0 255 .f32 .ro 0x42480000 0 0xFFFFFFFF,  -- FREQ
  n1 0x45200C 0 255 .f32 .ro 0 0 0xFFFFFFFF,  -- ROCOF
  n1 0x45200D 0 255 .u32 .ro 0 0 0xFFFFFFFF,  -- KP
  n1 0x45200E 0 255 .u32 .ro 0 0 0xFFFFFFFF,  -- KI
  n1 0x45200F 0 255 .u32 .ro 0 0 0xFFFFFFFF,  -- LOCK_LOSSES
  n1 0x453001 0 4095 .u16 .rwt 65535 0 65535,  -- PHASE_A
  n1 0x453002 0 4095 .u16 .rwt 65535 0 65535,  -- PHASE_B
  n1 0x453003 0 4095 .u16 .rwt 65535 0 65535,  -- PHASE_C
  n1 0x453004 0 4095 .u8 .rwt 0 0 1,  -- ROTATION
  n1 0x453005 0 4095 .u8 .rwt 0 0 1,  -- ENABLE
  b1 0x454001 0 63 .octs .ro [] 0 484 1,  -- GAIN_TABLE
  b1 0x454002 0 63 .octs .ro [] 0 484 1 ]  -- GAIN_TABLE_TRIPLE

/-- Objects 0x4800 to 0x48FF (R151). -/
def objRows48 : List ObjRow := [
  n0 0x480001 .u16 .ro 0 0 65535,  -- SLOTS_USED
  n0 0x480002 .u16 .ro 65535 0 65535,  -- REFUSED_SLOT
  n0 0x480003 .u8 .ro 0 0 255,  -- REFUSED_CAUSE
  n0 0x480004 .u32 .ro 0 0 0xFFFFFFFF,  -- E_TIME
  n1 0x481001 0 4095 .u8 .rwt 0 0 255,  -- TYPE
  n1 0x481002 0 4095 .u16 .rwt 0 0 65535,  -- MODE
  n1 0x481003 0 4095 .u32 .rwt 0 0 0xFFFFFFFF,  -- SRC_A
  n1 0x481004 0 4095 .u32 .rwt 0 0 0xFFFFFFFF,  -- SRC_B
  n1 0x481005 0 4095 .u32 .rwt 0 0 0xFFFFFFFF,  -- SRC_C
  n1 0x481006 0 4095 .u32 .rwt 0 0 0xFFFFFFFF,  -- BLOCK_SRC
  n1 0x481007 0 4095 .f32 .rwt 0 0 0xFFFFFFFF,  -- SET1
  n1 0x481008 0 4095 .f32 .rwt 0 0 0xFFFFFFFF,  -- SET2
  n1 0x481009 0 4095 .f32 .rwt 0 0 0xFFFFFFFF,  -- SET3
  n1 0x48100A 0 4095 .f32 .rwt 0 0 0xFFFFFFFF,  -- SET4
  n1 0x48100B 0 4095 .f32 .rwt 0 0 0xFFFFFFFF,  -- SET5
  n1 0x48100C 0 4095 .f32 .rwt 0 0 0xFFFFFFFF,  -- SET6
  n1 0x48100D 0 4095 .f32 .rwt 0 0 0xFFFFFFFF,  -- SET7
  n1 0x48100E 0 4095 .f32 .rwt 0 0 0xFFFFFFFF,  -- SET8
  n1 0x48100F 0 4095 .f32 .rwt 0x3d4ccccd 0 0xFFFFFFFF,  -- HYST
  n1 0x481010 0 4095 .u16 .rwt 0 0 65535,  -- OP_DELAY
  n1 0x481011 0 4095 .u16 .rwt 0 0 65535,  -- DROP_DELAY
  b1 0x481012 0 4095 .octs .rwt [0, 0, 128, 63, 0, 0, 0, 0] 8 8 1,  -- COMP_A
  b1 0x481013 0 4095 .octs .rwt [0, 0, 128, 63, 0, 0, 0, 0] 8 8 1,  -- COMP_B
  b1 0x481014 0 4095 .octs .rwt [0, 0, 128, 63, 0, 0, 0, 0] 8 8 1,  -- COMP_C
  b1 0x481015 0 4095 .octs .rwt [] 0 256 256,  -- USER_CURVE
  n1 0x481016 0 4095 .u8 .ro 0 0 255,  -- OWNER
  n1 0x481020 0 4095 .u8 .ro 0 0 255,  -- OUT
  n1 0x481021 0 4095 .f32 .ro 0 0 0xFFFFFFFF,  -- VALUE
  n1 0x481022 0 4095 .u32 .ro 0 0 0xFFFFFFFF,  -- TIMER_ACC
  n1 0x481023 0 4095 .u32 .ro 0 0 0xFFFFFFFF,  -- OP_COUNT
  n1 0x481024 0 4095 .tick .ro 0 0 0xFFFFFFFFFFFF,  -- LAST_OP_TICK
  b1 0x481025 0 4095 .octs .ro [] 0 2564 1,  -- INC_TABLE
  b1 0x481026 0 4095 .octs .ro [] 0 1028 1 ]  -- DEC_TABLE

/-- Objects 0x4c00 to 0x4cFF (R422). -/
def objRows4C : List ObjRow := [
  n0 0x4C0001 .u8 .ro 0 0 255,  -- SLOTS_ENABLED
  n0 0x4C0002 .u32 .ro 0x100000 0 0xFFFFFFFF,  -- WRITE_BUDGET
  n0 0x4C0003 .u32 .ro 0 0 0xFFFFFFFF,  -- BUDGET_OVERRUNS
  n0 0x4C0004 .u32 .ro 1 0 0xFFFFFFFF,  -- SERIAL_NEXT
  b0 0x4C0005 .octs .rw (List.replicate 6 0) 6 6 1,  -- DRAIN_MAC
  n0 0x4C0006 .u16 .rw 0 0 4094,  -- DRAIN_VLAN
  n0 0x4C0007 .u32 .rw 1000 1 0x186A0,  -- DRAIN_RATE
  n0 0x4C0008 .u16 .rw 1440 256 8960,  -- DRAIN_PAYLOAD
  n0 0x4C0009 .u8 .rw 255 0 255,  -- XTRIG_DST
  n0 0x4C000A .u32 .ro 0 0 0xFFFFFFFF,  -- XTRIG_RX
  n0 0x4C000B .u32 .ro 0 0 0xFFFFFFFF,  -- TRIG_IGNORED
  n0 0x4C000C .u8 .ro 255 0 255,  -- REFUSED_SLOT
  n1 0x4C1001 0 63 .u8 .rwt 0 0 1,  -- ENABLE
  n1 0x4C1002 0 63 .u8 .rws 0 0 255,  -- OWNER
  n1 0x4C1003 0 63 .u32 .rws 0 0 0xFFFFFFFF,  -- AREA_BASE
  n1 0x4C1004 0 63 .u32 .rws 0 0 0xFFFFFFFF,  -- AREA_SIZE
  n1 0x4C1005 0 63 .u8 .rws 0 0 1,  -- RATE
  n1 0x4C1006 0 63 .u8 .rws 0 0 255,  -- MODE
  n1 0x4C1007 0 63 .u32 .rws 480 0 0xFFFFFFFF,  -- PRE
  n1 0x4C1008 0 63 .u32 .rws 2399 0 0xFFFFFFFF,  -- POST
  b1 0x4C1009 0 63 .octs .rws [] 0 8192 4,  -- ANALOGUE
  b1 0x4C100A 0 63 .octs .rws [] 0 16384 4,  -- BINARY
  b1 0x4C100B 0 63 .octs .rws [] 0 64 8,  -- TERMS
  n1 0x4C100C 0 63 .u8 .rws 255 0 255,  -- XTRIG_OUT
  n1 0x4C100D 0 63 .u8 .wo 0 1 1,  -- FORCE
  n1 0x4C100E 0 63 .u8 .wo 0 1 1,  -- STOP
  n1 0x4C100F 0 63 .u8 .wo 0 1 1,  -- DRAIN
  n1 0x4C1010 0 63 .u8 .wo 0 1 1,  -- RELEASE
  b1 0x4C1011 0 63 .octs .wo [] 0 64 1,  -- RESEND
  n1 0x4C2001 0 63 .u8 .ro 0 0 255,  -- STATE
  n1 0x4C2002 0 63 .u32 .ro 0 0 0xFFFFFFFF,  -- SERIAL
  n1 0x4C2003 0 63 .u32 .ro 0 0 0xFFFFFFFF,  -- ROWS
  n1 0x4C2004 0 63 .u8 .ro 0 0 255,  -- STOP_CAUSE
  n1 0x4C2005 0 63 .u64 .ro 0 0 0xFFFFFFFFFFFFFFFF,  -- TRIG_TIME
  n1 0x4C2006 0 63 .u32 .ro 0 0 0xFFFFFFFF,  -- OVERFLOWS
  n1 0x4C2007 0 63 .u32 .ro 0 0 0xFFFFFFFF,  -- RECORDS
  n1 0x4C2008 0 63 .u64 .ro 0 0 0xFFFFFFFFFFFFFFFF,  -- DRAIN_SENT
  n1 0x4C4001 0 16383 .i16 .rwt 0 0 65535,  -- SKEW
  n1 0x4C5001 0 31 .u8 .rws 0 0 255,  -- REF_GROUP
  n1 0x4C5002 0 31 .u8 .rws 0 0 255,  -- PHASE_OFS
  b1 0x4C5003 0 31 .octs .rws (List.replicate 256 [255, 255, 255, 127]).flatten 1024 1024 1,  -- UPPER
  b1 0x4C5004 0 31 .octs .rws (List.replicate 256 [0, 0, 0, 128]).flatten 1024 1024 1,  -- LOWER
  n1 0x4C5005 0 31 .u8 .rws 1 1 255,  -- VIOL_RUN
  n1 0x4C5006 0 31 .u32 .ro 0 0 0xFFFFFFFF,  -- VIOLATIONS
  n1 0x4C6001 0 31 .u8 .rw 0 0 1,  -- DIR
  n1 0x4C6002 0 31 .u16 .rw 0 0 10000,  -- IN_FILTER
  n1 0x4C6003 0 31 .u32 .rw 0 0 0xFFFFFFFF,  -- OUT_SOURCE
  n1 0x4C6004 0 31 .u16 .rw 100 1 65535,  -- OUT_WIDTH
  n1 0x4C6005 0 31 .u8 .ro 0 0 255,  -- LEVEL
  n1 0x4C6006 0 31 .u64 .ro 0 0 0xFFFFFFFFFFFFFFFF,  -- LAST_EDGE
  n1 0x4C6007 0 31 .u32 .ro 0 0 0xFFFFFFFF ]  -- EDGES

/-- Objects 0x5000 to 0x50FF (R232). -/
def objRows50 : List ObjRow := [
  n0 0x500001 .u8 .ro 64 0 255,  -- APP_CORES
  n0 0x500002 .u8 .ro 0 0 255,  -- TENANTS_ACTIVE
  n0 0x500003 .u32 .ro 0x2800000 0 0xFFFFFFFF,  -- SRAM_FREE
  n0 0x500004 .u32 .ro 0 0 0xFFFFFFFF,  -- SRAM_CLEARING
  n0 0x500201 .u8 .ro 0 0 255,  -- MRAM_SYNC
  n1 0x501001 0 63 .u8 .ro 0 0 255,  -- CORE_MODE
  n1 0x501002 0 63 .u8 .ro 0 0 255,  -- CORE_TENANT
  n1 0x501003 0 63 .u32 .ro 0 0 0xFFFFFFFF ]  -- WIN_LATE

/-- Objects 0x5100 to 0x51FF (R232). -/
def objRows51 : List ObjRow := [
  n1 0x510001 1 64 .u8 .ro 0 0 255,  -- STATE
  n1 0x510002 1 64 .u8 .ro 0 0 255,  -- GEN
  n1 0x510003 1 64 .tick .rwt 0 0 0xFFFFFFFFFFFF,  -- CREATE_TICK
  n1 0x510004 1 64 .tick .rwt 0 0 0xFFFFFFFFFFFF,  -- DESTROY_TICK
  n1 0x510005 1 64 .tick .rwt 0 0 0xFFFFFFFFFFFF,  -- FREEZE_TICK
  n1 0x510006 1 64 .u8 .rwt 0 0 1,  -- FREEZE_KIND
  n1 0x510007 1 64 .tick .rwt 0 0 0xFFFFFFFFFFFF,  -- UNFREEZE_TICK
  n1 0x510008 1 64 .u8 .rwt 0 0 1,  -- ISOLATE
  n1 0x510009 1 64 .u16 .rwt 16 0 65535,  -- VIOL_LIMIT
  n1 0x51000A 1 64 .u32 .ro 0 0 0xFFFFFFFF,  -- VIOL_COUNT
  n1 0x51000B 1 64 .u8 .wo 0 1 1,  -- VIOL_CLEAR
  n1 0x51000C 1 64 .u64 .rw 0 0 0xFFFFFFFFFFFFFFFF,  -- G_ROOT
  n1 0x51000D 1 64 .u8 .ro 0 0 255,  -- FREEZE_CAUSE
  n1 0x511001 1 64 .u32 .rwt 0 0 0xFFFFFFFF,  -- SRAM_BASE
  n1 0x511002 1 64 .u32 .rwt 0 0 0xFFFFFFFF,  -- SRAM_SIZE
  n1 0x511003 1 64 .u16 .rwt 0 0 65535,  -- CHAN_BASE
  n1 0x511004 1 64 .u16 .rwt 0 0 65535,  -- CHAN_COUNT
  n1 0x511005 1 64 .u16 .rwt 0 0 65535,  -- SLOT_BASE
  n1 0x511006 1 64 .u16 .rwt 0 0 65535,  -- SLOT_COUNT
  n1 0x511007 1 64 .u16 .rwt 0 0 65535,  -- ENGINE_MASK
  n1 0x511008 1 64 .u8 .rwt 0 0 32,  -- PUB_SLOTS
  n1 0x511009 1 64 .u32 .rwt 0x90000 0 0xFFFFFFFF,  -- TBIT_BASE
  n1 0x51100A 1 64 .u8 .rwt 0 0 32,  -- TBIT_WORDS
  n1 0x51100B 1 64 .u32 .rwt 0 0 0xFFFFFFFF,  -- CLICKER_SIZE
  b1 0x51100C 1 64 .octs .rwt [] 0 512 2,  -- SUB_LIST
  n1 0x511010 1 64 .tick .rwt 0 0 0xFFFFFFFFFFFF,  -- COMMIT_TICK
  n1 0x511011 1 64 .u8 .ro 0 0 255,  -- COMMIT_STATE
  n1 0x511012 1 64 .u8 .ro 0 0 255,  -- REFUSE_CAUSE
  n1 0x511101 1 64 .u32 .ro 0 0 0xFFFFFFFF,  -- ACTIVE_SRAM_BASE
  n1 0x511102 1 64 .u32 .ro 0 0 0xFFFFFFFF,  -- ACTIVE_SRAM_SIZE
  n1 0x511103 1 64 .u16 .ro 0 0 65535,  -- ACTIVE_CHAN_BASE
  n1 0x511104 1 64 .u16 .ro 0 0 65535,  -- ACTIVE_CHAN_COUNT
  n1 0x511105 1 64 .u16 .ro 0 0 65535,  -- ACTIVE_SLOT_BASE
  n1 0x511106 1 64 .u16 .ro 0 0 65535,  -- ACTIVE_SLOT_COUNT
  n1 0x511107 1 64 .u16 .ro 0 0 65535,  -- ACTIVE_ENGINE_MASK
  n1 0x511108 1 64 .u8 .ro 0 0 32,  -- ACTIVE_PUB_SLOTS
  n1 0x511109 1 64 .u32 .ro 0x90000 0 0xFFFFFFFF,  -- ACTIVE_TBIT_BASE
  n1 0x51110A 1 64 .u8 .ro 0 0 32,  -- ACTIVE_TBIT_WORDS
  n1 0x51110B 1 64 .u32 .ro 0 0 0xFFFFFFFF,  -- ACTIVE_CLICKER_SIZE
  b1 0x51110C 1 64 .octs .ro [] 0 512 2,  -- ACTIVE_SUB_LIST
  b1 0x512001 1 64 .octs .rwt [] 0 48 6,  -- SRC_MACS
  b1 0x512002 1 64 .octs .rwt [] 0 32 2,  -- VLANS
  b1 0x512003 1 64 .octs .rwt [] 0 16 2,  -- ETHERTYPES
  b1 0x512004 1 64 .octs .rwt [] 0 32 4,  -- APPID_RANGES
  b1 0x513001 0 2047 .octs .rwt (List.replicate 6 0) 6 6 1,  -- DST_MAC
  n1 0x513002 0 2047 .u16 .rwt 0 0 4094,  -- VLAN_ID
  n1 0x513003 0 2047 .u16 .rwt 0 0 65535,  -- APPID
  n1 0x513004 0 2047 .u16 .rwt 35000 0 65535,  -- ETHERTYPE
  n1 0x513005 0 2047 .u32 .ro 0 0 0xFFFFFFFF,  -- TOKEN
  n1 0x513006 0 2047 .u16 .rwt 10 0 65535,  -- RETX_MIN
  n1 0x513007 0 2047 .u16 .rwt 4800 0 65535,  -- RETX_MAX
  n1 0x513008 0 2047 .u16 .rwt 0 0 65535,  -- SQ_OFFSET
  n1 0x513009 0 2047 .u16 .rwt 65535 0 65535,  -- KEY_SLOT
  n1 0x51300A 0 2047 .u16 .rwt 0 0 65535,  -- TAG_OFFSET
  n1 0x51300B 0 2047 .u16 .rwt 1518 0 65535,  -- MAX_LEN
  n1 0x51300C 0 2047 .u32 .ro 0 0 0xFFFFFFFF,  -- SENT
  n1 0x51300D 0 2047 .u32 .ro 0 0 0xFFFFFFFF,  -- SUPERSEDED
  n1 0x51300E 0 2047 .u32 .ro 0 0 0xFFFFFFFF,  -- REFUSED
  n1 0x514001 1 64 .u32 .ro 0 0 0xFFFFFFFF,  -- MB_IN_POSTS
  n1 0x514002 1 64 .u32 .ro 0 0 0xFFFFFFFF,  -- MB_OUT_POSTS
  n1 0x514003 1 64 .u32 .ro 0 0 0xFFFFFFFF,  -- STALE_DISCARDS
  n1 0x514004 1 64 .u32 .ro 0 0 0xFFFFFFFF,  -- FULL_WRITES
  n1 0x514005 1 64 .u16 .rw 0 1 255,  -- SUP_IDENTITY
  n1 0x514006 1 64 .u8 .rw 64 64 67,  -- SUP_HART
  n0 0x515001 .u8 .rw 0 0 64,  -- IMAGE_TENANT
  n0 0x515002 .u8 .wo 0 1 1,  -- SAVE
  n0 0x515003 .u8 .ro 0 0 255,  -- IMAGE_STATE
  b0 0x515004 .octs .rw [] 0 0xFFFFFFFF 1,  -- IMAGE
  n0 0x515005 .tick .rwt 0 0 0xFFFFFFFFFFFF,  -- RESTORE_TICK
  n0 0x515006 .u16 .rw 65535 0 65535,  -- IMAGE_KEY_SLOT
  n0 0x515007 .u32 .ro 0 0 0xFFFFFFFF,  -- RESULT
  n1 0x516001 0 255 .u16 .rwt 1518 0 65535,  -- SC0_MAX_LEN
  n1 0x516002 0 255 .u32 .ro 0 0 0xFFFFFFFF,  -- SC0_SENT
  n1 0x516003 0 255 .u32 .ro 0 0 0xFFFFFFFF ]  -- SC0_REFUSED

/-- Objects 0x5800 to 0x58FF (R184). -/
def objRows58 : List ObjRow := [
  n0 0x580001 .u16 .ro 0 0 65535,  -- ENGINES_RUNNING
  n1 0x581001 0 15 .u8 .ro 0 0 255,  -- STATE
  b1 0x581002 0 15 .octs .rws [] 0 0x28624 1,  -- IMAGE
  n1 0x581003 0 15 .u8 .wo 0 1 1,  -- CHECK
  n1 0x581004 0 15 .u32 .ro 0 0 0xFFFFFFFF,  -- CHECK_RESULT
  n1 0x581005 0 15 .tick .rwt 0 0 0xFFFFFFFFFFFF,  -- START_TICK
  n1 0x581006 0 15 .u8 .rwt 1 0 1,  -- START_MODE
  n1 0x581007 0 15 .tick .rwt 0 0 0xFFFFFFFFFFFF,  -- STOP_TICK
  n1 0x581008 0 15 .u8 .ro 0 0 255,  -- FAULT_PASS
  n1 0x581009 0 15 .tick .ro 0 0 0xFFFFFFFFFFFF,  -- FAULT_TICK
  n1 0x58100A 0 15 .u16 .ro 0 0 65535,  -- FAULT_INDEX
  n1 0x58100B 0 15 .u32 .ro 0 0 0xFFFFFFFF,  -- MAX_USED_L1
  n1 0x58100C 0 15 .u32 .ro 0 0 0xFFFFFFFF,  -- MAX_USED_L2
  n1 0x58100D 0 15 .u8 .rw 0 0 1,  -- AUTOSTART
  n1 0x58100E 0 15 .u8 .wo 0 1 1,  -- STORE
  n1 0x58100F 0 15 .u32 .ro 0 0 0xFFFFFFFF,  -- ERR_RUNS
  n1 0x581010 0 15 .u32 .ro 0 0 0xFFFFFFFF ]  -- IMAGE_CRC

/-- Objects 0x5900 to 0x59FF (R184). -/
def objRows59 : List ObjRow := [
  n1 0x590001 0 1023 .u32 .rwt 0 0 0xFFFFFFFF,  -- CONST
  n1 0x592001 0 4095 .i32 .ro 0 0 0xFFFFFFFF,  -- WORD
  n1 0x594001 0 1023 .u32 .rwt 0 0 0xFFFFFFFF,  -- TIMER_PT
  n1 0x594002 0 1023 .u32 .ro 0 0 0xFFFFFFFF,  -- TIMER_ET
  n1 0x596001 0 511 .i32 .rwt 0 0 0xFFFFFFFF,  -- COUNTER_PV
  n1 0x596002 0 511 .i32 .ro 0 0 0xFFFFFFFF ]  -- COUNTER_CV

/-- Objects 0x5a00 to 0x5aFF (R184). -/
def objRows5A : List ObjRow := [
  n1 0x5A0001 0 2047 .u8 .rwt 0 0 1,  -- ENABLE
  b1 0x5A0002 0 2047 .octs .rws (List.replicate 6 0) 6 6 1,  -- DST_MAC
  n1 0x5A0003 0 2047 .u16 .rws 0 0 65535,  -- APPID
  b1 0x5A0004 0 2047 .str .rws [] 1 129 1,  -- GOCBREF
  n1 0x5A0005 0 2047 .u32 .rws 1 0 0xFFFFFFFF,  -- CONF_REV
  b1 0x5A0006 0 2047 .octs .rws (List.replicate 64 255) 64 64 1,  -- MEMBER_MAP
  n1 0x5A0007 0 2047 .u8 .rws 0 0 191,  -- CAN_CHANNEL
  n1 0x5A0008 0 2047 .u32 .rws 0 0 0xFFFFFFFF,  -- CAN_ID
  n1 0x5A0009 0 2047 .u8 .rws 0 0 1,  -- TEST_ACCEPT
  n1 0x5A000A 0 2047 .u16 .rwt 96 1 65535,  -- TIMEOUT
  n1 0x5A000B 0 2047 .u8 .rwt 0 0 1,  -- SUBST_MODE
  n1 0x5A000C 0 2047 .u32 .ro 0 0 0xFFFFFFFF,  -- DROPOUTS
  b1 0x5A000D 0 2047 .octs .rwt (List.replicate 8 0) 8 8 1,  -- SUBST_BITS
  n1 0x5A000E 0 2047 .u8 .ro 0 0 255,  -- STATE
  n1 0x5A000F 0 2047 .tick .ro 0 0 0xFFFFFFFFFFFF ]  -- LAST_RX_TICK

/-- Objects 0x5c00 to 0x5cFF (R443). -/
def objRows5C : List ObjRow := [
  n0 0x5C0001 .u32 .ro 0x4c4b400 0 0xFFFFFFFF,  -- CAN_CLOCK
  b0 0x5C0002 .octs .rw (List.replicate 6 0) 6 6 1,  -- TUNNEL_DST_MAC
  n0 0x5C0003 .u16 .rw 0 0 4094,  -- TUNNEL_VLAN
  n0 0x5C0004 .u8 .rw 5 0 7,  -- TUNNEL_PCP
  n0 0x5C0005 .u8 .rw 8 1 16,  -- TUNNEL_BATCH
  n0 0x5C0006 .u16 .rw 100 0 10000,  -- TUNNEL_WAIT
  n0 0x5C0007 .u32 .ro 0 0 0xFFFFFFFF,  -- TUNNEL_TX
  n0 0x5C0008 .u32 .ro 0 0 0xFFFFFFFF,  -- TUNNEL_RX
  n0 0x5C0009 .u32 .ro 0 0 0xFFFFFFFF,  -- TUNNEL_MALFORMED
  n0 0x5C000A .u32 .ro 0 0 0xFFFFFFFF,  -- TUNNEL_SEQ_GAPS
  n0 0x5C000B .u16 .ro 0 0 65535,  -- ROUTES_USED
  n0 0x5C000C .u32 .ro 0 0 0xFFFFFFFF,  -- ROUTE_EXCESS
  n1 0x5C1001 0 191 .u8 .rw 0 0 3,  -- MODE
  n1 0x5C1002 0 191 .u8 .rws 2 1 32,  -- NBRP
  n1 0x5C1003 0 191 .u8 .rws 31 1 255,  -- NTSEG1
  n1 0x5C1004 0 191 .u8 .rws 8 1 128,  -- NTSEG2
  n1 0x5C1005 0 191 .u8 .rws 8 1 128,  -- NSJW
  n1 0x5C1006 0 191 .u8 .rws 2 1 32,  -- DBRP
  n1 0x5C1007 0 191 .u8 .rws 31 1 31,  -- DTSEG1
  n1 0x5C1008 0 191 .u8 .rws 8 1 16,  -- DTSEG2
  n1 0x5C1009 0 191 .u8 .rws 8 1 16,  -- DSJW
  n1 0x5C100A 0 191 .u8 .rws 1 0 1,  -- TDC_ENABLE
  n1 0x5C100B 0 191 .u8 .rws 0 0 127,  -- TDC_OFFSET
  n1 0x5C100C 0 191 .u8 .rw 1 0 1,  -- BUSOFF_RECOVER
  n1 0x5C100D 0 191 .u8 .wo 0 1 1,  -- RECOVER
  n1 0x5C100E 0 191 .u8 .rw 0 0 1,  -- TX_ORDER
  n1 0x5C100F 0 191 .u8 .rw 0 0 255,  -- ARB_RETRY
  n1 0x5C1010 0 191 .u8 .rw 15 0 15,  -- ERR_RETRY
  n1 0x5C1011 0 191 .u8 .ro 0 0 255,  -- ERR_STATE
  n1 0x5C1012 0 191 .u8 .rw 0 0 2,  -- RX_FIFO_MODE
  n1 0x5C1013 0 191 .u8 .ro 0 0 255,  -- TEC
  n1 0x5C1014 0 191 .u8 .ro 0 0 255,  -- REC
  n1 0x5C1015 0 191 .u32 .ro 0 0 0xFFFFFFFF,  -- RX_FRAMES
  n1 0x5C1016 0 191 .u32 .ro 0 0 0xFFFFFFFF,  -- TX_FRAMES
  n1 0x5C1017 0 191 .u32 .ro 0 0 0xFFFFFFFF,  -- BUS_OFFS
  n1 0x5C2001 0 575 .u32 .rw 0 0 0xFFFFFFFF,  -- ID
  n1 0x5C2002 0 575 .u8 .rw 0 0 255,  -- FLAGS
  n1 0x5C2003 0 575 .u8 .rw 0 0 15,  -- DLC
  b1 0x5C2004 0 575 .octs .rw [] 0 64 1,  -- DATA
  n1 0x5C2005 0 575 .u8 .rws 0 0 1,  -- SOURCE
  n1 0x5C2006 0 575 .u8 .wo 0 0 255,  -- CTRL
  n1 0x5C2007 0 575 .u8 .ro 0 0 255,  -- STATUS
  b1 0x5C3001 0 191 .octs .ro [] 0 80 1,  -- RX_NEXT
  n1 0x5C3002 0 191 .u8 .ro 0 0 255,  -- RX_COUNT
  n1 0x5C3003 0 191 .u32 .ro 0 0 0xFFFFFFFF,  -- RX_OVERRUNS
  n1 0x5C3004 0 191 .u32 .ro 0 0 0xFFFFFFFF ]  -- QUEUE_DROPS

/-- Objects 0x5d00 to 0x5dFF (R443). -/
def objRows5D : List ObjRow := [
  n1 0x5D0001 0 8191 .u16 .rw 0 0 65535,  -- SRC
  n1 0x5D0002 0 8191 .u32 .rw 0 0 0xFFFFFFFF,  -- ID
  n1 0x5D0003 0 8191 .u32 .rw 0 0 0xFFFFFFFF,  -- MASK
  n1 0x5D0004 0 8191 .u32 .rw 0 0 0xFFFFFFFF,  -- EGRESS
  n1 0x5D0005 0 8191 .u32 .ro 0 0 0xFFFFFFFF,  -- DROPS
  n1 0x5D0006 0 8191 .u32 .rw 0 0 0xFFFFFFFF,  -- NEW_ID
  n1 0x5D0007 0 8191 .u32 .rw 0 0 0xFFFFFFFF,  -- REPL_MASK
  n1 0x5D0008 0 8191 .u32 .ro 0 0 0xFFFFFFFF ]  -- HITS

/-- Objects 0x5e00 to 0x5eFF (R443). -/
def objRows5E : List ObjRow := [
  n1 0x5E0001 0 7 .u8 .rwt 1 1 64,  -- CYCLE_TICKS
  n1 0x5E0002 0 7 .u8 .rwt 1 0 255,  -- CYCLES
  n1 0x5E0003 0 7 .u32 .rwt 0 0 0xFFFFFFFF,  -- REF_ID
  b1 0x5E0004 0 7 .octs .rwt (List.replicate 384 0) 384 384 1,  -- COLUMNS
  b1 0x5E0005 0 7 .octs .rwt [] 0 4096 2,  -- MATRIX
  n1 0x5E0006 0 7 .u8 .ro 0 0 255,  -- CYCLE_COUNT
  n1 0x5E0007 0 7 .u32 .ro 0 0 0xFFFFFFFF,  -- REF_SENT
  n1 0x5E0008 0 7 .u32 .ro 0 0 0xFFFFFFFF,  -- EXCL_SENT
  n1 0x5E0009 0 7 .u32 .ro 0 0 0xFFFFFFFF,  -- WINDOWS_LOST
  n1 0x5E000A 0 7 .u32 .ro 0 0 0xFFFFFFFF,  -- ENTRY_UNUSED
  n1 0x5E000B 0 7 .u32 .ro 0 0 0xFFFFFFFF,  -- REF_DISPLACED
  n1 0x5E4001 0 511 .u32 .rwt 0 0 0xFFFFFFFF,  -- MSG_ID
  n1 0x5E4002 0 511 .u8 .rwt 8 0 8 ]  -- MSG_LEN

/-- Objects 0x6000 to 0x60FF (R273). -/
def objRows60 : List ObjRow := [
  n0 0x600001 .u8 .ro 0 0 255,  -- RANK
  n0 0x600002 .u8 .ro 0 0 255,  -- MSTATE
  n0 0x600006 .u32 .ro 0 0 0xFFFFFFFF,  -- SETTINGS_DIGEST
  n0 0x600007 .u8 .wo 0 1 1,  -- REJOIN
  n0 0x600008 .u16 .rws 9600 0 65535,  -- FORM_WAIT
  n0 0x600009 .u32 .ro 0 0 0xFFFFFFFF,  -- RESYNC_FAILS
  n0 0x60000A .u32 .ro 0 0 0xFFFFFFFF,  -- RESYNC_LAST
  n0 0x60000B .u8 .ro 0 0 255,  -- DONOR
  n0 0x60000C .u16 .rws 0 0 65535,  -- TRIAD_ID
  n1 0x600101 1 3 .u8 .ro 0 0 255,  -- PEER_ID
  n1 0x600102 1 3 .u8 .ro 0 0 255,  -- PEER_STATE
  n0 0x601001 .u8 .ro 0 0 255,  -- CLAIM_STATE
  n0 0x601002 .u8 .ro 0 0 255,  -- LACE_A
  n0 0x601003 .u8 .ro 0 0 255,  -- LACE_B
  n0 0x601004 .u8 .ro 0 0 255,  -- LACE_C
  n0 0x601005 .u8 .ro 0 0 255,  -- LACE_FAULT
  n0 0x601006 .u8 .ro 0 0 255,  -- GATE
  n0 0x601007 .u32 .ro 0 0 0xFFFFFFFF,  -- CLAIMS
  n0 0x601008 .u32 .ro 0 0 0xFFFFFFFF,  -- CONTENTIONS
  n0 0x602001 .u16 .ro 36 0 65535,  -- VECTOR_LEN
  n0 0x602002 .u16 .rwt 9600 1 65535,  -- HOLD_LIMIT
  n0 0x602003 .u8 .rwt 1 0 1,  -- REVERT_ENABLE
  n0 0x602004 .u32 .rwt 48000 1 0x493E00,  -- REVERT_DELAY
  n0 0x602005 .u8 .rwt 1 1 255,  -- REVERT_HOLDOFF
  n0 0x602006 .u8 .ro 0 0 255,  -- PUBLISHER
  n0 0x602007 .u32 .ro 0 0 0xFFFFFFFF,  -- HELD_TICKS
  n0 0x602008 .u32 .ro 0 0 0xFFFFFFFF,  -- HELD_TOTAL
  n1 0x602101 1 3 .u16 .ro 0 0 65535,  -- ABSENT_WINDOW
  n1 0x602102 1 3 .u8 .ro 0 0 255,  -- MINORITY_RUN
  n1 0x602103 1 3 .u32 .ro 0 0 0xFFFFFFFF,  -- MINORITY_TOTAL
  n1 0x602104 1 3 .u8 .ro 0 0 255,  -- EXCLUDED
  n0 0x603001 .u32 .ro 0 0 0xFFFFFFFF,  -- FETCHES
  n0 0x603002 .u32 .ro 0 0 0xFFFFFFFF,  -- FETCH_FAILS
  n0 0x603003 .u32 .ro 0 0 0xFFFFFFFF,  -- NOT_AGREED
  n0 0x603004 .u32 .ro 0 0 0xFFFFFFFF,  -- AGREE_ABSENT
  n0 0x603005 .u16 .ro 256 0 65535 ]  -- FETCH_MAX

/-- Objects 0x6100 to 0x61FF (R306). -/
def objRows61 : List ObjRow := [
  n0 0x610001 .u8 .rws 0 0 255,  -- MODULE_ID
  n0 0x610002 .u8 .rw 1 0 1,  -- STEP_ENABLE
  n0 0x610003 .u16 .rw 100 10 10000,  -- RESP_TIMEOUT
  n0 0x610004 .u16 .ro 50 0 65535,  -- HOLD_TIME
  n0 0x610005 .u16 .ro 250 0 65535,  -- AGE_LIMIT
  n0 0x610006 .u16 .ro 8000 0 65535,  -- QUARANTINE
  n1 0x611001 0 23 .u8 .rw 0 0 2,  -- LANES
  n1 0x611002 0 23 .u8 .rw 0 0 2,  -- RATE_MAX
  n1 0x611003 0 23 .u8 .rw 2 0 2,  -- RATE_MIN
  n1 0x611004 0 23 .u8 .ro 0 0 255,  -- STATE
  n1 0x611005 0 23 .u8 .ro 2 0 255,  -- RATE_NOW
  n1 0x611006 0 23 .u8 .ro 0 0 255,  -- PEER_ID
  n1 0x611007 0 23 .u8 .ro 255 0 255,  -- PEER_LINK
  n1 0x611008 0 23 .u16 .ro 0 0 65535,  -- PEER_TRIAD_ID
  n1 0x611009 0 23 .u8 .ro 0 0 255,  -- TRIAD_LINK
  n1 0x61100A 0 23 .u8 .ro 0 0 255,  -- UTIL
  n1 0x61100B 0 23 .u32 .ro 0 0 0xFFFFFFFF,  -- CRC_ERRORS
  n1 0x61100C 0 23 .u32 .ro 0 0 0xFFFFFFFF,  -- REPLAYS
  n1 0x61100D 0 23 .u32 .ro 0 0 0xFFFFFFFF,  -- DOWNS
  n1 0x61100E 0 23 .u32 .ro 0 0 0xFFFFFFFF,  -- LOST_PACKETS
  n1 0x61100F 0 23 .u32 .ro 0 0 0xFFFFFFFF,  -- RATE_CHANGES
  n1 0x611010 0 23 .u32 .ro 0 0 0xFFFFFFFF,  -- RATE_REFUSED
  n1 0x612001 0 255 .u32 .rw 0 0 0xFFFFFF,  -- ROUTE
  n1 0x612002 0 255 .u32 .ro 0 0 0xFFFFFFFF,  -- ROUTE_IN_USE
  n0 0x613001 .u16 .ro 0 0 65535,  -- TAGS_IN_USE
  n0 0x613002 .u32 .ro 0x60000 0 0xFFFFFFFF,  -- SPACE_FREE
  n0 0x613003 .u32 .ro 0 0 0xFFFFFFFF,  -- NO_SPACE
  n0 0x613004 .u32 .ro 0 0 0xFFFFFFFF,  -- HOLD_EXPIRED
  n0 0x613005 .u32 .ro 0 0 0xFFFFFFFF,  -- RESP_TIMEOUTS
  n0 0x613006 .u32 .ro 0 0 0xFFFFFFFF,  -- STALE_RESPONSES
  n0 0x613007 .u32 .ro 0 0 0xFFFFFFFF,  -- NO_ROUTE
  n0 0x613008 .u32 .ro 0 0 0xFFFFFFFF,  -- AGE_DISCARDS
  n0 0x613009 .u32 .ro 0 0 0xFFFFFFFF,  -- HOP_DISCARDS
  n0 0x61300A .u32 .ro 0 0 0xFFFFFFFF,  -- PROTOCOL_ERRORS
  n0 0x61300B .u32 .ro 0 0 0xFFFFFFFF,  -- REFUSED_READS
  n0 0x61300C .u32 .ro 0 0 0xFFFFFFFF,  -- REFUSED_WRITES
  n1 0x613010 0 255 .u32 .ro 0 0 0xFFFFFFFF,  -- LAST_FENCE
  n1 0x614001 0 15 .u64 .rw 0 0 0xFFFFFFFFFFFFFFFF,  -- WIN_BASE
  n1 0x614002 0 15 .u64 .rw 0 0 0xFFFFFFFFFFFFFFFF,  -- WIN_SIZE
  n1 0x614003 0 15 .u8 .rw 0 0 3,  -- WIN_PERM
  n1 0x614004 0 15 .u8 .rw 1 0 255,  -- WIN_SRC_LOW
  n1 0x614005 0 15 .u8 .rw 254 0 255 ]  -- WIN_SRC_HIGH

/-- Objects 0x6400 to 0x64FF (R506). -/
def objRows64 : List ObjRow := [
  n0 0x640001 .u8 .ro 0 0 255,  -- LC_STATE
  n0 0x640002 .u8 .wo 0 0 255,  -- LC_TARGET
  b0 0x640003 .octs .ro [] 16 16 1,  -- LC_NONCE
  b0 0x640004 .octs .wo [] 224 224 1,  -- LC_TOKEN
  n0 0x640005 .u32 .ro 0 0 0xFFFFFFFF,  -- LC_RESULT
  n0 0x640006 .u8 .ro 0 0 255,  -- ROOTS_PRESENT
  n0 0x640007 .u8 .ro 0 0 255,  -- KEYHASHES
  b0 0x640008 .octs .wo [] 48 48 1,  -- OK_HASH
  n0 0x640009 .u8 .ro 0 0 255,  -- MIN_SVN
  n0 0x64000A .u8 .wo 0 0 255,  -- MIN_SVN_SET
  n0 0x64000B .u8 .ro 0 0 255,  -- DEBUG_STATE
  b0 0x64000C .octs .rw [] 0 97 97,  -- PUBKEY_V
  b0 0x64000D .octs .rw [] 0 97 97,  -- PUBKEY_O
  n0 0x641001 .u16 .rw 0 0 511,  -- KEY_SEL
  b0 0x641002 .octs .wo [] 16 32 16,  -- KEY_VALUE
  n0 0x641003 .u8 .rw 0 0 255,  -- KEY_USAGE
  n0 0x641004 .u32 .rw 0 0 0xFFFFFFFF,  -- KEY_ID
  b0 0x641005 .octs .rw (List.replicate 8 0) 8 8 1,  -- KEY_FIXED
  n0 0x641006 .u32 .rw 0 0 0xFFFFFFFF,  -- KEY_INV_START
  n0 0x641007 .u16 .rw 512 0 65535,  -- KDF_SRC
  b0 0x641008 .octs .rw [] 1 32 1,  -- KDF_LABEL
  b0 0x641009 .octs .rw [] 0 64 1,  -- KDF_CONTEXT
  n0 0x64100A .u8 .wo 0 0 255,  -- KEY_CMD
  n0 0x64100B .u8 .ro 0 0 255,  -- KEY_RESULT
  n1 0x642001 0 511 .u8 .ro 0 0 255,  -- SLOT_STATE
  n1 0x642002 0 511 .u8 .ro 0 0 255,  -- USAGE
  n1 0x642003 0 511 .u32 .ro 0 0 0xFFFFFFFF,  -- KCV
  n1 0x642004 0 511 .u32 .ro 0 0 0xFFFFFFFF,  -- KEY_ID
  n1 0x642005 0 511 .u32 .ro 0 0 0xFFFFFFFF,  -- INV_COUNT
  n1 0x642006 0 511 .u16 .ro 0 0 65535,  -- USERS
  n1 0x642007 0 511 .u32 .ro 0 0 0xFFFFFFFF,  -- BLOCKED
  n0 0x643001 .u16 .rw 250 10 10000,  -- REMASK_PERIOD
  n0 0x643002 .u8 .ro 0 0 255,  -- DRBG_STATE
  n0 0x643003 .u32 .ro 0 0 0xFFFFFFFF,  -- RESEEDS
  n0 0x643004 .u32 .ro 0 0 0xFFFFFFFF,  -- HEALTH_FAILS
  n0 0x643005 .u16 .ro 0 0 65535,  -- LEDGER_USED
  n0 0x644001 .u8 .ro 0 0 255,  -- BOOT_COPY
  n0 0x644002 .u8 .ro 0 0 255,  -- BOOT_SVN
  n0 0x644003 .u32 .ro 0 0 0xFFFFFFFF,  -- BOOT_RESULT
  n0 0x644004 .u8 .ro 0 0 255 ]  -- BOOT_KEY

/-- Objects 0x6800 to 0x68FF (R523). -/
def objRows68 : List ObjRow := [
  n0 0x680001 .u64 .ro 0 0 0xFFFFFFFFFFFFFFFF,  -- NEXT_SEQ
  n0 0x680002 .u64 .ro 0 0 0xFFFFFFFFFFFFFFFF,  -- OLDEST_RING_SEQ
  n0 0x680003 .u16 .ro 0 0 65535,  -- KEEP_USED
  n0 0x680004 .u32 .ro 0 0 0xFFFFFFFF,  -- POWER_CYCLE
  n0 0x680005 .u64 .ro 0 0 0xFFFFFFFFFFFFFFFF,  -- OP_TIME
  n0 0x680006 .u32 .ro 0 0 0xFFFFFFFF,  -- SCAN_DISCARDS
  n0 0x680007 .u32 .ro 0 0 0xFFFFFFFF,  -- SUPPRESSED
  n0 0x680008 .u32 .ro 0 0 0xFFFFFFFF,  -- QUEUE_DROPS
  n0 0x680009 .u16 .ro 200 0 65535,  -- GLOBAL_RATE
  n0 0x68000A .u32 .rw 600 60 0x15180,  -- CHECKPOINT
  n0 0x68000B .u8 .wo 0 1 1,  -- ANCHOR
  n0 0x681001 .u64 .rw 0 0 0xFFFFFFFFFFFFFFFF,  -- READ_SEQ
  b0 0x681002 .octs .ro [] 0 128 1,  -- RECORD
  n1 0x682001 0 12 .u16 .rw 1000 10 60000,  -- REFILL
  n1 0x682002 0 12 .u8 .rw 8 1 64,  -- DEPTH
  n0 0x683001 .u16 .rw 32768 0 65535,  -- SW_CODE
  n0 0x683002 .u8 .rw 0 0 255,  -- SW_SEVERITY
  n0 0x683003 .u8 .rw 128 0 255,  -- SW_SOURCE
  b0 0x683004 .octs .rw [] 0 96 1,  -- SW_PAYLOAD
  n0 0x683005 .u8 .wo 0 1 1,  -- SW_WRITE
  n1 0x684001 0 3071 .u8 .ro 0 0 255 ]  -- LEVEL

/-- The rows of the block of 256 indices that an object's index lies in. -/
def objRowsOf (hi : Nat) : List ObjRow :=
  match hi with
  | 0x10 => objRows10
  | 0x1F => objRows1F
  | 0x20 => objRows20
  | 0x30 => objRows30
  | 0x31 => objRows31
  | 0x32 => objRows32
  | 0x33 => objRows33
  | 0x34 => objRows34
  | 0x35 => objRows35
  | 0x38 => objRows38
  | 0x39 => objRows39
  | 0x3A => objRows3A
  | 0x3B => objRows3B
  | 0x3C => objRows3C
  | 0x3D => objRows3D
  | 0x40 => objRows40
  | 0x44 => objRows44
  | 0x45 => objRows45
  | 0x48 => objRows48
  | 0x4C => objRows4C
  | 0x50 => objRows50
  | 0x51 => objRows51
  | 0x58 => objRows58
  | 0x59 => objRows59
  | 0x5A => objRows5A
  | 0x5C => objRows5C
  | 0x5D => objRows5D
  | 0x5E => objRows5E
  | 0x60 => objRows60
  | 0x61 => objRows61
  | 0x64 => objRows64
  | 0x68 => objRows68
  | _ => []

/-- The table row that describes object `o`: engine g's objects 0x5900 + g ... 0x5960 + g and filter f's 0x3400 + f share one row. -/
def objBase (o : Nat) : Nat :=
  let idx := o / 256
  if 0x5900 ≤ idx ∧ idx < 0x5970 ∧ (idx / 16 % 2 = 0) then (idx / 16 * 16) * 256 + o % 256
  else if 0x3400 ≤ idx ∧ idx < 0x3408 then 0x3400 * 256 + o % 256
  else o

/-- The row of object `o`, if the dictionary has it. -/
def objRow? (o : Nat) : Option ObjRow :=
  let b := objBase o
  (objRowsOf (b / 0x10000)).find? (fun r => r.obj == b)

/-- Whether the dictionary uses index `idx` at all (R448). -/
def indexUsed (idx : Nat) : Bool :=
  let b := objBase (idx * 256) / 256
  (objRowsOf (b / 256)).any (fun r => r.obj / 256 == b)

/-- The highest subindex in use of index `idx`, which subindex 0x00 reads (R445). -/
def highestSub (idx : Nat) : Nat :=
  let b := objBase (idx * 256) / 256
  (objRowsOf (b / 256)).foldl (fun m r => if r.obj / 256 == b then max m (r.obj % 256) else m) 0

/-- Defaults that the object tables give per instance (R329, R344, R398, R443). -/
def objDefaultAt (o i : Nat) : Option Nat :=
  match o with
  | 0x300101 => some ([6, 7, 6, 5, 5, 4, 4, 4].getD i 6)
  | 0x300201 => some ([0, 0, 8192, 4096, 2048, 2048, 1536, 1536].getD i 0)
  | 0x300202 => some ([0, 0, 0, 2000, 5000, 10000, 20000, 50000].getD i 0)
  | 0x390002 => some i
  | 0x3C1001 => some i
  | 0x5C2005 => some (if i % 3 = 2 then 1 else 0)
  | _ => none

/-- The default of object `o`, instance `i` (R9). -/
def objDefault (o i : Nat) : Val :=
  match objDefaultAt o i with
  | some n => .num n
  | none => match objRow? o with
    | some r => r.dflt
    | none => .num 0

end Sys2Proof.Machine
end

