-- ==== Sys2Proof/Machine/Ops.lean ====
section
/-!
DEFINITION. The operations every command is written with: sparse tables, the object store, events, the outbox,
free values, saturating counters and octet arithmetic.
-/
namespace Sys2Proof.Machine

/-! ## Sparse tables -/

/-- The listed entry of key `k`; entries are in rising order, so the search ends at the first larger key. -/
def Table.find? {α : Type} : Table α → Nat → Option α
  | [], _ => none
  | (j, v) :: t, k => if j = k then some v else if k < j then none else Table.find? t k

/-- The table with key `k` listed as `v`, in rising order. -/
def Table.put {α : Type} : Table α → Nat → α → Table α
  | [], k, v => [(k, v)]
  | (j, w) :: t, k, v =>
    if j = k then (k, v) :: t else if k < j then (k, v) :: (j, w) :: t else (j, w) :: Table.put t k v

/-- The table without key `k`. -/
def Table.del {α : Type} : Table α → Nat → Table α
  | [], _ => []
  | (j, w) :: t, k => if j = k then t else if k < j then (j, w) :: t else (j, w) :: Table.del t k

/-- What key `k` reads as, an unlisted key reading `d`. -/
def Table.get {α : Type} (t : Table α) (d : α) (k : Nat) : α := (Table.find? t k).getD d

/-- The table in which key `k` reads `v`, an unlisted key reading `d`: the canonical form lists no entry equal to `d`. -/
def Table.set {α : Type} [DecidableEq α] (t : Table α) (d : α) (k : Nat) (v : α) : Table α :=
  if v = d then Table.del t k else Table.put t k v

/-- The keys of a table rise strictly from above `lo` on. -/
def Table.rising {α : Type} : Option Nat → Table α → Bool
  | _, [] => true
  | lo, (j, _) :: t => (match lo with | none => true | some l => decide (l < j)) && Table.rising (some j) t

/-- The canonical form of a table whose unlisted keys read `d`: keys rise strictly and no entry equals `d`. -/
def Table.wf {α : Type} [DecidableEq α] (d : α) (t : Table α) : Bool :=
  Table.rising none t && t.all (fun e => decide (e.2 ≠ d))

/-! ## Memories of octets -/

/-- What an octet of a memory that nothing has written reads as (log entry 4). -/
def Memory.empty : Byte := 0

/-- One octet of a memory. -/
def Memory.read (m : Memory) (a : Nat) : Byte := Table.get m Memory.empty a

/-- A memory with one octet written. -/
def Memory.write (m : Memory) (a : Nat) (b : Byte) : Memory := Table.set m Memory.empty a b

/-- The canonical form of a memory. -/
def Memory.wf (m : Memory) : Bool := Table.wf Memory.empty m

/-- `n` octets from address `a`. -/
def Memory.readN (m : Memory) (a : Nat) : Nat → List Byte
  | 0 => []
  | n + 1 => Memory.read m a :: Memory.readN m (a + 1) n

/-- A memory with a run of octets written from address `a`. -/
def Memory.writeN (m : Memory) (a : Nat) : List Byte → Memory
  | [] => m
  | b :: bs => Memory.writeN (Memory.write m a b) (a + 1) bs

/-! ## Octet and number arithmetic -/

/-- A list without the first occurrence of an element. -/
def dropFirst {α : Type} [DecidableEq α] (a : α) : List α → List α
  | [] => []
  | b :: t => if b = a then t else b :: dropFirst a t

/-- The number that octets spell, least significant first. -/
def leNat : List Byte → Nat
  | [] => 0
  | b :: bs => b.toNat + 256 * leNat bs

/-- The number that octets spell, most significant first. -/
def beNat (bs : List Byte) : Nat := bs.foldl (fun n b => n * 256 + b.toNat) 0

/-- `n` octets of a number, least significant first. -/
def toLE : Nat → Nat → List Byte
  | 0, _ => []
  | n + 1, v => BitVec.ofNat 8 v :: toLE n (v / 256)

/-- `n` octets of a number, most significant first. -/
def toBE (n v : Nat) : List Byte := (toLE n v).reverse

/-- Octets `a` to `a + n - 1` of a run, zeros beyond its end. -/
def slice (bs : List Byte) (a n : Nat) : List Byte :=
  let s := (bs.drop a).take n
  s ++ List.replicate (n - s.length) 0

/-- A little-endian field of `n` octets at offset `a`. -/
def field (bs : List Byte) (a n : Nat) : Nat := leNat (slice bs a n)

/-- Bit `i` of a number. -/
def bit (v i : Nat) : Bool := v / 2 ^ i % 2 = 1

/-- Bits `hi` to `lo` of a number. -/
def bitsOf (v hi lo : Nat) : Nat := v / 2 ^ lo % 2 ^ (hi + 1 - lo)

/-- A Bool as a bit. -/
def b2n (b : Bool) : Nat := if b then 1 else 0

/-- A number with bit `i` made `b`. -/
def setBit (v i : Nat) (b : Bool) : Nat :=
  if bit v i = b then v else if b then v + 2 ^ i else v - 2 ^ i

/-- The integer that a w-bit pattern stands for in two's complement. -/
def toInt (w v : Nat) : Int := if v < 2 ^ (w - 1) then v else (v : Int) - 2 ^ w

/-- The w-bit two's complement pattern of an integer, wrapped. -/
def ofInt (w : Nat) (i : Int) : Nat := (i % (2 ^ w : Int)).toNat

/-- An integer held within the range of a w-bit two's complement number. -/
def satInt (w : Nat) (i : Int) : Int :=
  if i < -(2 ^ (w - 1) : Int) then -(2 ^ (w - 1) : Int) else if (2 ^ (w - 1) : Int) - 1 < i then (2 ^ (w - 1) : Int) - 1 else i

/-- One step of the CRC-32 register for one bit (R23). -/
def crcBit (c : Nat) : Nat := if c % 2 = 1 then (c / 2) ^^^ 0xEDB88320 else c / 2

/-- The CRC-32 register after one octet (R23). -/
def crcByte (c : Nat) (b : Byte) : Nat :=
  crcBit (crcBit (crcBit (crcBit (crcBit (crcBit (crcBit (crcBit (c ^^^ b.toNat))))))))

/-- The CRC-32 register run on over octets. -/
def crcRun (c : Nat) (bs : List Byte) : Nat := bs.foldl crcByte c

/-- CRC-32 of octets: polynomial 0x04C1_1DB7, reflected, initial value and final XOR all ones (R23). -/
def crc32 (bs : List Byte) : Nat := crcRun 0xFFFFFFFF bs ^^^ 0xFFFFFFFF

/-- A list's elements with their positions. -/
def indexed {α : Type} (l : List α) : List (Nat × α) := (List.range l.length).zip l

/-! ## A module in reset -/

/-- An effect `f` of a command on a module that runs: one that is held in reset does nothing (R532, R536; log entry 133). -/
def Mod.awake (m : Mod) (f : Mod → Mod) : Mod := if m.power.held ≠ 0 then m else f m

/-! ## The object store -/

/-- Where instance `i` of object `o` stands in the store. -/
def objKey (o i : Nat) : Nat := o * 65536 + i

/-- What a place of the store that lists nothing reads as: the default of its object. -/
def defaultAt (k : Nat) : Val := objDefault (k / 65536) (k % 65536)

/-- The store with place `k` holding a value: the canonical form lists no default. -/
def putVal (d : Table Val) (k : Nat) (v : Val) : Table Val := if v = defaultAt k then Table.del d k else Table.put d k v

/-- The canonical form of the store: keys rise strictly and no entry holds the default of its object. -/
def dictWf (d : Table Val) : Bool := Table.rising none d && d.all (fun e => decide (e.2 ≠ defaultAt e.1))

/-- The value of object `o`, instance `i`. -/
def Mod.val (m : Mod) (o : Nat) (i : Nat := 0) : Val := (Table.find? m.dict (objKey o i)).getD (defaultAt (objKey o i))

/-- The number an object holds. -/
def Mod.num (m : Mod) (o : Nat) (i : Nat := 0) : Nat :=
  match m.val o i with
  | .num n => n
  | .oct _ => 0

/-- The octets an object holds. -/
def Mod.oct (m : Mod) (o : Nat) (i : Nat := 0) : List Byte :=
  match m.val o i with
  | .num _ => []
  | .oct b => b

/-- Whether an object's number is not zero. -/
def Mod.on (m : Mod) (o : Nat) (i : Nat := 0) : Bool := m.num o i != 0

/-- The number of an object of type I8 to I64, as an integer of `w` bits. -/
def Mod.int (m : Mod) (w o : Nat) (i : Nat := 0) : Int := toInt w (m.num o i)

/-- An object's new value. -/
def Mod.setVal (m : Mod) (o : Nat) (v : Val) (i : Nat := 0) : Mod :=
  { m with dict := putVal m.dict (objKey o i) v }

/-- An object's new number. -/
def Mod.set (m : Mod) (o n : Nat) (i : Nat := 0) : Mod := m.setVal o (.num n) i

/-- An object's new octets. -/
def Mod.setOct (m : Mod) (o : Nat) (b : List Byte) (i : Nat := 0) : Mod := m.setVal o (.oct b) i

/-- The largest number an object's type holds, at which its counters stop (R42, R67, R97). -/
def objMax (o : Nat) : Nat :=
  match objRow? o with
  | some r => match r.ty with
    | .bool => 1 | .u8 => 0xFF | .u16 => 0xFFFF | .u32 => 0xFFFFFFFF | .u64 => 0xFFFFFFFFFFFFFFFF
    | .i8 => 0x7F | .i16 => 0x7FFF | .i32 => 0x7FFFFFFF | .i64 => 0x7FFFFFFFFFFFFFFF
    | .f32 => 0xFFFFFFFF | .tick => 0xFFFFFFFFFFFF | .str => 0 | .octs => 0
  | none => 0xFFFFFFFF

/-- A counter object raised by `n`, stopping at the largest number of its type (log entry 8). -/
def Mod.bump (m : Mod) (o : Nat) (i : Nat := 0) (n : Nat := 1) : Mod :=
  m.set o (min (m.num o i + n) (objMax o)) i

/-- A high-water object raised to `n` where `n` is larger. -/
def Mod.raiseTo (m : Mod) (o n : Nat) (i : Nat := 0) : Mod := m.set o (max (m.num o i) n) i

/-- The instances of object `o` that the store lists with a number other than 0: for an object whose default is 0, all that are not 0. -/
def Mod.instancesOn (m : Mod) (o : Nat) : List Nat :=
  m.dict.filterMap (fun e => if e.1 / 65536 = o ∧ e.2 ≠ .num 0 then some (e.1 % 65536) else none)

/-- All instances of object `o`, as its row gives them. -/
def instancesAll (o : Nat) : List Nat :=
  match objRow? o with
  | some r => match r.inst with
    | some (a, b) => (List.range (b + 1 - a)).map (· + a)
    | none => [0]
  | none => []

/-- Every object and instance of one index and a range of subindices back at its default. -/
def Mod.clearSubs (m : Mod) (idx subLo subHi i : Nat) : Mod :=
  { m with dict := m.dict.filter (fun e =>
      ¬ (e.1 % 65536 = i ∧ e.1 / 65536 / 256 = idx ∧ subLo ≤ e.1 / 65536 % 256 ∧ e.1 / 65536 % 256 ≤ subHi)) }

/-! ## Events, the outbox and free values -/

/-- An event raised with its payload fields; EVENT_RAISED takes raised events one by one (R512). -/
def Mod.raise (m : Mod) (code : Nat) (payload : List Nat) : Mod :=
  { m with raised := m.raised ++ [{ code := code, payload := payload }] }

/-- Something leaves the module. -/
def Mod.emit (m : Mod) (o : Out) : Mod := { m with out := m.out ++ [o] }

/-- The next free value of `w` bits and the module that has used it up (log entry 5). -/
def Mod.draw (m : Mod) (w : Nat) : Nat × Mod :=
  (Config.freeValue m.freeCount % 2 ^ w, { m with freeCount := m.freeCount + 1 })

/-- The module after a list of like effects in turn. -/
def Mod.each {α : Type} (m : Mod) (l : List α) (f : Mod → α → Mod) : Mod := l.foldl f m

/-- The module, changed only where `c` holds. -/
def Mod.when (m : Mod) (c : Bool) (f : Mod → Mod) : Mod := if c then f m else m

end Sys2Proof.Machine
end

