-- ==== Sys2Proof/Machine/Float.lean ====
section
/-!
DEFINITION. IEEE 754 binary32 and binary64 arithmetic on bit patterns, rounded to nearest with ties to even (R79, R103, R104, R113),
the fixed arctangent of R572, and cosine, exponential and logarithm as correctly rounded functions (log entry 11).
-/
namespace Sys2Proof.Machine

/-- A binary floating-point format: stored significand bits and exponent bits. -/
structure Fmt where
  p : Nat
  w : Nat
deriving DecidableEq, Repr

/-- IEEE 754 binary32. -/
def b32 : Fmt := { p := 23, w := 8 }
/-- IEEE 754 binary64. -/
def b64 : Fmt := { p := 52, w := 11 }

/-- The exponent bias. -/
def Fmt.bias (F : Fmt) : Nat := 2 ^ (F.w - 1) - 1
/-- The exponent field of infinities and NaNs. -/
def Fmt.emax (F : Fmt) : Nat := 2 ^ F.w - 1
/-- The pattern of positive infinity. -/
def Fmt.inf (F : Fmt) : Nat := F.emax * 2 ^ F.p
/-- The weight of the sign bit. -/
def Fmt.sbit (F : Fmt) : Nat := 2 ^ (F.p + F.w)
/-- The NaN an invalid operation gives: its sign and its payload are open (log entry 12). -/
def Fmt.nan (F : Fmt) : Nat := Config.nanBits F.p / 2 ^ F.p % 2 * F.sbit + F.inf + 1 + Config.nanBits F.p % (2 ^ F.p - 1)

/-- The sign of a pattern. -/
def Fmt.neg (F : Fmt) (b : Nat) : Bool := b / F.sbit % 2 = 1
/-- A pattern without its sign. -/
def Fmt.mag (F : Fmt) (b : Nat) : Nat := b % F.sbit
/-- Whether a pattern is a NaN. -/
def Fmt.isNaN (F : Fmt) (b : Nat) : Bool := F.inf < F.mag b
/-- Whether a pattern is an infinity. -/
def Fmt.isInf (F : Fmt) (b : Nat) : Bool := F.mag b = F.inf
/-- Whether a pattern is a finite number. -/
def Fmt.isFin (F : Fmt) (b : Nat) : Bool := F.mag b < F.inf
/-- Whether a pattern is a zero. -/
def Fmt.isZero (F : Fmt) (b : Nat) : Bool := F.mag b = 0

/-- The significand of a finite pattern, as an integer. -/
def Fmt.sig (F : Fmt) (b : Nat) : Nat :=
  let a := F.mag b
  if a / 2 ^ F.p = 0 then a else 2 ^ F.p + a % 2 ^ F.p
/-- The exponent of a finite pattern's last significand bit. -/
def Fmt.expo (F : Fmt) (b : Nat) : Int :=
  let e := F.mag b / 2 ^ F.p
  ((if e = 0 then 1 else e : Nat) : Int) - F.bias - F.p

/-- `n * 2^e`, a little more where `sticky`, rounded once: to nearest, ties to even. -/
def Fmt.round (F : Fmt) (neg : Bool) (n : Nat) (e : Int) (sticky : Bool := false) : Nat :=
  let s := if neg then F.sbit else 0
  if n = 0 then s else
  let top : Int := (n.log2 : Int) + e
  let qmin : Int := 1 - (F.bias : Int) - F.p
  let qe : Int := if top - F.p < qmin then qmin else top - F.p
  let mant : Nat :=
    if qe ≤ e then n * 2 ^ (e - qe).toNat
    else
      let sh := (qe - e).toNat
      let q := n / 2 ^ sh
      let r := n % 2 ^ sh
      let half := 2 ^ (sh - 1)
      if half < r then q + 1
      else if r = half then (if sticky then q + 1 else q + q % 2)
      else q
  let bits := if mant < 2 ^ F.p then mant else (qe + F.p + F.bias).toNat * 2 ^ F.p + (mant - 2 ^ F.p)
  s + min bits F.inf

/-- An integer times a power of two, rounded once. -/
def Fmt.ofScaled (F : Fmt) (i : Int) (e : Int) : Nat := F.round (decide (i < 0)) i.natAbs e

/-- A rational, rounded once. -/
def Fmt.ofRat (F : Fmt) (num : Int) (den : Nat) : Nat :=
  let n := num.natAbs
  if n = 0 ∨ den = 0 then 0 else
  let s := F.p + 4 + den.log2 - min n.log2 (F.p + 3 + den.log2)
  let q := n * 2 ^ s / den
  F.round (decide (num < 0)) q (-(s : Int)) (n * 2 ^ s % den != 0)

/-- The signed integer significand of a finite pattern. -/
def Fmt.int (F : Fmt) (b : Nat) : Int := if F.neg b then -(F.sig b : Int) else F.sig b

/-- Addition. -/
def Fmt.add (F : Fmt) (a b : Nat) : Nat :=
  if F.isNaN a || F.isNaN b then F.nan
  else if F.isInf a then (if F.isInf b && F.neg a != F.neg b then F.nan else a)
  else if F.isInf b then b
  else if F.isZero a && F.isZero b then (if F.neg a && F.neg b then F.sbit else 0)
  else
    let e := min (F.expo a) (F.expo b)
    let sum := F.int a * 2 ^ (F.expo a - e).toNat + F.int b * 2 ^ (F.expo b - e).toNat
    if sum = 0 then 0 else F.ofScaled sum e

/-- The pattern with its sign changed. -/
def Fmt.negate (F : Fmt) (a : Nat) : Nat := if F.neg a then a - F.sbit else a + F.sbit

/-- Subtraction. -/
def Fmt.sub (F : Fmt) (a b : Nat) : Nat := if F.isNaN b then F.nan else F.add a (F.negate b)

/-- Multiplication. -/
def Fmt.mul (F : Fmt) (a b : Nat) : Nat :=
  let neg := F.neg a != F.neg b
  let s := if neg then F.sbit else 0
  if F.isNaN a || F.isNaN b then F.nan
  else if F.isInf a || F.isInf b then (if F.isZero a || F.isZero b then F.nan else F.inf + s)
  else F.round neg (F.sig a * F.sig b) (F.expo a + F.expo b)

/-- Division. -/
def Fmt.div (F : Fmt) (a b : Nat) : Nat :=
  let neg := F.neg a != F.neg b
  let s := if neg then F.sbit else 0
  if F.isNaN a || F.isNaN b then F.nan
  else if F.isInf a then (if F.isInf b then F.nan else F.inf + s)
  else if F.isInf b then s
  else if F.isZero b then (if F.isZero a then F.nan else F.inf + s)
  else if F.isZero a then s
  else
    let k := 2 * F.p + 6
    let q := F.sig a * 2 ^ k / F.sig b
    F.round neg q (F.expo a - F.expo b - k) (F.sig a * 2 ^ k % F.sig b != 0)

/-- The integer square root by Newton's steps, `fuel` of them. -/
def isqrtGo (n : Nat) : Nat → Nat → Nat
  | 0, x => x
  | fuel + 1, x => let y := (x + n / x) / 2; if y < x then isqrtGo n fuel y else x

/-- The integer square root, rounded down. -/
def isqrt (n : Nat) : Nat := if n < 2 then n else isqrtGo n (n.log2 + 8) (2 ^ (n.log2 / 2 + 1))

/-- The correctly rounded square root (R104). -/
def Fmt.sqrt (F : Fmt) (a : Nat) : Nat :=
  if F.isNaN a then F.nan
  else if F.isZero a then a
  else if F.neg a then F.nan
  else if F.isInf a then a
  else
    let e := F.expo a
    let odd := e % 2 = 1
    let k := F.p + 4
    let n := F.sig a * 2 ^ (2 * k) * (if odd then 2 else 1)
    let r := isqrt n
    F.round false r ((e - (if odd then 1 else 0)) / 2 - k) (r * r != n)

/-- Absolute value. -/
def Fmt.abs (F : Fmt) (a : Nat) : Nat := F.mag a

/-- Strictly less; false when either is a NaN. -/
def Fmt.lt (F : Fmt) (a b : Nat) : Bool :=
  if F.isNaN a || F.isNaN b then false
  else if F.isZero a && F.isZero b then false
  else match F.neg a, F.neg b with
    | true, false => true
    | false, true => false
    | false, false => F.mag a < F.mag b
    | true, true => F.mag b < F.mag a

/-- Equal as numbers. -/
def Fmt.eq (F : Fmt) (a b : Nat) : Bool :=
  if F.isNaN a || F.isNaN b then false else (F.isZero a && F.isZero b) || a == b

/-- Less or equal. -/
def Fmt.le (F : Fmt) (a b : Nat) : Bool := F.lt a b || F.eq a b

/-- A finite pattern in another format, rounded once. -/
def Fmt.conv (F G : Fmt) (a : Nat) : Nat :=
  if F.isNaN a then G.nan
  else if F.isInf a then G.inf + (if F.neg a then G.sbit else 0)
  else G.round (F.neg a) (F.sig a) (F.expo a)

/-- The integer part toward minus infinity of a finite pattern. -/
def Fmt.floor (F : Fmt) (a : Nat) : Int :=
  let e := F.expo a
  if 0 ≤ e then F.int a * 2 ^ e.toNat else F.int a / (2 ^ (-e).toNat : Int)

/-- binary32 operations, the arithmetic of R104. -/
abbrev fadd := b32.add
/-- binary32 subtraction. -/
abbrev fsub := b32.sub
/-- binary32 multiplication. -/
abbrev fmul := b32.mul
/-- binary32 division. -/
abbrev fdiv := b32.div
/-- binary32 square root. -/
abbrev fsqrt := b32.sqrt
/-- binary32 order. -/
abbrev flt := b32.lt
/-- binary32 order or equality. -/
abbrev fle := b32.le
/-- An integer as binary32. -/
def fofInt (i : Int) : Nat := b32.ofScaled i 0

/-- Complex sum. -/
def Cx.add (a b : Cx) : Cx := { re := fadd a.re b.re, im := fadd a.im b.im }
/-- Complex difference. -/
def Cx.sub (a b : Cx) : Cx := { re := fsub a.re b.re, im := fsub a.im b.im }
/-- Complex product as R118 forms it. -/
def Cx.mul (x y : Cx) : Cx :=
  { re := fsub (fmul x.re y.re) (fmul x.im y.im), im := fadd (fmul x.re y.im) (fmul x.im y.re) }
/-- A complex value times a real one. -/
def Cx.scale (x : Cx) (s : Nat) : Cx := { re := fmul x.re s, im := fmul x.im s }
/-- The magnitude: the correctly rounded root of re*re + im*im (R104). -/
def Cx.mag (x : Cx) : Nat := fsqrt (fadd (fmul x.re x.re) (fmul x.im x.im))
/-- The conjugate. -/
def Cx.conj (x : Cx) : Cx := { re := x.re, im := b32.negate x.im }

/-! ## Fixed-point elementary functions, 160 fractional bits -/

/-- The fractional bits of the elementary functions' working numbers. -/
def fxBits : Nat := 160

/-- floor(2 pi * 2^160). -/
def fxTwoPi : Int := 9182885614096437842769610399486622256908310048836

/-- The Taylor sum of cosine from term `i` on, `t` the term before. -/
def cosGo (x2 : Int) : Nat → Nat → Int → Int → Int
  | 0, _, _, acc => acc
  | fuel + 1, i, t, acc =>
    let t' := -(t * x2 / 2 ^ fxBits) / ((2 * i - 1) * (2 * i) : Nat)
    cosGo x2 fuel (i + 1) t' (acc + t')

/-- cos of `x` radians, both scaled by 2^160, for |x| of a few units at most. -/
def fxCos (x : Int) : Int := cosGo (x * x / 2 ^ fxBits) 48 1 (2 ^ fxBits) (2 ^ fxBits)

/-- cos of num/den turns, scaled by 2^160. -/
def cosTurn (num : Int) (den : Nat) : Int :=
  let r := num % (den : Int)
  let r' := if 2 * r ≤ den then r else den - r
  if 4 * r' = den then 0
  else if 4 * r' < den then fxCos (fxTwoPi * r' / den)
  else -fxCos (fxTwoPi * (den - 2 * r') / (2 * den : Nat))

/-- sin of num/den turns, scaled by 2^160. -/
def sinTurn (num : Int) (den : Nat) : Int := cosTurn (4 * num - den) (4 * den)

/-- The Taylor sum of the exponential. -/
def expGo (x : Int) : Nat → Nat → Int → Int → Int
  | 0, _, _, acc => acc
  | fuel + 1, i, t, acc =>
    let t' := t * x / 2 ^ fxBits / (i : Int)
    expGo x fuel (i + 1) t' (acc + t')

/-- `n` squarings. -/
def fxSquare : Nat → Int → Int
  | 0, x => x
  | n + 1, x => fxSquare n (x * x / 2 ^ fxBits)

/-- e^x with x scaled by 2^160, for x between -64 and 8; result scaled by 2^160. -/
def fxExp (x : Int) : Int := fxSquare 8 (expGo (x / 256) 40 1 (2 ^ fxBits) (2 ^ fxBits))

/-- ln 2 scaled by 2^160. -/
def fxLn2 : Int := 1013035739299659071135698605846798551586536899366

/-- The series of 2 artanh(y): y + y^3/3 + ... -/
def atanhGo (y2 : Int) : Nat → Nat → Int → Int → Int
  | 0, _, _, acc => acc
  | fuel + 1, i, t, acc =>
    let t' := t * y2 / 2 ^ fxBits
    atanhGo y2 fuel (i + 2) t' (acc + t' / (i : Int))

/-- ln of num/den, both positive, scaled by 2^160. -/
def fxLn (num den : Nat) : Int :=
  let k : Int := (num.log2 : Int) - den.log2
  -- x = num/den * 2^-k lies between 1/2 and 2
  let n : Int := if 0 ≤ k then num else num * 2 ^ (-k).toNat
  let d : Int := if 0 ≤ k then den * 2 ^ k.toNat else den
  let y : Int := (n - d) * 2 ^ fxBits / (n + d)
  2 * atanhGo (y * y / 2 ^ fxBits) 110 3 y y + k * fxLn2

/-! ## The fixed arctangent (R572) -/

/-- round(2^32 * atan(2^-i) / (2 pi)) for i = 0 to 27. -/
def atanTable : List Int :=
  [536870912, 316933406, 167458907, 85004756, 42667331, 21354465, 10679838, 5340245, 2670163, 1335087,
   667544, 333772, 166886, 83443, 41722, 20861, 10430, 5215, 2608, 1304, 652, 326, 163, 81, 41, 20, 10, 5]

/-- The rotation steps of R572 step 4. -/
def atanGo : List Int → Nat → Int → Int → Int → Int
  | [], _, _, _, z => z
  | a :: t, i, x, y, z =>
    if 0 ≤ y then atanGo t (i + 1) (x + y / 2 ^ i) (y - x / 2 ^ i) (z + a)
    else atanGo t (i + 1) (x - y / 2 ^ i) (y + x / 2 ^ i) (z - a)

/-- trunc(|x| * 2^s) with its sign, of a finite binary32 pattern. -/
def truncScale (b : Nat) (s : Int) : Int :=
  let e := b32.expo b + s
  let v : Int := if 0 ≤ e then b32.sig b * 2 ^ e.toNat else (b32.sig b / 2 ^ (-e).toNat : Nat)
  if b32.neg b then -v else v

/-- The angle of x + iy in units of 2^-32 turn, -2^31 to 2^31 - 1 (R572). -/
def arctan (x y : Nat) : Int :=
  if ¬ b32.isFin x ∨ ¬ b32.isFin y ∨ (b32.isZero x ∧ b32.isZero y) then 0
  else
    let big := if b32.mag x < b32.mag y then y else x
    let s : Int := 22 - ((b32.sig big).log2 + b32.expo big)
    let X := truncScale x s
    let Y := truncScale y s
    let z := if X < 0 then atanGo atanTable 0 (-X) (-Y) (2 ^ 31) else atanGo atanTable 0 X Y 0
    toInt 32 (ofInt 32 z)

end Sys2Proof.Machine
end

