-- ==== Sys2Proof/Machine/Flags.lean ====
section
/-!
DEFINITION. The logic bit space (R156, R157) and the status bits the chapters set and clear in it.
-/
namespace Sys2Proof.Machine

/-- A logic bit as last committed: an element slot's output byte (R127), or a bit its owner has written; reserved addresses read 0. -/
def Mod.bitAt (m : Mod) (a : Nat) : Bool :=
  if a < 0x10000 then bit ((Table.get m.element.slots {} (a / 16)).out % 256) (a % 16)
  else if 0xA0000 ≤ a ∨ (0x34000 ≤ a ∧ a < 0x38000) then false
  else Table.get m.bits 0 a == 1

/-- A status bit, output bit, marker, station bit or snapshot of a tenant bit written. -/
def Mod.setBitAt (m : Mod) (a : Nat) (b : Bool) : Mod := { m with bits := Table.set m.bits 0 a (b2n b) }

/-- A run of bits written. -/
def Mod.setBits (m : Mod) (l : List (Nat × Bool)) : Mod := l.foldl (fun m e => m.setBitAt e.1 e.2) m

/-- The bit that a FREEZE_SRC or BLOCK_SRC word names: bit 31 puts it in use, bits 19:0 address it; not in use it reads 0. -/
def Mod.srcBit (m : Mod) (w : Nat) : Bool := bit w 31 && m.bitAt (w % 2 ^ 20)

end Sys2Proof.Machine
end

