-- ==== Sys2Proof/Machine/Operands.lean ====
section
/-!
DEFINITION. What commands name: paths and their stages, abort codes, the tick rate, the module's rank and member state.
-/
namespace Sys2Proof.Machine

/-! ## Paths -/

/-- The number a path's stage and last code are kept under. -/
def pathNo : Path → Nat
  | .supervisor => 0
  | .sdo => 1
  | .dtp s => 0x10000 + s
  | .tenant t => 0x20000 + t

/-- PATH of a commit record (R457). -/
def pathCode : Path → Nat
  | .supervisor => 0
  | .sdo => 1
  | .dtp _ => 2
  | .tenant _ => 3

/-- The abort codes of R473. -/
def abToggle : Nat := 0x05030000
/-- SDO protocol timed out. -/
def abTimeout : Nat := 0x05040000
/-- Command specifier not valid, or block transfer. -/
def abSpecifier : Nat := 0x05040001
/-- Access violation. -/
def abAccess : Nat := 0x06010000
/-- Read of a write-only object. -/
def abWriteOnly : Nat := 0x06010001
/-- Write to a read-only object or subindex. -/
def abReadOnly : Nat := 0x06010002
/-- Object does not exist. -/
def abNoObject : Nat := 0x06020000
/-- Length does not match the type. -/
def abLength : Nat := 0x06070010
/-- Value too long. -/
def abTooLong : Nat := 0x06070012
/-- Subindex does not exist. -/
def abNoSub : Nat := 0x06090011
/-- Invalid value. -/
def abValue : Nat := 0x06090030
/-- Not possible in the present state of the owning block. -/
def abState : Nat := 0x08000022
/-- Selector not valid. -/
def abSelector : Nat := 0x08800001
/-- Group empty, or names an instance the object lacks. -/
def abGroup : Nat := 0x08800002
/-- Target tick out of range. -/
def abTarget : Nat := 0x08800003
/-- Refused by a peer, or tenant requests differ. -/
def abPeer : Nat := 0x08800004
/-- Not accepted in time. -/
def abInTime : Nat := 0x08800005
/-- Cancelled. -/
def abCancelled : Nat := 0x08800006
/-- Cancel too late, nothing pending to cancel, or commit unknown. -/
def abCancelLate : Nat := 0x08800007
/-- Stage full. -/
def abStageFull : Nat := 0x08800008
/-- Too many pending commits. -/
def abPending : Nat := 0x08800009
/-- Transfer cut short. -/
def abCutShort : Nat := 0x0880000A
/-- Module cannot commit in its member state. -/
def abMember : Nat := 0x0880000B
/-- Check of the owning block failed. -/
def abCheck : Nat := 0x0880000C
/-- Part out of order, or no snapshot. -/
def abOrder : Nat := 0x0880000D
/-- Session limit reached. -/
def abSessions : Nat := 0x0880000E

/-- The outcome of an access recorded on its path: 0 when it was served, otherwise the abort code (R473). -/
def Mod.report (m : Mod) (p : Path) (code : Nat) : Mod :=
  { m with dic := { m.dic with lastAbort := Table.set m.dic.lastAbort 0 (pathNo p) code } }

/-- A write served with effect `f`. -/
def Mod.served (m : Mod) (p : Path) (f : Mod → Mod) : Mod := (f m).report p 0

/-- The abort code of the last access of a path. -/
def Mod.lastAbort (m : Mod) (p : Path) : Nat := Table.get m.dic.lastAbort 0 (pathNo p)

/-- Whether a path is a tenant's dictionary port. -/
def isTenantPath : Path → Bool
  | .tenant _ => true
  | _ => false

/-- Whether step 6 of start-up has completed (R540). -/
def Mod.configured (m : Mod) : Bool := decide (6 < m.num 0x203001)

/-- An access of the dictionary with effect `f`: nothing happens while a reset is held, and a tenant has no path but its port (R218). -/
def Mod.access (m : Mod) (p : Path) (f : Mod → Mod) : Mod :=
  if m.power.held ≠ 0 then m else if isTenantPath p then m.report p abAccess else f m

/-- A write with effect `f`: until step 6 of start-up completes it is refused with 0x0800_0022 (R540). -/
def Mod.gate (m : Mod) (p : Path) (f : Mod → Mod) : Mod :=
  m.access p (fun (m : Mod) => if !m.configured then m.report p abState else f m)

/-! ## The tick -/

/-- The tick rate R in ticks per second (R10). -/
def Mod.hz (m : Mod) : Nat := if m.num 0x200001 = 0 then 4800 else 4000

/-- Schedule units of 1/480 µs in a tick at a rate (R19). -/
def unitsOf (rate : Nat) : Nat := if rate = 0 then 100000 else 120000

/-- The alignment delay D (R16). -/
def Mod.delay (m : Mod) : Nat := m.num 0x200002

/-- The current tick number. -/
def Mod.k (m : Mod) : Nat := m.tick.k

/-- The filing tick processed in the current tick, k - D, where there is one (R16). -/
def Mod.kf (m : Mod) : Nat := m.tick.k - m.delay

/-- The tick-in-second and the second of tick t, counted on from the newest of the marks not after it; none before the first (R13, R15). -/
def tickAt (hz : Nat) : List (Nat × Nat × Nat) → Nat → Option (Nat × Nat)
  | [], _ => none
  | (k, q, sec) :: rest, t => if k ≤ t then some ((q + (t - k)) % hz, sec + (q + (t - k)) / hz) else tickAt hz rest t

/-- The tick-in-second of tick k - j, as it ran (R53); before the start, as it would have run. -/
def Mod.qAgo (m : Mod) (j : Nat) : Nat :=
  match tickAt m.hz m.tick.marks (m.tick.k - j) with
  | some e => e.1
  | none => (m.tick.q + m.hz - j % m.hz) % m.hz

/-- The tick-in-second of the filing tick. -/
def Mod.qf (m : Mod) : Nat := m.qAgo m.delay

/-- The time base, in ns of TAI, when the oscillator's slewed count since reset is `now` (R376; log entry 87). -/
def Mod.tb (m : Mod) (now : Nat) : Nat := ((now : Int) + m.time.off).toNat

/-- The TAI second in which the tick j ticks ago lies. -/
def Mod.secAgo (m : Mod) (j : Nat) : Nat :=
  match tickAt m.hz m.tick.marks (m.tick.k - j) with
  | some e => e.2
  | none => m.tick.sec - (j + (m.hz - 1 - m.tick.q)) / m.hz

/-- A tick-in-second and second that count on from the present tick (R13, R15). -/
def Mod.markTick (m : Mod) (q sec : Nat) : Mod :=
  { m with tick := { m.tick with q := q, sec := sec, marks := (m.tick.k, q, sec) :: m.tick.marks } }

/-- The number of a phase, as PHASE_NOW reads it (R42). -/
def phaseCode : Phase → Nat
  | .I => 0 | .F => 1 | .E => 2 | .L1 => 3 | .T => 4 | .L2 => 5 | .V => 6 | .P => 7

/-- Whether a tick runs and is in phase `p`: the eight phases follow one another in their fixed order (R19). -/
def Mod.inPhase (m : Mod) (p : Phase) : Bool := m.tick.running && m.tick.phase == p

/-- TIME_QUALITY (R392): it follows the time status bits of the triad (R391). -/
def Mod.timeQuality (m : Mod) : Nat :=
  let b := fun (i : Nat) => Table.get m.bits 0 (0x80000 + i) == 1
  128 * b2n m.time.leapKnown + 64 * b2n (!m.time.everLocked) + 32 * b2n (!b 3) + (if b 0 then 20 else if b 1 then 17 else 31)

/-- Whether the tick is stopped: TICK_RUN holds 0, or the tick has not started (R455, R539). -/
def Mod.stopped (m : Mod) : Bool := !m.tick.running || !m.on 0x200003

/-! ## Rank and member state -/

/-- The module's rank, 0 for none (R234). -/
def Mod.rank (m : Mod) : Nat := m.num 0x600001

/-- The member states of R238 as 0x6000.02 codes them. -/
def msOut : Nat := 0
/-- SEEK. -/
def msSeek : Nat := 1
/-- RESYNC. -/
def msResync : Nat := 2
/-- SHADOW. -/
def msShadow : Nat := 3
/-- MEMBER. -/
def msMember : Nat := 4
/-- DEMOTED. -/
def msDemoted : Nat := 5
/-- STANDALONE. -/
def msStandalone : Nat := 6
/-- CONFLICT. -/
def msConflict : Nat := 7

/-- The member state (R238). -/
def Mod.mstate (m : Mod) : Nat := m.num 0x600002

/-- Whether the module is a MEMBER. -/
def Mod.isMember (m : Mod) : Bool := m.mstate == msMember

/-! ## Stages (R452, R453) -/

/-- The stage of a path. -/
def Mod.stage (m : Mod) (p : Path) : List StageEntry := Table.get m.dic.stages [] (pathNo p)

/-- A path's stage replaced. -/
def Mod.setStage (m : Mod) (p : Path) (st : List StageEntry) : Mod :=
  { m with dic := { m.dic with stages := Table.set m.dic.stages [] (pathNo p) st } }

/-- The octets a type of fixed size takes; 0 for STRING and OCTETS (R446). -/
def tySize : ObjTy → Nat
  | .bool => 1 | .u8 => 1 | .u16 => 2 | .u32 => 4 | .u64 => 8
  | .i8 => 1 | .i16 => 2 | .i32 => 4 | .i64 => 8 | .f32 => 4 | .tick => 8 | .str => 0 | .octs => 0

/-- The octets a value of object `o` takes on a path or in a stage. -/
def valLen (o : Nat) : Val → Nat
  | .num _ => match objRow? o with
    | some r => tySize r.ty
    | none => 0
  | .oct b => b.length

/-- The octets of values in a stage. -/
def stageBytes (st : List StageEntry) : Nat := (st.map (fun e => valLen e.obj e.val)).sum

/-- A stage with an entry put in: in place of an earlier one of the same object and selector, otherwise last. -/
def stagePut (e : StageEntry) : List StageEntry → List StageEntry
  | [] => [e]
  | a :: t => if a.obj = e.obj ∧ a.sel = e.sel then e :: t else a :: stagePut e t

/-- Entries put into a path's stage, or refused as a whole where the stage would exceed 8,192 entries or 262,144 octets (R452). -/
def Mod.stageAll (m : Mod) (p : Path) (es : List StageEntry) : Mod × Nat :=
  let st := es.foldl (fun st e => stagePut e st) (m.stage p)
  if 8192 < st.length ∨ 262144 < stageBytes st then (m, abStageFull) else (m.setStage p st, 0)

/-! ## Tenants' states (R205, R225) -/

/-- Tenant states as 0x5100.01 codes them. -/
def tnEmpty : Nat := 0
/-- RUNNING. -/
def tnRunning : Nat := 1
/-- FROZEN. -/
def tnFrozen : Nat := 2

/-- Whether tenant t is frozen with kind ALL: a commit froze it and FREEZE_KIND is 1; a freeze for violations is of kind SW (R225). -/
def Mod.frozenAll (m : Mod) (t : Nat) : Bool :=
  m.num 0x510001 t == tnFrozen && m.num 0x51000D t == 1 && m.num 0x510006 t == 1

/-- The tenants that are not EMPTY. -/
def Mod.tenantsOn (m : Mod) : List Nat := m.instancesOn 0x510001

end Sys2Proof.Machine
end

