-- ==== Sys2Proof/Machine/Ingest.lean ====
section
/-!
DEFINITION. Sampled-value ingest: matching, checking and filing of frames, the close of filing, flags and substitution,
and the stream states (R43-R68).
-/
namespace Sys2Proof.Machine

/-- The key a slot holds: the exclusive or of its two shares (R491). -/
def Mod.keyBytes (m : Mod) (slot : Nat) : List Byte :=
  let k := Table.get m.keys.slots {} slot
  List.zipWith (· ^^^ ·) k.shareA k.shareB

/-- The enabled streams. -/
def Mod.streamsOn (m : Mod) : List Nat := m.instancesOn 0x401001

/-- Sub-samples per tick of stream s: 1 at base rate, 3 at triple rate (R11). -/
def Mod.subsOf (m : Mod) (s : Nat) : Nat := if m.on 0x401007 s then 3 else 1

/-- The channels of stream s (R49). -/
def Mod.chansOf (m : Mod) (s : Nat) : List Nat := (List.range (m.num 0x401009 s)).map (· + m.num 0x40100A s)

/-- The runtime of stream s. -/
def Mod.streamRt (m : Mod) (s : Nat) : StreamRt := Table.get m.ingest.streams {} s
/-- The runtime of stream s replaced. -/
def Mod.setStreamRt (m : Mod) (s : Nat) (x : StreamRt) : Mod :=
  { m with ingest := { m.ingest with streams := Table.set m.ingest.streams {} s x } }

/-- Where the filing (s, k_f, sub-sample) stands. -/
def filingKey (s kf sub : Nat) : Nat := (kf * 2048 + s) * 3 + sub

/-! ## Frames (R43-R48) -/

/-- Whether an ASDU lacks a required field or carries another tag (R45). -/
def asduMalformed (a : Asdu) : Bool :=
  a.otherTag || a.svID.isNone || a.smpCnt.isNone || a.confRev.isNone || a.smpSynch.isNone || a.seqLen.isNone

/-- Whether a frame's encoding is outside R43 and R64. -/
def svOutside (f : SvFrame) (udpPort : Nat) : Bool :=
  match f.encoding with
  | .layer2 => false
  | .routed4 => f.fragment || f.tunnelled || f.udpPort != udpPort
  | .routed6 => f.fragment || f.tunnelled || f.udpPort != udpPort
  | .other => true

/-- TRANSPORT of a frame's encoding (R67). -/
def svTransport (f : SvFrame) : Nat :=
  match f.encoding with
  | .layer2 => 0
  | .routed4 => 1
  | .routed6 => 2
  | .other => 3

/-- Whether stream s matches a frame on the four keys of R48, its transport and its source filter (log entry 21). -/
def Mod.streamMatches (m : Mod) (f : SvFrame) (s : Nat) : Bool :=
  m.num 0x40100F s == (svTransport f) && m.oct 0x401002 s == f.dstMac &&
  m.num 0x401003 s == f.vlan.getD 0 && m.num 0x401004 s == f.appid &&
  (match f.asdus with
   | a :: _ => a.svID == some (m.oct 0x401005 s)
   | [] => false) &&
  ((m.oct 0x401013 s).isEmpty || (svTransport f) == 0 || m.oct 0x401013 s == f.srcAddr)

/-- The enabled stream that a frame matches. -/
def Mod.streamOf (m : Mod) (f : SvFrame) : Option Nat := m.streamsOn.find? (m.streamMatches f)

/-- The sync class of R55. -/
def syncClass (smpSynch : Nat) : Nat :=
  if smpSynch = 2 then 2 else if smpSynch = 1 ∨ (5 ≤ smpSynch ∧ smpSynch ≤ 254) then 1 else 0

/-- Sample counts per second of stream s. -/
def Mod.streamRate (m : Mod) (s : Nat) : Nat := m.hz * m.subsOf s

/-! ## Authentication (R64, R65) -/

/-- How the authentication of a PDU of a stream comes out. -/
inductive AuthVerdict where
  | accepted | failed | replay
deriving DecidableEq, Repr

/-- The check of R65 under the stream's two key slots: the slot whose KEY_ID the PDU names, its tag, then its SPDU number. A PDU whose key ID matches
neither slot fails as one whose tag does (log entry 198). -/
def Mod.authVerdict (m : Mod) (s : Nat) (f : SvFrame) : AuthVerdict :=
  let want := m.num 0x401010 s
  if f.auth = .hmac ∨ f.auth = .encrypted then .failed
  else if want = 0 then .accepted
  else if (want = 1 ∧ f.auth ≠ .gmac128) ∨ (want = 2 ∧ f.auth ≠ .gmac64) then .failed
  else
    match [m.num 0x401011 s, m.num 0x401012 s].find? (fun sl => m.num 0x642002 sl == 1 && m.num 0x642004 sl == f.keyId) with
    | none => .failed
    | some sl =>
      let tag := Config.gmac (m.keyBytes sl) f.iv f.authData
      if (if want = 1 then tag else tag.take 8) ≠ f.tag then .failed
      else match Table.find? m.ingest.replay (s * 2 ^ 32 + f.keyId) with
        | some last => if f.spdu ≤ last then .replay else .accepted
        | none => .accepted

/-! ## Filing (R53, R63) -/

/-- The last tick from `hi` down to the oldest mark whose tick-in-second is n, counted on from the marks (R13, R15). -/
def tickOf (hz n : Nat) : List (Nat × Nat × Nat) → Nat → Option Nat
  | [], _ => none
  | (k, q, _) :: rest, hi =>
    let d := ((q + (hi - k)) % hz + hz - n % hz) % hz
    if k ≤ hi ∧ d ≤ hi - k then some (hi - d) else tickOf hz n rest (min hi (k - 1))

/-- The filing tick of tick-in-second n (R53): from k - R/2 + 1 to k + R/2, a tick that has run or one to come at the present count. Where a
backward step of the time base makes n occur twice there, the newest tick that has run (log entry 195). -/
def Mod.filingTick (m : Mod) (n : Nat) : Option Nat :=
  let r := m.hz
  let ahead := (n + r - m.tick.q % r) % r
  match tickOf r n m.tick.marks m.k with
  | some t => if m.k < t + r / 2 then some t else if ahead ≤ r / 2 then some (m.k + ahead) else none
  | none => if ahead ≤ r / 2 then some (m.k + ahead) else none

/-- Whether of two copies of a sub-sample the first stands: the earlier arrival stamp, and with the same stamp the lower switch port (R63). -/
def Filing.before (a b : Filing) : Bool := decide (a.stamp < b.stamp ∨ (a.stamp = b.stamp ∧ a.port < b.port))

/-- One sub-sample of stream s filed, or discarded as late, early or duplicate (R53, R63). `stamp` is the frame's arrival stamp. -/
def fileAsdu (s port stamp : Nat) (a : Asdu) (m : Mod) : Mod :=
  let n := a.smpCnt.getD 0
  let triple := m.on 0x401007 s
  match m.filingTick (if triple then n / 3 else n) with
  | none => m
  | some kf =>
    if kf + m.delay ≤ m.k then m.bump 0x401021 s
    else if m.k + 8 < kf then m.bump 0x401022 s
    else
      let key := filingKey s kf (if triple then n % 3 else 0)
      let new : Filing := { smpCnt := n, sync := syncClass (a.smpSynch.getD 0), vals := a.seq, port := port, stamp := stamp }
      let stands := { m with ingest := { m.ingest with filings := Table.put m.ingest.filings key new } }
      match Table.find? m.ingest.filings key with
      | some old =>
        let first := new.before old
        let m := (if first then stands else m).bump 0x401023 s
        if old.vals = new.vals ∧ old.sync = new.sync then m
        else (m.bump 0x401026 s).raise 0x0713 (if first then [s, n, port, old.port] else [s, n, old.port, port])
      | none =>
        match a.gmIdentity with
        | some g => stands.setOct 0x401016 g s
        | none => stands

/-- A frame of stream s whose shape, simulation and authentication checks come first, in the order of log entry 22 (R46, R47, R58, R65). HMAC and
encrypted PDUs, which R64 has refused and counted, raise event 0x0714 as well (log entry 197). -/
def streamFrame (s port : Nat) (f : SvFrame) (m : Mod) : Mod :=
  let rt := m.streamRt s
  let conf := m.num 0x401006 s
  if f.asdus.length ≠ m.num 0x401008 s then m.bump 0x400003
  else if f.asdus.any (fun a => a.svID != some (m.oct 0x401005 s)) then m.bump 0x401024 s
  else match f.asdus.find? (fun a => a.confRev != some conf) with
  | some a =>
    let m := m.bump 0x401024 s
    if rt.confOk then (m.raise 0x0712 [s, a.confRev.getD 0]).setStreamRt s { rt with confOk := false } else m
  | none =>
    let m := m.setStreamRt s { rt with confOk := true }
    if f.asdus.any (fun a => a.seqLen != some (8 * m.num 0x401009 s)) then m.bump 0x401024 s
    else if f.asdus.any (fun a => decide (m.streamRate s ≤ a.smpCnt.getD 0)) then m.bump 0x400003
    else if f.sim != m.on 0x40100E s then m.bump 0x401025 s
    else match m.authVerdict s f with
    | .failed => (m.bump 0x401027 s).raise 0x0714 [s, f.keyId]
    | .replay => m.bump 0x401028 s
    | .accepted =>
      let m := if m.num 0x401010 s = 0 then m
        else { m with ingest := { m.ingest with replay := Table.put m.ingest.replay (s * 2 ^ 32 + f.keyId) f.spdu } }
      if !m.tick.running then m
      else (m.bump 0x401020 s).each f.asdus (fun m a => fileAsdu s port f.stamp a m)

/-- INGEST_FRAME_ARRIVAL (R53): a frame at port 792 that ingest can take, matched and judged. `overload` says that ingest could
not sustain the load of R54 when it came. -/
def ingestFrame (f : SvFrame) (port : Nat) (overload : Bool) (m : Mod) : Mod :=
  if overload then m.bump 0x400004
  else if svOutside f (m.num 0x400005) || f.asdus.isEmpty || f.asdus.any asduMalformed then m.bump 0x400003
  else match m.streamOf f with
    | none => m.bump 0x400002
    | some s => streamFrame s port f m

/-- INGEST_FRAME_ARRIVAL. -/
def execIngestFrameArrival (f : SvFrame) (port : Nat) (overload : Bool) (s : State) : Host.Outcome State Fault Refusal :=
  .next { s with mod := s.mod.awake (ingestFrame f port overload) }

/-! ## The close of filing (R55) -/

/-- The octets of one filed sub-sample in the digest: smpCnt, then each value and quality word, most significant octet first. -/
def filingOctets (f : Filing) : List Byte := toBE 2 f.smpCnt ++ f.vals.flatMap (fun v => toBE 4 v.1 ++ toBE 4 v.2)

/-- The presence mask of a tick's sub-samples. -/
def presenceMask (subs : List (Option Filing)) : Nat :=
  ((List.range 3).map (fun i => match subs.getD i none with | some _ => 2 ^ i | none => 0)).sum

/-- The digest input of R55 over a tick's sub-samples. -/
def digestInput (subs : List (Option Filing)) : List Byte :=
  let sync := ((List.range 3).map (fun i => match subs.getD i none with | some f => f.sync * 4 ^ i | none => 0)).sum
  toLE 1 (presenceMask subs) ++ toLE 1 sync ++ subs.flatMap (fun f => match f with | some f => filingOctets f | none => [])

/-- The digest of R55 over a tick's sub-samples. -/
def streamDigest (subs : List (Option Filing)) : Nat := crc32 (digestInput subs)

/-- What stream s has filed for k_f; samples of ticks before the stream's enable are missing (R51). -/
def Mod.filedSubs (m : Mod) (s kf : Nat) : List (Option Filing) :=
  (List.range (m.subsOf s)).map (fun i =>
    if kf < (m.streamRt s).enabledAt then none else Table.find? m.ingest.filings (filingKey s kf i))

/-- FILING_CLOSE: at the start of tick k, filing closes for k - D and each enabled stream's record forms (R55). -/
def Mod.closeFiling (m : Mod) : Mod :=
  if m.k < m.delay then { m with ingest := { m.ingest with closed := [], agreed := [] } }
  else
    let kf := m.kf
    let recs := m.streamsOn.map (fun s =>
      let subs := m.filedSubs s kf
      (s, ({ s := s, kf := kf, mask := presenceMask subs, digest := streamDigest subs, subs := subs } : StreamRec)))
    { m with ingest := { m.ingest with
        closed := recs.foldl (fun t e => Table.put t e.1 e.2) []
        agreed := []
        store := recs.foldl (fun t e => Table.put t (e.1 * 64 + kf % 64) e.2) m.ingest.store
        filings := m.ingest.filings.filter (fun e => decide (kf < e.1 / 3 / 2048)) } }

/-! ## Flags and substitution (R56-R59) -/

/-- Whether a sync class is sufficient for SYNC_REQ (R57). -/
def syncSufficient (cls req : Nat) : Bool := cls == 2 || decide (req = 0) || (cls == 1 && decide (req ≤ 1))

/-- The flag byte of an agreed sub-sample's quality word, before substitution (R56-R58). -/
def Mod.flagsOf (m : Mod) (s sync qual : Nat) : Nat :=
  let v := qual % 4
  let suff := syncSufficient sync (m.num 0x40100B s)
  let invalid := v = 1 ∨ v = 2 ∨ bit qual 12 ∨ (bit qual 11 ∧ m.num 0x40100D s = 0) ∨ (m.num 0x40100C s = 1 ∧ !suff)
  0x20 * b2n invalid + 0x10 * b2n (v == 3) + 8 * b2n (bit qual 11) + 4 * b2n (!suff) + 2 * b2n (bit qual 10) + b2n (bit qual 13)

/-- Whether a flag byte carries MISSING or INVALID. -/
def flagBad (fl : Nat) : Bool := bit fl 6 || bit fl 5

/-- The value and flag byte delivered for one sub-sample (R59), and the held value afterwards. -/
def substitute (mode limit kf : Nat) (h : Held) (v fl : Nat) : (Nat × Nat) × Held :=
  if !flagBad fl then ((v, fl), { value := v, kg := kf, valid := true })
  else match mode with
    | 0 => ((if h.valid ∧ kf - h.kg ≤ limit then h.value else 0, fl + 0x80), h)
    | 1 => ((0, fl + 0x80), h)
    | _ => ((if bit fl 6 then 0 else v, fl), h)

/-- The sub-samples of one channel delivered in order. -/
def substituteAll (mode limit kf : Nat) : List (Nat × Nat) → Held → List (Nat × Nat) × Held
  | [], h => ([], h)
  | (v, fl) :: t, h =>
    let r := substitute mode limit kf h v fl
    let r2 := substituteAll mode limit kf t r.2
    (r.1 :: r2.1, r2.2)

/-- Channel c, value j of stream s, delivered for the tick (R56, R59). -/
def deliverChannel (s kf : Nat) (subs : List (Option Filing)) (j c : Nat) (m : Mod) : Mod :=
  let raw := subs.map (fun f => match f with
    | none => (0, 0x40)
    | some f => let v := f.vals.getD j (0, 0); (v.1, m.flagsOf s f.sync v.2))
  let r := substituteAll (m.num 0x402003 c) (m.num 0x402004 c) kf raw (Table.get m.ingest.held {} c)
  let m := { m with ingest := { m.ingest with
    deliv := Table.put m.ingest.deliv c { kf := kf, subs := r.1 }, held := Table.set m.ingest.held {} c r.2 } }
  m.set 0x402006 ((r.1.getLast?.map (·.2)).getD 0x40) c

/-- SYNC_LOST_CHANGE (R61): the state follows the latest agreed sub-sample present; event 0x0715 when it changes. -/
def syncLostChange (s : Nat) (subs : List (Option Filing)) (m : Mod) : Mod :=
  match (subs.filterMap id).getLast? with
  | none => m
  | some f =>
    let lost := !syncSufficient f.sync (m.num 0x40100B s)
    let rt := m.streamRt s
    if lost = rt.syncLost then m else (m.setStreamRt s { rt with syncLost := lost }).raise 0x0715 [s, f.sync]

/-- Stream s delivered for the tick: its runs of R60, its channels, its SYNC_LOST state and status bit 0x81800 + s. -/
def deliverStream (s : Nat) (m : Mod) : Mod :=
  let kf := m.kf
  let subs := Table.get m.ingest.agreed (List.replicate (m.subsOf s) none) s
  let present := subs.any Option.isSome
  let rt := m.streamRt s
  let m := m.setStreamRt s { rt with present := if present then rt.present + 1 else 0, absent := if present then 0 else rt.absent + 1 }
  let m := if present then m else m.bump 0x401029 s
  let m := m.each ((m.chansOf s).zipIdx) (fun m e => deliverChannel s kf subs e.2 e.1 m)
  let m := syncLostChange s subs m
  m.setBitAt (0x81800 + s) ((m.chansOf s).all (fun c =>
    (Table.get m.ingest.deliv {} c).subs.all (fun e => !flagBad e.2)))

/-- SAMPLE_SUBSTITUTION for the tick: every enabled stream delivers its agreed samples (R56, R59). -/
def Mod.deliverAll (m : Mod) : Mod :=
  let m := { m with ingest := { m.ingest with deliv := [] } }
  m.each m.streamsOn (fun m s => deliverStream s m)

/-! ## Commands of the stream states -/

/-- STREAM_RUNNING (R60): three consecutive present ticks take a WAITING or LOST stream to RUNNING. -/
def streamRunning (s : Nat) (m : Mod) : Mod :=
  if (m.num 0x401015 s = 1 ∨ m.num 0x401015 s = 3) ∧ 3 ≤ (m.streamRt s).present then
    ((m.set 0x401015 2 s).setBitAt (0x81000 + s) true).raise 0x0711 [s, m.k]
  else m

/-- STREAM_RUNNING. -/
def execStreamRunning (s : Nat) (st : State) : Host.Outcome State Fault Refusal :=
  .next { st with mod := st.mod.awake (streamRunning s) }

/-- STREAM_LOST (R60): LOSS_TICKS consecutive absent ticks take a RUNNING stream to LOST. -/
def streamLost (s : Nat) (m : Mod) : Mod :=
  if m.num 0x401015 s = 2 ∧ m.num 0x401014 s ≤ (m.streamRt s).absent then
    ((m.set 0x401015 3 s).setBitAt (0x81000 + s) false).raise 0x0710 [s, m.k]
  else m

/-- STREAM_LOST. -/
def execStreamLost (s : Nat) (st : State) : Host.Outcome State Fault Refusal :=
  .next { st with mod := st.mod.awake (streamLost s) }

/-- SUBST_HOLD_EXPIRY (R59): a HOLD channel whose held value is older than HOLD_LIMIT filing ticks delivers 0 for its missing and invalid sub-samples. -/
def substHoldExpiry (c : Nat) (m : Mod) : Mod :=
  match Table.find? m.ingest.deliv c with
  | none => m
  | some d =>
    let h := Table.get m.ingest.held {} c
    if m.num 0x402003 c = 0 ∧ h.valid ∧ m.num 0x402004 c < d.kf - h.kg then
      let d' : Delivered := { d with subs := d.subs.map (fun e => if flagBad e.2 then (0, e.2) else e) }
      { m with ingest := { m.ingest with deliv := Table.put m.ingest.deliv c d' } }
    else m

/-- SUBST_HOLD_EXPIRY. -/
def execSubstHoldExpiry (c : Nat) (s : State) : Host.Outcome State Fault Refusal := .next { s with mod := s.mod.awake (substHoldExpiry c) }

end Sys2Proof.Machine
end

