-- ==== Sys2Proof/Machine/Filter.lean ====
section
/-!
DEFINITION. The filter and decimation chain, its profiles and their banks (R69-R98).
-/
namespace Sys2Proof.Machine

/-! ## Profiles (R80, R81, R88) -/

/-- The runtime of profile p. -/
def Mod.profile (m : Mod) (p : Nat) : ProfileSt := Table.get m.filter.profiles {} p
/-- The runtime of profile p replaced. -/
def Mod.setProfile (m : Mod) (p : Nat) (x : ProfileSt) : Mod :=
  { m with filter := { m.filter with profiles := Table.set m.filter.profiles {} p x } }
/-- The active bank of a user profile. -/
def Mod.activeBank (m : Mod) (p : Nat) : Bank := if m.num 0x442004 p = 0 then (m.profile p).a else (m.profile p).b
/-- The inactive bank of a user profile. -/
def Mod.inactiveBank (m : Mod) (p : Nat) : Bank := if m.num 0x442004 p = 0 then (m.profile p).b else (m.profile p).a
/-- The inactive bank of a user profile replaced. -/
def Mod.setInactiveBank (m : Mod) (p : Nat) (b : Bank) : Mod :=
  if m.num 0x442004 p = 0 then m.setProfile p { m.profile p with b := b } else m.setProfile p { m.profile p with a := b }

/-- Base-rate tap counts of the presets (R80). -/
def presetTaps (p : Nat) : Nat := [8, 24, 48, 96].getD p 0
/-- Divisors of the presets (R80). -/
def presetDivisor (p : Nat) : Nat := [1, 1, 2, 8].getD p 1

/-- A value within 1 LSB of a third of a base-rate word h, by a choice (R80). -/
def thirdOf (h : Int) (choice : Nat) : Int := if h % 3 = 0 then h / 3 - 1 + (choice % 3 : Nat) else h / 3 + (choice % 2 : Nat)

/-- The sets the silicon may hold for a preset: Q1.23 words the manual does not list, base rate and triple rate (R80). -/
def presetSilicon (p : Nat) : List Int × List Int :=
  let base := (List.range (presetTaps p / 2)).map (fun i => toInt 24 (Config.presetBase p i % 2 ^ 24))
  (base, (List.range (3 * (presetTaps p / 2))).map (fun i => thirdOf (base.getD (i / 3) 0) (Config.presetThird p i)))

/-- The least and the greatest Σh² in millionths at which a preset's noise reduction reads as its table has it, base rate and triple rate (R80). -/
def presetPower (p : Nat) : (Nat × Nat) × (Nat × Nat) :=
  [((446684, 562341), (164059, 167880)), ((141254, 177827), (51881, 53088)), ((56235, 70794), (20654, 21134)),
   ((14126, 17782), (5189, 5308))].getD p ((0, 0), (0, 0))

/-- Whether the stored half of a set of even length has a DC gain of 1.0 and a Σh² within bounds in millionths (R80). -/
def setWithin (h : List Int) (b : Nat × Nat) : Bool :=
  let s := 2000000 * (h.map (fun w => w * w)).sum
  2 * h.sum == 2 ^ 23 && decide ((b.1 : Int) * 2 ^ 46 ≤ s ∧ s ≤ (b.2 : Int) * 2 ^ 46)

/-- Sets that meet R80, taken where the silicon's unlisted words would not: N/2 - 1 equal words, a last one that makes the gain 1.0, and thirds. -/
def presetMeeting (p : Nat) : List Int × List Int :=
  let w : Int := [2974, 173856, 123117, 78266].getD p 0
  let n := presetTaps p / 2
  let base := List.replicate (n - 1) w ++ [4194304 - ((n - 1 : Nat) : Int) * w]
  (base, base.flatMap (fun h => [h / 3, (h + 1) / 3, (h + 2) / 3]))

/-- The stored halves of a preset's sets, base rate and triple rate: any words that have the gain and the figures of R80 (log entry 29). -/
def presetSets (p : Nat) : List Int × List Int :=
  let c := presetSilicon p
  if setWithin c.1 (presetPower p).1 ∧ setWithin c.2 (presetPower p).2 then c else presetMeeting p

/-- The stored half of a coefficient set: ceil(N/2) words as integers. -/
def bankWords (b : Bank) : List Int := (List.range ((b.taps + 1) / 2)).map (fun i => toInt 32 (field b.words (4 * i) 4))

/-- N and the stored half of the set that profile p applies at a rate, N = 0 where the active bank is empty (R69, R77). -/
def Mod.coeffs (m : Mod) (p : Nat) (triple : Bool) : Nat × List Int :=
  if p < 4 then
    let n := presetTaps p * (if triple then 3 else 1)
    (n, if triple then (presetSets p).2 else (presetSets p).1)
  else
    let b := m.activeBank p
    (b.taps, bankWords b)

/-- The divisor M of profile p (R78). -/
def Mod.divisor (m : Mod) (p : Nat) : Nat := if p < 4 then presetDivisor p else m.num 0x442002 p

/-- The history depth a channel on profile p takes (R83). -/
def Mod.depthOf (m : Mod) (p : Nat) (triple : Bool) : Nat :=
  if p < 4 then presetTaps p * (if triple then 3 else 1) else m.num 0x442003 p

/-- The stream that maps channel c, if an enabled stream does. -/
def Mod.streamOfChan (m : Mod) (c : Nat) : Option Nat := m.streamsOn.find? (fun s => (m.chansOf s).contains c)

/-- The channels that enabled streams map. -/
def Mod.mapped (m : Mod) : List Nat := m.streamsOn.flatMap m.chansOf

/-- Whether a channel's stream runs at triple rate. -/
def Mod.triple (m : Mod) (c : Nat) : Bool :=
  match m.streamOfChan c with
  | some s => m.on 0x401007 s
  | none => false

/-- Whether channel c produces filter outputs: an enabled stream maps it and its profile has active coefficients (R69). -/
def Mod.hasOutput (m : Mod) (c : Nat) : Bool :=
  (m.streamOfChan c).isSome && (m.coeffs (m.num 0x441001 c) (m.triple c)).1 != 0

/-- GROUP_DELAY of channel c in µs: (N - 1) / 2 input samples (R97; log entry 147). -/
def Mod.groupDelay (m : Mod) (c : Nat) : Nat :=
  let n := (m.coeffs (m.num 0x441001 c) (m.triple c)).1
  b32.ofRat ((n - 1 : Nat) * 1000000) (2 * (m.hz * (if m.triple c then 3 else 1)))

/-- The history samples in use: POOL_USED (R83). -/
def Mod.poolUsed (m : Mod) : Nat := (m.mapped.map (fun c => m.depthOf (m.num 0x441001 c) (m.triple c))).sum

/-! ## The chain's arithmetic (R71-R79) -/

/-- sat24 (R71). -/
def sat24 (x : Int) : Int := satInt 24 x

/-- The working sample of a received value and whether it was limited (R71). -/
def toWork (shift v : Nat) : Int × Bool :=
  let x := toInt 32 v
  let h : Int := if shift = 0 then 0 else 2 ^ (shift - 1)
  let y := (x + h) / 2 ^ shift
  (sat24 y, sat24 y != y)

/-- α in Q0.32 for a time constant in ms and an input rate in samples per second (R74). -/
def alphaOf (rate tauMs : Nat) : Nat :=
  let e := fxExp (-(2 ^ fxBits * 1000 / (rate * tauMs : Nat) : Int))
  (((2 ^ fxBits - e) * 2 ^ 32 + 2 ^ (fxBits - 1)) / 2 ^ fxBits).toNat

/-- One step of the DC-blocking stage: output, next estimate, whether anything saturated (R73, R75, R76). -/
def dcStep (enabled hold : Bool) (alpha : Nat) (w mEst : Int) : Int × Int × Bool :=
  if !enabled then (w, 0, false)
  else
    let y := w - (mEst + 2 ^ 23) / 2 ^ 24
    let d := sat24 y
    if hold then (d, mEst, d != y)
    else
      let n := mEst + ((alpha : Int) * d + 2 ^ 7) / 2 ^ 8
      let lim : Int := 2 ^ 47 - 1
      let n' := if lim < n then lim else if n < -lim then -lim else n
      (d, n', d != y || n' != n)

/-- The FIR sum over the stored half of the coefficients, history newest first (R77). -/
def firSum (n : Nat) (h : List Int) (d : Nat → Int) : Int :=
  (h.zipIdx.map (fun e => if 2 * e.2 + 1 = n then e.1 * d e.2 else e.1 * (d e.2 + d (n - 1 - e.2)))).sum

/-- The accumulator held within ±(2^47 - 1) (R77). -/
def satAcc (a : Int) : Int := let lim : Int := 2 ^ 47 - 1; if lim < a then lim else if a < -lim then -lim else a

/-- acc times 2^(SHIFT - 23) times the channel's unit, rounded once to binary32 (R79). -/
def toPhysical (kind shift scale : Nat) (acc : Int) : Nat :=
  match kind with
  | 0 => b32.ofRat (acc * 2 ^ shift) (2 ^ 23 * 1000)
  | 1 => b32.ofRat (acc * 2 ^ shift) (2 ^ 23 * 100)
  | _ => b32.ofScaled (acc * b32.int scale) (b32.expo scale + shift - 23)

/-! ## A channel in phase F -/

/-- The chain state of channel c. -/
def Mod.chan (m : Mod) (c : Nat) : ChanSt := Table.get m.filter.chans {} c
/-- The chain state of channel c replaced. -/
def Mod.setChan (m : Mod) (c : Nat) (x : ChanSt) : Mod :=
  { m with filter := { m.filter with chans := Table.set m.filter.chans {} c x } }

/-- Whether the DC-blocking stage of channel c is frozen at the start of phase F (R75). -/
def Mod.frozen (m : Mod) (c : Nat) : Bool := m.on 0x441006 c || m.srcBit (m.num 0x441005 c)

/-- One sub-sample through conversion and the blocker into the history (R71, R73). -/
def chainPush (shift alpha depth : Nat) (dcb frozen : Bool) (st : ChanSt) (e : Nat × Nat) : ChanSt :=
  let w := toWork shift e.1
  let r := dcStep dcb (frozen || flagBad e.2) alpha w.1 st.m
  { st with hist := ({ d := r.1, flags := e.2, sat := w.2 || r.2.2 } :: st.hist).take depth, count := st.count + 1, m := r.2.1 }

/-- The output record of a channel whose history is up to date: the four words of R84 and whether SAT is set. -/
def chainOutput (n : Nat) (h : List Int) (kind shift scale profile bank smpCnt kf : Nat) (st : ChanSt) : List Nat × Bool :=
  let win := st.hist.take n
  let sum := firSum n h (fun i => (st.hist.getD i {}).d)
  let acc := satAcc sum
  let sat := acc != sum || win.any (·.sat)
  let flags := win.foldl (fun f e => f ||| e.flags) 0
  let w3 := flags * 256 + 128 * b2n sat + 64 * b2n st.frozen + 32 * b2n (decide (st.count < n)) + 16 * bank
  ([toPhysical kind shift scale acc, smpCnt * 65536 + (n - 1) * 64 + profile, kf % 2 ^ 32, w3], sat)

/-- FILTER_CHAIN_UPDATE for one channel of stream s (R73, R77-R79, R84, R85). -/
def chainChannel (s c : Nat) (m : Mod) : Mod :=
  let p := m.num 0x441001 c
  let triple := m.on 0x401007 s
  let co := m.coeffs p triple
  if co.1 = 0 then m.setChan c { recs := (m.chan c).recs, latest := (m.chan c).latest }
  else
    let shift := m.num 0x441002 c
    let dcb := m.on 0x441003 c
    let frozen := m.frozen c
    let alpha := alphaOf (m.streamRate s) (m.num 0x441004 c)
    let depth := m.depthOf p triple
    let subs := (Table.get m.ingest.deliv { subs := List.replicate (m.subsOf s) (0, 0x40) } c).subs
    let st := subs.foldl (chainPush shift alpha depth dcb frozen) (m.chan c)
    let st := { st with frozen := frozen, produced := false }
    let mm := m.divisor p
    let qf := m.qf
    if qf % mm ≠ 0 then m.setChan c st
    else
      let bank := if p < 4 then 0 else m.num 0x442004 p
      let smp := if triple then 3 * qf + 2 else qf
      let o := chainOutput co.1 co.2 (m.num 0x402002 c) shift (m.num 0x402005 c) p bank smp m.kf st
      let w3 := o.1.getD 3 0
      let m := m.setChan c { st with
        recs := Table.put st.recs (qf / mm % 4) o.1, latest := o.1, produced := true, satSeen := st.satSeen || o.2 }
      let m := m.set 0x441008 (4 * b2n (bit w3 5) + 2 * b2n (bit w3 6) + b2n o.2) c
      let m := if o.2 then m.bump 0x441009 c else m
      if o.2 && !st.satSeen then m.raise 0x0723 [c, m.k] else m

/-- FILTER_CHAIN_UPDATE: every channel of every enabled stream, in order (R69). -/
def Mod.filterChain (m : Mod) : Mod :=
  m.each m.streamsOn (fun m s => m.each (m.chansOf s) (fun m c => chainChannel s c m))

/-! ## Clearing histories (R87) -/

/-- A cause of clearance counted for the tick's event 0x0724: its first channel is the first cleared, in the order in which the tick's
commits clear them (R87, R98; log entry 201). -/
def countCause (cause c : Nat) : List (Nat × Nat × Nat) → List (Nat × Nat × Nat)
  | [] => [(cause, c, 1)]
  | (a, f, n) :: t => if a = cause then (a, f, n + 1) :: t else (a, f, n) :: countCause cause c t

/-- A channel that no enabled stream maps holds no history: its chain state is gone but for its records (R69). -/
def Mod.dropChannel (m : Mod) (c : Nat) : Mod :=
  let ph := Table.get m.phasor.chans {} c
  let m := m.setChan c { recs := (m.chan c).recs, latest := (m.chan c).latest }
  { m with phasor := { m.phasor with chans := Table.set m.phasor.chans {} c { ph with hist := [], latest := { ph.latest with made := false } } } }

/-- HISTORY_CLEAR: the history of channel c, and its phasor history, cleared for a cause, with the DC estimate where `dc` (R87, R105); a channel
that no enabled stream maps has none to clear, and is not counted (R69). -/
def Mod.clearHistory (m : Mod) (c cause : Nat) (dc : Bool) : Mod :=
  let st := m.chan c
  if (m.streamOfChan c).isNone then m else
  let m := m.setChan c { st with hist := [], count := 0, satSeen := false, m := if dc then 0 else st.m }
  let ph := Table.get m.phasor.chans {} c
  { m with
    filter := { m.filter with cleared := countCause cause c m.filter.cleared }
    phasor := { m.phasor with chans := Table.set m.phasor.chans {} c { ph with hist := [], latest := { ph.latest with made := false } } } }

/-- A step of the time base clears every history, in the tick that the step lengthens (R87; log entry 27). -/
def Mod.clearForStep (m : Mod) : Mod := m.each m.mapped (fun m c => m.clearHistory c 5 true)

/-- Event 0x0724 once for each cause of clearance since the last report (R87). -/
def Mod.flushCleared (m : Mod) : Mod :=
  let l := m.filter.cleared
  let m := { m with filter := { m.filter with cleared := [] } }
  m.each l (fun m e => m.raise 0x0724 [Config.eventField 0x0724 e.1, e.2.1, e.2.2])

/-! ## Gain tables (R103) -/

/-- A(f) at 40 + t/4 Hz of a set of N taps at an input rate: binary64 from the stored words, rounded once to binary32 (log entry 11). -/
def gainValue (n : Nat) (h : List Int) (rate t : Nat) : Nat :=
  let term (i : Nat) : Nat :=
    let w := h.getD (if i < (n + 1) / 2 then i else n - 1 - i) 0
    let c := b64.ofScaled (cosTurn ((160 + t : Int) * (2 * (i : Int) - n + 1)) (8 * rate)) (-(fxBits : Int))
    b64.mul (b64.ofScaled w (-23)) c
  b64.conv b32 ((List.range n).foldl (fun s i => if i = 0 then term 0 else b64.add s (term i)) 0)

/-- The gain table of a set: 121 values at 40.00 to 70.00 Hz. -/
def gainTable (n : Nat) (h : List Int) (rate : Nat) : List Nat := (List.range 121).map (gainValue n h rate)

/-- Entry t of the gain table of profile p's active set at a rate. -/
def Mod.gainEntry (m : Mod) (p : Nat) (triple : Bool) (t : Nat) : Nat :=
  if p < 4 then
    let co := m.coeffs p triple
    gainValue co.1 co.2 (m.hz * (if triple then 3 else 1)) t
  else (m.activeBank p).gain.getD t 0

/-! ## The bank check (R88, R89) -/

/-- The CRC of a bank: over N as a U16, then the coefficient octets (R88); 0 when the bank is empty (R97). -/
def bankCrc (b : Bank) : Nat := if b.taps = 0 ∧ b.words.isEmpty then 0 else crc32 (toLE 2 b.taps ++ b.words)

/-- The whole 32-bit words of octets written, as integers. -/
def wholeWords (l : List Byte) : List Int := (List.range (l.length / 4)).map (fun i => toInt 32 (field l (4 * i) 4))

/-- The sum over all N taps of a function of the stored words. -/
def sumTaps (b : Bank) (f : Int → Int) : Int :=
  ((bankWords b).zipIdx.map (fun e => if 2 * e.2 + 1 = b.taps then f e.1 else 2 * f e.1)).sum

/-- Bits 4:0 of the bank check (R89). RANGE is judged over every whole word written, whatever N is (log entry 202). -/
def bankCheck (b : Bank) (tapsMax : Nat) : Nat :=
  let sumAbs := sumTaps b (fun x => x.natAbs)
  let dev := (sumTaps b id - 8388608).natAbs
  b2n (decide (b.taps = 0 ∨ tapsMax < b.taps)) +
  2 * b2n (b.words.length != 4 * ((b.taps + 1) / 2)) +
  4 * b2n ((wholeWords b.words).any (fun x => decide (x < -8388608 ∨ 8388607 < x))) +
  8 * b2n (decide (16777216 < sumAbs)) +
  16 * b2n (decide (2048 < dev))

/-- A bank with its gain table for a profile's RATE (R103): made at each bank check, and where a bank is loaded at reset or its profile takes
another RATE without one (log entry 200). -/
def Mod.withGain (m : Mod) (p : Nat) (b : Bank) : Bank :=
  { b with gain := gainTable b.taps (bankWords b) (m.hz * (if m.on 0x442001 p then 3 else 1)) }

/-! ## Banks exchanged (R90, R92) -/

/-- Whether a swap of profile p is pending. -/
def Mod.profileSwapPending (m : Mod) (p : Nat) : Bool := m.num 0x44200D p == 1

/-- The CRCs and tap count that profile p's objects report of its banks. -/
def Mod.profileCrcs (m : Mod) (p : Nat) : Mod :=
  let m := (m.set 0x442006 (bankCrc (m.activeBank p)) p).set 0x442009 (bankCrc (m.inactiveBank p)) p
  let m := (m.set 0x442005 (m.activeBank p).taps p).set 0x442007 (m.inactiveBank p).taps p
  m.setOct 0x442008 (m.inactiveBank p).words p

/-- The banks of profile p exchange roles: CHECK_RESULT cleared, SWAP_STATE done, event 0x0720 (R90). -/
def Mod.swapProfile (m : Mod) (p kS : Nat) : Mod :=
  let m := (m.set 0x442004 (1 - m.num 0x442004 p) p).set 0x44200B 0 p
  let m := (m.set 0x44200D 2 p).profileCrcs p
  let m := m.setProfile p { m.profile p with swapTick := 0, swapCommit := 0, checkPending := false }
  m.raise 0x0720 [p, kS, bankCrc (m.activeBank p)]

/-- A pending swap of profile p ends without one: state 3 with event 0x0721 after a refusal, otherwise 4 with event 0x0722 (R90). -/
def Mod.endProfileSwap (m : Mod) (p : Nat) (refused : Bool) : Mod :=
  if !m.profileSwapPending p then m
  else
    let kS := (m.profile p).swapTick
    let m := m.setProfile p { m.profile p with swapTick := 0, swapCommit := 0 }
    if refused then (m.set 0x44200D 3 p).raise 0x0721 [p, Config.eventField 0x0721 abCheck] else (m.set 0x44200D 4 p).raise 0x0722 [p, kS]

/-- After reset both banks of a user profile come from its stored image in configuration MRAM if its CRC is valid, and are otherwise empty (R88). -/
def Mod.loadProfile (m : Mod) (p : Nat) : Mod :=
  let x := Table.get m.nv.profiles {} p
  let b := m.withGain p { taps := x.taps, words := x.words }
  if b.taps = 0 ∨ x.crc ≠ bankCrc b then m else (m.setProfile p { a := b, b := b }).profileCrcs p

/-! ## Commands of the profiles -/

/-- Whether a profile's objects may be written at all: profiles 0 to 3 are read-only, and there are 64 (R80, R97). -/
def profileGuard (p : Nat) : Nat := if p < 4 then abReadOnly else if p < 64 then 0 else abSelector

/-- A write into the inactive bank of profile p: its CRC computed, its check invalidated (R88); a check under way is dropped and reports nothing
(log entry 203). -/
def Mod.writeBank (m : Mod) (p : Nat) (b : Bank) : Mod :=
  let m := m.setInactiveBank p b
  let m := m.setProfile p { m.profile p with checkPending := false }
  (m.profileCrcs p).set 0x44200B 0 p

/-- PROFILE_TAPS_WRITE (R88): refused while a swap is pending. -/
def profileTapsWrite (path : Path) (p n : Nat) (m : Mod) : Mod :=
  if profileGuard p ≠ 0 then m.report path (profileGuard p)
  else if m.profileSwapPending p then m.report path abState
  else (m.writeBank p { m.inactiveBank p with taps := n, gain := [] }).report path 0

/-- PROFILE_TAPS_WRITE. -/
def execProfileTapsWrite (path : Path) (p n : Nat) (s : State) : Host.Outcome State Fault Refusal :=
  .next { s with mod := s.mod.gate path (fun (m : Mod) => profileTapsWrite path p n m) }

/-- PROFILE_COEFFS_WRITE (R88): up to 576 octets. -/
def profileCoeffsWrite (path : Path) (p : Nat) (words : List Byte) (m : Mod) : Mod :=
  if profileGuard p ≠ 0 then m.report path (profileGuard p)
  else if 576 < words.length then m.report path abTooLong
  else if m.profileSwapPending p then m.report path abState
  else (m.writeBank p { m.inactiveBank p with words := words, gain := [] }).report path 0

/-- PROFILE_COEFFS_WRITE. -/
def execProfileCoeffsWrite (path : Path) (p : Nat) (words : List Byte) (s : State) : Host.Outcome State Fault Refusal :=
  .next { s with mod := s.mod.gate path (fun (m : Mod) => profileCoeffsWrite path p words m) }

/-- PROFILE_CHECK (R89): writing 1 starts the check of the inactive bank. -/
def profileCheckWrite (path : Path) (p v : Nat) (m : Mod) : Mod :=
  if profileGuard p ≠ 0 then m.report path (profileGuard p)
  else if v ≠ 1 then m.report path abValue
  else (m.setProfile p { m.profile p with checkPending := true }).report path 0

/-- PROFILE_CHECK. -/
def execProfileCheck (path : Path) (p v : Nat) (s : State) : Host.Outcome State Fault Refusal :=
  .next { s with mod := s.mod.gate path (fun (m : Mod) => profileCheckWrite path p v m) }

/-- PROFILE_CHECK_DONE (R89, R103): a check under way reports its result and computes the bank's gain table. -/
def profileCheckDone (p : Nat) (m : Mod) : Mod :=
  if !(m.profile p).checkPending then m
  else
    let b := m.inactiveBank p
    let r := bankCheck b (m.num 0x442003 p)
    let m := m.setProfile p { m.profile p with checkPending := false }
    let m := m.setInactiveBank p (m.withGain p b)
    m.set 0x44200B (r + (if r % 16 = 0 then 2 ^ 31 else 0)) p

/-- PROFILE_CHECK_DONE. -/
def execProfileCheckDone (p : Nat) (s : State) : Host.Outcome State Fault Refusal := .next { s with mod := s.mod.awake (profileCheckDone p) }

/-- PROFILE_SWAP_NOW (R92): while the tick is stopped and the check has passed, the banks are exchanged at once on this module.
Refused with 0x0800_0022 while the tick runs and 0x0880_000C without a passed check (log entry 25). -/
def profileSwapNow (path : Path) (p v : Nat) (m : Mod) : Mod :=
  if profileGuard p ≠ 0 then m.report path (profileGuard p)
  else if v ≠ 1 then m.report path abValue
  else if !m.stopped then m.report path abState
  else if !bit (m.num 0x44200B p) 31 then m.report path abCheck
  else (m.swapProfile p m.k).report path 0

/-- PROFILE_SWAP_NOW. -/
def execProfileSwapNow (path : Path) (p v : Nat) (s : State) : Host.Outcome State Fault Refusal :=
  .next { s with mod := s.mod.gate path (fun (m : Mod) => profileSwapNow path p v m) }

/-- The image of a bank that configuration MRAM keeps (R88, R97). -/
def storedBank (b : Bank) : StoredBank := { taps := b.taps, words := b.words, crc := bankCrc b }

/-- PROFILE_STORE (R97): writing 1 stores the active bank in configuration MRAM. -/
def profileStore (path : Path) (p v : Nat) (m : Mod) : Mod :=
  if profileGuard p ≠ 0 then m.report path (profileGuard p)
  else if v ≠ 1 then m.report path abValue
  else { m with nv := { m.nv with profiles := Table.set m.nv.profiles {} p (storedBank (m.activeBank p)) } }.report path 0

/-- PROFILE_STORE. -/
def execProfileStore (path : Path) (p v : Nat) (s : State) : Host.Outcome State Fault Refusal :=
  .next { s with mod := s.mod.gate path (fun (m : Mod) => profileStore path p v m) }

end Sys2Proof.Machine
end

