-- ==== Sys2Proof/Machine/Phasor.lean ====
section
/-!
DEFINITION. The phasor engine: frequency-tracked phasors, the tracking loops, sequence components, and phase F as a whole (R99-R122).
-/
namespace Sys2Proof.Machine

/-! ## Constants -/

/-- binary32 roundings of cos(2 pi i / 32) (R104). -/
def twCos : List Nat :=
  [0x3f800000, 0x3f7b14be, 0x3f6c835e, 0x3f54db31, 0x3f3504f3, 0x3f0e39da, 0x3ec3ef15, 0x3e47c5c2,
   0x0, 0xbe47c5c2, 0xbec3ef15, 0xbf0e39da, 0xbf3504f3, 0xbf54db31, 0xbf6c835e, 0xbf7b14be,
   0xbf800000, 0xbf7b14be, 0xbf6c835e, 0xbf54db31, 0xbf3504f3, 0xbf0e39da, 0xbec3ef15, 0xbe47c5c2,
   0x0, 0x3e47c5c2, 0x3ec3ef15, 0x3f0e39da, 0x3f3504f3, 0x3f54db31, 0x3f6c835e, 0x3f7b14be]

/-- binary32 roundings of sin(2 pi i / 32) (R104). -/
def twSin : List Nat :=
  [0x0, 0x3e47c5c2, 0x3ec3ef15, 0x3f0e39da, 0x3f3504f3, 0x3f54db31, 0x3f6c835e, 0x3f7b14be,
   0x3f800000, 0x3f7b14be, 0x3f6c835e, 0x3f54db31, 0x3f3504f3, 0x3f0e39da, 0x3ec3ef15, 0x3e47c5c2,
   0x0, 0xbe47c5c2, 0xbec3ef15, 0xbf0e39da, 0xbf3504f3, 0xbf54db31, 0xbf6c835e, 0xbf7b14be,
   0xbf800000, 0xbf7b14be, 0xbf6c835e, 0xbf54db31, 0xbf3504f3, 0xbf0e39da, 0xbec3ef15, 0xbe47c5c2]

/-- sqrt(2)/N rounded once, for the window settings 0, 1 and 2 (R102, R104). -/
def sqrt2OverN (window : Nat) : Nat := [0x3DB504F3, 0x3D3504F3, 0x3CB504F3].getD window 0

/-- Points of a window setting (R99). -/
def windowPoints (window : Nat) : Nat := [16, 32, 64].getD window 32

/-- binary32 0.5, 1, 2, 4, 6, 32 and 40. -/
def fHalf : Nat := 0x3F000000
/-- binary32 1.0. -/
def fOne : Nat := 0x3F800000
/-- binary32 2.0. -/
def fTwo : Nat := 0x40000000

/-! ## Channels with a phasor (R99, R100) -/

/-- The phasor state of channel c. -/
def Mod.phChan (m : Mod) (c : Nat) : PhChan := Table.get m.phasor.chans {} c
/-- The phasor state of channel c replaced. -/
def Mod.setPhChan (m : Mod) (c : Nat) (x : PhChan) : Mod :=
  { m with phasor := { m.phasor with chans := Table.set m.phasor.chans {} c x } }
/-- The loop of reference group v. -/
def Mod.group (m : Mod) (v : Nat) : RefGroup := Table.get m.phasor.groups {} v
/-- The loop of reference group v replaced. -/
def Mod.setGroup (m : Mod) (v : Nat) (x : RefGroup) : Mod :=
  { m with phasor := { m.phasor with groups := Table.set m.phasor.groups {} v x } }
/-- The sequence record of three-phase group g. -/
def Mod.seqRec (m : Mod) (g : Nat) : SeqRec := Table.get m.phasor.seqs {} g

/-- Channels whose PH_ENABLE is 1. -/
def Mod.phasorEnabled (m : Mod) (c : Nat) : Bool := decide (c < 16384) && m.on 0x451001 c

/-- The history depth H of a phasor channel (R100). -/
def phDepth (window rOut : Nat) : Nat := (2 ^ window * rOut + 79) / 80 + 4

/-- The output rate of channel c (R78). -/
def Mod.outRate (m : Mod) (c : Nat) : Nat := m.hz / m.divisor (m.num 0x441001 c)

/-- The phasor history entries in use: PH_POOL_USED (R100). -/
def Mod.phPoolUsed (m : Mod) : Nat :=
  ((m.mapped.filter m.phasorEnabled).map (fun c => phDepth (m.num 0x451002 c) (m.outRate c))).sum

/-! ## Frequencies -/

/-- F_nom in Hz (R109). -/
def Mod.fNom (m : Mod) : Nat := if m.num 0x450003 = 0 then 50 else 60

/-- round(a / b) of naturals, ties upward. -/
def roundDiv (a b : Nat) : Nat := (2 * a + b) / (2 * b)

/-- D_nom = round(2^48 F_nom / R). -/
def Mod.dNom (m : Mod) : Int := roundDiv (2 ^ 48 * m.fNom) m.hz

/-- The frequency that Delta stands for, rounded once (R109). -/
def freqOf (hz : Nat) (delta : Int) : Nat := b32.ofScaled (hz * delta) (-48)

/-- The state of group v and its Delta as they stand: OFF at F_nom for a group that is not enabled (R99, R111). -/
def Mod.groupNow (m : Mod) (v : Nat) : Nat × Int :=
  if 255 < v ∨ m.num 0x45200A v = 0 then (0, m.dNom) else (m.num 0x45200A v, (m.group v).delta)

/-- The state and the Delta that group v had in the previous tick, which a commit of this tick does not change (R101, R112, R114). -/
def Mod.groupWas (m : Mod) (v : Nat) : Nat × Int := (m.phasor.before.lookup v).getD (m.groupNow v)

/-- The frequency of a group with a state and a Delta: F_nom when OFF (R111). -/
def Mod.freqAt (m : Mod) (x : Nat × Int) : Nat := if x.1 = 0 then fofInt m.fNom else freqOf m.hz x.2

/-- The frequency of group v as it stands (R109, R111). -/
def Mod.groupFreq (m : Mod) (v : Nat) : Nat := m.freqAt (m.groupNow v)

/-! ## One phasor (R101-R105) -/

/-- The interpolated point at position p (R101). -/
def lagrange (u : Nat → Nat) (p : Nat) : Nat :=
  let b := max (b32.floor p) 1
  let mu := fsub p (fofInt b)
  let i := b.toNat
  let m1 := fsub mu fOne
  let m2 := fsub mu fTwo
  let p1 := fadd mu fOne
  let lm := fdiv (fmul (fmul (b32.negate mu) m1) m2) 0x40C00000
  let l0 := fdiv (fmul (fmul p1 m1) m2) fTwo
  let l1 := fdiv (fmul (fmul (b32.negate p1) mu) m2) fTwo
  let l2 := fdiv (fmul (fmul p1 mu) m1) 0x40C00000
  fadd (fadd (fadd (fmul lm (u (i - 1))) (fmul l0 (u i))) (fmul l1 (u (i + 1)))) (fmul l2 (u (i + 2)))

/-- b of the oldest point (R105). -/
def oldestB (n sigma : Nat) : Nat := (max (b32.floor (fmul (fofInt (n - 1)) sigma)) 1).toNat

/-- The uncorrected phasor X' (R102), sums in ascending j. -/
def dftPhasor (window sigma : Nat) (u : Nat → Nat) : Cx :=
  let n := windowPoints window
  let terms := (List.range n).map (fun j =>
    let i := n - 1 - j
    let y := lagrange u (fmul (fofInt i) sigma)
    ({ re := fmul y (twCos.getD (i % 32) 0), im := fmul y (twSin.getD (i % 32) 0) } : Cx))
  let sum := match terms with
    | [] => ({ re := 0, im := 0 } : Cx)
    | t :: ts => ts.foldl Cx.add t
  sum.scale (sqrt2OverN window)

/-- G at frequency f from a gain table (R103). -/
def gainAt (entry : Nat → Nat) (f : Nat) : Nat :=
  let f40 := 0x42200000
  let f70 := 0x428C0000
  let fl := if flt f f40 then f40 else if flt f70 f then f70 else f
  let pos := fmul (fsub fl f40) 0x40800000
  let i := min (b32.floor pos) 119
  let t0 := entry i.toNat
  fadd t0 (fmul (fsub (entry (i.toNat + 1)) t0) (fsub pos (fofInt i)))

/-- The STATUS word of a phasor record (R114). -/
def phStatus (flags : Nat) (sat frozen warm : Bool) (window ref : Nat) : Nat :=
  flags * 256 + 128 * b2n sat + 64 * b2n frozen + 32 * b2n warm + 8 * window + ref

/-- PHASOR_COMPUTE for a channel that produced an output this tick (R101-R105, R114). -/
def phasorOf (m : Mod) (c : Nat) : Phasor × List PhHist :=
  let ch := m.chan c
  let w := ch.latest
  let w3 := w.getD 3 0
  let window := m.num 0x451002 c
  let rOut := m.outRate c
  let new : PhHist := { value := w.getD 0 0, flags := bitsOf w3 15 8, sat := bit w3 7, frozen := bit w3 6, warm := bit w3 5 }
  let old := m.phChan c
  let h := (new :: old.hist).take (phDepth window rOut)
  let v := m.num 0x451003 c
  let f := m.freqAt (m.groupWas v)
  let sigma := fdiv (fofInt rOut) (fmul 0x42000000 f)
  let u (i : Nat) : Nat := (h.getD i {}).value
  let x' := dftPhasor window sigma u
  let p := m.num 0x441001 c
  let g := if m.on 0x451004 c then gainAt (m.gainEntry p (m.triple c)) f else fOne
  let x : Cx := if b32.isZero g then x' else { re := fdiv x'.re g, im := fdiv x'.im g }
  let need := oldestB (windowPoints window) sigma + 3
  let win := h.take need
  let flags := win.foldl (fun a e => a ||| e.flags) 0
  let warm := win.any (·.warm) || decide (h.length < need)
  let st := phStatus flags (win.any (·.sat)) (win.any (·.frozen)) warm window (m.groupWas v).1
  ({ x := x, mag := x.mag, freq := f, tick := w.getD 2 0, status := st, origin := w.getD 1 0, made := true }, h)

/-- The record of a phasor-enabled channel that no enabled stream maps (R99); its SAMPLE_TICK is that of the tick and its ORIGIN 0 (log entry 206). -/
def phasorUnmapped (m : Mod) (c : Nat) : Phasor :=
  let v := m.num 0x451003 c
  { freq := m.freqAt (m.groupWas v), tick := m.kf % 2 ^ 32,
    status := phStatus 0x40 false false false (m.num 0x451002 c) (m.groupWas v).1, made := true }

/-- Degrees of an angle in units of 2^-32 turn, rounded once (R113, R121). -/
def degrees (a : Int) : Nat := b32.ofScaled (a * 360) (-32)

/-- A channel's phasor record written, with its objects of 0x4510 (R114, R121). -/
def Mod.writePhasor (m : Mod) (c r : Nat) (ph : Phasor) (h : List PhHist) (fresh : Bool) : Mod :=
  let old := m.phChan c
  let m := m.setPhChan c { old with hist := h, recs := Table.put old.recs r ph, latest := ph, fresh := fresh }
  let m := (m.set 0x451005 ph.mag c).set 0x451006 (degrees (arctan ph.x.re ph.x.im)) c
  m.set 0x451007 ph.status c

/-- PHASOR_COMPUTE for one phasor-enabled channel (R99, R101). -/
def phasorChannel (c : Nat) (m : Mod) : Mod :=
  if (m.streamOfChan c).isNone then m.writePhasor c (m.tick.q % 2) (phasorUnmapped m c) [] true
  else if (m.chan c).produced then
    let r := phasorOf m c
    m.writePhasor c (m.qf / m.divisor (m.num 0x441001 c) % 2) r.1 r.2 true
  else m.setPhChan c { m.phChan c with fresh := false }

/-- All phasors of the tick, each at its group's frequency of the previous tick (R120 step 2). -/
def Mod.phasors (m : Mod) : Mod := m.each (m.instancesOn 0x451001) (fun m c => phasorChannel c m)

/-! ## Sequence components (R117-R119) -/

/-- a and a squared of R118. -/
def seqA : Cx := { re := 0xBF000000, im := 0x3F5DB3D7 }
/-- a squared. -/
def seqA2 : Cx := { re := 0xBF000000, im := 0xBF5DB3D7 }
/-- binary32(1/3). -/
def fThird : Nat := 0x3EAAAAAB

/-- The three phase channels of three-phase group g. -/
def Mod.phases (m : Mod) (g : Nat) : List Nat := [m.num 0x453001 g, m.num 0x453002 g, m.num 0x453003 g]

/-- Whether group g is enabled; an index above 4,095 names none (R99, R117). -/
def Mod.threeOn (m : Mod) (g : Nat) : Bool := decide (g < 4096) && m.on 0x453005 g

/-- The divisor that a phase channel's phasors come at; a channel no stream maps counts as producing in every tick (R117). -/
def Mod.phaseDivisor (m : Mod) (c : Nat) : Nat :=
  if (m.streamOfChan c).isNone then 1 else m.divisor (m.num 0x441001 c)

/-- Whether group g is computed this tick: its slowest-rate channel produced a phasor (R117). -/
def Mod.seqDue (m : Mod) (g : Nat) : Bool :=
  let cs := m.phases g
  let slow := cs.foldl (fun a c => max a (m.phaseDivisor c)) 1
  cs.any (fun c => m.phaseDivisor c == slow && (m.phChan c).fresh)

/-- The record of three-phase group g from the latest phasors of its channels (R118, R119). A phasor cleared and not yet produced enters as 0 + i0
and sets WARMUP (R117); FREQ, SAMPLE_TICK, ORIGIN and the other STATUS fields are those of its last record (log entry 205). -/
def seqCompute (m : Mod) (g : Nat) : SeqRec :=
  let ph := (m.phases g).map (fun c => (m.phChan c).latest)
  let x (i : Nat) : Cx := let p : Phasor := ph.getD i {}; if p.made then p.x else {}
  let a := x 0
  let b := x 1
  let c := x 2
  let x0 := ((a.add b).add c).scale fThird
  let p1 := ((a.add (seqA.mul b)).add (seqA2.mul c)).scale fThird
  let p2 := ((a.add (seqA2.mul b)).add (seqA.mul c)).scale fThird
  let acb := m.on 0x453004 g
  let x1 := if acb then p2 else p1
  let x2 := if acb then p1 else p2
  let pa : Phasor := ph.getD 0 {}
  let st := ph.map (·.status)
  let warm := ph.any (fun p => bit p.status 5 || !p.made)
  let status := phStatus (st.foldl (fun f s => f ||| bitsOf s 15 8) 0) (st.any (fun s => bit s 7)) (st.any (fun s => bit s 6)) warm
    (bitsOf pa.status 4 3) (bitsOf pa.status 2 0)
  { x0 := x0, x1 := x1, x2 := x2, m0 := x0.mag, m1 := x1.mag, m2 := x2.mag, freq := pa.freq, tick := pa.tick,
    status := status, origin := pa.origin, made := true }

/-- SEQUENCE_COMPONENTS: every enabled three-phase group whose slowest channel produced a phasor (R117). -/
def Mod.sequences (m : Mod) : Mod :=
  m.each (m.instancesOn 0x453005) (fun m g =>
    if m.seqDue g then { m with phasor := { m.phasor with seqs := Table.set m.phasor.seqs {} g (seqCompute m g) } } else m)

/-! ## The loops (R107-R113) -/

/-- K_p for a bandwidth in Hz at a tick rate: round(2^32 sqrt(2) 2 pi B / R). -/
def kpOf (hz b : Nat) : Nat :=
  let root2 := isqrt (2 * 2 ^ (2 * fxBits))
  roundDiv (fxTwoPi.toNat * root2 / 2 ^ fxBits * b * 2 ^ 32) (hz * 2 ^ fxBits)

/-- K_i for a bandwidth: round(2^32 (2 pi B / R)^2). -/
def kiOf (hz b : Nat) : Nat :=
  roundDiv (fxTwoPi.toNat * fxTwoPi.toNat / 2 ^ fxBits * (b * b) * 2 ^ 32) (hz * hz * 2 ^ fxBits)

/-- The least and greatest Delta within 40 to 70 Hz (R110; log entry 30). -/
def deltaMin (hz : Nat) : Int := ((40 * 2 ^ 48 + hz - 1) / hz : Nat)
/-- The greatest Delta. -/
def deltaMax (hz : Nat) : Int := (70 * 2 ^ 48 / hz : Nat)
/-- 25 Hz/s as a change of Delta per tick (R110). -/
def deltaSlew (hz : Nat) : Int := roundDiv (2 ^ 48 * 25) (hz * hz)

/-- The source of a group's loop in this tick: its phasor, magnitude, tick and STATUS, and whether it was computed (R107). -/
def Mod.loopSource (m : Mod) (v : Nat) : Cx × Nat × Nat × Nat × Bool :=
  let src := m.num 0x452003 v
  if m.num 0x452002 v = 0 then
    let p := (m.phChan src).latest
    (p.x, p.mag, p.tick, p.status, p.made && (m.phChan src).fresh && m.phasorEnabled src)
  else
    let r := m.seqRec src
    (r.x1, r.m1, r.tick, r.status, r.made && m.threeOn src)

/-- Signal present (R108). -/
def signalPresent (mag status sigMin : Nat) (computed : Bool) : Bool :=
  computed && !flagBad (bitsOf status 15 8) && !bit status 5 && fle sigMin mag

/-- One loop update in ACQUIRE or LOCKED with the signal present (R109, R110). -/
def loopUpdate (hz kp ki : Nat) (dNom theta : Int) (locked : Bool) (g : RefGroup) : RefGroup :=
  let psi := if g.seedPsi then ofInt 48 (theta * 2 ^ 16) else g.psi
  let eps := toInt 32 (ofInt 32 (theta - (psi / 2 ^ 16 : Nat)))
  let prop := ((kp : Int) * eps + 2 ^ 15) / 2 ^ 16
  let i := g.integ + ((ki : Int) * eps + 2 ^ 15) / 2 ^ 16
  let raw := dNom + i + prop
  let ranged := if raw < deltaMin hz then deltaMin hz else if deltaMax hz < raw then deltaMax hz else raw
  let lo := g.delta - deltaSlew hz
  let hi := g.delta + deltaSlew hz
  let slewed := if locked then (if ranged < lo then lo else if hi < ranged then hi else ranged) else ranged
  { g with
    psi := ofInt 48 (psi + slewed)
    integ := if slewed = raw then i else slewed - dNom - prop
    delta := slewed
    eps := eps
    seedPsi := false
    freqLimit := ranged != raw
    limitLow := if ranged = raw then g.limitLow else decide (raw < ranged)
    slewLimit := slewed != ranged }

/-- Delta moved towards a target by at most 25 Hz/s, and whether that limit acts (R112). -/
def towards (hz : Nat) (target delta : Int) : Int × Bool :=
  let s := deltaSlew hz
  if delta + s < target then (delta + s, true) else if target < delta - s then (delta - s, true) else (target, false)

/-- ROCOF from Delta now and W ticks ago, rounded once (R113). -/
def rocofOf (hz w : Nat) (now before : Int) : Nat := b32.ofRat ((now - before) * hz * hz) (2 ^ 48 * w)

/-- Delta of `w` ticks before: past values are kept for the longest ROCOF_WINDOW, 4,800 ticks. -/
def deltaAgo (g : RefGroup) (w : Nat) : Int := g.deltas.getD w g.delta

/-- LOOP_UPDATE for one enabled group: `old` holds the other groups as the previous tick left them (R109-R113). -/
def loopGroup (old : Mod) (v : Nat) (m : Mod) : Mod :=
  let hz := m.hz
  let state := m.num 0x45200A v
  let src := m.loopSource v
  let present := signalPresent src.2.1 src.2.2.2.1 (m.num 0x452004 v) src.2.2.2.2
  let theta := arctan src.1.re src.1.im
  let g := { m.group v with
    signal := present
    theta := theta
    srcMag := src.2.1
    srcTick := src.2.2.1
    srcFlags := bitsOf src.2.2.2.1 15 8
    freqLimit := false
    slewLimit := false }
  let updates := present && (state == 1 || state == 2)
  let b := m.num 0x452005 v
  let bb := if state = 2 then b else min (4 * b) 20
  let g := if updates then loopUpdate hz (kpOf hz bb) (kiOf hz bb) m.dNom theta (state == 2) g
    else if state = 4 then
      let fb := m.num 0x452008 v
      let was := old.groupWas fb
      let target := if fb < 256 ∧ was.1 = 2 then was.2 else m.dNom
      let t := towards hz target g.delta
      { g with psi := ofInt 48 ((g.psi : Int) + t.1), delta := t.1, slewLimit := t.2, eps := 0 }
    else { g with psi := ofInt 48 ((g.psi : Int) + g.delta), eps := 0 }
  let smallE := decide (g.eps.natAbs < 2 ^ 24)
  let bigE := decide (2 ^ 29 < g.eps.natAbs)
  let wr := m.num 0x452009 v
  let lockedTicks := if state = 2 then g.lockedTicks + 1 else 0
  let deltas := (g.delta :: g.deltas).take 4802
  let valid := g.rocofValid && decide (wr + 1 ≤ lockedTicks)
  let g := { g with
    lockRun := if state = 1 ∧ present ∧ smallE then g.lockRun + 1 else 0
    errRun := if state = 2 then (if present then (if bigE then g.errRun + 1 else 0) else g.errRun) else 0
    absentRun := if present then 0 else g.absentRun + 1
    presentRun := if present then g.presentRun + 1 else 0
    holdTicks := if state = 3 then g.holdTicks + 1 else 0
    lockedTicks := lockedTicks
    limitRun := if updates ∧ g.freqLimit then g.limitRun + 1 else 0
    deltas := deltas
    rocofValid := valid
    resid := if updates then degrees g.eps else 0 }
  let g := { g with rocof := if valid then rocofOf hz wr g.delta (deltaAgo g wr) else 0 }
  let m := m.setGroup v g
  let m := if valid then m else m.setBitAt (0x82100 + v) false
  (m.set 0x45200B (freqOf hz g.delta) v).set 0x45200C g.rocof v

/-- LOOP_UPDATE: every enabled reference group (R120 step 4). -/
def Mod.loops (m : Mod) : Mod := m.each (m.instancesOn 0x452001) (fun s v => loopGroup m v s)

/-! ## Frequency records (R115, R116) -/

/-- STATUS of a frequency record (R115). -/
def freqStatus (g : RefGroup) (state : Nat) : Nat :=
  g.srcFlags % 256 * 256 + 128 * b2n g.signal + 64 * b2n g.rocofValid + 32 * b2n g.freqLimit + 16 * b2n g.slewLimit + state % 8

/-- The frequency record of an enabled group as its loop stands (R115). -/
def Mod.freqRecOf (m : Mod) (v : Nat) : FreqRec :=
  let g := m.group v
  { freq := freqOf m.hz g.delta, rocof := g.rocof, resid := g.resid, srcMag := g.srcMag, tick := g.srcTick, status := freqStatus g (m.num 0x45200A v) }

/-- Group v's frequency record written (R116). -/
def Mod.writeFreq (m : Mod) (v : Nat) : Mod :=
  { m with phasor := { m.phasor with freqs := Table.put m.phasor.freqs v (m.freqRecOf v) } }

/-- The frequency records of the tick: those of the enabled groups from their loops, every other one F_nom and zeros (R111; log entry 207). -/
def Mod.writeFreqs (m : Mod) : Mod :=
  let m : Mod := { m with phasor := { m.phasor with before := [], freqs := [], offFreq := fofInt m.fNom } }
  m.each (m.instancesOn 0x452001) (fun m v => m.writeFreq v)

/-! ## Phase F -/

/-- FILTER_PHASE (R19, R69, R120): phase F begins where phase I is over, its fetch deadline past: the filter outputs, the phasors, the sequence components and the loops, in that order. -/
def filterPhase (m : Mod) : Mod :=
  if !m.inPhase .I ∨ m.triad.stage ≠ 2 then m
  else
    let m := { m with tick := { m.tick with phase := .F } }
    m.flushCleared.filterChain.phasors.sequences.loops.writeFreqs

/-- FILTER_PHASE. -/
def execFilterPhase (s : State) : Host.Outcome State Fault Refusal := .next { s with mod := s.mod.awake filterPhase }

/-! ## The group states (R110, R111, R113): transitions belong to phase F, with the records (R116) -/

/-- GROUP_LOCKED: 48 consecutive present ticks with |ε| below 1/256 turn take ACQUIRE to LOCKED (R111). -/
def groupLocked (v : Nat) (m : Mod) : Mod :=
  let g := m.group v
  if m.inPhase .F ∧ m.num 0x45200A v = 1 ∧ 48 ≤ g.lockRun then
    let m := ((m.set 0x45200A 2 v).setGroup v { g with lockRun := 0, errRun := 0, lockedTicks := 0 }).setBitAt (0x82000 + v) true
    (m.writeFreq v).raise 0x0730 [v, freqOf m.hz g.delta, m.k]
  else m

/-- GROUP_LOCKED. -/
def execGroupLocked (v : Nat) (s : State) : Host.Outcome State Fault Refusal := .next { s with mod := s.mod.awake (groupLocked v) }

/-- The status bits of a group that leaves LOCKED (R111). -/
def Mod.unlockBits (m : Mod) (v : Nat) : Mod := (m.setBitAt (0x82000 + v) false).setBitAt (0x82100 + v) false

/-- LOCK_LOST: 8 present ticks with |ε| above 1/8 turn take LOCKED to ACQUIRE (R111). -/
def lockLost (v : Nat) (m : Mod) : Mod :=
  let g := m.group v
  if m.inPhase .F ∧ m.num 0x45200A v = 2 ∧ 8 ≤ g.errRun then
    let m := (m.set 0x45200A 1 v).setGroup v { g with errRun := 0, lockRun := 0, lockedTicks := 0, rocofValid := false, rocof := 0 }
    ((((m.unlockBits v).set 0x45200C 0 v).writeFreq v).bump 0x45200F v).raise 0x0731 [v, ofInt 32 g.eps, m.k]
  else m

/-- LOCK_LOST. -/
def execLockLost (v : Nat) (s : State) : Host.Outcome State Fault Refusal := .next { s with mod := s.mod.awake (lockLost v) }

/-- SIGNAL_LOST_HOLD: LOS_TICKS consecutive absent ticks take ACQUIRE or LOCKED to HOLD, the frequency held (R111). -/
def signalLostHold (v : Nat) (m : Mod) : Mod :=
  let g := m.group v
  if m.inPhase .F ∧ (m.num 0x45200A v = 1 ∨ m.num 0x45200A v = 2) ∧ m.num 0x452006 v ≤ g.absentRun then
    let m := (m.set 0x45200A 3 v).setGroup v { g with errRun := 0, lockRun := 0, holdTicks := 0, lockedTicks := 0, rocofValid := false, rocof := 0 }
    (((m.unlockBits v).set 0x45200C 0 v).writeFreq v).raise 0x0732 [v, freqOf m.hz g.delta, m.k]
  else m

/-- SIGNAL_LOST_HOLD. -/
def execSignalLostHold (v : Nat) (s : State) : Host.Outcome State Fault Refusal := .next { s with mod := s.mod.awake (signalLostHold v) }

/-- The return to ACQUIRE after three present ticks: ψ takes θ and I takes Δ - D_nom, so f goes on from its held value (R111). -/
def Mod.reacquire (m : Mod) (v : Nat) : Mod :=
  let g := m.group v
  ((m.set 0x45200A 1 v).setGroup v
    { g with psi := ofInt 48 (g.theta * 2 ^ 16 + g.delta), integ := g.delta - m.dNom, seedPsi := false, lockRun := 0, errRun := 0, holdTicks := 0 }).writeFreq v

/-- HOLD_REACQUIRE (R111). -/
def holdReacquire (v : Nat) (m : Mod) : Mod :=
  if m.inPhase .F ∧ m.num 0x45200A v = 3 ∧ 3 ≤ (m.group v).presentRun then m.reacquire v else m

/-- HOLD_REACQUIRE. -/
def execHoldReacquire (v : Nat) (s : State) : Host.Outcome State Fault Refusal := .next { s with mod := s.mod.awake (holdReacquire v) }

/-- FALLBACK_ENTERED: HOLD_LIMIT ticks in HOLD without a third consecutive present tick (R111). -/
def fallbackEntered (v : Nat) (m : Mod) : Mod :=
  if m.inPhase .F ∧ m.num 0x45200A v = 3 ∧ m.num 0x452007 v ≤ (m.group v).holdTicks ∧ (m.group v).presentRun < 3 then
    ((m.set 0x45200A 4 v).writeFreq v).raise 0x0733 [v, m.num 0x452008 v, m.k]
  else m

/-- FALLBACK_ENTERED. -/
def execFallbackEntered (v : Nat) (s : State) : Host.Outcome State Fault Refusal := .next { s with mod := s.mod.awake (fallbackEntered v) }

/-- FALLBACK_REACQUIRE (R111). -/
def fallbackReacquire (v : Nat) (m : Mod) : Mod :=
  if m.inPhase .F ∧ m.num 0x45200A v = 4 ∧ 3 ≤ (m.group v).presentRun then m.reacquire v else m

/-- FALLBACK_REACQUIRE. -/
def execFallbackReacquire (v : Nat) (s : State) : Host.Outcome State Fault Refusal := .next { s with mod := s.mod.awake (fallbackReacquire v) }

/-- FREQ_LIMIT_RUN: event 0x0734, once in the 48th consecutive tick in which the range limit acts (R110). -/
def freqLimitRun (v : Nat) (m : Mod) : Mod :=
  let g := m.group v
  if m.inPhase .F ∧ g.limitRun = 48 then
    (m.setGroup v { g with limitRun := 49 }).raise 0x0734 [v, Config.eventField 0x0734 (if g.limitLow then 40 else 70), m.k]
  else m

/-- FREQ_LIMIT_RUN. -/
def execFreqLimitRun (v : Nat) (s : State) : Host.Outcome State Fault Refusal := .next { s with mod := s.mod.awake (freqLimitRun v) }

/-- ROCOF_VALID: after Wr + 1 LOCKED ticks ROCOF is valid and 0x82100 + v sets (R113). -/
def rocofBecomesValid (v : Nat) (m : Mod) : Mod :=
  let g := m.group v
  let wr := m.num 0x452009 v
  if m.inPhase .F ∧ m.num 0x45200A v = 2 ∧ wr + 1 ≤ g.lockedTicks ∧ !g.rocofValid then
    let r := rocofOf m.hz wr g.delta (deltaAgo g wr)
    (((m.setGroup v { g with rocofValid := true, rocof := r }).setBitAt (0x82100 + v) true).set 0x45200C r v).writeFreq v
  else m

/-- ROCOF_VALID. -/
def execRocofValid (v : Nat) (s : State) : Host.Outcome State Fault Refusal := .next { s with mod := s.mod.awake (rocofBecomesValid v) }

/-- What group v was in the previous tick, kept before a commit changes it: phase F reads it (R101, R112, R114). -/
def Mod.keepBefore (m : Mod) (v : Nat) : Mod :=
  if (m.phasor.before.lookup v).isSome then m
  else { m with phasor := { m.phasor with before := Table.put m.phasor.before v (m.groupNow v) } }

/-- A committed enable of group v: ACQUIRE with Δ = D_nom and I = 0 (R111). -/
def Mod.enableGroup (m : Mod) (v : Nat) : Mod :=
  let m := m.keepBefore v
  ((m.set 0x45200A 1 v).setGroup v { delta := m.dNom }).set 0x45200B (fofInt m.fNom) v

/-- A committed disable of group v: OFF, f reads F_nom, its status bits clear (R111). -/
def Mod.disableGroup (m : Mod) (v : Nat) : Mod :=
  let m := m.keepBefore v
  let m := ((m.set 0x45200A 0 v).setGroup v {}).unlockBits v
  m.set 0x45200C 0 v

end Sys2Proof.Machine
end

