-- ==== Sys2Proof/Machine/WeltCore.lean ====
section
/-!
DEFINITION. Welt links as every chapter uses them: routes, flits, credits, the transmitter, and the reception of packets (R278-R286, R292).
-/
namespace Sys2Proof.Machine

/-- The link states of R289. -/
def lkOff : Nat := 0
/-- TRAIN. -/
def lkTrain : Nat := 1
/-- HELLO. -/
def lkHello : Nat := 2
/-- ACTIVE. -/
def lkActive : Nat := 3
/-- DOWN. -/
def lkDown : Nat := 4
/-- FAULT. -/
def lkFault : Nat := 5
/-- RATE. -/
def lkRate : Nat := 6

/-- The module's ID (R290). -/
def Mod.moduleId (m : Mod) : Nat := m.num 0x610001
/-- The state of link l. -/
def Mod.lkState (m : Mod) (l : Nat) : Nat := m.num 0x611004 l
/-- Link l. -/
def Mod.link (m : Mod) (l : Nat) : WeltLink := Table.get m.welt.links {} l
/-- Link l replaced. -/
def Mod.setLink (m : Mod) (l : Nat) (x : WeltLink) : Mod := { m with welt := { m.welt with links := Table.set m.welt.links {} l x } }

/-- Whether a link carries packets: ACTIVE, or in a rate handshake (R304). -/
def Mod.lkUp (m : Mod) (l : Nat) : Bool := m.lkState l == lkActive || m.lkState l == lkRate

/-- The links that are up, ascending. -/
def Mod.linksUp (m : Mod) : List Nat := (List.range 24).filter m.lkUp

/-- The links that carry traffic for destination d (R292). -/
def Mod.routeTo (m : Mod) (d : Nat) : List Nat :=
  let set := m.linksUp.filter (fun l => bit (m.num 0x612001 d) l)
  if set.isEmpty then m.linksUp.filter (fun l => m.num 0x611006 l == d) else set

/-- Whether link l is a triad link (R277). -/
def Mod.triadLink (m : Mod) (l : Nat) : Bool := m.num 0x611009 l == 1

/-! ## Flits (R278-R280) -/

/-- The TYPE codes of the link-local flits (R279). -/
def ftIdle : Nat := 0
/-- HELLO. -/
def ftHello : Nat := 1
/-- NAK. -/
def ftNak : Nat := 2
/-- RATE. -/
def ftRate : Nat := 3

/-- The header of a flit with the ACK it is sent with (R278). -/
def Flit.header (f : Flit) (ack : Nat) : Nat :=
  f.seq % 4096 * 2 ^ 52 + ack % 4096 * 2 ^ 40 + f.cvc % 4 * 2 ^ 38 + f.ccnt % 64 * 2 ^ 32 + f.ty % 16 * 2 ^ 28 + f.vc % 4 * 2 ^ 26 +
    b2n f.sop * 2 ^ 25 + b2n f.eop * 2 ^ 24 + f.valid % 64 * 2 ^ 16 + f.dst % 256 * 2 ^ 8 + f.src % 256

/-- The 64 octets of a flit: header, payload, CRC (R278). -/
def Flit.bytes (f : Flit) (ack : Nat) : List Byte :=
  let b := toLE 8 (f.header ack) ++ slice f.payload 0 52
  b ++ toLE 4 (crc32 b)

/-- The number of flits of a packet with L data octets (R280); an XTRIG is one flit without a descriptor (R410; log entry 218). -/
def flitsOf (p : Packet) : Nat := if p.ty = .xtrig then 1 else 1 + (p.data.length - 36 + 51) / 52

/-- The descriptor, payload octets 0 to 15 of a packet's first flit (R280). -/
def descriptorOf (p : Packet) : List Byte :=
  toLE 1 (p.hops % 16) ++ toLE 1 p.cls ++ toLE 2 (if p.ty = .frame then p.flags else p.tagGen) ++
    (if p.ty = .fence then toLE 4 p.fenceId else toLE 2 p.len ++ toLE 1 p.status ++ [0]) ++
    (if p.ty = .frame then toLE 4 p.tick ++ toLE 4 0 else if p.ty = .rdReq ∨ p.ty = .wrReq then toLE 8 (p.offset % 2 ^ 36) else toLE 8 0)

/-- The octets of a packet as its flits carry them: descriptor and data. -/
def octetsOf (p : Packet) : List Byte := if p.ty = .xtrig then p.data else descriptorOf p ++ p.data

/-- The flits of a packet, their SEQ and credits still open (R280). -/
def packetFlits (p : Packet) : List Flit :=
  let n := flitsOf p
  let b := octetsOf p
  (List.range n).map (fun i => { ty := p.ty.code, vc := p.vc, sop := i == 0, eop := i + 1 == n, valid := min 52 (b.length - 52 * i), dst := p.dst,
                                 src := p.src, payload := (b.drop (52 * i)).take 52 })

/-! ## Credits (R282, R283) -/

/-- The receive buffer of W0 to W3, in flits (R282). -/
def vcBuffers : List Nat := [128, 512, 64, 256]

/-- One entry of a list of four changed. -/
def atVc (l : List Nat) (i : Nat) (f : Nat → Nat) : List Nat := (List.range 4).map (fun j => if j = i then f (l.getD j 0) else l.getD j 0)

/-- The VC whose credits the next flit returns, in rotation among those that have any due, and how many (R283). -/
def WeltLink.nextDue (x : WeltLink) : Nat × Nat :=
  match ((List.range 4).map (fun i => (x.dueTurn + i) % 4)).find? (fun v => x.due.getD v 0 != 0) with
  | some v => (v, min 63 (x.due.getD v 0))
  | none => (0, 0)

/-- The link after a flit has returned `n` credits of a VC. -/
def WeltLink.returned (x : WeltLink) (vc n : Nat) : WeltLink :=
  if n = 0 then x else { x with due := atVc x.due vc (· - n), dueTurn := (vc + 1) % 4 }

/-- `n` flits of a VC leave the receive buffer of link l, and their credits become due to the far end (R283). -/
def Mod.owe (m : Mod) (l vc n : Nat) : Mod :=
  let x := m.link l
  m.setLink l { x with due := atVc x.due vc (· + n), inbuf := atVc x.inbuf vc (· - n) }

/-- The same for flits that came by a link, and nothing for the module's own. -/
def Mod.oweVia (m : Mod) (via : Option Nat) (vc n : Nat) : Mod :=
  match via with
  | some l => if m.lkUp l then m.owe l vc n else m
  | none => m

/-! ## The transmitter (R281, R283, R284) -/

/-- ACK: the SEQ of the last flit received in order. -/
def WeltLink.ack (x : WeltLink) : Nat := (x.rxSeq + 4095) % 4096

/-- A flit leaves: it takes the next SEQ, the credits to be returned and a place in the replay buffer (R281, R283). -/
def Mod.putFlit (m : Mod) (l : Nat) (f : Flit) : Mod :=
  let x := m.link l
  let (v, n) := x.nextDue
  let f := { f with seq := x.txSeq, cvc := v, ccnt := n }
  (m.setLink l { x.returned v n with txSeq := (x.txSeq + 1) % 4096, replay := x.replay ++ [f] }).emit (.flit l (f.bytes x.ack))

/-- An IDLE or a NAK: it carries the next SEQ without taking it, and credits (R278, R281). -/
def Mod.sayFiller (m : Mod) (l ty : Nat) : Mod :=
  let x := m.link l
  let (v, n) := x.nextDue
  let f : Flit := { seq := x.txSeq, cvc := v, ccnt := n, ty := ty, src := m.moduleId }
  (m.setLink l (x.returned v n)).emit (.flit l (f.bytes x.ack))

/-- A VC with a flit to send: the rest of the packet begun there, or the first flit of the packet that goes next, in W1 an SC0 frame before others at a
packet boundary (R280, R284). The answer is the flits, the link they came by, and the packets left waiting. -/
def WeltLink.head (x : WeltLink) (vc : Nat) : Option ((List Flit × Option Nat) × List Queued) :=
  let c := x.cur.getD vc ([], none)
  if !c.1.isEmpty then some (c, x.waiting)
  else
    let mine := fun (w : Queued) => w.pkt.vc == vc
    let i := (x.waiting.findIdx? (fun w => mine w && vc == 1 && w.pkt.cls == 0)).orElse (fun _ => x.waiting.findIdx? mine)
    i.bind (fun i => (x.waiting[i]?).map (fun w => ((packetFlits w.pkt, w.via), x.waiting.eraseIdx i)))

/-- Whether a VC has a flit and a credit for it. -/
def WeltLink.ready (x : WeltLink) (vc : Nat) : Bool := decide (0 < x.credits.getD vc 0) && (x.head vc).isSome

/-- The VC that sends next, and the slots left in the round: W0 first, then W1 to W3 by weights 2, 1 and 4 (R284). Within a round the lowest VC with
slots left goes first (log entry 219). -/
def WeltLink.turn (x : WeltLink) : Option (Nat × List Nat) :=
  if x.ready 0 then some (0, x.wrr)
  else
    let able := [1, 2, 3].filter x.ready
    match able.find? (fun v => x.wrr.getD v 0 != 0), able with
    | some v, _ => some (v, atVc x.wrr v (· - 1))
    | none, v :: _ => some (v, atVc [0, 2, 1, 4] v (· - 1))
    | none, [] => none

/-- Whether a link may begin flits of a type: ACTIVE with no handshake under way, or in QUIESCE, RATE alone; and room in the replay buffer of 512 flits
(R281, R304). -/
def Mod.mayBegin (m : Mod) (l ty : Nat) : Bool :=
  let x := m.link l
  decide (x.replay.length < 512) &&
    ((m.lkState l == lkActive && (x.hs == .idle || x.hs == .proposed)) || (m.lkState l == lkRate && x.hs == .quiesce && ty == ftRate))

/-- One flit of a VC leaves; the credit goes, and the place it held in a receive buffer with it. -/
def Mod.sendVc (m : Mod) (l vc : Nat) (wrr : List Nat) : Mod :=
  let x := m.link l
  match x.head vc with
  | some ((f :: rest, via), waiting) =>
    let m := m.setLink l { x with
      waiting := waiting
      wrr := wrr
      cur := (List.range 4).map (fun i => if i = vc then (rest, via) else x.cur.getD i ([], none))
      credits := atVc x.credits vc (· - 1) }
    (m.putFlit l f).oweVia via vc 1
  | _ => m

/-- Flits leave on a link while they may: link-local ones first, then those of the packets; `n` bounds their number. -/
def pumpLink (l : Nat) : Nat → Mod → Mod
  | 0, m => m
  | n + 1, m =>
    let x := m.link l
    match x.loc.find? (fun e => m.mayBegin l e.1) with
    | some (ty, b) =>
      let m := m.setLink l { x with loc := x.loc.erase (ty, b) }
      pumpLink l n (m.putFlit l { ty := ty, valid := b.length, src := m.moduleId, payload := b })
    | none =>
      if !m.mayBegin l ftIdle then m
      else match x.turn with
        | some (vc, wrr) => pumpLink l n (m.sendVc l vc wrr)
        | none => m

/-- How many flits wait on a link. -/
def WeltLink.backlog (x : WeltLink) : Nat :=
  x.loc.length + (x.cur.map (fun e => e.1.length)).sum + (x.waiting.map (fun w => flitsOf w.pkt)).sum

/-- The flits of a link leave as far as they may. -/
def Mod.pump (m : Mod) (l : Nat) : Mod := pumpLink l (m.link l).backlog m

/-- Credits that no other flit has returned leave in IDLE flits, `n` of them at most (R283; log entry 219). -/
def idleOut (l : Nat) : Nat → Mod → Mod
  | 0, m => m
  | n + 1, m => if (m.link l).nextDue.2 = 0 then m else idleOut l n (m.sayFiller l ftIdle)

/-- Credits due on a link are returned. -/
def Mod.returnCredits (m : Mod) (l : Nat) : Mod := idleOut l ((m.link l).due.sum + 3) m

/-- A packet queued on a link with the link it came by, and flits sent as far as they may be. -/
def Mod.sendOn (m : Mod) (l : Nat) (p : Packet) (via : Option Nat := none) : Mod :=
  let x := m.link l
  (m.setLink l { x with waiting := x.waiting ++ [{ pkt := p, via := via }] }).pump l

/-- A link-local flit queued on a link that is up (R281). -/
def Mod.sendLocal (m : Mod) (l ty : Nat) (b : List Byte) : Mod :=
  let x := m.link l
  (m.setLink l { x with loc := x.loc ++ [(ty, b)] }).pump l

/-- The link of a set on which a packet goes (R285): W0 to W2 on link (SRC XOR DST) mod n, W3 on each in turn. -/
def Mod.routeOn (m : Mod) (ls : List Nat) (p : Packet) : Option Nat :=
  if ls.isEmpty then none
  else if p.vc = 3 then ls[Table.get m.welt.turns 0 p.dst % ls.length]?
  else ls[(p.src ^^^ p.dst) % ls.length]?

/-- The link on which a packet goes to its destination; none where there is no route (R285, R292). -/
def Mod.routeLink (m : Mod) (p : Packet) : Option Nat := m.routeOn (m.routeTo p.dst) p

/-- A packet sent towards its destination, with the link it came by; the answer is false where there is no route (R285, R292). -/
def Mod.routeVia (m : Mod) (p : Packet) (via : Option Nat) : Mod × Bool :=
  match m.routeLink p with
  | none => (m, false)
  | some l =>
    let n := (m.routeTo p.dst).length
    let m := if p.vc = 3 then
        { m with welt := { m.welt with turns := Table.set m.welt.turns 0 p.dst ((Table.get m.welt.turns 0 p.dst + 1) % n) } }
      else m
    (m.sendOn l p via, true)

/-- A packet of the module's own sent towards its destination. -/
def Mod.route (m : Mod) (p : Packet) : Mod × Bool := m.routeVia p none

/-! ## Receiving (R281, R283) -/

/-- ACK and credits of a flit that has been accepted: acknowledged flits leave the replay buffer, credits come in, flits that waited leave. -/
def Mod.ackAndCredit (m : Mod) (h : FlitHdr) : Mod :=
  let x := m.link h.l
  let first := match x.replay with
    | f :: _ => f.seq
    | [] => x.txSeq
  let n := (h.ack + 1 + 4096 - first) % 4096
  let n := if n ≤ x.replay.length then n else 0
  (m.setLink h.l { x with
    replay := x.replay.drop n
    replays := if n = 0 then x.replays else 0
    credits := atVc x.credits h.cvc (· + h.ccnt) }).pump h.l

/-- A discard for the SEQ expected: the first one sends NAK (R281). -/
def Mod.discardFlit (m : Mod) (l : Nat) : Mod :=
  let x := m.link l
  if x.nak then m else (m.setLink l { x with nak := true }).sayFiller l ftNak

/-- Flits that begin with a SEQ arrive on a link that is up, `n` of them in order: accepted where the SEQ is the one expected, discarded otherwise. The answer
says whether they were (R281). -/
def Mod.accept (m : Mod) (h : FlitHdr) (n : Nat) : Mod × Bool :=
  if !m.lkUp h.l then (m, false)
  else if h.seq ≠ (m.link h.l).rxSeq then (m.discardFlit h.l, false)
  else
    let x := m.link h.l
    let m := if n = 0 then m else m.setLink h.l { x with rxSeq := (x.rxSeq + n) % 4096, nak := false }
    (m.ackAndCredit h, true)

/-- A link-local flit that takes a SEQ, HELLO or RATE: `f` where it is accepted, and its ACK goes back. -/
def Mod.takeLocal (m : Mod) (h : FlitHdr) (f : Mod → Mod) : Mod :=
  let (m, ok) := m.accept h 1
  if !ok then m
  else
    let m := f m
    if m.lkUp h.l then (m.sayFiller h.l ftIdle).returnCredits h.l else m

/-- A packet that is not for this module is forwarded with HOPS lowered; with HOPS 0 it is discarded and counted, and a read it
asked for is answered STATUS 5; with no route a read is answered STATUS 1 and counted (R286, R292, R298). -/
def Mod.forwardPacket (m : Mod) (p : Packet) (l : Nat) : Mod :=
  let err := fun (m : Mod) (st : Nat) => (if p.ty = .rdReq then
      (m.route { ty := .rdErr, vc := 3, dst := p.src, src := m.moduleId, tagGen := p.tagGen, status := st }).1 else m).owe l p.vc (flitsOf p)
  if p.hops = 0 then err (m.bump 0x613009) 5
  else
    let (m', sent) := m.routeVia { p with hops := p.hops - 1 } (some l)
    if sent then m' else err (m.bump 0x613007) 1

/-- Whether a packet's flits find room in the receive buffer of their VC (R282). -/
def Mod.roomFor (m : Mod) (l : Nat) (p : Packet) : Bool := decide ((m.link l).inbuf.getD p.vc 0 + flitsOf p ≤ max (flitsOf p) (vcBuffers.getD p.vc 0))

/-- A received packet (R279-R286): a type on the wrong VC is discarded and counted; in order, it enters the receive buffer; one for this module is handled by
`f`, whose answer says whether it has left the buffer; a broadcast is allowed for XTRIG alone; any other is forwarded. Credits and ACK go back. -/
def Mod.takePacket (m : Mod) (h : FlitHdr) (p : Packet) (f : Mod → Mod × Bool) : Mod :=
  if !m.lkUp h.l then m
  else if !p.ty.onVc p.vc then (m.bump 0x61300A).discardFlit h.l
  else if !m.roomFor h.l p then m.discardFlit h.l
  else
    let (m, ok) := m.accept h (flitsOf p)
    if !ok then m
    else
      let x := m.link h.l
      let m := m.setLink h.l { x with inbuf := atVc x.inbuf p.vc (· + flitsOf p) }
      let m := if p.dst = m.moduleId ∨ (p.dst = 255 ∧ p.ty = .xtrig) then
          let (m, gone) := f m
          if gone then m.owe h.l p.vc (flitsOf p) else m
        else if p.dst = 255 then (m.bump 0x61300A).owe h.l p.vc (flitsOf p)
        else m.forwardPacket p h.l
      if m.lkUp h.l then (m.sayFiller h.l ftIdle).returnCredits h.l else m

/-- A received packet that leaves the buffer as it is delivered. -/
def Mod.takeWhole (m : Mod) (h : FlitHdr) (p : Packet) (f : Mod → Mod) : Mod := m.takePacket h p (fun m => (f m, true))

end Sys2Proof.Machine
end

