-- ==== Sys2Proof/Machine/CommitCore.lean ====
section
/-!
DEFINITION. Commits as they are held: identifiers, members concerned, states, proposals and messages (R454, R455, R457-R460).
-/
namespace Sys2Proof.Machine

/-- The number by which 0x1F00.05 and 0x1F40.03 show a commit state (R460). APPLYING is 4. -/
def commitCode : CommitState → Nat
  | .none => 0 | .proposed => 1 | .confirmed => 2 | .armed => 3 | .applying => 4 | .refused => 5
  | .cancelled => 6 | .missed => 7 | .applied => 8 | .overruled => 9

/-- Whether a commit is pending: neither APPLIED, REFUSED, CANCELLED, MISSED nor OVERRULED (R454). -/
def Commit.pending (c : Commit) : Bool := decide (commitCode c.state ≤ 4)

/-- The pending commits. -/
def Mod.pendingCommits (m : Mod) : List Commit := m.dic.held.filter Commit.pending

/-- The commit with an identifier: the latest held. -/
def Mod.commit? (m : Mod) (id : Nat) : Option Commit := m.dic.held.reverse.find? (fun (c : Commit) => c.id == id)

/-- A commit changed where it is held. -/
def Mod.mapCommit (m : Mod) (id : Nat) (f : Commit → Commit) : Mod :=
  let m := { m with dic := { m.dic with held := m.dic.held.map (fun (c : Commit) => if c.id = id ∧ c.pending then f c else c) } }
  m.set 0x1F0101 m.pendingCommits.length

/-- The ranks other than the module's own that are MEMBERs and not excluded (R459). -/
def Mod.otherMembers (m : Mod) : List Nat :=
  [1, 2, 3].filter (fun r => r != m.rank && m.num 0x600102 r == msMember && m.num 0x602104 r == 0)

/-- What a module-internal commit carries: 1 a freeze of a tenant, 2 a step of the time base, 3 time status bits (R216, R387, R391). -/
def Commit.inside (c : Commit) : Nat × Int :=
  match c.freeze with
  | some t => (1, t)
  | none => match c.step with
    | some x => (2, x)
    | none => (3, (c.timeBits.getD 0 : Nat))

/-- RECORD_LEN of a commit (R457). -/
def Commit.recordLen (c : Commit) : Nat :=
  if c.kind = 3 then 20 + (Config.internalTail c.inside.1 c.inside.2).length
  else 24 + (c.entries.map (fun e => 12 + (valLen e.obj e.val + 3) / 4 * 4)).sum

/-! ## The record (R457) and the messages (R458) -/

/-- A value as it stands on a path: numbers little-endian in their type's size, octets as they are (R446). -/
def encodeVal (o : Nat) : Val → List Byte
  | .num n => match objRow? o with
    | some r => toLE (tySize r.ty) n
    | none => []
  | .oct b => b

/-- Octets padded with zeros to a multiple of `n`. -/
def padTo (n : Nat) (bs : List Byte) : List Byte := bs ++ List.replicate ((n - bs.length % n) % n) 0

/-- The type codes of R446. -/
def tyCode : ObjTy → Nat
  | .bool => 0 | .u8 => 1 | .u16 => 2 | .u32 => 3 | .u64 => 4 | .i8 => 5 | .i16 => 6 | .i32 => 7 | .i64 => 8
  | .f32 => 9 | .str => 10 | .octs => 11 | .tick => 12

/-- The type code of an object. -/
def objTyCode (o : Nat) : Nat :=
  match objRow? o with
  | some r => tyCode r.ty
  | none => 0

/-- An entry as a record lays it out. -/
def entryBytes (e : StageEntry) : List Byte :=
  let v := encodeVal e.obj e.val
  toLE 2 (e.obj / 256) ++ toLE 1 (e.obj % 256) ++ toLE 1 (objTyCode e.obj) ++ toLE 2 e.sel ++ toLE 2 0 ++ toLE 4 v.length ++ padTo 4 v

/-- A commit record (R457); a module-internal one has a tail that R457 does not give. -/
def Commit.record (c : Commit) : List Byte :=
  toLE 1 1 ++ toLE 1 c.kind ++ toLE 1 c.originRank ++ toLE 1 c.path ++ toLE 4 c.id ++ toLE 8 c.target ++ toLE 4 c.recordLen ++
    (if c.kind = 3 then Config.internalTail c.inside.1 c.inside.2
     else toLE 2 c.entries.length ++ toLE 2 0 ++ c.entries.flatMap entryBytes)

/-- A commit message's octets: OP, COMMIT_ID, TARGET, SEND_TICK, CODE, FRAG_OFFSET, FRAG_LEN and the fragment (R458). -/
def Mod.commitBytes (m : Mod) (op : Nat) (c : Commit) (code off : Nat) (frag : List Byte) : List Byte :=
  toLE 1 op ++ toLE 3 0 ++ toLE 4 c.id ++ toLE 8 c.target ++ toLE 8 m.k ++ toLE 4 code ++ toLE 4 off ++ toLE 4 frag.length ++ toLE 4 0 ++ frag

/-- A commit message to every other MEMBER: a W1 FRAME of class SC1 with bit COMMIT (R280, R458). -/
def Mod.commitFrame (m : Mod) (op : Nat) (c : Commit) (code off : Nat) (frag : List Byte) : Mod :=
  let b := m.commitBytes op c code off frag
  m.each m.otherMembers (fun m r =>
    (m.route { ty := .frame, vc := 1, dst := m.num 0x600101 r, src := m.moduleId, flags := 8, cls := 1, tick := m.k % 2 ^ 32, len := b.length,
               data := b }).1)

/-- A message of a commit to the members, on a MEMBER only; a PROPOSE takes a fragment for every 9,176 octets of its record (R455, R458). -/
def Mod.sendCommit (m : Mod) (op : Nat) (c : Commit) (code : Nat) : Mod :=
  if !m.isMember then m
  else if op = 1 then
    m.each (List.range ((c.recordLen + 9175) / 9176)) (fun m i => m.commitFrame 1 c 0 (9176 * i) ((c.record.drop (9176 * i)).take 9176))
  else m.commitFrame op c (if op = 3 ∨ op = 5 then code else 0) 0 []

/-- The next COMMIT_ID of this module: its module ID and a sequence that starts after reset at a DRBG value (R457). -/
def Mod.nextCommitId (m : Mod) : Nat × Mod :=
  let (start, m) := if m.dic.idSeqDrawn then (m.dic.idSeq, m) else m.draw 24
  (m.num 0x610001 % 256 * 2 ^ 24 + start, { m with dic := { m.dic with idSeq := (start + 1) % 2 ^ 24, idSeqDrawn := true } })

/-- A commit taken up as PROPOSED on this module: every other member is asked; where there is none it is CONFIRMED at once (R455, R460). -/
def Mod.takeUp (m : Mod) (c : Commit) : Mod :=
  let others := if m.isMember then m.otherMembers else []
  let c := { c with members := others, own := true, state := if others.isEmpty then .confirmed else .proposed }
  let m := { m with dic := { m.dic with held := m.dic.held ++ [c] } }
  let m := m.set 0x1F0101 m.pendingCommits.length
  if others.isEmpty then m else m.sendCommit 1 c 0

/-- Whether a target tick is within range (R454). -/
def Mod.targetOk (m : Mod) (t : Nat) : Bool := decide (m.k + 48 ≤ t ∧ t ≤ m.k + 2 ^ 24)

/-- Why a proposal cannot be taken up now: a target out of range, too many pending, or a member state that cannot commit; 0 when it can (R454, R455). -/
def Mod.proposalBar (m : Mod) (target : Nat) : Nat :=
  if !m.isMember && m.mstate != msStandalone then abMember
  else if !m.targetOk target then abTarget
  else if 64 ≤ m.pendingCommits.length then abPending
  else 0

/-- A commit that the module itself proposes (KIND 3): a freeze for violations, a step of the time base, new time status bits
(R216, R387, R391). A proposal that is barred is dropped. -/
def Mod.proposeOwn (m : Mod) (target : Nat) (c : Commit) : Mod :=
  if m.proposalBar target ≠ 0 then m
  else
    let (id, m) := m.nextCommitId
    m.takeUp { c with id := id, kind := 3, originRank := m.rank, path := 4, target := target }

end Sys2Proof.Machine
end

