-- ==== Sys2Proof/Machine/Element.lean ====
section
/-!
DEFINITION. The element array: sources, the eight primitives, phase E and the checks a commit makes of a slot's settings (R123-R153).
-/
namespace Sys2Proof.Machine

/-- The state of slot e. -/
def Mod.slot (m : Mod) (e : Nat) : SlotSt := Table.get m.element.slots {} e
/-- The state of slot e replaced. -/
def Mod.setSlot (m : Mod) (e : Nat) (x : SlotSt) : Mod :=
  { m with element := { m.element with slots := Table.set m.element.slots {} e x } }

/-! ## Settings -/

/-- SETj of slot e, j = 1 to 8 (R137). -/
def Mod.sett (m : Mod) (e j : Nat) : Nat := m.num (0x481006 + j) e
/-- TYPE of slot e (R123). -/
def Mod.slotType (m : Mod) (e : Nat) : Nat := m.num 0x481001 e
/-- MODE of slot e (R128). -/
def Mod.slotMode (m : Mod) (e : Nat) : Nat := m.num 0x481002 e
/-- SENSE. -/
def modeSense (w : Nat) : Nat := bitsOf w 1 0
/-- PHASES. -/
def modePhases (w : Nat) : Nat := bitsOf w 3 2
/-- RESET. -/
def modeReset (w : Nat) : Nat := bitsOf w 7 6
/-- CURVE. -/
def modeCurve (w : Nat) : Nat := bitsOf w 11 8
/-- Source words A, B, C of slot e, i = 0 to 2 (R124). -/
def Mod.src (m : Mod) (e i : Nat) : Nat := m.num (0x481003 + i) e
/-- KIND of a source word. -/
def srcKind (w : Nat) : Nat := bitsOf w 31 28
/-- INDEX_A of a source word. -/
def srcA (w : Nat) : Nat := bitsOf w 13 0
/-- INDEX_B of a source word. -/
def srcB (w : Nat) : Nat := bitsOf w 27 14

/-- A binary64 expression over settings, rounded once to binary32 (R130). -/
def once (d : Nat) : Nat := b64.conv b32 d
/-- A binary32 setting as binary64. -/
def wide (a : Nat) : Nat := b32.conv b64 a
/-- binary64 1.0. -/
def dOne : Nat := 0x3FF0000000000000
/-- binary64 2.0. -/
def dTwo : Nat := 0x4000000000000000

/-- S(1 - h), the threshold that must be exceeded while picked (R130). -/
def lowered (s h : Nat) : Nat := once (b64.mul (wide s) (b64.sub dOne (wide h)))
/-- S(1 + h), the threshold that must not be exceeded while picked (R130). -/
def raisedBy (s h : Nat) : Nat := once (b64.mul (wide s) (b64.add dOne (wide h)))

/-- cos of an angle in degrees given as binary32, as binary64 (R130). -/
def cosDeg (a : Nat) : Nat :=
  let e := b32.expo a
  let num : Int := if 0 ≤ e then b32.int a * 2 ^ e.toNat else b32.int a
  let den : Nat := 360 * (if 0 ≤ e then 1 else 2 ^ (-e).toNat)
  b64.ofScaled (cosTurn num den) (-(fxBits : Int))
/-- sin of an angle in degrees, as binary64. -/
def sinDeg (a : Nat) : Nat :=
  let e := b32.expo a
  let num : Int := if 0 ≤ e then b32.int a * 2 ^ e.toNat else b32.int a
  let den : Nat := 360 * (if 0 ≤ e then 1 else 2 ^ (-e).toNat)
  b64.ofScaled (sinTurn num den) (-(fxBits : Int))

/-- A finite pattern rounded to the nearest integer, ties to even. -/
def roundInt (F : Fmt) (a : Nat) : Int :=
  let e := F.expo a
  if 0 ≤ e then F.int a * 2 ^ e.toNat
  else
    let d : Nat := 2 ^ (-e).toNat
    let n := F.sig a
    let q := n / d
    let r := n % d
    let v : Nat := if 2 * r < d then q else if d < 2 * r then q + 1 else q + q % 2
    if F.neg a then -(v : Int) else v

/-- An angle setting in units of 2^-32 turn (R130). -/
def angleUnits (a : Nat) : Int := roundInt b64 (b64.div (b64.mul (wide a) (b64.ofScaled 1 32)) (b64.ofScaled 360 0))

/-- round(SET * R) of a time setting in seconds, to the nearest tick count. -/
def ticksOf (hz s : Nat) : Nat := (roundInt b64 (b64.mul (wide s) (b64.ofScaled hz 0))).toNat

/-! ## Sources (R124, R126) -/

/-- Whether a STATUS word of R114 or R119 lets its record pass R126. -/
def statusOk (st : Nat) : Bool := !flagBad (bitsOf st 15 8) && !bit st 5

/-- The latest phasor record of channel c. -/
def Mod.phLatest (m : Mod) (c : Nat) : Phasor := (m.phChan c).latest

/-- Whether the phasor record of channel c passes R126; one never written counts as carrying WARMUP. -/
def Mod.phOk (m : Mod) (c : Nat) : Bool := !(m.phChan c).recs.isEmpty && statusOk (m.phLatest c).status

/-- Whether the filter record of channel c passes R126. -/
def Mod.filterOk (m : Mod) (c : Nat) : Bool :=
  let w := (m.chan c).latest
  !w.isEmpty && statusOk (w.getD 3 0)

/-- Whether the sequence record of group g passes R126. -/
def Mod.seqOk (m : Mod) (g : Nat) : Bool := (m.seqRec g).made && statusOk (m.seqRec g).status

/-- Whether a source word passes the tests of R126. -/
def Mod.srcOk (m : Mod) (w : Nat) : Bool :=
  let a := srcA w
  match srcKind w with
  | 0 => true
  | 1 => m.filterOk a
  | 2 => m.phOk a
  | 3 => m.seqOk a
  | 4 => m.seqOk a
  | 5 => m.seqOk a
  | 6 => m.num 0x45200A a == 2
  | 7 => (m.group a).rocofValid
  | 8 => m.num 0x45200A a == 2
  | 9 => m.phOk a && m.phOk (srcB w)
  | 10 => (m.phases a).all m.phOk
  | _ => true

/-- The complex quantity of a KIND 2 to 5 or 9 source. -/
def Mod.srcCx (m : Mod) (w : Nat) : Cx :=
  let a := srcA w
  match srcKind w with
  | 2 => (m.phLatest a).x
  | 3 => (m.seqRec a).x0
  | 4 => (m.seqRec a).x1
  | 5 => (m.seqRec a).x2
  | 9 => (m.phLatest a).x.sub (m.phLatest (srcB w)).x
  | _ => {}

/-- The magnitude Q of a source as R138 forms it. -/
def Mod.srcMag (m : Mod) (w : Nat) : Nat :=
  let a := srcA w
  match srcKind w with
  | 1 => b32.abs ((m.chan a).latest.getD 0 0)
  | 2 => (m.phLatest a).mag
  | 3 => (m.seqRec a).m0
  | 4 => (m.seqRec a).m1
  | 5 => (m.seqRec a).m2
  | 6 => m.groupFreq a
  | 9 => (m.srcCx w).mag
  | _ => 0

/-- The low 32 bits of k_f of a source's record; 0 for KIND 0 and 11 (R150). -/
def Mod.srcTick (m : Mod) (w : Nat) : Nat :=
  let a := srcA w
  match srcKind w with
  | 1 => (m.chan a).latest.getD 2 0
  | 2 => (m.phLatest a).tick
  | 3 => (m.seqRec a).tick
  | 4 => (m.seqRec a).tick
  | 5 => (m.seqRec a).tick
  | 6 => (m.group a).srcTick
  | 7 => (m.group a).srcTick
  | 8 => (m.group a).srcTick
  | 9 => (m.phLatest a).tick
  | 10 => (m.phLatest ((m.phases a).getD 0 0)).tick
  | _ => 0

/-- The three phase phasors of a KIND 10 source. -/
def Mod.srcPhases (m : Mod) (w : Nat) : List Cx := (m.phases (srcA w)).map (fun c => (m.phLatest c).x)

/-- The three differences AB, BC and CA. -/
def loopDiffs (p : List Cx) : List Cx :=
  let x (i : Nat) : Cx := p.getD i {}
  [(x 0).sub (x 1), (x 1).sub (x 2), (x 2).sub (x 0)]

/-- The ticks that the rate window W spans (R144). -/
def Mod.rateWindow (m : Mod) (e : Nat) : Nat := (b32.floor (m.sett e 2)).toNat

/-- Whether slot e is valid (R126). -/
def Mod.slotValid (m : Mod) (e : Nat) : Bool :=
  let ws := [m.src e 0, m.src e 1, m.src e 2]
  let ty := m.slotType e
  let ph := modePhases (m.slotMode e)
  ws.all m.srcOk &&
  (if ty = 7 ∧ 1 ≤ srcKind (m.src e 0) ∧ srcKind (m.src e 0) ≤ 5 then ((m.slot e).hist.getD (m.rateWindow e - 1) {}).valid else true) &&
  (if (ty = 4 ∨ ty = 5) ∧ ph = 1 ∧ m.src e 2 = 0 then m.seqOk (srcA (m.src e 1)) else true)

/-! ## The primitives (R138-R144) -/

/-- What a type's equations give in a tick: the condition of each loop, DIR, VALUE and VALUE2. -/
structure Decision where
  conds : List Bool := []
  dir : Bool := false
  value : Nat := 0
  value2 : Nat := 0
deriving DecidableEq, Repr

/-- The largest (or smallest) of a list of binary32 values. -/
def fExtreme (small : Bool) : List Nat → Nat
  | [] => 0
  | a :: t => t.foldl (fun b x => if small then (if flt x b then x else b) else (if flt b x then x else b)) a

/-- MAG (R138). -/
def decideMag (m : Mod) (e : Nat) (picked : List Bool) : Decision :=
  let w := m.src e 0
  let h := m.num 0x48100F e
  let s := m.sett e 1
  let under := modeSense (m.slotMode e) == 1
  let qs := match modePhases (m.slotMode e) with
    | 1 => (m.phases (srcA w)).map (fun c => (m.phLatest c).mag)
    | 2 => (loopDiffs (m.srcPhases w)).map Cx.mag
    | _ => [m.srcMag w]
  let cond (q : Nat) (p : Bool) : Bool :=
    if under then fle q (if p then raisedBy s h else s) && fle (m.sett e 2) q
    else fle (if p then lowered s h else s) q
  { conds := qs.zipIdx.map (fun x => cond x.1 (picked.getD x.2 false)), value := fExtreme under qs }

/-- ANGLE (R139). -/
def decideAngle (m : Mod) (e : Nat) (picked : List Bool) : Decision :=
  let a := m.srcCx (m.src e 0)
  let b := m.srcCx (m.src e 1)
  let z := a.mul b.conj
  let phi := arctan z.re z.im
  let d0 := toInt 32 (ofInt 32 (phi - angleUnits (m.sett e 1)))
  let d := if modeSense (m.slotMode e) = 1 then toInt 32 (ofInt 32 (d0 - 2 ^ 31)) else d0
  let wmax := angleUnits (m.sett e 2) + (if picked.getD 0 false then angleUnits (m.sett e 5) else 0)
  let low := flt a.mag (m.sett e 3) || flt b.mag (m.sett e 4)
  { conds := [!low && decide ((d.natAbs : Int) ≤ wmax)], dir := !low && decide (d0.natAbs < 2 ^ 30), value := degrees phi }

/-- A complex setting of two binary32 values (R140). -/
def cxOf (b : List Byte) : Cx := { re := field b 0 4, im := field b 4 4 }

/-- BIAS (R140). -/
def decideBias (m : Mod) (e : Nat) (picked : List Bool) : Decision :=
  let q (i : Nat) : Cx := if m.src e i = 0 then {} else (m.srcCx (m.src e i)).mul (cxOf (m.oct (0x481012 + i) e))
  let a := q 0
  let b := q 1
  let c := q 2
  let id := ((a.add b).add c).mag
  let ir := fdiv (fadd (fadd a.mag b.mag) c.mag) fTwo
  let k1 := m.sett e 2
  let knee := m.sett e 3
  let base := once (b64.mul (wide k1) (wide knee))
  let th := if fle ir knee then (let x := fmul k1 ir; if flt (m.sett e 1) x then x else m.sett e 1)
    else fadd base (fmul (m.sett e 4) (fsub ir knee))
  let th' := if picked.getD 0 false then fmul th (once (b64.sub dOne (wide (m.num 0x48100F e)))) else th
  { conds := [fle th' id], value := id, value2 := ir }

/-- The loop voltages and currents of a MHO or QUAD slot (R141). -/
def Mod.distanceLoops (m : Mod) (e : Nat) : List (Cx × Cx) :=
  let wa := m.src e 0
  let wb := m.src e 1
  let wc := m.src e 2
  let k0 : Cx := { re := m.sett e 6, im := m.sett e 7 }
  match modePhases (m.slotMode e) with
  | 0 => [(m.srcCx wa, if wc = 0 then m.srcCx wb else (m.srcCx wb).add (k0.mul (m.srcCx wc)))]
  | 1 =>
    let res := if wc = 0 then (m.seqRec (srcA wb)).x0.scale 0x40400000 else m.srcCx wc
    (m.srcPhases wa).zip ((m.srcPhases wb).map (fun i => i.add (k0.mul res)))
  | _ => (loopDiffs (m.srcPhases wa)).zip (loopDiffs (m.srcPhases wb))

/-- |z| squared, as binary32. -/
def Cx.sq (z : Cx) : Nat := fadd (fmul z.re z.re) (fmul z.im z.im)

/-- A reach multiplied by (1 + h') as binary64. -/
def reach (s h : Nat) (picked : Bool) : Nat := if picked then b64.mul (wide s) (b64.add dOne (wide h)) else wide s

/-- R and X of V conj(I) / |I|^2 (R141). -/
def loopImpedance (v i : Cx) : Nat × Nat :=
  let w := v.mul i.conj
  (fdiv w.re i.sq, fdiv w.im i.sq)

/-- MHO (R141). -/
def decideMho (m : Mod) (e : Nat) (picked : List Bool) : Decision :=
  let h := m.num 0x48100F e
  let co := cosDeg (m.sett e 2)
  let si := sinDeg (m.sett e 2)
  let fwd := wide (m.sett e 1)
  let rev := wide (m.sett e 3)
  let half (x : Nat) : Nat := once (b64.div (b64.sub (b64.mul fwd x) (b64.mul rev x)) dTwo)
  let zc : Cx := { re := half co, im := half si }
  let rho := b64.div (b64.add fwd rev) dTwo
  let rho2 (p : Bool) : Nat :=
    let r := if p then b64.mul rho (b64.add dOne (wide h)) else rho
    once (b64.mul r r)
  let min2 := once (b64.mul (wide (m.sett e 8)) (wide (m.sett e 8)))
  let loops := m.distanceLoops e
  let cond (v i : Cx) (p : Bool) : Bool :=
    let n := i.sq
    fle min2 n && fle ((v.sub (zc.mul i)).sq) (fmul (rho2 p) n)
  let z : Nat × Nat := match loops with
    | (v, i) :: _ => loopImpedance v i
    | [] => (0, 0)
  { conds := loops.zipIdx.map (fun x => cond x.1.1 x.1.2 (picked.getD x.2 false)), value := z.1, value2 := z.2 }

/-- QUAD (R142). -/
def decideQuad (m : Mod) (e : Nat) (picked : List Bool) : Decision :=
  let h := m.num 0x48100F e
  let dco := cosDeg (m.sett e 5)
  let dsi := sinDeg (m.sett e 5)
  let co := once dco
  let si := once dsi
  let min2 := once (b64.mul (wide (m.sett e 8)) (wide (m.sett e 8)))
  let loops := m.distanceLoops e
  let cond (v i : Cx) (p : Bool) : Bool :=
    let w := v.mul i.conj
    let n := i.sq
    let r (j : Nat) : Nat := reach (m.sett e j) h p
    let lat := fsub (fmul w.re si) (fmul w.im co)
    fle min2 n && fle w.im (fmul (once (r 1)) n) && fle (b32.negate (fmul (once (r 4)) n)) w.im &&
      fle lat (fmul (once (b64.mul (r 2) dsi)) n) && fle (b32.negate (fmul (once (b64.mul (r 3) dsi)) n)) lat
  let z : Nat × Nat := match loops with
    | (v, i) :: _ => loopImpedance v i
    | [] => (0, 0)
  { conds := loops.zipIdx.map (fun x => cond x.1.1 x.1.2 (picked.getD x.2 false)), value := z.1, value2 := z.2 }

/-- POWER (R143): every loop in use takes the one condition of the slot (R129). -/
def decidePower (m : Mod) (e : Nat) (picked : List Bool) : Decision :=
  let three := modePhases (m.slotMode e) == 1
  let vs := if three then m.srcPhases (m.src e 0) else [m.srcCx (m.src e 0)]
  let is_ := if three then m.srcPhases (m.src e 1) else [m.srcCx (m.src e 1)]
  let prods := (vs.zip is_).map (fun x => x.1.mul x.2.conj)
  let s : Cx := match prods with
    | [] => {}
    | a :: t => t.foldl Cx.add a
  let sense := modeSense (m.slotMode e)
  let x := match sense with
    | 0 => s.re
    | 1 => b32.negate s.re
    | 2 => s.im
    | _ => b32.negate s.im
  let enough := fle (m.sett e 2) (fExtreme false (is_.map Cx.mag)) && fle (m.sett e 3) (fExtreme false (vs.map Cx.mag))
  let th := if picked.getD 0 false then lowered (m.sett e 1) (m.num 0x48100F e) else m.sett e 1
  { conds := List.replicate (if three then 3 else 1) (enough && fle th x), dir := enough && fle 0 (if sense < 2 then s.re else s.im), value := s.re, value2 := s.im }

/-- RATE (R144). -/
def decideRate (m : Mod) (e : Nat) (picked : List Bool) : Decision :=
  let w := m.src e 0
  let win := m.rateWindow e
  let x := match srcKind w with
    | 7 => (m.group (srcA w)).rocof
    | 8 => (m.group (srcA w)).resid
    | _ => fdiv (fmul (fsub (m.srcMag w) ((m.slot e).hist.getD (win - 1) {}).q) (fofInt m.hz)) (fofInt win)
  let th := if picked.getD 0 false then lowered (m.sett e 1) (m.num 0x48100F e) else m.sett e 1
  let c := match modeSense (m.slotMode e) with
    | 0 => fle th (b32.abs x)
    | 1 => fle th x
    | _ => fle th (b32.negate x)
  { conds := [c], value := x }

/-! ## TIMER (R145-R148) -/

/-- The binary32 value 1.0 where a setting is 0.0. -/
def orDefault (a d : Nat) : Nat := if b32.isZero a then d else a

/-- M = Q / Is (R145). -/
def Mod.timerM (m : Mod) (e : Nat) : Nat := fdiv (m.srcMag (m.src e 0)) (m.sett e 1)

/-- Whether the quantity of a TIMER slot is high enough (R145). -/
def Mod.timerHigh (m : Mod) (e : Nat) (running : Bool) : Bool :=
  if m.src e 0 = 0 then true
  else
    let pr := orDefault (m.sett e 6) fOne
    fle (if running then lowered pr (m.num 0x48100F e) else pr) (m.timerM e)

/-- Interpolation on a U32 table with 16 fraction bits (R147, R148). -/
def tableInterp (t : List Nat) (i f : Nat) : Nat :=
  let a : Int := t.getD i 0
  let b : Int := t.getD (i + 1) 0
  (a + ((b - a) * f + 2 ^ 15) / 2 ^ 16).toNat

/-- inc(M) from the increment table (R147). -/
def timerInc (table : List Nat) (mMax mm : Nat) : Nat :=
  let lim := orDefault mMax 0x42000000
  let mc := if flt lim mm then lim else mm
  if flt mc fOne then table.getD 0 0
  else if fle 0x42000000 mc then table.getD 640 0
  else
    let i := 128 * (mc / 2 ^ 23 - 127) + mc / 2 ^ 16 % 128
    tableInterp table i (mc % 2 ^ 16)

/-- dec(M) from the decrement table (R148). -/
def timerDec (table : List Nat) (mm : Nat) : Nat :=
  let m24 := if fle fOne mm then 2 ^ 24 - 1 else (b32.floor (b32.ofScaled (b32.int mm) (b32.expo mm + 24))).toNat
  tableInterp table (m24 / 2 ^ 16) (m24 % 2 ^ 16)

/-- Numerator and denominator of the constants of an IEC or IEEE curve: k or A, B, exponent, tr, each over 10,000 (R145). -/
def curveConsts (curve : Nat) : Nat × Nat × Nat × Nat :=
  match curve with
  | 1 => (1400, 0, 200, 0)
  | 2 => (135000, 0, 10000, 0)
  | 3 => (800000, 0, 20000, 0)
  | 4 => (1200000, 0, 10000, 0)
  | 5 => (515, 1140, 200, 48500)
  | 6 => (196100, 4910, 20000, 216000)
  | 7 => (282000, 1217, 20000, 291000)
  | _ => (0, 0, 10000, 0)

/-- A binary32 value scaled by 2^160. -/
def fxOf (a : Nat) : Int :=
  let e := b32.expo a + fxBits
  if 0 ≤ e then b32.int a * 2 ^ e.toNat else b32.int a / 2 ^ (-e).toNat

/-- ln of a positive binary32 value, scaled by 2^160. -/
def fxLnOf (a : Nat) : Int :=
  let e := b32.expo a
  if 0 ≤ e then fxLn (b32.sig a * 2 ^ e.toNat) 1 else fxLn (b32.sig a) (2 ^ (-e).toNat)

/-- The points (M_j, t_j) of a user curve (R147). -/
def curvePoints (b : List Byte) : List (Nat × Nat) := (List.range 32).map (fun j => (field b (8 * j) 4, field b (8 * j + 4) 4))

/-- t(M) of a user curve, log-linear between points, for ln M scaled by 2^160; none below M_0 (R147). -/
def userTime : List (Nat × Nat) → Int → Option Int
  | [], _ => none
  | [(m0, t0)], lm => if lm < fxLnOf m0 then none else some (fxOf t0)
  | (m0, t0) :: (m1, t1) :: rest, lm =>
    let l0 := fxLnOf m0
    let l1 := fxLnOf m1
    if lm < l0 then none
    else if lm < l1 then
      let a := fxLnOf t0
      let b := fxLnOf t1
      some (fxExp (a + (b - a) * (lm - l0) / (l1 - l0)))
    else userTime ((m1, t1) :: rest) lm

/-- t(M) at TMS = 1, scaled by 2^160, at M = num/den; none where it is infinite (R145, R147). -/
def curveTime (curve : Nat) (user : List Byte) (num den : Nat) : Option Int :=
  let lm := fxLn num den
  if curve = 8 then userTime (curvePoints user) lm
  else
    let c := curveConsts curve
    let pw := fxExp (lm * c.2.2.1 / 10000) - 2 ^ fxBits
    if pw ≤ 0 then none
    else some ((c.1 : Int) * 2 ^ (2 * fxBits) / pw / 10000 + (c.2.1 : Int) * 2 ^ fxBits / 10000)

/-- The increment table of R147 for a tick rate, curve, TMS and user curve (log entry 11). -/
def incTableOf (hz curve tms : Nat) (user : List Byte) : List Nat :=
  (List.range 641).map (fun i =>
    match curveTime curve user (2 ^ (i / 128) * (128 + i % 128)) 128 with
    | none => 0
    | some t =>
      let d := (hz : Int) * fxOf tms * t
      if d ≤ 0 then 0 else min ((2 * (2 ^ 32 * 2 ^ (2 * fxBits)) + d) / (2 * d)).toNat (2 ^ 32 - 1))

/-- The decrement table of R148, entries 0 to 256. -/
def decTableOf (hz curve td set4 : Nat) : List Nat :=
  let tr : Int := if curve = 8 then fxOf set4 else (curveConsts curve).2.2.2 * 2 ^ fxBits / 10000
  (List.range 257).map (fun j =>
    let d := (hz : Int) * fxOf td * tr * 65536
    if d ≤ 0 then 0 else min ((2 * (2 ^ 32 * (65536 - (j * j : Nat)) * 2 ^ (2 * fxBits)) + d) / (2 * d)).toNat (2 ^ 32 - 1))

/-- The two tables of a TIMER slot formed at commit (R130, R147, R148). -/
def Mod.slotTables (m : Mod) (e : Nat) : List Nat × List Nat :=
  let mode := m.slotMode e
  let curve := modeCurve mode
  if m.slotType e ≠ 8 ∨ curve = 0 ∨ 8 < curve then ([], [])
  else
    let user := m.oct 0x481015 e
    (incTableOf m.hz curve (m.sett e 2) user, if modeReset mode = 2 then decTableOf m.hz curve (m.sett e 2) (m.sett e 4) else [])

/-- A TIMER slot's timing state after a tick and whether its timer is complete (R146-R148). -/
def timerStep (m : Mod) (e : Nat) (gate running : Bool) (st : SlotSt) : SlotSt × Bool :=
  let mode := m.slotMode e
  let curve := modeCurve mode
  let minTicks := ticksOf m.hz (m.sett e 3)
  let mm := if m.src e 0 = 0 then 0 else m.timerM e
  if running then
    let n := st.nRun + 1
    let acc := if curve = 0 then st.acc else min (st.acc + timerInc st.incTable (m.sett e 5) mm) (2 ^ 32)
    let st := { st with nRun := n, acc := acc, offRun := 0, running := true }
    (st, decide (minTicks + 1 ≤ n) && (curve == 0 || decide (2 ^ 32 ≤ acc)))
  else
    let st := { st with running := false }
    match modeReset mode with
    | 1 =>
      let off := st.offRun + 1
      if ticksOf m.hz (m.sett e 4) < off then ({ st with acc := 0, nRun := 0, offRun := off }, false)
      else ({ st with offRun := off }, false)
    | 2 =>
      let acc := st.acc - timerDec st.decTable (if gate then mm else 0)
      ({ st with acc := acc, nRun := if acc = 0 then 0 else st.nRun }, false)
    | _ => ({ st with acc := 0, nRun := 0, offRun := 0 }, false)

/-- The gate of a TIMER slot: `start` is the module at the start of phase E, `m` after stage 1 (R131, R145). -/
def timerGate (start m : Mod) (w : Nat) : Bool :=
  if w = 0 then true
  else
    let a := w % 2 ^ 20
    if a < 0x10000 ∧ start.slotType (a / 16) ≠ 8 then m.bitAt a else start.bitAt a

/-! ## Evaluation (R129) -/

/-- A slot reset: every P_x, up, OP, dn and all timer state 0; its RATE history and tables stay (R129, R136). -/
def resetSlot (st : SlotSt) : SlotSt :=
  { hist := st.hist, incTable := st.incTable, decTable := st.decTable, tick := st.tick, puTick := st.puTick, opTick := st.opTick }

/-- The OP decision of R129 from op_raw and the drop delay. -/
def opDecision (opRaw : Bool) (dropDelay : Nat) (st : SlotSt) : Bool × Nat :=
  if opRaw then (true, 0) else if st.op && decide (st.dn < dropDelay) then (true, st.dn + 1) else (false, 0)

/-- The output byte of R127. -/
def outByte (val blk dir pc pb pa op pu : Bool) : Nat :=
  128 * b2n val + 64 * b2n blk + 32 * b2n dir + 16 * b2n pc + 8 * b2n pb + 4 * b2n pa + 2 * b2n op + b2n pu

/-- The decision of a slot that is not a TIMER. -/
def Mod.decision (m : Mod) (e : Nat) (picked : List Bool) : Decision :=
  match m.slotType e with
  | 1 => decideMag m e picked
  | 2 => decideAngle m e picked
  | 3 => decideBias m e picked
  | 4 => decideMho m e picked
  | 5 => decideQuad m e picked
  | 6 => decidePower m e picked
  | 7 => decideRate m e picked
  | _ => {}

/-- A slot's state and record after an evaluation that ran its equations. -/
def slotDecide (start m : Mod) (e : Nat) (st : SlotSt) : SlotSt :=
  let mode := m.slotMode e
  let ph := modePhases mode
  let timer := m.slotType e == 8
  let picked := if ph = 0 then [st.p0] else [st.pa, st.pb, st.pc]
  let gate := timer && timerGate start m (m.src e 1)
  let running := gate && m.timerHigh e st.running
  let t := if timer then timerStep m e gate running st else (st, false)
  let dec : Decision := if timer then { conds := [running], value := Config.timerValue e (if m.src e 0 = 0 then 0 else m.timerM e) % 2 ^ 32 } else m.decision e picked
  let st := t.1
  let pu := if bit mode 5 && ph != 0 then dec.conds.all id else dec.conds.any id
  let up := if pu then st.up + 1 else 0
  let opRaw := if timer then t.2 else pu && decide (m.num 0x481010 e < up)
  let o := opDecision opRaw (m.num 0x481011 e) st
  let c (i : Nat) : Bool := ph != 0 && dec.conds.getD i false
  { st with
    p0 := ph == 0 && dec.conds.getD 0 false
    pa := c 0
    pb := c 1
    pc := c 2
    up := up
    op := o.1
    dn := o.2
    opRaw := opRaw
    out := outByte true false dec.dir (c 2) (c 1) (c 0) o.1 pu
    value := dec.value
    value2 := dec.value2 }

/-- SLOT_EVALUATE: the state of slot e after the tick's evaluation (R129); `start` is the module at the start of phase E. -/
def slotNext (start m : Mod) (e : Nat) : SlotSt :=
  let st := m.slot e
  let mode := m.slotMode e
  let val := m.slotValid e
  let st := { st with tick := m.srcTick (m.src e 0) }
  if start.srcBit (m.num 0x481006 e) then { resetSlot st with out := 64 + 128 * b2n val }
  else if !val then
    if bit mode 14 then { st with out := st.out - (if bit st.out 7 then 128 else 0), value := 0, value2 := 0 } else resetSlot st
  else slotDecide start m e st

/-- The first source word of slot e that fails R126, for event 0x0741: SRC_B names the group whose sequence record supplies X0, SRC_A the source
that has to have been valid W ticks ago. -/
def Mod.firstFailing (m : Mod) (e : Nat) : Nat :=
  match [m.src e 0, m.src e 1, m.src e 2].find? (fun w => !m.srcOk w) with
  | some w => w
  | none => if m.slotType e = 4 ∨ m.slotType e = 5 then m.src e 1 else m.src e 0

/-- TIMER_ACC of a slot's record (R150). -/
def Mod.timerAcc (m : Mod) (e : Nat) (st : SlotSt) : Nat :=
  if m.slotType e ≠ 8 then 0 else if modeCurve (m.slotMode e) = 0 then st.nRun % 2 ^ 32 else st.acc / 2

/-- A slot's new state written, with its objects, edges and events (R150, R151, R153). -/
def Mod.writeSlot (m : Mod) (e : Nat) (st : SlotSt) : Mod :=
  let old := m.slot e
  let puRise := bit st.out 0 && !bit old.out 0
  let opRise := bit st.out 1 && !bit old.out 1
  let st := { st with puTick := if puRise then m.k % 2 ^ 32 else st.puTick, opTick := if opRise then m.k % 2 ^ 32 else st.opTick }
  let valFell := bit old.out 7 && !bit st.out 7
  let failing := m.firstFailing e
  let m := m.setSlot e st
  let m := ((m.set 0x481020 st.out e).set 0x481021 st.value e).set 0x481022 (m.timerAcc e st) e
  let m := if opRise then (m.bump 0x481023 e).set 0x481024 m.k e else m
  let m := if opRise && bit (m.slotMode e) 15 then m.raise 0x0740 [e, m.k, st.out, st.value] else m
  if valFell then m.raise 0x0741 [e, m.k, failing] else m

/-- A RATE slot's magnitude of the tick put into its history (R144). -/
def rateHistory (m : Mod) (e : Nat) (st : SlotSt) : SlotSt :=
  let w := m.src e 0
  if m.slotType e = 7 ∧ 1 ≤ srcKind w ∧ srcKind w ≤ 5 then
    { st with hist := ({ q := m.srcMag w, valid := m.srcOk w } :: st.hist).take 48 }
  else st

/-- Whether slot e is not evaluated because its tenant is frozen with kind ALL (R225). -/
def Mod.slotHeld (m : Mod) (e : Nat) : Bool := m.num 0x481016 e != 0 && m.frozenAll (m.num 0x481016 e)

/-- Slot e evaluated in its stage. -/
def evalSlot (start m : Mod) (e : Nat) : Mod :=
  if m.slotHeld e then m else m.writeSlot e (rateHistory m e (slotNext start m e))

/-- The slots in use. -/
def Mod.slotsOn (m : Mod) : List Nat := m.instancesOn 0x481001

/-- Slot e starts from the reset state at the start of phase E, with its RATE history cleared; its record and outputs are those that the evaluation
writes next, and a slot that has gone out of use has none (R123, R134, R136; log entry 208). -/
def Mod.resetNow (m : Mod) (e : Nat) : Mod :=
  let st := m.slot e
  if m.slotType e = 0 then (((m.setSlot e {}).set 0x481020 0 e).set 0x481021 0 e).set 0x481022 0 e
  else m.setSlot e { resetSlot st with hist := [], out := st.out, value := st.value, value2 := st.value2 }

/-- The resets that wait for phase E. -/
def Mod.resetSlots (m : Mod) : Mod :=
  let l := m.element.resets
  ({ m with element := { m.element with resets := [] } }).each l (fun m e => m.resetNow e)

/-- ELEMENT_PHASE (R129, R131): the resets that wait, then stage 1 evaluates the slots that are not TIMERs and stage 2 the TIMERs; block bits are
those at the start of the phase. E_TIME takes a free measured time within the bound of R132 (log entry 34). -/
def elementPhase (m : Mod) : Mod :=
  if !m.inPhase .F then m
  else
    let m := { m with tick := { m.tick with phase := .E } }
    let on := m.slotsOn
    let s1 := m.resetSlots.each (on.filter (fun e => m.slotType e != 8)) (evalSlot m)
    let s2 := s1.each (on.filter (fun e => m.slotType e == 8)) (evalSlot m)
    let d := s2.draw 32
    d.2.raiseTo 0x480004 (d.1 % 6735)

/-- ELEMENT_PHASE. -/
def execElementPhase (s : State) : Host.Outcome State Fault Refusal := .next { s with mod := s.mod.awake elementPhase }

/-- Whether slot e is written in phase E now: in use, and not held with a frozen tenant (R150, R225). -/
def Mod.slotWritable (m : Mod) (e : Nat) : Bool := m.inPhase .E && m.slotType e != 0 && !m.slotHeld e

/-- OP_DELAY_EXPIRY (R129): a slot whose run of PU exceeds OP_DELAY has OP set; the decision ELEMENT_PHASE makes, for one slot (log entry 209). -/
def opDelayExpiry (e : Nat) (m : Mod) : Mod :=
  let st := m.slot e
  if m.slotWritable e ∧ m.slotType e ≠ 8 ∧ bit st.out 0 ∧ m.num 0x481010 e < st.up ∧ ¬ bit st.out 1 then
    m.writeSlot e { st with op := true, dn := 0, opRaw := true, out := st.out + 2 }
  else m

/-- OP_DELAY_EXPIRY. -/
def execOpDelayExpiry (e : Nat) (s : State) : Host.Outcome State Fault Refusal := .next { s with mod := s.mod.awake (opDelayExpiry e) }

/-- DROP_DELAY_EXPIRY (R129): a slot with op_raw 0 whose OP has stood for more than DROP_DELAY ticks has OP clear (log entry 209). -/
def dropDelayExpiry (e : Nat) (m : Mod) : Mod :=
  let st := m.slot e
  if m.slotWritable e ∧ bit st.out 1 ∧ ¬ st.opRaw ∧ m.num 0x481011 e < st.dn then
    m.writeSlot e { st with op := false, dn := 0, out := st.out - 2 }
  else m

/-- DROP_DELAY_EXPIRY. -/
def execDropDelayExpiry (e : Nat) (s : State) : Host.Outcome State Fault Refusal := .next { s with mod := s.mod.awake (dropDelayExpiry e) }

/-- TIMER_OPERATE (R146, R147): a running TIMER slot at its operate point has OP set (log entry 209). -/
def timerOperate (e : Nat) (m : Mod) : Mod :=
  let st := m.slot e
  if m.slotWritable e ∧ m.slotType e = 8 ∧ st.running ∧ bit st.out 0 ∧ ¬ bit st.out 1 ∧ ticksOf m.hz (m.sett e 3) + 1 ≤ st.nRun ∧
      (modeCurve (m.slotMode e) = 0 ∨ 2 ^ 32 ≤ st.acc) then
    m.writeSlot e { st with op := true, dn := 0, opRaw := true, out := st.out + 2 }
  else m

/-- TIMER_OPERATE. -/
def execTimerOperate (e : Nat) (s : State) : Host.Outcome State Fault Refusal := .next { s with mod := s.mod.awake (timerOperate e) }

/-- TIMER_DEFINITE_RESET_EXPIRY (R148): under definite reset, accumulator and count clear after round(SET4 R) ticks not running
(log entry 209). -/
def timerDefiniteReset (e : Nat) (m : Mod) : Mod :=
  let st := m.slot e
  if m.slotWritable e ∧ m.slotType e = 8 ∧ modeReset (m.slotMode e) = 1 ∧ ¬ st.running ∧ ticksOf m.hz (m.sett e 4) < st.offRun then
    let st := { st with acc := 0, nRun := 0 }
    (m.setSlot e st).set 0x481022 0 e
  else m

/-- TIMER_DEFINITE_RESET_EXPIRY. -/
def execTimerDefiniteResetExpiry (e : Nat) (s : State) : Host.Outcome State Fault Refusal :=
  .next { s with mod := s.mod.awake (timerDefiniteReset e) }

/-! ## The checks of a commit (R125, R137, R152, R573) -/

/-- Whether a source kind is one of a list. -/
def kindIn (w : Nat) (l : List Nat) : Bool := l.contains (srcKind w)

/-- Cause 1: a source of a kind that the type does not accept (R125); MHO and QUAD take SRC_C of KIND 2 with PHASES 2 too (log entry 210). -/
def Mod.badKinds (m : Mod) (e : Nat) : Bool :=
  let a := m.src e 0
  let b := m.src e 1
  let c := m.src e 2
  let sameForm := (srcKind a == 10) == (srcKind b == 10)
  match m.slotType e with
  | 1 => !kindIn a [1, 2, 3, 4, 5, 6, 9, 10]
  | 2 => !kindIn a [2, 3, 4, 5, 9] || !kindIn b [2, 3, 4, 5, 9]
  | 3 => !kindIn a [2, 3, 4, 5, 9] || !kindIn b [2, 3, 4, 5, 9] || !kindIn c [0, 2, 3, 4, 5, 9]
  | 4 => !kindIn a [2, 9, 10] || !kindIn b [2, 9, 10] || !kindIn c [0, 2] || !sameForm
  | 5 => !kindIn a [2, 9, 10] || !kindIn b [2, 9, 10] || !kindIn c [0, 2] || !sameForm
  | 6 => !kindIn a [2, 9, 10] || !kindIn b [2, 9, 10] || !sameForm
  | 7 => !kindIn a [1, 2, 3, 4, 5, 7, 8]
  | 8 => !kindIn a [0, 1, 2, 3, 4, 5, 6, 9] || !kindIn b [0, 11] ||
      (decide (1 ≤ modeCurve (m.slotMode e) ∧ modeCurve (m.slotMode e) ≤ 8) && srcKind a == 0)
  | _ => false

/-- Cause 8: a KIND 11 address, or a BLOCK_SRC address in use, above 0x9FFFF. -/
def Mod.badAddress (m : Mod) (e : Nat) : Bool :=
  let past (w : Nat) : Bool := decide (0x9FFFF < w % 2 ^ 20)
  [m.src e 0, m.src e 1, m.src e 2].any (fun w => srcKind w == 11 && past w) ||
  (bit (m.num 0x481006 e) 31 && past (m.num 0x481006 e))

/-- Cause 3: PHASES not accepted for the type or the source (R125). -/
def Mod.badPhases (m : Mod) (e : Nat) : Bool :=
  let ph := modePhases (m.slotMode e)
  let ten := srcKind (m.src e 0) == 10
  match m.slotType e with
  | 1 => if ten then !(ph == 1 || ph == 2) else ph != 0
  | 4 => if ten then !(ph == 1 || ph == 2) else ph != 0
  | 5 => if ten then !(ph == 1 || ph == 2) else ph != 0
  | 6 => if ten then ph != 1 else ph != 0
  | _ => ph != 0

/-- Cause 2: a source channel not phasor-enabled, or a source group not enabled (R125). -/
def Mod.badSources (m : Mod) (e : Nat) : Bool :=
  [m.src e 0, m.src e 1, m.src e 2].any (fun w =>
    let a := srcA w
    match srcKind w with
    | 2 => !m.phasorEnabled a
    | 9 => !m.phasorEnabled a || !m.phasorEnabled (srcB w)
    | 10 => !m.threeOn a || (m.phases a).any (fun c => !m.phasorEnabled c)
    | 3 => !m.threeOn a
    | 4 => !m.threeOn a
    | 5 => !m.threeOn a
    | 6 => decide (255 < a) || !m.on 0x452001 a
    | 7 => decide (255 < a) || !m.on 0x452001 a
    | 8 => decide (255 < a) || !m.on 0x452001 a
    | _ => false)

/-- lo ≤ x ≤ hi as binary32 values. -/
def fIn (x lo hi : Nat) : Bool := fle lo x && fle x hi
/-- 0 < x. -/
def fPos (x : Nat) : Bool := flt 0 x && b32.isFin x
/-- 0 ≤ x. -/
def fNonNeg (x : Nat) : Bool := fle 0 x && b32.isFin x
/-- A setting that must be 0.0. -/
def fUnused (x : Nat) : Bool := b32.isZero x

/-- Whether the settings SET1 to SET8 of slot e lie in the ranges of R137 to R148 and R573. -/
def Mod.settingsOk (m : Mod) (e : Nat) : Bool :=
  let s (j : Nat) : Nat := m.sett e j
  let mode := m.slotMode e
  let sense := modeSense mode
  let unused (l : List Nat) : Bool := l.all (fun j => fUnused (s j))
  let k0 : Bool := if modePhases mode = 2 then unused [6, 7] else true
  match m.slotType e with
  | 1 => decide (sense ≤ 1) && fPos (s 1) && (if sense = 1 then fNonNeg (s 2) && flt (s 2) (s 1) else fUnused (s 2)) && unused [3, 4, 5, 6, 7, 8]
  | 2 => decide (sense ≤ 1) && fIn (s 1) 0xC3340000 0x43340000 && fIn (s 2) 0 0x43340000 && fNonNeg (s 3) && fNonNeg (s 4) &&
      fIn (s 5) 0 0x41200000 && unused [6, 7, 8]
  | 3 => sense == 0 && fNonNeg (s 1) && fPos (s 2) && fle (s 2) (s 4) && fle (s 4) fTwo && fPos (s 3) && unused [5, 6, 7, 8]
  | 4 => sense == 0 && fPos (s 1) && fNonNeg (s 3) && fIn (s 2) 0 0x42B40000 && k0 && fNonNeg (s 8) && unused [4, 5]
  | 5 => sense == 0 && fPos (s 1) && fPos (s 2) && fNonNeg (s 3) && fNonNeg (s 4) && fIn (s 5) 0x42340000 0x42B40000 && k0 && fNonNeg (s 8)
  | 6 => fPos (s 1) && fNonNeg (s 2) && fNonNeg (s 3) && unused [4, 5, 6, 7, 8]
  | 7 => decide (sense ≤ 2) && fPos (s 1) &&
      (if srcKind (m.src e 0) = 7 ∨ srcKind (m.src e 0) = 8 then fUnused (s 2)
       else fIn (s 2) fOne 0x42400000 && b32.eq (fofInt (b32.floor (s 2))) (s 2)) && unused [3, 4, 5, 6, 7, 8]
  | 8 =>
    let curve := modeCurve mode
    let rst := modeReset mode
    sense == 0 && (if m.src e 0 = 0 then fUnused (s 1) else fPos (s 1)) &&
    (if curve = 0 then fUnused (s 2) || fIn (s 2) 0x3C23D70A 0x42C80000 else fIn (s 2) 0x3C23D70A 0x42C80000) && fIn (s 3) 0 0x44160000 &&
    (if rst = 1 then fIn (s 4) 0 0x44160000 else if curve = 8 ∧ rst = 2 then fPos (s 4) && fle (s 4) 0x44160000 else fUnused (s 4)) &&
    (fUnused (s 5) || fIn (s 5) fOne 0x42000000) && (fUnused (s 6) || fIn (s 6) fOne fTwo) && unused [7, 8]
  | _ => true

/-- Cause 4: a setting out of range, an unused setting, source word or MODE field not zero, or TYPE above 8 (R125, R137, R152); a
source word with INDEX_B where its KIND has none, or KIND 11 with bits 27:20, counts as one (log entry 211). -/
def Mod.badSettings (m : Mod) (e : Nat) : Bool :=
  let ty := m.slotType e
  let mode := m.slotMode e
  let kindsZero (w : Nat) : Bool := if srcKind w = 11 then bitsOf w 27 20 != 0 else if srcKind w = 9 then false else srcB w != 0
  let unusedWord (i : Nat) : Bool := m.src e i != 0
  let three := ty == 3 || ty == 4 || ty == 5
  decide (8 < ty) || !m.settingsOk e || !fIn (m.num 0x48100F e) 0 fHalf ||
  (List.range 8).any (fun j => !b32.isFin (m.sett e (j + 1))) ||
  [m.src e 0, m.src e 1, m.src e 2].any kindsZero ||
  [m.src e 0, m.src e 1, m.src e 2].any (fun w => srcKind w == 0 && w != 0) ||
  (!three && unusedWord 2) || ((ty == 1 || ty == 7) && unusedWord 1) ||
  (ty != 8 && (modeCurve mode != 0 || modeReset mode != 0)) || bit mode 4 || bitsOf mode 13 12 != 0

/-- Cause 6: a reset mode not accepted for the curve, or CURVE 9 to 15 (R145, R148). -/
def Mod.badReset (m : Mod) (e : Nat) : Bool :=
  let mode := m.slotMode e
  m.slotType e == 8 && (decide (8 < modeCurve mode) || modeReset mode == 3 || (modeReset mode == 2 && decide (modeCurve mode ≤ 4)))

/-- Whether a user curve rises strictly in M within 1.0 to 32.0 with every t positive (R147). -/
def curveOk (b : List Byte) : Bool :=
  let pts := curvePoints b
  b.length == 256 && pts.all (fun p => fIn p.1 fOne 0x42000000 && fPos p.2) &&
  (List.range 31).all (fun j => flt (pts.getD j (0, 0)).1 (pts.getD (j + 1) (0, 0)).1)

/-- Cause 5: an invalid user curve. -/
def Mod.badCurve (m : Mod) (e : Nat) : Bool :=
  m.slotType e == 8 && modeCurve (m.slotMode e) == 8 && !curveOk (m.oct 0x481015 e)

/-- Cause 9: OP_DELAY on a TIMER slot. -/
def Mod.badOpDelay (m : Mod) (e : Nat) : Bool := m.slotType e == 8 && m.num 0x481010 e != 0

/-- The cause for which slot e's settings are refused, 0 for none, the first in the order of R152; `foreign` is cause 7. -/
def Mod.slotCause (m : Mod) (e : Nat) (foreign : Bool) : Nat :=
  if foreign then 7
  else if m.slotType e = 0 then 0
  else if 8 < m.slotType e then 4
  else if m.badKinds e then 1 else if m.badAddress e then 8 else if m.badPhases e then 3 else if m.badSources e then 2
  else if m.badSettings e then 4 else if m.badReset e then 6 else if m.badCurve e then 5 else if m.badOpDelay e then 9 else 0

/-- A change of settings forms slot e's tables anew (R130, R134). -/
def Mod.retableSlot (m : Mod) (e : Nat) : Mod :=
  let t := m.slotTables e
  m.setSlot e { m.slot e with incTable := t.1, decTable := t.2 }

/-- SLOT_COMMIT_RESET: slot e's tables are formed anew and it starts from the reset state at the start of the next phase E (R134, R136). -/
def Mod.restartSlot (m : Mod) (e : Nat) : Mod :=
  let m := m.retableSlot e
  { m with element := { m.element with resets := (m.element.resets ++ [e]).eraseDups } }

end Sys2Proof.Machine
end

