-- ==== Sys2Proof/Machine/Hart.lean ====
section
/-!
DEFINITION. One hart: its context and control registers, traps and returns, its store buffer and its caches (R187, R188, R194, R196-R198, R203, R206).
Trap entry, returns and physical memory protection are those of the privileged architecture that R188 names (log entry 213).
-/
namespace Sys2Proof.Machine

/-- Hart j. -/
def Mod.hart (m : Mod) (j : Nat) : HartSt := Table.get m.ten.harts {} j
/-- Hart j replaced. -/
def Mod.setHart (m : Mod) (j : Nat) (h : HartSt) : Mod := { m with ten := { m.ten with harts := Table.set m.ten.harts {} j h } }

/-! ## Context and control registers -/

/-- The eight octets at an offset of the context: pc at 0, the VS registers from 0x228 on (R203). -/
def HartSt.reg (h : HartSt) (o : Nat) : Nat := field h.ctx o 8
/-- Those octets replaced. -/
def HartSt.setReg (h : HartSt) (o v : Nat) : HartSt :=
  let c := slice h.ctx 0 2048
  { h with ctx := c.take o ++ toLE 8 v ++ c.drop (o + 8) }
/-- A control and status register by its number, outside the context. -/
def HartSt.csrAt (h : HartSt) (n : Nat) : Nat := Table.get h.csr 0 n
/-- That register replaced. -/
def HartSt.setCsr (h : HartSt) (n v : Nat) : HartSt := { h with csr := Table.set h.csr 0 n (v % 2 ^ 64) }

/-- The time CSR: 96 MHz of the time base since reset, `now` being the oscillator's slewed count in ns, which no step and no initial set moves (R190). -/
def timeCsr (now : Nat) : Nat := now * 96 / 1000

/-- What a control and status register of hart j outside the context reads: all harts read the same time (R190). -/
def Mod.readCsr (m : Mod) (j n now : Nat) : Nat := if n = 0xC01 then timeCsr now % 2 ^ 64 else (m.hart j).csrAt n

/-- Whether a mode is a guest's. -/
def isGuest : HartMode → Bool
  | .vs | .vu => true
  | .m | .hs | .u => false

/-- A mode as the status registers record it: 3 machine, 1 supervisor, 0 user. -/
def privOf : HartMode → Nat
  | .m => 3
  | .hs | .vs => 1
  | .u | .vu => 0

/-- The mode that a recorded privilege and a recorded virtualisation mode name. -/
def modeOf (virt : Bool) (pp : Nat) : HartMode :=
  if virt then (if pp = 0 then .vu else .vs) else if pp = 3 then .m else if pp = 1 then .hs else .u

/-- A field of bits `hi` to `lo` replaced. -/
def putBits (v hi lo x : Nat) : Nat := v - bitsOf v hi lo * 2 ^ lo + x % 2 ^ (hi + 1 - lo) * 2 ^ lo

/-- The VMID of an hgatp. -/
def vmidOf (h : Nat) : Nat := bitsOf h 57 44

/-! ## Traps (R188, R194, R206) -/

/-- A supervisor status register at a trap: SPIE takes SIE, SIE is cleared, SPP records the privilege. -/
def sstatusIn (s : Nat) (mode : HartMode) : Nat := setBit (setBit (setBit s 5 (bit s 1)) 1 false) 8 (privOf mode != 0)
/-- And at a return: SIE takes SPIE, SPIE is set, SPP is cleared. -/
def sstatusOut (s : Nat) : Nat := setBit (setBit (setBit s 1 (bit s 5)) 5 true) 8 false
/-- mstatus at a trap to M: MPIE takes MIE, MIE is cleared, MPP and MPV record the mode, GVA whether the value is a guest's address. -/
def mstatusIn (s : Nat) (mode : HartMode) (gva : Bool) : Nat :=
  setBit (setBit (putBits (setBit (setBit s 7 (bit s 3)) 3 false) 12 11 (privOf mode)) 39 (isGuest mode)) 38 gva
/-- And at MRET: MIE takes MPIE, MPIE is set, MPP, MPV and, in a return below M, MPRV are cleared. -/
def mstatusOut (s : Nat) (mode : HartMode) : Nat :=
  let s := setBit (putBits (setBit (setBit s 3 (bit s 7)) 7 true) 12 11 0) 39 false
  if mode = .m then s else setBit s 17 false
/-- hstatus at a trap to HS: SPV and GVA, and from a guest SPVP. -/
def hstatusIn (s : Nat) (mode : HartMode) (gva : Bool) : Nat :=
  let s := setBit (setBit s 7 (isGuest mode)) 6 gva
  if isGuest mode then setBit s 8 (mode == .vs) else s

/-- Where a trap vector sends a cause: to its base, an interrupt of a vectored one 4 octets on per number. -/
def vectorAt (tvec cause : Nat) : Nat := tvec / 4 * 4 + if tvec % 4 = 1 ∧ 2 ^ 63 ≤ cause then 4 * (cause - 2 ^ 63) else 0

/-- Whether an exception carries an address of the access. -/
def addressCause (cause : Nat) : Bool := [0, 1, 4, 5, 6, 7].contains cause

/-- The mode that takes an exception: HS where it must, M from M and what medeleg does not delegate, VS what hedeleg delegates from a guest. -/
def HartSt.trapMode (h : HartSt) (cause : Nat) (toHS : Bool) : HartMode :=
  if toHS then .hs
  else if h.mode = .m ∨ !bit (h.csrAt 0x302) cause then .m
  else if isGuest h.mode && bit (h.csrAt 0x602) cause then .vs
  else .hs

/-- The hart in the handler of a trap: the pc, the cause and the value saved, the status and the mode changed, the pc at the vector. -/
def HartSt.enter (h : HartSt) (target : HartMode) (cause value : Nat) : HartSt :=
  let gva := isGuest h.mode && addressCause cause
  match target with
  | .vs =>
    { (((((h.setReg 0x228 (sstatusIn (h.reg 0x228) h.mode)).setReg 0x248 (h.reg 0)).setReg 0x250 cause).setReg 0x258 value).setReg 0
        (vectorAt (h.reg 0x238) cause)) with mode := .vs }
  | .m =>
    let g := (((h.setCsr 0x300 (mstatusIn (h.csrAt 0x300) h.mode gva)).setCsr 0x341 (h.reg 0)).setCsr 0x342 cause).setCsr 0x343 value
    { (((g.setCsr 0x34B 0).setCsr 0x34A 0).setReg 0 (vectorAt (h.csrAt 0x305) cause)) with mode := .m }
  | .hs | .u | .vu =>
    let g := ((h.setCsr 0x300 (sstatusIn (h.csrAt 0x300) h.mode)).setCsr 0x600 (hstatusIn (h.csrAt 0x600) h.mode gva)).setCsr 0x141 (h.reg 0)
    { (((((g.setCsr 0x142 cause).setCsr 0x143 value).setCsr 0x643 0).setCsr 0x64A 0).setReg 0 (vectorAt (h.csrAt 0x105) cause)) with mode := .hs }

/-- A hart takes an exception (R188); `toHS` is one that goes to HS mode whatever is delegated (R194). -/
def Mod.trap (m : Mod) (j cause value : Nat) (toHS : Bool) : Mod :=
  m.setHart j { (m.hart j).enter ((m.hart j).trapMode cause toHS) cause value with stalled := none }

/-- Local interrupt 20 taken at HS level (R206). -/
def HartSt.takeIrq20 (h : HartSt) : HartSt := { h.enter .hs (2 ^ 63 + 20) 0 with irq20 := false, stalled := none }

/-- The instruction words of SRET and MRET. -/
def wordSret : Nat := 0x10200073
/-- MRET. -/
def wordMret : Nat := 0x30200073

/-- The mode an SRET or MRET returns to; none where the mode may not execute it, or TSR or VTSR traps it. -/
def HartSt.returnMode (h : HartSt) (word : Nat) : Option HartMode :=
  if word = wordMret then (if h.mode = .m then some (modeOf (bit (h.csrAt 0x300) 39) (bitsOf (h.csrAt 0x300) 12 11)) else none)
  else match h.mode with
    | .m => some (modeOf (bit (h.csrAt 0x600) 7) (b2n (bit (h.csrAt 0x300) 8)))
    | .hs => if bit (h.csrAt 0x300) 22 then none else some (modeOf (bit (h.csrAt 0x600) 7) (b2n (bit (h.csrAt 0x300) 8)))
    | .vs => if bit (h.csrAt 0x600) 22 then none else some (modeOf true (b2n (bit (h.reg 0x228) 8)))
    | .u | .vu => none

/-- The hart after a return to a mode: the status restored, the pc from the saved one. -/
def HartSt.return (h : HartSt) (word : Nat) (mode : HartMode) : HartSt :=
  if word = wordMret then { ((h.setCsr 0x300 (mstatusOut (h.csrAt 0x300) mode)).setReg 0 (h.csrAt 0x341)) with mode := mode }
  else if h.mode = .vs then { ((h.setReg 0x228 (sstatusOut (h.reg 0x228))).setReg 0 (h.reg 0x248)) with mode := mode }
  else
    let s := setBit (sstatusOut (h.csrAt 0x300)) 17 false
    { (((h.setCsr 0x300 s).setCsr 0x600 (setBit (h.csrAt 0x600) 7 false)).setReg 0 (h.csrAt 0x141)) with mode := mode }

/-! ## Physical memory protection (R188) -/

/-- The configuration octet of entry i. -/
def HartSt.pmpCfg (h : HartSt) (i : Nat) : Nat := h.csrAt (0x3A0 + i / 8 * 2) / 256 ^ (i % 8) % 256

/-- The trailing ones of a pmpaddr, which give a NAPOT range its size; `n` bounds them. -/
def trailingOnes : Nat → Nat → Nat
  | 0, _ => 0
  | n + 1, v => if v % 2 = 1 then trailingOnes n (v / 2) + 1 else 0

/-- The range of entry i, of 4 KiB granularity: none while it is off. -/
def HartSt.pmpRange (h : HartSt) (i : Nat) : Option (Nat × Nat) :=
  let addr := fun (i : Nat) => h.csrAt (0x3B0 + i)
  match bitsOf (h.pmpCfg i) 4 3 with
  | 1 => some (if i = 0 then 0 else addr (i - 1) / 1024 * 4096, addr i / 1024 * 4096)
  | 3 =>
    let v := addr i / 512 * 512 + 511
    let s := 2 ^ (trailingOnes 54 v + 3)
    some (v * 4 / s * s, v * 4 / s * s + s)
  | _ => none

/-- Whether the PMP entries admit an access with permission bit `perm` (0 read, 1 write, 2 execute) to a run of octets: the first entry that
meets it decides, in M mode only if locked; with none, a lower mode is admitted only while every entry is off (log entry 214). -/
def HartSt.pmpAdmits (h : HartSt) (perm a n : Nat) : Bool :=
  match (List.range 16).find? (fun i => match h.pmpRange i with
    | some (lo, hi) => decide (a < hi ∧ lo < a + n)
    | none => false) with
  | some i =>
    (h.mode == .m && !bit (h.pmpCfg i) 7) || (bit (h.pmpCfg i) perm && (match h.pmpRange i with
      | some (lo, hi) => decide (lo ≤ a ∧ a + n ≤ hi)
      | none => false))
  | none => h.mode == .m || (List.range 16).all (fun i => (h.pmpRange i).isNone)

/-! ## The store buffer (R198) -/

/-- The entries a store makes: each lies within one aligned 16-octet block. -/
def storeEntries (a : Nat) (bs : List Byte) : List (Nat × List Byte) :=
  if bs.length ≤ 16 then [(a, bs)] else (List.range (bs.length / 16)).map (fun i => (a + 16 * i, slice bs (16 * i) 16))

/-- Octets from address a with those of an entry laid over them. -/
def overlay (e : Nat × List Byte) (a : Nat) (bs : List Byte) : List Byte :=
  (indexed bs).map (fun x => if e.1 ≤ a + x.1 ∧ a + x.1 < e.1 + e.2.length then e.2.getD (a + x.1 - e.1) 0 else x.2)

/-- What the hart's own loads see of octets from address a: its buffered stores in program order laid over them. -/
def HartSt.forwarded (h : HartSt) (a : Nat) (bs : List Byte) : List Byte := h.stores.foldl (fun bs e => overlay e a bs) bs

/-- Reservations of other harts than `j` on a word that the octets written meet are lost (log entry 182). -/
def Mod.loseReservations (m : Mod) (j : Option Nat) (a n : Nat) : Mod :=
  let hit := m.ten.harts.filter (fun e => decide (some e.1 ≠ j) && (match e.2.reserved with
    | some r => decide (r < a + n ∧ a < r / 8 * 8 + 8)
    | none => false))
  m.each (hit.map Prod.fst) (fun m i => m.setHart i { m.hart i with reserved := none })

/-! ## Caches (R187) -/

/-- A line brought into a cache of `sets` sets and `ways` ways; where its set is full, the v-th line of the set leaves. -/
def Cache.put (sets ways line : Nat) (dirty : Bool) (v : Nat) (c : Cache) : Cache :=
  let mates := c.filter (fun e => e.1 % sets == line % sets)
  if c.any (fun e => e.1 == line) then c.map (fun e => if e.1 = line then (line, e.2 || dirty) else e)
  else if mates.length < ways then (line, dirty) :: c
  else (line, dirty) :: c.filter (fun e => e.1 != (mates.getD (v % ways) (0, false)).1)

/-- A cache without the lines of a list. -/
def Cache.drop (ls : List Nat) (c : Cache) : Cache := c.filter (fun e => !ls.contains e.1)
/-- A cache with the lines of a list written back. -/
def Cache.clean (ls : List Nat) (c : Cache) : Cache := c.map (fun e => if ls.contains e.1 then (e.1, false) else e)

/-- The 64-octet lines of a run of octets. -/
def linesOf (a n : Nat) : List Nat := (List.range ((a + n - 1) / 64 + 1 - a / 64)).map (· + a / 64)

/-- Every cache but those of hart `j` and its cluster after a store to the lines: no copy stays. Instruction caches lose their copies too. -/
def Mod.dropLines (m : Mod) (j : Option Nat) (ls : List Nat) : Mod :=
  let harts := m.ten.harts.map (fun e => (e.1, { e.2 with
    l1i := e.2.l1i.drop ls
    l1d := if some e.1 = j then e.2.l1d else e.2.l1d.drop ls }))
  { m with ten := { m.ten with
      harts := harts.filter (fun e => decide (e.2 ≠ {}))
      l2 := (m.ten.l2.map (fun e => (e.1, if j.map (· / 4) = some e.1 then e.2 else e.2.drop ls))).filter (fun e => !e.2.isEmpty) } }

/-- Every data cache but hart j's after its load of the lines: dirty copies have been written back. -/
def Mod.cleanLines (m : Mod) (j : Nat) (ls : List Nat) : Mod :=
  { m with ten := { m.ten with harts := m.ten.harts.map (fun e => (e.1, if e.1 = j then e.2 else { e.2 with l1d := e.2.l1d.clean ls })) } }

/-- The lines of an access by hart j to a cacheable region brought into its L1 cache and its cluster's L2 cache: `fetch` for the instruction
cache, `dirty` for a store. Which line leaves a full set is free (log entry 216). -/
def Mod.fillLines (m : Mod) (j a n : Nat) (fetch dirty : Bool) : Mod :=
  let ls := linesOf a n
  let m := if dirty then m.dropLines (some j) ls else m.cleanLines j ls
  let (v, m) := m.draw 5
  let h := m.hart j
  let m := m.setHart j (if fetch then { h with l1i := ls.foldl (fun c l => c.put 128 4 l false v) h.l1i }
    else { h with l1d := ls.foldl (fun c l => c.put 128 4 l dirty v) h.l1d })
  { m with ten := { m.ten with l2 := Table.set m.ten.l2 [] (j / 4) (ls.foldl (fun c l => c.put 1024 8 l false (v / 4)) (Table.get m.ten.l2 [] (j / 4))) } }

/-- The caches of hart j that ISOLATE cleans: L1 data written back and invalidated, L1 instruction invalidated (R202). -/
def Mod.isolate (m : Mod) (j : Nat) : Mod :=
  let h := m.hart j
  m.setHart j { h with l1d := [], l1i := [] }

/-- Octets that a master other than a hart has written: no cache keeps a copy of their lines, no hart a reservation on them (R187). -/
def Mod.masterWrote (m : Mod) (a n : Nat) : Mod := (m.dropLines none (linesOf a n)).loseReservations none a n

/-- An instruction fetched on the path that retires: what the predictors and the return-address stack hold after it is free (R196). -/
def Mod.retireFetch (m : Mod) (j : Nat) : Mod :=
  let (p, m) := m.draw 64
  let (r, m) := m.draw 64
  m.setHart j { m.hart j with predictor := p, returns := r }

/-- The predictors and the return-address stack of a hart cleared (R197). -/
def HartSt.unpredict (h : HartSt) : HartSt := { h with predictor := 0, returns := 0 }

end Sys2Proof.Machine
end

