-- ==== Sys2Proof/Machine/Last.lean ====
section
/-!
DEFINITION. The Last: its image, its check, the two banks and the commands that load, check and store them (R22-R42).
-/
namespace Sys2Proof.Machine

/-! ## The image (R22) -/

/-- RATE of an image. -/
def lastRate (img : List Byte) : Nat := field img 6 1
/-- IMAGE_LEN of an image. -/
def lastLen (img : List Byte) : Nat := field img 8 4
/-- N_PUB of an image. -/
def lastNPub (img : List Byte) : Nat := field img 0x0C 2
/-- The seven boundaries: the starts of F, E, L1, T, L2, V and P. -/
def lastBounds (img : List Byte) : List Nat := (List.range 7).map (fun i => field img (0x40 + 4 * i) 4)
/-- The nine values of R24: 0, the boundaries and the tick period. The period is that of the image's own RATE, also where it differs from TICK_RATE, and
so are the limits of PUB_LATE and R40 (log entry 194). -/
def lastSeq (img : List Byte) : List Nat := [0] ++ lastBounds img ++ [unitsOf (lastRate img)]
/-- The start of a phase, in schedule units. -/
def lastStart (img : List Byte) (ph : Nat) : Nat := (lastSeq img).getD ph 0
/-- The budget of engine g in pass L1 (0) or L2 (1). -/
def lastBudget (img : List Byte) (g pass : Nat) : Nat := field img (0x60 + 8 * g + 4 * pass) 4
/-- Publish entry i. -/
def lastPub (img : List Byte) (i : Nat) : Nat := field img (0x10E0 + 4 * i) 4
/-- The publish order. -/
def lastPubs (img : List Byte) : List Nat := (List.range (lastNPub img)).map (lastPub img)

/-- A window entry of R26. -/
structure LastWin where
  w : Nat := 0
  en : Bool := false
  div : Nat := 0
  offset : Nat := 0
  tenant : Nat := 0
  core : Nat := 0
  start : Nat := 0
  stop : Nat := 0
  w0 : Nat := 0
  w3 : Nat := 0
deriving DecidableEq, Repr

/-- Window entry w. -/
def lastWin (img : List Byte) (w : Nat) : LastWin :=
  let b := slice img (0xE0 + 16 * w) 16
  let w0 := field b 0 4
  { w := w, en := bit w0 31, div := bitsOf w0 30 28, offset := bitsOf w0 27 21, tenant := bitsOf w0 20 14, core := bitsOf w0 5 0,
    start := field b 4 4, stop := field b 8 4, w0 := w0, w3 := field b 12 4 }

/-- The 256 window entries. -/
def lastWins (img : List Byte) : List LastWin := (List.range 256).map (lastWin img)

/-- KIND, TENANT and OBJECT of a publish entry (R29). -/
def pubKind (e : Nat) : Nat := bitsOf e 31 28
/-- TENANT of a publish entry. -/
def pubTenant (e : Nat) : Nat := bitsOf e 27 21
/-- OBJECT of a publish entry. -/
def pubObject (e : Nat) : Nat := bitsOf e 15 0

/-! ## The check (R33) -/

/-- Whether a list rises strictly. -/
def risesStrictly : List Nat → Bool
  | a :: b :: t => a < b && risesStrictly (b :: t)
  | _ => true

/-- The widths of the eight phases, as the differences of R24's sequence. -/
def lastWidths (img : List Byte) : List Int :=
  let s := lastSeq img
  (List.range 8).map (fun i => (s.getD (i + 1) 0 : Int) - s.getD i 0)

/-- The minimum widths of phases I to P, in schedule units (R24). -/
def lastMinWidths : List Nat := [5760, 9600, 5760, 1920, 19200, 1920, 4800, 3840]

/-- The largest budget for a pass of width W: floor(W * 125 / 48) - 64 (R25). -/
def lastBudgetLimit (w : Int) : Int := w * 125 / 48 - 64

/-- Whether a window in use keeps R26 and R27 on its own, and one not in use is zero in every bit. -/
def lastWinOk (tStart tEnd : Nat) (w : LastWin) : Bool :=
  if w.en then
    decide (w.offset < 2 ^ w.div ∧ 1 ≤ w.tenant ∧ w.tenant ≤ 64 ∧ bitsOf w.w0 13 6 = 0 ∧ w.w3 = 0 ∧
      tStart ≤ w.start ∧ w.stop ≤ tEnd ∧ w.start + 960 ≤ w.stop)
  else decide (w.w0 = 0 ∧ w.start = 0 ∧ w.stop = 0 ∧ w.w3 = 0)

/-- Whether two windows can run in the same tick on one core and lie closer than 240 schedule units (R27). -/
def lastWinClash (a b : LastWin) : Bool :=
  let md := 2 ^ min a.div b.div
  a.en && b.en && decide (a.w ≠ b.w ∧ a.core = b.core ∧ a.offset % md = b.offset % md ∧ a.start < b.stop + 240 ∧ b.start < a.stop + 240)

/-- Whether a publish entry has a KIND, TENANT and OBJECT that R29 allows. -/
def pubEntryOk (e : Nat) : Bool :=
  let t := pubTenant e
  let o := pubObject e
  bitsOf e 20 16 == 0 &&
  (match pubKind e with
   | 1 => decide (t ≤ 64 ∧ if t = 0 then o < 256 else o < 32)
   | 2 => decide (t = 0 ∧ o < 256)
   | 3 => decide (t = 0 ∧ o / 256 < 8 ∧ o % 256 < 32)
   | _ => false)

/-- Whether a list holds an entry twice. -/
def hasTwice : List Nat → Bool
  | [] => false
  | a :: t => t.contains a || hasTwice t

/-- MAGIC and FORMAT are right. -/
def lastMagicOk (img : List Byte) : Bool := slice img 0 4 == [0x4C, 0x41, 0x53, 0x54] && field img 4 2 == 1

/-- IMAGE_LEN agrees with N_PUB and the octets written and is at most 12,516. -/
def lastLengthOk (img : List Byte) : Bool :=
  lastLen img == 0x10E0 + 4 * lastNPub img + 4 && lastLen img == img.length && decide (lastLen img ≤ 12516)

/-- The CRC of R23 over every octet but the last four; 0 for an empty image (R42). -/
def lastCrc (img : List Byte) : Nat := if img.isEmpty then 0 else crc32 (img.take (img.length - 4))

/-- Bits 10:0 of the check of R33 and WIN_INDEX, RATE judged against `rate`; UNBOUND is added where R40 is evaluated. -/
def lastCheck (img : List Byte) (rate : Nat) : Nat :=
  if !lastMagicOk img || !lastLengthOk img then b2n (!lastMagicOk img) + 4 * b2n (!lastLengthOk img)
  else
    let widths := lastWidths img
    let wins := lastWins img
    let badRange := wins.filter (fun w => !lastWinOk (lastStart img 4) (lastStart img 5) w)
    let badClash := wins.filter (fun w => w.en && wins.any (lastWinClash w))
    let pubs := lastPubs img
    let budgets := (List.range 16).any (fun g => [0, 1].any (fun p =>
      let b := lastBudget img g p
      decide (b ≠ 0 ∧ lastBudgetLimit (widths.getD (if p = 0 then 3 else 5) 0) < (b : Int))))
    let winIndex := match wins.find? (fun w => badRange.contains w || badClash.contains w) with
      | some w => w.w
      | none => 0
    let bits :=
      2 * b2n (lastRate img != rate) +
      8 * b2n (lastCrc img != field img (img.length - 4) 4) +
      16 * b2n (!risesStrictly (lastSeq img)) +
      32 * b2n ((widths.zip lastMinWidths).any (fun e => decide (e.1 < (e.2 : Int)))) +
      64 * b2n (!badRange.isEmpty) +
      128 * b2n (!badClash.isEmpty) +
      256 * b2n budgets +
      512 * b2n (pubs.any (fun e => !pubEntryOk e) || hasTwice (pubs.map (fun e => e / 2 ^ 21 * 2 ^ 16 + e % 2 ^ 16))) +
      1024 * b2n (decide ((if lastRate img = 0 then 94080 else 112896) < lastStart img 7))
    bits + 65536 * winIndex

/-- PASS: bits 9:0 are all clear. -/
def lastPass (bits : Nat) : Bool := bits % 1024 == 0

/-! ## Bound-eligibility (R40) -/

/-- Whether an entry with `sum` octets of frames, preambles and gaps before it on a port of `r` Mb/s keeps the bound of R40;
in units of 1/2400 µs times r. -/
def boundEligible (rate bP r sum : Nat) : Bool :=
  decide (bP * 5 * r + 2880 * r + 19200 * sum ≤ (if rate = 0 then 480000 else 576000) * r)

/-- The publish entries, by index, with the ports on which they are not bound-eligible; the list gives each entry's index, egress ports and L_j,
`seen` the octets already placed on each port. A port whose rate reads 0 is left out (log entry 14). -/
def unboundGo (rate bP : Nat) (portRate : Nat → Nat) : List (Nat × List Nat × Nat) → Table Nat → List (Nat × List Nat)
  | [], _ => []
  | (i, ports, len) :: t, seen =>
    let bad := ports.filter (fun p => portRate p != 0 && !boundEligible rate bP (portRate p) (Table.get seen 0 p))
    let seen' := ports.foldl (fun sn p => Table.set sn 0 p (Table.get sn 0 p + len + 20)) seen
    (if bad.isEmpty then [] else [(i, bad)]) ++ unboundGo rate bP portRate t seen'

/-! ## Banks -/

/-- The active image (R31). -/
def Mod.activeLast (m : Mod) : List Byte := if m.num 0x202001 = 0 then m.tick.bankA else m.tick.bankB
/-- The inactive image. -/
def Mod.inactiveLast (m : Mod) : List Byte := if m.num 0x202001 = 0 then m.tick.bankB else m.tick.bankA
/-- The inactive bank replaced. -/
def Mod.setInactiveLast (m : Mod) (img : List Byte) : Mod :=
  if m.num 0x202001 = 0 then { m with tick := { m.tick with bankB := img } } else { m with tick := { m.tick with bankA := img } }

/-- The default boundaries of R19 for a rate. -/
def defaultBounds (rate : Nat) : List Nat :=
  if rate = 0 then [7680, 19200, 26880, 34560, 84480, 88320, 94080] else [9216, 23040, 32256, 41472, 101376, 105984, 112896]

/-- The built-in default Last for a rate: default boundaries, no windows, no budgets, no publish entries (R31). BUILD_ID and the reserved octets are 0 (log entry 15). -/
def defaultLast (rate : Nat) : List Byte :=
  let body := [0x4C, 0x41, 0x53, 0x54] ++ toLE 2 1 ++ toLE 1 rate ++ [0] ++ toLE 4 (0x10E0 + 4) ++ toLE 2 0 ++ toLE 2 0 ++
    List.replicate 48 0 ++ (defaultBounds rate).flatMap (toLE 4) ++ List.replicate (0x10E0 - 0x5C) 0
  body ++ toLE 4 (crc32 body)

/-- ACTIVE_CRC and INACTIVE_CRC as the banks stand (R42). -/
def Mod.lastCrcs (m : Mod) : Mod := (m.set 0x202007 (lastCrc m.activeLast)).set 0x202008 (lastCrc m.inactiveLast)

/-- The dictionary-defaults step: bank B empty, bank A the stored image if it passes every check but RATE, else the built-in default (R31). -/
def Mod.loadStartLast (m : Mod) : Mod :=
  let img := m.nv.last
  let ok := lastPass (lastCheck img (lastRate img))
  let rate := if ok then lastRate img else 0
  let m := { m with tick := { m.tick with bankA := if ok then img else defaultLast 0, bankB := [] } }
  ((m.set 0x200001 rate).set 0x202001 0).lastCrcs

/-- The banks swap: the new bank is active, CHECK_RESULT is cleared, SWAP_STATE is done and LAST_SWAP_TICK is recorded; event 0x0B20 (R35). -/
def Mod.swapLast (m : Mod) (kS : Nat) : Mod :=
  let u := m.tick.chkUnbound
  let f := m.tick.chkFirst
  let m := (m.set 0x202001 (1 - m.num 0x202001)).set 0x202004 0
  let m := (m.set 0x202006 2).set 0x20200B kS
  let m := (m.set 0x202101 u).set 0x202102 f
  let m := { m with tick := { m.tick with swapTick := 0, swapCommit := 0, checkPending := false } }
  m.lastCrcs.raise 0x0B20 [kS, lastCrc m.activeLast]

/-- Whether a swap is pending. -/
def Mod.swapPending (m : Mod) : Bool := m.num 0x202006 == 1

/-- A pending swap ends without swapping: SWAP_STATE 3 with event 0x0B21 after a refusal, 4 otherwise (R35). -/
def Mod.endSwap (m : Mod) (refused : Bool) : Mod :=
  if !m.swapPending then m
  else
    let m := { m with tick := { m.tick with swapTick := 0, swapCommit := 0 } }
    if refused then (m.set 0x202006 3).raise 0x0B21 [abCheck] else m.set 0x202006 4

/-! ## Commands -/

/-- INACTIVE_IMAGE_WRITE (R33): the inactive bank takes the image, INACTIVE_CRC is computed and any check result is invalidated; refused while a swap is pending. -/
def inactiveImageWrite (p : Path) (img : List Byte) (m : Mod) : Mod :=
  if m.swapPending then m.report p abState
  else if 12516 < img.length then m.report p abTooLong
  else
    let m := m.setInactiveLast img
    let m := { m with tick := { m.tick with checkPending := false } }
    ((m.set 0x202008 (lastCrc img)).set 0x202004 0).report p 0

/-- INACTIVE_IMAGE_WRITE. -/
def execInactiveImageWrite (path : Path) (image : List Byte) (s : State) : Host.Outcome State Fault Refusal :=
  .next { s with mod := s.mod.gate path (fun (m : Mod) => inactiveImageWrite path image m) }

/-- LAST_CHECK (R33): writing 1 starts the check of the inactive bank; any other value is refused. -/
def lastCheckWrite (p : Path) (v : Nat) (m : Mod) : Mod :=
  if v ≠ 1 then m.report p abValue
  else { m with tick := { m.tick with checkPending := true } }.report p 0

/-- LAST_CHECK. -/
def execLastCheck (path : Path) (v : Nat) (s : State) : Host.Outcome State Fault Refusal :=
  .next { s with mod := s.mod.gate path (fun (m : Mod) => lastCheckWrite path v m) }

/-- LAST_STORE (R42): writing 1 stores the active image in configuration MRAM. -/
def lastStore (p : Path) (v : Nat) (m : Mod) : Mod :=
  if v ≠ 1 then m.report p abValue
  else { m with nv := { m.nv with last := m.activeLast } }.report p 0

/-- LAST_STORE. -/
def execLastStore (path : Path) (v : Nat) (s : State) : Host.Outcome State Fault Refusal :=
  .next { s with mod := s.mod.gate path (fun (m : Mod) => lastStore path v m) }

/-- TICK_RATE written while stopped with a value other than the present one: the built-in default Last for the new rate goes into
bank A, which becomes active, and the check result is cleared (R32). -/
def Mod.newRate (m : Mod) (v : Nat) : Mod :=
  if v = m.num 0x200001 then m
  else
    let m := { m with tick := { m.tick with bankA := defaultLast v, checkPending := false } }
    let m := ((m.set 0x200001 v).set 0x202001 0).set 0x202004 0
    ((m.set 0x202101 0).set 0x202102 0xFFFF).lastCrcs

/-- TICK_RATE_WRITE (R32, R447): at once while the tick is stopped; staged on a MEMBER whose tick runs; otherwise refused with 0x0800_0022. -/
def tickRateWrite (p : Path) (v : Nat) (m : Mod) : Mod :=
  if 1 < v then m.report p abValue
  else if m.stopped then (m.newRate v).report p 0
  else if m.isMember then
    let r := m.stageAll p [{ obj := 0x200001, sel := 0, val := .num v }]
    r.1.report p r.2
  else m.report p abState

/-- TICK_RATE_WRITE. -/
def execTickRateWrite (path : Path) (v : Nat) (s : State) : Host.Outcome State Fault Refusal :=
  .next { s with mod := s.mod.gate path (fun (m : Mod) => tickRateWrite path v m) }

end Sys2Proof.Machine
end

