-- ==== Sys2Proof/Machine/LogicImage.lean ====
section
/-!
DEFINITION. Logic images: their format, their fields and their check (R163-R170).
-/
namespace Sys2Proof.Machine

/-! ## The image (R169) -/

/-- SEC_L1. -/
def liL1 (img : List Byte) : Nat := field img 6 1
/-- SEC_L2. -/
def liL2 (img : List Byte) : Nat := field img 7 1
/-- N_INSTR. -/
def liInstrs (img : List Byte) : Nat := field img 12 2
/-- N_SECT. -/
def liSects (img : List Byte) : Nat := field img 14 2
/-- SEC_ERR. -/
def liErr (img : List Byte) : Nat := field img 16 1
/-- N_OWN. -/
def liOwns (img : List Byte) : Nat := field img 17 1
/-- N_CONST. -/
def liConsts (img : List Byte) : Nat := field img 18 2
/-- Start index of section `i`. -/
def liSect (img : List Byte) (i : Nat) : Nat := field img (32 + 4 * i) 4
/-- PT of timer `t`. -/
def liTimer (img : List Byte) (t : Nat) : Nat := field img (32 + 4 * liSects img + 4 * t) 4
/-- PV of counter `c`, as its 32-bit pattern. -/
def liCounter (img : List Byte) (c : Nat) : Nat := field img (32 + 4 * liSects img + 4096 + 4 * c) 4
/-- Constant-pool word `i`. -/
def liConst (img : List Byte) (i : Nat) : Nat := field img (32 + 4 * liSects img + 6144 + 4 * i) 4
/-- Where the ownership table starts. -/
def liOwnAt (img : List Byte) : Nat := 32 + 4 * liSects img + 6144 + 4 * liConsts img
/-- The ownership table: START and WORDS of each entry. -/
def liOwn (img : List Byte) : List (Nat × Nat) :=
  (List.range (liOwns img)).map (fun i => (field img (liOwnAt img + 8 * i) 4, field img (liOwnAt img + 8 * i + 4) 4))
/-- The sum of WORDS. -/
def liOwnWords (img : List Byte) : Nat := ((liOwn img).map Prod.snd).sum
/-- Where the safe values start. -/
def liSafeAt (img : List Byte) : Nat := liOwnAt img + 8 * liOwns img
/-- Where the instructions start. -/
def liCodeAt (img : List Byte) : Nat := liSafeAt img + 4 * liOwnWords img
/-- Instruction word `i`. -/
def liWord (img : List Byte) (i : Nat) : Nat := field img (liCodeAt img + 4 * i) 4
/-- The length that the counts make (R169). -/
def liLength (img : List Byte) : Nat := liCodeAt img + 4 * liInstrs img + 4

/-- The safe values: every covered address with its bit, in table order. -/
def liSafeGo (img : List Byte) : List (Nat × Nat) → Nat → List (Nat × Bool)
  | [], _ => []
  | (start, words) :: t, at' =>
    (List.range words).flatMap (fun j =>
      let w := field img (at' + 4 * j) 4
      (List.range 32).map (fun i => (start + 32 * j + i, bit w i))) ++ liSafeGo img t (at' + 4 * words)

/-- The safe values of an image. -/
def liSafe (img : List Byte) : List (Nat × Bool) := liSafeGo img (liOwn img) (liSafeAt img)

/-- The end of section `s`: the start of the next, or the number of instructions. -/
def liSectEnd (img : List Byte) (s : Nat) : Nat := if s + 1 < liSects img then liSect img (s + 1) else liInstrs img

/-! ## The bit ranges an engine writes (R156) -/

/-- Whether an address lies in the output ranges an image may own. -/
def isOutputBit (a : Nat) : Bool := decide ((0x30000 ≤ a ∧ a ≤ 0x33FFF) ∨ (0x38000 ≤ a ∧ a ≤ 0x3FFFF))

/-- Whether an address lies in engine g's block of markers. -/
def isOwnMarker (g a : Nat) : Bool := decide (0x40000 + 0x4000 * g ≤ a ∧ a < 0x44000 + 0x4000 * g)

/-- Whether an ownership covers an address. -/
def ownCovers (own : List (Nat × Nat)) (a : Nat) : Bool := own.any (fun e => decide (e.1 ≤ a ∧ a < e.1 + 32 * e.2))

/-- Whether engine g with an ownership may write an address. -/
def mayWrite (g : Nat) (own : List (Nat × Nat)) (a : Nat) : Bool := isOwnMarker g a || (isOutputBit a && ownCovers own a)

/-- Whether an ownership entry lies in the ranges of R169, aligned and not empty. -/
def ownEntryOk (g : Nat) (e : Nat × Nat) : Bool :=
  let last := e.1 + 32 * e.2 - 1
  decide (e.1 % 32 = 0 ∧ 1 ≤ e.2 ∧
    ((0x30000 ≤ e.1 ∧ last ≤ 0x33FFF) ∨ (0x38000 ≤ e.1 ∧ last ≤ 0x3FFFF) ∨ (0x40000 + 0x4000 * g ≤ e.1 ∧ last < 0x44000 + 0x4000 * g)))

/-- Whether two ownerships overlap in output bits. -/
def ownsClash (a b : List (Nat × Nat)) : Bool :=
  a.any (fun x => isOutputBit x.1 && b.any (fun y => decide (x.1 < y.1 + 32 * y.2 ∧ y.1 < x.1 + 32 * x.2)))

/-! ## Instruction words (R163, R164) -/

/-- The operand formats of R163. -/
inductive LgFmt where
  | b | t | c | r | k | i | m | j | s | none
deriving DecidableEq, Repr

/-- The format of an opcode; nothing for a reserved one (R164). -/
def lgFmt (op : Nat) : Option LgFmt :=
  if (1 ≤ op ∧ op ≤ 0x0C) ∨ op = 0x18 ∨ op = 0x19 then some .b
  else if 0x0D ≤ op ∧ op ≤ 0x0F then some .j
  else if (0x10 ≤ op ∧ op ≤ 0x13) ∨ op = 0x15 ∨ op = 0x3F then some .none
  else if op = 0x14 then some .s
  else if (0x20 ≤ op ∧ op ≤ 0x22) ∨ op = 0x24 ∨ op = 0x35 then some .t
  else if (0x28 ≤ op ∧ op ≤ 0x2B) ∨ op = 0x36 then some .c
  else if op = 0x30 ∨ op = 0x33 ∨ (0x38 ≤ op ∧ op ≤ 0x3D) then some .r
  else if op = 0x31 then some .k
  else if op = 0x32 then some .i
  else if op = 0x34 then some .m
  else none

/-- Whether an operand is in range and its unused bits are 0 (R163). -/
def lgOperandOk (f : LgFmt) (nConst v : Nat) : Bool :=
  match f with
  | .b => decide (v < 2 ^ 20)
  | .t => decide (v < 2 ^ 10)
  | .c => decide (v < 2 ^ 9)
  | .r => decide (v < 2 ^ 12)
  | .k => decide (v < 2 ^ 12 ∧ v < nConst)
  | .i => decide (v < 2 ^ 16)
  | .m => decide (v < 2 ^ 24)
  | .j => decide (v < 2 ^ 15)
  | .s => decide (v < 2 ^ 8)
  | .none => v == 0

/-- Opcode of an instruction word. -/
def lgOp (w : Nat) : Nat := w / 2 ^ 26
/-- Operand of an instruction word. -/
def lgArg (w : Nat) : Nat := w % 2 ^ 26

/-- Whether an opcode writes its bit: ST, STN, SET, RST, REDGE, FEDGE. -/
def lgWritesBit (op : Nat) : Bool := decide ((0x09 ≤ op ∧ op ≤ 0x0C) ∨ op = 0x18 ∨ op = 0x19)

/-- Whether an instruction writes where engine g may not: a bit, or word register 0xF00 to 0xFFF by STW or MOV. -/
def lgBadWrite (g : Nat) (own : List (Nat × Nat)) (w : Nat) : Bool :=
  (lgWritesBit (lgOp w) && !mayWrite g own (lgArg w)) ||
  ((lgOp w == 0x33 || lgOp w == 0x34) && decide (0xF00 ≤ lgArg w % 2 ^ 12))

/-- The indices of a section at which the branch-depth rules of R168 are broken: depth above 16 or below 0, or not 0 at a
JMP, JMPC, JMPN, CALL, RET or END or at the last instruction. -/
def nestingBad (words : List (Nat × Nat)) (d : Int) : List Nat :=
  match words with
  | [] => []
  | (i, w) :: t =>
    let op := lgOp w
    let d' : Int := if op = 0x10 ∨ op = 0x11 then d + 1 else if op = 0x12 then d - 1 else d
    let flat := decide ((0x0D ≤ op ∧ op ≤ 0x0F) ∨ op = 0x14 ∨ op = 0x15 ∨ op = 0x3F) || t.isEmpty
    (if 16 < d' ∨ d' < 0 ∨ (flat ∧ d' ≠ 0) then [i] else []) ++ nestingBad t d'

/-- Longest call chains from each section, judged up to `n` calls: entry i is the length from section i. -/
def callDepths (calls : List (Nat × Nat)) (sects : Nat) : Nat → List Nat
  | 0 => List.replicate sects 0
  | n + 1 =>
    let prev := callDepths calls sects n
    (List.range sects).map (fun s => calls.foldl (fun m e => if e.1 = s then max m (1 + prev.getD e.2 0) else m) 0)

/-- The sections that calls reach from those of a list within `n` steps, these among them. -/
def callReach (calls : List (Nat × Nat)) : Nat → List Nat → List Nat
  | 0, l => l
  | n + 1, l => callReach calls n ((l ++ (calls.filter (fun e => l.contains e.1)).map Prod.snd).eraseDups)

/-- The indexed words of a section. -/
def sectWords (img : List Byte) (s : Nat) : List (Nat × Nat) :=
  (List.range (liSectEnd img s - liSect img s)).map (fun j => (liSect img s + j, liWord img (liSect img s + j)))

/-- Whether the section table and the entries keep R167 and R168. -/
def sectionsOk (img : List Byte) : Bool :=
  let n := liSects img
  let starts := (List.range n).map (liSect img)
  let entryOk := fun (e : Nat) => e == 0xFF || decide (e < n)
  decide (1 ≤ n ∧ n ≤ 256) && starts.head? == some 0 &&
  (List.range n).all (fun s => decide (liSect img s < liSectEnd img s)) &&
  entryOk (liL1 img) && entryOk (liL2 img) && entryOk (liErr img) &&
  (liErr img == 0xFF || (liErr img != liL1 img && liErr img != liL2 img)) &&
  (List.range n).all (fun s =>
    let op := lgOp (liWord img (liSectEnd img s - 1))
    op == 0x3F || op == 0x15 || op == 0x0D)

/-- Bits 12:0 and INDEX of the check of R170 for engine g; `others` is the ownership that other engines hold, `viaPort`
that the image came through a tenant's dictionary port (R218). A CALL fails where it begins a chain that is too deep, the implicit call of
the error section being one level, or calls an entry section from what the error section runs: that section is running then (R167, R168). -/
def logicCheck (g : Nat) (img : List Byte) (others : List (Nat × Nat)) (viaPort : Bool) : Nat :=
  let magic := slice img 0 4 == [0x4C, 0x4F, 0x47, 0x43] && field img 4 2 == 1
  let len := liLength img == img.length && field img 8 4 == img.length && decide (img.length ≤ 165412) &&
    decide (1 ≤ liInstrs img ∧ liInstrs img ≤ 32768 ∧ 1 ≤ liOwns img ∧ liOwns img ≤ 64 ∧ liConsts img ≤ 4096)
  if !magic || !len then b2n (!magic) + 4 * b2n (!len)
  else
    let own := liOwn img
    let words := (List.range (liInstrs img)).map (fun i => (i, liWord img i))
    let badOp := (words.filter (fun e => (lgFmt (lgOp e.2)).isNone)).map Prod.fst
    let badArg := (words.filter (fun e => match lgFmt (lgOp e.2) with
      | some f => !lgOperandOk f (liConsts img) (lgArg e.2)
      | none => false)).map Prod.fst
    let badWrite := (words.filter (fun e => lgBadWrite g own e.2)).map Prod.fst
    let sects := List.range (liSects img)
    let badTarget := sects.flatMap (fun s => ((sectWords img s).filter (fun e =>
      decide (0x0D ≤ lgOp e.2 ∧ lgOp e.2 ≤ 0x0F) && !decide (liSect img s ≤ lgArg e.2 ∧ lgArg e.2 < liSectEnd img s))).map Prod.fst)
    let badNest := sects.flatMap (fun s => nestingBad (sectWords img s) 0)
    let callsAt := sects.flatMap (fun s => ((sectWords img s).filter (fun e => lgOp e.2 == 0x14)).map (fun e => (e.1, s, lgArg e.2)))
    let entries := if liErr img = 0xFF then [] else [liL1 img, liL2 img].filter (· ≠ 0xFF)
    let depths := callDepths (callsAt.map Prod.snd) (liSects img) 9
    let reached := if entries.isEmpty then [] else callReach (callsAt.map Prod.snd) 9 [liErr img]
    let badCall := (callsAt.filter (fun e => decide (liSects img ≤ e.2.2 ∨ 9 ≤ 1 + depths.getD e.2.2 0) ||
      (reached.contains e.2.1 && entries.contains e.2.2) ||
      (!entries.isEmpty && e.2.1 == liErr img && decide (8 ≤ 1 + depths.getD e.2.2 0)))).map Prod.fst
    let failing := badOp ++ badArg ++ badWrite ++ badTarget ++ badNest ++ badCall
    let index := failing.foldl min 0x7FFF
    8 * b2n (crc32 (img.take (img.length - 4)) != field img (img.length - 4) 4) +
    16 * b2n (!sectionsOk img) +
    32 * b2n (!badOp.isEmpty) +
    64 * b2n (!badArg.isEmpty) +
    128 * b2n (!badWrite.isEmpty) +
    256 * b2n (!badTarget.isEmpty) +
    512 * b2n (!badNest.isEmpty) +
    1024 * b2n (!badCall.isEmpty) +
    2048 * b2n (own.any (fun e => !ownEntryOk g e) || (viaPort && own.any (fun e => isOutputBit e.1))) +
    4096 * b2n (ownsClash own others) +
    65536 * (if failing.isEmpty then 0 else index)

end Sys2Proof.Machine
end

