-- ==== Sys2Proof/Machine/Logic.lean ====
section
/-!
DEFINITION. The logic engines: the bit space as an engine sees it, the two passes, every instruction, overruns, and the image's
commands (R154-R177, R183).
-/
namespace Sys2Proof.Machine

/-! ## Engines -/

/-- The states of R171. -/
def enUnloaded : Nat := 0
/-- STOPPED. -/
def enStopped : Nat := 1
/-- RUNNING. -/
def enRunning : Nat := 2
/-- FAULTED. -/
def enFaulted : Nat := 3

/-- Engine g. -/
def Mod.engine (m : Mod) (g : Nat) : EngineSt := Table.get m.logic.engines {} g
/-- Engine g replaced. -/
def Mod.setEngine (m : Mod) (g : Nat) (e : EngineSt) : Mod :=
  { m with logic := { m.logic with engines := Table.set m.logic.engines {} g e } }
/-- The pass of engine g replaced. -/
def Mod.setRun (m : Mod) (g : Nat) (p : PassSt) : Mod := m.setEngine g { m.engine g with run := p }

/-- The state of engine g. -/
def Mod.engState (m : Mod) (g : Nat) : Nat := m.num 0x581001 g

/-- Engine g's state with its status bits and ENGINES_RUNNING (R157, R171, R184). -/
def Mod.setEngState (m : Mod) (g st : Nat) : Mod :=
  let m := (m.set 0x581001 st g).set 0x580001 (setBit (m.num 0x580001) g (st == enRunning))
  (m.setBitAt (0x85000 + g) (st == enRunning)).setBitAt (0x85010 + g) (st == enFaulted)

/-- The ownership in force of every engine but g. -/
def Mod.othersOwn (m : Mod) (g : Nat) : List (Nat × Nat) :=
  ((List.range 16).filter (· ≠ g)).flatMap (fun h => (m.engine h).own)

/-- The ownership that the check of R170 is judged against: that of every engine but g that is not UNLOADED (log entry 42). -/
def Mod.loadedOwn (m : Mod) (g : Nat) : List (Nat × Nat) :=
  ((List.range 16).filter (fun h => decide (h ≠ g ∧ m.engState h ≠ enUnloaded))).flatMap (fun h => (m.engine h).own)

/-- Whether a tenant frozen with kind ALL has engine g in its mask (R225). -/
def Mod.engineFrozen (m : Mod) (g : Nat) : Bool := m.tenantsOn.any (fun t => bit (m.num 0x511107 t) g && m.frozenAll t)

/-- The present PT of timer t: committed online, or the image's. -/
def Mod.preset (m : Mod) (g t : Nat) : Nat := (Table.find? (m.engine g).presets t).getD (liTimer (m.engine g).image t)
/-- The present PV of counter c. -/
def Mod.limit (m : Mod) (g c : Nat) : Int := toInt 32 ((Table.find? (m.engine g).limits c).getD (liCounter (m.engine g).image c))
/-- Constant-pool word i. -/
def Mod.constant (m : Mod) (g i : Nat) : Nat := (Table.find? (m.engine g).consts i).getD (liConst (m.engine g).image i)
/-- Timer t. -/
def Mod.timer (m : Mod) (g t : Nat) : TimerSt := Table.get (m.engine g).timers {} t
/-- Counter c. -/
def Mod.counter (m : Mod) (g c : Nat) : CounterSt := Table.get (m.engine g).counters {} c
/-- Elapsed ticks of timer t, capped at its PT; 0 when idle (R164). -/
def Mod.elapsed (m : Mod) (g t : Nat) : Nat := if (m.timer g t).run then min (m.k - (m.timer g t).k0) (m.preset g t) else 0

/-- Word register r: a general one, or 0xF00 to 0xFFF as the last pass start loaded them (R160). -/
def Mod.wordReg (m : Mod) (g r : Nat) : Word := Table.get (m.engine g).words 0 r

/-- The word registers with 0xF00 to 0xF03 loaded at the start of a pass: k, q and the pass; 0xF04 to 0xFFF read 0 (R160). -/
def Mod.passWords (m : Mod) (g pass : Nat) : Table Word :=
  [(0xF00, m.k % 2 ^ 32), (0xF01, m.k / 2 ^ 32 % 2 ^ 16), (0xF02, m.tick.q), (0xF03, pass)].foldl
    (fun t e => Table.set t 0 e.1 (BitVec.ofNat 32 e.2)) (m.engine g).words

/-- A general word register written; 0xF00 to 0xFFF are read-only. -/
def Mod.setWordReg (m : Mod) (g r : Nat) (v : Word) : Mod :=
  if r < 0xF00 then m.setEngine g { m.engine g with words := Table.set (m.engine g).words 0 r v } else m

/-- A bit as engine g reads it within a pass: its own writes of the pass, otherwise the snapshot of pass start (R158). -/
def Mod.engineBit (m : Mod) (g a : Nat) : Bool :=
  match Table.find? (m.engine g).run.writes a with
  | some v => v == 1
  | none => { m with bits := m.logic.snap }.bitAt a

/-! ## Pass state -/

/-- A written. -/
def PassSt.setA (p : PassSt) (b : Bool) : PassSt := { p with a := b }
/-- A bit written in the pass. -/
def PassSt.put (p : PassSt) (a : Nat) (b : Bool) : PassSt := { p with writes := Table.put p.writes a (b2n b) }
/-- BCL: the top of the branch stack combined with A. -/
def PassSt.popBranch (p : PassSt) : PassSt :=
  match p.branches with
  | (sv, true) :: t => { p with branches := t, a := sv && p.a }
  | (sv, false) :: t => { p with branches := t, a := sv || p.a }
  | [] => p

/-- The pass of engine g ends with its writes committed; the largest number of instructions used is kept (R159, R162). -/
def Mod.endPass (m : Mod) (g : Nat) (p : PassSt) : Mod :=
  let m := m.setBits (p.writes.map (fun e => (e.1, e.2 == 1)))
  let m := m.raiseTo (if p.pass = 1 then 0x58100B else 0x58100C) p.used g
  m.setRun g {}

/-- The budget of engine g in a pass, from the active Last (R25). -/
def Mod.budget (m : Mod) (g pass : Nat) : Nat := field m.activeLast (0x60 + 8 * g + 4 * (pass - 1)) 4

/-- Whether engine g is about to execute the instruction of an opcode and operand: a pass is in progress, its budget is not used
up, and that word stands at its index. -/
def Mod.atInstr (m : Mod) (g op arg : Nat) : Bool :=
  let e := m.engine g
  e.run.pass != 0 && decide (e.run.used < m.budget g e.run.pass ∧ e.run.pc < liInstrs e.image) &&
  liWord e.image e.run.pc == op * 2 ^ 26 + arg

/-- One instruction of engine g with its effect `f` on the pass, its index advanced and the instruction counted (R154, R162); a
command that is not the engine's next instruction changes nothing (log entry 1). -/
def Mod.instr (m : Mod) (g op arg : Nat) (f : PassSt → Mod → Mod) : Mod :=
  if m.atInstr g op arg then
    let p := (m.engine g).run
    f { p with pc := p.pc + 1, used := p.used + 1 } m
  else m

/-! ## Timers and counters (R165, R166) -/

/-- TON. -/
def timerTon (k pt : Nat) (a : Bool) (t : TimerSt) : TimerSt :=
  if a then
    let k0 := if t.run then t.k0 else k
    { run := true, q := decide (pt ≤ k - k0), k0 := k0, last := a }
  else { t with run := false, q := false, last := a }

/-- TOF. -/
def timerTof (k pt : Nat) (a : Bool) (t : TimerSt) : TimerSt :=
  if a then { t with run := false, q := true, last := a }
  else
    let t := if t.q && !t.run then { t with run := true, k0 := k } else t
    if t.run && decide (pt ≤ k - t.k0) then { t with q := false, run := false, last := a } else { t with last := a }

/-- TP: the pulse starts on a rising edge while not running, and RUN and Q clear at any execution with PT elapsed (log entry 40). -/
def timerTp (k pt : Nat) (a : Bool) (t : TimerSt) : TimerSt :=
  let t' := if a && !t.last && !t.run then { t with run := true, k0 := k } else t
  let run := t'.run && !decide (pt ≤ k - t'.k0)
  { t' with run := run, q := run, last := a }

/-- A timer's new state and A := Q. -/
def Mod.runTimer (m : Mod) (g t : Nat) (p : PassSt) (x : TimerSt) : Mod :=
  m.setEngine g { m.engine g with timers := Table.set (m.engine g).timers {} t x, run := p.setA x.q }

/-- CTU: 1 more on a rising edge of A, up to 2^31 - 1. -/
def countUp (a : Bool) (c : CounterSt) : CounterSt :=
  { cv := if a && !c.edge then satInt 32 (c.cv + 1) else c.cv, edge := a }

/-- CTD: 1 less on a rising edge of A, down to -2^31. -/
def countDown (a : Bool) (c : CounterSt) : CounterSt :=
  { cv := if a && !c.edge then satInt 32 (c.cv - 1) else c.cv, edge := a }

/-- A counter's new state and A from it. -/
def Mod.runCounter (m : Mod) (g c : Nat) (p : PassSt) (x : CounterSt) (q : CounterSt → Bool) : Mod :=
  m.setEngine g { m.engine g with counters := Table.set (m.engine g).counters {} c x, run := p.setA (q x) }

/-! ## The instructions (R164) -/

/-- LD: A := bit (R164). -/
def lgLd (g a : Nat) (m : Mod) : Mod :=
  m.instr g 0x1 a (fun p m => m.setRun g (p.setA (m.engineBit g a)))

/-- LD. -/
def execLgLd (g a : Nat) (s : State) : Host.Outcome State Fault Refusal := .next { s with mod := s.mod.awake (lgLd g a) }

/-- LDN: A := NOT bit (R164). -/
def lgLdn (g a : Nat) (m : Mod) : Mod :=
  m.instr g 0x2 a (fun p m => m.setRun g (p.setA (!m.engineBit g a)))

/-- LDN. -/
def execLgLdn (g a : Nat) (s : State) : Host.Outcome State Fault Refusal := .next { s with mod := s.mod.awake (lgLdn g a) }

/-- AND: A := A AND bit (R164). -/
def lgAnd (g a : Nat) (m : Mod) : Mod :=
  m.instr g 0x3 a (fun p m => m.setRun g (p.setA (p.a && m.engineBit g a)))

/-- AND. -/
def execLgAnd (g a : Nat) (s : State) : Host.Outcome State Fault Refusal := .next { s with mod := s.mod.awake (lgAnd g a) }

/-- ANDN: A := A AND NOT bit (R164). -/
def lgAndn (g a : Nat) (m : Mod) : Mod :=
  m.instr g 0x4 a (fun p m => m.setRun g (p.setA (p.a && !m.engineBit g a)))

/-- ANDN. -/
def execLgAndn (g a : Nat) (s : State) : Host.Outcome State Fault Refusal := .next { s with mod := s.mod.awake (lgAndn g a) }

/-- OR: A := A OR bit (R164). -/
def lgOr (g a : Nat) (m : Mod) : Mod :=
  m.instr g 0x5 a (fun p m => m.setRun g (p.setA (p.a || m.engineBit g a)))

/-- OR. -/
def execLgOr (g a : Nat) (s : State) : Host.Outcome State Fault Refusal := .next { s with mod := s.mod.awake (lgOr g a) }

/-- ORN: A := A OR NOT bit (R164). -/
def lgOrn (g a : Nat) (m : Mod) : Mod :=
  m.instr g 0x6 a (fun p m => m.setRun g (p.setA (p.a || !m.engineBit g a)))

/-- ORN. -/
def execLgOrn (g a : Nat) (s : State) : Host.Outcome State Fault Refusal := .next { s with mod := s.mod.awake (lgOrn g a) }

/-- XOR: A := A XOR bit (R164). -/
def lgXor (g a : Nat) (m : Mod) : Mod :=
  m.instr g 0x7 a (fun p m => m.setRun g (p.setA (p.a ^^ m.engineBit g a)))

/-- XOR. -/
def execLgXor (g a : Nat) (s : State) : Host.Outcome State Fault Refusal := .next { s with mod := s.mod.awake (lgXor g a) }

/-- XORN: A := A XOR NOT bit (R164). -/
def lgXorn (g a : Nat) (m : Mod) : Mod :=
  m.instr g 0x8 a (fun p m => m.setRun g (p.setA (p.a ^^ !m.engineBit g a)))

/-- XORN. -/
def execLgXorn (g a : Nat) (s : State) : Host.Outcome State Fault Refusal := .next { s with mod := s.mod.awake (lgXorn g a) }

/-- ST: bit := A (R164). -/
def lgSt (g a : Nat) (m : Mod) : Mod :=
  m.instr g 0x09 a (fun p m => m.setRun g (p.put a p.a))

/-- ST. -/
def execLgSt (g a : Nat) (s : State) : Host.Outcome State Fault Refusal := .next { s with mod := s.mod.awake (lgSt g a) }

/-- STN: bit := NOT A (R164). -/
def lgStn (g a : Nat) (m : Mod) : Mod :=
  m.instr g 0x0A a (fun p m => m.setRun g (p.put a (!p.a)))

/-- STN. -/
def execLgStn (g a : Nat) (s : State) : Host.Outcome State Fault Refusal := .next { s with mod := s.mod.awake (lgStn g a) }

/-- SET: if A = 1, bit := 1 (R164). -/
def lgSet (g a : Nat) (m : Mod) : Mod :=
  m.instr g 0x0B a (fun p m => m.setRun g (if p.a then p.put a true else p))

/-- SET. -/
def execLgSet (g a : Nat) (s : State) : Host.Outcome State Fault Refusal := .next { s with mod := s.mod.awake (lgSet g a) }

/-- RST: if A = 1, bit := 0 (R164). -/
def lgRst (g a : Nat) (m : Mod) : Mod :=
  m.instr g 0x0C a (fun p m => m.setRun g (if p.a then p.put a false else p))

/-- RST. -/
def execLgRst (g a : Nat) (s : State) : Host.Outcome State Fault Refusal := .next { s with mod := s.mod.awake (lgRst g a) }

/-- JMP: jump (R164). -/
def lgJmp (g i : Nat) (m : Mod) : Mod :=
  m.instr g 0x0D i (fun p m => m.setRun g { p with pc := i })

/-- JMP. -/
def execLgJmp (g i : Nat) (s : State) : Host.Outcome State Fault Refusal := .next { s with mod := s.mod.awake (lgJmp g i) }

/-- JMPC: jump if A = 1 (R164). -/
def lgJmpc (g i : Nat) (m : Mod) : Mod :=
  m.instr g 0x0E i (fun p m => m.setRun g (if p.a then { p with pc := i } else p))

/-- JMPC. -/
def execLgJmpc (g i : Nat) (s : State) : Host.Outcome State Fault Refusal := .next { s with mod := s.mod.awake (lgJmpc g i) }

/-- JMPN: jump if A = 0 (R164). -/
def lgJmpn (g i : Nat) (m : Mod) : Mod :=
  m.instr g 0x0F i (fun p m => m.setRun g (if p.a then p else { p with pc := i }))

/-- JMPN. -/
def execLgJmpn (g i : Nat) (s : State) : Host.Outcome State Fault Refusal := .next { s with mod := s.mod.awake (lgJmpn g i) }

/-- ANDB: push (A, AND), A := 1 (R164). -/
def lgAndb (g : Nat) (m : Mod) : Mod :=
  m.instr g 0x10 0 (fun p m => m.setRun g { p with branches := (p.a, true) :: p.branches, a := true })

/-- ANDB. -/
def execLgAndb (g : Nat) (s : State) : Host.Outcome State Fault Refusal := .next { s with mod := s.mod.awake (lgAndb g) }

/-- ORB: push (A, OR), A := 0 (R164). -/
def lgOrb (g : Nat) (m : Mod) : Mod :=
  m.instr g 0x11 0 (fun p m => m.setRun g { p with branches := (p.a, false) :: p.branches, a := false })

/-- ORB. -/
def execLgOrb (g : Nat) (s : State) : Host.Outcome State Fault Refusal := .next { s with mod := s.mod.awake (lgOrb g) }

/-- BCL: pop (S, op), A := S op A (R164). -/
def lgBcl (g : Nat) (m : Mod) : Mod :=
  m.instr g 0x12 0 (fun p m => m.setRun g p.popBranch)

/-- BCL. -/
def execLgBcl (g : Nat) (s : State) : Host.Outcome State Fault Refusal := .next { s with mod := s.mod.awake (lgBcl g) }

/-- NOT: A := NOT A (R164). -/
def lgNot (g : Nat) (m : Mod) : Mod :=
  m.instr g 0x13 0 (fun p m => m.setRun g (p.setA (!p.a)))

/-- NOT. -/
def execLgNot (g : Nat) (s : State) : Host.Outcome State Fault Refusal := .next { s with mod := s.mod.awake (lgNot g) }

/-- CALL: push the return index, continue at the start of the section (R164). -/
def lgCall (g sect : Nat) (m : Mod) : Mod :=
  m.instr g 0x14 sect (fun p m => m.setRun g { p with calls := p.pc :: p.calls, pc := liSect (m.engine g).image sect })

/-- CALL. -/
def execLgCall (g sect : Nat) (s : State) : Host.Outcome State Fault Refusal := .next { s with mod := s.mod.awake (lgCall g sect) }

/-- RET: pop the call stack and continue there; with nothing to pop the engine stays at the RET, so that its pass overruns (log entry 41) (R164). -/
def lgRet (g : Nat) (m : Mod) : Mod :=
  m.instr g 0x15 0 (fun p m => match p.calls with
    | r :: t => m.setRun g { p with calls := t, pc := r }
    | [] => m.setRun g { p with pc := p.pc - 1 })

/-- RET. -/
def execLgRet (g : Nat) (s : State) : Host.Outcome State Fault Refusal := .next { s with mod := s.mod.awake (lgRet g) }

/-- REDGE: r := A AND NOT bit, bit := A, A := r (R164). -/
def lgRedge (g a : Nat) (m : Mod) : Mod :=
  m.instr g 0x18 a (fun p m => m.setRun g ((p.put a p.a).setA (p.a && !m.engineBit g a)))

/-- REDGE. -/
def execLgRedge (g a : Nat) (s : State) : Host.Outcome State Fault Refusal := .next { s with mod := s.mod.awake (lgRedge g a) }

/-- FEDGE: r := NOT A AND bit, bit := A, A := r (R164). -/
def lgFedge (g a : Nat) (m : Mod) : Mod :=
  m.instr g 0x19 a (fun p m => m.setRun g ((p.put a p.a).setA (!p.a && m.engineBit g a)))

/-- FEDGE. -/
def execLgFedge (g a : Nat) (s : State) : Host.Outcome State Fault Refusal := .next { s with mod := s.mod.awake (lgFedge g a) }

/-- TON: on-delay timer, A := Q (R165) (R164). -/
def lgTon (g t : Nat) (m : Mod) : Mod :=
  m.instr g 0x20 t (fun p m => m.runTimer g t p (timerTon m.k (m.preset g t) p.a (m.timer g t)))

/-- TON. -/
def execLgTon (g t : Nat) (s : State) : Host.Outcome State Fault Refusal := .next { s with mod := s.mod.awake (lgTon g t) }

/-- TOF: off-delay timer, A := Q (R165) (R164). -/
def lgTof (g t : Nat) (m : Mod) : Mod :=
  m.instr g 0x21 t (fun p m => m.runTimer g t p (timerTof m.k (m.preset g t) p.a (m.timer g t)))

/-- TOF. -/
def execLgTof (g t : Nat) (s : State) : Host.Outcome State Fault Refusal := .next { s with mod := s.mod.awake (lgTof g t) }

/-- TP: pulse timer, A := Q (R165) (R164). -/
def lgTp (g t : Nat) (m : Mod) : Mod :=
  m.instr g 0x22 t (fun p m => m.runTimer g t p (timerTp m.k (m.preset g t) p.a (m.timer g t)))

/-- TP. -/
def execLgTp (g t : Nat) (s : State) : Host.Outcome State Fault Refusal := .next { s with mod := s.mod.awake (lgTp g t) }

/-- LDTQ: A := Q of the timer as its last execution left it (R164). -/
def lgLdtq (g t : Nat) (m : Mod) : Mod :=
  m.instr g 0x24 t (fun p m => m.setRun g (p.setA (m.timer g t).q))

/-- LDTQ. -/
def execLgLdtq (g t : Nat) (s : State) : Host.Outcome State Fault Refusal := .next { s with mod := s.mod.awake (lgLdtq g t) }

/-- CTU: count up on a rising edge of A, A := CV >= PV (R166) (R164). -/
def lgCtu (g c : Nat) (m : Mod) : Mod :=
  m.instr g 0x28 c (fun p m => m.runCounter g c p (countUp p.a (m.counter g c)) (fun x => decide (m.limit g c ≤ x.cv)))

/-- CTU. -/
def execLgCtu (g c : Nat) (s : State) : Host.Outcome State Fault Refusal := .next { s with mod := s.mod.awake (lgCtu g c) }

/-- CTD: count down on a rising edge of A, A := CV <= 0 (R166) (R164). -/
def lgCtd (g c : Nat) (m : Mod) : Mod :=
  m.instr g 0x29 c (fun p m => m.runCounter g c p (countDown p.a (m.counter g c)) (fun x => decide (x.cv ≤ 0)))

/-- CTD. -/
def execLgCtd (g c : Nat) (s : State) : Host.Outcome State Fault Refusal := .next { s with mod := s.mod.awake (lgCtd g c) }

/-- CRST: if A = 1, CV := 0; A unchanged (R164). -/
def lgCrst (g c : Nat) (m : Mod) : Mod :=
  m.instr g 0x2A c (fun p m => m.runCounter g c p (if p.a then { m.counter g c with cv := 0 } else m.counter g c) (fun _ => p.a))

/-- CRST. -/
def execLgCrst (g c : Nat) (s : State) : Host.Outcome State Fault Refusal := .next { s with mod := s.mod.awake (lgCrst g c) }

/-- LDCQ: A := CV >= PV (R164). -/
def lgLdcq (g c : Nat) (m : Mod) : Mod :=
  m.instr g 0x2B c (fun p m => m.setRun g (p.setA (decide (m.limit g c ≤ (m.counter g c).cv))))

/-- LDCQ. -/
def execLgLdcq (g c : Nat) (s : State) : Host.Outcome State Fault Refusal := .next { s with mod := s.mod.awake (lgLdcq g c) }

/-- LDW: W := register (R164). -/
def lgLdw (g r : Nat) (m : Mod) : Mod :=
  m.instr g 0x30 r (fun p m => m.setRun g { p with w := m.wordReg g r })

/-- LDW. -/
def execLgLdw (g r : Nat) (s : State) : Host.Outcome State Fault Refusal := .next { s with mod := s.mod.awake (lgLdw g r) }

/-- LDK: W := constant-pool word (R164). -/
def lgLdk (g c : Nat) (m : Mod) : Mod :=
  m.instr g 0x31 c (fun p m => m.setRun g { p with w := BitVec.ofNat 32 (m.constant g c) })

/-- LDK. -/
def execLgLdk (g c : Nat) (s : State) : Host.Outcome State Fault Refusal := .next { s with mod := s.mod.awake (lgLdk g c) }

/-- LDI: W := the immediate, sign-extended (R164). -/
def lgLdi (g i : Nat) (m : Mod) : Mod :=
  m.instr g 0x32 i (fun p m => m.setRun g { p with w := (BitVec.ofNat 16 i).signExtend 32 })

/-- LDI. -/
def execLgLdi (g i : Nat) (s : State) : Host.Outcome State Fault Refusal := .next { s with mod := s.mod.awake (lgLdi g i) }

/-- STW: register := W (R164). -/
def lgStw (g r : Nat) (m : Mod) : Mod :=
  m.instr g 0x33 r (fun p m => (m.setWordReg g r p.w).setRun g p)

/-- STW. -/
def execLgStw (g r : Nat) (s : State) : Host.Outcome State Fault Refusal := .next { s with mod := s.mod.awake (lgStw g r) }

/-- MOV: destination := source; W unchanged (R164). -/
def lgMov (g src dst : Nat) (m : Mod) : Mod :=
  m.instr g 0x34 (src * 4096 + dst) (fun p m => (m.setWordReg g dst (m.wordReg g src)).setRun g p)

/-- MOV. -/
def execLgMov (g src dst : Nat) (s : State) : Host.Outcome State Fault Refusal := .next { s with mod := s.mod.awake (lgMov g src dst) }

/-- LDTV: W := elapsed ticks of the timer, capped at its PT; 0 when idle (R164). -/
def lgLdtv (g t : Nat) (m : Mod) : Mod :=
  m.instr g 0x35 t (fun p m => m.setRun g { p with w := BitVec.ofNat 32 (m.elapsed g t) })

/-- LDTV. -/
def execLgLdtv (g t : Nat) (s : State) : Host.Outcome State Fault Refusal := .next { s with mod := s.mod.awake (lgLdtv g t) }

/-- LDCV: W := CV (R164). -/
def lgLdcv (g c : Nat) (m : Mod) : Mod :=
  m.instr g 0x36 c (fun p m => m.setRun g { p with w := BitVec.ofInt 32 (m.counter g c).cv })

/-- LDCV. -/
def execLgLdcv (g c : Nat) (s : State) : Host.Outcome State Fault Refusal := .next { s with mod := s.mod.awake (lgLdcv g c) }

/-- CEQ: A := W = register (R164). -/
def lgCeq (g r : Nat) (m : Mod) : Mod :=
  m.instr g 0x38 r (fun p m => m.setRun g (p.setA (p.w == m.wordReg g r)))

/-- CEQ. -/
def execLgCeq (g r : Nat) (s : State) : Host.Outcome State Fault Refusal := .next { s with mod := s.mod.awake (lgCeq g r) }

/-- CNE: A := W ≠ register (R164). -/
def lgCne (g r : Nat) (m : Mod) : Mod :=
  m.instr g 0x39 r (fun p m => m.setRun g (p.setA (p.w != m.wordReg g r)))

/-- CNE. -/
def execLgCne (g r : Nat) (s : State) : Host.Outcome State Fault Refusal := .next { s with mod := s.mod.awake (lgCne g r) }

/-- CGT: A := W > register, signed (R164). -/
def lgCgt (g r : Nat) (m : Mod) : Mod :=
  m.instr g 0x3A r (fun p m => m.setRun g (p.setA ((m.wordReg g r).slt p.w)))

/-- CGT. -/
def execLgCgt (g r : Nat) (s : State) : Host.Outcome State Fault Refusal := .next { s with mod := s.mod.awake (lgCgt g r) }

/-- CGE: A := W ≥ register, signed (R164). -/
def lgCge (g r : Nat) (m : Mod) : Mod :=
  m.instr g 0x3B r (fun p m => m.setRun g (p.setA ((m.wordReg g r).sle p.w)))

/-- CGE. -/
def execLgCge (g r : Nat) (s : State) : Host.Outcome State Fault Refusal := .next { s with mod := s.mod.awake (lgCge g r) }

/-- CLT: A := W < register, signed (R164). -/
def lgClt (g r : Nat) (m : Mod) : Mod :=
  m.instr g 0x3C r (fun p m => m.setRun g (p.setA (p.w.slt (m.wordReg g r))))

/-- CLT. -/
def execLgClt (g r : Nat) (s : State) : Host.Outcome State Fault Refusal := .next { s with mod := s.mod.awake (lgClt g r) }

/-- CLE: A := W ≤ register, signed (R164). -/
def lgCle (g r : Nat) (m : Mod) : Mod :=
  m.instr g 0x3D r (fun p m => m.setRun g (p.setA (p.w.sle (m.wordReg g r))))

/-- CLE. -/
def execLgCle (g r : Nat) (s : State) : Host.Outcome State Fault Refusal := .next { s with mod := s.mod.awake (lgCle g r) }

/-- END: end the pass and commit its writes (R164). -/
def lgEnd (g : Nat) (m : Mod) : Mod :=
  m.instr g 0x3F 0 (fun p m => m.endPass g p)

/-- END. -/
def execLgEnd (g : Nat) (s : State) : Host.Outcome State Fault Refusal := .next { s with mod := s.mod.awake (lgEnd g) }

/-! ## Passes (R161, R162, R172, R183) -/

/-- Bits under the ownership in force take their safe values: outputs, and markers where `markers` holds (R171). -/
def Mod.safeBits (m : Mod) (g : Nat) (markers : Bool) : Mod :=
  m.setBits ((liSafe (m.engine g).inForce).filter (fun e => markers || isOutputBit e.1))

/-- Every marker of engine g's block takes 0. -/
def Mod.clearMarkers (m : Mod) (g : Nat) : Mod := { m with bits := m.bits.filter (fun e => !isOwnMarker g e.1) }

/-- Whether a station became DROPPED in this tick. -/
def Mod.stationDropped (m : Mod) : Bool := m.bits.any (fun e => decide (0x84800 ≤ e.1 ∧ e.1 < 0x85000 ∧ e.2 = 1))

/-- The entry section of a pass. -/
def Mod.entry (m : Mod) (g pass : Nat) : Nat := if pass = 1 then liL1 (m.engine g).image else liL2 (m.engine g).image

/-- Whether a pass runs: its budget is not 0 and its section not 0xFF (R161). -/
def Mod.passRuns (m : Mod) (g pass : Nat) : Bool := m.budget g pass != 0 && m.entry g pass != 0xFF

/-- A pass of engine g begins: A, W and the stacks are empty, and the error section runs first where it is due (R155, R183). -/
def beginPass (pass g : Nat) (m : Mod) : Mod :=
  if m.engState g ≠ enRunning ∨ m.engineFrozen g ∨ !m.passRuns g pass then m
  else
    let e := m.engine g
    let start := liSect e.image (m.entry g pass)
    let err := e.errDue && liErr e.image != 0xFF
    let run : PassSt := if err then { pass := pass, pc := liSect e.image (liErr e.image), calls := [start] } else { pass := pass, pc := start }
    let m := m.setEngine g { e with run := run, errDue := false, idleSaid := false, words := m.passWords g pass }
    if err then m.bump 0x58100F g else m

/-- Event 0x0608, once, for a RUNNING engine of which neither pass runs (R161). -/
def noteIdle (g : Nat) (m : Mod) : Mod :=
  if m.engState g = enRunning ∧ !m.passRuns g 1 ∧ !m.passRuns g 2 ∧ !(m.engine g).idleSaid then
    (m.setEngine g { m.engine g with idleSaid := true }).raise 0x0608 [g, m.k]
  else m

/-- The start of phase L1 for one engine: an engine stopped in this tick shows its safe values, and an error run becomes due. -/
def l1Engine (g : Nat) (m : Mod) : Mod :=
  let m := if (m.engine g).safeDue then (m.safeBits g false).setEngine g { m.engine g with safeDue := false } else m
  let m := m.setEngine g { m.engine g with errDue := m.stationDropped, run := {} }
  noteIdle g m

/-- The overrun of the pass that engine g is in (R172): nothing it wrote is committed, owned bits take their safe values and other markers 0, the
largest number of instructions used is kept (R162), and the engine faults. -/
def Mod.tripPass (m : Mod) (g : Nat) : Mod :=
  let p := (m.engine g).run
  let m := ((m.clearMarkers g).safeBits g true).setRun g {}
  let m := ((m.set 0x581008 p.pass g).set 0x581009 m.k g).set 0x58100A p.pc g
  let m := m.raiseTo (if p.pass = 1 then 0x58100B else 0x58100C) p.used g
  (m.setEngState g enFaulted).raise 0x0602 [g, p.pass, p.pc, m.k]

/-- The end of phase L1 or L2: an engine that has not reached END trips its watchdog (R20). -/
def Mod.endPasses (m : Mod) : Mod := m.each (List.range 16) (fun m g => if (m.engine g).run.pass = 0 then m else m.tripPass g)

/-- LOGIC_PASS_L1 (R161): every RUNNING engine begins pass L1 from the snapshot taken now. -/
def logicPassL1 (m : Mod) : Mod :=
  if !m.inPhase .E then m
  else
    let m := m.each (List.range 16) (fun m g => l1Engine g m)
    let m := { m with tick := { m.tick with phase := .L1 }, logic := { m.logic with snap := m.bits } }
    m.each (List.range 16) (fun m g => beginPass 1 g m)

/-- LOGIC_PASS_L1. -/
def execLogicPassL1 (s : State) : Host.Outcome State Fault Refusal := .next { s with mod := s.mod.awake logicPassL1 }

/-- LOGIC_PASS_L2 (R161): once in phase L2, every RUNNING engine begins pass L2 from the snapshot taken now. -/
def logicPassL2 (m : Mod) : Mod :=
  if !m.inPhase .L2 ∨ m.logic.l2 then m
  else
    let m := { m with logic := { m.logic with snap := m.bits, l2 := true } }
    m.each (List.range 16) (fun m g => beginPass 2 g m)

/-- LOGIC_PASS_L2. -/
def execLogicPassL2 (s : State) : Host.Outcome State Fault Refusal := .next { s with mod := s.mod.awake logicPassL2 }

/-- PASS_OVERRUN (R162, R172): a pass whose budget is used up without END. -/
def passOverrun (g : Nat) (m : Mod) : Mod :=
  let p := (m.engine g).run
  if p.pass = 0 ∨ p.used < m.budget g p.pass then m else m.tripPass g

/-- PASS_OVERRUN. -/
def execPassOverrun (g : Nat) (s : State) : Host.Outcome State Fault Refusal := .next { s with mod := s.mod.awake (passOverrun g) }

/-! ## Starts and stops (R171, R174) -/

/-- A cold start: word registers, timers and counters take 0, markers their safe values or 0, constants and presets the image's (R174). -/
def Mod.coldStart (m : Mod) (g : Nat) : Mod :=
  let m := m.setEngine g { m.engine g with words := [], timers := [], counters := [], consts := [], presets := [], limits := [] }
  let m := m.clearMarkers g
  m.setBits ((liSafe (m.engine g).inForce).filter (fun e => !isOutputBit e.1))

/-- A committed start of engine g (R171): refused with event 0x0603 unless STOPPED or FAULTED with an ownership free of conflict. Safe values that a
stop at the same tick has made due are taken at L1 start all the same, before the first pass (R174). -/
def startEngine (g : Nat) (m : Mod) : Mod :=
  if (m.engState g ≠ enStopped ∧ m.engState g ≠ enFaulted) ∨ ownsClash (m.engine g).own (m.othersOwn g) then
    m.raise 0x0603 [g, m.num 0x581004 g]
  else
    let m := if m.on 0x581006 g then m.coldStart g else m
    let m := (m.setEngState g enRunning).setEngine g { m.engine g with idleSaid := false }
    m.raise 0x0600 [g, m.num 0x581006 g, m.k]

/-- A committed stop of engine g: no pass from now on, and the owned bits take their safe values at L1 start (R171). -/
def stopEngine (g : Nat) (m : Mod) : Mod :=
  if m.engState g ≠ enRunning then m
  else ((m.setEngState g enStopped).setEngine g { m.engine g with run := {}, safeDue := true }).raise 0x0601 [g, m.k]

/-- ENGINE_AUTOSTART (R175): an engine with AUTOSTART 1 and a checked image starts at the tick at which the module first takes part in the vote, as a
MEMBER or standing alone, before its phase L1. A module that joined by resynchronisation has its engines' states from its donor. -/
def engineAutostart (g : Nat) (m : Mod) : Mod :=
  if m.on 0x58100D g ∧ m.engState g = enStopped ∧ m.tick.running ∧ m.triad.firstVote = some m.k ∧ phaseCode m.tick.phase < 3 then startEngine g m
  else m

/-- ENGINE_AUTOSTART. -/
def execEngineAutostart (g : Nat) (s : State) : Host.Outcome State Fault Refusal := .next { s with mod := s.mod.awake (engineAutostart g) }

/-! ## Images (R170, R171, R175) -/

/-- A new image object for engine g: any result is invalidated and the engine is UNLOADED; an empty object ends ownership, and
the bits read 0 (R170, R171). -/
def putLogicImage (g : Nat) (image : List Byte) (viaPort : Bool) (m : Mod) : Mod :=
  let m := if (m.engine g).safeDue then m.safeBits g false else m
  let m := if image.isEmpty then m.setBits ((m.engine g).own.flatMap (fun e => (List.range (32 * e.2)).map (fun i => (e.1 + i, false)))) else m
  let e := m.engine g
  let e := { e with image := image, viaPort := viaPort, checkPending := false, run := {}, safeDue := false, consts := [], presets := [], limits := [] }
  let m := m.setEngine g (if image.isEmpty then { e with own := [], inForce := [] } else e)
  let m := (m.set 0x581004 0 g).set 0x581010 0 g
  m.setEngState g enUnloaded

/-- A write served as R447 says of RWS objects: staged on a MEMBER whose tick runs, otherwise at once where its condition holds. -/
def Mod.rws (m : Mod) (p : Path) (obj sel : Nat) (v : Val) (ok : Bool) (act : Mod → Mod) : Mod :=
  if m.isMember && !m.stopped then
    let r := m.stageAll p [{ obj := obj, sel := sel, val := v }]
    r.1.report p r.2
  else if ok then (act m).report p 0
  else m.report p abState

/-- LOGIC_IMAGE_WRITE (R170, R171): refused while the engine is RUNNING, and longer than 165,412 octets. -/
def logicImageWrite (p : Path) (g : Nat) (image : List Byte) (m : Mod) : Mod :=
  if 15 < g then m.report p abSelector
  else if 165412 < image.length then m.report p abTooLong
  else m.rws p 0x581002 g (.oct image) (m.engState g != enRunning) (putLogicImage g image (isTenantPath p))

/-- LOGIC_IMAGE_WRITE. -/
def execLogicImageWrite (path : Path) (g : Nat) (image : List Byte) (s : State) : Host.Outcome State Fault Refusal :=
  .next { s with mod := s.mod.gate path (fun (m : Mod) => logicImageWrite path g image m) }

/-- LOGIC_CHECK (R170): writing 1 starts the check. -/
def logicCheckWrite (p : Path) (g v : Nat) (m : Mod) : Mod :=
  if 15 < g then m.report p abSelector
  else if v ≠ 1 then m.report p abValue
  else (m.setEngine g { m.engine g with checkPending := true }).report p 0

/-- LOGIC_CHECK. -/
def execLogicCheck (path : Path) (g v : Nat) (s : State) : Host.Outcome State Fault Refusal :=
  .next { s with mod := s.mod.gate path (fun (m : Mod) => logicCheckWrite path g v m) }

/-- The image of an UNLOADED engine has passed: STOPPED, ownership moves to it, its bits take safe values, and bits that the old ownership covered
and the new does not read 0 (R156, R171). Output bits that an UNLOADED engine still holds keep its safe values (log entry 42). -/
def loadEngine (g : Nat) (m : Mod) : Mod :=
  let e := m.engine g
  let own := liOwn e.image
  let others := m.othersOwn g
  let gone := (e.own.flatMap (fun x => (List.range (32 * x.2)).map (· + x.1))).filter (fun a => isOutputBit a && !ownCovers own a && !ownCovers others a)
  let m := m.setBits (gone.map (fun a => (a, false)))
  let m := m.setEngine g { e with own := own, inForce := e.image }
  (m.setBits ((liSafe e.image).filter (fun x => !(isOutputBit x.1 && ownCovers others x.1)))).setEngState g enStopped

/-- LOGIC_CHECK_DONE (R170, R171): the result of a check that was started; on PASS an UNLOADED engine moves to STOPPED. -/
def logicCheckDone (g : Nat) (m : Mod) : Mod :=
  let e := m.engine g
  if !e.checkPending then m
  else
    let bits := logicCheck g e.image (m.loadedOwn g) e.viaPort
    let pass := bits % 8192 == 0
    let r := bits + (if pass then 2 ^ 31 else 0)
    let m := (m.setEngine g { e with checkPending := false }).set 0x581004 r g
    if pass then
      let m := m.set 0x581010 (field e.image (e.image.length - 4) 4) g
      if m.engState g = enUnloaded then loadEngine g m else m
    else m.raise 0x0603 [g, r]

/-- LOGIC_CHECK_DONE. -/
def execLogicCheckDone (g : Nat) (s : State) : Host.Outcome State Fault Refusal := .next { s with mod := s.mod.awake (logicCheckDone g) }

/-- LOGIC_STORE (R184): writing 1 stores the checked image in configuration MRAM; without a passed check it is refused. -/
def logicStore (p : Path) (g v : Nat) (m : Mod) : Mod :=
  if 15 < g then m.report p abSelector
  else if v ≠ 1 then m.report p abValue
  else if !bit (m.num 0x581004 g) 31 then m.report p abCheck
  else { m with nv := { m.nv with logic := Table.put m.nv.logic g (m.engine g).image } }.report p 0

/-- LOGIC_STORE. -/
def execLogicStore (path : Path) (g v : Nat) (s : State) : Host.Outcome State Fault Refusal :=
  .next { s with mod := s.mod.gate path (fun (m : Mod) => logicStore path g v m) }

end Sys2Proof.Machine
end

