-- ==== Sys2Proof/Machine/Tenant.lean ====
section
/-!
DEFINITION. Tenants: windows, identities, publication slots and SC0 buffers, spoof checks, mailboxes, tenant bits, and the
commits that create, freeze, change and destroy a tenant (R200-R226).
-/
namespace Sys2Proof.Machine

/-! ## State of harts, tenants and slots -/

/-- What tenant t's VF holds. -/
def Mod.tenant (m : Mod) (t : Nat) : TenantSt := Table.get m.ten.tenants {} t
/-- A tenant's VF replaced. -/
def Mod.setTenant (m : Mod) (t : Nat) (x : TenantSt) : Mod := { m with ten := { m.ten with tenants := Table.set m.ten.tenants {} t x } }
/-- Publication slot i (R211). -/
def Mod.pub (m : Mod) (i : Nat) : PubSlot := Table.get m.ten.pubs {} i
/-- A publication slot replaced. -/
def Mod.setPub (m : Mod) (i : Nat) (x : PubSlot) : Mod := { m with ten := { m.ten with pubs := Table.set m.ten.pubs {} i x } }
/-- SC0 buffer b (R214). -/
def Mod.sc0 (m : Mod) (b : Nat) : Sc0Buf := Table.get m.ten.sc0 {} b
/-- An SC0 buffer replaced. -/
def Mod.setSc0 (m : Mod) (b : Nat) (x : Sc0Buf) : Mod := { m with ten := { m.ten with sc0 := Table.set m.ten.sc0 {} b x } }

/-- A run of memory octets written. -/
def Mod.poke (m : Mod) (a : Nat) (bs : List Byte) : Mod := { m with mem := Memory.writeN m.mem a bs }
/-- A run of memory cleared to 0. -/
def Mod.wipe (m : Mod) (a n : Nat) : Mod := { m with mem := m.mem.filter (fun e => !decide (a ≤ e.1 ∧ e.1 < a + n)) }

/-- The state of tenant t (R205). -/
def Mod.tnState (m : Mod) (t : Nat) : Nat := m.num 0x510001 t
/-- Where tenant SRAM lies (R191). -/
def sramAt : Nat := 0x10000000
/-- The SRAM allotment in force: physical base and size. -/
def Mod.tnSram (m : Mod) (t : Nat) : Nat × Nat := (sramAt + m.num 0x511101 t, m.num 0x511102 t)
/-- The VF aperture of tenant t (R193). -/
def vfAt (t : Nat) : Nat := 0x58000000 + 0x20000 * t
/-- Instance of publication slot u of tenant t in 0x5130. -/
def pubInst (t u : Nat) : Nat := 32 * (t - 1) + u

/-! ## Identities (R204) -/

/-- An identity made pending in a guest interrupt file: bit i of eip at offset 0x290 of the context (R203). -/
def ctxPend (ctx : List Byte) (i : Nat) : List Byte :=
  let c := slice ctx 0 2048
  c.set (0x290 + i / 8) (c.getD (0x290 + i / 8) 0 ||| BitVec.ofNat 8 (2 ^ (i % 8)))

/-- The harts whose window tenant t holds. -/
def Mod.hartsOf (m : Mod) (t : Nat) : List Nat := (m.ten.harts.filter (fun e => e.2.winTenant = t ∧ t ≠ 0)).map Prod.fst

/-- Identity i raised to tenant t: pending in the guest files bound to it, latched in VF_IRQ_LATCH while none is (R204). -/
def Mod.identity (m : Mod) (t i : Nat) : Mod :=
  match m.hartsOf t with
  | [] => m.setTenant t { m.tenant t with irqLatch := setBit (m.tenant t).irqLatch i true }
  | hs => m.each hs (fun m j => m.setHart j { m.hart j with ctx := ctxPend (m.hart j).ctx i })

/-- The identity of the supervisor for tenant t's mailbox, on the S file of its hart (R220). -/
def Mod.supIdentity (m : Mod) (t i : Nat) : Mod :=
  let j := m.num 0x514006 t
  let h := m.hart j
  m.setHart j { h with sFile := { h.sFile with eip := setBit h.sFile.eip i true } }

/-! ## Windows (R26-R28, R201-R203) -/

/-- Where core j keeps the background context (R201). -/
def saveArea (j : Nat) : Nat := 0x205E0000 + 0x800 * j

/-- hgatp from G_ROOT with VMID t in bits 57:44 (R201). -/
def hgatpOf (root t : Nat) : Nat := bitsOf root 63 58 * 2 ^ 58 + t * 2 ^ 44 + root % 2 ^ 44

/-- Phase T stands: where it begins now, phase L1 ends (R19, R20). -/
def Mod.startT (m : Mod) : Mod :=
  if m.tick.phase = .T then m else { m.endPasses with tick := { m.endPasses.tick with phase := .T } }

/-- WINDOW_ENTRY (R201): at the START of window w in a tick it runs in, where its tenant is RUNNING, the background context is
saved, the tenant's context loaded, hgatp set, identity 1 and every latched identity delivered; predictors are cleared (R197), buffered stores stay
(R198). `late` is an entry later than START + 0.5 µs. Which of VS and VU mode resumes is not part of the context: a free value. -/
def windowEntry (w : Nat) (late : Bool) (m : Mod) : Mod :=
  let e := lastWin m.activeLast w
  let t := e.tenant
  let j := e.core
  let h := m.hart j
  if !(m.inPhase .L1 || m.inPhase .T) ∨ !e.en ∨ m.k % 2 ^ e.div ≠ e.offset ∨ m.tnState t ≠ tnRunning ∨ h.winTenant ≠ 0 ∨ 255 < w then m
  else
    let m := m.startT
    let m := m.poke (saveArea j) (slice h.ctx 0 2048)
    let ctx := Memory.readN m.mem ((m.tnSram t).1 + 0x800 * j) 2048
    let ctx := ((List.range 16).filter (fun i => i = 1 ∨ bit (m.tenant t).irqLatch i)).foldl ctxPend ctx
    let m := m.setTenant t { m.tenant t with irqLatch := 0 }
    let (v, m) := m.draw 1
    let m := m.setHart j { h.unpredict with
      ctx := ctx
      mode := if v = 0 then .vs else .vu
      hgatp := hgatpOf (m.num 0x51000C t) t
      winTenant := t
      winTick := m.k
      winStart := e.start
      winEnd := e.stop
      winIndex := w
      bgMode := h.mode
      bgHgatp := h.hgatp
      stalled := none
      reserved := none }
    let m := (m.set 0x501001 1 j).set 0x501002 t j
    if late then m.bump 0x501003 j else m

/-- WINDOW_ENTRY. -/
def execWindowEntry (w : Nat) (late : Bool) (s : State) : Host.Outcome State Fault Refusal := .next { s with mod := s.mod.awake (windowEntry w late) }

/-- WINDOW_EXIT (R202): the tenant's context is saved, with ISOLATE the L1 caches are cleaned, and the background context is restored; predictors are
cleared (R197), buffered stores stay (R198). An interrupt 20 that waited is taken (R206). -/
def windowExit (w : Nat) (m : Mod) : Mod :=
  let j := (lastWin m.activeLast w).core
  let h := m.hart j
  if h.winTenant = 0 ∨ h.winIndex ≠ w then m
  else
    let m := m.poke ((m.tnSram h.winTenant).1 + 0x800 * j) (slice h.ctx 0 2048)
    let bg := Memory.readN m.mem (saveArea j) 2048
    let m := if m.num 0x510008 h.winTenant = 1 then m.isolate j else m
    let h := { (m.hart j).unpredict with
      ctx := if bg.all (· == 0) then [] else bg
      mode := h.bgMode
      hgatp := h.bgHgatp
      winTenant := 0
      winTick := 0
      winStart := 0
      winEnd := 0
      winIndex := 0
      bgMode := .m
      bgHgatp := 0
      stalled := none
      reserved := none }
    let m := m.setHart j (if h.irq20 then h.takeIrq20 else h)
    (m.set 0x501001 0 j).set 0x501002 0 j

/-- WINDOW_EXIT. -/
def execWindowExit (w : Nat) (s : State) : Host.Outcome State Fault Refusal := .next { s with mod := s.mod.awake (windowExit w) }

/-- The words of tenant bits of t as they enter the snapshot (R217). -/
def Mod.tbitsOf (m : Mod) (t : Nat) : List (Nat × Bool) :=
  (List.range (m.num 0x51110A t)).flatMap (fun i =>
    (List.range 32).map (fun b => (m.num 0x511109 t + 32 * i + b, bit (Table.get (m.tenant t).tbits 0 i) b)))

/-- PHASE_T_END (R20, R217): phase T ends and L2 begins: the snapshot of every word of tenant bits; bits outside every allotment read 0. -/
def phaseTEnd (m : Mod) : Mod :=
  if !(m.inPhase .L1 || m.inPhase .T) then m
  else
    let m := m.startT
    let m := { m with bits := m.bits.filter (fun e => !decide (0x90000 ≤ e.1 ∧ e.1 < 0xA0000)), tick := { m.tick with phase := .L2 } }
    m.each m.tenantsOn (fun m t => m.setBits (m.tbitsOf t))

/-- PHASE_T_END. -/
def execPhaseTEnd (s : State) : Host.Outcome State Fault Refusal := .next { s with mod := s.mod.awake phaseTEnd }

/-! ## Spoof checks (R215, R216) -/

/-- The fields of a frame that R215 reads: addresses, VLAN ID of the outer tag (0 untagged), EtherType after the tags, APPID. -/
structure FrameKeys where
  dst : List Byte
  src : List Byte
  vlan : Nat
  etype : Nat
  appid : Nat
deriving DecidableEq, Repr

/-- Where the EtherType after up to two tags lies. -/
def etypeAt (f : List Byte) : Nat :=
  let isTag := fun (a : Nat) => let v := beNat (slice f a 2); v = 0x8100 ∨ v = 0x88A8
  if isTag 12 then (if isTag 16 then 20 else 16) else 12

/-- The fields of a frame. -/
def frameKeys (f : List Byte) : FrameKeys :=
  let a := etypeAt f
  { dst := slice f 0 6, src := slice f 6 6, vlan := if a = 12 then 0 else beNat (slice f 14 2) % 4096,
    etype := beNat (slice f a 2), appid := beNat (slice f (a + 2) 2) }

/-- The U16 values of an OCTETS value. -/
def u16s (bs : List Byte) : List Nat := (List.range (bs.length / 2)).map (fun i => field bs (2 * i) 2)

/-- The first check of R215 that a frame of tenant t fails, numbered in the order of R215's rows; 0 when it passes all that a ring
frame must (log entry 50). -/
def Mod.ringCheck (m : Mod) (t : Nat) (f : List Byte) : Nat :=
  let k := frameKeys f
  let macs := m.oct 0x512001 t
  let ranges := u16s (m.oct 0x512004 t)
  if !(List.range (macs.length / 6)).any (fun i => slice macs (6 * i) 6 == k.src) then 1
  else if !(u16s (m.oct 0x512002 t)).contains k.vlan then 2
  else if !(u16s (m.oct 0x512003 t)).contains k.etype then 3
  else if (k.etype = 0x88B8 ∨ k.etype = 0x88B9 ∨ k.etype = 0x88BA) ∧
      !(List.range (ranges.length / 2)).any (fun i => decide (ranges.getD (2 * i) 0 ≤ k.appid ∧ k.appid ≤ ranges.getD (2 * i + 1) 0)) then 4
  else 0

/-- The first check that a slot frame fails: those of a ring frame, then the slot's own keys (R215). -/
def Mod.slotCheck (m : Mod) (t u : Nat) (f : List Byte) : Nat :=
  let r := m.ringCheck t f
  let k := frameKeys f
  let i := pubInst t u
  if r ≠ 0 then r
  else if k.dst ≠ m.oct 0x513001 i ∨ k.vlan ≠ m.num 0x513002 i ∨ k.etype ≠ m.num 0x513004 i ∨ k.appid ≠ m.num 0x513003 i then 5
  else 0

/-- Whether tenant t has reached VIOL_LIMIT (R216). -/
def Mod.violLimited (m : Mod) (t : Nat) : Bool := m.on 0x510009 t && decide (m.num 0x510009 t ≤ m.num 0x51000A t)

/-- A spoof violation of tenant t: counted, event 0x0510; at VIOL_LIMIT a freeze of kind SW is requested for k + 48 and event 0x0511 raised (R216). -/
def Mod.violation (m : Mod) (t check slot : Nat) : Mod :=
  let before := m.violLimited t
  let m := (m.bump 0x51000A t).raise 0x0510 [t, Config.eventField 0x0510 check, slot]
  if m.violLimited t && !before then (m.proposeOwn (m.k + 48) { freeze := some t }).raise 0x0511 [t, m.k + 48] else m

/-- VIOL_CLEAR (R216): writing 1 clears VIOL_COUNT. -/
def violClear (p : Path) (t v : Nat) (m : Mod) : Mod :=
  if t = 0 ∨ 64 < t then m.report p abSelector
  else if v ≠ 1 then m.report p abValue
  else (m.set 0x51000A 0 t).report p 0

/-- VIOL_CLEAR. -/
def execViolClear (path : Path) (t v : Nat) (s : State) : Host.Outcome State Fault Refusal :=
  .next { s with mod := s.mod.gate path (fun (m : Mod) => violClear path t v m) }

/-! ## Publication slots (R211-R213) -/

/-- PUB_STATUS[u] (R211). -/
def PubSlot.status (p : PubSlot) : Nat :=
  b2n p.busy * 2 ^ 31 + b2n (!p.standing.isEmpty) * 2 ^ 30 + p.result * 2 ^ 28 + p.sq % 2 ^ 16

/-- The tick a commit retired now belongs to: the current one up to the end of phase T, otherwise the next (R212). -/
def Mod.commitTick (m : Mod) : Nat :=
  match m.tick.phase with
  | .I | .F | .E | .L1 | .T => m.k
  | _ => m.k + 1

/-- PUB_COMMIT (R211, R215): a commit while BUSY is ignored and counted; a wrong token or a length outside 60 to 1,514 octets or
MAX_LEN fails; otherwise the copy begins. `data` is the 64-bit store: token in bits 63:32, length in 15:0. -/
def pubCommit (t u data : Nat) (m : Mod) : Mod :=
  let i := pubInst t u
  let p := m.pub i
  let len := data % 2 ^ 16
  if m.tnState t ≠ tnRunning ∨ m.num 0x511108 t ≤ u then m
  else if p.busy then m.bump 0x51300E i
  else if bitsOf data 63 32 ≠ m.num 0x513005 i then ((m.setPub i { p with result := 2 }).bump 0x51300E i).violation t 6 u
  else if len < 60 ∨ 1514 < len ∨ m.num 0x51300B i < len + 4 then ((m.setPub i { p with result := 3 }).bump 0x51300E i).violation t 7 u
  else m.setPub i { p with busy := true, copyLen := len, copyTick := m.commitTick }

/-- PUB_COMMIT. -/
def execPubCommit (t u data : Nat) (s : State) : Host.Outcome State Fault Refusal := .next { s with mod := s.mod.awake (pubCommit t u data) }

/-- PUB_COPY_DONE (R211, R212): the copied frame passes or fails R215; the last one accepted for a tick stands, an earlier one is counted. -/
def pubCopyDone (t u : Nat) (m : Mod) : Mod :=
  let i := pubInst t u
  let p := m.pub i
  if !p.busy then m
  else
    let f := Memory.readN m.mem (vfAt t + 0x10000 + 0x800 * u) p.copyLen
    let c := m.slotCheck t u f
    if c ≠ 0 then ((m.setPub i { p with busy := false, result := 3 }).bump 0x51300E i).violation t c u
    else
      let m := if (Table.find? p.standing p.copyTick).isSome then m.bump 0x51300D i else m
      m.setPub i { p with busy := false, result := 1, standing := Table.put p.standing p.copyTick f }

/-- PUB_COPY_DONE. -/
def execPubCopyDone (t u : Nat) (s : State) : Host.Outcome State Fault Refusal := .next { s with mod := s.mod.awake (pubCopyDone t u) }

/-! ## SC0 frame buffers (R214) -/

/-- Where SC0 buffer b lies. -/
def sc0At (b : Nat) : Nat := 0x58900000 + 0x800 * b

/-- SC0_STATUS[b]. -/
def Sc0Buf.status (x : Sc0Buf) : Nat := b2n x.busy * 2 ^ 31 + b2n (!x.standing.isEmpty) * 2 ^ 30 + x.result * 2 ^ 28

/-- The next tick whose low 32 bits are `lo`, counted from tick k: k itself where its own low bits are (R214). -/
def nextTickLow (k lo : Nat) : Nat := k + (lo + 2 ^ 32 - k % 2 ^ 32) % 2 ^ 32

/-- Whether phase V of the current tick has begun. -/
def Mod.inVP (m : Mod) : Bool :=
  match m.tick.phase with
  | .V | .P => true
  | _ => false

/-- SC0_COMMIT (R214): accepted where it retires before phase V of k_b, no more than 2^20 ticks ahead, within MAX_LEN and 60 to 1,514
octets; otherwise refused and counted. -/
def sc0Commit (b data : Nat) (m : Mod) : Mod :=
  let x := m.sc0 b
  let len := data % 2 ^ 16
  let kb := nextTickLow m.k (bitsOf data 63 32)
  if 255 < b then m
  else if (kb = m.k ∧ m.inVP) ∨ m.k + 2 ^ 20 < kb then (m.setSc0 b { x with result := 2 }).bump 0x516003 b
  else if m.num 0x516001 b < len + 4 ∨ len < 60 ∨ 1514 < len then (m.setSc0 b { x with result := 3 }).bump 0x516003 b
  else m.setSc0 b { x with busy := true, copyLen := len, copyTick := kb }

/-- SC0_COMMIT. -/
def execSc0Commit (b data : Nat) (s : State) : Host.Outcome State Fault Refusal := .next { s with mod := s.mod.awake (sc0Commit b data) }

/-- SC0_COPY_DONE (R214): the copied frame stands for its tick. -/
def sc0CopyDone (b : Nat) (m : Mod) : Mod :=
  let x := m.sc0 b
  if !x.busy then m
  else m.setSc0 b { x with busy := false, result := 1, standing := Table.put x.standing x.copyTick (Memory.readN m.mem (sc0At b) x.copyLen) }

/-- SC0_COPY_DONE. -/
def execSc0CopyDone (b : Nat) (s : State) : Host.Outcome State Fault Refusal := .next { s with mod := s.mod.awake (sc0CopyDone b) }

/-! ## Mailboxes (R219-R221) -/

/-- Where inbound (outbound) slot i of tenant t lies. -/
def mbAt (t : Nat) (inbound : Bool) (i : Nat) : Nat := vfAt t + (if inbound then 0x1000 else 0x2000) + 256 * i

/-- A request naming a generation other than the tenant's: discarded, the slot cleared, counted, event 0x0512 (R221). -/
def Mod.stale (m : Mod) (t : Nat) (inbound : Bool) (i gen : Nat) : Mod :=
  let x := m.tenant t
  let m := m.setTenant t (if inbound then { x with mbIn := setBit x.mbIn i false } else { x with mbOut := setBit x.mbOut i false })
  ((m.wipe (mbAt t inbound i) 256).bump 0x514003 t).raise 0x0512 [t, gen, m.num 0x510002 t]

/-- A slot stamped with GEN and the low 32 bits of k (R219). -/
def Mod.stampSlot (m : Mod) (a t : Nat) : Mod :=
  (m.poke (a + 2) (toLE 1 (m.num 0x510002 t))).poke (a + 8) (toLE 4 (m.k % 2 ^ 32))

/-- MB_OUT_POST (R220): an outbound slot that is empty is stamped and set full, and the supervisor is signalled; a full one is ignored and counted. -/
def mbOutPost (t slot gen : Nat) (m : Mod) : Mod :=
  if t = 0 ∨ 64 < t ∨ 15 < slot then m
  else if gen ≠ m.num 0x510002 t then m.stale t false slot gen
  else if m.tnState t = tnEmpty then m
  else if bit (m.tenant t).mbOut slot then m.bump 0x514004 t
  else
    let m := m.stampSlot (mbAt t false slot) t
    let m := m.setTenant t { m.tenant t with mbOut := setBit (m.tenant t).mbOut slot true }
    (m.bump 0x514002 t).supIdentity t (m.num 0x514005 t)

/-- MB_OUT_POST. -/
def execMbOutPost (t slot gen : Nat) (s : State) : Host.Outcome State Fault Refusal := .next { s with mod := s.mod.awake (mbOutPost t slot gen) }

/-- MB_IN_RELEASE (R220): the tenant frees an inbound slot, and its sender takes identity 3. -/
def mbInRelease (t slot gen : Nat) (m : Mod) : Mod :=
  if t = 0 ∨ 64 < t ∨ 15 < slot then m
  else if gen ≠ m.num 0x510002 t then m.stale t true slot gen
  else if m.tnState t = tnEmpty then m
  else (m.setTenant t { m.tenant t with mbIn := setBit (m.tenant t).mbIn slot false }).supIdentity t 3

/-- MB_IN_RELEASE. -/
def execMbInRelease (t slot gen : Nat) (s : State) : Host.Outcome State Fault Refusal := .next { s with mod := s.mod.awake (mbInRelease t slot gen) }

/-- MB_POST (R220, R221): the supervisor posts an inbound slot, naming a generation; identity 2. -/
def mbPost (t slot gen : Nat) (m : Mod) : Mod :=
  if t = 0 ∨ 64 < t ∨ 15 < slot then m
  else if gen ≠ m.num 0x510002 t then m.stale t true slot gen
  else if m.tnState t = tnEmpty then m
  else if bit (m.tenant t).mbIn slot then m.bump 0x514004 t
  else
    let m := m.stampSlot (mbAt t true slot) t
    let m := m.setTenant t { m.tenant t with mbIn := setBit (m.tenant t).mbIn slot true }
    (m.bump 0x514001 t).identity t 2

/-- MB_POST. -/
def execMbPost (t slot gen : Nat) (s : State) : Host.Outcome State Fault Refusal := .next { s with mod := s.mod.awake (mbPost t slot gen) }

/-- MB_RELEASE (R220, R221): the supervisor frees an outbound slot, naming a generation; identity 3. -/
def mbRelease (t slot gen : Nat) (m : Mod) : Mod :=
  if t = 0 ∨ 64 < t ∨ 15 < slot then m
  else if gen ≠ m.num 0x510002 t then m.stale t false slot gen
  else if m.tnState t = tnEmpty then m
  else (m.setTenant t { m.tenant t with mbOut := setBit (m.tenant t).mbOut slot false }).identity t 3

/-- MB_RELEASE. -/
def execMbRelease (t slot gen : Nat) (s : State) : Host.Outcome State Fault Refusal := .next { s with mod := s.mod.awake (mbRelease t slot gen) }

/-- VF_IRQ_LATCH_CLEAR (R208): the latched identities whose bits are written 1 are cleared. -/
def vfIrqLatchClear (t mask : Nat) (m : Mod) : Mod :=
  let x := m.tenant t
  m.setTenant t { x with irqLatch := (List.range 16).foldl (fun v i => if bit mask i then setBit v i false else v) x.irqLatch }

/-- VF_IRQ_LATCH_CLEAR. -/
def execVfIrqLatchClear (t mask : Nat) (s : State) : Host.Outcome State Fault Refusal := .next { s with mod := s.mod.awake (vfIrqLatchClear t mask) }

/-! ## Allotments (R222-R224) -/

/-- Whether two ranges, each a start and a count, overlap. -/
def rangesMeet (a n b k : Nat) : Bool := decide (a < b + k ∧ b < a + n)

/-- The tenants other than t that are not EMPTY. -/
def Mod.otherTenants (m : Mod) (t : Nat) : List Nat := m.tenantsOn.filter (· ≠ t)

/-- REFUSE_CAUSE of the allotment that 0x5110[t] holds; 0 when it passes (R194, R222, R223). -/
def Mod.allotCause (m : Mod) (t : Nat) : Nat :=
  let others := m.otherTenants t
  let base := m.num 0x511001 t
  let size := m.num 0x511002 t
  let live := m.tnState t ≠ tnEmpty
  let fresh := m.ten.clearing.any (fun c => rangesMeet base size c.1 c.2)
  let own := m.num 0x511102 t
  if base % 0x10000 ≠ 0 ∨ size % 0x10000 ≠ 0 ∨ size < 0x40000 ∨ 0x2000000 < size ∨ 0x2800000 < base + size ∨
      others.any (fun u => rangesMeet base size (m.num 0x511101 u) (m.num 0x511102 u)) ∨ fresh then 1
  else if live ∧ own ≠ 0 ∧ base ≠ m.num 0x511101 t then 2
  else if others.any (fun u =>
      rangesMeet (m.num 0x511003 t) (m.num 0x511004 t) (m.num 0x511103 u) (m.num 0x511104 u) ||
      rangesMeet (m.num 0x511005 t) (m.num 0x511006 t) (m.num 0x511105 u) (m.num 0x511106 u) ||
      rangesMeet (m.num 0x511009 t) (32 * m.num 0x51100A t) (m.num 0x511109 u) (32 * m.num 0x51110A u) ||
      (List.range 16).any (fun g => bit (m.num 0x511007 t) g && bit (m.num 0x511107 u) g)) ∨
      0xC00000 < m.num 0x51100B t + (others.map (fun u => m.num 0x51110B u)).sum then 3
  else if (List.range 16).any (fun g => live && bit (m.num 0x511107 t) g && !bit (m.num 0x511007 t) g && m.engState g == enRunning) then 4
  else if 512 < (m.oct 0x51100C t).length then 5
  else 0

/-- A slot taken from or given to a tenant: TYPE 0 and OWNER updated (R224, R226); its commit resets it (R134). -/
def Mod.reownSlot (m : Mod) (e owner : Nat) : Mod := (m.set 0x481001 0 e).set 0x481016 owner e

/-- The slots of an allotment that lie in neither of two ranges' common part change owner. -/
def Mod.reownSlots (m : Mod) (t oldBase oldCount newBase newCount : Nat) : Mod :=
  let inside := fun (b n e : Nat) => decide (b ≤ e ∧ e < b + n)
  let gone := ((List.range oldCount).map (· + oldBase)).filter (fun e => !inside newBase newCount e)
  let come := ((List.range newCount).map (· + newBase)).filter (fun e => !inside oldBase oldCount e)
  let m := m.each gone (fun m e => m.reownSlot e 0)
  m.each come (fun m e => m.reownSlot e t)

/-- Counts over all tenants: TENANTS_ACTIVE, SRAM_FREE and SRAM_CLEARING. -/
def Mod.tenantTotals (m : Mod) : Mod :=
  let used := (m.tenantsOn.map (fun t => m.num 0x511102 t)).sum
  ((m.set 0x500002 m.tenantsOn.length).set 0x500003 (41943040 - used)).set 0x500004 ((m.ten.clearing.map Prod.snd).sum)

/-- Memory taken from a tenant is cleared in the background (R224). -/
def Mod.startClearing (m : Mod) (base size : Nat) : Mod :=
  if size = 0 then m else { m with ten := { m.ten with clearing := m.ten.clearing ++ [(base, size)] } }.tenantTotals

/-- Tenant bits that a change of range takes from a tenant: from the old range, outside the new one. -/
def Mod.dropTbits (m : Mod) (base words newBase newWords : Nat) : Mod :=
  { m with bits := m.bits.filter (fun e => !(decide (base ≤ e.1 ∧ e.1 < base + 32 * words) && !decide (newBase ≤ e.1 ∧ e.1 < newBase + 32 * newWords))) }

/-- The staged allotment in force: 0x5111 takes 0x5110, slots change owner, added publication slots draw tokens and removed ones fall
silent, removed tenant bits read 0, added SRAM reads 0 and removed SRAM is cleared (R224). -/
def Mod.takeAllotment (m : Mod) (t : Nat) : Mod :=
  let oldBase := m.num 0x511101 t
  let oldSize := m.num 0x511102 t
  let m := m.reownSlots t (m.num 0x511105 t) (m.num 0x511106 t) (m.num 0x511005 t) (m.num 0x511006 t)
  let m := m.dropTbits (m.num 0x511109 t) (m.num 0x51110A t) (m.num 0x511009 t) (m.num 0x51100A t)
  let oldPubs := m.num 0x511108 t
  let newPubs := m.num 0x511008 t
  let m := m.each ((List.range 32).filter (fun u => newPubs ≤ u ∧ u < oldPubs)) (fun m u => m.setPub (pubInst t u) {})
  let m := m.each ((List.range 32).filter (fun u => oldPubs ≤ u ∧ u < newPubs)) (fun m u =>
    let (tok, m) := m.draw 32
    (m.setPub (pubInst t u) {}).set 0x513005 tok (pubInst t u))
  let m := m.each ((List.range 11).map (· + 1)) (fun m i => m.set (0x511100 + i) (m.num (0x511000 + i) t) t)
  let m := m.setOct 0x51110C (m.oct 0x51100C t) t
  let newSize := m.num 0x511102 t
  let m := if oldSize = 0 then m
    else if newSize < oldSize then m.startClearing (oldBase + newSize) (oldSize - newSize)
    else m.wipe (sramAt + oldBase + oldSize) (newSize - oldSize)
  m.tenantTotals

/-- A committed change of allotment at k_c: a tenant that was running takes identity 4 and its RES_GEN advances; event 0x0504 (R222, R224). -/
def resourceApply (t : Nat) (m : Mod) : Mod :=
  let m := m.set 0x511011 2 t
  if m.tnState t = tnEmpty then m
  else
    let m := m.takeAllotment t
    let g := (m.tenant t).resGen + 1
    let m := m.setTenant t { m.tenant t with resGen := g }
    (if m.tnState t = tnRunning then m.identity t 4 else m).raise 0x0504 [t, g, m.k]

/-- SRAM_CLEAR_DONE (R224): the oldest range being cleared reads 0 and can be allotted again. -/
def sramClearDone (m : Mod) : Mod :=
  match m.ten.clearing with
  | [] => m
  | (b, n) :: rest => ({ m with ten := { m.ten with clearing := rest } }.wipe (sramAt + b) n).tenantTotals

/-- SRAM_CLEAR_DONE. -/
def execSramClearDone (s : State) : Host.Outcome State Fault Refusal := .next { s with mod := s.mod.awake sramClearDone }

/-! ## Creation, freeze and destruction (R205, R225, R226) -/

/-- A new use of tenant number t: RUNNING with GEN raised, its allotment in force, its memory, context area and VF zeroed, tokens drawn. -/
def Mod.newTenant (m : Mod) (t : Nat) : Mod :=
  let m := m.set 0x510002 ((m.num 0x510002 t + 1) % 256) t
  let m := { m with ten := { m.ten with tenants := Table.del m.ten.tenants t } }
  let m := (m.wipe (vfAt t) 0x20000).set 0x51000A 0 t
  let m := (m.set 0x510001 tnRunning t).takeAllotment t
  m.wipe (m.tnSram t).1 (m.tnSram t).2

/-- A committed creation (R205): from EMPTY, event 0x0500. -/
def tenantCreate (t : Nat) (m : Mod) : Mod :=
  if m.tnState t ≠ tnEmpty then m else (m.newTenant t).raise 0x0500 [t, (m.newTenant t).num 0x510002 t, m.k]

/-- A save of tenant t's image is at its end: the tenant is no longer FROZEN with kind ALL (R227). -/
def Mod.endSave (m : Mod) (t : Nat) : Mod :=
  if m.num 0x515003 = 1 ∧ m.ten.saving = t then { m with ten := { m.ten with saving := 0, readPos := 0 } }.set 0x515003 0 else m

/-- A freeze of a RUNNING tenant, cause 1 by commit and 2 for violations: cores running its background work take local interrupt 20, one whose background
a window interrupts when that resumes; event 0x0502 (R205, R206, R225). -/
def tenantFreeze (t cause : Nat) (m : Mod) : Mod :=
  if m.tnState t ≠ tnRunning then m
  else
    let m := (m.set 0x510001 tnFrozen t).set 0x51000D cause t
    let m := m.setTenant t { m.tenant t with frozenAt := m.k }
    let m := m.each (m.ten.harts.map Prod.fst) (fun m j =>
      let h := m.hart j
      if h.winTenant = 0 ∧ isGuest h.mode ∧ vmidOf h.hgatp = t then m.setHart j h.takeIrq20
      else if h.winTenant ≠ 0 ∧ isGuest h.bgMode ∧ vmidOf h.bgHgatp = t then m.setHart j { h with irq20 := true }
      else m)
    m.raise 0x0502 [t, if cause = 1 then m.num 0x510006 t else 0, cause, m.k]

/-- A committed unfreeze: identity 5, event 0x0503 (R205). -/
def tenantUnfreeze (t : Nat) (m : Mod) : Mod :=
  if m.tnState t ≠ tnFrozen then m
  else ((((m.endSave t).set 0x510001 tnRunning t).set 0x51000D 0 t).identity t 5).raise 0x0503 [t, m.k]

/-- A committed destruction (R226): transmission stops, slots go back, engines of the mask stop with safe values and leave it,
publication slots and mailbox are cleared, and the SRAM range is cleared; event 0x0501. -/
def tenantDestroy (t : Nat) (m : Mod) : Mod :=
  if m.tnState t = tnEmpty then m
  else
    let (base, size) := (m.num 0x511101 t, m.num 0x511102 t)
    let m := m.reownSlots t (m.num 0x511105 t) (m.num 0x511106 t) 0 0
    let m := m.each ((List.range 16).filter (fun g => bit (m.num 0x511107 t) g)) (fun m g => (stopEngine g m).safeBits g true)
    let m := (m.endSave t).dropTbits (m.num 0x511109 t) (m.num 0x51110A t) 0 0
    let m := m.each (List.range 32) (fun m u => (m.setPub (pubInst t u) {}).set 0x513005 0 (pubInst t u))
    let m := { m with ten := { m.ten with tenants := Table.del m.ten.tenants t } }
    let m := (m.wipe (vfAt t) 0x20000).clearSubs 0x5111 1 0x0C t
    let m := ((m.set 0x510001 tnEmpty t).set 0x51000D 0 t).startClearing base size
    m.tenantTotals.raise 0x0501 [t, m.k]

/-! ## Cores (R188, R200, R206) -/

/-- ILLEGAL_INSTRUCTION (R188): an instruction or CSR access of an absent extension raises an illegal-instruction exception, `word` being its trap
value (log entry 58). -/
def illegalInstruction (j word : Nat) (m : Mod) : Mod := m.trap j 2 word false

/-- ILLEGAL_INSTRUCTION. -/
def execIllegalInstruction (hart word : Nat) (s : State) : Host.Outcome State Fault Refusal :=
  .next { s with mod := s.mod.awake (illegalInstruction hart word) }

/-- FROZEN_GUEST_RETURN (R206): an SRET or MRET into VS or VU mode under a VMID whose tenant is FROZEN raises an illegal-instruction
exception; any other return that the mode may execute takes place, and one that it may not traps: as a virtual instruction in a guest (R188). The trap value
is the word or 0 (log entry 58). -/
def frozenGuestReturn (j word : Nat) (tval : Bool) (m : Mod) : Mod :=
  let h := m.hart j
  let value := if tval then word else 0
  match h.returnMode word with
  | none => m.trap j (if isGuest h.mode then 22 else 2) value false
  | some mode =>
    if isGuest mode ∧ m.tnState (vmidOf h.hgatp) = tnFrozen then m.trap j 2 value false else m.setHart j (h.return word mode)

/-- FROZEN_GUEST_RETURN. -/
def execFrozenGuestReturn (hart word : Nat) (tval : Bool) (s : State) : Host.Outcome State Fault Refusal :=
  .next { s with mod := s.mod.awake (frozenGuestReturn hart word tval) }

/-- MRAM_SYNC_READ (R200): every earlier MRAM write of the loading hart is durable, and the load returns 1. -/
def mramSyncRead (j : Nat) (m : Mod) : Mod := m.setHart j { m.hart j with mramPend := [], loaded := toLE 4 1 }

/-- MRAM_SYNC_READ. -/
def execMramSyncRead (hart : Nat) (s : State) : Host.Outcome State Fault Refusal := .next { s with mod := s.mod.awake (mramSyncRead hart) }

end Sys2Proof.Machine
end

