-- ==== Sys2Proof/Machine/PhysMem.lean ====
section
/-!
DEFINITION. The physical address space as loads see it: its regions, the records of the measurement window, the filed-sample aperture and
the VF registers (R85, R114, R115, R119, R150, R191-R193, R208, R214, R295, R463).
-/
namespace Sys2Proof.Machine

/-- The regions of R191. -/
inductive Region where
  | bootRom | tenantSram | supSram | window | clicker | device | filed | vf | sc0 | mram | remote | absent
deriving DecidableEq, Repr

/-- The region an address lies in (R191). -/
def regionOf (a : Nat) : Region :=
  let within := fun (lo hi : Nat) => decide (lo ≤ a ∧ a ≤ hi)
  if within 0 0xFFFF then .bootRom
  else if within 0x10000000 0x127FFFFF then .tenantSram
  else if within 0x20000000 0x205FFFFF then .supSram
  else if within 0x30000000 0x305FFFFF then .window
  else if within 0x40000000 0x40BFFFFF then .clicker
  else if within 0x50000000 0x53FFFFFF then .device
  else if within 0x54000000 0x57FFFFFF then .filed
  else if within 0x58000000 0x5881FFFF then .vf
  else if within 0x58900000 0x5897FFFF then .sc0
  else if within 0x60000000 0x60FFFFFF then .mram
  else if within 0x800000000000 0x8FFFFFFFFFFF then .remote
  else .absent

/-! ## The measurement window (R192) -/

/-- A phasor record's words (R114). -/
def phasorWords (x : Phasor) : List Nat := [x.x.re, x.x.im, x.mag, x.freq, x.tick, x.status, x.origin, 0]

/-- Group v's frequency record as phase F wrote it last (R115, R116). -/
def Mod.freqWords (m : Mod) (v : Nat) : List Nat :=
  let r := Table.get m.phasor.freqs { freq := m.phasor.offFreq } v
  [r.freq, r.rocof, r.resid, r.srcMag, r.tick, r.status, 0, 0]

/-- A sequence record's words (R119). -/
def seqWords (x : SeqRec) : List Nat :=
  [x.x0.re, x.x0.im, x.x1.re, x.x1.im, x.x2.re, x.x2.im, x.m0, x.m1, x.m2, x.freq, x.tick, x.status, x.origin, 0, 0, 0]

/-- Slot e's record (R150). -/
def Mod.slotWords (m : Mod) (e : Nat) : List Nat :=
  let x := Table.get m.element.slots {} e
  [x.out % 256, x.value, x.value2, m.num 0x481022 e, x.tick, x.puTick, x.opTick, 0]

/-- A word of the logic bit image: 32 bits from bit address a (R192). -/
def Mod.imageWord (m : Mod) (a : Nat) : Nat := (List.range 32).foldl (fun n i => n + b2n (m.bitAt (a + i)) * 2 ^ i) 0

/-- The aligned 32-bit word at an offset of the measurement window; none where there is no record. -/
def Mod.windowWord (m : Mod) (o : Nat) : Option Nat :=
  if o < 0x100000 then some ((Table.get (m.chan (o / 64)).recs [] (o / 16 % 4)).getD (o / 4 % 4) 0)
  else if o < 0x200000 then
    let o := o - 0x100000
    some ((phasorWords (Table.get (m.phChan (o / 64)).recs {} (o / 32 % 2))).getD (o / 4 % 8) 0)
  else if o < 0x200000 + 32 * 256 then
    let o := o - 0x200000
    some ((m.freqWords (o / 32)).getD (o / 4 % 8) 0)
  else if 0x210000 ≤ o ∧ o < 0x210000 + 64 * 4096 then
    let o := o - 0x210000
    some ((seqWords (Table.get m.phasor.seqs {} (o / 64))).getD (o / 4 % 16) 0)
  else if 0x300000 ≤ o ∧ o < 0x300000 + 32 * 4096 then
    let o := o - 0x300000
    some ((m.slotWords (o / 32)).getD (o / 4 % 8) 0)
  else if 0x400000 ≤ o ∧ o < 0x420000 then some (m.imageWord (8 * (o - 0x400000)))
  else none

/-! ## The filed-sample aperture (R295) -/

/-- The record of stream s and filing tick k_f mod 64: KF_LO, LEN, a reserved field and the digest input of R55. -/
def Mod.filedRecord (m : Mod) (s r : Nat) : List Byte :=
  match Table.find? m.ingest.store (64 * s + r) with
  | some x =>
    let d := digestInput x.subs
    toLE 4 (x.kf % 2 ^ 32) ++ toLE 2 d.length ++ [0, 0] ++ d
  | none => []

/-! ## VF registers (R208, R214, R463) -/

/-- A 32-bit word of a VF's registers as core `j` reads it; aperture 0 differs as R463 states. Unlisted offsets read 0. -/
def Mod.vfWord (m : Mod) (t o : Nat) (j : Option Nat) : Nat :=
  let x := m.tenant t
  let h := match j with
    | some j => m.hart j
    | none => {}
  let inWin := h.winTenant != 0
  let lo := fun (n : Nat) => n % 2 ^ 32
  let range := fun (c f : Nat) => m.num c t * 65536 + m.num f t
  if 0x200 ≤ o ∧ o < 0x280 then (if t = 0 then 0 else (m.pub (pubInst t ((o - 0x200) / 4))).status)
  else if 0x280 ≤ o ∧ o < 0x300 then (if t = 0 then 0 else m.num 0x513005 (pubInst t ((o - 0x280) / 4)))
  else if 0x400 ≤ o ∧ o < 0x600 then field x.dp.data (o - 0x400) 4
  else if 0x800 ≤ o ∧ o < 0x880 then Table.get x.tbits 0 ((o - 0x800) / 4)
  else if t = 0 ∧ 0x80 ≤ o ∧ o ≤ 0x8C then 0
  else match o with
    | 0x000 => m.num 0x510002 t * 2 ^ 24 + t * 2 ^ 16 + 1
    | 0x008 => lo m.k
    | 0x00C => x.tickHi
    | 0x010 => if inWin then lo h.winTick else 0xFFFFFFFF
    | 0x014 => lo h.winStart
    | 0x018 => lo h.winEnd
    | 0x01C => if inWin then j.getD 0 else 0xFFFFFFFF
    | 0x020 => x.resGen
    | 0x024 => lo x.tickShift
    | 0x028 => x.tickShift / 2 ^ 32
    | 0x02C => x.irqLatch
    | 0x030 => m.num 0x511102 t
    | 0x034 => range 0x511104 0x511103
    | 0x038 => range 0x511106 0x511105
    | 0x03C => m.num 0x511107 t
    | 0x040 => m.num 0x511108 t
    | 0x044 => m.num 0x51110A t * 2 ^ 24 + m.num 0x511109 t
    | 0x048 => m.num 0x51110B t
    | 0x080 => x.mbIn
    | 0x088 => x.mbOut
    | 0x090 => m.num 0x51000A t
    | 0x094 => m.num 0x510009 t
    | 0x0A0 => lo x.tx.base
    | 0x0A4 => x.tx.base / 2 ^ 32
    | 0x0A8 => x.tx.size
    | 0x0AC => x.tx.tail
    | 0x0B0 => x.tx.head
    | 0x0B8 => lo x.rx.base
    | 0x0BC => x.rx.base / 2 ^ 32
    | 0x0C0 => x.rx.size
    | 0x0C4 => x.rx.tail
    | 0x0C8 => x.rx.head
    | 0x0E0 => if t = 0 then 1 else 0
    | 0x300 => x.dp.addr
    | 0x304 => x.dp.instSel
    | 0x308 => lo x.dp.tick
    | 0x30C => x.dp.tick / 2 ^ 32
    | 0x310 => x.dp.len
    | 0x318 => x.dp.status
    | 0x31C => x.dp.abort
    | 0x320 => if t = 0 then x.dp.offset else 0
    | 0x324 => if t = 0 then x.dp.total else 0
    | _ => 0

/-- A 32-bit word of a VF aperture: registers, mailbox slots and publication frame buffers; in aperture 0 the SC0 registers of R214 in
place of mailboxes. -/
def Mod.apertureWord (m : Mod) (a : Nat) (j : Option Nat) : Nat :=
  let t := (a - 0x58000000) / 0x20000
  let o := (a - 0x58000000) % 0x20000
  if o < 0x1000 then m.vfWord t o j
  else if t = 0 ∧ o < 0x3000 then (if 0x1800 ≤ o ∧ o < 0x1C00 then (m.sc0 ((o - 0x1800) / 4)).status else 0)
  else if 0x3000 ≤ o ∧ o < 0x10000 then 0
  else leNat (Memory.readN m.mem a 4)

/-- Whether offset o of aperture t holds a write-only register, whose reads the manual gives no value (R208, R214, R463; log entry 177). -/
def writeOnly (t o : Nat) : Bool :=
  decide (0x100 ≤ o ∧ o < 0x200) || o == 0x314 ||
    (if t = 0 then decide (0x1000 ≤ o ∧ o < 0x1800) || [0x0D0, 0x0D4, 0x0E4, 0x0E8].contains o else [0x084, 0x08C].contains o)

/-! ## A physical load -/

/-- Whether a run of addresses lies in one region. -/
def inRegion (r : Region) (a n : Nat) : Bool := regionOf a == r && regionOf (a + n - 1) == r

/-- Aligned words covering a run, by a word function; none where one is absent. -/
def wordsFrom (f : Nat → Option Nat) (a n : Nat) : Option (List Byte) :=
  let a0 := a / 4 * 4
  let ws := (List.range ((a + n - a0 + 3) / 4)).map (fun i => f (a0 + 4 * i))
  if ws.all Option.isSome then some (slice (ws.flatMap (fun w => toLE 4 (w.getD 0))) (a - a0) n) else none

/-- The octets a load of the physical address space gives, and the module after it: none where the address does not exist. Device registers
and remote windows are not read here. -/
def Mod.physRead (m : Mod) (a n : Nat) (j : Option Nat) : Option (List Byte) :=
  match regionOf a with
  | .bootRom => if inRegion .bootRom a n then some ((List.range n).map (fun i => Config.bootRom (a + i))) else none
  | .tenantSram => if inRegion .tenantSram a n then some (Memory.readN m.mem a n) else none
  | .supSram => if inRegion .supSram a n then some (Memory.readN m.mem a n) else none
  | .clicker => if inRegion .clicker a n then some (Memory.readN m.mem a n) else none
  | .sc0 => if inRegion .sc0 a n then some (Memory.readN m.mem a n) else none
  | .mram => if inRegion .mram a n then some (Memory.readN m.mem a n) else none
  | .window => if inRegion .window a n then wordsFrom (fun x => m.windowWord (x - 0x30000000)) a n else none
  | .vf => if inRegion .vf a n then wordsFrom (fun x => some (m.apertureWord x j)) a n else none
  | .filed | .device | .remote | .absent => none

/-- Octets whose values the manual does not give: free values. -/
def Mod.drawOctets (m : Mod) : Nat → List Byte × Mod
  | 0 => ([], m)
  | n + 1 =>
    let (v, m) := m.draw 8
    let (t, m) := m.drawOctets n
    (BitVec.ofNat 8 v :: t, m)

/-- A load of the filed-sample aperture: octet i of a record that holds one is that octet, the reserved field reading 0 (R8); what lies beyond the record's LEN octets
and a place that holds none read as free values (R295; log entry 68). -/
def Mod.filedLoad (m : Mod) (o : Nat) : Nat → List Byte × Mod
  | 0 => ([], m)
  | n + 1 =>
    let r := m.filedRecord (o / 0x8000) (o % 0x8000 / 0x200)
    let i := o % 0x200
    let (b, m') := if i < r.length then ((r.getD i 0).toNat, m) else m.draw 8
    let (t, m'') := m'.filedLoad (o + 1) n
    (BitVec.ofNat 8 b :: t, m'')

/-- What a load gives at an address of the map, and the module after it: the write-only registers, the device registers and what a filed record does not
give read as free values (R463; log entries 68, 177 and 178). -/
def Mod.loadOctets (m : Mod) (a n : Nat) (j : Option Nat) : Option (List Byte × Mod) :=
  let o := a - 0x58000000
  if regionOf a = .device ∨ (regionOf a = .vf ∧ writeOnly (o / 0x20000) (o % 0x20000 / 4 * 4)) then
    (if inRegion (regionOf a) a n then some (m.drawOctets n) else none)
  else if regionOf a = .filed then (if inRegion .filed a n then some (m.filedLoad (a - 0x54000000) n) else none)
  else (m.physRead a n j).map (fun bs => (bs, m))

end Sys2Proof.Machine
end

