-- ==== Sys2Proof/Machine/ClickerCore.lean ====
section
/-!
DEFINITION. The Clicker's slots, rows and records: what a tick is captured as, the layout of an area, arming and the end of a record, detections
and cross-triggers, TRIG lines, and the check of an enable (R400-R417).
-/
namespace Sys2Proof.Machine

/-! ## Slots (R400, R404, R412, R414) -/

/-- The states of R412. -/
def ckDisabled : Nat := 0
/-- ARMED. -/
def ckArmed : Nat := 1
/-- TRIGGERED. -/
def ckTriggered : Nat := 2
/-- COMPLETE. -/
def ckComplete : Nat := 3
/-- DRAINING. -/
def ckDraining : Nat := 4
/-- DONE. -/
def ckDone : Nat := 5

/-- Slot x's record state. -/
def Mod.ck (m : Mod) (x : Nat) : ClickSlot := Table.get m.click.slots {} x
/-- Slot x's record state replaced. -/
def Mod.setCk (m : Mod) (x : Nat) (s : ClickSlot) : Mod := { m with click := { m.click with slots := Table.set m.click.slots {} x s } }
/-- STATE of slot x. -/
def Mod.ckState (m : Mod) (x : Nat) : Nat := m.num 0x4C2001 x

/-- Rows per tick of slot x: 1, or 3 at RATE 1 (R402). -/
def Mod.ckPer (m : Mod) (x : Nat) : Nat := if m.num 0x4C1005 x = 1 then 3 else 1
/-- Whether bit i of slot x's MODE is set: 0 CONTINUOUS, 1 STOP_ON_VIOL, 2 AUTO_DRAIN, 3 AUTO_REARM. -/
def Mod.ckMode (m : Mod) (x i : Nat) : Bool := bit (m.num 0x4C1006 x) i

/-- ROW_BYTES for N_A analogue and N_B binary signals (R404). -/
def rowBytes (na nb : Nat) : Nat := 8 + 4 * na + 4 * ((na + 3) / 4) + 4 * ((nb + 31) / 32)
/-- The offset of the ring in an area: the first 64-byte boundary after the descriptors (R414). -/
def ringStart (na nb : Nat) : Nat := (0x100 + 16 * na + 4 * nb + 63) / 64 * 64
/-- RING_ROWS of an area of a size. -/
def ringRows (size na nb : Nat) : Nat := (size - ringStart na nb) / rowBytes na nb

/-- ROW_BYTES of a slot's record. -/
def ClickSlot.rowLen (s : ClickSlot) : Nat := rowBytes s.sigs.length s.bins.length
/-- The ring's offset in a slot's area. -/
def ClickSlot.ring (s : ClickSlot) : Nat := ringStart s.sigs.length s.bins.length
/-- RING_ROWS of slot x. -/
def Mod.ckCap (m : Mod) (x : Nat) : Nat := ringRows (m.num 0x4C1004 x) (m.ck x).sigs.length (m.ck x).bins.length
/-- Where slot x's area stands in the address space (R400). -/
def Mod.ckBase (m : Mod) (x : Nat) : Nat := 0x40000000 + m.num 0x4C1003 x

/-- N_ROWS: rows of the record, in a continuous one those no longer held too (log entry 95). -/
def ClickSlot.count (s : ClickSlot) : Nat := s.gone + s.rows.length

/-- The address of row number n of slot x's record. -/
def Mod.ckRowAddr (m : Mod) (x n : Nat) : Nat :=
  let s := m.ck x
  m.ckBase x + s.ring + s.rowLen * ((s.first + (n - s.gone)) % max 1 (m.ckCap x))

/-- A bit of the RFLAGS of row n set. -/
def Mod.ckFlagRow (m : Mod) (x n i : Nat) : Mod :=
  let a := m.ckRowAddr x n + 7
  { m with mem := Memory.write m.mem a (BitVec.ofNat 8 (setBit (Memory.read m.mem a).toNat i true)) }

/-! ## Header and descriptors (R415, R416) -/

/-- The U32 values of a run of little-endian octets. -/
def u32s (bs : List Byte) : List Nat := (List.range (bs.length / 4)).map (fun i => field bs (4 * i) 4)

/-- SCALE of a raw channel as binary32 (R50). -/
def Mod.unitScale (m : Mod) (c : Nat) : Nat :=
  match m.num 0x402002 c with
  | 0 => 0x3A83126F
  | 1 => 0x3C23D70A
  | _ => m.num 0x402005 c

/-- The analogue descriptors that ANALOGUE gives (R416, R422). -/
def Mod.ckSigs (m : Mod) (x : Nat) : List ClickSig :=
  (u32s (m.oct 0x4C1009 x)).map (fun w =>
    let c := w % 65536
    let raw := bitsOf w 23 16 == 1
    { kind := bitsOf w 23 16, c := c, unit := m.num 0x402002 c, skew := m.int 16 0x4C4001 c, mask := bitsOf w 31 24,
      profile := m.num 0x441001 c, scale := if raw then m.unitScale c else 0x3F800000, gd := if raw then 0 else m.groupDelay c })

/-- The descriptors as they stand in the area. -/
def ClickSlot.descs (s : ClickSlot) : List Byte :=
  s.sigs.flatMap (fun d => toLE 1 d.kind ++ toLE 1 d.unit ++ toLE 2 d.c ++ toLE 2 (ofInt 16 d.skew) ++ toLE 1 d.mask ++ toLE 1 d.profile ++
    toLE 4 d.scale ++ toLE 4 d.gd) ++ s.bins.flatMap (toLE 4)

/-- TQ_WORST: the OR of bits 6:5, the largest of bits 4:0 and the AND of bit 7 over the record's rows (R415). -/
def ClickSlot.tqWorst (s : ClickSlot) : Nat :=
  let qs := s.rows.map ClickRow.tq
  let or' := qs.foldl (fun a q => a ||| (q / 32 % 4)) s.tqOr
  let mx := qs.foldl (fun a q => max a (q % 32)) s.tqMax
  128 * b2n (s.tqAnd && qs.all (fun q => bit q 7) && s.count != 0) + 32 * or' + mx

/-- The record header of slot x (R415), with the N_ROWS and RING_FIRST it is to show. -/
def Mod.ckHeader (m : Mod) (x nRows ringFirst : Nat) : List Byte :=
  let s := m.ck x
  let none32 := 0xFFFFFFFF
  let cont := m.ckMode x 0
  let r0 := if s.gone = 0 then s.rows.headD {} else s.firstRow
  let h :=
    [0x43, 0x4C, 0x4B, 0x52] ++ toLE 2 1 ++ toLE 1 x ++ toLE 1 (m.num 0x4C1005 x) ++ toLE 4 (m.num 0x4C2002 x) ++
    toLE 1 m.moduleId ++ toLE 1 m.rank ++ toLE 1 (m.num 0x200001) ++ toLE 1 m.delay ++
    toLE 2 s.sigs.length ++ toLE 2 s.bins.length ++ toLE 4 s.rowLen ++ toLE 4 (m.num 0x4C1007 x) ++
    toLE 4 (if cont then 0 else m.num 0x4C1008 x) ++ toLE 4 nRows ++ toLE 4 (s.trigRow.getD none32) ++
    toLE 8 r0.kf ++ toLE 8 r0.time ++ toLE 8 (m.num 0x4C2005 x) ++
    toLE 1 s.trigTerm ++ toLE 1 s.termMask ++ toLE 1 (m.num 0x4C2004 x) ++
    toLE 1 (b2n s.clipped + 2 * b2n ((s.trig.map Detect.unsync).getD false && s.trigRow.isSome) + 4 * b2n s.stepRow.isSome +
      8 * b2n (s.slew || s.rows.any ClickRow.slew) + 16 * b2n cont) ++
    toLE 1 r0.tq ++ toLE 1 s.tqWorst ++ toLE 2 s.retriggers ++ toLE 4 (s.overRow.getD none32) ++
    toLE 4 (s.trigRow.getD s.count) ++ toLE 4 ((s.stepRow.map (fun e => e.1)).getD none32) ++ toLE 4 0 ++
    toLE 8 ((s.stepRow.map (fun e => e.2.1)).getD 0) ++ toLE 8 (ofInt 64 ((s.stepRow.map (fun e => e.2.2)).getD 0)) ++
    toLE 4 ringFirst ++ toLE 4 (m.ckCap x) ++ toLE 1 (m.num 0x450003)
  let h := slice h 0 0xFC
  h ++ toLE 4 (crc32 h)

/-- N_ROWS and RING_FIRST updated: the header written to the area, and ROWS (R414). -/
def Mod.ckSync (m : Mod) (x : Nat) : Mod :=
  let s := m.ck x
  (m.set 0x4C2003 s.count x).poke (m.ckBase x) (m.ckHeader x s.count s.first)

/-! ## Arming and the end of a record (R412, R413) -/

/-- SLOTS_ENABLED brought up to date. -/
def Mod.ckCount (m : Mod) : Mod := m.set 0x4C0001 ((m.instancesOn 0x4C2001).length)

/-- Slot x becomes ARMED: descriptors as they stand now, its record discarded and its ring empty (R412, R416). -/
def Mod.ckArm (m : Mod) (x : Nat) : Mod :=
  let s : ClickSlot := { sigs := m.ckSigs x, bins := u32s (m.oct 0x4C100A x) }
  let m := m.each [0x4C2002, 0x4C2003, 0x4C2004, 0x4C2005, 0x4C2008] (fun m o => m.set o 0 x)
  let m := ((m.setCk x s).set 0x4C2001 ckArmed x).ckCount
  (m.poke (m.ckBase x + 0x100) s.descs).ckSync x

/-- A committed ENABLE: 1 arms a DISABLED slot, 0 discards whatever the slot holds (R412). -/
def Mod.ckEnable (m : Mod) (x : Nat) (on : Bool) : Mod :=
  if on then (if m.ckState x = ckDisabled then m.ckArm x else m)
  else ((m.setCk x {}).set 0x4C2001 ckDisabled x).ckCount

/-- The record of slot x is complete with a STOP_CAUSE; with AUTO_DRAIN, or continuous, it drains (R412, R418; log entry 96). -/
def Mod.ckFinish (m : Mod) (x cause : Nat) : Mod :=
  let m := ((m.set 0x4C2004 cause x).bump 0x4C2007 x)
  let m := m.set 0x4C2001 (if m.ckMode x 2 ∨ m.ckMode x 0 then ckDraining else ckComplete) x
  m.ckSync x

/-- An overflow of slot x with its cause, 1 the write budget or 2 the drain (R413). -/
def Mod.ckOverflow (m : Mod) (x cause : Nat) : Mod :=
  let s := m.ck x
  if m.ckState x = ckArmed then
    ((m.setCk x { s with rows := [], first := 0, stepRow := none }).bump 0x4C2006 x).ckSync x
  else
    let n := s.count - 1
    let m := (m.setCk x { s with overRow := some n }).ckFlagRow x n 4
    (m.ckFinish x 1).raise 0x0802 [x, cause, n]

/-- The ring's oldest `n` rows of slot x leave it. -/
def ClickSlot.dropOld (s : ClickSlot) (n cap : Nat) : ClickSlot :=
  { s with
    rows := s.rows.drop n
    first := (s.first + n) % max 1 cap
    stepRow := match s.stepRow with
      | some (i, t, v) => if i ≤ n then none else some (i - n, t, v)
      | none => none }

/-- The row that a trigger instant selects among those held, and whether it is no longer held and the oldest stands in; none where the row
is still to be written (R407). -/
def ClickSlot.select (s : ClickSlot) (next instant : Nat) : Option (Nat × Bool) :=
  if s.rows.isEmpty then none
  else if next ≤ instant then none
  else match s.rows.findIdx? (fun r => decide (instant < r.time)) with
    | some 0 => some (0, true)
    | some (i + 1) => some (i, false)
    | none => some (s.rows.length - 1, false)

/-- The instant of sample count `smp` at a rate in the second `sec` of TAI, rounded to the nearest ns (R407). -/
def rowInstant (sec smp rate : Nat) : Nat := sec * 1000000000 + (2 * smp * 1000000000 + rate) / (2 * rate)

/-- The number of the term: the lowest set bit of a mask of eight. -/
def lowestBit (v : Nat) : Nat := ((List.range 8).find? (fun i => bit v i)).getD 255

/-- An ARMED slot whose trigger row is written becomes TRIGGERED; event 0x0800. A record that has all its rows then is cut and complete (R407,
R408, R412; log entry 97). -/
def Mod.ckResolve (m : Mod) (x : Nat) : Mod :=
  let s := m.ck x
  if m.ckState x ≠ ckArmed then m
  else match s.trig with
  | none => m
  | some t =>
    match s.select s.next t.instant with
    | none => m
    | some (i, clipped) =>
      let mask := s.dets.foldl (fun a d => if (s.select s.next d.instant).map Prod.fst = some i then setBit a d.term true else a) 0
      let drop := i - m.num 0x4C1007 x
      let cap := m.ckCap x
      let s := s.dropOld drop cap
      let i := i - drop
      let post := m.num 0x4C1008 x
      let s := { s with
        trigRow := some i
        termMask := mask % 256
        trigTerm := lowestBit mask
        clipped := clipped
        rows := if m.ckMode x 0 then s.rows else s.rows.take (i + 1 + post) }
      let serial := m.num 0x4C0004
      let m := (((m.setCk x s).set 0x4C2002 serial x).set 0x4C0004 ((serial + 1) % 2 ^ 32)).set 0x4C2005 t.instant x
      let m := ((m.set 0x4C2001 ckTriggered x).ckFlagRow x i 3).raise 0x0800 [x, s.trigTerm, t.instant]
      if !m.ckMode x 0 ∧ s.rows.length = i + 1 + post then
        let m := m.ckFinish x 0
        m.raise 0x0801 [x, serial, 0, m.num 0x4C2003 x]
      else m.ckSync x

/-! ## TRIG lines (R409) -/

/-- TRIG line j takes a level as an output: LEVEL, LAST_EDGE and EDGES. -/
def Mod.setTrig (m : Mod) (j now : Nat) (level : Bool) : Mod :=
  if m.num 0x4C6005 j = b2n level then m
  else (((m.set 0x4C6005 (b2n level) j).set 0x4C6006 (m.tb now) j).bump 0x4C6007 j).emit (.trig j level)

/-- The mode of line j's OUT_SOURCE: 0 static low, 1 pulses of a slot, 2 a logic bit; none on an input. -/
def Mod.trigMode (m : Mod) (j : Nat) : Option Nat := if m.num 0x4C6001 j = 1 then some (m.num 0x4C6003 j / 2 ^ 30) else none

/-- Line j follows what its DIR and OUT_SOURCE say now: low where static and where no pulse runs, the bit of OUT_SOURCE where it follows one. -/
def Mod.trigFollow (m : Mod) (j now : Nat) : Mod :=
  match m.trigMode j with
  | some 0 | some 1 => m.setTrig j now false
  | some 2 => m.setTrig j now (m.bitAt (m.num 0x4C6003 j % 2 ^ 20))
  | _ => m

/-! ## Detections (R406-R408, R410) -/

/-- The terms of slot x in their order: number, KIND, EDGE and ARG. -/
def Mod.terms (m : Mod) (x : Nat) : List (Nat × Nat × Nat × Nat) :=
  let b := m.oct 0x4C100B x
  (List.range (b.length / 8)).map (fun i => (i, field b (8 * i) 1, field b (8 * i + 1) 1, field b (8 * i + 4) 4))

/-- A packet of broadcast DST 255 on every link of route entry 255 but one (R286). -/
def Mod.broadcast (m : Mod) (p : Packet) (but : Option Nat) : Mod :=
  m.each ((m.routeTo 255).filter (fun l => some l != but)) (fun m l => m.sendOn l p)

/-- XTRIG_SEND (R410). -/
def Mod.sendXtrig (m : Mod) (x : Nat) (d : Detect) : Mod :=
  let ch := m.num 0x4C100C x
  if ch = 0xFF ∨ d.cross then m
  else
    let dst := m.num 0x4C0009
    let data := toLE 1 1 ++ toLE 1 ch ++ toLE 2 x ++ toLE 4 0 ++ toLE 8 d.instant ++ toLE 8 (m.k % 2 ^ 48) ++ toLE 1 m.timeQuality ++
      List.replicate 7 0
    let p : Packet := { ty := .xtrig, vc := 0, dst := dst, src := m.moduleId, len := 32, data := data }
    if dst = 255 then m.broadcast p none else (m.route p).1

/-- A detection in slot x, with what follows from it: the pending trigger replaced by an earlier one, XTRIG, the pulse of a TRIG line, and
KIND 7 terms of other slots. `n` bounds the chain of slots (R406-R410). -/
def Mod.detectIn (now : Nat) : Nat → Mod → Nat → Detect → Mod
  | 0, m, _, _ => m
  | n + 1, m, x, d =>
    let s := m.ck x
    if m.tb now + 1000000000 < d.instant then m.bump 0x4C000B
    else if m.ckState x = ckTriggered then
      (m.setCk x { s with retriggers := min (s.retriggers + 1) 0xFFFF })
    else if m.ckState x ≠ ckArmed then m
    else
      let newer := match s.trig with
        | none => true
        | some t => decide (d.instant < t.instant)
      let m := m.setCk x { s with dets := s.dets ++ [d], trig := if newer then some d else s.trig }
      let m := if newer then
          let lines := (m.instancesOn 0x4C6001).filter (fun j => m.trigMode j == some 1 && m.num 0x4C6003 j % 64 == x)
          let m := (m.each lines (fun m j => m.setTrig j now true)).sendXtrig x d
          let ys := (List.range 64).filter (fun y => y != x && m.ckState y != ckDisabled)
          m.each ys (fun m y => m.each ((m.terms y).filter (fun t => t.2.1 == 7 && t.2.2.2 == x)) (fun m t =>
            Mod.detectIn now n m y { d with term := t.1 }))
        else m
      m.ckResolve x

/-- A detection in slot x. -/
def Mod.detect (m : Mod) (now x : Nat) (d : Detect) : Mod := Mod.detectIn now 65 m x d

/-- A source offered to the terms of every slot: those that `hit` holds of (KIND, EDGE, ARG) detect a trigger. -/
def Mod.offerTrigger (m : Mod) (now : Nat) (hit : Nat → Nat → Nat → Bool) (d : Detect) : Mod :=
  m.each ((List.range 64).filter (fun x => m.ckState x != ckDisabled)) (fun m x =>
    m.each ((m.terms x).filter (fun t => hit t.2.1 t.2.2.1 t.2.2.2)) (fun m t => m.detect now x { d with term := t.1 }))

/-- Whether an edge to `level` from its opposite is one that EDGE selects (R406): rising, falling, both, or the high level. -/
def edgeHit (edge : Nat) (level : Bool) : Bool :=
  match edge with
  | 0 => level
  | 1 => !level
  | 2 => true
  | _ => level

/-! ## Capture (R402, R411) -/

/-- psi, Delta and LOCKED of the enabled reference groups at F start (R411). -/
def Mod.sampleGroups (m : Mod) : Mod :=
  { m with click := { m.click with
      groups := (m.instancesOn 0x452001).foldl (fun t v => Table.put t v ((m.group v).psi, (m.group v).delta, m.num 0x45200A v == 2)) [] } }

/-- Whether the time base slews faster than 10 ppm (R417). -/
def Mod.slewsFast (m : Mod) : Bool := m.time.servo == .maxSlew && decide (10 < m.num 0x3C0006)

/-- The tick captured at V start. -/
def Mod.captureTick (m : Mod) : CapTick :=
  { kf := m.kf, k := m.k, sec := m.secAgo m.delay, q := m.qf, raw := m.ingest.deliv
    filt := m.filter.chans.foldl (fun t e => Table.put t e.1 (e.2.latest.getD 0 0, bitsOf (e.2.latest.getD 3 0) 15 8)) []
    bits := m.bits
    outs := m.element.slots.foldl (fun t e => if e.2.out % 256 = 0 then t else Table.put t e.1 (e.2.out % 256)) []
    groups := m.click.groups, tq := m.timeQuality, slew := m.slewsFast }

/-- A logic bit as a captured tick holds it. -/
def CapTick.bitAt (c : CapTick) (a : Nat) : Bool :=
  if a < 0x10000 then bit (Table.get c.outs 0 (a / 16)) (a % 16)
  else if 0xA0000 ≤ a ∨ (0x34000 ≤ a ∧ a < 0x38000) then false
  else Table.get c.bits 0 a == 1

/-- At V start: the tick is captured, KIND 1 terms compare their bits with the V start before, and TRIG outputs follow their bits (R402, R406,
R409). Rows need the ticks back to k_f - 9 of the row written (R402, R403). -/
def Mod.clickerVStart (m : Mod) (now : Nat) : Mod :=
  let c := m.captureTick
  let prev := (m.click.hist.head?).bind (fun (p : CapTick) => if p.k + 1 = m.k then some p else none)
  let m := { m with click := { m.click with hist := (c :: m.click.hist).take 32 } }
  let hit := fun (a e : Nat) =>
    let b := c.bitAt (a % 2 ^ 20)
    if e = 3 then b else match prev with
      | some p => p.bitAt (a % 2 ^ 20) != b && edgeHit e b
      | none => false
  let m := m.each ((List.range 64).filter (fun x => m.ckState x != ckDisabled)) (fun m x =>
    let per := m.ckPer x
    let at' := rowInstant c.sec (c.q * per + (per - 1)) (m.hz * per)
    m.each ((m.terms x).filter (fun t => t.2.1 == 1 && hit t.2.2.2 t.2.2.1)) (fun m t => m.detect now x { term := t.1, instant := at' }))
  m.each (m.instancesOn 0x4C6001) (fun m j => if m.trigMode j = some 2 then m.trigFollow j now else m)

/-! ## Tick stop and restart (R412) -/

/-- The tick has stopped: TRIGGERED records are complete with cause 4. -/
def Mod.clickerStop (m : Mod) : Mod :=
  m.each ((m.instancesOn 0x4C2001).filter (fun x => m.ckState x == ckTriggered)) (fun m x => m.ckFinish x 4)

/-- The tick has restarted: rings of ARMED slots are emptied, with what was pending (R412; log entry 98). -/
def Mod.clickerRestart (m : Mod) : Mod :=
  let m := { m with click := { m.click with hist := [], groups := [] } }
  m.each ((m.instancesOn 0x4C2001).filter (fun x => m.ckState x == ckArmed)) (fun m x =>
    (m.setCk x { sigs := (m.ck x).sigs, bins := (m.ck x).bins }).ckSync x)

/-! ## The check of an enable (R401) -/

/-- Whether a term's KIND is one of R406 and its ARG in range. -/
def termOk (kind edge arg : Nat) : Bool :=
  decide (edge ≤ 3) && (match kind with
    | 0 => arg == 0
    | 1 => decide (arg < 2 ^ 20)
    | 2 => decide (arg < 32)
    | 3 => decide (arg < 65536 ∧ arg / 16 % 16 = 0 ∧ arg / 256 < 255)
    | 4 => decide (arg % 4096 < 768 ∧ arg / 4096 < 8)
    | 5 => decide (arg < 32) || arg == 0xFF
    | 6 => arg == 0
    | 7 => decide (arg < 64)
    | _ => false)

/-- The first condition of R401 that refuses slot x, numbered in the order of its list; 0 where none does. -/
def Mod.ckRefusal (m : Mod) (x : Nat) : Nat :=
  let base := m.num 0x4C1003 x
  let size := m.num 0x4C1004 x
  let sigs := m.ckSigs x
  let bins := u32s (m.oct 0x4C100A x)
  let on := m.instancesOn 0x4C1001
  let owner := m.num 0x4C1002 x
  let raws := sigs.filter (fun d => d.kind == 1)
  let stream := fun (c : Nat) => m.streamsOn.find? (fun s => (m.chansOf s).contains c)
  let cap := ringRows size sigs.length bins.length
  if 12582912 < base + size ∨ on.any (fun y => y != x && decide (base < m.num 0x4C1003 y + m.num 0x4C1004 y ∧ m.num 0x4C1003 y < base + size)) then 1
  else if owner ≠ 0 ∧ m.num 0x51100B owner < ((on.filter (fun y => m.num 0x4C1002 y == owner)).map (fun y => m.num 0x4C1004 y)).sum then 2
  else if 2048 < sigs.length ∨ 4096 < bins.length ∨ (sigs.isEmpty ∧ bins.isEmpty) then 3
  else if raws.any (fun d => match stream d.c with
    | some s => m.subsOf s != m.ckPer x
    | none => true) then 4
  else if m.num 0x4C1005 x = 1 ∧ sigs.any (fun d => d.kind == 2) then 5
  else if sigs.any (fun d => d.mask != 0xFF && !m.on 0x452001 (m.num 0x4C5001 d.mask)) then 6
  else if (m.terms x).any (fun t => !termOk t.2.1 t.2.2.1 t.2.2.2) then 7
  else if cap < 64 then 8
  else if !m.ckMode x 0 ∧ cap < m.num 0x4C1007 x + m.num 0x4C1008 x + 1 then 9
  else 0

end Sys2Proof.Machine
end

