-- ==== Sys2Proof/Machine/CommitEnd.lean ====
section
/-!
DEFINITION. How a commit ends, with what its end does to a pending swap, a staged allotment or a tenant's submission (R35, R90, R218, R222,
R460-R462); and the state of the first tick after a tick stop (R53, R87, R136).
-/
namespace Sys2Proof.Machine

/-- Whether a commit has an entry for an object. -/
def Commit.names (c : Commit) (o : Nat) : Bool := c.entries.any (fun e => e.obj = o)

/-- The tenants whose allotment a commit closes (R222). -/
def Commit.allots (c : Commit) : List Nat := (c.entries.filter (fun e => e.obj = 0x511010)).map StageEntry.sel

/-- The outcome of a tenant's submission: DONE, and REFUSED with its abort code where it has not taken effect; identity 6 (R208, R218). -/
def Mod.tenantOutcome (m : Mod) (c : Commit) (code : Nat) : Mod :=
  let t := c.id / 2 ^ 16 % 256
  let x := m.tenant t
  if c.kind ≠ 2 ∨ x.dpCommit ≠ c.id then m
  else
    let st := if code = 0 then 2 ^ 30 else 2 ^ 30 + 2 ^ 29
    (m.setTenant t { x with dp := { x.dp with status := st, abort := code } }).identity t 6

/-- A pending swap that a commit carried ends without swapping: refused, or cancelled (R35, R90). -/
def Mod.swapsEnd (m : Mod) (id : Nat) (refused : Bool) : Mod :=
  let m := if m.swapPending ∧ m.tick.swapCommit = id then m.endSwap refused else m
  let ps := (m.filter.profiles.filter (fun e => e.2.swapCommit = id ∧ id ≠ 0)).map Prod.fst
  m.each ps (fun m p => m.endProfileSwap p refused)

/-- A pending commit enters a state in which it is over, with its code. -/
def Mod.closeCommit (m : Mod) (id : Nat) (st : CommitState) (code : Nat) : Mod :=
  m.mapCommit id (fun c => { c with state := st, code := code })

/-- A restore that was pending is so no longer: IMAGE_STATE reads idle (R230, R232). -/
def Mod.restoreEnds (m : Mod) (c : Commit) : Mod := if c.names 0x515005 then m.set 0x515003 0 else m

/-- A commit REFUSED, with the refusing rank: event 0x0B01 (R460). -/
def Mod.refuseCommit (m : Mod) (c : Commit) (code rank : Nat) : Mod :=
  let m := (((m.closeCommit c.id .refused code).raise 0x0B01 [c.id, code, rank]).swapsEnd c.id true).restoreEnds c
  (m.each c.allots (fun m t => m.set 0x511011 3 t)).tenantOutcome c code

/-- A commit CANCELLED, with the cancelling rank: event 0x0B02 (R460). -/
def Mod.cancelCommit (m : Mod) (c : Commit) (code rank : Nat) : Mod :=
  let m := (((m.closeCommit c.id .cancelled code).raise 0x0B02 [c.id, rank, code]).swapsEnd c.id false).restoreEnds c
  (m.each c.allots (fun m t => m.set 0x511011 0 t)).tenantOutcome c code

/-- A commit MISSED, with its cause: 1 no CONFIRM, 2 demoted, 3 tick stopped; event 0x0B03 (R460, R462). -/
def Mod.missCommit (m : Mod) (c : Commit) (cause : Nat) : Mod :=
  let m := ((((m.closeCommit c.id .missed 0).bump 0x1F0103).raise 0x0B03 [c.id, c.target, cause]).swapsEnd c.id false).restoreEnds c
  (m.each c.allots (fun m t => m.set 0x511011 0 t)).tenantOutcome c abCancelled

/-- COMMIT_JUDGE (R460): at V end the applying commits of this or an earlier tick become APPLIED or OVERRULED, where a majority has formed;
`own` says that the module's vector is in it and `ranks` which ranks' are. -/
def Mod.judgeCommits (m : Mod) (formed own : Bool) (ranks : Nat) : Mod :=
  if !formed then m
  else
    m.each (m.dic.held.filter (fun (c : Commit) => c.state == .applying && decide (c.target ≤ m.k))) (fun m c =>
      let m := m.mapCommit c.id (fun c => { c with appliedRanks := ranks, state := if own then .applied else .overruled })
      let m := if own then (m.bump 0x1F0102).raise 0x0B00 [c.id, c.target, ranks]
        else (m.bump 0x1F0103).raise 0x0B04 [c.id, c.target]
      m.tenantOutcome c (if own then 0 else abPeer))

/-- On a demotion or a tick stop the armed commits are missed (R460). -/
def Mod.missArmed (m : Mod) (cause : Nat) : Mod :=
  m.each (m.dic.held.filter (fun (c : Commit) => c.state == .armed)) (fun m c => m.missCommit c cause)

/-- The state of the first tick after a tick stop: filings gone, histories cleared for cause 4, slots reset (R53, R87, R136). Engines keep
their state (R175). -/
def Mod.freshTick (m : Mod) : Mod :=
  let m := { m with
    ingest := { m.ingest with filings := [], closed := [], agreed := [], store := [] }
    tick := { m.tick with marks := [(m.tick.k, m.tick.q, m.tick.sec)] } }
  let chans := (m.filter.chans.map Prod.fst ++ m.phasor.chans.map Prod.fst).eraseDups
  let m := m.each chans (fun m c => m.clearHistory c 4 true)
  m.each (m.instancesOn 0x481001) (fun m e => m.restartSlot e)

end Sys2Proof.Machine
end

