-- ==== Sys2Proof/Machine/TenantImage.lean ====
section
/-!
DEFINITION. State images of tenants: their format, saving by segments, loading and checking (R227-R230).
-/
namespace Sys2Proof.Machine

/-! ## Sections (R229) -/

/-- The value that octets spell for an object. -/
def decodeVal (o : Nat) (bs : List Byte) : Val :=
  match objRow? o with
  | some r => if tySize r.ty = 0 then .oct bs else .num (leNat bs)
  | none => .oct bs

/-- The objects of an index that a settings section carries: those that can be written, other than WO. -/
def settingRows (idx : Nat) (accs : List Access) : List Nat :=
  ((objRowsOf (idx / 256)).filter (fun r => r.obj / 256 == idx && accs.contains r.acc)).map (fun r => r.obj)

/-- The channels, slots and engines of an allotment. -/
def Mod.tnChans (m : Mod) (t : Nat) : List Nat := (List.range (m.num 0x511104 t)).map (· + m.num 0x511103 t)
/-- The slots of an allotment. -/
def Mod.tnSlots (m : Mod) (t : Nat) : List Nat := (List.range (m.num 0x511106 t)).map (· + m.num 0x511105 t)
/-- The engines of an allotment. -/
def Mod.tnEngines (m : Mod) (t : Nat) : List Nat := (List.range 16).filter (fun g => bit (m.num 0x511107 t) g)

/-- The objects and instances of tenant t that the settings section covers (R229). -/
def Mod.tnSettings (m : Mod) (t : Nat) : List (Nat × Nat) :=
  let own := [0x5100, 0x5110, 0x5120].flatMap (fun idx => (settingRows idx [.rw, .rwt, .rws]).map (fun o => (o, t)))
  let pubs := (settingRows 0x5130 [.rwt]).flatMap (fun o => (List.range (m.num 0x511108 t)).map (fun u => (o, pubInst t u)))
  let chans := [0x4410, 0x4510].flatMap (fun idx => (settingRows idx [.rwt]).flatMap (fun o => (m.tnChans t).map (fun c => (o, c))))
  let slots := (settingRows 0x4810 [.rwt]).flatMap (fun o => (m.tnSlots t).map (fun e => (o, e)))
  let engs := [0x581005, 0x581006, 0x581007, 0x58100D].flatMap (fun o => (m.tnEngines t).map (fun g => (o, g)))
  own ++ pubs ++ chans ++ slots ++ engs

/-- One entry of a settings section. -/
def settingEntry (o i : Nat) (v : List Byte) : List Byte :=
  toLE 2 (o / 256) ++ toLE 1 (o % 256) ++ [0] ++ toLE 2 i ++ toLE 2 0 ++ toLE 4 v.length ++ padTo 4 v

/-- The entries of engine g: its image, then the constants, timer presets and counter presets of R176. -/
def Mod.engineEntries (m : Mod) (g : Nat) : List (List Byte) :=
  let img := (m.engine g).image
  [settingEntry 0x581002 g img] ++
    (List.range (liConsts img)).map (fun i => settingEntry ((0x5900 + g) * 256 + 1) i (toLE 4 (m.constant g i))) ++
    (List.range 1024).map (fun i => settingEntry ((0x5940 + g) * 256 + 1) i (toLE 4 (m.preset g i))) ++
    (List.range 512).map (fun i => settingEntry ((0x5960 + g) * 256 + 1) i (toLE 4 (ofInt 32 (m.limit g i))))

/-- The settings section: the objects of `tnSettings`, then each engine's entries. -/
def Mod.settingsSection (m : Mod) (t : Nat) : Nat × List Byte :=
  let es := (m.tnSettings t).map (fun e => settingEntry e.1 e.2 (encodeVal e.1 (m.val e.1 e.2))) ++ (m.tnEngines t).flatMap m.engineEntries
  (es.length, es.flatten)

/-- A slot's 256 octets. -/
def Mod.slotBytes (m : Mod) (e : Nat) : List Byte :=
  let s := Table.get m.element.slots {} e
  let flags := b2n (s.pa || s.p0) + 2 * b2n s.pb + 4 * b2n s.pc + 8 * b2n s.op + 16 * b2n s.running
  let rate := (s.hist.take 48).reverse.map (fun h => h.q)
  toLE 2 e ++ toLE 2 flags ++ toLE 4 s.up ++ toLE 4 s.dn ++ toLE 4 s.nRun ++ toLE 8 s.acc ++ toLE 4 s.offRun ++ toLE 4 rate.length ++
    toLE 8 s.puTick ++ toLE 8 s.opTick ++ List.replicate 16 0 ++ slice (rate.flatMap (toLE 4)) 0 192

/-- An engine's section. -/
def Mod.engineBytes (m : Mod) (g : Nat) : List Byte :=
  let e := m.engine g
  let timers := (List.range 1024).flatMap (fun t =>
    let x := m.timer g t
    toLE 4 (m.preset g t) ++ toLE 4 (b2n x.run + 2 * b2n x.q + 4 * b2n x.last) ++ toLE 8 x.k0)
  let counters := (List.range 512).flatMap (fun c =>
    let x := m.counter g c
    toLE 4 (ofInt 32 (m.limit g c)) ++ toLE 4 (ofInt 32 x.cv) ++ toLE 4 (b2n x.edge))
  let marks := (List.range 2048).map (fun b => BitVec.ofNat 8 ((List.range 8).foldl (fun n i =>
    n + (if m.bitAt (0x40000 + 0x4000 * g + 8 * b + i) then 2 ^ i else 0)) 0))
  toLE 4 g ++ (List.range 3840).flatMap (fun r => toLE 4 (Table.get e.words 0 r).toNat) ++ timers ++ counters ++ marks ++ toLE 4 (m.engState g)

/-- A publication slot's 2,048 octets. -/
def Mod.pubBytes (m : Mod) (t u : Nat) : List Byte :=
  let p := m.pub (pubInst t u)
  toLE 1 u ++ List.replicate 7 0 ++ toLE 4 (p.sq % 2 ^ 32) ++ toLE 4 p.interval ++ toLE 8 p.due ++ toLE 8 p.commitTick ++
    toLE 2 p.frame.length ++ List.replicate 222 0 ++ slice p.frame 0 1792

/-- The sections of a tenant's image: type, count and content. -/
def Mod.tnSections (m : Mod) (t : Nat) : List (Nat × Nat × List Byte) :=
  let (n, settings) := m.settingsSection t
  let (base, size) := m.tnSram t
  let words := m.num 0x51110A t
  [(1, n, settings), (2, size, Memory.readN m.mem base size),
   (3, m.num 0x511106 t, (m.tnSlots t).flatMap m.slotBytes),
   (4, (m.tnEngines t).length, (m.tnEngines t).flatMap m.engineBytes),
   (5, m.num 0x511108 t, (List.range (m.num 0x511108 t)).flatMap (m.pubBytes t)),
   (6, 32, Memory.readN m.mem (vfAt t + 0x1000) 8192 ++ toLE 2 (m.tenant t).mbIn ++ toLE 2 (m.tenant t).mbOut),
   (7, words, (List.range words).flatMap (fun i => toLE 4 (Table.get (m.tenant t).tbits 0 i)))]

/-! ## The image (R228) -/

/-- The next multiple of 64. -/
def align64 (n : Nat) : Nat := (n + 63) / 64 * 64

/-- The directory and the bodies of sections placed from `at'` on. -/
def placeSections : List (Nat × Nat × List Byte) → Nat → List Byte × List Byte
  | [], _ => ([], [])
  | (ty, n, b) :: rest, at' =>
    let (dir, body) := placeSections rest (at' + align64 b.length)
    (toLE 2 ty ++ toLE 2 0 ++ toLE 4 n ++ toLE 4 at' ++ toLE 4 b.length ++ dir, padTo 64 b ++ body)

/-- Header, directory, sections and trailer of an image of kind `kind`. -/
def Mod.stateImage (m : Mod) (kind t gen freezeTick : Nat) (secs : List (Nat × Nat × List Byte)) : List Byte :=
  let named := m.num 0x515006
  let slot := if m.num 0x642002 named = 3 then named else 0xFFFF
  let start := align64 (0x40 + 16 * secs.length)
  let (dir, body) := placeSections secs start
  let len := start + body.length + 36
  let head := [0x54, 0x49, 0x4D, 0x47] ++ toLE 2 1 ++ toLE 1 kind ++ toLE 1 t ++ toLE 4 len ++ toLE 1 gen ++ toLE 1 (m.num 0x610001) ++
    [0xB0] ++ toLE 1 (m.num 0x200001) ++ toLE 8 freezeTick ++ toLE 2 secs.length ++ toLE 1 m.delay ++ [0] ++ toLE 2 slot ++ List.replicate 34 0
  let main := padTo 64 (head ++ dir) ++ body
  let mac := if slot = 0xFFFF then List.replicate 32 0 else slice (Config.hmac (m.keyBytes slot) main) 0 32
  main ++ mac ++ toLE 4 (crc32 (main ++ mac))

/-- The image of tenant t as it stands (R227). -/
def Mod.tenantImage (m : Mod) (t : Nat) : List Byte := m.stateImage 1 t (m.num 0x510002 t) (m.tenant t).frozenAt (m.tnSections t)

/-! ## Saving (R227) -/

/-- IMAGE_SAVE (R227): writing 1 begins serialising the image of the tenant named, FROZEN with kind ALL; refused otherwise. -/
def imageSave (p : Path) (v : Nat) (m : Mod) : Mod :=
  let t := m.num 0x515001
  if v ≠ 1 then m.report p abValue
  else if !m.frozenAll t ∨ m.num 0x515003 ≥ 2 then m.report p abState
  else ({ m with ten := { m.ten with readPos := 0, saving := t } }.set 0x515003 1).report p 0

/-- IMAGE_SAVE. -/
def execImageSave (path : Path) (v : Nat) (s : State) : Host.Outcome State Fault Refusal :=
  .next { s with mod := s.mod.gate path (fun (m : Mod) => imageSave path v m) }

/-- IMAGE_SEGMENT_READ (R227): the next `n` octets of the image of the tenant being saved, serialised as they are read; after the last the save is
done, event 0x0520. -/
def imageSegmentRead (p : Path) (n : Nat) (m : Mod) : Mod :=
  let t := m.ten.saving
  if m.num 0x515003 ≠ 1 ∨ !m.frozenAll t then m.report p abOrder
  else
    let img := m.tenantImage t
    let pos := m.ten.readPos
    let m := { m with ten := { m.ten with readPos := pos + n } }.emit (.data ((img.drop pos).take n))
    let m := if img.length ≤ pos + n then (({ m with ten := { m.ten with saving := 0 } }.set 0x515003 0).raise 0x0520 [t, img.length]) else m
    m.report p 0

/-- IMAGE_SEGMENT_READ. -/
def execImageSegmentRead (path : Path) (n : Nat) (s : State) : Host.Outcome State Fault Refusal :=
  .next { s with mod := s.mod.access path (fun (m : Mod) => imageSegmentRead path n m) }

/-! ## Loading (R230) -/

/-- A section of an image by type: its count and content. -/
def imgSection (img : List Byte) (ty : Nat) : Option (Nat × List Byte) :=
  ((List.range (field img 0x18 2)).find? (fun i => field img (0x40 + 16 * i) 2 == ty)).map (fun i =>
    let d := 0x40 + 16 * i
    (field img (d + 4) 4, slice img (field img (d + 8) 4) (field img (d + 12) 4)))

/-- The entries of a settings section: object, instance and value octets; `fuel` bounds their number. -/
def settingsOf : Nat → List Byte → List (Nat × Nat × List Byte)
  | 0, _ => []
  | fuel + 1, bs =>
    if bs.length < 12 then []
    else
      let len := field bs 8 4
      (field bs 0 2 * 256 + field bs 2 1, field bs 4 2, slice bs 12 len) :: settingsOf fuel (bs.drop (12 + (len + 3) / 4 * 4))

/-- The settings an image carries. -/
def imgSettings (img : List Byte) : List (Nat × Nat × List Byte) :=
  match imgSection img 1 with
  | some (n, bs) => settingsOf n bs
  | none => []

/-- The number an image's settings give an object. -/
def imgNum (img : List Byte) (o : Nat) : Nat :=
  match (imgSettings img).find? (fun e => e.1 == o) with
  | some e => leNat e.2.2
  | none => 0

/-- The number that a path's stage holds for an object, otherwise its active value. -/
def Mod.stagedNum (m : Mod) (p : Path) (o i : Nat) : Nat :=
  match (m.stage p).find? (fun e => e.obj == o && e.sel == i) with
  | some e => match e.val with
    | .num n => n
    | .oct _ => 0
  | none => m.num o i

/-- RESULT of the check of an image on its final segment (R230, R232). -/
def Mod.restoreCheck (m : Mod) (p : Path) (img : List Byte) : Nat :=
  let t := field img 7 1
  let n := img.length
  let slot := field img 0x1C 2
  let crcBad := n < 0x64 || field img 8 4 != n || slice img 0 4 != [0x54, 0x49, 0x4D, 0x47] || field img 6 1 != 1 ||
    crc32 (img.take (n - 4)) != field img (n - 4) 4
  let macBad := slot != 0xFFFF && slice (Config.hmac (m.keyBytes slot) (img.take (n - 36))) 0 32 != slice img (n - 36) 32
  let rateBad := field img 0x0E 1 != 0xB0 || field img 0x0F 1 != m.num 0x200001
  let same := fun (o : Nat) => m.stagedNum p o t == imgNum img o
  let allotBad := !([0x511002, 0x511003, 0x511004, 0x511005, 0x511006, 0x511007, 0x511008, 0x511009, 0x51100A].all same)
  let others := m.otherTenants t
  let g := fun (o : Nat) => m.stagedNum p o t
  let inUse := m.tnState t != tnEmpty ||
    others.any (fun u =>
      rangesMeet (g 0x511001) (g 0x511002) (m.num 0x511101 u) (m.num 0x511102 u) ||
      rangesMeet (g 0x511003) (g 0x511004) (m.num 0x511103 u) (m.num 0x511104 u) ||
      rangesMeet (g 0x511005) (g 0x511006) (m.num 0x511105 u) (m.num 0x511106 u) ||
      rangesMeet (g 0x511009) (32 * g 0x51100A) (m.num 0x511109 u) (32 * m.num 0x51110A u) ||
      (List.range 16).any (fun e => bit (g 0x511007) e && bit (m.num 0x511107 u) e)) ||
    m.ten.clearing.any (fun c => rangesMeet (g 0x511001) (g 0x511002) c.1 c.2) ||
    decide (0xC00000 < g 0x51100B + (others.map (fun u => m.num 0x51110B u)).sum) ||
    (List.range 16).any (fun e => bit (g 0x511007) e && m.engState e == enRunning)
  let bits := b2n crcBad + 2 * b2n macBad + 4 * b2n rateBad + 8 * b2n allotBad + 16 * b2n inUse
  bits + 32 * b2n (field img 0x1A 1 != m.delay) + (if bits = 0 then 2 ^ 31 else 0)

/-- IMAGE_SEGMENT_WRITE (R230): a part of the image at its offset; on the final one the image is checked. A refusal clears the staged
SRAM and raises event 0x0521. -/
def imageSegmentWrite (p : Path) (offset : Nat) (bytes : List Byte) (last : Bool) (m : Mod) : Mod :=
  if offset ≠ 0 ∧ offset ≠ m.ten.loadBuf.length then m.report p abOrder
  else
    let img := if offset = 0 then bytes else m.ten.loadBuf ++ bytes
    let m := ({ m with ten := { m.ten with loadBuf := img } }.set 0x515003 2).report p 0
    if !last then m
    else
      let r := m.restoreCheck p img
      let t := field img 7 1
      let m := (m.set 0x515007 r).set 0x515003 0
      if bit r 31 then m
      else
        let m := { m with ten := { m.ten with loadBuf := [] } }.wipe (sramAt + m.stagedNum p 0x511001 t) (m.stagedNum p 0x511002 t)
        m.raise 0x0521 [t, r]

/-- IMAGE_SEGMENT_WRITE. -/
def execImageSegmentWrite (path : Path) (offset : Nat) (bytes : List Byte) (last : Bool) (s : State) : Host.Outcome State Fault Refusal :=
  .next { s with mod := s.mod.gate path (fun (m : Mod) => imageSegmentWrite path offset bytes last m) }

end Sys2Proof.Machine
end

