-- ==== Sys2Proof/Machine/Digest.lean ====
section
/-!
DEFINITION. SETTINGS_DIGEST, and the steps of start-up as they complete (R237, R538).
-/
namespace Sys2Proof.Machine

/-! ## The settings digest (R237) -/

/-- Every object of the dictionary in ascending order, with the objects that one row describes for sixteen engines or eight filters. -/
def allObjects : List Nat :=
  let blocks := [0x10, 0x1F, 0x20, 0x30, 0x31, 0x32, 0x33, 0x34, 0x35, 0x38, 0x39, 0x3A, 0x3B, 0x3C, 0x3D, 0x40, 0x44, 0x45, 0x48, 0x4C,
    0x50, 0x51, 0x58, 0x59, 0x5A, 0x5C, 0x5D, 0x5E, 0x60, 0x61, 0x64, 0x68]
  let rows := (blocks.flatMap objRowsOf).map (fun r => r.obj)
  (rows.flatMap (fun o =>
    let n := if o / 0x10000 = 0x59 ∧ o / 0x1000 % 2 = 0 then 16 else if o / 256 = 0x3400 then 8 else 1
    (List.range n).map (fun i => o + 256 * i))).mergeSort

/-- The access code of an object. -/
def accessOf (o : Nat) : Option Access := (objRow? o).map (fun r => r.acc)

/-- Whether an object is triad-wide, its value agreed by commits: access RWT or RWS (R447). -/
def triadWide (o : Nat) : Bool := accessOf o == some .rwt || accessOf o == some .rws

/-- The triad-wide objects that the configuration digest covers: all but MODULE_ID. -/
def digestObjects : List Nat := allObjects.filter (fun o => triadWide o && o != 0x610001)

/-- All instances of object `o`: those of a constant pool are its image's (R177). -/
def Mod.instances (m : Mod) (o : Nat) : List Nat :=
  if o / 0x1000 = 0x590 then List.range (liConsts (m.engine (o / 256 % 16)).image) else instancesAll o

/-- The instances of object `o` that the digest covers: of the profiles the user profiles alone, the presets being RO (R97). -/
def Mod.digestInstances (m : Mod) (o : Nat) : List Nat :=
  if o / 256 = 0x4420 then (m.instances o).filter (4 ≤ ·) else m.instances o

/-- The active value of a triad-wide object: a logic image, its constants and its presets stand with the engine (R170, R176). -/
def Mod.active (m : Mod) (o : Nat) (i : Nat := 0) : Val :=
  let g := o / 256 % 16
  if o = 0x581002 then .oct (m.engine i).image
  else if o / 0x1000 = 0x590 then .num (m.constant g i)
  else if o / 0x1000 = 0x594 ∧ o % 256 = 1 then .num (m.preset g i)
  else if o / 0x1000 = 0x596 ∧ o % 256 = 1 then .num (ofInt 32 (m.limit g i))
  else m.val o i

/-- The configuration digest: objects and values in ascending order, then the CRCs of the Last, of every user
profile and of every engine's image. -/
def Mod.configDigest (m : Mod) : Nat :=
  let c := digestObjects.foldl (fun c o => (m.digestInstances o).foldl (fun c i =>
    crcRun c (toLE 2 (o / 256) ++ toLE 1 (o % 256) ++ toLE 2 i ++ encodeVal o (m.active o i))) c) 0xFFFFFFFF
  let c := crcRun c (toLE 4 (m.num 0x202007))
  let c := (m.digestInstances 0x442006).foldl (fun c p => crcRun c (toLE 4 (m.num 0x442006 p))) c
  ((instancesAll 0x581010).foldl (fun c g => crcRun c (toLE 4 (m.num 0x581010 g))) c) ^^^ 0xFFFFFFFF

/-- Whether the digest is the chained one: the module is a MEMBER, or has a donor's digest in RESYNC or SHADOW. -/
def Mod.digestChained (m : Mod) : Bool := m.mstate == msMember || m.mstate == msResync || m.mstate == msShadow

/-- SETTINGS_DIGEST as it reads: chained, or the configuration digest of the values in force (log entry 76). -/
def Mod.settingsDigest (m : Mod) : Nat := if m.digestChained then m.num 0x600006 else m.configDigest

/-! ## Start-up (R538) -/

/-- Step n of start-up completes and the next begins. The time of completion is a free value: elapsed time is no state (log entry 77). -/
def Mod.stepDone (m : Mod) (n : Nat) : Mod :=
  if m.num 0x203001 ≠ n then m
  else
    let (us, m) := m.draw 32
    let times := slice (m.oct 0x203003) 0 40
    (m.setOct 0x203003 (times.take (4 * (n - 1)) ++ toLE 4 us ++ times.drop (4 * n))).set 0x203001 (n + 1)

/-- START_UP_COMPLETE: step 9 ends when the member state is MEMBER, STANDALONE, OUT or CONFLICT; step 10 is entered, STARTUP_STEP reads 11
and event 0x0004 carries STEP_TIMES. -/
def Mod.joined (m : Mod) : Mod :=
  if m.num 0x203001 = 9 ∧ (m.mstate = msMember ∨ m.mstate = msStandalone ∨ m.mstate = msOut ∨ m.mstate = msConflict) then
    let m := (m.stepDone 9).stepDone 10
    m.raise 0x0004 ((List.range 10).map (fun i => field (m.oct 0x203003) (4 * i) 4))
  else m

end Sys2Proof.Machine
end

