-- ==== Sys2Proof/Machine/Stations.lean ====
section
/-!
DEFINITION. Remote stations: matching, validity, records, the agreed image, dropout and substitution (R178-R182, R244).
-/
namespace Sys2Proof.Machine

/-- The enabled stations. -/
def Mod.stationsOn (m : Mod) : List Nat := m.instancesOn 0x5A0001

/-- Station r's runtime. -/
def Mod.station (m : Mod) (r : Nat) : StationRt := Table.get m.logic.stations {} r
/-- Station r's runtime replaced. -/
def Mod.setStation (m : Mod) (r : Nat) (x : StationRt) : Mod :=
  { m with logic := { m.logic with stations := Table.set m.logic.stations {} r x } }

/-- The states of R181. -/
def stDisabled : Nat := 0
/-- DROPPED. -/
def stDropped : Nat := 1
/-- PRESENT. -/
def stPresent : Nat := 2

/-- The 64 bits of station r written (R156). -/
def Mod.setStationBits (m : Mod) (r v : Nat) : Mod :=
  m.setBits ((List.range 64).map (fun j => (0x10000 + 64 * r + j, bit v j)))

/-! ## Messages (R178-R180) -/

/-- The bits and bad-quality bits a dataset gives under a member map; none where its shape does not fit. Octet j names member
bits 6:0 and with bit 7 the second bit of a 2-bit BIT STRING; 0xFF is unmapped. -/
def mapMembers (members : List GooseMember) : List Byte → Nat → Option (Nat × Nat)
  | [], _ => some (0, 0)
  | o :: t, j =>
    match mapMembers members t (j + 1) with
    | none => none
    | some (bits, bad) =>
      if o = 0xFF then some (bits, bad)
      else
        let i := o.toNat % 128
        let second := decide (128 ≤ o.toNat)
        let v := match members[i]? with
          | some (.boolean b) => if second then none else some b
          | some (.bitString x w) => if second then (if w = 2 then some (bit x 1) else none) else some (bit x 0)
          | _ => none
        let q := match members[i + 1]? with
          | some (.bitString x 13) => x % 4 != 0
          | _ => false
        v.map (fun b => (bits + (if b then 2 ^ j else 0), bad + (if q then 2 ^ j else 0)))

/-- Whether a GOOSE station matches a frame on its four keys (R178). -/
def Mod.gooseMatches (m : Mod) (f : GooseFrame) (r : Nat) : Bool :=
  decide (r < 1024) && m.oct 0x5A0002 r == f.dstMac && m.num 0x5A0003 r == f.appid && m.oct 0x5A0004 r == f.goCBRef &&
  m.num 0x5A0005 r == f.confRev

/-- A message taken into what a station has received since its last record (log entry 39). -/
def StMsg.take (old new : StMsg) : StMsg :=
  if new.invalid then { old with invalid := true }
  else if !old.valid || old.order < new.order then { new with invalid := old.invalid }
  else if old.order = new.order then { old with k := min old.k new.k }
  else old

/-- A further copy of the message that the station's record holds: k_last stays the earliest arrival of all copies (R244). -/
def StMsg.copyOf (new old : StMsg) : StMsg := if new.valid ∧ new.order = old.order ∧ old.k ≠ 0 then { new with k := min new.k old.k } else new

/-- A GOOSE frame at a station it matches, with its arrival tick (R180). -/
def gooseAt (f : GooseFrame) (k r : Nat) (m : Mod) : Mod :=
  let x := m.station r
  let msg : StMsg := match mapMembers f.members (m.oct 0x5A0006 r) 0 with
    | some (bits, bad) =>
      if f.ndsCom ∨ (f.test ∧ m.num 0x5A0009 r ≠ 1) then { invalid := true }
      else { valid := true, bits := bits, qbad := bad, tal := f.tal, k := k, order := f.stNum * 2 ^ 32 + f.sqNum }
    | none => { invalid := true }
  m.setStation r { x with rx := x.rx.take (msg.copyOf x.record) }

/-- The module IDs of the other ranks of the triad (R235, R273). -/
def Mod.peerIds (m : Mod) : List Nat :=
  (([1, 2, 3].filter (fun r => r != m.rank)).map (fun r => m.num 0x600101 r)).filter (fun d => d != 0)

/-- A station copy to both peers: a W1 FRAME with bit STATION and the arrival tick at this module (R244, R280). Its class is SC1 (log entry 220). -/
def Mod.forwardStation (m : Mod) (bytes : List Byte) : Mod :=
  m.each m.peerIds (fun m d =>
    (m.route { ty := .frame, vc := 1, dst := d, src := m.moduleId, flags := 4, cls := 1, tick := m.k % 2 ^ 32, len := bytes.length, data := bytes }).1)

/-- GOOSE_STATION_RX (R178, R180, R244): the frame is judged at every enabled station it matches; one that did not come over W1 is
forwarded to both peers with its arrival tick. -/
def gooseStationRx (f : GooseFrame) (origin : Option Nat) (m : Mod) : Mod :=
  let rs := m.stationsOn.filter (m.gooseMatches f)
  let m := m.each rs (fun m r => gooseAt f (origin.getD m.k) r m)
  if origin.isNone && !rs.isEmpty then m.forwardStation f.bytes else m

/-- GOOSE_STATION_RX. -/
def execGooseStationRx (f : GooseFrame) (origin : Option Nat) (s : State) : Host.Outcome State Fault Refusal :=
  .next { s with mod := s.mod.awake (gooseStationRx f origin) }

/-- A CAN frame at the stations it matches (R179): bit i of data byte b feeds bit 8b + i. -/
def canStations (ch ident : Nat) (ide : Bool) (data : List Byte) (m : Mod) : Mod :=
  let word := ident + (if ide then 2 ^ 31 else 0)
  let rs := m.stationsOn.filter (fun r => decide (1024 ≤ r) && m.num 0x5A0007 r == ch && m.num 0x5A0008 r == word)
  m.each rs (fun m r =>
    let x := m.station r
    let msg : StMsg := { valid := true, bits := leNat (slice data 0 8), k := m.k, order := x.rx.order + 1 }
    m.setStation r { x with rx := x.rx.take msg })

/-! ## The record and the image (R181, R244) -/

/-- The record of station r is formed at tick start from what has arrived. With no new valid message it keeps the last bits and k_last. -/
def formStation (r : Nat) (m : Mod) : Mod :=
  let x := m.station r
  let rec' : StMsg := if x.rx.valid then x.rx
    else { x.record with valid := false, invalid := x.rx.invalid, k := m.num 0x5A000F r }
  m.setStation r { x with record := rec', agreed := {}, rx := {} }

/-- The station digest: CRC of R23 over the 21 octets of the record (R244), little-endian (log entry 48). -/
def stationDigest (x : StMsg) : Nat :=
  crc32 (toLE 8 x.bits ++ toLE 8 x.qbad ++ toLE 4 (x.k % 2 ^ 32) ++ toLE 1 (b2n x.valid + 2 * b2n x.invalid))

/-- The substitute value of station r's 64 bits (R182). -/
def Mod.substBits (m : Mod) (r : Nat) : Nat :=
  let fixed := leNat (slice (m.oct 0x5A000D r) 0 8)
  if m.num 0x5A000B r = 1 then (m.station r).held.getD fixed else fixed

/-- L of station r in ticks (R181). -/
def Mod.stationLimit (m : Mod) (r : Nat) : Nat :=
  if r < 1024 then ((m.station r).tal * m.hz + 999) / 1000 else m.num 0x5A000A r

/-- Station r takes its agreed record: a valid message makes a DROPPED station PRESENT, a PRESENT one shows the values received last, those of bad
quality substituted as the settings now stand, and a DROPPED one shows its substitutes (R181, R182). -/
def applyStation (r : Nat) (m : Mod) : Mod :=
  let x := m.station r
  let a := x.agreed
  let m := if a.valid then
      (m.set 0x5A000F (m.k - (m.k - a.k) % 2 ^ 32) r).setStation r { x with tal := if r < 1024 then a.tal else x.tal, last := (a.bits, a.qbad) }
    else m
  let m := if a.valid ∧ !a.invalid ∧ m.num 0x5A000E r = stDropped then
      ((m.set 0x5A000E stPresent r).setBitAt (0x84000 + r) true).raise 0x0606 [r, m.k]
    else m
  if m.num 0x5A000E r = stDropped then m.setStationBits r (m.substBits r)
  else if m.num 0x5A000E r ≠ stPresent ∨ a.invalid then m
  else
    let (bits, qbad) := (m.station r).last
    let v := (List.range 64).foldl (fun n j => n + (if bit (if bit qbad j then m.substBits r else bits) j then 2 ^ j else 0)) 0
    (m.setStationBits r v).setStation r { m.station r with held := some v }

/-- The agreed remote-input image of the tick (R181). -/
def applyStations (m : Mod) : Mod :=
  let m := { m with logic := { m.logic with imaged := true } }
  m.each m.stationsOn (fun m r => applyStation r m)

/-- The bits 0x84800 + r of the tick before are cleared at tick start (R157). -/
def clearDropped (m : Mod) : Mod :=
  { m with bits := m.bits.filter (fun e => !decide (0x84800 ≤ e.1 ∧ e.1 < 0x85000)), logic := { m.logic with imaged := false } }

/-- STATION_DROPOUT (R181): a PRESENT station with an invalid message in the image, or with k - k_last above L, becomes DROPPED. -/
def stationDropout (r : Nat) (m : Mod) : Mod :=
  let a := (m.station r).agreed
  let cause := if a.invalid then 2 else if m.stationLimit r < m.k - m.num 0x5A000F r then 1 else 0
  if m.num 0x5A000E r ≠ stPresent ∨ cause = 0 ∨ !m.logic.imaged then m
  else
    let m := (m.set 0x5A000E stDropped r).setStationBits r (m.substBits r)
    let m := (m.setBitAt (0x84000 + r) false).setBitAt (0x84800 + r) true
    (m.bump 0x5A000C r).raise 0x0605 [r, cause, m.k]

/-- STATION_DROPOUT. -/
def execStationDropout (r : Nat) (s : State) : Host.Outcome State Fault Refusal := .next { s with mod := s.mod.awake (stationDropout r) }

/-- A committed enable or disable of station r (R181). -/
def stationEnable (r v : Nat) (m : Mod) : Mod :=
  if v = m.num 0x5A0001 r then m
  else
    let m := m.set 0x5A0001 v r
    if v = 1 then
      let m := (m.set 0x5A000E stDropped r).setStation r { held := (m.station r).held }
      m.setStationBits r (m.substBits r)
    else
      ((m.set 0x5A000E stDisabled r).setStationBits r 0).setBitAt (0x84000 + r) false

end Sys2Proof.Machine
end

