-- ==== Sys2Proof/Machine/SwitchCore.lean ====
section
/-!
DEFINITION. The shared buffer: port rates and states, admission, cells, pause by occupancy, and the flush of a port (R308-R318,
R324-R327, R354); and the publish and hold gates (R259, R263).
-/
namespace Sys2Proof.Machine

/-! ## The gates of the Lace line (R259, R263) -/

/-- The decoded state of rank r's line (R257). -/
def Mod.line (m : Mod) (r : Nat) : Nat := m.num (0x601001 + r)
/-- CLAIM as R257 codes it. -/
def lnClaim : Nat := 2
/-- Whether a line other than the module's own decodes CLAIM. -/
def Mod.otherClaims (m : Mod) : Bool := [1, 2, 3].any (fun r => r != m.rank && m.line r == lnClaim)
/-- Whether the publish gate is open (R259); a LACE_FAULT closes it (R266). -/
def Mod.gateOpen (m : Mod) : Bool :=
  m.triad.drive == .claim && m.line m.rank == lnClaim && !m.otherClaims && m.num 0x601005 == 0
/-- Whether the hold gate is open (R263). -/
def Mod.holdGate (m : Mod) : Bool := m.triad.lastPub && !([1, 2, 3].any (fun r => m.line r == lnClaim))

/-! ## Ports -/

/-- Switch port p. -/
def Mod.port (m : Mod) (p : Nat) : SwPort := Table.get m.sw.ports {} p
/-- A switch port replaced. -/
def Mod.setPort (m : Mod) (p : Nat) (x : SwPort) : Mod := { m with sw := { m.sw with ports := Table.set m.sw.ports {} p x } }

/-- Whether a port number exists (R308). -/
def portExists (p : Nat) : Bool := decide (p ≤ 792) || decide (800 ≤ p ∧ p ≤ 866)

/-- The port rate of a lane mode in Mb/s (R346). -/
def modeRate (mode : Nat) : Nat := [0, 1000, 1000, 2500, 1000, 2500, 10000, 25000].getD mode 0
/-- Ports per lane of a mode (R346). -/
def modePorts (mode : Nat) : Nat := [0, 1, 1, 1, 4, 4, 1, 1].getD mode 0
/-- Whether the mode of a port's lane provides it. -/
def Mod.provided (m : Mod) (p : Nat) : Bool := decide (p % 4 < modePorts (m.num 0x310001 (p / 4)))

/-- The rate of a port in Mb/s (R308). -/
def Mod.portRate (m : Mod) (p : Nat) : Nat :=
  if p < 768 then (if m.provided p then modeRate (m.num 0x310001 (p / 4)) else 0)
  else if p < 792 then m.num 0x611001 (p - 768) * [51515, 25000, 10000].getD (m.num 0x611005 (p - 768)) 0
  else if p = 792 then 400000
  else if p = 864 ∨ p = 866 then 100000
  else 25000

/-- The port states of R350. -/
def psDisabled : Nat := 0
/-- DOWN. -/
def psDown : Nat := 1
/-- UP. -/
def psUp : Nat := 2
/-- DORMANT. -/
def psDormant : Nat := 3

/-- Whether the switch has started: step 7 of start-up, lanes up, has begun (R309, R538; log entry 227). -/
def Mod.switchOn (m : Mod) : Bool := decide (7 ≤ m.num 0x203001)

/-- Whether port p is up for frames that leave the switch on it (R309). -/
def Mod.upOut (m : Mod) (p : Nat) : Bool :=
  if p < 768 then m.num 0x320002 p == psUp
  else if p < 792 then m.lkUp (p - 768)
  else if 800 ≤ p ∧ p ≤ 863 then m.num 0x510001 (p - 799) == tnRunning && (m.tenant (p - 799)).rx.size != 0
  else portExists p && m.switchOn

/-- Whether port p is up for frames it receives (R309). -/
def Mod.upIn (m : Mod) (p : Nat) : Bool :=
  if p = 792 then false
  else if 800 ≤ p ∧ p ≤ 863 then m.num 0x510001 (p - 799) == tnRunning && (m.tenant (p - 799)).tx.size != 0
  else m.upOut p

/-- The ports that exist. -/
def allPorts : List Nat := (List.range 867).filter portExists

/-- The sum of rates over ports, tenant ports together at most 200 Gb/s (R308, R309). -/
def Mod.rateSum (m : Mod) (up : Nat → Bool) : Nat :=
  let on := allPorts.filter up
  let ten := on.filter (fun p => decide (800 ≤ p ∧ p ≤ 863))
  let rest := on.filter (fun p => !decide (800 ≤ p ∧ p ≤ 863))
  (rest.map m.portRate).sum + min ((ten.map m.portRate).sum) 200000

/-- C_IN and C_OUT as they stand (R309). -/
def Mod.cIn (m : Mod) : Nat := m.rateSum m.upIn
/-- C_OUT. -/
def Mod.cOut (m : Mod) : Nat := m.rateSum m.upOut

/-- RATE of a port as it reads: an internal port has none before the switch starts (R308, R329). -/
def Mod.rateShown (m : Mod) (p : Nat) : Nat := if p < 792 ∨ (portExists p ∧ m.switchOn) then m.portRate p else 0

/-! ## Cells (R311, R316) -/

/-- The length of a frame with its FCS. -/
def frameLen (f : List Byte) : Nat := f.length + 4
/-- The cells a frame occupies. -/
def cellsOf (f : List Byte) : Nat := (frameLen f + 255) / 256
/-- The bank words that writing or reading a frame takes. -/
def wordsOf (f : List Byte) : Nat := (frameLen f + 15) / 16
/-- The cells a copy holds. -/
def Copy.cells (c : Copy) : Nat := c.res + c.shr

/-- Free cells of the shared pool. -/
def Mod.shrFree (m : Mod) : Nat := 90112 - m.sw.shrUsed
/-- Q(p, c), the cells queued. -/
def Mod.queued (m : Mod) (p c : Nat) : Nat := (((m.port p).q.filter (fun x => x.cls = c)).map Copy.cells).sum
/-- All copies of a port, the one being sent first. -/
def SwPort.copies (x : SwPort) : List Copy := x.sending.toList ++ x.q
/-- All copies in the buffer. -/
def Mod.copies (m : Mod) : List Copy := m.sw.ports.flatMap (fun e => e.2.copies)
/-- I(p), the ingress occupancy of R354. -/
def Mod.occupancy (m : Mod) (p : Nat) : Nat := ((m.copies.filter (fun (c : Copy) => c.ingress = p ∧ c.cls ≠ 0)).map Copy.cells).sum

/-- XOFF and XON of port p by its occupancy (R354); a port that is not UP sends none, and tells its occupancy anew once it is. -/
def pauseCheck (p : Nat) (m : Mod) : Mod :=
  let x := m.port p
  let i := m.num 0x320016 p
  if m.num 0x320002 p ≠ psUp then (if x.xoff then m.setPort p { x with xoff := false } else m)
  else if m.num 0x320007 p ≠ 1 ∨ m.num 0x320006 p ≠ 0 then m
  else if !x.xoff ∧ m.num 0x320009 p ≤ i then ((m.setPort p { x with xoff := true }).bump 0x320025 p).emit (.pause p (m.num 0x32000B p))
  else if x.xoff ∧ i < m.num 0x32000A p then ((m.setPort p { x with xoff := false }).bump 0x320025 p).emit (.pause p 0)
  else m

/-- The objects that show the buffer's use, and pause, brought up to date (R329, R354). -/
def Mod.swSync (m : Mod) : Mod :=
  let m := m.set 0x300002 (98304 - m.sw.resUsed - m.sw.shrUsed)
  let m := m.set 0x300004 (((m.copies.filter (fun (c : Copy) => c.cls = 0)).map Copy.cells).sum)
  let m := m.each (m.sw.ports.map Prod.fst) (fun m p =>
    let x := (List.range 8).flatMap (fun c => toLE 4 (m.queued p c))
    if x.all (· == 0) ∧ m.oct 0x301020 p = List.replicate 32 0 then m else m.setOct 0x301020 x p)
  let ins := ((m.copies.map (fun (c : Copy) => c.ingress)) ++ m.instancesOn 0x320016).eraseDups.filter (· < 768)
  let m := m.each ins (fun m p => m.set 0x320016 (m.occupancy p) p)
  m.each ins (fun m p => pauseCheck p m)

/-- The cells of a copy given back. -/
def Mod.release (m : Mod) (c : Copy) : Mod :=
  { m with sw := { m.sw with resUsed := m.sw.resUsed - c.res, shrUsed := m.sw.shrUsed - c.shr } }

/-- A copy put into its queue with the cells it takes. -/
def Mod.enqueue (m : Mod) (p : Nat) (c : Copy) : Mod :=
  let m := { m with sw := { m.sw with
    resUsed := m.sw.resUsed + c.res
    shrUsed := m.sw.shrUsed + c.shr
    words := m.sw.words + wordsOf c.frame } }
  m.setPort p { m.port p with q := (m.port p).q ++ [c] }

/-- A copy of class SC1 to SC7 for port p is admitted while the shared pool has room and its queue is below its share (R316). -/
def Mod.admits (m : Mod) (p : Nat) (c : Copy) : Bool :=
  decide (cellsOf c.frame ≤ m.shrFree ∧ 16 * m.queued p c.cls < m.num 0x300203 c.cls * m.shrFree)

/-- A copy offered to egress port p: dropped while the port is down, while the banks are saturated, or for want of cells, and counted;
otherwise queued (R312, R316, R317, R324, R327). `saturated` is R312's case. -/
def Mod.offer (m : Mod) (p : Nat) (saturated : Bool) (c : Copy) : Mod :=
  let n := cellsOf c.frame
  match c.mirror with
  | some s =>
    if m.upOut p ∧ saturated then m.bump 0x301018 p
    else if !m.upOut p ∨ m.shrFree ≤ m.num 0x30000D ∨ !m.admits p c then m.bump 0x302008 s
    else m.enqueue p { c with shr := n }
  | none =>
    if !m.upOut p then m.bump 0x301013 p
    else if c.cls = 0 then
      let r := min n (8192 - m.sw.resUsed)
      if m.shrFree < n - r then (m.bump 0x300007).raise 0x0220 [c.ingress, p, m.k]
      else m.enqueue p { c with res := r, shr := n - r }
    else if saturated then m.bump 0x301018 p
    else if !m.admits p c then m.bump 0x301011 p
    else m.enqueue p { c with shr := n }

/-! ## Frames that end badly, and flush (R322, R324, R351) -/

/-- On port p, the copies of reception `no` that are still being received: stored ones are discarded, one being sent is ended with an
inverted FCS. -/
def Mod.dropReception (m : Mod) (no p : Nat) : Mod :=
  let x := m.port p
  let mine := fun (c : Copy) => c.no == no && !c.whole
  let gone := x.q.filter mine
  let m := m.setPort p { x with q := x.q.filter (fun c => !mine c) }
  let m := m.each gone Mod.release
  match x.sending with
  | some c =>
    if mine c then ((m.setPort p { m.port p with sending := none, cut := false }).release c).emit (.txCut p) else m
  | none => m

/-- Every copy of a reception that ends badly goes; a cut-through copy is counted on the ingress port (R322). -/
def Mod.badEnd (m : Mod) (ingress no : Nat) : Mod :=
  let cut := (m.sw.ports.filter (fun e => match e.2.sending with
    | some c => c.no == no && !c.whole && e.2.cut
    | none => false)).length
  let m := m.bump 0x301017 ingress cut
  m.each (m.sw.ports.map Prod.fst) (fun m p => m.dropReception no p)

/-- The copies of a reception that has ended well are whole. -/
def Mod.goodEnd (m : Mod) (no : Nat) : Mod :=
  let fin := fun (c : Copy) => if c.no = no then { c with whole := true } else c
  m.each (m.sw.ports.map Prod.fst) (fun m p => m.setPort p { m.port p with q := (m.port p).q.map fin, sending := (m.port p).sending.map fin })

/-- The reception in progress on a port is over. -/
def Mod.endRx (m : Mod) (p : Nat) : Mod := m.setPort p { m.port p with rx := none }

/-- Port p goes down to the switch: its reception is discarded, its copies are freed and counted, its scheduler state cleared; event 0x0223 (R324, R351). -/
def Mod.flushPort (m : Mod) (p : Nat) : Mod :=
  let m := match (m.port p).rx with
    | some no => (m.badEnd p no).endRx p
    | none => m
  let x := m.port p
  let n := x.copies.length
  let m := m.each x.copies Mod.release
  let m := if x.sending.isSome then m.emit (.txCut p) else m
  let m := m.each (x.copies.filterMap (fun (c : Copy) => c.mirror)) (fun m s => m.bump 0x302008 s)
  let m := m.setPort p { x with q := [], deficit := List.replicate 8 0, turn := 7, sending := none, cut := false }
  ((m.bump 0x301012 p n).raise 0x0223 [p, n, m.k]).swSync

/-! ## MAC addresses and tags -/

/-- Whether a MAC address is a group address. -/
def isGroup (mac : List Byte) : Bool := (mac.getD 0 0) &&& 1 == 1
/-- The broadcast address. -/
def isBroadcast (mac : List Byte) : Bool := mac == List.replicate 6 0xFF

/-- Whether a frame has an outer tag, of TPID 0x8100, 0x88A8 or a port's own. -/
def hasTag (tpid : Nat) (f : List Byte) : Bool :=
  let v := beNat (slice f 12 2)
  v == 0x8100 || v == 0x88A8 || v == tpid

/-- A frame with an outer tag put in. -/
def addTag (tpid pcp vid : Nat) (f : List Byte) : List Byte :=
  f.take 12 ++ toBE 2 tpid ++ toBE 2 (pcp % 8 * 2 ^ 13 + vid % 4096) ++ f.drop 12

/-- A frame without its outer tag. -/
def dropTag (f : List Byte) : List Byte := f.take 12 ++ f.drop 16

/-- A frame whose outer tag carries another VLAN ID. -/
def retag (vid : Nat) (f : List Byte) : List Byte :=
  f.take 14 ++ toBE 2 (beNat (slice f 14 2) / 4096 * 4096 + vid % 4096) ++ f.drop 16

end Sys2Proof.Machine
end

