-- ==== Sys2Proof/Machine/Forward.lean ====
section
/-!
DEFINITION. The forwarding tables: MAC table, route table, classifier and the forwarding decision (R331-R345).
-/
namespace Sys2Proof.Machine

/-! ## The MAC table (R334-R338) -/

/-- The key of R334: context as a big-endian U16, then the address. -/
def macKey (context : Nat) (mac : List Byte) : List Byte := toBE 2 context ++ mac
/-- The two candidate buckets of a key (R334). -/
def macBuckets (key : List Byte) : Nat × Nat := (crc32 key % 2 ^ 15, crc32 key / 2 ^ 15 % 2 ^ 15)
/-- The overflow store. -/
def macOverflow : Nat := 32768

/-- The entries of a bucket of the MAC table. -/
def Mod.macAt (m : Mod) (b : Nat) : List MacEntry := Table.get m.sw.mac [] b
/-- A bucket of the MAC table replaced. -/
def Mod.setMacAt (m : Mod) (b : Nat) (l : List MacEntry) : Mod := { m with sw := { m.sw with mac := Table.set m.sw.mac [] b l } }

/-- Where a lookup finds the entry of a key: candidate buckets and overflow store (R334). -/
def Mod.macFind (m : Mod) (context : Nat) (mac : List Byte) : Option (Nat × MacEntry) :=
  let (b0, b1) := macBuckets (macKey context mac)
  [b0, b1, macOverflow].findSome? (fun b => ((m.macAt b).find? (fun e => e.context == context && e.mac == mac)).map (fun e => (b, e)))

/-- Every entry of the table, in bucket order. -/
def Mod.macAll (m : Mod) : List MacEntry := m.sw.mac.flatMap Prod.snd

/-- MAC_ENTRIES and MAC_STATIC brought up to date. -/
def Mod.macCounts (m : Mod) : Mod :=
  (m.set 0x380001 m.macAll.length).set 0x380002 (m.macAll.filter MacEntry.static).length

/-- An entry of the table changed in its place. -/
def Mod.macUpdate (m : Mod) (b : Nat) (e e' : MacEntry) : Mod :=
  (m.setMacAt b ((m.macAt b).map (fun x => if x = e then e' else x))).macCounts

/-- The bucket that takes a new key by the insertion rule of R334, with `cap` places a bucket; none when the table is full. -/
def insertBucket (n0 n1 nOver need cap capOver b0 b1 past : Nat) : Option Nat :=
  let f0 := decide (n0 + need ≤ cap)
  let f1 := decide (n1 + need ≤ cap)
  if f0 && (!f1 || decide (n0 ≤ n1)) then some b0
  else if f1 then some b1
  else if nOver + need ≤ capOver then some past
  else none

/-- An entry inserted; the answer is false when there is no room (R334). -/
def Mod.macInsert (m : Mod) (e : MacEntry) : Mod × Bool :=
  let (b0, b1) := macBuckets (macKey e.context e.mac)
  match insertBucket (m.macAt b0).length (m.macAt b1).length (m.macAt macOverflow).length 1 4 256 b0 b1 macOverflow with
  | some b => ((m.setMacAt b (m.macAt b ++ [e])).macCounts, true)
  | none => (m, false)

/-- The entries that satisfy `p` removed; the answer is how many. -/
def Mod.macRemove (m : Mod) (p : MacEntry → Bool) : Mod × Nat :=
  let n := (m.macAll.filter p).length
  let t := (m.sw.mac.map (fun e => (e.1, e.2.filter (fun x => !p x)))).filter (fun e => !e.2.isEmpty)
  ({ m with sw := { m.sw with mac := t } }.macCounts, n)

/-- The learned entries of port p removed, counted; event 0x0233 (R337). -/
def Mod.macFlush (m : Mod) (p : Nat) : Mod :=
  let (m, n) := m.macRemove (fun e => !e.static && e.dest == p)
  (m.bump 0x380006 0 n).raise 0x0233 [p, n, m.k]

/-- The ports of group g (R333). -/
def Mod.groupPorts (m : Mod) (g : Nat) : List Nat := u16s (m.oct 0x392001 g)
/-- The ports that a DEST names (R334); a port that does not exist contributes nothing. -/
def Mod.destPorts (m : Mod) (d : Nat) : List Nat :=
  ((if bit d 15 then m.groupPorts (d % 4096) else [d % 1024]).filter portExists).eraseDups

/-- Learning of a source address seen on port p in a context (R335). TICK is renewed by each learn that sets HIT (DEDUCED, log entry 228).
The answer is false where the frame is dropped. -/
def Mod.learn (m : Mod) (context : Nat) (mac : List Byte) (p : Nat) : Mod × Bool :=
  let lo := m.k % 2 ^ 32
  if isGroup mac then (m.bump 0x38000B, true)
  else match m.macFind context mac with
    | none =>
      let (m', ok) := m.macInsert { mac := mac, context := context, dest := p, hit := true, tick := lo }
      if ok then (m', true) else ((m.bump 0x380004).raise 0x0230 [context, p, m.k], true)
    | some (b, e) =>
      if e.static then
        if (m.destPorts e.dest).contains p then (m, true)
        else ((m.bump 0x380005).raise 0x0231 [context, beNat mac, p, m.k], false)
      else if e.dest = p then (m.macUpdate b e { e with hit := true, tick := lo }, true)
      else ((m.macUpdate b e { e with dest := p, hit := true, tick := lo }).bump 0x380007, true)

/-- MAC_SWEEP (R336): every learned entry is visited once; one found clear on two successive sweeps is removed. -/
def macSweep (m : Mod) : Mod :=
  let visit := fun (e : MacEntry) => if e.static then e else if e.hit then { e with hit := false, clear := 0 } else { e with clear := e.clear + 1 }
  let m := { m with sw := { m.sw with mac := m.sw.mac.map (fun (b : Nat × List MacEntry) => (b.1, b.2.map visit)) } }
  let (m, n) := m.macRemove (fun e => !e.static && decide (2 ≤ e.clear))
  m.bump 0x380006 0 n

/-- MAC_SWEEP. -/
def execMacSweep (s : State) : Host.Outcome State Fault Refusal := .next { s with mod := s.mod.awake macSweep }

/-- Why an access to the staging sets of R338 is refused: only the supervisor writes there. -/
def supervisorOnly (p : Path) : Bool := p != .supervisor

/-- MAC_FLUSH_PORT (R337): writing p removes its learned entries. -/
def macFlushPort (path : Path) (p : Nat) (m : Mod) : Mod :=
  if !portExists p then m.report path abValue else m.served path (fun m => m.macFlush p)

/-- MAC_FLUSH_PORT. -/
def execMacFlushPort (path : Path) (p : Nat) (s : State) : Host.Outcome State Fault Refusal :=
  .next { s with mod := s.mod.gate path (fun (m : Mod) => macFlushPort path p m) }

/-- RESULT of R338: 1 done, 2 not found, 3 table full, 4 invalid value. -/
def Mod.macResult (m : Mod) (r : Nat) : Mod := m.set 0x381006 r

/-- A write of OP to the MAC staging set by the supervisor, with effect `f`. -/
def Mod.macOp (m : Mod) (path : Path) (f : Mod → Mod) : Mod := if supervisorOnly path then m.report path abAccess else m.served path f

/-- MAC_INSERT (R338): OP 1 inserts or replaces a static entry. A DEST with reserved bits is an invalid value; one that
names a port that does not exist is taken, and contributes nothing (R331). -/
def macInsertOp (path : Path) (m : Mod) : Mod :=
  m.macOp path (fun m =>
    let c := m.num 0x381001
    let a := m.oct 0x381002
    let d := m.num 0x381003
    let e : MacEntry := { mac := a, context := c, dest := d, static := true, hit := false, tick := m.k % 2 ^ 32 }
    if (!bit d 15 ∧ 1023 < d) ∨ (bit d 15 ∧ 4095 < d % 2 ^ 15) then m.macResult 4
    else
      match m.macFind c a with
      | some (b, old) => (m.macUpdate b old e).macResult 1
      | none =>
        let (m', ok) := m.macInsert e
        if ok then m'.macResult 1 else m.macResult 3)

/-- MAC_INSERT. -/
def execMacInsert (path : Path) (s : State) : Host.Outcome State Fault Refusal :=
  .next { s with mod := s.mod.gate path (fun (m : Mod) => macInsertOp path m) }

/-- MAC_DELETE (R338): OP 2 deletes the entry, static or learned. -/
def macDeleteOp (path : Path) (m : Mod) : Mod :=
  m.macOp path (fun m =>
    let c := m.num 0x381001
    let a := m.oct 0x381002
    match m.macFind c a with
    | some _ => (m.macRemove (fun e => e.context == c && e.mac == a)).1.macResult 1
    | none => m.macResult 2)

/-- MAC_DELETE. -/
def execMacDelete (path : Path) (s : State) : Host.Outcome State Fault Refusal :=
  .next { s with mod := s.mod.gate path (fun (m : Mod) => macDeleteOp path m) }

/-- FLAGS of an entry (R334). -/
def MacEntry.flags (e : MacEntry) : Nat := b2n e.static + 2 * b2n e.hit + 4 * e.clear

/-- MAC_LOOKUP (R338): OP 3 copies the entry into DEST and FLAGS. -/
def macLookupOp (path : Path) (m : Mod) : Mod :=
  m.macOp path (fun m =>
    match m.macFind (m.num 0x381001) (m.oct 0x381002) with
    | some (_, e) => ((m.set 0x381003 e.dest).set 0x381004 e.flags).macResult 1
    | none => m.macResult 2)

/-- MAC_LOOKUP. -/
def execMacLookup (path : Path) (s : State) : Host.Outcome State Fault Refusal :=
  .next { s with mod := s.mod.gate path (fun (m : Mod) => macLookupOp path m) }

/-- The 16 octets of an entry as the dump reads it (R334). -/
def MacEntry.octets (e : MacEntry) : List Byte :=
  slice e.mac 0 6 ++ toLE 2 e.context ++ toLE 2 e.dest ++ toLE 1 e.flags ++ [0] ++ toLE 4 e.tick

/-- MAC_DUMP_START (R338): OP 4 starts a dump of the entries as they stand, in bucket order (log entry 59). -/
def macDumpStart (path : Path) (m : Mod) : Mod :=
  m.macOp path (fun m => ({ m with sw := { m.sw with dump := m.macAll.map MacEntry.octets } }.setOct 0x381007
    ((m.macAll.map MacEntry.octets).headD [])).macResult 1)

/-- MAC_DUMP_START. -/
def execMacDumpStart (path : Path) (s : State) : Host.Outcome State Fault Refusal :=
  .next { s with mod := s.mod.gate path (fun (m : Mod) => macDumpStart path m) }

/-- MAC_DUMP_NEXT (R338): a read of DUMP_NEXT returns the next entry, or an empty value at the end. -/
def macDumpNext (path : Path) (m : Mod) : Mod :=
  let m' := { m with sw := { m.sw with dump := m.sw.dump.tail } }
  (((m'.setOct 0x381007 (m'.sw.dump.headD [])).emit (.data (m.sw.dump.headD [])))).report path 0

/-- MAC_DUMP_NEXT. -/
def execMacDumpNext (path : Path) (s : State) : Host.Outcome State Fault Refusal :=
  .next { s with mod := s.mod.access path (fun (m : Mod) => macDumpNext path m) }

/-! ## The route table (R339-R341) -/

/-- An address masked to its first `len` bits. -/
def maskTo (len : Nat) (a : List Byte) : List Byte :=
  let w := 8 * a.length
  toBE a.length (beNat a / 2 ^ (w - len) * 2 ^ (w - len))

/-- Octets of an address of a family. -/
def famLen (family : Nat) : Nat := if family = 4 then 4 else 16
/-- The key of a route: family, length and masked prefix (R339). -/
def routeKey (family len : Nat) (a : List Byte) : List Byte := toBE 1 family ++ toBE 1 len ++ maskTo len a
/-- The candidate buckets of a route (R339). -/
def routeBuckets (key : List Byte) : Nat × Nat := (crc32 key % 2 ^ 14, crc32 key / 2 ^ 14 % 2 ^ 14)
/-- The overflow store. -/
def routeOverflow : Nat := 16384
/-- Units a route takes (R339). -/
def Route.units (r : Route) : Nat := if r.family = 4 then 1 else 2

/-- The routes of a bucket. -/
def Mod.routesAt (m : Mod) (b : Nat) : List Route := Table.get m.sw.routes [] b
/-- A bucket of routes replaced, with ROUTE_UNITS. -/
def Mod.setRoutesAt (m : Mod) (b : Nat) (l : List Route) : Mod :=
  let m := { m with sw := { m.sw with routes := Table.set m.sw.routes [] b l } }
  m.set 0x3A0001 (((m.sw.routes.flatMap Prod.snd).map Route.units).sum)
/-- Units in use in a bucket. -/
def Mod.unitsAt (m : Mod) (b : Nat) : Nat := ((m.routesAt b).map Route.units).sum

/-- The route of exactly this family, length and prefix, with its bucket. -/
def Mod.routeFind (m : Mod) (family len : Nat) (a : List Byte) : Option (Nat × Route) :=
  let (b0, b1) := routeBuckets (routeKey family len a)
  let p := maskTo len a
  [b0, b1, routeOverflow].findSome? (fun b =>
    ((m.routesAt b).find? (fun r => r.family == family && r.len == len && r.pfx == p)).map (fun r => (b, r)))

/-- Bit L of entry i of a family's length filter (R340): a route of length L has first min(L, 16) bits equal to those of i. -/
def Mod.lengthBit (m : Mod) (family i len : Nat) : Bool :=
  (m.sw.routes.flatMap Prod.snd).any (fun r =>
    r.family == family && r.len == len && beNat (slice r.pfx 0 2) / 2 ^ (16 - min len 16) == i / 2 ^ (16 - min len 16))

/-- The lookup of R340: the set lengths from the longest down; the first hit stands. -/
def Mod.routeLookup (m : Mod) (family : Nat) (a : List Byte) : Option Route :=
  let n := 8 * famLen family
  let lens := ((List.range (n + 1)).reverse).filter (m.lengthBit family (beNat (slice a 0 2)))
  lens.findSome? (fun l => (m.routeFind family l a).map Prod.snd)

/-- A write of OP to the route staging set (R338, R341). The family, prefix and length must fit together. -/
def Mod.routeOp (m : Mod) (path : Path) (f : Nat → Nat → List Byte → Mod → Mod) : Mod :=
  if supervisorOnly path then m.report path abAccess
  else m.served path (fun m =>
    let fam := m.num 0x3A1001
    let a := m.oct 0x3A1002
    let len := m.num 0x3A1003
    if (fam ≠ 4 ∧ fam ≠ 6) ∨ a.length ≠ famLen fam ∨ 8 * famLen fam < len then m.set 0x3A1006 4 else f fam len a m)

/-- ROUTE_INSERT (R339, R341): OP 1 inserts or replaces; no room sets RESULT 3 and raises event 0x0232. -/
def routeInsert (path : Path) (m : Mod) : Mod :=
  m.routeOp path (fun fam len a m =>
    let r : Route := { family := fam, len := len, pfx := maskTo len a, hop := m.num 0x3A1004 }
    match m.routeFind fam len a with
    | some (b, old) => (m.setRoutesAt b ((m.routesAt b).map (fun x => if x = old then r else x))).set 0x3A1006 1
    | none =>
      let (b0, b1) := routeBuckets (routeKey fam len a)
      match insertBucket (m.unitsAt b0) (m.unitsAt b1) (m.unitsAt routeOverflow) r.units 4 256 b0 b1 routeOverflow with
      | some b => (m.setRoutesAt b (m.routesAt b ++ [r])).set 0x3A1006 1
      | none => (m.set 0x3A1006 3).raise 0x0232 [fam, len])

/-- ROUTE_INSERT. -/
def execRouteInsert (path : Path) (s : State) : Host.Outcome State Fault Refusal :=
  .next { s with mod := s.mod.gate path (fun (m : Mod) => routeInsert path m) }

/-- ROUTE_DELETE (R341): OP 2 deletes. -/
def routeDelete (path : Path) (m : Mod) : Mod :=
  m.routeOp path (fun fam len a m =>
    match m.routeFind fam len a with
    | some (b, old) => (m.setRoutesAt b ((m.routesAt b).filter (· ≠ old))).set 0x3A1006 1
    | none => m.set 0x3A1006 2)

/-- ROUTE_DELETE. -/
def execRouteDelete (path : Path) (s : State) : Host.Outcome State Fault Refusal :=
  .next { s with mod := s.mod.gate path (fun (m : Mod) => routeDelete path m) }

/-- ROUTE_LOOKUP_OP (R341): OP 3 looks up the route staged, and NEXT_HOP takes its next hop (log entry 60). -/
def routeLookupOp (path : Path) (m : Mod) : Mod :=
  m.routeOp path (fun fam len a m =>
    match m.routeFind fam len a with
    | some (_, r) => (m.set 0x3A1004 r.hop).set 0x3A1006 1
    | none => m.set 0x3A1006 2)

/-- ROUTE_LOOKUP_OP. -/
def execRouteLookupOp (path : Path) (s : State) : Host.Outcome State Fault Refusal :=
  .next { s with mod := s.mod.gate path (fun (m : Mod) => routeLookupOp path m) }

/-! ## Fields of a frame -/

/-- Where the network header of a frame begins, after up to two tags. -/
def ipAt (f : List Byte) : Nat := etypeAt f + 2
/-- The family of a frame's network header: 4, 6, or 0 where it carries neither (R342). -/
def ipFamily (f : List Byte) : Nat :=
  match beNat (slice f (etypeAt f) 2) with
  | 0x0800 => 4 | 0x86DD => 6 | _ => 0
/-- The destination address. -/
def ipDst (f : List Byte) : List Byte := if ipFamily f = 4 then slice f (ipAt f + 16) 4 else slice f (ipAt f + 24) 16
/-- The protocol number. -/
def ipProto (f : List Byte) : Nat := if ipFamily f = 4 then field f (ipAt f + 9) 1 else field f (ipAt f + 6) 1
/-- TTL or hop limit. -/
def ipTtl (f : List Byte) : Nat := if ipFamily f = 4 then field f (ipAt f + 8) 1 else field f (ipAt f + 7) 1
/-- Where the transport header begins. -/
def l4At (f : List Byte) : Nat := if ipFamily f = 4 then ipAt f + 4 * (field f (ipAt f) 1 % 16) else ipAt f + 40
/-- Source and destination ports of the transport header. -/
def l4Src (f : List Byte) : Nat := beNat (slice f (l4At f) 2)
/-- The destination port. -/
def l4Dst (f : List Byte) : Nat := beNat (slice f (l4At f + 2) 2)
/-- UDP. -/
def prUdp : Nat := 17
/-- TCP. -/
def prTcp : Nat := 6

/-! ## The classifier (R342, R343) -/

/-- Octets compared under a mask. -/
def maskedEq (v mask x : List Byte) : Bool := (List.range mask.length).all (fun i =>
  (x.getD i 0) &&& (mask.getD i 0) == (v.getD i 0) &&& (mask.getD i 0))

/-- Whether rule i matches a frame received on port p in VLAN v (R342). A rule is in use when EN is set (log entry 61). -/
def Mod.ruleMatches (m : Mod) (p v : Nat) (f : List Byte) (i : Nat) : Bool :=
  let k := frameKeys f
  let et := m.num 0x3B0004 i
  let ap := m.num 0x3B0007 i
  let dm := m.oct 0x3B0005 i
  let sm := m.oct 0x3B0006 i
  let ip := m.oct 0x3B0008 i
  let pr := m.num 0x3B0009 i
  let l4 := m.num 0x3B000A i
  let fam := ipFamily f
  let andEq := fun (x mask value : Nat) => x &&& mask == value &&& mask
  bit (m.num 0x3B0001 i) 31 &&
  (m.num 0x3B0002 i == 0xFFFF || m.num 0x3B0002 i == p) &&
  (m.num 0x3B0003 i == 0 || m.num 0x3B0003 i == v) &&
  andEq k.etype (et / 65536) (et % 65536) &&
  maskedEq (dm.take 6) (dm.drop 6) k.dst && maskedEq (sm.take 6) (sm.drop 6) k.src &&
  (ap / 65536 == 0 || ((k.etype == 0x88B8 || k.etype == 0x88B9 || k.etype == 0x88BA) && andEq k.appid (ap / 65536) (ap % 65536))) &&
  (ip.isEmpty || (ip.length == famLen fam + 1 && fam != 0 && decide (ipAt f + (if fam = 4 then 20 else 40) ≤ 128) &&
    maskTo (leNat (ip.drop (famLen fam))) (ipDst f) == maskTo (leNat (ip.drop (famLen fam))) (ip.take (famLen fam)))) &&
  (pr / 256 == 0 || (fam != 0 && andEq (ipProto f) (pr / 256) (pr % 256))) &&
  (l4 == 0x0000FFFF || (fam != 0 && decide (l4At f + 4 ≤ 128 ∧ l4At f + 4 ≤ f.length ∧ l4 / 65536 ≤ l4Dst f ∧ l4Dst f ≤ l4 % 65536)))

/-- The rule that decides: the lowest-numbered that matches (R342). -/
def Mod.ruleOf (m : Mod) (p v : Nat) (f : List Byte) : Option Nat :=
  (m.instancesOn 0x3B0001).find? (m.ruleMatches p v f)

/-! ## The decision (R331) -/

/-- Whether port p is in MEMBERS of VLAN v (R344). -/
def Mod.memberOf (m : Mod) (v p : Nat) : Bool := bit ((m.oct 0x390001 v).getD (p / 8) 0).toNat (p % 8)

/-- What the tables make of a frame: the egress ports within its egress VLAN, that VLAN, the frame as it goes on, and the class, mirror
sessions and supervisor copy that a rule gives. `drop` is a frame that goes nowhere but to its mirrors. -/
structure FwdResult where
  ports : List Nat := []
  vlan : Nat := 1
  frame : List Byte := []
  drop : Bool := false
  ruleClass : Option Nat := none
  mirrors : Nat := 0
  toSup : Bool := false
deriving DecidableEq, Repr

/-- The header checksum of an IPv4 header over its octets, its own field taken as 0. -/
def ipChecksum (h : List Byte) : Nat :=
  let words := (List.range (h.length / 2)).map (fun i => if i = 5 then 0 else beNat (slice h (2 * i) 2))
  let fold := fun (n : Nat) => n % 65536 + n / 65536
  65535 - fold (fold words.sum)

/-- A routed frame: TTL lowered, IPv4 checksum renewed, destination MAC from the next hop and source ROUTER_MAC, in the next hop's VLAN (R339). -/
def Mod.rewrite (m : Mod) (h : Nat) (f : List Byte) : List Byte :=
  let a := ipAt f
  let put := fun (f : List Byte) (i : Nat) (bs : List Byte) => f.take i ++ bs ++ f.drop (i + bs.length)
  let f := put (put f 0 (slice (m.oct 0x3A2003 h) 0 6)) 6 (slice (m.oct 0x380009) 0 6)
  let f := if hasTag 0x8100 f then retag (m.num 0x3A2002 h) f else f
  if ipFamily f = 4 then
    let f := put f (a + 8) (toLE 1 (ipTtl f - 1))
    put f (a + 10) (toBE 2 (ipChecksum (slice f a (4 * (field f a 1 % 16)))))
  else put f (a + 7) (toLE 1 (ipTtl f - 1))

/-- The largest frame a port sends, with its FCS. -/
def Mod.maxOut (m : Mod) (p : Nat) : Nat := if p < 768 then m.num 0x320005 p else 9216

/-- Routing (R339): local addresses, expired frames and frames too long go to port 864, or to ingest; others to their next hop. -/
def Mod.routeFrame (m : Mod) (d : FwdResult) : Mod × FwdResult :=
  let f := d.frame
  let dst := ipDst f
  let sup := fun (m : Mod) => (m.bump 0x3A0004, { d with ports := [864] })
  if (List.range 16).any (fun i => m.oct 0x3A3001 i == dst) then
    if ipProto f = prUdp ∧ l4Dst f = m.num 0x400005 then (m, { d with ports := [792] }) else sup m
  else if ipTtl f ≤ 1 then sup m
  else
    match m.routeLookup (ipFamily f) dst with
    | none => (m.bump 0x3A0003, { d with ports := [] })
    | some r =>
      let p := m.num 0x3A2001 r.hop
      if p = 0xFFFF ∨ !portExists p then (m, { d with ports := [] })
      else if m.maxOut p < frameLen f then sup m
      else (m.bump 0x3A0002, { d with ports := [p], vlan := m.num 0x3A2002 r.hop, frame := m.rewrite r.hop f })

/-- Steps 3 to 5 of R331: routing or the MAC table. -/
def Mod.lookup (m : Mod) (d : FwdResult) : Mod × FwdResult :=
  let dst := slice d.frame 0 6
  let v := d.vlan
  let router := m.oct 0x380009
  let fam := ipFamily d.frame
  if router ≠ List.replicate 6 0 ∧ dst = router ∧ m.num 0x390007 v = 1 ∧ fam ≠ 0 then m.routeFrame d
  else
    let flood := fun (m : Mod) => (m, { d with ports := if m.num 0x390006 v = 0xFFFF then [] else ((m.groupPorts (m.num 0x390006 v)).filter portExists).eraseDups })
    match m.macFind (m.num 0x390002 v) dst with
    | some (_, e) => if isBroadcast dst then flood m else (m, { d with ports := m.destPorts e.dest })
    | none =>
      if isBroadcast dst ∨ (!isGroup dst ∧ m.num 0x390004 v = 1) ∨ (isGroup dst ∧ m.num 0x390005 v = 1) then flood m
      else (m.bump 0x38000A, { d with ports := [] })

/-- Step 6 of R331: the result within MEMBERS of the egress VLAN, without the
ingress port. -/
def Mod.restrict (m : Mod) (p : Nat) (d : FwdResult) : FwdResult :=
  { d with ports := d.ports.filter (fun e => e != p && m.memberOf d.vlan e) }

/-- The forwarding decision for a frame received on port p in VLAN v (R331). `fromStep3` is a frame of R310. -/
def Mod.forwardDecision (m : Mod) (p v : Nat) (f : List Byte) (fromStep3 : Bool) : Mod × FwdResult :=
  let d : FwdResult := { vlan := v, frame := f }
  let rule := if fromStep3 then none else m.ruleOf p v f
  let acts := match rule with
    | some i => m.num 0x3B0001 i
    | none => 0
  let m := match rule with
    | some i => m.bump 0x3B000C i
    | none => m
  let d := { d with
    ruleClass := if bit acts 28 then some (bitsOf acts 26 24) else none
    mirrors := bitsOf acts 23 16
    toSup := bit acts 15 }
  if bit acts 30 then (m, { d with drop := true })
  else if bit acts 29 then
    let i := rule.getD 0
    (m, m.restrict p { d with ports := m.destPorts (m.num 0x3B000B i) })
  else
    let (m, ok) := if !fromStep3 ∧ m.num 0x390003 v = 1 ∧ p ≠ 792 ∧ p ≠ 864 then m.learn (m.num 0x390002 v) (slice f 6 6) p else (m, true)
    if !ok then (m, { d with drop := true, mirrors := 0, toSup := false })
    else
      let (m, d) := m.lookup d
      (m, m.restrict p d)

/-- Whether ACTIONS, with the rule's other fields, may be written (R343). -/
def ruleOk (acts etype : Nat) : Bool :=
  !(bit acts 30 && bit acts 29) &&
  !(bit acts 28 && bitsOf acts 26 24 == 0 && !((etype % 65536 == 0x88BA || etype % 65536 == 0x88B8) && etype / 65536 == 0xFFFF)) &&
  !(bit acts 28 && bitsOf acts 26 24 == 1)

end Sys2Proof.Machine
end

