-- ==== Sys2Proof/Machine/Switch.lean ====
section
/-!
DEFINITION. Classification, copies, egress and the scheduler (R310-R328), with the tags and redundancy of the ports (R352-R364, R370-R371).
-/
namespace Sys2Proof.Machine

/-! ## HSR rings and PRP pairs (R359-R364) -/

/-- The enabled ring of a front port, and its partner on the ring. -/
def Mod.ringOf (m : Mod) (p : Nat) : Option (Nat × Nat) :=
  if m.num 0x320012 p ≠ 1 then none
  else (m.instancesOn 0x330001).findSome? (fun r =>
    if m.num 0x330002 r = p then some (r, m.num 0x330003 r) else if m.num 0x330003 r = p then some (r, m.num 0x330002 r) else none)

/-- The enabled PRP pair of a front port. -/
def Mod.pairOf (m : Mod) (p : Nat) : Option Nat :=
  if m.num 0x320012 p ≠ 2 then none
  else (m.instancesOn 0x338001).find? (fun q => m.num 0x338002 q == p || m.num 0x338003 q == p)

/-- Whether a pair is local (R362). -/
def Mod.localPair (m : Mod) (q : Nat) : Bool := m.num 0x338004 q == 0 && m.num 0x338003 q != 0xFFFF
/-- The LAN identifier of a port of a pair: 0xA for LAN A, 0xB for LAN B. -/
def Mod.lanOf (m : Mod) (q p : Nat) : Nat := if m.num 0x338002 q = p then 0xA else 0xB

/-- Whether an address is one of the module's own: ROUTER_MAC, or a source address of a tenant (R360). -/
def Mod.ownMac (m : Mod) (a : List Byte) : Bool :=
  (a == m.oct 0x380009 && a != List.replicate 6 0) ||
  m.tenantsOn.any (fun t => let s := m.oct 0x512001 t; (List.range (s.length / 6)).any (fun i => slice s (6 * i) 6 == a))

/-- A duplicate table. -/
def Mod.dupTable (m : Mod) (i : Nat) : List DupEntry := Table.get m.sw.dups [] i
/-- A duplicate table replaced. -/
def Mod.setDupTable (m : Mod) (i : Nat) (l : List DupEntry) : Mod := { m with sw := { m.sw with dups := Table.set m.sw.dups [] i l } }

/-- What the port makes of a received frame before classification. -/
structure RxVerdict where
  /-- it goes on to classification, as `frame` in VLAN `v` -/
  pass : Bool := true
  frame : List Byte := []
  v : Nat := 1
  /-- it is forwarded round the ring on this port, as received -/
  onward : Option Nat := none
  /-- only the copies for ingest, here and at the peers, are made: a second copy of an enabled stream's frame (R62, R360) -/
  ingestOnly : Bool := false
  /-- counters to raise -/
  counts : List (Nat × Nat) := []
  /-- the entry that a first copy makes in a duplicate table -/
  enter : Option (Nat × DupEntry) := none
deriving DecidableEq, Repr

/-- The length of an HSR tag: EtherType 0x892F, path and size, sequence number (log entry 62). -/
def hsrLen : Nat := 6

/-- HSR_RX (R360): what a ring port makes of a frame. -/
def Mod.hsrVerdict (m : Mod) (r p partner : Nat) (sv : Bool) (f : List Byte) : RxVerdict :=
  let src := slice f 6 6
  let dst := slice f 0 6
  let a := etypeAt f
  if m.ownMac src then { pass := false, counts := [(0x330006, r)] }
  else if beNat (slice f a 2) ≠ 0x892F then
    if slice dst 0 5 == [0x01, 0x80, 0xC2, 0, 0] && decide ((dst.getD 5 0).toNat < 16) then { frame := f }
    else { pass := false, counts := [(0x330007, r)] }
  else
    let seq := beNat (slice f (a + 4) 2)
    let inner := f.take a ++ f.drop (a + hsrLen)
    let known := (m.dupTable r).any (fun e => e.mac == src && e.seq == seq)
    if known then { pass := sv, ingestOnly := sv, frame := inner, counts := [(0x330005, r)] }
    else
      { frame := inner
        onward := if m.ownMac dst then none else some partner
        enter := some (r, { mac := src, seq := seq, port := p }) }

/-- PRP_RX (R362, R363): what a port of a pair makes of a frame. A trailer is its sequence number, LAN identifier and size, and 0x88FB. -/
def Mod.prpVerdict (m : Mod) (q p : Nat) (sv : Bool) (f : List Byte) : RxVerdict :=
  let n := f.length
  let size := beNat (slice f (n - 4) 2) % 4096
  if n < 20 ∨ beNat (slice f (n - 2) 2) ≠ 0x88FB ∨ size ≠ n - (etypeAt f + 2) then { frame := f }
  else
    let seq := beNat (slice f (n - 6) 2)
    let lan := beNat (slice f (n - 4) 2) / 4096
    let inner := f.take (n - 6)
    let wrong := if lan = m.lanOf q p then [] else [(0x338008, q)]
    let src := slice f 6 6
    if !m.localPair q ∨ sv then { frame := inner, counts := wrong }
    else if (m.dupTable (64 + q)).any (fun e => e.mac == src && e.seq == seq) then
      { pass := false, counts := (0x338007, q) :: wrong }
    else { frame := inner, counts := wrong, enter := some (64 + q, { mac := src, seq := seq, port := p }) }

/-- The VLAN stage of ingress (R357): v, the frame with an edge port's tag, or a frame refused. Only a C-port knows priority-tagged frames: the VID 0
of an S-tag is in no VLAN. -/
def Mod.vlanStage (m : Mod) (p : Nat) (x : RxVerdict) : RxVerdict :=
  let f := x.frame
  let mode := m.num 0x32000D p
  let tpid := if mode = 0 then 0x8100 else m.num 0x32000F p
  let vid := beNat (slice f 14 2) % 4096
  let carries := decide (mode ≠ 2) && beNat (slice f 12 2) == tpid
  let tagged := carries && vid != 0
  let v := if tagged || (carries && mode == 1) then vid else m.num 0x32000C p
  let acc := m.num 0x32000E p
  if (acc = 1 ∧ !tagged) ∨ (acc = 2 ∧ tagged) ∨ !m.memberOf v p then { x with pass := false, counts := x.counts ++ [(0x320027, p)] }
  else { x with v := v, frame := if mode = 2 then addTag tpid (m.num 0x320011 p) v f else f }

/-- The enabled stream a frame matches (R48). -/
def Mod.svOf (m : Mod) (f : SwFrame) : Option Nat := f.sv.bind m.streamOf

/-- What a port makes of a frame before classification. Frames of other ports carry the tags written by their source; untagged they are
in VLAN 1 (R357). -/
def Mod.verdict (m : Mod) (f : SwFrame) : RxVerdict :=
  let p := f.port
  if 768 ≤ p then
    let vid := beNat (slice f.bytes 14 2) % 4096
    { frame := f.bytes, v := if hasTag 0x8100 f.bytes ∧ vid ≠ 0 then vid else 1 }
  else
    let sv := (m.svOf f).isSome
    let x := match m.ringOf p with
      | some (r, partner) => m.hsrVerdict r p partner sv f.bytes
      | none => match m.pairOf p with
        | some q => m.prpVerdict q p sv f.bytes
        | none => { frame := f.bytes }
    if x.pass then m.vlanStage p x else x

/-! ## Classification (R313, R314) -/

/-- Whether an APPID lies in a range of TRIP_APPIDS. -/
def Mod.tripAppid (m : Mod) (a : Nat) : Bool :=
  let r := u16s (m.oct 0x300103)
  (List.range (r.length / 2)).any (fun i => decide (r.getD (2 * i) 0 ≤ a ∧ a ≤ r.getD (2 * i + 1) 0))

/-- The service class of a frame by the first step of R313 that applies, steps 2 to 10. `rule` is the class of a classifier rule. -/
def Mod.classOf (m : Mod) (f : SwFrame) (rule : Option Nat) : Nat :=
  let p := f.port
  let k := frameKeys f.bytes
  let inside := decide (800 ≤ p)
  let sc0 := if inside then 2 else 0
  let fam := ipFamily f.bytes
  let pr := ipProto f.bytes
  if 800 ≤ p ∧ p ≤ 863 then max 2 (f.cls % 8)
  else if let some c := rule then (if c = 0 then sc0 else c)
  else if k.etype = 0x88BA ∧ (m.svOf f).isSome then sc0
  else if k.etype = 0x88B8 ∧ m.tripAppid k.appid then sc0
  else if k.etype = 0x88B8 ∨ k.etype = 0x88F7 then 1
  else if fam ≠ 0 ∧ pr = prUdp ∧ (l4Dst f.bytes = m.num 0x400005 ∨ l4Dst f.bytes = 102) then 2
  else if fam ≠ 0 ∧ pr = prTcp ∧ (l4Dst f.bytes = 102 ∨ l4Src f.bytes = 102) then 3
  else if p = 866 then 7
  else if hasTag (if p < 768 then m.num 0x32000F p else 0x88A8) f.bytes then m.num 0x300101 (beNat (slice f.bytes 14 2) / 8192)
  else m.num 0x300102

/-- SC0_METER (R314): the class after the meter of a front port, in tokens of 10^-5 bit. The rate in force is that of the last tick start. -/
def Mod.meter (m : Mod) (f : SwFrame) (cls : Nat) : Mod × Nat :=
  let p := f.port
  if 768 ≤ p ∨ cls ≠ 0 then (m, cls)
  else
    let x := m.port p
    let filled := (f.ts - x.meterAt) * m.portRate p * x.meterRate
    let used := x.meterUsed - filled
    let cost := frameLen f.bytes * 800000
    let x := { x with meterAt := f.ts, meterUsed := used }
    if used + cost ≤ 4 * 1518 * 800000 then (m.setPort p { x with meterUsed := used + cost }, 0)
    else
      let first := match x.demotedAt with
        | some t => decide (4800 ≤ m.k - t)
        | none => true
      let m := (m.setPort p { x with demotedAt := some m.k }).bump 0x301015 p
      (if first then m.raise 0x0221 [p, m.k] else m, 2)

/-- SC0 load offered: the frame's bits, on ports other than Welt with preamble and gap (R315; log entry 63). -/
def Mod.offerSc0 (m : Mod) (p cls : Nat) (f : List Byte) : Mod :=
  if cls ≠ 0 then m
  else { m with sw := { m.sw with sc0Bits := m.sw.sc0Bits + 8 * (frameLen f + if 768 ≤ p ∧ p < 792 then 0 else 20) } }

/-- SC0_LOAD_CHECK (R315): at each tick start the load of the tick that ended is compared with 5 % of C_in; bank use is shown (R329), and
the meters take their rates (R328). -/
def Mod.sc0LoadCheck (m : Mod) : Mod :=
  let mbs := m.sw.sc0Bits * m.hz / 1000000
  let cin := m.cIn
  let use := min (m.sw.words * m.hz / 160000000) 0xFFFF
  let m := ((m.set 0x300006 use).raiseTo 0x300005 use).raiseTo 0x30000E mbs
  let past := decide (5 * cin * 1000000 < 100 * m.sw.sc0Bits * m.hz)
  let first := match m.sw.overAt with
    | some t => decide (4800 ≤ m.k - t)
    | none => true
  let m := if past then
      let m := m.bump 0x30000C
      let m := if first then m.raise 0x0222 [mbs, cin, m.k] else m
      { m with sw := { m.sw with overAt := some m.k } }
    else m
  let m := { m with sw := { m.sw with sc0Bits := 0, words := 0 } }
  m.each (m.sw.ports.map Prod.fst) (fun m p => m.setPort p { m.port p with meterRate := m.num 0x301001 p })

/-! ## Mirroring (R326, R327) -/

/-- MIRROR_COPY (R326): a candidate of session s is counted, and every SAMPLE_N-th is mirrored, cut to TRUNCATE. -/
def Mod.mirrorOne (m : Mod) (s : Nat) (c : Copy) (saturated : Bool) : Mod :=
  let n := Table.get m.sw.mirrors 0 s
  let m := { m with sw := { m.sw with mirrors := Table.set m.sw.mirrors 0 s (n + 1) } }
  let dst := m.num 0x302004 s
  let cut := m.num 0x302006 s
  if n % max 1 (m.num 0x302005 s) ≠ 0 ∨ dst = 0xFFFF ∨ dst = c.ingress then m
  else m.offer dst saturated { c with cls := 7, mirror := some s, pub := 0, frame := if cut = 0 then c.frame else c.frame.take (cut - 4) }

/-- The sessions whose source list holds port p in a direction: 0 ingress, 1 egress. -/
def Mod.sessionsOf (m : Mod) (p dir : Nat) : List Nat :=
  (m.instancesOn 0x302001).filter (fun s => (u16s (m.oct 0x302002 s)).contains p && (m.num 0x302003 s == dir || m.num 0x302003 s == 2))

/-! ## Egress (R353, R358, R361, R364, R371) -/

/-- The frame with the tags it leaves a front port with (R358). -/
def Mod.egressTags (m : Mod) (p : Nat) (c : Copy) : List Byte :=
  let mode := m.num 0x32000D p
  let tpid := if mode = 0 then 0x8100 else m.num 0x32000F p
  let tagged := hasTag tpid c.frame
  let pcp := m.num 0x320011 (if c.ingress < 768 then c.ingress else p)
  if mode = 2 ∨ (m.num 0x320010 p = 1 ∧ c.vlan = m.num 0x32000C p) then (if tagged then dropTag c.frame else c.frame)
  else if tagged then retag c.vlan c.frame
  else addTag tpid pcp c.vlan c.frame

/-- A frame padded to 60 octets (R353). -/
def pad60 (f : List Byte) : List Byte := f ++ List.replicate (60 - f.length) 0

/-- The octets of a copy as a front port sends them: tags, padding, and the HSR tag or PRP trailer (R353, R358, R361, R364). -/
def Mod.egressFrame (m : Mod) (p : Nat) (c : Copy) : List Byte :=
  if 768 ≤ p then c.frame
  else if c.ring ∨ c.mirror.isSome then pad60 c.frame
  else
    let f := pad60 (m.egressTags p c)
    let a := etypeAt f
    let size := f.length - (a + 2) + 6
    match c.rseq, m.ringOf p, m.pairOf p with
    | some n, some _, _ => f.take a ++ toBE 2 0x892F ++ toBE 2 (size % 4096) ++ toBE 2 n ++ f.drop a
    | some n, none, some q => f ++ toBE 2 n ++ toBE 2 (m.lanOf q p * 4096 + size % 4096) ++ toBE 2 0x88FB
    | _, _, _ => f

/-- The PTP instance that port p belongs to (R394). -/
def Mod.ptpInst (m : Mod) (p : Nat) : Option Nat := [0, 1].find? (fun i => m.on 0x3D0001 i && (u16s (m.oct 0x3D0004 i)).contains p)

/-- A transparent-clock correction (R396): residence time, the ingress peer delay and asymmetry are added to the correctionField of a Sync
of domain 0 or 254 that crosses two front ports of no instance. -/
def Mod.tcCorrect (m : Mod) (p : Nat) (c : Copy) (f : List Byte) (now : Nat) : List Byte :=
  let a := etypeAt f + 2
  let dom := field f (a + 4) 1
  if 768 ≤ p ∨ 768 ≤ c.ingress ∨ m.num 0x3D8001 = 0 ∨ (m.ptpInst p).isSome ∨ (m.ptpInst c.ingress).isSome ∨
    beNat (slice f (a - 2) 2) ≠ 0x88F7 ∨ field f a 1 % 16 ≠ 0 ∨ (dom ≠ 0 ∧ dom ≠ 254) then f
  else
    let add : Int := ((m.tb now : Int) - c.ts + m.num 0x3D4002 c.ingress + m.int 32 0x3D4003 c.ingress) * 65536
    f.take (a + 8) ++ toBE 8 (ofInt 64 (toInt 64 (beNat (slice f (a + 8) 8)) + add)) ++ f.drop (a + 16)

/-- The egress timestamp of a PTP event message enters the port's queue of 64; further ones are lost and counted (R371; log entry 64). -/
def Mod.stampTx (m : Mod) (p : Nat) (f : List Byte) (now : Nat) : Mod :=
  let a := etypeAt f
  let ty := field f (a + 2) 1 % 16
  if 768 ≤ p ∨ beNat (slice f a 2) ≠ 0x88F7 ∨ 4 ≤ ty then m
  else
    let x := m.port p
    let ts := ((m.tb now : Int) + m.int 32 0x320014 p).toNat
    let e := toLE 2 p ++ slice f (a + 32) 2 ++ toLE 1 ty ++ [0, 0, 0] ++ toLE 8 ts
    if 64 ≤ x.tsQueue.length then m.bump 0x32002B p
    else (m.setPort p { x with tsQueue := x.tsQueue ++ [e] }).setOct 0x320015 ((x.tsQueue ++ [e]).headD []) p

/-- Whether the gate that concerns a copy is open at its first bit: the publish gate, and for a repetition from the hold register the hold gate too (R259, R263). -/
def Mod.mayLeave (m : Mod) (c : Copy) : Bool :=
  if c.pub = 0 then true else m.gateOpen || (c.pub == 2 && m.holdGate)

/-- The counts of a copy that starts: its words, its frame, a bound missed, a cut, its mirror session and its wait (R313, R316, R324). -/
def Mod.countCopy (m : Mod) (p : Nat) (c : Copy) (now : Nat) (cut : Bool) : Mod :=
  let m := { m with sw := { m.sw with words := m.sw.words + wordsOf c.frame } }
  let m := m.bump 0x301010 p
  let m := match c.bound with
    | some t => if t < m.tb now then m.bump 0x202103 else m
    | none => m
  let m := if cut then m.bump 0x301016 p else m
  let m := match c.mirror with
    | some s => m.bump 0x302007 s
    | none => m
  if 2 ≤ c.cls then m.raiseTo 0x301021 ((now - c.since) / 1000) p else m

/-- The frame of a copy on its way: over a Welt link or out of a port, stamped, and mirrored where egress is (R280, R327). -/
def Mod.sendCopy (m : Mod) (p : Nat) (c : Copy) (f : List Byte) (now : Nat) : Mod :=
  let m := if 768 ≤ p ∧ p < 792 then
      m.sendOn (p - 768) { ty := .frame, vc := 1, dst := c.dst.getD (m.num 0x611006 (p - 768)), src := m.moduleId, flags := c.flags, cls := c.cls,
                           tick := c.tick % 2 ^ 32, len := f.length, data := f }
    else m.emit (.tx p f)
  let m := m.stampTx p f now
  if c.mirror.isSome then m
  else m.each (m.sessionsOf p 1) (fun m s => m.mirrorOne s { c with frame := f, ring := false, rseq := none, since := now } false)

/-- The first bit of a copy leaves port p, and the copy is being sent; the answer is false where it may not leave and is freed: its gate is
closed (log entry 65), or it is too long after tags and trailer (R353). On a Welt port the frame goes to the link as a packet. -/
def Mod.startCopy (m : Mod) (p : Nat) (c : Copy) (now : Nat) (cut : Bool) : Mod × Bool :=
  let f := m.tcCorrect p c (m.egressFrame p c) now
  let m := if c.pub = 1 ∧ !(m.port p).q.any (fun (x : Copy) => x.pub = 1) then m.setPort p { m.port p with guard := false } else m
  if !m.mayLeave c then (m.release c, false)
  else if p < 768 ∧ 9216 < frameLen f then ((m.release c).bump 0x320028 p, false)
  else (((m.setPort p { m.port p with sending := some c, cut := cut }).countCopy p c now cut).sendCopy p c f now, true)

/-! ## Copies (R318, R321) -/

/-- Whether a class may start on a port: the guard time and a received pause hold SC1 to SC7 (R41, R355). -/
def SwPort.mayStart (x : SwPort) (cls : Nat) : Bool := cls == 0 || (!x.guard && !x.paused)

/-- Whether a copy is cut through: the egress port allows it, is up, idle and no faster than the ingress port, which is a front or a Welt
port (R321). -/
def Mod.cutsThrough (m : Mod) (p : Nat) (c : Copy) : Bool :=
  let x := m.port p
  m.num 0x301002 p == 1 && m.upOut p && x.q.isEmpty && x.sending.isNone && x.mayStart c.cls &&
  decide (m.portRate p ≤ m.portRate c.ingress ∧ c.ingress < 792) && c.mirror.isNone && c.pub == 0

/-- A copy made at the input: offered to its port, and cut through where that may be. -/
def Mod.place (m : Mod) (saturated : Bool) (now : Nat) (e : Nat × Copy) : Mod :=
  let (p, c) := e
  let cut := m.cutsThrough p c
  let m' := m.offer p saturated c
  match (m'.port p).q with
  | [c'] => if cut ∧ (m.port p).q.isEmpty then ((m'.setPort p { m'.port p with q := [] }).startCopy p c' now true).1 else m'
  | _ => m'

/-- The copies for egress port e, with a redundancy sequence number: both ports of a ring or of a local pair (R361, R364). -/
def Mod.redundant (m : Mod) (c : Copy) (e : Nat) : Mod × List (Nat × Copy) :=
  match m.ringOf e with
  | some (r, partner) =>
    let n := m.num 0x330008 r
    (m.set 0x330008 ((n + 1) % 65536) r, ([e, partner].eraseDups).map (fun p => (p, { c with rseq := some n })))
  | none => match m.pairOf e with
    | some q =>
      let n := Table.get m.sw.prpSeq 0 q
      let ps := if m.localPair q then [m.num 0x338002 q, m.num 0x338003 q] else [e]
      ({ m with sw := { m.sw with prpSeq := Table.set m.sw.prpSeq 0 q ((n + 1) % 65536) } }, ps.map (fun p => (p, { c with rseq := some n })))
    | none => (m, [(e, c)])

/-- The ports that count as the ingress port: itself, and its partner on a ring or a local pair (log entry 66). -/
def Mod.sameIngress (m : Mod) (p : Nat) : List Nat :=
  match m.ringOf p, m.pairOf p with
  | some (_, partner), _ => [p, partner]
  | none, some q => if m.localPair q then [m.num 0x338002 q, m.num 0x338003 q] else [p]
  | none, none => [p]

/-- The copies for a result: one for each port, twins of rings and pairs made once (R318, R361). -/
def Mod.expand (m : Mod) (c : Copy) (ports : List Nat) : Mod × List (Nat × Copy) :=
  let own := m.sameIngress c.ingress
  (ports.filter (fun e => !own.contains e)).foldl (fun (acc : Mod × List (Nat × Copy)) e =>
    if acc.2.any (fun x => x.1 = e) then acc
    else
      let (m, l) := acc.1.redundant c e
      (m, acc.2 ++ l)) (m, [])

/-- The W1 copies of R62 made of a copy: one for each peer, addressed to it, on the port of its route's link (R285). -/
def Mod.peerCopies (m : Mod) (c : Copy) : List (Nat × Copy) :=
  ([1, 2, 3].filter (fun r => r != m.rank && m.num 0x600101 r != 0)).filterMap (fun r =>
    let d := m.num 0x600101 r
    let ls := m.routeTo d
    if ls.isEmpty then none else some (768 + ls.getD ((m.moduleId ^^^ d) % ls.length) 0, { c with flags := 1, dst := some d }))

/-- A frame of R310 injected at port 864: class SC0, its egress ports from the forwarding tables; `pub` and `bound`, by port, as in `Copy`. -/
def Mod.inject (m : Mod) (f : List Byte) (pub now : Nat) (bound : Nat → Option Nat) : Mod :=
  let v := (m.verdict { port := 864, bytes := f }).v
  let (m, d) := m.forwardDecision 864 v f true
  let m := m.offerSc0 864 0 f
  let (m, cs) := m.expand { no := m.sw.nextNo, ingress := 864, cls := 0, frame := d.frame, vlan := d.vlan, pub := pub, tick := m.k, ts := m.tb now, since := now } d.ports
  let m := { m with sw := { m.sw with nextNo := m.sw.nextNo + 1 } }
  (m.each (cs.take 64) (fun m e => m.offer e.1 false { e.2 with bound := bound e.1 })).swSync

/-- The ingress timestamp of a frame: the time base, with TS_RX_OFFSET of a front port (R370). -/
def Mod.rxStamp (m : Mod) (p ts : Nat) : Nat := ((m.tb ts : Int) + if p < 768 then m.int 32 0x320013 p else 0).toNat

/-- The copies of a frame at its classification (R313, R318, R331): those of its result, of the streams (R62), of the ring, of the
supervisor and of the mirrors, at most 64. -/
def Mod.classify (m : Mod) (f : SwFrame) (x : RxVerdict) (whole : Bool) : Mod :=
  let p := f.port
  let no := m.sw.nextNo
  let m := { m with sw := { m.sw with nextNo := no + 1 } }
  let m := if whole then m else m.setPort p { m.port p with rx := some no }
  let base : Copy := { no := no, ingress := p, frame := x.frame, vlan := x.v, whole := whole, tick := m.k, ts := m.rxStamp p f.ts, since := f.ts }
  let sv := (m.svOf f).isSome
  let ingest := fun (c : Nat) => [(792, { base with cls := c })]
  if x.ingestOnly ∨ bit f.flags 0 then
    let m := m.offerSc0 p 0 f.bytes
    let peers := if x.ingestOnly ∧ p < 768 then m.peerCopies base else []
    (m.each (ingest 0 ++ peers) (fun m e => m.place f.saturated f.ts e)).swSync
  else
    let inner := { f with bytes := x.frame }
    let (m, d) := if x.pass then m.forwardDecision p x.v x.frame false else (m, { drop := true })
    let (m, cls) := if d.drop then (m, m.classOf inner d.ruleClass) else m.meter inner (m.classOf inner d.ruleClass)
    let m := if d.drop then m else m.offerSc0 p cls f.bytes
    let c := { base with cls := cls, frame := d.frame, vlan := d.vlan }
    let (m, main) := if d.drop then (m, []) else m.expand c d.ports
    let added := if d.drop then [] else
      (if sv ∧ !main.any (fun e => e.1 == 792) then ingest cls else []) ++
      (if sv ∧ p < 768 then m.peerCopies { base with cls := cls } else []) ++
      (if d.toSup ∧ !d.ports.contains 864 ∧ p ≠ 864 then [(864, c)] else [])
    let ring := match x.onward with
      | some e => [(e, { base with cls := cls, frame := f.bytes, ring := true })]
      | none => []
    let all := (main ++ added ++ ring).take 64
    let m := m.each all (fun m e => m.place f.saturated f.ts e)
    let flows := (List.range 8).filter (fun s => bit d.mirrors s && m.on 0x302001 s)
    let m := m.each ((m.sessionsOf p 0 ++ flows).eraseDups.take (64 - all.length)) (fun m s => m.mirrorOne s { base with frame := f.bytes } f.saturated)
    m.swSync

/-- Whether a frame is a MAC control frame, which the MAC consumes (R355). -/
def isMacControl (f : List Byte) : Bool := beNat (slice f 12 2) == 0x8808

/-- Object sub of pattern filter f. -/
def filterObj (f sub : Nat) : Nat := (0x3400 + f) * 256 + sub

/-- The pattern filters of port p as they stand. -/
def Mod.patterns (m : Mod) (p : Nat) : List Pattern :=
  (List.range 8).map (fun f => { mask := m.oct (filterObj f 1) p, check := m.num (filterObj f 2) p, action := m.num (filterObj f 3) p })

/-- A frame on port p is under evaluation: its filters are those that stood when it began (R373). -/
def Mod.holdFilters (m : Mod) (p : Nat) : Mod := m.setPort p { m.port p with held := some (m.patterns p) }

/-- SWITCH_CLASSIFY (R313): a front port's frame is classified once 64 octets of it have arrived, its copies staying incomplete until it
ends; a frame of another port has arrived whole. A port that is down, and on a front port a runt or a MAC control frame, give nothing to classify. -/
def switchClassify (f : SwFrame) (m : Mod) : Mod :=
  let front := decide (f.port < 768)
  if !m.upIn f.port ∨ (front ∧ (f.bytes.length < 60 ∨ isMacControl f.bytes)) then m
  else
    let m := if front then m.holdFilters f.port else m
    let x := m.verdict f
    if x.pass ∨ x.onward.isSome ∨ !(m.sessionsOf f.port 0).isEmpty then m.classify f x (!front) else m

/-- SWITCH_CLASSIFY. -/
def execSwitchClassify (f : SwFrame) (s : State) : Host.Outcome State Fault Refusal := .next { s with mod := s.mod.awake (switchClassify f) }

/-! ## The scheduler (R319, R320) -/

/-- The head of class c's queue, where it is whole. -/
def SwPort.head (x : SwPort) (c : Nat) : Option Copy := (x.q.find? (fun (y : Copy) => y.cls = c)).bind (fun y => if y.whole then some y else none)

/-- Deficit-weighted round robin over SC2 to SC7 (R319): the class that sends next, with the deficits and the turn. `n` bounds the search. -/
def dwrr (len : Nat → Option Nat) (quantum : Nat → Nat) : Nat → List Nat → Nat → Option (Nat × List Nat × Nat)
  | 0, _, _ => none
  | n + 1, d, t =>
    let onwards := fun (d : List Nat) =>
      let t' := if t < 2 ∨ 7 ≤ t then 2 else t + 1
      dwrr len quantum n (if (len t').isSome then d.set t' (d.getD t' 0 + quantum t') else d.set t' 0) t'
    match len t with
    | some l => if 2 ≤ t ∧ l ≤ d.getD t 0 then some (t, d.set t (d.getD t 0 - l), t) else onwards d
    | none => onwards d

/-- The copy that leaves next, with the scheduler's deficits and turn after it: publish entries first (R39), SC0, SC1, then the round. -/
def Mod.pick (m : Mod) (p : Nat) : Option (Copy × List Nat × Nat) :=
  let x := m.port p
  let keep := fun (c : Copy) => (c, x.deficit, x.turn)
  match x.q.find? (fun (c : Copy) => c.pub = 1 ∧ c.whole) with
  | some c => some (keep c)
  | none => match x.head 0 with
    | some c => some (keep c)
    | none =>
      if !x.mayStart 1 then none
      else match x.head 1 with
        | some c => some (keep c)
        | none =>
          match dwrr (fun c => (x.head c).map (fun (y : Copy) => frameLen y.frame)) (fun c => m.num 0x300201 c) 64 x.deficit x.turn with
          | some (c, d, t) => (x.head c).map (fun y => (y, d, t))
          | none => none

/-- A copy taken from its queue, with the scheduler's state after it. A class that empties its queue has deficit 0. -/
def Mod.takeOff (m : Mod) (p : Nat) (c : Copy) (d : List Nat) (t : Nat) : Mod :=
  let q := dropFirst c (m.port p).q
  let d := if q.any (fun (y : Copy) => y.cls = c.cls) then d else d.set c.cls 0
  m.setPort p { m.port p with q := q, deficit := d, turn := t }

/-- Copies start on port p until one is being sent; `n` bounds the number that may not leave. -/
def sendNext (p now : Nat) : Nat → Mod → Mod
  | 0, m => m
  | n + 1, m =>
    match m.pick p with
    | none => m
    | some (c, d, t) =>
      let (m, ok) := (m.takeOff p c d t).startCopy p c now false
      if ok then m else sendNext p now n m

/-- BUFFER_ECC_ERROR (R328): the copy about to be read is discarded, or ended with an inverted FCS once begun; DETECTED_ERROR is set. -/
def Mod.eccError (m : Mod) (p now bank cell : Nat) (begun : Bool) : Mod :=
  match m.pick p with
  | none => m
  | some (c, d, t) =>
    let m := m.takeOff p c d t
    let m := if begun then
        let (m, ok) := m.startCopy p c now false
        if ok then ((m.setPort p { m.port p with sending := none, cut := false }).release c).emit (.txCut p) else m
      else m.release c
    ({ m with triad := { m.triad with errorAt := some m.k } }.bump 0x300009).raise 0x0224 [bank, cell, m.k]

/-- EGRESS_SCHEDULE (R319): port p becomes free, the cells of what it sent are given back, and the next copy starts. `ecc` is an
uncorrectable error in the cells of that copy: its bank and cell, and whether the copy had begun. -/
def egressSchedule (p now : Nat) (ecc : Option (Nat × Nat × Bool)) (m : Mod) : Mod :=
  let x := m.port p
  let busy : Bool := match x.sending with
    | some c => !c.whole
    | none => false
  if busy ∨ !m.upOut p then m
  else
    let m := match x.sending with
      | some c => (m.setPort p { x with sending := none, cut := false }).release c
      | none => m
    let m := match ecc with
      | some (bank, cell, begun) => m.eccError p now bank cell begun
      | none => m
    (sendNext p now ((m.port p).q.length + 1) m).swSync

/-- EGRESS_SCHEDULE. -/
def execEgressSchedule (p now : Nat) (ecc : Option (Nat × Nat × Bool)) (s : State) : Host.Outcome State Fault Refusal :=
  .next { s with mod := s.mod.awake (egressSchedule p now ecc) }

/-- QUEUE_PROMOTION (R320): the head of a queue of SC3 to SC7 that has waited longer than AGE_THRESH moves to the tail of the next higher
class, and its age counts afresh. -/
def queuePromotion (p c now : Nat) (m : Mod) : Mod :=
  let x := m.port p
  let t := m.num 0x300202 c
  match x.q.find? (fun (y : Copy) => y.cls = c) with
  | some y =>
    if c < 3 ∨ 7 < c ∨ t = 0 ∨ now - y.since ≤ 1000 * t then m
    else
      let q := dropFirst y x.q ++ [{ y with cls := c - 1, since := now }]
      let d := if (dropFirst y x.q).any (fun (z : Copy) => z.cls = c) then x.deficit else x.deficit.set c 0
      let m := m.setPort p { x with q := q, deficit := d }
      ((m.bump 0x301014 p).raiseTo 0x301021 ((now - y.since) / 1000) p).swSync
  | none => m

/-- QUEUE_PROMOTION. -/
def execQueuePromotion (p c now : Nat) (s : State) : Host.Outcome State Fault Refusal := .next { s with mod := s.mod.awake (queuePromotion p c now) }

end Sys2Proof.Machine
end

