-- ==== Sys2Proof/Machine/Welt.lean ====
section
/-!
DEFINITION. Welt links: bring-up, replay, delivery of frames, the outbound bridge, reads and fences, and the rate handshake (R275-R305).
-/
namespace Sys2Proof.Machine

/-! ## Link states (R289) -/

/-- ROUTE_IN_USE of every destination (R292). -/
def Mod.routesInUse (m : Mod) : Mod :=
  m.each ((List.range 255).map (· + 1)) (fun m d => m.set 0x612002 (((m.routeTo d).map (2 ^ ·)).sum) d)

/-- The state of link l set, with the switch port's and the routes that follow it (R292, R309). -/
def Mod.setLk (m : Mod) (l st : Nat) : Mod := (m.set 0x611004 st l).routesInUse

/-- The HELLO that the module sends on link l (R288). -/
def Mod.myHello (m : Mod) (l : Nat) : Hello :=
  { moduleId := m.moduleId, triadId := m.num 0x60000C, rank := m.rank, mstate := m.mstate, link := l, lanes := m.num 0x611001 l,
    rateMax := m.num 0x611002 l, rateNow := m.num 0x611005 l, credits := vcBuffers, digest := m.settingsDigest }

/-- A HELLO's payload: FORMAT 1, its fields, STEPPING 0xB0 (R288). -/
def helloBytes (h : Hello) : List Byte :=
  [1, BitVec.ofNat 8 h.moduleId] ++ toLE 2 h.triadId ++ toLE 1 h.rank ++ toLE 1 h.mstate ++ toLE 1 h.link ++ toLE 1 h.lanes ++ toLE 1 h.rateMax ++
    toLE 1 h.rateNow ++ [0xB0, 0] ++ (List.range 4).flatMap (fun i => toLE 2 (h.credits.getD i 0)) ++ toLE 4 h.digest

/-- Whether no new flit but RATE may be started on link l: its handshake is in QUIESCE or RETRAIN (R304). -/
def Mod.quiet (m : Mod) (l : Nat) : Bool := m.lkState l == lkRate

/-- A HELLO sent on link l: in HELLO and FAULT without a SEQ, on a link that is up as a flit of its own, and in QUIESCE and RETRAIN not at all (R281, R288,
R304; log entry 222). -/
def Mod.sayHello (m : Mod) (l : Nat) : Mod :=
  let b := helloBytes (m.myHello l)
  if m.quiet l then m
  else if m.lkUp l then m.sendLocal l ftHello b
  else m.emit (.flit l (({ ty := ftHello, valid := 24, src := m.moduleId, payload := b } : Flit).bytes 0))

/-- A HELLO on every link that is up: bytes 1 to 9 or 20 to 23 have changed (R288). -/
def Mod.helloAll (m : Mod) : Mod := m.each m.linksUp (fun m l => m.sayHello l)

/-- Packets that a link's replay buffer, receive buffers and begun packets hold: those whose last flit is not acknowledged, and those that came in (R289). -/
def WeltLink.lost (x : WeltLink) : Nat :=
  (x.replay.filter (fun f => f.eop && decide (4 ≤ f.ty))).length + (x.cur.filter (fun c => !c.1.isEmpty)).length + x.w2.length

/-- The packets on other links' queues that still stand in the receive buffers of link l. -/
def Mod.transit (m : Mod) (l : Nat) : Nat := (m.welt.links.map (fun e => (e.2.waiting.filter (fun w => w.via == some l)).length)).sum

/-- The receive buffers of link l discarded: what waits elsewhere and stands in them goes, and packets begun return no credits there (R289). -/
def Mod.forgetVia (m : Mod) (l : Nat) : Mod :=
  m.each (m.welt.links.map Prod.fst) (fun m k =>
    let x := m.link k
    m.setLink k { x with waiting := x.waiting.filter (fun w => w.via != some l), cur := x.cur.map (fun c => (c.1, if c.2 = some l then none else c.2)) })

/-- What link l holds goes: its replay and receive buffers and packets begun are discarded and counted, its waiting packets move to other links of their
route or are discarded and counted; its switch port is flushed and the learned addresses there removed (R289, R324, R325, R337). -/
def Mod.clearLink (m : Mod) (l st : Nat) : Mod :=
  let x := m.link l
  let was := m.lkUp l
  let passing := m.transit l
  let m := m.forgetVia l
  let m := m.setLink l { peerMax := x.peerMax, peerRank := x.peerRank, noUp := x.noUp, noDown := x.noDown }
  let m := m.setLk l st
  let m := m.set 0x611009 0 l
  let m := m.bump 0x61100E l (x.lost + passing)
  let m := m.each x.cur (fun m c => match c.1 with
    | f :: _ => m.oweVia c.2 f.vc c.1.length
    | [] => m)
  let m := m.each x.waiting (fun m w =>
    let (m', sent) := m.routeVia w.pkt w.via
    if sent then m' else (m.bump 0x61100E l).oweVia w.via w.pkt.vc (flitsOf w.pkt))
  if was then (m.flushPort (768 + l)).macFlush (768 + l) else m

/-- Link l goes DOWN with a cause of event 0x0401 (R289). -/
def Mod.linkDown (m : Mod) (l cause : Nat) : Mod :=
  if !m.lkUp l then m else ((m.clearLink l lkDown).bump 0x61100D l).raise 0x0401 [l, cause]

/-- WELT_LANES_WRITE (R275, R289): a link takes 1 lane, or 2 for even l whose neighbour is off; written, it goes to OFF, then to TRAIN. -/
def weltLanesWrite (path : Path) (l v : Nat) (m : Mod) : Mod :=
  if 23 < l then m.report path abSelector
  else if 2 < v ∨ (v = 2 ∧ (l % 2 = 1 ∨ m.num 0x611001 (l + 1) ≠ 0)) ∨ (v ≠ 0 ∧ l % 2 = 1 ∧ m.num 0x611001 (l - 1) = 2) then m.report path abValue
  else m.served path (fun m =>
    let m := m.set 0x611001 v l
    ((m.clearLink l lkOff).set 0x611005 2 l).setLk l (if v = 0 then lkOff else lkTrain))

/-- WELT_LANES_WRITE. -/
def execWeltLanesWrite (path : Path) (l v : Nat) (s : State) : Host.Outcome State Fault Refusal :=
  .next { s with mod := s.mod.gate path (fun (m : Mod) => weltLanesWrite path l v m) }

/-- LANE_TRAIN_LOCK (R289): TRAIN to HELLO, and HELLO is sent. -/
def laneTrainLock (l : Nat) (m : Mod) : Mod := if m.lkState l ≠ lkTrain then m else (m.setLk l lkHello).sayHello l

/-- LANE_TRAIN_LOCK. -/
def execLaneTrainLock (l : Nat) (s : State) : Host.Outcome State Fault Refusal := .next { s with mod := s.mod.awake (laneTrainLock l) }

/-- LANE_TRAIN_TIMEOUT (R289): training restarts, counted. -/
def laneTrainTimeout (l : Nat) (m : Mod) : Mod := if m.lkState l ≠ lkTrain then m else m.bump 0x61100D l

/-- LANE_TRAIN_TIMEOUT. -/
def execLaneTrainTimeout (l : Nat) (s : State) : Host.Outcome State Fault Refusal := .next { s with mod := s.mod.awake (laneTrainTimeout l) }

/-- WELT_HELLO_SEND (R288): the interval of HELLO in HELLO and in ACTIVE. -/
def weltHelloSend (l : Nat) (m : Mod) : Mod := if m.lkState l = lkHello ∨ m.lkUp l then m.sayHello l else m

/-- WELT_HELLO_SEND. -/
def execWeltHelloSend (l : Nat) (s : State) : Host.Outcome State Fault Refusal := .next { s with mod := s.mod.awake (weltHelloSend l) }

/-- WELT_HELLO_TIMEOUT (R289): no HELLO for 3 ms takes the link DOWN, cause 3. -/
def execWeltHelloTimeout (l : Nat) (s : State) : Host.Outcome State Fault Refusal :=
  .next { s with mod := s.mod.awake (fun (m : Mod) => m.linkDown l 3) }

/-- WELT_LOCK_LOSS (R289): a lane's lock lost for 1 µs takes the link DOWN, cause 1. -/
def execWeltLockLoss (l : Nat) (s : State) : Host.Outcome State Fault Refusal := .next { s with mod := s.mod.awake (fun (m : Mod) => m.linkDown l 1) }

/-- WELT_DOWN_RETRAIN (R289): 10 µs after DOWN the link trains again, at code 2. -/
def weltDownRetrain (l : Nat) (m : Mod) : Mod := if m.lkState l ≠ lkDown then m else (m.set 0x611005 2 l).setLk l lkTrain

/-- WELT_DOWN_RETRAIN. -/
def execWeltDownRetrain (l : Nat) (s : State) : Host.Outcome State Fault Refusal := .next { s with mod := s.mod.awake (weltDownRetrain l) }

/-! ## Flits and replay (R281, R283) -/

/-- WELT_FLIT_DISCARD (R279, R281): a flit with a bad CRC, an unexpected SEQ, or a reserved type or wrong VC is discarded and counted. -/
def weltFlitDiscard (l : Nat) (cause : FlitFault) (m : Mod) : Mod :=
  if !m.lkUp l then m
  else
    let m := match cause with
      | .crc => m.bump 0x61100B l
      | .seq => m
      | .type => m.bump 0x61300A
    m.discardFlit l

/-- WELT_FLIT_DISCARD. -/
def execWeltFlitDiscard (l : Nat) (cause : FlitFault) (s : State) : Host.Outcome State Fault Refusal :=
  .next { s with mod := s.mod.awake (weltFlitDiscard l cause) }

/-- The flits not acknowledged are sent again in order, with the same SEQ and credits; the 16th replay of one SEQ takes the link DOWN (R281). -/
def Mod.replay (m : Mod) (l : Nat) : Mod :=
  let x := m.link l
  if x.replay.isEmpty then m
  else
    let m := (m.setLink l { x with replays := x.replays + 1 }).bump 0x61100C l
    if 16 ≤ x.replays + 1 then m.linkDown l 2
    else m.each x.replay (fun m f => m.emit (.flit l (f.bytes x.ack)))

/-- WELT_NAK_RX (R281): every flit from ACK + 1 onwards is resent. A NAK carries the next SEQ and, like any flit, is accepted only where that is the SEQ
expected (log entry 223). -/
def weltNakRx (h : FlitHdr) (m : Mod) : Mod :=
  let (m, ok) := m.accept h 0
  if ok then m.replay h.l else m

/-- WELT_NAK_RX. -/
def execWeltNakRx (h : FlitHdr) (s : State) : Host.Outcome State Fault Refusal := .next { s with mod := s.mod.awake (weltNakRx h) }

/-- WELT_NAK_REPEAT (R281): still waiting for the SEQ expected, the receiver repeats its NAK. -/
def weltNakRepeat (l : Nat) (m : Mod) : Mod :=
  if m.lkUp l && (m.link l).nak then m.sayFiller l ftNak else m

/-- WELT_NAK_REPEAT. -/
def execWeltNakRepeat (l : Nat) (s : State) : Host.Outcome State Fault Refusal := .next { s with mod := s.mod.awake (weltNakRepeat l) }

/-- WELT_REPLAY_TIMEOUT (R281): the oldest flit is unacknowledged for 4 µs. -/
def weltReplayTimeout (l : Nat) (m : Mod) : Mod := if m.lkUp l then m.replay l else m

/-- WELT_REPLAY_TIMEOUT. -/
def execWeltReplayTimeout (l : Nat) (s : State) : Host.Outcome State Fault Refusal := .next { s with mod := s.mod.awake (weltReplayTimeout l) }

/-- PACKET_AGE_EXPIRY (R286): the i-th packet that waits on link l has waited 250 µs and is discarded; what waited behind it may start. -/
def packetAgeExpiry (l i : Nat) (m : Mod) : Mod :=
  let x := m.link l
  match x.waiting[i]? with
  | none => m
  | some w => (((m.setLink l { x with waiting := x.waiting.eraseIdx i }).bump 0x613008).oweVia w.via w.pkt.vc (flitsOf w.pkt)).pump l

/-- PACKET_AGE_EXPIRY. -/
def execPacketAgeExpiry (l i : Nat) (s : State) : Host.Outcome State Fault Refusal := .next { s with mod := s.mod.awake (packetAgeExpiry l i) }

/-! ## Frames (R62, R244, R280) -/

/-- The tick whose low 32 bits a peer has sent: the last such at or before k. -/
def Mod.tickFromLow (m : Mod) (lo : Nat) : Nat := m.k - (m.k + 2 ^ 32 - lo % 2 ^ 32) % 2 ^ 32

/-- WELT_FRAME_RX (R280): a frame for this module goes to ingest (INGEST), to the remote stations (STATION, with its arrival tick), or to
the switch. `sv` and `goose` are its parsed forms. -/
def weltFrameRx (h : FlitHdr) (p : Packet) (sv : Option SvFrame) (goose : Option GooseFrame) (ts : Nat) (m : Mod) : Mod :=
  m.takeWhole h p (fun m =>
    if bit p.flags 2 then
      match goose with
      | some g => gooseStationRx g (some (m.tickFromLow p.tick)) m
      | none => m
    else if p.vc = 0 ∨ bit p.flags 1 then m
    else switchClassify { port := 768 + h.l, bytes := p.data, ts := ts, sv := sv, flags := p.flags, cls := p.cls } m)

/-- WELT_FRAME_RX. -/
def execWeltFrameRx (h : FlitHdr) (p : Packet) (sv : Option SvFrame) (goose : Option GooseFrame) (ts : Nat) (s : State) :
    Host.Outcome State Fault Refusal :=
  .next { s with mod := s.mod.awake (weltFrameRx h p sv goose ts) }

/-! ## Grants and requests (R293-R299) -/

/-- Whether a module ID is of the module's own triad (R235, R295). -/
def Mod.ofTriad (m : Mod) (id : Nat) : Bool := id != 0 && [1, 2, 3].any (fun r => m.num 0x600101 r == id)

/-- Whether a software grant admits a source's access at an offset; bit 0 of WIN_PERM reads, bit 1 writes (R294, R306). -/
def Mod.winGrants (m : Mod) (src off perm : Nat) : Bool :=
  (List.range 16).any (fun w =>
    let b := m.num 0x614001 w
    let n := m.num 0x614002 w
    decide (b ≤ off ∧ off < b + n ∧ m.num 0x614004 w ≤ src ∧ src ≤ m.num 0x614005 w) && bit (m.num 0x614003 w) perm)

/-- Whether a remote read is admitted: of the filed-sample aperture to a module of the triad, 4 to 2,048 octets in fours; elsewhere by a grant window
(R191, R294, R295). MRAM is for M mode of the module alone (R200; log entry 179). -/
def Mod.readGranted (m : Mod) (src off n : Nat) : Bool :=
  if regionOf off = .filed then m.ofTriad src && decide (4 ≤ n ∧ n ≤ 2048 ∧ n % 4 = 0) else regionOf off != .mram && m.winGrants src off 0

/-- A response to a read request. -/
def Mod.responseTo (m : Mod) (p : Packet) (st : Nat) (data : List Byte) : Packet :=
  { ty := if st = 0 then .rdRsp else .rdErr, vc := 3, dst := p.src, src := m.moduleId, tagGen := p.tagGen, len := data.length, status := st, data := data }

/-- A response to a read request sent. -/
def Mod.respond (m : Mod) (p : Packet) (st : Nat) (data : List Byte) : Mod := (m.route (m.responseTo p st data)).1

/-- Flits of W3 that wait on the links. -/
def Mod.outputHeld (m : Mod) : Nat :=
  (m.welt.links.map (fun e => ((e.2.waiting.filter (fun w => w.pkt.vc == 3)).map (fun w => flitsOf w.pkt)).sum + (e.2.cur.getD 3 ([], none)).1.length)).sum

/-- Whether a target holds output space for the whole response to a request of n octets (R300; log entry 221). -/
def Mod.outputFor (m : Mod) (n : Nat) : Bool :=
  let need := flitsOf { ty := .rdRsp, data := List.replicate n 0 }
  m.outputHeld == 0 || decide (m.outputHeld + need ≤ Config.outputRoom)

/-! ## The bridge (R296, R297) -/

/-- Bridge entry of a tag. -/
def Mod.tag (m : Mod) (t : Nat) : TagSt := Table.get m.welt.tags {} t

/-- Completion octets in use by tags of the fetch reserve (768 to 1,023) or of the rest. -/
def Mod.spaceUsed (m : Mod) (fetch : Bool) : Nat :=
  ((m.welt.tags.filter (fun e => decide (768 ≤ e.1) == fetch && (e.2.state == .waiting || e.2.state == .held))).map (fun e => e.2.len)).sum

/-- A bridge entry replaced, with TAGS_IN_USE and SPACE_FREE. -/
def Mod.setTag (m : Mod) (t : Nat) (x : TagSt) : Mod :=
  let m := { m with welt := { m.welt with tags := Table.set m.welt.tags {} t x } }
  (m.set 0x613001 (m.welt.tags.filter (fun e => e.2.state != .free)).length).set 0x613002 (393216 - m.spaceUsed false)

/-- An entry FREE again, its generation advanced (R296). -/
def Mod.freeTag (m : Mod) (t : Nat) : Mod := m.setTag t { gen := ((m.tag t).gen + 1) % 4 }

/-- An entry left: FREE, or QUARANTINE while its response is outstanding (R296). -/
def Mod.leaveTag (m : Mod) (t : Nat) : Mod :=
  if (m.tag t).outstanding then m.setTag t { m.tag t with state := .quarantine, len := 0, data := [] } else m.freeTag t

/-- The entry logged for an identity of master, address and length. -/
def Mod.logged (m : Mod) (w : Master) (a n : Nat) : Option Nat :=
  (m.welt.tags.find? (fun e => (e.2.state == .waiting || e.2.state == .held) && e.2.master == w && e.2.addr == a && e.2.len == n)).map Prod.fst

/-- The octets of a fetched digest input read back into sub-samples (R55, R295). -/
def parseDigest (values subs : Nat) (d : List Byte) : List (Option Filing) :=
  let mask := field d 0 1
  let sync := field d 1 1
  let size := 2 + 8 * values
  ((List.range subs).foldl (fun (acc : Nat × List (Option Filing)) i =>
    if bit mask i then
      let vals := (List.range values).map (fun j => (beNat (slice d (acc.1 + 2 + 8 * j) 4), beNat (slice d (acc.1 + 6 + 8 * j) 4)))
      (acc.1 + size, acc.2 ++ [some { smpCnt := beNat (slice d acc.1 2), sync := sync / 4 ^ i % 4, vals := vals }])
    else (acc.1, acc.2 ++ [none])) (2, [])).2

/-- Data that the fetch engine collects: accepted where KF_LO is that of the tick and the digest of its octets is the peer's; then the
samples of the peer stand (R243, R295). -/
def Mod.acceptFetch (m : Mod) (a : Nat) (bs : List Byte) : Mod :=
  let s := (a % 2 ^ 36 - 0x54000000) / 0x8000
  let id := (a - 2 ^ 47) / 2 ^ 36
  match m.triad.fetches.find? (fun (f : Fetch) => f.s == s && m.num 0x600101 f.peer == id && !f.done) with
  | none => m
  | some f =>
    let d := slice bs 8 (field bs 4 2)
    if field bs 0 4 ≠ m.kf % 2 ^ 32 ∨ crc32 d ≠ f.digest then m
    else
      let subs := parseDigest (m.num 0x401009 s) (m.subsOf s) d
      { m with
        triad := { m.triad with fetches := m.triad.fetches.map (fun (x : Fetch) => if x = f then { x with done := true } else x) }
        ingest := { m.ingest with agreed := Table.put m.ingest.agreed s subs } }

/-- A hart's remote load stalls, or its stall ends (R297). -/
def Mod.setStall (m : Mod) (w : Master) (x : Option (Nat × Nat)) : Mod :=
  match w with
  | .hart j => m.setHart j { m.hart j with stalled := x }
  | _ => m

/-- A master meets an access fault (R293): a hart traps with a load or store access fault. -/
def Mod.masterFault (m : Mod) (w : Master) (a : Nat) (store : Bool) : Mod :=
  let m := (m.setStall w none).emit (.readFault w)
  match w with
  | .hart j => m.trap j (if store then 7 else 5) a false
  | _ => m

/-- RETRY: a hart's load stalls until data or a fault comes (R296, R297). -/
def Mod.retry (m : Mod) (w : Master) (a n : Nat) : Mod := (m.setStall w (some (a, n))).emit (.readRetry w)

/-- A reissue of a logged read: RETRY while WAITING; in HELD its data, or an access fault for a STATUS other than 0 (R296). -/
def Mod.reissue (m : Mod) (t : Nat) : Mod :=
  let x := m.tag t
  if x.state = .held then
    let m := m.leaveTag t
    if x.status ≠ 0 then m.masterFault x.master x.addr false
    else
      let m := (m.setStall x.master none).emit (.readData x.master x.data)
      match x.master with
      | .hart j => m.setHart j { m.hart j with loaded := x.data }
      | .fetch => m.acceptFetch x.addr x.data
      | .dma _ => m
  else m.retry x.master x.addr x.len

/-- The module ID a remote address names, and the offset there (R293). -/
def remoteOf (a : Nat) : Nat × Nat := ((a - 2 ^ 47) / 2 ^ 36, a % 2 ^ 36)

/-- How many reads of a master may be logged (R296). -/
def masterLimit : Master → Nat
  | .hart _ => 1
  | .fetch => 256
  | .dma _ => 64

/-- Whether a master may use the remote windows for n octets at a: a hart in M or HS mode, naturally aligned, 4 or 8 octets; the fetch engine; one of eight
DMA channels (R293). -/
def Mod.mayUse (m : Mod) (w : Master) (a n : Nat) : Bool :=
  let id := (remoteOf a).1
  regionOf a == .remote && id != 0 && id != 255 && id != m.moduleId &&
    (match w with
      | .hart j => ((m.hart j).mode == .m || (m.hart j).mode == .hs) && (n == 4 || n == 8) && a % n == 0
      | .fetch => true
      | .dma c => decide (c < 8))

/-- The tags logged for a master. -/
def Mod.tagsOf (m : Mod) (w : Master) : List Nat :=
  (m.welt.tags.filter (fun e => (e.2.state == .waiting || e.2.state == .held) && e.2.master == w)).map Prod.fst

/-- A hart that issues another read leaves the one it has logged; a waiting one's response is outstanding (R296). -/
def Mod.abandon (m : Mod) (w : Master) : Mod :=
  match w with
  | .hart _ => m.each (m.tagsOf w) (fun m t => (m.setTag t { m.tag t with outstanding := (m.tag t).outstanding || (m.tag t).state == .waiting }).leaveTag t)
  | _ => m

/-- A new read (R292, R296): with no route it is completed at once with STATUS 1; with a tag and space free it is logged and its RD_REQ queued; otherwise
RETRY is counted. -/
def Mod.newRead (m : Mod) (w : Master) (a n : Nat) : Mod :=
  let m := m.abandon w
  let (id, off) := remoteOf a
  let fetch := w == .fetch
  let pool := if fetch then (List.range 256).map (· + 768) else List.range 768
  let room := decide (n + m.spaceUsed fetch ≤ if fetch then 131072 else 393216)
  let req : Packet := { ty := .rdReq, vc := 2, dst := id, src := m.moduleId, len := n, offset := off }
  if (m.routeLink req).isNone then (m.bump 0x613007).masterFault w a false
  else match pool.find? (fun t => (m.tag t).state == .free) with
    | some t =>
      if !room ∨ masterLimit w ≤ (m.tagsOf w).length then (m.bump 0x613003).retry w a n
      else
        let gen := (m.tag t).gen
        let m := m.setTag t { gen := gen, state := .waiting, master := w, addr := a, len := n, outstanding := true }
        (m.route { req with tagGen := t + 1024 * gen }).1.retry w a n
    | none => (m.bump 0x613003).retry w a n

/-- REMOTE_READ (R293, R296): an identity already logged is a reissue; any other is a new read. -/
def remoteRead (w : Master) (a n : Nat) (m : Mod) : Mod :=
  if !m.mayUse w a n then m.masterFault w a false
  else match m.logged w a n with
    | some t => m.reissue t
    | none => m.newRead w a n

/-- REMOTE_READ. -/
def execRemoteRead (w : Master) (a n : Nat) (s : State) : Host.Outcome State Fault Refusal := .next { s with mod := s.mod.awake (remoteRead w a n) }

/-- REMOTE_READ_REISSUE (R297): the master asks again; where nothing is logged, its RETRY having logged nothing, it is a new read. -/
def remoteReadReissue (w : Master) (a n : Nat) (m : Mod) : Mod := remoteRead w a n m

/-- REMOTE_READ_REISSUE. -/
def execRemoteReadReissue (w : Master) (a n : Nat) (s : State) : Host.Outcome State Fault Refusal :=
  .next { s with mod := s.mod.awake (remoteReadReissue w a n) }

/-- Flits of W2 that wait on link l. -/
def Mod.w2Held (m : Mod) (l : Nat) : Nat :=
  ((((m.link l).waiting.filter (fun w => w.pkt.vc == 2)).map (fun w => flitsOf w.pkt)).sum) + ((m.link l).cur.getD 2 ([], none)).1.length

/-- Whether the bridge accepts a packet into the W2 queue of its route, which has room for it; one with no route it discards (R292, R299; log entry 221). -/
def Mod.bridgeTakes (m : Mod) (p : Packet) : Bool :=
  match m.routeLink p with
  | some l => m.w2Held l == 0 || decide (m.w2Held l + flitsOf p ≤ Config.w2Room)
  | none => true

/-- A packet of the bridge posted; with no route it is discarded and counted (R292, R299). -/
def Mod.post (m : Mod) (p : Packet) : Mod :=
  let (m', sent) := m.route p
  if sent then m' else m.bump 0x613007

/-- The WR_REQ of a remote write. -/
def Mod.writeRequest (m : Mod) (a : Nat) (bytes : List Byte) : Packet :=
  { ty := .wrReq, vc := 2, dst := (remoteOf a).1, src := m.moduleId, len := bytes.length, offset := (remoteOf a).2, data := bytes }

/-- REMOTE_WRITE (R293, R299): a posted write to a remote window, and after it a FENCE where a DMA channel ends its writes with one. Where the W2 queue of
its route has no room nothing is accepted: the store stays where it is. -/
def remoteWrite (w : Master) (a : Nat) (bytes : List Byte) (fence : Option Nat) (m : Mod) : Mod :=
  if !m.mayUse w a bytes.length then m.masterFault w a true
  else if !m.bridgeTakes (m.writeRequest a bytes) then m
  else
    let m := m.post (m.writeRequest a bytes)
    match fence with
    | some f => m.post { ty := .fence, vc := 2, dst := (remoteOf a).1, src := m.moduleId, fenceId := f }
    | none => m

/-- REMOTE_WRITE. -/
def execRemoteWrite (w : Master) (a : Nat) (bytes : List Byte) (fence : Option Nat) (s : State) : Host.Outcome State Fault Refusal :=
  .next { s with mod := s.mod.awake (remoteWrite w a bytes fence) }

/-- A response for TAG and GEN with STATUS and data: stored for a WAITING entry; a quarantined entry of that generation goes free; any
response but the first kind is stale, counted, event 0x0407 (R296). -/
def Mod.response (m : Mod) (p : Packet) (st : Nat) (data : List Byte) : Mod :=
  let t := p.tagGen % 1024
  let g := p.tagGen / 1024 % 4
  let x := m.tag t
  if x.state = .waiting ∧ x.gen = g then m.setTag t { x with state := .held, status := st, data := data, outstanding := false }
  else
    let m := if x.gen ≠ g then m
      else if x.state = .quarantine then m.freeTag t
      else if x.state = .held ∧ x.outstanding then m.setTag t { x with outstanding := false }
      else m
    (m.bump 0x613006).raise 0x0407 [p.src, t, g]

/-- WELT_RD_RSP_RX (R296). -/
def execWeltRdRspRx (h : FlitHdr) (p : Packet) (s : State) : Host.Outcome State Fault Refusal :=
  .next { s with mod := s.mod.awake (fun (m : Mod) => m.takeWhole h p (fun m => m.response p 0 p.data)) }

/-- WELT_RD_ERR_RX (R296, R298). -/
def execWeltRdErrRx (h : FlitHdr) (p : Packet) (s : State) : Host.Outcome State Fault Refusal :=
  .next { s with mod := s.mod.awake (fun (m : Mod) => m.takeWhole h p (fun m => m.response p p.status [])) }

/-- RESP_TIMEOUT_EXPIRY (R296): a WAITING tag is HELD with STATUS 4, its response outstanding. -/
def respTimeoutExpiry (t : Nat) (m : Mod) : Mod :=
  let x := m.tag t
  if x.state ≠ .waiting then m else (m.setTag t { x with state := .held, status := 4, outstanding := true }).bump 0x613005

/-- RESP_TIMEOUT_EXPIRY. -/
def execRespTimeoutExpiry (t : Nat) (s : State) : Host.Outcome State Fault Refusal := .next { s with mod := s.mod.awake (respTimeoutExpiry t) }

/-- HOLD_TIME_EXPIRY (R296): a HELD entry not collected within 50 µs is discarded and counted. -/
def holdTimeExpiry (t : Nat) (m : Mod) : Mod := if (m.tag t).state ≠ .held then m else (m.leaveTag t).bump 0x613004

/-- HOLD_TIME_EXPIRY. -/
def execHoldTimeExpiry (t : Nat) (s : State) : Host.Outcome State Fault Refusal := .next { s with mod := s.mod.awake (holdTimeExpiry t) }

/-- QUARANTINE_EXPIRY (R296): after 8 ms a quarantined tag is free. -/
def quarantineExpiry (t : Nat) (m : Mod) : Mod := if (m.tag t).state ≠ .quarantine then m else m.freeTag t

/-- QUARANTINE_EXPIRY. -/
def execQuarantineExpiry (t : Nat) (s : State) : Host.Outcome State Fault Refusal := .next { s with mod := s.mod.awake (quarantineExpiry t) }

/-! ## The rate handshake (R302-R305) -/

/-- A triad link that is not at two lanes and code 0 raises event 0x0408 (R291). -/
def Mod.checkTriadLink (m : Mod) (l : Nat) : Mod :=
  if m.triadLink l ∧ (m.num 0x611001 l ≠ 2 ∨ m.num 0x611005 l ≠ 0) then
    m.raise 0x0408 [l, m.num 0x611006 l, m.num 0x611001 l, m.num 0x611005 l]
  else m

/-- The fastest code both ends allow. -/
def Mod.rateTarget (m : Mod) (l : Nat) : Nat := max (m.num 0x611002 l) (m.link l).peerMax

/-- A RATE flit: OP, rate code, NONCE and the sender's utilisation (R303). -/
def Mod.sayRate (m : Mod) (l op code nonce : Nat) : Mod :=
  m.sendLocal l ftRate (toLE 1 op ++ toLE 1 code ++ toLE 2 nonce ++ toLE 1 (m.num 0x61100A l))

/-- A REQ for a code, with a new NONCE (R304). -/
def Mod.propose (m : Mod) (l code : Nat) : Mod :=
  let (n, m) := m.draw 16
  (m.setLink l { m.link l with hs := .proposed, hsCode := code, hsNonce := n }).sayRate l 1 code n

/-- A step up is proposed while the link is idle in ACTIVE above its target: at bring-up, and on a triad link (R289, R291, R305). -/
def Mod.climbOn (m : Mod) (l : Nat) : Mod :=
  let now := m.num 0x611005 l
  let x := m.link l
  if m.lkState l = lkActive ∧ x.hs = .idle ∧ x.noUp.isNone ∧ (x.climb ∨ m.triadLink l) ∧ m.rateTarget l < now then m.propose l (now - 1) else m

/-- The payload rate of a lane at a code, in Mb/s (R276). -/
def laneRate (code : Nat) : Nat := if code = 0 then 51515 else if code = 1 then 25000 else 10000

/-- Whether each of the last ten windows of 10 ms stays below 30 % of the payload rate of a code (R302). -/
def WeltLink.calm (x : WeltLink) (code : Nat) : Bool := x.utils.length == 10 && x.utils.all (fun u => decide (u < 30 * laneRate code))

/-- A back-off whose 100 ms are over ends (R302). -/
def Mod.endBackoff (m : Mod) (l now : Nat) : Mod :=
  let x := m.link l
  let keep := fun (t : Option Nat) => t.bind (fun u => if u ≤ now then none else some u)
  m.setLink l { x with noUp := keep x.noUp, noDown := keep x.noDown }

/-- A window of 10 ms recorded, with UTIL (R302, R306). -/
def Mod.takeWindow (m : Mod) (l : Nat) : UtilWindow → Mod
  | .tenMs util =>
    let x := m.link l
    (m.setLink l { x with utils := (util * laneRate (m.num 0x611005 l) :: x.utils).take 10 }).set 0x61100A (min util 100) l
  | .oneMs _ | .waited => m

/-- Whether what has ended asks for a step up: a 1 ms window above 70 % of the payload rate, or a packet that has waited with a credit (R302). -/
def asksUp : UtilWindow → Bool
  | .oneMs util => decide (70 < util)
  | .waited => true
  | .tenMs _ => false

/-- RATE_PROPOSAL (R302): a window of the transmit utilisation ends, or a packet has waited. Where STEP_ENABLE is 1, a link that is no triad link proposes
a step down after ten calm windows, and a step up where it is busy. -/
def rateProposal (l : Nat) (w : UtilWindow) (now : Nat) (m : Mod) : Mod :=
  if !m.lkUp l then m
  else
    let m := (((m.endBackoff l now).takeWindow l w).climbOn l)
    let x := m.link l
    let code := m.num 0x611005 l
    if m.lkState l ≠ lkActive ∨ x.hs ≠ .idle ∨ m.num 0x610002 = 0 ∨ m.triadLink l then m
    else if asksUp w ∧ m.num 0x611002 l < code ∧ x.noUp.isNone then m.propose l (code - 1)
    else if code < m.num 0x611003 l ∧ x.noDown.isNone ∧ x.calm (code + 1) then m.propose l (code + 1)
    else m

/-- RATE_PROPOSAL. -/
def execRateProposal (l : Nat) (w : UtilWindow) (now : Nat) (s : State) : Host.Outcome State Fault Refusal :=
  .next { s with mod := s.mod.awake (rateProposal l w now) }

/-- The link enters QUIESCE towards a code (R304). -/
def Mod.quiesce (m : Mod) (l code nonce : Nat) : Mod :=
  (m.setLink l { m.link l with hs := .quiesce, hsCode := code, hsOld := m.num 0x611005 l, hsNonce := nonce, markSent := false, markSeen := false }).set
    0x611004 lkRate l

/-- A REQ received in ACTIVE (R303-R305): a step up no faster than RATE_MAX is acknowledged, a step down only where the own utilisation is low and the
link is no triad link; otherwise NAK. Of two proposals that meet, a step up wins, then the lower module ID. -/
def Mod.answerReq (m : Mod) (l code nonce : Nat) : Mod :=
  let x := m.link l
  let now := m.num 0x611005 l
  if m.lkState l ≠ lkActive ∨ (x.hs ≠ .idle ∧ x.hs ≠ .proposed) then m
  else
    let theirsUp := decide (code < now)
    let oursUp := decide (x.hsCode < now)
    let oursStands := x.hs == .proposed && ((oursUp && !theirsUp) || (oursUp == theirsUp && decide (m.moduleId < m.num 0x611006 l)))
    if oursStands then m
    else
      let m := m.setLink l { x with hs := .idle }
      let ok := if theirsUp then decide (m.num 0x611002 l ≤ code) else !m.triadLink l && decide (now < code ∧ code ≤ 2) && x.calm code
      if ok then (m.sayRate l 2 code nonce).quiesce l code nonce
      else ((m.bump 0x611010 l).sayRate l 3 code nonce).climbOn l

/-- RATE_REQ_RX (R303-R305). The sender's utilisation decides nothing: R303 has the receiver judge its own. -/
def execRateReqRx (h : FlitHdr) (code nonce _util : Nat) (s : State) : Host.Outcome State Fault Refusal :=
  .next { s with mod := s.mod.awake (fun (m : Mod) => m.takeLocal h (fun m => m.answerReq h.l code nonce)) }

/-- RATE_ACK_RX (R304): an ACK with the proposal's NONCE takes the link into QUIESCE. -/
def Mod.takeAck (m : Mod) (l nonce : Nat) : Mod :=
  let x := m.link l
  if x.hs ≠ .proposed ∨ x.hsNonce ≠ nonce then m else m.quiesce l x.hsCode nonce

/-- RATE_ACK_RX. -/
def execRateAckRx (h : FlitHdr) (nonce : Nat) (s : State) : Host.Outcome State Fault Refusal :=
  .next { s with mod := s.mod.awake (fun (m : Mod) => m.takeLocal h (fun m => m.takeAck h.l nonce)) }

/-- The back-off of R302 in the direction of a code: no proposal for 100 ms. -/
def Mod.backOff (m : Mod) (l code now : Nat) : Mod :=
  let x := m.link l
  m.setLink l (if code < m.num 0x611005 l then { x with noUp := some (now + 100000000) } else { x with noDown := some (now + 100000000) })

/-- A proposal that has ended without ACK: counted, and its back-off begins (R302, R304). -/
def Mod.dropProposal (m : Mod) (l now : Nat) : Mod :=
  if (m.link l).hs ≠ .proposed then m
  else ((m.setLink l { m.link l with hs := .idle }).backOff l (m.link l).hsCode now).bump 0x611010 l

/-- RATE_NAK_RX (R304). -/
def execRateNakRx (h : Timed FlitHdr) (s : State) : Host.Outcome State Fault Refusal :=
  .next { s with mod := s.mod.awake (fun (m : Mod) => m.takeLocal h.it (fun m => m.dropProposal h.it.l h.now)) }

/-- RATE_PROPOSAL_TIMEOUT (R304): 50 µs without an answer. -/
def rateProposalTimeout (l now : Nat) (m : Mod) : Mod := m.dropProposal l now

/-- RATE_PROPOSAL_TIMEOUT. -/
def execRateProposalTimeout (l : Timed Nat) (s : State) : Host.Outcome State Fault Refusal :=
  .next { s with mod := s.mod.awake (rateProposalTimeout l.it l.now) }

/-- MARK sent and received: the lanes retrain at the new code, credits and SEQ kept (R304). -/
def Mod.maybeRetrain (m : Mod) (l : Nat) : Mod :=
  let x := m.link l
  if x.hs = .quiesce ∧ x.markSent ∧ x.markSeen then m.setLink l { x with hs := .retrain } else m

/-- QUIESCE_DRAINED (R304): the own replay buffer is empty, and MARK is sent. -/
def quiesceDrained (l : Nat) (m : Mod) : Mod :=
  let x := m.link l
  if x.hs ≠ .quiesce ∨ !x.replay.isEmpty ∨ x.markSent then m
  else ((m.setLink l { x with markSent := true }).sayRate l 4 x.hsCode x.hsNonce).maybeRetrain l

/-- QUIESCE_DRAINED. -/
def execQuiesceDrained (l : Nat) (s : State) : Host.Outcome State Fault Refusal := .next { s with mod := s.mod.awake (quiesceDrained l) }

/-- MARK received (R304). -/
def Mod.takeMark (m : Mod) (l : Nat) : Mod :=
  if (m.link l).hs ≠ .quiesce then m else (m.setLink l { m.link l with markSeen := true }).maybeRetrain l

/-- RATE_MARK_RX (R304). -/
def execRateMarkRx (h : FlitHdr) (s : State) : Host.Outcome State Fault Refusal :=
  .next { s with mod := s.mod.awake (fun (m : Mod) => m.takeLocal h (fun m => m.takeMark h.l)) }

/-- RETRAIN_LOCK (R304): lock at the new code completes the change, event 0x0402; lock at the old code after a failure ends the handshake.
HELLO is exchanged, and packets that waited may start. -/
def retrainLock (l : Nat) (m : Mod) : Mod :=
  let x := m.link l
  if x.hs = .retrain then
    let m := ((m.setLink l { x with hs := .idle }).set 0x611005 x.hsCode l).setLk l lkActive
    let m := (m.bump 0x61100F l).raise 0x0402 [l, x.hsOld, x.hsCode]
    ((((m.sayHello l).pump l).checkTriadLink l)).climbOn l
  else if x.hs = .fallback then
    ((((m.setLink l { x with hs := .idle }).setLk l lkActive).sayHello l).pump l)
  else m

/-- RETRAIN_LOCK. -/
def execRetrainLock (l : Nat) (s : State) : Host.Outcome State Fault Refusal := .next { s with mod := s.mod.awake (retrainLock l) }

/-- RETRAIN_TIMEOUT (R302, R304): no lock within 100 µs returns the link to the old code, event 0x0403, counted, with its back-off. -/
def retrainTimeout (l now : Nat) (m : Mod) : Mod :=
  let x := m.link l
  if x.hs ≠ .retrain then m
  else (((m.setLink l { x with hs := .fallback }).backOff l x.hsCode now).bump 0x611010 l).raise 0x0403 [l, x.hsCode]

/-- RETRAIN_TIMEOUT. -/
def execRetrainTimeout (l : Timed Nat) (s : State) : Host.Outcome State Fault Refusal := .next { s with mod := s.mod.awake (retrainTimeout l.it l.now) }

/-- RETRAIN_FALLBACK_TIMEOUT (R304): no lock at the old code within 1 ms takes the link DOWN. -/
def retrainFallbackTimeout (l : Nat) (m : Mod) : Mod := if (m.link l).hs ≠ .fallback then m else m.linkDown l 1

/-- RETRAIN_FALLBACK_TIMEOUT. -/
def execRetrainFallbackTimeout (l : Nat) (s : State) : Host.Outcome State Fault Refusal :=
  .next { s with mod := s.mod.awake (retrainFallbackTimeout l) }

end Sys2Proof.Machine
end

