-- ==== Sys2Proof/Machine/Lace.lean ====
section
/-!
DEFINITION. The Lace line and the claim: drive, decoded states, faults, and the claim state (R255-R263, R266).
-/
namespace Sys2Proof.Machine

/-! ## The claim state (R262) -/

/-- CLAIM_STATE RELEASED. -/
def csReleased : Nat := 1
/-- CLAIM_STATE CLAIMING. -/
def csClaiming : Nat := 2
/-- CLAIM_STATE PUBLISHING. -/
def csPublishing : Nat := 3

/-- GATE as it stands: 1 the publish gate is open, 2 the hold gate (R259, R263). -/
def Mod.gates (m : Mod) : Mod := m.set 0x601006 (if m.gateOpen then 1 else if m.holdGate then 2 else 0)

/-- The Lace drive changed (R256). -/
def Mod.setDrive (m : Mod) (d : Drive) : Mod :=
  if m.triad.drive = d then m else { m with triad := { m.triad with drive := d } }.emit (.lace d)

/-- A claim follows the decoded lines: it is PUBLISHING while the gate is open and CLAIMING while it is not. -/
def Mod.followLines (m : Mod) : Mod :=
  let st := m.num 0x601001
  let m := if st = csClaiming ∧ m.gateOpen then m.set 0x601001 csPublishing
    else if st = csPublishing ∧ !m.gateOpen then m.set 0x601001 csClaiming
    else m
  m.gates

/-- A claim released (R262), with the cause of event 0x0305: 1 no longer P(k), 2 contention, 3 own vote deadline missed, 4 majority lost,
5 demotion, 6 tick stop (log entry 78). LAST_PUB sets where the gate was open at the last P start. -/
def Mod.releaseClaim (m : Mod) (cause : Nat) : Mod :=
  if m.triad.drive ≠ .claim then m
  else
    let m := (m.setDrive .alive).set 0x601001 csReleased
    let m := { m with triad := { m.triad with lastPub := m.triad.lastPub || m.triad.gateAtP } }
    (m.raise 0x0305 [m.rank, Config.eventField 0x0305 cause, m.k]).gates

/-- The drive OFF (R256, R262): reset, tick stop, or a generator not re-armed. -/
def Mod.laceOff (m : Mod) : Mod := ((m.setDrive .off).set 0x601001 0).gates

/-- ALIVE from OFF, the generator re-armed (R238, R256). -/
def Mod.laceAlive (m : Mod) : Mod :=
  let m := { m with triad := { m.triad with rearmed := m.k } }
  if m.triad.drive = .off ∧ m.rank ≠ 0 then ((m.setDrive .alive).set 0x601001 csReleased).gates else m

/-! ## Decoded lines (R257) -/

/-- A line's decoded state changed. -/
def Mod.setLine (m : Mod) (r st : Nat) : Mod := m.set (0x601001 + r) st

/-- Whether r names a line: 1 to 3 for A to C. -/
def isLine (r : Nat) : Bool := decide (1 ≤ r ∧ r ≤ 3)

/-- The module drives CLAIM while line r decodes CLAIM (R261): a contention, in which the higher rank releases. -/
def Mod.claimContend (m : Mod) (r : Nat) : Mod :=
  let m := (m.bump 0x601008).raise 0x0306 [Config.eventField 0x0306 (2 ^ (m.rank - 1) + 2 ^ (r - 1)), m.k]
  if r < m.rank then m.releaseClaim 2 else m.followLines

/-- A CLAIM driven (R261, R262): event 0x0304, counted; another line that decodes CLAIM is a contention at once. -/
def Mod.driveClaim (m : Mod) : Mod :=
  if m.triad.drive = .claim then m
  else
    let m := (m.setDrive .claim).set 0x601001 csClaiming
    let m := ((m.bump 0x601007).raise 0x0304 [m.rank, m.k]).followLines
    m.each ([1, 2, 3].filter (fun r => r != m.rank && m.line r == lnClaim)) (fun m r => if m.triad.drive = .claim then m.claimContend r else m)

/-- LACE_CLAIM_DECODED (R257, R259, R261, R262): another line's CLAIM clears LAST_PUB; while the module drives CLAIM it is a
contention, in which the higher rank releases; the own line's CLAIM opens the gate where no other shows it. -/
def laceClaimDecoded (r : Nat) (m : Mod) : Mod :=
  if !isLine r then m
  else
    let m := m.setLine r lnClaim
    if r = m.rank then m.followLines
    else
      let m := { m with triad := { m.triad with lastPub := false } }
      if m.triad.drive = .claim then m.claimContend r else m.gates

/-- LACE_CLAIM_DECODED. -/
def execLaceClaimDecoded (r : Nat) (s : State) : Host.Outcome State Fault Refusal := .next { s with mod := s.mod.awake (laceClaimDecoded r) }

/-- LACE_ALIVE_DECODED (R257). -/
def laceAliveDecoded (r : Nat) (m : Mod) : Mod := if isLine r then (m.setLine r 1).followLines else m

/-- LACE_ALIVE_DECODED. -/
def execLaceAliveDecoded (r : Nat) (s : State) : Host.Outcome State Fault Refusal := .next { s with mod := s.mod.awake (laceAliveDecoded r) }

/-- LACE_PATTERN_LOST (R257): a line leaves CLAIM or ALIVE and is UNQUALIFIED. -/
def lacePatternLost (r : Nat) (m : Mod) : Mod :=
  if isLine r ∧ (m.line r = 1 ∨ m.line r = lnClaim) then (m.setLine r 3).followLines else m

/-- LACE_PATTERN_LOST. -/
def execLacePatternLost (r : Nat) (s : State) : Host.Outcome State Fault Refusal := .next { s with mod := s.mod.awake (lacePatternLost r) }

/-- LACE_DEAD_TIMEOUT (R257): 20 µs UNQUALIFIED, and the line is DEAD. -/
def laceDeadTimeout (r : Nat) (m : Mod) : Mod := if isLine r ∧ m.line r = 3 then (m.setLine r 0).followLines else m

/-- LACE_DEAD_TIMEOUT. -/
def execLaceDeadTimeout (r : Nat) (s : State) : Host.Outcome State Fault Refusal := .next { s with mod := s.mod.awake (laceDeadTimeout r) }

/-! ## Faults (R258, R266) -/

/-- A LACE_FAULT bit sets: event 0x0307 with the cause, the gate closes (R258, R266). -/
def Mod.laceFault (m : Mod) (b r : Nat) : Mod :=
  let was := bit (m.num 0x601005) b
  let m := { m with triad := { m.triad with faultFree := 0 } }.set 0x601005 (setBit (m.num 0x601005) b true)
  let m := if was then m else m.raise 0x0307 [m.num 0x601005, r, m.k]
  m.followLines

/-- LACE_LOOPBACK_FAULT (R258): for 40 µs the own line does not decode as the pattern driven, or its edges lag by more than 1.0 µs. -/
def laceLoopbackFault (m : Mod) : Mod := if m.rank = 0 then m else m.laceFault 0 m.rank

/-- LACE_LOOPBACK_FAULT. -/
def execLaceLoopbackFault (s : State) : Host.Outcome State Fault Refusal := .next { s with mod := s.mod.awake laceLoopbackFault }

/-- LACE_VIEW_FAULT (R258): in 8 consecutive ticks the decoded state of a line differed from what both other MEMBERs report. -/
def laceViewFault (r : Nat) (m : Mod) : Mod := if isLine r ∧ 8 ≤ Table.get m.triad.viewRun 0 r then m.laceFault 1 r else m

/-- LACE_VIEW_FAULT. -/
def execLaceViewFault (r : Nat) (s : State) : Host.Outcome State Fault Refusal := .next { s with mod := s.mod.awake (laceViewFault r) }

/-- LACE_FAULT_CLEAR (R258): 4,800 consecutive ticks with neither condition. -/
def laceFaultClear (m : Mod) : Mod := if 4800 ≤ m.triad.faultFree then (m.set 0x601005 0).followLines else m

/-- LACE_FAULT_CLEAR. -/
def execLaceFaultClear (s : State) : Host.Outcome State Fault Refusal := .next { s with mod := s.mod.awake laceFaultClear }

/-- LACE_GENERATOR_TIMEOUT (R256): not re-armed for two tick periods, the generator goes to OFF. The tick hardware re-arms it, so the
condition is one of elapsed time (log entry 3). -/
def laceGeneratorTimeout (m : Mod) : Mod := m.laceOff

/-- LACE_GENERATOR_TIMEOUT. -/
def execLaceGeneratorTimeout (s : State) : Host.Outcome State Fault Refusal := .next { s with mod := s.mod.awake laceGeneratorTimeout }

/-- FOREIGN_CLAIM_ALARM (R266): in the 8th consecutive tick in which a line shows CLAIM while its module is not P, a MEMBER raises event 0x030D. -/
def foreignClaimAlarm (r : Nat) (m : Mod) : Mod :=
  if isLine r ∧ m.isMember ∧ Table.get m.triad.foreignRun 0 r = 8 then m.raise 0x030D [r, m.k] else m

/-- FOREIGN_CLAIM_ALARM. -/
def execForeignClaimAlarm (r : Nat) (s : State) : Host.Outcome State Fault Refusal := .next { s with mod := s.mod.awake (foreignClaimAlarm r) }

end Sys2Proof.Machine
end

