-- ==== Sys2Proof/Machine/Triad.lean ====
section
/-!
DEFINITION. Membership and input agreement: member states, hello, formation, resynchronisation, AGREE and fetches (R234-R247, R267-R271,
R288-R290).
-/
namespace Sys2Proof.Machine

/-! ## Member states (R238) -/

/-- The member state changed; HELLO tells it on every link that is up (R288), and start-up completes where it waited for it (R538). -/
def Mod.setMstate (m : Mod) (st : Nat) : Mod :=
  if m.mstate = st then m
  else
    (m.set 0x600002 st).helloAll.joined

/-- SEEK entered: no MEMBER seen yet, no formation announced, the drive ALIVE. -/
def Mod.enterSeek (m : Mod) : Mod :=
  let m := { m with triad := { m.triad with seekTicks := 0, kForm := none, shadowRun := 0 } }
  (m.setMstate msSeek).laceAlive

/-- OUT entered: any claim is released and LACE_DRV is static low (R238). -/
def Mod.enterOut (m : Mod) (cause : Nat) : Mod := ((m.releaseClaim cause).laceOff).setMstate msOut

/-- The cause that event 0x0303 carries: 5 for key slots that differ (R490); R238's causes have no numbers (log entry 78). -/
def resyncCause (cause : Nat) : Nat := if cause = 5 then 5 else Config.eventField 0x0303 cause

/-- A failed attempt to resynchronise (R238): counted, event 0x0303; the third in a row leads to OUT, any other to SEEK. -/
def Mod.resyncFail (m : Mod) (cause : Nat) : Mod :=
  let n := m.triad.attempts + 1
  let m := { m with triad := { m.triad with attempts := n } }
  let m := (m.bump 0x600009).raise 0x0303 [m.num 0x60000B, n, resyncCause cause]
  if 3 ≤ n then m.enterOut 6 else m.enterSeek

/-- The module takes part in the vote: for the first time since reset, or as before (R175). -/
def Mod.noteVote (m : Mod) : Mod :=
  if m.triad.firstVote.isNone then { m with triad := { m.triad with firstVote := some m.tick.k } } else m

/-- The module becomes a MEMBER: its failed attempts and its own exclusion are forgotten (R238, R251). -/
def Mod.becomeMember (m : Mod) : Mod :=
  let m := { m with triad := { m.triad with attempts := 0, shadowRun := 0, kForm := none, absences := Table.del m.triad.absences m.rank } }
  ((m.set 0x602104 0 m.rank).set 0x602102 0 m.rank).setMstate msMember

/-- What rank r reports of its member state; a rank that becomes a MEMBER again is no longer excluded and its absences count anew (R251). -/
def Mod.peerIs (m : Mod) (r st : Nat) : Mod :=
  let was := m.num 0x600102 r
  let m := m.set 0x600102 st r
  if st = msMember ∧ was ≠ msMember then
    let m := { m with triad := { m.triad with absences := Table.del m.triad.absences r } }
    ((m.set 0x602104 0 r).set 0x602102 0 r).set 0x602101 0 r
  else m

/-- The commits that carry a pending swap and can still be ended: PROPOSED or CONFIRMED (R35, R90). -/
def Mod.swapCarriers (m : Mod) : List Commit :=
  m.dic.held.filter (fun (c : Commit) => (c.state == .proposed || c.state == .confirmed) &&
    ((m.swapPending && m.tick.swapCommit == c.id) || m.filter.profiles.any (fun e => e.2.swapCommit == c.id && m.profileSwapPending e.1)))

/-- What a stop of the tick ends: swaps that are pending, with the commits that carry them (log entry 196), armed commits, and captures
(R35, R90, R412, R460). -/
def Mod.haltTick (m : Mod) : Mod :=
  let m := m.each m.swapCarriers (fun m c => m.cancelCommit c abCancelled m.rank)
  let m := m.endSwap false
  let m := m.each ((List.range 60).map (· + 4)) (fun m p => m.endProfileSwap p false)
  (m.missArmed 3).clickerStop

/-- The module adopts a k and q (R12): a k that differs from its own is a stop and restart of its tick, and nothing that measures elapsed ticks
spans the change. -/
def Mod.adoptTick (m : Mod) (k q : Nat) : Mod :=
  if m.tick.k = k then (if m.tick.q = q then m else m.markTick q m.tick.sec)
  else
    let m := m.haltTick
    let m := { m with
      tick := { m.tick with k := k, q := q }
      triad := { m.triad with absences := [], errorAt := none }
      sw := { m.sw with overAt := none } }
    let m := m.each (m.sw.ports.map Prod.fst) (fun m p => m.setPort p { m.port p with demotedAt := none })
    m.freshTick.clickerRestart

/-! ## Donors (R267) -/

/-- Links that count towards R267 to module `id`: triad links of two lanes at code 0. -/
def Mod.donorLinks (m : Mod) (id : Nat) : Nat :=
  (m.linksUp.filter (fun l => m.num 0x611006 l == id && m.triadLink l && m.num 0x611001 l == 2 && m.num 0x611005 l == 0)).length

/-- The rank of the donor: the MEMBER of highest rank that is not the publisher, otherwise the publisher; with at least two links of R267.
The publisher is the module whose line decodes CLAIM (log entry 79). -/
def Mod.donor? (m : Mod) : Option Nat :=
  let ok := [3, 2, 1].filter (fun r => r != m.rank && m.num 0x600102 r == msMember && decide (2 ≤ m.donorLinks (m.num 0x600101 r)))
  match ok.find? (fun r => m.line r != lnClaim) with
  | some r => some r
  | none => ok.head?

/-- RESYNC_START (R238): in SEEK, with a donor, its k and q are adopted, a different k being a stop and restart of the tick; event 0x0302. -/
def Mod.resyncStart (m : Mod) : Mod :=
  match m.donor? with
  | none => m
  | some r =>
    let p := Table.get m.triad.peers {} r
    let m := m.adoptTick p.k p.q
    let m := ({ m with triad := { m.triad with resyncAt := p.k, shadowRun := 0 } }.set 0x60000B p.id).set 0x600006 p.digest
    (m.raise 0x0302 [p.id, p.k]).setMstate msResync

/-- REJOIN_WRITE (R273): 1 leaves OUT or CONFLICT for SEEK while the tick runs. -/
def rejoinWrite (path : Path) (v : Nat) (m : Mod) : Mod :=
  if v ≠ 1 then m.report path abValue
  else m.served path (fun m =>
    if (m.mstate = msOut ∨ m.mstate = msConflict) ∧ !m.stopped ∧ m.rank ≠ 0 then
      ({ m with triad := { m.triad with attempts := 0 } }).enterSeek
    else m)

/-- REJOIN_WRITE. -/
def execRejoinWrite (path : Path) (v : Nat) (s : State) : Host.Outcome State Fault Refusal :=
  .next { s with mod := s.mod.gate path (fun (m : Mod) => rejoinWrite path v m) }

/-! ## HELLO (R235, R236, R288-R290) -/

/-- RANK_CONFLICT (R236): the module's rank is held by a MEMBER, or sought by another module while it seeks it itself; event 0x0308. -/
def Mod.rankConflict (m : Mod) (h : Hello) : Mod :=
  let mine := m.mstate
  let clash := h.rank = m.rank ∧ m.rank ≠ 0 ∧ h.moduleId ≠ m.moduleId ∧
    ((h.mstate = msMember ∧ (mine = msSeek ∨ mine = msResync ∨ mine = msShadow)) ∨ (h.mstate = msSeek ∧ mine = msSeek))
  if clash then (m.raise 0x0308 [m.rank, h.moduleId]).setMstate msConflict else m

/-- What a HELLO of the module's own triad tells: the peer's ID and member state, a rank conflict, and in SEEK a MEMBER to resynchronise from. `k` and `q` are
the peer's (log entry 79). -/
def Mod.triadHello (m : Mod) (h : Hello) (k q : Nat) : Mod :=
  if h.triadId ≠ m.num 0x60000C ∨ h.rank = 0 ∨ 3 < h.rank ∨ m.rank = 0 then m
  else if h.rank = m.rank then m.rankConflict h
  else
    let p : PeerInfo := { id := h.moduleId, mstate := h.mstate, digest := h.digest, k := k, q := q }
    let m := { m with triad := { m.triad with peers := Table.set m.triad.peers {} h.rank p } }
    let m := (m.set 0x600101 h.moduleId h.rank).peerIs h.rank h.mstate
    if m.mstate = msSeek ∧ h.mstate = msMember then ({ m with triad := { m.triad with seekTicks := 0 } }).resyncStart else m

/-- Why a HELLO does not pass on link l (R289, R290): 1 invalid ID, 2 the receiver's own, 3 other LANES; 0 when it passes. -/
def Mod.helloFault (m : Mod) (l : Nat) (h : Hello) : Nat :=
  if h.moduleId = 0 ∨ 255 ≤ h.moduleId then 1
  else if h.moduleId = m.moduleId then 2
  else if h.lanes ≠ m.num 0x611001 l then 3
  else 0

/-- Whether link l is a triad link: the far end's HELLO carried the module's own TRIAD_ID, and both ends have rank 1 to 3 (R277). -/
def Mod.isTriadLink (m : Mod) (l : Nat) : Bool :=
  m.lkUp l && m.num 0x611008 l == m.num 0x60000C && decide (1 ≤ (m.link l).peerRank ∧ (m.link l).peerRank ≤ 3) && m.rank != 0

/-- TRIAD_LINK of link l follows what it depends on; a link that becomes a triad link abandons a step down of its own and proposes a step up at once
(R277, R291, R305). -/
def Mod.judgeTriadLink (m : Mod) (l : Nat) : Mod :=
  let is := m.isTriadLink l
  let was := m.triadLink l
  let m := m.set 0x611009 (b2n is) l
  if is && !was then
    let x := m.link l
    let m := if x.hs = .proposed ∧ m.num 0x611005 l < x.hsCode then m.setLink l { x with hs := .idle } else m
    (m.checkTriadLink l).climbOn l
  else m

/-- The PEER fields of link l, and whether it is a triad link (R277). -/
def Mod.peerFields (m : Mod) (l : Nat) (h : Hello) : Mod :=
  let m := ((m.set 0x611006 h.moduleId l).set 0x611007 h.link l).set 0x611008 h.triadId l
  (m.setLink l { m.link l with peerMax := h.rateMax, peerRank := h.rank }).routesInUse.judgeTriadLink l

/-- Link l enters ACTIVE with the credits of a HELLO and SEQ 0 on each side; event 0x0400; steps up begin where both ends allow (R281, R283, R289). -/
def Mod.linkActive (m : Mod) (l : Nat) (h : Hello) : Mod :=
  let x := m.link l
  let m := m.setLink l { credits := h.credits, peerMax := h.rateMax, peerRank := h.rank, climb := true, noUp := x.noUp, noDown := x.noDown }
  let m := (m.setLk l lkActive).peerFields l h
  let m := m.raise 0x0400 [l, h.moduleId, h.link, m.num 0x611005 l]
  (m.sayHello l).climbOn l

/-- A HELLO in HELLO or FAULT (R289, R290). -/
def Mod.firstHello (m : Mod) (l : Nat) (x : Hello) (k q : Nat) : Mod :=
  let bad := m.helloFault l x
  if m.moduleId = 0 then m
  else if bad ≠ 0 then (if m.lkState l = lkFault then m else (m.raise 0x0404 [l, bad]).setLk l lkFault)
  else (m.linkActive l x).triadHello x k q

/-- A HELLO on a link that is up (R289): another MODULE_ID takes the link DOWN. -/
def Mod.nextHello (m : Mod) (l : Nat) (x : Hello) (k q : Nat) : Mod :=
  if x.moduleId ≠ m.num 0x611006 l then m.linkDown l 4 else ((m.peerFields l x).climbOn l).triadHello x k q

/-- WELT_HELLO_RX (R288-R290). On a link that is up the flit has a SEQ (R281). -/
def weltHelloRx (h : FlitHdr) (x : Hello) (k q : Nat) (m : Mod) : Mod :=
  if m.lkUp h.l then m.takeLocal h (fun m => m.nextHello h.l x k q)
  else if m.lkState h.l = lkHello ∨ m.lkState h.l = lkFault then m.firstHello h.l x k q
  else m

/-- WELT_HELLO_RX. -/
def execWeltHelloRx (h : FlitHdr) (x : HelloRx) (s : State) : Host.Outcome State Fault Refusal :=
  .next { s with mod := s.mod.awake (weltHelloRx h x.hello x.k x.q) }

/-! ## Triad messages (R240, R241) -/

/-- STATUS of a message (R240). -/
def Mod.triadStatus (m : Mod) : Nat :=
  let err := match m.triad.errorAt with
    | some k => decide (m.k < k + 4800)
    | none => false
  2 ^ 31 * b2n (m.triad.drive == .claim) + 2 ^ 30 * b2n m.triad.gateAtP + 2 ^ 29 * b2n (m.num 0x601005 != 0) + 2 ^ 28 * b2n err +
    2 ^ 27 * b2n m.triad.lastPub

/-- The header of a message of this tick. -/
def Mod.triadHdr (m : Mod) : TriadHdr :=
  { rank := m.rank, moduleId := m.moduleId, mstate := m.mstate, tick := m.tick.k, digest := m.settingsDigest, status := m.triadStatus,
    laceView := m.triad.laceView, voteView := m.triad.lastView }

/-- Whether the module exchanges triad messages: it has a rank and is in SEEK to DEMOTED. -/
def Mod.inTriad (m : Mod) : Bool := m.rank != 0 && decide (msSeek ≤ m.mstate ∧ m.mstate ≤ msDemoted)

/-- The octets of a triad message: TYPE, header, body and CRC (R240). -/
def triadBytes (type : Nat) (h : TriadHdr) (body : List Byte) : List Byte :=
  let b := toLE 1 type ++ toLE 1 h.rank ++ toLE 1 h.moduleId ++ toLE 1 h.mstate ++ toLE 8 h.tick ++ toLE 2 (36 + body.length) ++ toLE 2 0 ++
    toLE 4 h.digest ++ toLE 4 h.status ++ toLE 2 h.laceView ++ toLE 2 h.voteView ++ toLE 4 0 ++ body
  b ++ toLE 4 (crc32 b)

/-- The header and the body of a triad message of a type; none where TYPE, LENGTH or the CRC is wrong (R240). -/
def triadParse (type : Nat) (b : List Byte) : Option (TriadHdr × List Byte) :=
  let n := b.length
  if n < 36 ∨ field b 0 1 ≠ type ∨ field b 0x0C 2 ≠ n ∨ crc32 (b.take (n - 4)) ≠ field b (n - 4) 4 then none
  else some ({ rank := field b 1 1, moduleId := field b 2 1, mstate := field b 3 1, tick := field b 4 8, digest := field b 0x10 4, status := field b 0x14 4,
               laceView := field b 0x18 2, voteView := field b 0x1A 2 }, slice b 32 (n - 36))

/-- A triad message to both peers: a W0 FRAME with bit TRIAD, on triad links alone and over one hop (R235, R240, R280, R301). -/
def Mod.sendTriad (m : Mod) (bytes : List Byte) : Mod :=
  m.each m.peerIds (fun m d =>
    let p : Packet := { ty := .frame, vc := 0, dst := d, src := m.moduleId, flags := 2, tick := m.k % 2 ^ 32, len := bytes.length, data := bytes }
    match m.routeOn (m.linksUp.filter (fun l => m.triadLink l && m.num 0x611006 l == d)) p with
    | some l => m.sendOn l p
    | none => m)

/-- The station records of this tick, in ascending order of the enabled stations. -/
def Mod.stationRecords (m : Mod) : List StMsg := m.stationsOn.map (fun r => (m.station r).record)

/-- The body of AGREE (R241). -/
def Mod.agreeBody (m : Mod) : List Byte :=
  let recs := m.streamsOn.map (fun s => Table.get m.ingest.closed {} s)
  (recs.flatMap (fun r => toLE 1 r.mask)) ++ (recs.flatMap (fun r => toLE 4 r.digest)) ++ (m.stationRecords.flatMap (fun x => toLE 4 (stationDigest x)))

/-- The entries of `size` octets that a body holds from `at'` on, `n` of them as far as it reaches. -/
def bodyEntries (b : List Byte) (at' size n : Nat) : List Nat :=
  ((List.range n).filter (fun i => decide (at' + size * (i + 1) ≤ b.length))).map (fun i => field b (at' + size * i) size)

/-- A peer's AGREE read by the module's own stream and station tables, which fix its layout (R241). -/
def Mod.readAgree (m : Mod) (h : TriadHdr) (b : List Byte) (records : List StMsg) : AgreeMsg :=
  let n := m.streamsOn.length
  { hdr := h, masks := bodyEntries b 0 1 n, digests := bodyEntries b n 4 n, stations := bodyEntries b (5 * n) 4 m.stationsOn.length, records := records }

/-- The records of the tick: filing closes for k - D, stream and station records form, and AGREE goes to both peers (R55, R241, R246). -/
def Mod.openTick (m : Mod) : Mod :=
  let m := (clearDropped m.closeFiling).each m.stationsOn (fun m r => formStation r m)
  if m.inTriad then m.sendTriad (triadBytes 1 m.triadHdr m.agreeBody) else m

/-- Whether the module becomes a MEMBER at the start of this tick: it is in SEEK and k is the formation tick announced (R239). -/
def Mod.formationDue (m : Mod) : Bool := m.mstate == msSeek && m.triad.kForm == some m.tick.k && m.inPhase .I && m.triad.stage == 0

/-! ## Formation (R238, R239) -/

/-- FORM_WAIT_EXPIRY (R238, R239): no MEMBER seen for FORM_WAIT ticks and the module of rank `r` in SEEK with the same digest. The lower
rank announces k_form = k + 4,800; the higher adopts the announced k_form and the k, q that come with it (log entry 80). -/
def formWaitExpiry (r kForm k q : Nat) (m : Mod) : Mod :=
  let p := Table.get m.triad.peers {} r
  if m.mstate ≠ msSeek ∨ m.triad.seekTicks < m.num 0x600008 ∨ m.triad.kForm.isSome ∨ p.mstate ≠ msSeek ∨ p.digest ≠ m.settingsDigest ∨
    r = m.rank ∨ [1, 2, 3].any (fun x => x != m.rank && m.num 0x600102 x == msMember) then m
  else if m.rank < r then
    ({ m with triad := { m.triad with kForm := some (m.k + 4800), formPeer := r } }).emit (.formation (m.k + 4800) m.k)
  else
    let m := m.adoptTick k q
    { m with triad := { m.triad with kForm := some kForm, formPeer := r } }

/-- FORM_WAIT_EXPIRY. -/
def execFormWaitExpiry (r kForm k q : Nat) (s : State) : Host.Outcome State Fault Refusal :=
  .next { s with mod := s.mod.awake (formWaitExpiry r kForm k q) }

/-- FORMATION_TICK (R237, R239): from the start of k_form both modules are MEMBERs, so that their AGREE leaves as a MEMBER's; the digest starts from the configuration digest, and
slots, engines and histories take the state of the first tick after a stop; event 0x030B. -/
def formationTick (m : Mod) : Mod :=
  if !m.formationDue then m
  else
    let r := m.triad.formPeer
    let m := (m.set 0x600006 m.configDigest).freshTick
    let m := (m.peerIs r msMember).raise 0x030B [m.k, m.num 0x600101 r]
    m.becomeMember.noteVote.openTick

/-- FORMATION_TICK. -/
def execFormationTick (s : State) : Host.Outcome State Fault Refusal := .next { s with mod := s.mod.awake formationTick }

/-! ## Resynchronisation (R267-R271) -/

/-- RESYNC_TIMEOUT (R238): the donor lost, a transfer error, or 2 s elapsed. -/
def resyncTimeout (cause : Nat) (m : Mod) : Mod := if m.mstate = msResync then m.resyncFail cause else m

/-- RESYNC_TIMEOUT. -/
def execResyncTimeout (cause : Nat) (s : State) : Host.Outcome State Fault Refusal := .next { s with mod := s.mod.awake (resyncTimeout cause) }

/-- SHADOW_COMPLETE (R238): 48 shadow ticks in the majority make the module a MEMBER; event 0x0300. RESYNC_LAST is the time since RESYNC
was entered, in whole ticks (log entry 81). -/
def shadowComplete (m : Mod) : Mod :=
  if m.mstate ≠ msShadow ∨ m.triad.shadowRun < 48 then m
  else
    let m := m.set 0x60000A (min ((m.k - m.triad.resyncAt) * 1000000 / m.hz) (2 ^ 32 - 1))
    (m.raise 0x0300 [m.rank, m.k]).becomeMember

/-- SHADOW_COMPLETE. -/
def execShadowComplete (s : State) : Host.Outcome State Fault Refusal := .next { s with mod := s.mod.awake shadowComplete }

/-- Objects of access RO that hold the state of a block and go with a transfer; counters stay (R268). -/
def chainStatus : List Nat :=
  [0x202001, 0x202004, 0x202006, 0x202007, 0x202008, 0x20200B, 0x202101, 0x202102, 0x400001, 0x401015, 0x401016, 0x402001, 0x402006,
   0x440001, 0x441007, 0x441008, 0x44100A, 0x44100B, 0x442004, 0x442005, 0x442006, 0x442007, 0x442008, 0x442009, 0x44200B, 0x44200D, 0x442010, 0x442011,
   0x442013, 0x442014, 0x442015, 0x443001, 0x443002, 0x443003, 0x443004, 0x450001, 0x451005, 0x451006, 0x451007, 0x45200A, 0x45200B,
   0x45200C, 0x45200D, 0x45200E, 0x454001, 0x454002, 0x480001, 0x480002, 0x480003, 0x481016, 0x481020, 0x481021, 0x481022, 0x481024,
   0x481025, 0x481026, 0x580001, 0x581001, 0x581004, 0x581008, 0x581009, 0x58100A, 0x581010, 0x5A000E, 0x5A000F, 0x510001, 0x510002,
   0x51000D, 0x511011, 0x511012, 0x511101, 0x511102, 0x511103, 0x511104, 0x511105, 0x511106, 0x511107, 0x511108, 0x511109, 0x51110A,
   0x51110B, 0x51110C, 0x513005, 0x600006, 0x602001, 0x602006, 0x602007]

/-- Whether an object goes with a transfer: every triad-wide one but MODULE_ID, and the states of `chainStatus`. -/
def inChain (o : Nat) : Bool := (triadWide o && o != 0x610001) || chainStatus.contains o

/-- Whether an octet of memory goes with a transfer's fence: what the VFs hold; tenant SRAM goes as remote writes (R268; log entry 86). -/
def chainMem (a : Nat) : Bool := regionOf a == .vf

/-- The key slots that triad-wide objects name (R488, R490). -/
def Mod.namedSlots (m : Mod) : List Nat :=
  let of := fun (o : Nat) => (m.dict.filter (fun e => e.1 / 65536 == o)).filterMap (fun e => match e.2 with
    | .num n => if n < 512 then some n else none
    | .oct _ => none)
  ([0x401011, 0x401012, 0x513009, 0x1F3002, 0x515006].flatMap of).eraseDups

/-- What this module would transfer now (R268, R459, R490). -/
def Mod.chain (m : Mod) : Chain :=
  { k := m.tick.k, q := m.tick.q, marks := m.tick.marks, objects := m.dict.filter (fun e => inChain (e.1 / 65536)),
    bankA := m.tick.bankA, bankB := m.tick.bankB, swap := (m.tick.swapTick, m.tick.swapCommit, m.tick.chkUnbound, m.tick.chkFirst), ingest := m.ingest, filter := m.filter, phasor := m.phasor, element := m.element,
    logic := m.logic, bits := m.bits, hold := m.triad.hold, tenants := m.ten.tenants, pubs := m.ten.pubs, sc0 := m.ten.sc0,
    clearing := m.ten.clearing, mem := m.mem.filter (fun e => chainMem e.1), commits := m.pendingCommits,
    kcv := m.namedSlots.map (fun i => (i, m.num 0x642003 i)), inv := m.namedSlots.map (fun i => (i, m.num 0x642005 i)) }

/-- A donor's stations with what this module has received of the tick itself. -/
def Mod.adoptStations (m : Mod) (t : Table StationRt) : Table StationRt :=
  t.foldl (fun acc e =>
    let mine := m.station e.1
    Table.set acc {} e.1 { e.2 with rx := mine.rx, record := if mine.record.valid then mine.record else e.2.record, agreed := mine.agreed })
    (m.logic.stations.filter (fun e => (Table.find? t e.1).isNone))

/-- What a transferred chain carries in place of the module's own. -/
def Mod.adoptState (m : Mod) (c : Chain) : Mod :=
  { m with
    dict := c.objects.foldl (fun (d : Table Val) (e : Nat × Val) => putVal d e.1 e.2) (m.dict.filter (fun e => !inChain (e.1 / 65536)))
    mem := c.mem.foldl (fun (t : Memory) (e : Host.Cell) => Memory.write t e.1 e.2) (m.mem.filter (fun e => !chainMem e.1))
    tick := { m.tick with bankA := c.bankA, bankB := c.bankB, marks := c.marks, swapTick := c.swap.1, swapCommit := c.swap.2.1, chkUnbound := c.swap.2.2.1, chkFirst := c.swap.2.2.2 }
    ingest := { m.ingest with held := c.ingest.held, streams := c.ingest.streams, replay := c.ingest.replay }
    filter := c.filter
    phasor := c.phasor
    element := c.element
    logic := { c.logic with stations := m.adoptStations c.logic.stations, imaged := m.logic.imaged }
    bits := c.bits
    triad := { m.triad with hold := c.hold }
    ten := { m.ten with tenants := c.tenants, pubs := c.pubs, sc0 := c.sc0, clearing := c.clearing }
    dic := { m.dic with held := c.commits.map (fun (x : Commit) => { x with own := false }) } }

/-- A transferred chain taken: the donor's state replaces the module's (R12, R268). -/
def Mod.adopt (m : Mod) (c : Chain) : Mod :=
  let m := (m.adoptState c).each c.inv (fun (m : Mod) (e : Nat × Nat) => m.set 0x642005 e.2 e.1)
  (m.set 0x1F0101 m.pendingCommits.length).each (List.range 24) (fun m l => m.judgeTriadLink l)

/-- RESYNC_COMPLETE (R238, R269, R490): the donor's fence reaches the joiner in the tick after k_c, before phase F; a named key slot that
is empty or whose KCV differs fails the attempt with cause 5. Tenants resume with identity 5 (R268). -/
def Mod.resyncComplete (m : Mod) (c : Chain) : Mod :=
  if c.kcv.any (fun (e : Nat × Nat) => m.num 0x642001 e.1 == 0 || m.num 0x642003 e.1 != e.2) then m.resyncFail 5
  else
    let m := { m with triad := { m.triad with firstVote := some c.k, shadowFrom := c.k + 1 } }
    let m := (m.adopt c).setMstate msShadow
    m.each (m.tenantsOn.filter (fun t => m.tnState t == tnRunning)) (fun m t => m.identity t 5)

/-- Whether a fence that a donor sent at the end of tick k_c arrives before phase F of k_c + 1 (R269). -/
def Mod.fenceInTime (m : Mod) (c : Chain) : Bool := c.k == m.tick.k || (c.k + 1 == m.tick.k && m.tick.phase == .I)

/-- A FENCE delivered (R269, R299): FENCE_ID is recorded for its sender; the donor's fence of a transfer ends it. -/
def Mod.takeFence (m : Mod) (p : Packet) (c : Option Chain) : Mod :=
  let m := m.set 0x613010 p.fenceId p.src
  match c with
  | some c => if m.mstate = msResync ∧ p.src = m.num 0x60000B ∧ m.fenceInTime c then m.resyncComplete c else m
  | none => m

/-- The blocks of 4 KiB of the SRAM of every tenant that is not EMPTY, by their base, ascending (R268, R269). -/
def Mod.sramBlocks (m : Mod) : List Nat :=
  (m.tenantsOn.flatMap (fun t => (List.range ((m.tnSram t).2 / 4096)).map (fun i => (m.tnSram t).1 + 4096 * i))).mergeSort

/-- DONOR_COPY_COMPLETE (R269): the donor's copy to the joiner of rank r is complete: the blocks of tenant SRAM have gone as remote writes, and the fence
follows the last write of the tick. The rest of the transfer goes with the fence (log entry 86). -/
def donorCopyComplete (r : Nat) (m : Mod) : Mod :=
  if !m.isMember ∨ r = m.rank ∨ m.num 0x600102 r ≠ msResync then m
  else
    let id := m.num 0x600101 r
    let m := m.each m.sramBlocks (fun m a =>
      m.post { ty := .wrReq, vc := 2, dst := id, src := m.moduleId, len := 4096, offset := a, data := Memory.readN m.mem a 4096 })
    let m := m.post { ty := .fence, vc := 2, dst := id, src := m.moduleId }
    m.emit (.donorFence id m.chain)

/-- DONOR_COPY_COMPLETE. -/
def execDonorCopyComplete (r : Nat) (s : State) : Host.Outcome State Fault Refusal := .next { s with mod := s.mod.awake (donorCopyComplete r) }

/-! ## Messages of the peers (R240, R241) -/

/-- Whether a peer's message of this tick counts (R235, R240): for tick k, from a rank that is not excluded, over a triad link. -/
def Mod.msgOk (m : Mod) (l : Nat) (h : TriadHdr) : Bool :=
  m.triadLink l && h.tick == m.tick.k && h.rank != m.rank && isLine h.rank && m.num 0x602104 h.rank == 0 && m.rank != 0

/-- A triad message of a type that a packet carries and that counts. -/
def Mod.triadMsg (m : Mod) (l type : Nat) (p : Packet) : Option (TriadHdr × List Byte) :=
  if p.vc ≠ 0 ∨ !bit p.flags 1 then none else (triadParse type p.data).filter (fun x => m.msgOk l x.1)

/-- AGREE_RX (R240): an acceptable message before the deadline is kept for the tick; any other is as absent. `records` are the sender's station records, whose
digests it carries (log entry 82). -/
def Mod.takeAgree (m : Mod) (l : Nat) (p : Packet) (records : List StMsg) : Mod :=
  match m.triadMsg l 1 p with
  | some (h, b) =>
    if m.triad.stage ≠ 0 then m
    else { m with triad := { m.triad with agrees := Table.put m.triad.agrees h.rank (m.readAgree h b records) } }.peerIs h.rank h.mstate
  | none => m

/-- AGREE_RX. -/
def execAgreeRx (x : AgreeRx) (s : State) : Host.Outcome State Fault Refusal :=
  .next { s with mod := s.mod.awake (fun (m : Mod) => m.takeWhole x.h x.p (fun m => m.takeAgree x.h.l x.p x.records)) }

/-- VECTOR_RX (R240): a peer's vector of this tick, before the vote deadline. -/
def Mod.takeVector (m : Mod) (l : Nat) (p : Packet) : Mod :=
  match m.triadMsg l 2 p with
  | some (h, b) =>
    if 4 ≤ m.triad.stage then m
    else { m with triad := { m.triad with vectors := Table.put m.triad.vectors h.rank { hdr := h, body := b } } }.peerIs h.rank h.mstate
  | none => m

/-- VECTOR_RX. -/
def execVectorRx (x : WeltRx) (s : State) : Host.Outcome State Fault Refusal :=
  .next { s with mod := s.mod.awake (fun (m : Mod) => m.takeWhole x.h x.p (fun m => m.takeVector x.h.l x.p)) }

/-! ## Agreement (R242-R244) -/

/-- The outcome for one stream or station: the own data stand, a peer's do, or there is no agreement. -/
inductive Agreed where
  | own
  | peer (r : Nat)
  | no
deriving DecidableEq, Repr

/-- R242: `peers` are the MEMBER peers' digests with their ranks, ascending; `mayPair` says that the own digest can form a pair. -/
def agreeOn (own : Nat) (mayPair : Bool) (peers : List (Nat × Nat)) : Agreed :=
  if mayPair ∧ peers.any (fun e => e.2 == own) then .own
  else match peers with
    | [a, b] => if a.2 = b.2 then (if a.2 = own then .own else .peer a.1) else .no
    | _ => .no

/-- The AGREE messages that count, by rank: of MEMBERs that are not excluded. -/
def Mod.memberAgrees (m : Mod) : List (Nat × AgreeMsg) := m.triad.agrees.filter (fun e => e.2.hdr.mstate == msMember && m.num 0x602104 e.1 == 0)

/-- How entry i of the digests that `f` picks comes out. -/
def Mod.outcome (m : Mod) (f : AgreeMsg → List Nat) (own i : Nat) : Agreed :=
  if m.mstate = msStandalone then .own
  else agreeOn own m.isMember (m.memberAgrees.filterMap (fun e => ((f e.2)[i]?).map (fun d => (e.1, d))))

/-- Where the fetch of a stream's filed samples reads: the peer's aperture (R243, R295). -/
def Mod.fetchAddr (m : Mod) (s r : Nat) : Nat := 2 ^ 47 + m.num 0x600101 r * 2 ^ 36 + 0x54000000 + 0x8000 * s + 0x200 * (m.kf % 64)

/-- How many octets a fetch reads: the record's header and the digest input of the sub-samples in the peer's presence mask, in words (R295). -/
def Mod.fetchLen (m : Mod) (s mask : Nat) : Nat :=
  (8 + 2 + ((List.range 8).filter (fun i => bit mask i)).length * (2 + 8 * m.num 0x401009 s) + 3) / 4 * 4

/-- A fetch (R243): the first FETCH_MAX of a tick are issued and counted; all are recorded. -/
def Mod.fetch (m : Mod) (s r digest mask : Nat) : Mod :=
  let issued := decide (m.triad.fetches.length < m.num 0x603005)
  let m := { m with triad := { m.triad with fetches := m.triad.fetches ++ [{ s := s, peer := r, digest := digest }] } }
  if issued then remoteRead .fetch (m.fetchAddr s r) (m.fetchLen s mask) (m.bump 0x603001) else m

/-- One stream at the deadline. -/
def Mod.agreeStream (m : Mod) (i s : Nat) : Mod :=
  let own : StreamRec := Table.get m.ingest.closed {} s
  match m.outcome AgreeMsg.digests own.digest i with
  | .own => { m with ingest := { m.ingest with agreed := Table.put m.ingest.agreed s own.subs } }
  | .peer r =>
    let a := Table.get m.triad.agrees {} r
    m.fetch s r (a.digests.getD i 0) (a.masks.getD i 0)
  | .no => m.bump 0x603003

/-- One station at the deadline: the own record stands, or the peers' that agree (log entry 82). -/
def Mod.agreeStation (m : Mod) (i r : Nat) : Mod :=
  let x := m.station r
  match m.outcome AgreeMsg.stations (stationDigest x.record) i with
  | .own => m.setStation r { x with agreed := x.record }
  | .peer p =>
    let rec' : StMsg := match Table.find? m.triad.agrees p with
      | some a => a.records.getD i {}
      | none => {}
    m.setStation r { x with agreed := rec' }
  | .no => m

/-- AGREE_DEADLINE (R242-R246): MEMBER peers without a message are counted absent; every stream and station is agreed or not, and fetches
are issued in ascending s. -/
def agreeDeadline (m : Mod) : Mod :=
  if m.triad.stage ≠ 0 ∨ m.tick.phase ≠ .I ∨ !m.tick.running then m
  else
    let absent := if m.inTriad then m.otherMembers.filter (fun r => (Table.find? m.triad.agrees r).isNone) else []
    let m := m.each absent (fun m _ => m.bump 0x603004)
    let m := { m with triad := { m.triad with stage := 1 } }
    let m := m.each (indexed m.streamsOn) (fun m e => m.agreeStream e.1 e.2)
    m.each (indexed m.stationsOn) (fun m e => m.agreeStation e.1 e.2)

/-- AGREE_DEADLINE. -/
def execAgreeDeadline (s : State) : Host.Outcome State Fault Refusal := .next { s with mod := s.mod.awake agreeDeadline }

/-- FETCH_DEADLINE (R243, R56): fetches not complete, and those beyond FETCH_MAX, are counted and leave the samples MISSING; agreed
values, flags and substitutes and the remote-input image are ready. -/
def fetchDeadline (m : Mod) : Mod :=
  if m.triad.stage ≠ 1 then m
  else
    let late := m.triad.fetches.filter (fun (f : Fetch) => !f.done)
    let m := m.bump 0x603002 0 late.length
    let m := { m with triad := { m.triad with stage := 2 } }
    (applyStations m.deliverAll).sampleGroups

/-- FETCH_DEADLINE. -/
def execFetchDeadline (s : State) : Host.Outcome State Fault Refusal := .next { s with mod := s.mod.awake fetchDeadline }

end Sys2Proof.Machine
end

