-- ==== Sys2Proof/Machine/Vote.lean ====
section
/-!
DEFINITION. The vote and the hold register: the output vector, the majority, V end, demotion and exclusion, the preferred publisher and the
hold limit (R248-R252, R258, R260-R266).
-/
namespace Sys2Proof.Machine

/-! ## The output vector (R248) -/

/-- A number put into a rising list, once. -/
def insertAsc (a : Nat) : List Nat → List Nat
  | [] => [a]
  | b :: t => if a < b then a :: b :: t else if a = b then b :: t else b :: insertAsc a t

/-- Whether a bit address is an output bit of OUTBITS. -/
def isOutBit (a : Nat) : Bool := decide ((0x30000 ≤ a ∧ a < 0x34000) ∨ (0x38000 ≤ a ∧ a < 0x40000))

/-- The addresses of the 32-bit words of OUTBITS: every word of output bits that an ownership entry of an engine covers, ascending. -/
def Mod.outWords (m : Mod) : List Nat :=
  let all := m.logic.engines.flatMap (fun e => e.2.own.flatMap (fun o => (List.range o.2).map (fun i => o.1 + 32 * i)))
  (all.filter isOutBit).foldl (fun l a => insertAsc a l) []

/-- The publish entries that have an entry in PUB: KIND 1 of a tenant and KIND 2. -/
def Mod.pubEntries (m : Mod) : List Nat :=
  (lastPubs m.activeLast).filter (fun e => (pubKind e == 1 && pubTenant e != 0) || pubKind e == 2)

/-- The frame standing for tick k in the slot or buffer of a publish entry; none where no new one does, and none of a tenant that is not RUNNING
(R212, R214, R225). -/
def Mod.standingFrame (m : Mod) (e : Nat) : Option (List Byte) :=
  if pubKind e = 2 then Table.find? (m.sc0 (pubObject e)).standing m.k
  else if m.tnState (pubTenant e) ≠ tnRunning then none
  else Table.find? (m.pub (pubInst (pubTenant e) (pubObject e))).standing m.k

/-- The entry of PUB for the frame standing for the tick: its length, a reserved field and its CRC; length 0 where there is none (R248). -/
def pubEntryBytes (f : Option (List Byte)) : List Byte :=
  let b := f.getD []
  toLE 2 b.length ++ toLE 2 0 ++ toLE 4 (crc32 b)

/-- The own vector of the tick: OUTBITS, then PUB. -/
def Mod.ownVector (m : Mod) : VoteVec :=
  { digest := m.settingsDigest
    body := m.outWords.flatMap (fun a => toLE 4 (m.imageWord a)) ++ m.pubEntries.flatMap (fun e => pubEntryBytes (m.standingFrame e)) }

/-- The length of the VECTOR message. -/
def vectorLen (v : VoteVec) : Nat := 36 + v.body.length

/-- LACE_VIEW sampled now (R240): LOOPBACK_OK and the decoded states of lines C, B and A. -/
def Mod.sampleLace (m : Mod) : Nat := 64 * b2n (!bit (m.num 0x601005) 0) + 16 * m.line 3 + 4 * m.line 2 + m.line 1

/-- The state of line r in a LACE_VIEW. -/
def viewLine (v r : Nat) : Nat := v / 4 ^ (r - 1) % 4

/-- VOTE_START (R20, R240, R248, R258): at V start phase L2 ends, the own vector is formed and sent, the lines are sampled, and the Clicker takes the tick's bits. -/
def voteStart (now : Nat) (m : Mod) : Mod :=
  if !m.inPhase .L2 ∨ !m.logic.l2 ∨ m.triad.stage ≠ 2 then m
  else
    let m := m.endPasses
    let v := m.ownVector
    let m := { m with
      tick := { m.tick with phase := .V }
      triad := { m.triad with stage := 3, own := v, ownStatus := m.triadStatus, laceView := m.sampleLace, vDrive := m.triad.drive } }
    let m := m.set 0x602001 (vectorLen v)
    let m := if m.inTriad then m.sendTriad (triadBytes 2 m.triadHdr v.body) else m
    m.clickerVStart now

/-- VOTE_START. -/
def execVoteStart (now : Nat) (s : State) : Host.Outcome State Fault Refusal := .next { s with mod := s.mod.awake (voteStart now) }

/-! ## The majority (R249, R261) -/

/-- Whether rank r is excluded. -/
def Mod.excluded (m : Mod) (r : Nat) : Bool := m.num 0x602104 r != 0

/-- The vectors of peers that count: of MEMBERs that are not excluded. -/
def Mod.memberVectors (m : Mod) : List (Nat × VectorMsg) :=
  m.triad.vectors.filter (fun e => e.2.hdr.mstate == msMember && !m.excluded e.1)

/-- A peer's vector as the vote compares it. -/
def voteVecOf (v : VectorMsg) : VoteVec := { digest := v.hdr.digest, body := v.body }

/-- The vectors present at the deadline, by rank: the peers' that count, and the own one of a MEMBER that met it. -/
def Mod.presentVectors (m : Mod) (own : Bool) : List (Nat × VoteVec) :=
  (if m.isMember ∧ own then [(m.rank, m.triad.own)] else []) ++ m.memberVectors.map (fun e => (e.1, voteVecOf e.2))

/-- R249: the vector that at least two of those present equal. -/
def majorityOf (vs : List (Nat × VoteVec)) : Option VoteVec :=
  (vs.find? (fun e => decide (2 ≤ (vs.filter (fun x => x.2 = e.2)).length))).map Prod.snd

/-- Ranks as a mask, bit r - 1. -/
def rankMask (rs : List Nat) : Nat := rs.foldl (fun n r => setBit n (r - 1) true) 0

/-- VOTE_DEADLINE (R249, R250, R261): the majority of the tick is formed from the vectors present; `own` says that the own vector was there in
time. A claimer that missed it, or does not hold majority, releases at once. -/
def voteDeadline (own : Bool) (m : Mod) : Mod :=
  if m.triad.stage ≠ 3 then m
  else
    let vs := m.presentVectors own
    let maj := majorityOf vs
    let inMaj := match maj with
      | some v => (vs.filter (fun e => e.2 = v)).map Prod.fst
      | none => []
    let m := { m with triad := { m.triad with
      stage := 4, ownInTime := own, majority := maj, present := rankMask (vs.map Prod.fst), inMajority := rankMask inMaj } }
    if !m.isMember then m
    else if !own then m.releaseClaim 3
    else if maj ≠ some m.triad.own then m.releaseClaim 4
    else m

/-- VOTE_DEADLINE. -/
def execVoteDeadline (own : Bool) (s : State) : Host.Outcome State Fault Refusal := .next { s with mod := s.mod.awake (voteDeadline own) }

/-! ## V end: runs, the eligible set and the preferred publisher (R251, R260, R265) -/

/-- The ranks of a mask. -/
def maskRanks (v : Nat) : List Nat := [1, 2, 3].filter (fun r => bit v (r - 1))

/-- Held counters (R250): HELD_TICKS and HELD_TOTAL, event 0x030A in the first held tick of a run. -/
def Mod.countHeld (m : Mod) : Mod :=
  if m.triad.majority.isSome then { m with triad := { m.triad with hold := { m.triad.hold with safe := false } } }.set 0x602007 0
  else
    let m := if m.num 0x602007 = 0 then m.raise 0x030A [(maskRanks m.triad.present).length, m.k] else m
    (m.bump 0x602007).bump 0x602008

/-- Minority runs (R251): a rank whose vector was present and not in the majority is suspect, with event 0x030C in the first tick of a run. -/
def Mod.countMinority (m : Mod) (r : Nat) : Mod :=
  if m.triad.majority.isSome ∧ bit m.triad.present (r - 1) ∧ !bit m.triad.inMajority (r - 1) then
    let m := if m.num 0x602102 r = 0 then m.raise 0x030C [r, m.k] else m
    (m.bump 0x602102 r).bump 0x602103 r
  else m.set 0x602102 0 r

/-- Absences of rank r in the last 4,800 ticks, this one included (R251). -/
def Mod.countAbsence (m : Mod) (r : Nat) : Mod :=
  let absent := m.num 0x600102 r == msMember && !m.excluded r && !bit m.triad.present (r - 1) && r != m.rank
  let old := (Table.get m.triad.absences [] r).filter (fun t => decide (m.k < t + 4800))
  let l := if absent then m.k :: old else old
  { m with triad := { m.triad with absences := Table.set m.triad.absences [] r l } }.set 0x602101 l.length r

/-- STATUS of rank r's vector of the tick. -/
def Mod.statusOf (m : Mod) (r : Nat) : Nat :=
  if r = m.rank then m.triad.ownStatus else match Table.find? m.triad.vectors r with
    | some v => v.hdr.status
    | none => 0

/-- E(k) (R260): MEMBERs in the majority whose STATUS shows neither LACE_FAULT nor DETECTED_ERROR. -/
def Mod.eligibleSet (m : Mod) : List Nat :=
  (maskRanks m.triad.inMajority).filter (fun r => !m.excluded r && !bit (m.statusOf r) 29 && !bit (m.statusOf r) 28)

/-- P(k) of R260 but for the start of a revert, which REVERT_DELAY_ELAPSED is, and the end of its hold-off, REVERT_HOLDOFF_END. -/
def Mod.preferred (m : Mod) (e : List Nat) : Nat :=
  let c := m.num 0x602006
  match e with
  | [] => 0
  | l :: _ => if c = 0 then (if m.triad.hold.holdoffOn then 0 else l) else if e.contains c then c else l

/-- The Lace drive that follows P(k) (R260, R262): a claim that has not opened its gate since the last V end is counted. -/
def Mod.drivePublisher (m : Mod) : Mod :=
  if m.num 0x602006 = m.rank then
    if m.triad.drive = .claim then (if m.num 0x601001 = csClaiming then m.bump 0x601008 else m) else m.driveClaim
  else m.releaseClaim 1

/-- Eligibility, its runs and the preferred publisher (R260, R265). -/
def Mod.choosePublisher (m : Mod) : Mod :=
  let e := m.eligibleSet
  let h := m.triad.hold
  let runs := [1, 2, 3].foldl (fun t r => Table.set t 0 r (if e.contains r then min (Table.get t 0 r + 1) 0xFFFFFFFF else 0)) h.runs
  let m := { m with triad := { m.triad with eligible := rankMask e, hold := { h with runs := runs, holdoffLeft := h.holdoffLeft - 1 } } }
  (m.set 0x602006 (m.preferred e)).drivePublisher

/-! ## V end: lines, hold register and shadow (R250, R258, R266, R238) -/

/-- What the own line should decode as (R258). -/
def expectedLine : Drive → Nat
  | .off => 0
  | .alive => 1
  | .claim => 2

/-- View runs, foreign claims and fault-free ticks (R258, R266); `c` is P(k - 1). The own line is held against the drive as both were at V start. -/
def Mod.countLines (m : Mod) (c : Nat) : Mod :=
  let v := m.triad.laceView
  let peers := m.memberVectors.map (fun e => e.2.hdr.laceView)
  let bad := fun (r : Nat) => peers.length == 2 && peers.all (fun p => viewLine p r != viewLine v r)
  let viewRun := [1, 2, 3].foldl (fun t r => Table.set t 0 r (if bad r then Table.get t 0 r + 1 else 0)) m.triad.viewRun
  let foreign := [1, 2, 3].foldl (fun t r => Table.set t 0 r (if viewLine v r = lnClaim ∧ r ≠ c then Table.get t 0 r + 1 else 0)) m.triad.foreignRun
  let fault := viewLine v m.rank != expectedLine m.triad.vDrive || [1, 2, 3].any (fun r => decide (8 ≤ Table.get viewRun 0 r))
  { m with triad := { m.triad with
      viewRun := viewRun, foreignRun := foreign, faultFree := if fault then 0 else m.triad.faultFree + 1 } }

/-- Member bits of slot u in a table of bits. -/
def memberBitsOf (t : Table Nat) (u : Nat) : Nat :=
  (List.range 64).foldl (fun n j => n + Table.get t 0 (0x30000 + 64 * u + j) * 2 ^ j) 0

/-- A logic-owned slot takes member bits: a change has a new stNum and starts sqNum again. -/
def LogicPub.take (x : LogicPub) (bits k : Nat) : LogicPub :=
  if x.bits = bits ∧ x.chg.isSome then x else { bits := bits, stNum := x.stNum + 1, sq := 0, chg := some k }

/-- The hold register takes the voted frame of one publish entry, with its schedule (R213, R250). -/
def Mod.holdEntry (m : Mod) (e : Nat) : Mod :=
  let o := pubObject e
  if pubKind e = 1 ∧ pubTenant e = 0 then
    let h := m.triad.hold
    { m with triad := { m.triad with hold := { h with slots := Table.put h.slots o ((Table.get h.slots {} o).take (memberBitsOf h.bits o) m.k) } } }
  else match m.standingFrame e with
  | none => m
  | some f =>
    if pubKind e = 2 then m.setSc0 o { m.sc0 o with frame := f, frameTick := m.k }
    else
      let i := pubInst (pubTenant e) o
      let sqAt := m.num 0x513008 i
      let first := m.num 0x513006 i
      m.setPub i { m.pub i with
        frame := f
        commitTick := m.k
        sq := if sqAt = 0 then 0 else beNat (slice f sqAt 4)
        interval := if sqAt = 0 then 0 else max 1 first
        due := m.k + max 1 first }

/-- Frames standing for this tick or an earlier one stand no longer. -/
def Mod.dropStanding (m : Mod) : Mod :=
  let m := m.each (m.ten.pubs.map Prod.fst) (fun m i => m.setPub i { m.pub i with standing := (m.pub i).standing.filter (fun e => decide (m.k < e.1)) })
  m.each (m.ten.sc0.map Prod.fst) (fun m b => m.setSc0 b { m.sc0 b with standing := (m.sc0 b).standing.filter (fun e => decide (m.k < e.1)) })

/-- The output bits that the hold register takes with a vector: its OUTBITS words over the words in use, and no other bit (R248, R250). -/
def Mod.votedBits (m : Mod) (v : VoteVec) : Table Nat :=
  (indexed m.outWords).foldl (fun t e =>
    let w := field v.body (4 * e.1) 4
    (List.range 32).foldl (fun t i => if bit w i then Table.put t (e.2 + i) 1 else t) t) []

/-- Whether the frame standing for an entry is the one that a vector's PUB entry of that place names. -/
def Mod.frameVoted (m : Mod) (v : VoteVec) (i e : Nat) : Bool :=
  slice v.body (4 * m.outWords.length + 8 * i) 8 == pubEntryBytes (m.standingFrame e)

/-- Whether a publish entry of the hold register is the majority's: a logic-owned slot, built from OUTBITS, always; any other where the own frame is the one
voted (log entry 226). -/
def Mod.entryVoted (m : Mod) (v : VoteVec) (e : Nat) : Bool :=
  match m.pubEntries.findIdx? (fun x => x == e) with
  | some i => m.frameVoted v i e
  | none => true

/-- The hold register at V end (R250): every module takes the majority's vector, output bits, slots and frames; frames of this tick stand no longer. -/
def Mod.holdUpdate (m : Mod) : Mod :=
  let m := match m.triad.majority with
    | some v =>
      let m := { m with triad := { m.triad with hold := { m.triad.hold with voted := v, bits := m.votedBits v } } }
      m.each ((lastPubs m.activeLast).filter (m.entryVoted v)) (fun m e => m.holdEntry e)
    | none => m
  m.dropStanding

/-- A tick in SHADOW (R238), from the first that the module computes for itself on: equality to the majority counts, a vector that differs is a failed attempt with cause 4 (log entry 111). -/
def Mod.shadowTick (m : Mod) : Mod :=
  if m.mstate ≠ msShadow then m
  else match m.triad.majority with
  | none => { m with triad := { m.triad with shadowRun := 0 } }
  | some v =>
    if m.k < m.triad.shadowFrom then m
    else if v = m.triad.own then { m with triad := { m.triad with shadowRun := m.triad.shadowRun + 1 } } else m.resyncFail 4

/-- VOTE_VIEW as the next message carries it (R240). -/
def Mod.voteView (m : Mod) : Nat :=
  let ex := rankMask ([1, 2, 3].filter m.excluded)
  256 * ex + 64 * m.num 0x602006 + 8 * m.triad.inMajority + m.triad.present

/-- What V end does on a MEMBER: runs and absences of every rank, and the preferred publisher. -/
def Mod.memberEnd (m : Mod) : Mod := (m.each [1, 2, 3] (fun m r => (m.countMinority r).countAbsence r)).choosePublisher

/-- Whether the tick hardware re-arms the Lace generator (R238, R256). -/
def Mod.rearms (m : Mod) : Bool := m.rank != 0 && m.mstate != msOut && m.mstate != msStandalone

/-- VOTE_VIEW kept for the next messages. -/
def Mod.keepView (m : Mod) : Mod := { m with triad := { m.triad with lastView := m.voteView } }

/-- Applying commits judged by the tick's majority, on a STANDALONE module by itself (R455, R460). -/
def Mod.judge (m : Mod) : Mod :=
  if m.mstate = msStandalone then m.judgeCommits true true 0
  else m.judgeCommits m.triad.majority.isSome (m.triad.majority == some m.triad.own) m.triad.inMajority

/-- What V end does, P(k - 1) being `c`. -/
def Mod.endVote (m : Mod) (c : Nat) : Mod :=
  (((((m.when m.inTriad Mod.countHeld).when m.isMember Mod.memberEnd).when m.rearms Mod.laceAlive).when (m.rank != 0) (fun m => m.countLines c)).holdUpdate).judge.shadowTick

/-- V_END (R250-R252, R254, R258, R260-R262): majority, runs, eligible set, preferred publisher, Lace drive and hold register; applying commits
are judged (R460). -/
def vEnd (m : Mod) : Mod :=
  if m.triad.stage ≠ 4 then m
  else Mod.endVote { m with triad := { m.triad with stage := 5 } } (m.num 0x602006)

/-- V_END. -/
def execVEnd (s : State) : Host.Outcome State Fault Refusal := .next { s with mod := s.mod.awake vEnd }

/-! ## Demotion (R251) -/

/-- Why the module itself is demoted now: 1 three ticks in the minority, 2 a member's VOTE_VIEW excludes it, 3 DETECTED_ERROR with two vectors
present and different; 0 for none. -/
def Mod.demotionCause (m : Mod) : Nat :=
  let err : Bool := match m.triad.errorAt with
    | some t => decide (m.k < t + 4800)
    | none => false
  if 3 ≤ m.num 0x602102 m.rank then 1
  else if m.memberVectors.any (fun e => bit e.2.hdr.voteView (8 + m.rank - 1)) then 2
  else if err ∧ m.triad.majority = none ∧ (maskRanks m.triad.present).length = 2 ∧ m.triad.stage ≥ 4 then 3
  else 0

/-- DEMOTION (R251): rank r reaches a limit. The module demotes itself, releasing any claim; a peer is excluded from the vote after three ticks in
the minority or 16 absences. -/
def demotion (r : Nat) (m : Mod) : Mod :=
  if !m.isMember ∨ !isLine r then m
  else if r = m.rank then
    let c := m.demotionCause
    if c = 0 then m
    else
      let m := (m.releaseClaim 5).setMstate msDemoted
      (m.raise 0x0301 [r, Config.eventField 0x0301 c, m.k]).missArmed 2
  else if 3 ≤ m.num 0x602102 r ∨ 16 ≤ m.num 0x602101 r then m.set 0x602104 1 r
  else m

/-- DEMOTION. -/
def execDemotion (r : Nat) (s : State) : Host.Outcome State Fault Refusal := .next { s with mod := s.mod.awake (demotion r) }

/-! ## Revert (R260, R265) -/

/-- REVERT_DELAY_ELAPSED (R260): at V end, the lowest eligible rank, lower than the publisher, has been eligible for REVERT_DELAY ticks: the
publisher is none, a claim is released and the hold-off starts. -/
def revertDelayElapsed (m : Mod) : Mod :=
  let c := m.num 0x602006
  match maskRanks m.triad.eligible with
  | l :: t =>
    if m.triad.stage = 5 ∧ m.isMember ∧ m.num 0x602003 = 1 ∧ c ≠ 0 ∧ (l :: t).contains c ∧ l < c ∧
        m.num 0x602004 ≤ Table.get m.triad.hold.runs 0 l then
      let m := { m with triad := { m.triad with hold := { m.triad.hold with holdoffOn := true, holdoffLeft := m.num 0x602005 } } }
      (m.set 0x602006 0).releaseClaim 1
    else m
  | [] => m

/-- REVERT_DELAY_ELAPSED. -/
def execRevertDelayElapsed (s : State) : Host.Outcome State Fault Refusal := .next { s with mod := s.mod.awake revertDelayElapsed }

/-- REVERT_HOLDOFF_END (R260, R265): at the V end that ends the hold-off, the lowest eligible rank becomes the publisher. -/
def revertHoldoffEnd (m : Mod) : Mod :=
  let h := m.triad.hold
  if !h.holdoffOn ∨ h.holdoffLeft ≠ 0 ∨ m.triad.stage ≠ 5 ∨ !m.isMember then m
  else
    let m := { m with triad := { m.triad with hold := { h with holdoffOn := false } } }
    match maskRanks m.triad.eligible with
    | l :: _ => if m.num 0x602006 = 0 then (m.set 0x602006 l).drivePublisher else m
    | [] => m

/-- REVERT_HOLDOFF_END. -/
def execRevertHoldoffEnd (s : State) : Host.Outcome State Fault Refusal := .next { s with mod := s.mod.awake revertHoldoffEnd }

/-! ## The hold limit (R263) -/

/-- The safe values of all engines' ownership entries (R169): the addresses whose safe bit is 1. -/
def Mod.safeTable (m : Mod) : Table Nat :=
  m.logic.engines.foldl (fun t e => ((liSafe e.2.inForce).filter (fun x => x.2 && isOutBit x.1)).foldl (fun t x => Table.put t x.1 1) t) []

/-- A frame of logic-owned slot u injected at port 864 (R213, R310; log entry 225). -/
def Mod.injectLogic (m : Mod) (u : Nat) (x : LogicPub) (pub now : Nat) (bound : Nat → Option Nat) : Mod :=
  m.inject (Config.logicFrame u x.bits x.stNum x.sq) pub now bound

/-- HOLD_LIMIT_REACHED (R263): the module that holds LAST_PUB turns its outputs to safe values, and its logic-owned slots are rebuilt with a
new stNum and begin a fresh schedule, on which PUB_RETRANSMIT sends them through the hold gate; event 0x0309. -/
def holdLimitReached (m : Mod) : Mod :=
  let h := m.triad.hold
  if m.num 0x602007 < m.num 0x602002 ∨ h.safe ∨ !m.triad.lastPub then m
  else
    let t := m.safeTable
    let slots := h.slots.map (fun e => (e.1, ({ bits := memberBitsOf t e.1, stNum := e.2.stNum + 1, sq := 0, chg := some m.k, fresh := true } : LogicPub)))
    let m := { m with triad := { m.triad with hold := { h with safe := true, bits := t, slots := slots } } }
    m.raise 0x0309 [m.num 0x602007, m.k]

/-- HOLD_LIMIT_REACHED. -/
def execHoldLimitReached (s : State) : Host.Outcome State Fault Refusal := .next { s with mod := s.mod.awake holdLimitReached }

end Sys2Proof.Machine
end

