-- ==== Sys2Proof/Machine/Can.lean ====
section
/-!
DEFINITION. CAN FD channels, transmit buffers, the receive FIFOs, time-triggered channels, the bridge and the tunnel (R424-R444), and what
cuts an SDO transfer short (R474).
-/
namespace Sys2Proof.Machine

/-! ## Channels, frames and records -/

/-- Channel n. -/
def Mod.canChan (m : Mod) (n : Nat) : CanChan := Table.get m.can.chans {} n
/-- A channel replaced. -/
def Mod.setCanChan (m : Mod) (n : Nat) (x : CanChan) : Mod := { m with can := { m.can with chans := Table.set m.can.chans {} n x } }
/-- The request of buffer i = 3n + b. -/
def Mod.canBuf (m : Mod) (i : Nat) : CanBuf := Table.get m.can.bufs {} i
/-- The request of a buffer replaced. -/
def Mod.setCanBuf (m : Mod) (i : Nat) (x : CanBuf) : Mod := { m with can := { m.can with bufs := Table.set m.can.bufs {} i x } }

/-- MODE of channel n (R426). -/
def Mod.canMode (m : Mod) (n : Nat) : Nat := m.num 0x5C1001 n
/-- Whether channel n is in bus-off. -/
def Mod.busOff (m : Mod) (n : Nat) : Bool := m.num 0x5C1011 n == 2
/-- Whether channel n drives its bus: ACTIVE or TIME_TRIGGERED, and not in bus-off (R424, R426). -/
def Mod.canDrives (m : Mod) (n : Nat) : Bool := (m.canMode n == 1 || m.canMode n == 3) && !m.busOff n

/-- The data length that a DLC gives (R441). -/
def dlcLen (dlc : Nat) (fdf : Bool) : Nat :=
  if dlc ≤ 8 then dlc else if fdf then [12, 16, 20, 24, 32, 48, 64].getD (dlc - 9) 64 else 8

/-- FLAGS of a frame as a record carries them (R441). -/
def canFlags (f : CanFrame) : Nat := b2n f.ide + 2 * b2n f.rtr + 4 * b2n f.fdf + 8 * b2n f.brs + 16 * b2n f.esi

/-- A frame record: CHANNEL, FLAGS, DLC, ID, STAMP and the data padded to a multiple of four octets (R441). -/
def canRecord (channel stamp : Nat) (f : CanFrame) : List Byte :=
  let l := dlcLen f.dlc f.fdf
  toBE 1 channel ++ toBE 1 (canFlags f) ++ toBE 1 f.dlc ++ [0] ++ toBE 4 f.ident ++ toBE 8 stamp ++ slice (f.data.take l) 0 ((l + 3) / 4 * 4)

/-- The frame that buffer i holds (R428). Bit 31 of ID and bit 0 of FLAGS each select a 29-bit identifier (log entry 120). -/
def Mod.bufFrame (m : Mod) (i : Nat) : CanFrame :=
  let ident := m.num 0x5C2001 i
  let flags := m.num 0x5C2002 i
  let dlc := m.num 0x5C2003 i
  let ide := bit ident 31 || bit flags 0
  { ident := ident % (if ide then 2 ^ 29 else 2 ^ 11), ide := ide, rtr := bit flags 1, fdf := bit flags 2, brs := bit flags 3, dlc := dlc,
    data := if bit flags 1 then [] else slice (m.oct 0x5C2004 i) 0 (dlcLen dlc (bit flags 2)) }

/-- What a frame contends with, smaller first: base identifier, a standard frame before an extended one, the rest of the identifier, a data
frame before a remote one (R429). -/
def canKey (f : CanFrame) : Nat :=
  if f.ide then f.ident / 2 ^ 18 * 2 ^ 20 + 2 ^ 19 + f.ident % 2 ^ 18 * 2 + b2n f.rtr else f.ident * 2 ^ 20 + b2n f.rtr

/-- The worst-case length of a classical frame in nominal bits, with 3 bits of intermission (R435). -/
def worstBits (ide : Bool) (n : Nat) : Nat :=
  if ide then 67 + 8 * n + (53 + 8 * n) / 4 + 3 else 47 + 8 * n + (33 + 8 * n) / 4 + 3

/-- A number of nominal bit times of channel n, in ns, rounded up (R427). -/
def Mod.bitTimes (m : Mod) (n bits : Nat) : Nat :=
  (bits * (1 + m.num 0x5C1003 n + m.num 0x5C1004 n) * m.num 0x5C1002 n * 25 + 1) / 2

/-! ## The transfers of the SDO server -/

/-- An SDO transfer cut short: nothing of it applies, its code is recorded, event 0x0B05, and the stage of the path is emptied (R474). -/
def Mod.sdoCut (m : Mod) : Mod :=
  match m.dic.sdo with
  | some x =>
    let m : Mod := { m with dic := { m.dic with sdo := none } }
    let m := (m.set 0x1F1005 abCutShort).raise 0x0B05 [1, x.obj / 256, abCutShort]
    m.setStage .sdo []
  | none => m

/-- The channel the SDO server runs on: a change takes effect once a transfer has ended (R465). -/
def Mod.sdoChannel (m : Mod) : Nat := match m.dic.sdo with
  | some x => x.chan
  | none => m.num 0x1F1001
/-- The node it answers as. -/
def Mod.sdoNode (m : Mod) : Nat := match m.dic.sdo with
  | some x => x.node
  | none => m.num 0x1F1002

/-! ## Buffers and contention (R428-R431, R437) -/

/-- A buffer that asks for the bus, its counts at 0: retries are counted per request (R430). -/
def Mod.askBuf (m : Mod) (i : Nat) : Mod := (m.setCanBuf i {}).set 0x5C2007 1 i

/-- Buffers of SOURCE 1 that are free take the head of the bridge queue (R428). -/
def Mod.refill (m : Mod) (n : Nat) : Mod :=
  m.each [0, 1, 2] (fun m b =>
    let i := 3 * n + b
    let st := m.num 0x5C2007 i
    if m.num 0x5C2005 i ≠ 1 ∨ st = 1 ∨ st = 2 ∨ m.busOff n then m
    else match (m.canChan n).queue with
      | f :: t =>
        let m := m.setCanChan n { m.canChan n with queue := t }
        let m := m.set 0x5C2001 (f.ident + if f.ide then 2 ^ 31 else 0) i
        let m := m.set 0x5C2002 (canFlags f % 16) i
        let m := m.set 0x5C2003 f.dlc i
        (m.setOct 0x5C2004 f.data i).askBuf i
      | [] => m)

/-- The PENDING buffer of channel n that contends next (R429). -/
def Mod.nextBuf (m : Mod) (n : Nat) : Option Nat :=
  let ps := [0, 1, 2].filter (fun b => m.num 0x5C2007 (3 * n + b) == 1)
  if m.num 0x5C100E n = 1 then ps.head?
  else ps.foldl (fun (o : Option Nat) b => match o with
    | some a => if canKey (m.bufFrame (3 * n + b)) < canKey (m.bufFrame (3 * n + a)) then some b else o
    | none => some b) none

/-- A frame begins on channel n. -/
def Mod.startCan (m : Mod) (n : Nat) (who : CanTx) (f : CanFrame) : Mod :=
  (m.setCanChan n { m.canChan n with sending := some who }).emit (.canFrame n f)

/-- An exclusive window lost: counted, event 0x0904 (R437). -/
def Mod.loseWindow (m : Mod) (n j : Nat) : Mod := (m.bump 0x5E0009 n).raise 0x0904 [n, j, m.num 0x5E0006 n, m.k]

/-- The exclusive frame that waits is given up. -/
def Mod.loseWaiting (m : Mod) (n : Nat) : Mod :=
  match (m.canChan n).excl with
  | some (j, _, _) => (m.setCanChan n { m.canChan n with excl := none }).loseWindow n j
  | none => m

/-- A transmit buffer begins, where one is PENDING and may contend: on a time-triggered channel in an arbitrating window only (R431). -/
def Mod.startBuf (m : Mod) (n now : Nat) : Mod :=
  let c := m.canChan n
  if m.canMode n = 3 ∧ !(decide (c.arb.1 ≤ m.tb now) && decide (m.tb now < c.arb.2)) then m
  else match m.nextBuf n with
    | some b => (m.set 0x5C2007 2 (3 * n + b)).startCan n (.buf b) (m.bufFrame (3 * n + b))
    | none => m

/-- The start of a frame on an idle bus: the reference message, then an exclusive frame that still fits before its window's end, then a
buffer (R429, R434, R437). -/
def Mod.contend (m : Mod) (n now : Nat) : Mod :=
  let c := m.canChan n
  if !m.canDrives n || c.sending.isSome || c.busy then m
  else match c.ref with
    | some f => (m.setCanChan n { c with ref := none }).startCan n .ref f
    | none => match c.excl with
      | some (j, f, stop) =>
        if m.tb now + m.bitTimes n (worstBits f.ide f.data.length) ≤ stop then
          (m.setCanChan n { c with excl := none }).startCan n (.excl j) f
        else (m.loseWaiting n).startBuf n now
      | none => m.startBuf n now

/-- A buffer ends with a STATUS other than SENT; at a retry limit with event 0x0903 (R430). -/
def Mod.endBuf (m : Mod) (i st : Nat) : Mod :=
  let m := m.set 0x5C2007 st i
  if st = 4 ∨ st = 5 then m.raise 0x0903 [i, st] else m

/-! ## Error states (R424) -/

/-- ERR_STATE after a change of the error counts: passive above 127, with event 0x0901 on entering it (ISO 11898-1; log entry 121). -/
def Mod.errState (m : Mod) (n : Nat) : Mod :=
  let passive := decide (127 < m.num 0x5C1013 n ∨ 127 < m.num 0x5C1014 n)
  if m.busOff n then m
  else if passive && m.num 0x5C1011 n == 0 then (m.set 0x5C1011 1 n).raise 0x0901 [n, m.num 0x5C1013 n, m.num 0x5C1014 n]
  else if passive then m else m.set 0x5C1011 0 n

/-- CAN_BUS_OFF: every buffer that waits or is being sent is aborted with STATUS 7, event 0x0900 (R424, R430), and an SDO transfer on the
channel is cut short (R474). -/
def Mod.enterBusOff (m : Mod) (n : Nat) : Mod :=
  let m := ((m.set 0x5C1011 2 n).bump 0x5C1017 n).raise 0x0900 [n, m.num 0x5C1013 n, m.k]
  let m := m.each [0, 1, 2] (fun m b =>
    let i := 3 * n + b
    if m.num 0x5C2007 i = 1 ∨ m.num 0x5C2007 i = 2 then m.set 0x5C2007 7 i else m)
  let m := (m.setCanChan n { m.canChan n with sending := none, ref := none }).loseWaiting n
  if m.sdoChannel = n then m.sdoCut else m

/-- A channel leaves bus-off: counts 0, error active, event 0x0902 (R424, R444). -/
def Mod.leaveBusOff (m : Mod) (n : Nat) : Mod :=
  ((((m.set 0x5C1011 0 n).set 0x5C1013 0 n).set 0x5C1014 0 n).raise 0x0902 [n, m.k]).refill n

/-- BUSOFF_AUTO_RECOVERY (R424): 128 occurrences of 11 recessive bits have passed on a channel in bus-off with BUSOFF_RECOVER 1. -/
def busoffAutoRecovery (n now : Nat) (m : Mod) : Mod :=
  if 191 < n ∨ !m.busOff n ∨ !m.on 0x5C100C n then m else (m.leaveBusOff n).contend n now

/-- BUSOFF_AUTO_RECOVERY. -/
def execBusoffAutoRecovery (n now : Nat) (s : State) : Host.Outcome State Fault Refusal :=
  .next { s with mod := s.mod.awake (busoffAutoRecovery n now) }

/-- CAN_RECOVER (R424): with BUSOFF_RECOVER 0 a channel in bus-off recovers when software writes 1 to RECOVER (log entry 122). -/
def canRecover (path : Path) (n v now : Nat) (m : Mod) : Mod :=
  if 191 < n then m.report path abSelector
  else if v ≠ 1 then m.report path abValue
  else m.served path (fun m => if m.busOff n && !m.on 0x5C100C n then (m.leaveBusOff n).contend n now else m)

/-- CAN_RECOVER. -/
def execCanRecover (path : Path) (n v now : Nat) (s : State) : Host.Outcome State Fault Refusal :=
  .next { s with mod := s.mod.gate path (fun (m : Mod) => canRecover path n v now m) }

/-! ## What software writes -/

/-- CAN_MODE_WRITE (R426): through OFF, waiting buffers are aborted with STATUS 8, the FIFO and the bridge queue emptied, the error counts
cleared; an SDO transfer on the channel is cut short (R474). -/
def canModeWrite (path : Path) (n v : Nat) (m : Mod) : Mod :=
  if 191 < n then m.report path abSelector
  else if 3 < v ∨ (v = 3 ∧ 7 < n) then m.report path abValue
  else m.served path (fun m =>
    let m := m.each [0, 1, 2] (fun m b =>
      let i := 3 * n + b
      if m.num 0x5C2007 i = 1 ∨ m.num 0x5C2007 i = 2 then m.set 0x5C2007 8 i else m)
    let m := (((m.set 0x5C1011 0 n).set 0x5C1013 0 n).set 0x5C1014 0 n).setCanChan n {}
    let m := (m.setOct 0x5C3001 [] n).set 0x5C3002 0 n
    let m := if m.sdoChannel = n then m.sdoCut else m
    m.set 0x5C1001 v n)

/-- CAN_MODE_WRITE. -/
def execCanModeWrite (path : Path) (n v : Nat) (s : State) : Host.Outcome State Fault Refusal :=
  .next { s with mod := s.mod.gate path (fun (m : Mod) => canModeWrite path n v m) }

/-- CAN_TX_REQUEST (R428): REQUEST makes a buffer of SOURCE 0 PENDING; `idle` says whether the bus carries no frame of another node. -/
def canTxRequest (path : Path) (i now : Nat) (idle : Bool) (m : Mod) : Mod :=
  if 575 < i then m.report path abSelector
  else m.served path (fun m =>
    let n := i / 3
    let m := m.setCanChan n { m.canChan n with busy := !idle && (m.canChan n).sending.isNone }
    let st := m.num 0x5C2007 i
    if m.num 0x5C2005 i ≠ 0 ∨ st = 1 ∨ st = 2 then m else (m.askBuf i).contend n now)

/-- CAN_TX_REQUEST. -/
def execCanTxRequest (path : Path) (i now : Nat) (idle : Bool) (s : State) : Host.Outcome State Fault Refusal :=
  .next { s with mod := s.mod.gate path (fun (m : Mod) => canTxRequest path i now idle m) }

/-- CAN_TX_ABORT (R430): a PENDING buffer is aborted at once with STATUS 6; one being sent runs to the end of its frame. -/
def canTxAbort (path : Path) (i : Nat) (m : Mod) : Mod :=
  if 575 < i then m.report path abSelector
  else m.served path (fun m =>
    let st := m.num 0x5C2007 i
    if st = 1 then (m.endBuf i 6).refill (i / 3)
    else if st = 2 then m.setCanBuf i { m.canBuf i with abort := true }
    else m)

/-- CAN_TX_ABORT. -/
def execCanTxAbort (path : Path) (i : Nat) (s : State) : Host.Outcome State Fault Refusal :=
  .next { s with mod := s.mod.gate path (fun (m : Mod) => canTxAbort path i m) }

/-- RX_NEXT and RX_COUNT follow the FIFO (R443). -/
def Mod.fifoSync (m : Mod) (n : Nat) : Mod :=
  let q := (m.canChan n).fifo
  (m.setOct 0x5C3001 (q.headD []) n).set 0x5C3002 q.length n

/-- CAN_FIFO_READ (R432): a read of RX_NEXT returns and removes the oldest record. -/
def canFifoRead (path : Path) (n : Nat) (m : Mod) : Mod :=
  if 191 < n then (m.report path abSelector).emit (.abort abSelector)
  else
    let c := m.canChan n
    let m := m.emit (.data (c.fifo.headD []))
    let rest := c.fifo.drop 1
    ((m.setCanChan n { c with fifo := rest, overrun := c.overrun && !rest.isEmpty }).fifoSync n).report path 0

/-- CAN_FIFO_READ. -/
def execCanFifoRead (path : Path) (n : Nat) (s : State) : Host.Outcome State Fault Refusal :=
  .next { s with mod := s.mod.access path (fun (m : Mod) => canFifoRead path n m) }

/-! ## The bridge (R439-R442) -/

/-- The tunnel's batch is sent: a frame at port 865 with every record in order (R441, R442). -/
def Mod.sendTunnel (m : Mod) (now : Nat) : Mod :=
  if m.can.batch.isEmpty then m
  else
    let vlan := m.num 0x5C0003 % 4096
    let tag := if vlan = 0 then [] else toBE 2 0x8100 ++ toBE 2 (m.num 0x5C0004 * 2 ^ 13 + vlan)
    let f := m.oct 0x5C0002 ++ m.oct 0x380009 ++ tag ++ toBE 2 0x88B5 ++ toBE 1 1 ++ toBE 1 m.can.batch.length ++ toBE 2 m.can.seq ++
      toBE 2 m.moduleId ++ [0, 0] ++ m.can.batch.flatten
    let m : Mod := { m with can := { m.can with batch := [], seq := (m.can.seq + 1) % 65536 } }
    switchClassify { port := 865, bytes := f, ts := now } (m.bump 0x5C0007)

/-- TUNNEL_WAIT_EXPIRY (R442). -/
def tunnelWaitExpiry (now : Nat) (m : Mod) : Mod := m.sendTunnel now

/-- TUNNEL_WAIT_EXPIRY. -/
def execTunnelWaitExpiry (now : Nat) (s : State) : Host.Outcome State Fault Refusal := .next { s with mod := s.mod.awake (tunnelWaitExpiry now) }

/-- Whether route entry x matches a frame of a source (R439). -/
def Mod.routeMatches (m : Mod) (src : Nat) (f : CanFrame) (x : Nat) : Bool :=
  let mask := m.num 0x5D0003 x % 2 ^ 29
  bit (m.num 0x5D0004 x) 31 && m.num 0x5D0001 x == src && (f.ident &&& mask) == (m.num 0x5D0002 x &&& mask) &&
    f.ide == bit (m.num 0x5D0002 x) 31

/-- The copy that route entry x makes: REPL_MASK selects the bits of its identifier that NEW_ID gives (R439). -/
def Mod.routeCopy (m : Mod) (f : CanFrame) (x : Nat) : CanFrame :=
  let w := if f.ide then 29 else 11
  let r := m.num 0x5D0007 x % 2 ^ w
  { f with ident := (f.ident &&& (2 ^ w - 1 - r)) ||| (m.num 0x5D0006 x &&& r) }

/-- A copy to a CAN channel: it joins the bridge queue of 32 frames or is dropped and counted (R440). -/
def Mod.toChannel (m : Mod) (t now : Nat) (f : CanFrame) : Mod :=
  let c := m.canChan t
  if (m.canMode t ≠ 1 ∧ m.canMode t ≠ 3) ∨ 32 ≤ c.queue.length then m.bump 0x5C3004 t
  else ((m.setCanChan t { c with queue := c.queue ++ [f] }).refill t).contend t now

/-- A copy to a tenant's mailbox: the record in the first free inbound slot, TAG 0xC1, naming GEN (R440, R219-R221). -/
def Mod.toMailbox (m : Mod) (x t gen : Nat) (rec' : List Byte) : Mod :=
  match (List.range 16).find? (fun i => !bit (m.tenant t).mbIn i) with
  | none => m.bump 0x5D0005 x
  | some i =>
    if m.tnState t = tnEmpty ∨ gen ≠ m.num 0x510002 t then mbPost t i gen m
    else
      let a := mbAt t true i
      mbPost t i gen (((m.poke a (toLE 4 (0xC1 + 256 * rec'.length))).poke (a + 4) [0, 0, 0, 0]).poke (a + 16) rec')

/-- The effect of one matching entry: its copy goes to its egress (R440). A frame from the tunnel never leaves through it (R439). -/
def Mod.routeOne (m : Mod) (src channel stamp now x : Nat) (f : CanFrame) : Mod :=
  let e := m.num 0x5D0004 x
  let g := m.routeCopy f x
  let t := e % 256
  let m := m.bump 0x5D0008 x
  match bitsOf e 30 28 with
  | 1 => m.toChannel t now g
  | 2 => m.toMailbox x t (bitsOf e 15 8) (canRecord channel stamp g)
  | 3 =>
    if 0x100 ≤ src then m
    else
      let m : Mod := { m with can := { m.can with batch := m.can.batch ++ [canRecord t stamp g] } }
      if m.num 0x5C0005 ≤ m.can.batch.length then m.sendTunnel now else m
  | _ => m

/-- The route entries that match a frame, in ascending order. -/
def Mod.routesFor (m : Mod) (src : Nat) (f : CanFrame) : List Nat := (m.instancesOn 0x5D0004).filter (m.routeMatches src f)

/-- BRIDGE_ROUTE (R439): each of the first eight matching entries makes one copy, and later matches are counted. -/
def Mod.bridge (m : Mod) (src channel stamp now : Nat) (f : CanFrame) : Mod :=
  let xs := m.routesFor src f
  let m := if xs.length ≤ 8 then m else m.bump 0x5C000C 0 (xs.length - 8)
  m.each (xs.take 8) (fun m x => m.routeOne src channel stamp now x f)

/-- The records of a tunnel frame, or why it is discarded: 3 they overrun it, 4 a CHANNEL above 191, 5 a DLC that its FDF does not allow
(R442; the numbers are log entry 123). -/
def tunnelRecords : Nat → List Byte → Except Nat (List (Nat × Nat × CanFrame))
  | 0, _ => .ok []
  | n + 1, b =>
    let flags := field b 1 1
    let dlc := field b 2 1
    let l := dlcLen dlc (bit flags 2)
    let size := 16 + (l + 3) / 4 * 4
    if b.length < 16 then .error 3
    else if 191 < field b 0 1 then .error 4
    else if 15 < dlc ∨ (8 < dlc ∧ !bit flags 2) then .error 5
    else if b.length < size then .error 3
    else match tunnelRecords n (b.drop size) with
      | .error e => .error e
      | .ok rs => .ok ((field b 0 1, beNat (slice b 8 8),
          { ident := beNat (slice b 4 4) % 2 ^ 29, ide := bit flags 0, rtr := bit flags 1, fdf := bit flags 2, brs := bit flags 3,
            esi := bit flags 4, dlc := dlc, data := slice b 16 l }) :: rs)

/-- A tunnel frame's header and records (R441, R442): 1 VERSION is wrong, 2 N_REC is 0. -/
def tunnelParse (b : List Byte) : Except Nat (List (Nat × Nat × CanFrame)) :=
  if field b 0 1 ≠ 1 then .error 1 else if field b 1 1 = 0 then .error 2 else tunnelRecords (field b 1 1) (b.drop 8)

/-- TUNNEL_FRAME_RX (R442): a frame at port 865, as octets from the destination address on. A malformed one is discarded whole, counted
and reported; a gap in SEQ is counted; each record is offered to the entries of its source. -/
def tunnelFrameRx (bytes : List Byte) (now : Nat) (m : Mod) : Mod :=
  let b := bytes.drop (if hasTag 0x8100 bytes then 18 else 14)
  match tunnelParse b with
  | .error e => (m.bump 0x5C0009).raise 0x0906 [beNat (slice bytes 6 6), Config.eventField 0x0906 e]
  | .ok rs =>
    let seq := beNat (slice b 2 2)
    let node := beNat (slice b 4 2)
    let last := Table.get m.can.seen 0 node
    let m := if last ≠ 0 ∧ last % 65536 ≠ seq then m.bump 0x5C000A else m
    let m : Mod := { m with can := { m.can with seen := Table.set m.can.seen 0 node (seq + 1) } }
    (m.bump 0x5C0008).each rs (fun m r => m.bridge (0x100 + r.1) r.1 r.2.1 now r.2.2)

/-- TUNNEL_FRAME_RX. -/
def execTunnelFrameRx (bytes : List Byte) (now : Nat) (s : State) : Host.Outcome State Fault Refusal :=
  .next { s with mod := s.mod.awake (tunnelFrameRx bytes now) }

/-! ## Reception (R432) -/

/-- Whether an enabled CAN station matches a frame (R179). -/
def Mod.stationMatches (m : Mod) (n : Nat) (f : CanFrame) : Bool :=
  m.stationsOn.any (fun r => decide (1024 ≤ r) && m.num 0x5A0007 r == n && m.num 0x5A0008 r == f.ident + if f.ide then 2 ^ 31 else 0)

/-- The receive FIFO takes a record; one that finds it full is discarded, counted, and the first since it was empty raises event 0x0905. -/
def Mod.fifoPut (m : Mod) (n : Nat) (rec' : List Byte) : Mod :=
  let c := m.canChan n
  if 32 ≤ c.fifo.length then
    let m := m.bump 0x5C3003 n
    if c.overrun then m else (m.setCanChan n { c with overrun := true }).raise 0x0905 [n, m.k]
  else (m.setCanChan n { c with fifo := c.fifo ++ [rec'] }).fifoSync n

/-- Whether the SDO server consumes a frame (R465). -/
def Mod.sdoConsumes (m : Mod) (n : Nat) (f : CanFrame) : Bool :=
  m.sdoChannel == n && (m.canMode n == 1 || m.canMode n == 3) && !f.ide && (f.ident == 0 || f.ident == 0x600 + m.sdoNode)

/-- Whether a frame is a reference message of time-triggered channel n (R434). -/
def Mod.isRef (m : Mod) (n : Nat) (f : CanFrame) : Bool :=
  let base := m.num 0x5E0003 n
  m.canMode n == 3 && !f.fdf && f.ide == bit base 31 && f.ident / 8 == base % 2 ^ 29 / 8

/-- A good frame lowers the receive error count; above 127 it becomes a value from 119 to 127 that is left open (ISO 11898-1; log entry 121). -/
def Mod.rxCountDown (m : Mod) (n : Nat) : Mod :=
  let r := m.num 0x5C1014 n
  if m.canMode n = 2 ∨ r = 0 then m
  else if r ≤ 127 then (m.set 0x5C1014 (r - 1) n).errState n
  else
    let (v, m) := m.draw 8
    (m.set 0x5C1014 (119 + v % 9) n).errState n

/-- The channel's own reference message after a frame of another node (R434): dropped, and counted where what displaced it is none. -/
def Mod.dropRef (m : Mod) (n : Nat) (isRef : Bool) : Mod :=
  let c := m.canChan n
  let had := c.refLost || c.ref.isSome
  let m := m.setCanChan n { c with refLost := false, ref := none }
  if had && !isRef then m.bump 0x5E000B n else m

/-- The places a frame is offered to: the stations, the bridge, and the FIFO as RX_FIFO_MODE says (R432). -/
def Mod.offerFrame (m : Mod) (n : Nat) (f : CanFrame) (sof now : Nat) : Mod :=
  let known := m.stationMatches n f || !(m.routesFor n f).isEmpty
  let mode := m.num 0x5C1012 n
  let m := canStations n f.ident f.ide f.data m
  let m := m.bridge n n (m.tb sof) now f
  if mode = 1 ∨ (mode = 0 ∧ !known) then m.fifoPut n (canRecord n (m.tb sof) f) else m

/-- CAN_FRAME_RX (R432): a frame of another node ends without error on a channel that receives; it is acknowledged, counted, offered to the
stations, the bridge and the FIFO, or consumed by the SDO server. `sof` and `now` are the oscillator's counts at its start and its end. -/
def canFrameRx (n : Nat) (f : CanFrame) (sof now : Nat) (m : Mod) : Mod :=
  if 191 < n ∨ m.canMode n = 0 ∨ m.busOff n then m
  else
    let m := if m.canDrives n then m.emit (.canAck n) else m
    let m := ((m.setCanChan n { m.canChan n with busy := false }).bump 0x5C1015 n).rxCountDown n
    let m := m.dropRef n (m.isRef n f)
    let m := if m.sdoConsumes n f then m else m.offerFrame n f sof now
    m.contend n now

/-- CAN_FRAME_RX. -/
def execCanFrameRx (n : Nat) (f : CanFrame) (sof now : Nat) (s : State) : Host.Outcome State Fault Refusal :=
  .next { s with mod := s.mod.awake (canFrameRx n f sof now) }

/-- CAN_RX_ERROR (R424): an error while the channel is not transmitting raises its receive error count by 1, or by 8 where ISO 11898-1 says
so, and an error flag is sent; a LISTEN_ONLY channel does neither (R426). -/
def canRxError (n : Nat) (by8 : Bool) (now : Nat) (m : Mod) : Mod :=
  if 191 < n ∨ m.canMode n = 0 ∨ m.busOff n ∨ (m.canChan n).sending.isSome then m
  else
    let m := m.setCanChan n { m.canChan n with busy := false, refLost := false }
    if m.canMode n = 2 then m
    else ((((m.bump 0x5C1014 n (if by8 then 8 else 1)).errState n).emit (.canError n))).contend n now

/-- CAN_RX_ERROR. -/
def execCanRxError (n : Nat) (by8 : Bool) (now : Nat) (s : State) : Host.Outcome State Fault Refusal :=
  .next { s with mod := s.mod.awake (canRxError n by8 now) }

/-! ## The end of a frame sent (R430, R434, R437) -/

/-- CAN_TX_SUCCESS (R430): the frame under way completes. A buffer reads SENT or takes the next bridge frame. -/
def canTxSuccess (n now : Nat) (m : Mod) : Mod :=
  match (m.canChan n).sending with
  | none => m
  | some who =>
    let m := (m.setCanChan n { m.canChan n with sending := none }).bump 0x5C1016 n
    let m := (m.set 0x5C1013 (m.num 0x5C1013 n - 1) n).errState n
    let m := match who with
      | .buf b => (m.set 0x5C2007 3 (3 * n + b)).refill n
      | .ref => m.bump 0x5E0007 n
      | .excl _ => m.bump 0x5E0008 n
    m.contend n now

/-- CAN_TX_SUCCESS. -/
def execCanTxSuccess (n now : Nat) (s : State) : Host.Outcome State Fault Refusal := .next { s with mod := s.mod.awake (canTxSuccess n now) }

/-- Where a buffer stands after a loss or an error: aborted by software, at its limit, or PENDING again. -/
def Mod.retryBuf (m : Mod) (n i : Nat) (past : Bool) (st : Nat) : Mod :=
  if (m.canBuf i).abort then (m.endBuf i 6).refill n
  else if past then (m.endBuf i st).refill n
  else m.set 0x5C2007 1 i

/-- CAN_ARB_LOSS (R430): the frame under way loses arbitration; a buffer counts it against ARB_RETRY, a reference message is dropped
(R434), and an exclusive window is lost (R437). -/
def canArbLoss (n : Nat) (m : Mod) : Mod :=
  let c := m.canChan n
  match c.sending with
  | none => m
  | some who =>
    let m := m.setCanChan n { c with sending := none, busy := true, refLost := who == .ref }
    match who with
    | .buf b =>
      let i := 3 * n + b
      let x := m.canBuf i
      let m := m.setCanBuf i { x with losses := x.losses + 1 }
      let lim := m.num 0x5C100F n
      m.retryBuf n i (lim != 0 && decide (lim ≤ x.losses + 1)) 4
    | .ref => m
    | .excl j => m.loseWindow n j

/-- CAN_ARB_LOSS. -/
def execCanArbLoss (n : Nat) (s : State) : Host.Outcome State Fault Refusal := .next { s with mod := s.mod.awake (canArbLoss n) }

/-- CAN_TX_ERROR (R424, R430): an error while the channel's frame is under way. Where ISO 11898-1 raises the transmit error count (`counts`)
it rises by 8, and above 255 the channel goes bus-off. A buffer counts the error against ERR_RETRY; a reference message is not sent again. -/
def canTxError (n : Nat) (counts : Bool) (now : Nat) (m : Mod) : Mod :=
  let c := m.canChan n
  match c.sending with
  | none => m
  | some who =>
    let m := (m.setCanChan n { c with sending := none }).emit (.canError n)
    let m := match who with
      | .buf b =>
        let i := 3 * n + b
        let x := m.canBuf i
        let m := m.setCanBuf i { x with errors := x.errors + 1 }
        m.retryBuf n i (decide (m.num 0x5C1010 n < x.errors + 1)) 5
      | .ref => m
      | .excl j => m.loseWindow n j
    let tec := m.num 0x5C1013 n + if counts then 8 else 0
    let m := m.set 0x5C1013 (min tec 255) n
    if 255 < tec then m.enterBusOff n else (m.errState n).contend n now

/-- CAN_TX_ERROR. -/
def execCanTxError (n : Nat) (counts : Bool) (now : Nat) (s : State) : Host.Outcome State Fault Refusal :=
  .next { s with mod := s.mod.awake (canTxError n counts now) }

/-! ## Time-triggered channels (R433-R438) -/

/-- The settings of channel n's matrix as the objects hold them. -/
def Mod.ttSettings (m : Mod) (n : Nat) : TtRun :=
  { cycleTicks := m.num 0x5E0001 n, cycles := m.num 0x5E0002 n, columns := m.oct 0x5E0004 n, matrix := m.oct 0x5E0005 n }

/-- The reference message of R434. -/
def Mod.refFrame (m : Mod) (n count : Nat) : CanFrame :=
  let base := m.num 0x5E0003 n
  { ident := base % 2 ^ 29 + (m.rank - 1), ide := bit base 31, dlc := 1, data := [BitVec.ofNat 8 (count % 64)] }

/-- START, LENGTH and TYPE of column j (R435). -/
def columnOf (cols : List Byte) (j : Nat) : Nat × Nat × Nat := (field cols (12 * j) 4, field cols (12 * j + 4) 4, field cols (12 * j + 8) 1)

/-- TT_CYCLE_START (R433, R434, R438): at P start of a tick with k mod CYCLE_TICKS = 0 a basic cycle starts; settings committed since take
effect, publish entries for columns that are not exclusive are counted (R437; log entry 231), and a MEMBER or a standalone module sends the reference message. -/
def ttCycleStart (n now : Nat) (m : Mod) : Mod :=
  let ct := match (m.canChan n).run with
    | some r => r.cycleTicks
    | none => m.num 0x5E0001 n
  if 7 < n ∨ m.canMode n ≠ 3 ∨ !m.inPhase .P ∨ m.k % ct ≠ 0 then m
  else
    let m := m.loseWaiting n
    let r := m.ttSettings n
    let count := m.k / r.cycleTicks % r.cycles
    let m := m.setCanChan n { m.canChan n with run := some r, cycleAt := m.tb now, arb := (0, 0), ref := none, refLost := false }
    let m := (m.set 0x5E0006 count n).bump 0x5E000A n (m.triad.armedCan.filter (fun o => o / 256 == n && (columnOf r.columns (o % 256)).2.2 != 1)).length
    if (m.isMember ∨ m.mstate = msStandalone) ∧ !m.busOff n then
      (m.setCanChan n { m.canChan n with ref := some (m.refFrame n count) }).contend n now
    else m

/-- TT_CYCLE_START. -/
def execTtCycleStart (n now : Nat) (s : State) : Host.Outcome State Fault Refusal := .next { s with mod := s.mod.awake (ttCycleStart n now) }

/-- The matrix entry of basic cycle b and column j (R435). -/
def matrixAt (mx : List Byte) (b j : Nat) : Nat := field mx (2 * (32 * b + j)) 2

/-- CAN output message q with the given voted bits (R436). -/
def Mod.outMessage (m : Mod) (q : Nat) (bits : Table Nat) : CanFrame :=
  let ident := m.num 0x5E4001 q
  let len := m.num 0x5E4002 q
  { ident := ident % (if bit ident 31 then 2 ^ 29 else 2 ^ 11), ide := bit ident 31, dlc := len,
    data := (List.range len).map (fun b =>
      BitVec.ofNat 8 ((List.range 8).foldl (fun v i => v + Table.get bits 0 (0x38000 + 64 * q + 8 * b + i) * 2 ^ i) 0)) }

/-- What an exclusive window sends in the present tick: the voted bits through the publish gate, or after the hold limit the safe bits
through the hold gate; nothing in a held tick (R437). -/
def Mod.windowBits (m : Mod) : Option (Table Nat) :=
  if m.triad.armed then (if m.gateOpen then some m.triad.armedBits else none)
  else if m.triad.hold.safe && m.holdGate then some m.triad.hold.bits else none

/-- The frame of an exclusive window: where the bus is idle it begins, otherwise it waits; in bus-off the window is lost (R437, R438). -/
def Mod.openExclusive (m : Mod) (n j stop now : Nat) (f : CanFrame) : Mod :=
  if m.busOff n then m.loseWindow n j
  else (m.setCanChan n { m.canChan n with excl := some (j, f, stop) }).contend n now

/-- TT_WINDOW_START (R431, R437): the window of column j starts. An exclusive one sends the message its matrix entry names where the Last
in force at P start holds its publish entry (R438); an arbitrating one lets the buffers contend. -/
def ttWindowStart (n j now : Nat) (m : Mod) : Mod :=
  match (m.canChan n).run with
  | none => m
  | some r =>
    if 7 < n ∨ 31 < j ∨ m.canMode n ≠ 3 then m
    else
      let m := m.loseWaiting n
      let (start, len, type) := columnOf r.columns j
      let at' := (m.canChan n).cycleAt + start
      let named := m.triad.armedCan.contains (256 * n + j)
      let e := matrixAt r.matrix (m.num 0x5E0006 n) j
      if type = 2 then (m.setCanChan n { m.canChan n with arb := (at', at' + len) }).contend n now
      else if type = 1 ∧ named ∧ bit e 15 then
        match m.windowBits with
        | some bits => m.openExclusive n j (at' + len) now (m.outMessage (e % 512) bits)
        | none => m
      else m

/-- TT_WINDOW_START. -/
def execTtWindowStart (n j now : Nat) (s : State) : Host.Outcome State Fault Refusal := .next { s with mod := s.mod.awake (ttWindowStart n j now) }

/-- Whether the settings of time-triggered channel n break a rule of R433 to R435, for which a commit is refused. -/
def Mod.ttBad (m : Mod) (n : Nat) : Bool :=
  let r := m.ttSettings n
  let cols := ((List.range 32).map (fun j => (j, columnOf r.columns j))).filter (fun c => c.2.2.2 != 0)
  let messages := fun (j : Nat) => ((List.range r.cycles).map (fun b => matrixAt r.matrix b j)).filter (fun e => bit e 15)
  let overlap := cols.any (fun a => cols.any (fun b => a.1 < b.1 && a.2.1 < b.2.1 + b.2.2.1 && b.2.1 < a.2.1 + a.2.2.1))
  let late := cols.any (fun c => decide (r.cycleTicks * 1000000000 < (c.2.1 + c.2.2.1) * m.hz))
  let early := cols.any (fun c => c.2.2.2 != 3 && decide (c.2.1 < m.bitTimes n 68))
  let short := cols.any (fun c => c.2.2.2 == 1 && (messages c.1).any (fun e =>
    decide (c.2.2.1 < m.bitTimes n (worstBits (bit (m.num 0x5E4001 (e % 512)) 31) (m.num 0x5E4002 (e % 512))))))
  let stray := (List.range 32).any (fun j => (columnOf r.columns j).2.2 != 1 && !(messages j).isEmpty)
  overlap || late || early || short || stray || decide (m.num 0x5E0003 n % 8 ≠ 0)

end Sys2Proof.Machine
end

