-- ==== Sys2Proof/Machine/Clicker.lean ====
section
/-!
DEFINITION. The Clicker's commands: the rows of a tick, mask tests, triggers from lines, links and software, and the drain (R402-R419).
-/
namespace Sys2Proof.Machine

/-! ## Skew correction (R403) -/

/-- The value nearest a finite binary64 pattern, ties to even. -/
def nearest64 (a : Nat) : Int :=
  let e := b64.expo a
  if 0 ≤ e then b64.int a * 2 ^ e.toNat
  else
    let d : Nat := 2 ^ (-e).toNat
    let n := b64.sig a
    let q := n / d
    let r := n % d
    let v : Nat := if d < 2 * r then q + 1 else if 2 * r = d then q + q % 2 else q
    if b64.neg a then -(v : Int) else v

/-- The interpolation of R403 over u(b - 1) to u(b + 2) at mu = frac / 256, in binary64 with the weights of R101, rounded and saturated to INT32. -/
def interpolate (frac : Nat) (u : Nat → Int) : Nat :=
  let one := 0x3FF0000000000000
  let two := 0x4000000000000000
  let six := 0x4018000000000000
  let mu := b64.ofScaled frac (-8)
  let m1 := b64.sub mu one
  let m2 := b64.sub mu two
  let p1 := b64.add mu one
  let w := [b64.div (b64.mul (b64.mul (b64.negate mu) m1) m2) six, b64.div (b64.mul (b64.mul p1 m1) m2) two,
    b64.div (b64.mul (b64.mul (b64.negate p1) mu) m2) two, b64.div (b64.mul (b64.mul p1 mu) m1) six]
  let t := fun (i : Nat) => b64.mul (w.getD i 0) (b64.ofScaled (u i) 0)
  ofInt 32 (satInt 32 (nearest64 (b64.add (b64.add (b64.add (t 0) (t 1)) (t 2)) (t 3))))

/-- Value and flag byte of channel c at a count `pos` from sub-sample 0 of filing tick kf, at `per` counts per tick; MISSING where the ticks
captured do not hold it. -/
def Mod.capRaw (m : Mod) (per c kf : Nat) (pos : Int) : Nat × Nat :=
  let t := (kf : Int) + pos / per
  match m.click.hist.find? (fun (e : CapTick) => (e.kf : Int) = t) with
  | some e => (Table.get e.raw {} c).subs.getD (pos % per).toNat (0, 0x40)
  | none => (0, 0x40)

/-- A raw signal in the row of sub-sample i (R403): its value, its flag byte, and whether its inputs straddle a step. -/
def Mod.rawSignal (m : Mod) (per kf i : Nat) (d : ClickSig) : Nat × Nat × Bool :=
  let own := m.capRaw per d.c kf i
  if d.skew = 0 then (own.1, own.2, false)
  else
    let b : Int := i + d.skew / 256
    let at' := fun (j : Nat) => m.capRaw per d.c kf (b - 1 + j)
    let tick := fun (p : Int) => (kf : Int) + p / per
    if m.click.steps.any (fun e => decide (tick (b - 1) < e.1 ∧ (e.1 : Int) ≤ tick (b + 2))) then (own.1, own.2, true)
    else (interpolate (d.skew % 256).toNat (fun j => toInt 32 (at' j).1), (List.range 4).foldl (fun a j => a ||| (at' j).2) 0, false)

/-! ## Rows (R402, R404, R411) -/

/-- What one analogue signal gives in a row: value, flag byte, straddle, MASK_NA, the descriptor with its run, and a violation declared. -/
structure SigOut where
  value : Nat := 0
  flags : Nat := 0
  straddle : Bool := false
  na : Bool := false
  d : ClickSig := {}
  viol : Bool := false
deriving DecidableEq, Repr

/-- One analogue signal of the row of sub-sample i, with the mask test of R411. -/
def Mod.signal (m : Mod) (per i : Nat) (c : CapTick) (d : ClickSig) : SigOut :=
  if d.kind ≠ 1 then
    let v := Table.get c.filt (0, 0) d.c
    { value := v.1, flags := v.2, d := d }
  else
    let (v, fl, st) := m.rawSignal per c.kf i d
    let o : SigOut := { value := v, flags := fl, straddle := st, d := d }
    if d.mask = 0xFF then o
    else
      let (psi, delta, locked) := Table.get c.groups (0, 0, false) (m.num 0x4C5001 d.mask)
      if !locked then { o with na := true, d := { d with run := 0 } }
      else if flagBad fl then { o with d := { d with run := 0 } }
      else
        let idx := ((((psi : Int) + Int.tdiv (i * delta) 3) / 2 ^ 40 + m.num 0x4C5002 d.mask) % 256).toNat
        let lim := fun (ob : Nat) => toInt 32 (field (m.oct ob d.mask) (4 * idx) 4)
        let x := toInt 32 v
        let out := decide (lim 0x4C5003 < x ∨ x < lim 0x4C5004)
        let run := if out then d.run + 1 else 0
        { o with d := { d with run := run }, viol := out && run == m.num 0x4C5005 d.mask }

/-- The octets of a row (R404). -/
def rowOctets (kf smp sub rflags : Nat) (sigs : List SigOut) (bits : List Bool) : List Byte :=
  let fl := sigs.map (fun o => BitVec.ofNat 8 o.flags)
  let word := fun (w : Nat) => (List.range 32).foldl (fun n i => n + b2n (bits.getD (32 * w + i) false) * 2 ^ i) 0
  toLE 4 (kf % 2 ^ 32) ++ toLE 2 smp ++ toLE 1 sub ++ toLE 1 rflags ++ sigs.flatMap (fun o => toLE 4 o.value) ++
    fl ++ List.replicate ((4 - fl.length % 4) % 4) 0 ++ (List.range ((bits.length + 31) / 32)).flatMap (fun w => toLE 4 (word w))

/-- The oldest row of a slot leaves the ring of a continuous record, counting on in TQ_WORST and SLEW. -/
def ClickSlot.leave (s : ClickSlot) (cap : Nat) : ClickSlot :=
  match s.rows with
  | [] => s
  | r :: t =>
    { s with
      rows := t
      first := (s.first + 1) % max 1 cap
      gone := s.gone + 1
      firstRow := if s.gone = 0 then r else s.firstRow
      tqOr := s.tqOr ||| (r.tq / 32 % 4)
      tqMax := max s.tqMax (r.tq % 32)
      tqAnd := s.tqAnd && bit r.tq 7
      slew := s.slew || r.slew }

/-- Whether the oldest row of slot x has been drained (R413, R418). -/
def ClickSlot.oldestSent (s : ClickSlot) : Bool := decide (s.ring + (s.gone + 1) * s.rowLen ≤ s.sent)

/-- The row of sub-sample i of a captured tick written for slot x, with mask violations, KIND 5 triggers, the trigger row and the record's end. -/
def Mod.writeRow (m : Mod) (now x : Nat) (c : CapTick) (i : Nat) : Mod :=
  let st := m.ckState x
  let cap := m.ckCap x
  let s := m.ck x
  if st ≠ ckArmed ∧ st ≠ ckTriggered then m
  else if st = ckTriggered ∧ s.rows.length = cap ∧ !(m.ckMode x 0 && s.oldestSent) then m.ckOverflow x 2
  else
    let s := if st = ckTriggered ∧ s.rows.length = cap then s.leave cap else s
    let per := m.ckPer x
    let rate := m.hz * per
    let smp := c.q * per + i
    let sigs := s.sigs.map (m.signal per i c)
    let viols := (sigs.filter SigOut.viol).map (fun o => (o.d.mask, o.d.c))
    let rflags := b2n (sigs.any SigOut.na) + 2 * b2n (!viols.isEmpty) + 4 * b2n (sigs.any SigOut.straddle)
    let time := rowInstant c.sec smp rate
    let step := m.click.steps.find? (fun e => decide (e.1 ≤ c.kf) && (match s.rows.getLast? with
      | some r => decide (r.kf < e.1)
      | none => false))
    let s := { s with
      sigs := sigs.map SigOut.d
      rows := s.rows ++ [{ kf := c.kf, time := time, tq := c.tq, slew := c.slew }]
      next := rowInstant c.sec (smp + 1) rate
      stepRow := match s.stepRow, step with
        | none, some e => some (s.count, time, e.2)
        | old, _ => old }
    let n := s.count - 1
    let m := m.setCk x s
    let m := m.poke (m.ckRowAddr x n) (rowOctets c.kf smp i rflags sigs (s.bins.map c.bitAt))
    let m := m.each viols (fun m e => m.bump 0x4C5006 e.1)
    let m := m.each (m.terms x) (fun m t =>
      if t.2.1 = 5 ∧ viols.any (fun e => t.2.2.2 == 0xFF || e.1 == t.2.2.2) then m.detect now x { term := t.1, instant := time } else m)
    let m := m.ckResolve x
    let s := m.ck x
    if m.ckState x = ckTriggered then
      let post : Bool := match s.trigRow with
        | some r => decide (r + m.num 0x4C1008 x ≤ n)
        | none => false
      if st = ckTriggered ∧ post ∧ !m.ckMode x 0 then
        let m := m.ckFinish x 0
        m.raise 0x0801 [x, m.num 0x4C2002 x, 0, m.num 0x4C2003 x]
      else match viols with
        | (k, ch) :: _ => if st = ckTriggered ∧ m.ckMode x 1 then (m.ckFinish x 2).raise 0x0803 [x, k, ch, time] else m
        | [] => m
    else if m.ckState x = ckArmed then
      let keep := min (m.num 0x4C1007 x) (cap - 1)
      m.setCk x (s.dropOld (s.rows.length - keep) cap)
    else m

/-- CLICKER_ROW_WRITE (R402, R405, R413, R414): between the end of L2 and the end of P of tick k the rows of k_f = k - D - 10 are written, slots in
ascending order within the budget; a slot that is left out overflows. -/
def clickerRowWrite (now : Nat) (m : Mod) : Mod :=
  if (m.tick.phase ≠ .V ∧ m.tick.phase ≠ .P) ∨ m.click.wrote = m.k + 1 ∨ !m.tick.running then m
  else
    let m := { m with click := { m.click with wrote := m.k + 1 } }
    match m.click.hist.find? (fun (c : CapTick) => c.k + 10 = m.k) with
    | none => m
    | some c =>
      let on := (List.range 64).filter (fun x => m.ckState x == ckArmed || m.ckState x == ckTriggered)
      (on.foldl (fun (a : Mod × Nat) x =>
        let m := a.1
        let need := (m.ck x).rowLen * m.ckPer x
        if m.ckState x ≠ ckArmed ∧ m.ckState x ≠ ckTriggered then a
        else if m.num 0x4C0002 < a.2 + need then ((m.bump 0x4C0003).ckOverflow x 1, a.2)
        else
          let m := m.each (List.range (m.ckPer x)) (fun m i => m.writeRow now x c i)
          (if m.ckState x = ckArmed ∨ m.ckState x = ckTriggered then m.ckSync x else m, a.2 + need)) (m, 0)).1

/-- CLICKER_ROW_WRITE. -/
def execClickerRowWrite (now : Nat) (s : State) : Host.Outcome State Fault Refusal := .next { s with mod := s.mod.awake (clickerRowWrite now) }

/-! ## TRIG lines and cross-triggers (R409, R410) -/

/-- TRIG_INPUT_EDGE (R406, R409): an input line has held a level for IN_FILTER; the edge is timestamped at its first transition. -/
def trigInputEdge (j now : Nat) (level : Bool) (m : Mod) : Mod :=
  if 31 < j ∨ m.num 0x4C6001 j ≠ 0 ∨ m.num 0x4C6005 j = b2n level then m
  else
    let at' := m.tb now - m.num 0x4C6002 j
    let m := ((m.set 0x4C6005 (b2n level) j).set 0x4C6006 at' j).bump 0x4C6007 j
    m.offerTrigger now (fun kind edge arg => kind == 2 && arg == j && edgeHit edge level) { instant := at' }

/-- TRIG_INPUT_EDGE. -/
def execTrigInputEdge (j now : Nat) (level : Bool) (s : State) : Host.Outcome State Fault Refusal :=
  .next { s with mod := s.mod.awake (trigInputEdge j now level) }

/-- TRIG_PULSE_END (R409): OUT_WIDTH has elapsed since the pulse began. -/
def trigPulseEnd (j now : Nat) (m : Mod) : Mod := if m.trigMode j = some 1 then m.setTrig j now false else m

/-- TRIG_PULSE_END. -/
def execTrigPulseEnd (j now : Nat) (s : State) : Host.Outcome State Fault Refusal := .next { s with mod := s.mod.awake (trigPulseEnd j now) }

/-- An XTRIG flit for this module (R406, R410). -/
def Mod.takeXtrig (m : Mod) (p : Packet) (now : Nat) : Mod :=
  if p.src = m.moduleId ∨ field p.data 0 1 ≠ 1 then m.bump 0x4C000B
  else
    let unsync := bit (field p.data 24 1) 5 || bit m.timeQuality 5
    (m.bump 0x4C000A).offerTrigger now (fun kind _ arg => kind == 3 && arg % 16 == field p.data 1 1 && (arg / 256 % 256 == 0 || arg / 256 % 256 == p.src))
      { instant := field p.data 8 8, cross := true, unsync := unsync }

/-- An XTRIG for this module (R286, R410): delivered, and forwarded too where it is broadcast by another module. -/
def Mod.takeCross (m : Mod) (l : Nat) (p : Packet) (now : Nat) : Mod :=
  let m := m.takeXtrig p now
  if p.dst ≠ 255 ∨ p.src = m.moduleId then m
  else if p.hops = 0 then m.bump 0x613009
  else m.broadcast { p with hops := p.hops - 1 } (some l)

/-- WELT_XTRIG_RX (R286, R410): delivered here, forwarded where it is for another module, and both where it is broadcast. -/
def weltXtrigRx (h : FlitHdr) (p : Packet) (now : Nat) (m : Mod) : Mod := m.takeWhole h p (fun m => m.takeCross h.l p now)

/-- WELT_XTRIG_RX. -/
def execWeltXtrigRx (h : FlitHdr) (p : Packet) (now : Nat) (s : State) : Host.Outcome State Fault Refusal :=
  .next { s with mod := s.mod.awake (weltXtrigRx h p now) }

/-! ## Writes that command a slot (R406, R412, R419) -/

/-- A write of 1 to a command object of slot x, possible only in the states that `may` holds of. -/
def Mod.ckCommand (m : Mod) (path : Path) (x v : Nat) (may : Nat → Bool) (f : Mod → Mod) : Mod :=
  match path with
  | .tenant _ => m.report path abAccess
  | _ =>
    if 63 < x then m.report path abSelector
    else if v ≠ 1 then m.report path abValue
    else if !may (m.ckState x) then m.report path abState
    else m.served path f

/-- CLICKER_FORCE (R406): the software term of a slot detects a trigger at the time base of the write (log entry 99). -/
def clickerForce (path : Path) (x v now : Nat) (m : Mod) : Mod :=
  m.ckCommand path x v (fun _ => true) (fun m =>
    m.each ((m.terms x).filter (fun t => t.2.1 == 6)) (fun m t => m.detect now x { term := t.1, instant := m.tb now }))

/-- CLICKER_FORCE. -/
def execClickerForce (path : Path) (x v now : Nat) (s : State) : Host.Outcome State Fault Refusal :=
  .next { s with mod := s.mod.gate path (fun (m : Mod) => clickerForce path x v now m) }

/-- CLICKER_STOP (R412). -/
def clickerStop (path : Path) (x v : Nat) (m : Mod) : Mod := m.ckCommand path x v (· == ckTriggered) (fun m => m.ckFinish x 3)

/-- CLICKER_STOP. -/
def execClickerStop (path : Path) (x v : Nat) (s : State) : Host.Outcome State Fault Refusal :=
  .next { s with mod := s.mod.gate path (fun (m : Mod) => clickerStop path x v m) }

/-- CLICKER_DRAIN (R412). -/
def clickerDrain (path : Path) (x v : Nat) (m : Mod) : Mod := m.ckCommand path x v (· == ckComplete) (fun m => m.set 0x4C2001 ckDraining x)

/-- CLICKER_DRAIN. -/
def execClickerDrain (path : Path) (x v : Nat) (s : State) : Host.Outcome State Fault Refusal :=
  .next { s with mod := s.mod.gate path (fun (m : Mod) => clickerDrain path x v m) }

/-- CLICKER_RELEASE (R412). -/
def clickerRelease (path : Path) (x v : Nat) (m : Mod) : Mod :=
  m.ckCommand path x v (fun st => st == ckComplete || st == ckDone) (fun m => m.ckArm x)

/-- CLICKER_RELEASE. -/
def execClickerRelease (path : Path) (x v : Nat) (s : State) : Host.Outcome State Fault Refusal :=
  .next { s with mod := s.mod.gate path (fun (m : Mod) => clickerRelease path x v m) }

/-- The length of slot x's image (R418). -/
def Mod.imageLen (m : Mod) (x : Nat) : Nat := (m.ck x).ring + (m.ck x).count * (m.ck x).rowLen

/-- CLICKER_RESEND (R419): a U64 offset and a U32 length. The range lies in the image, and among its rows only in those still held. -/
def clickerResend (path : Path) (x : Nat) (b : List Byte) (m : Mod) : Mod :=
  let off := field b 0 8
  let len := field b 8 4
  let s := m.ck x
  if b.length ≠ 12 then m.report path abLength
  else
    m.ckCommand path x (if m.imageLen x < off + len ∨ len = 0 ∨ (s.ring < off + len ∧ s.ring + s.gone * s.rowLen > max off s.ring) then 0 else 1)
      (fun st => st == ckComplete || st == ckDone) (fun m => m.setCk x { s with resend := s.resend ++ [(off, len)] })

/-- CLICKER_RESEND. -/
def execClickerResend (path : Path) (x : Nat) (b : List Byte) (s : State) : Host.Outcome State Fault Refusal :=
  .next { s with mod := s.mod.gate path (fun (m : Mod) => clickerResend path x b m) }

/-! ## Drain (R418) -/

/-- Octets `off` on of slot x's image: the header with the N_ROWS given and RING_FIRST 0, the descriptors, and the rows, oldest first. -/
def Mod.imageOctets (m : Mod) (x nRows off n : Nat) : List Byte :=
  let s := m.ck x
  let head := slice (m.ckHeader x nRows 0 ++ s.descs) 0 s.ring
  (List.range n).map (fun i =>
    let o := off + i
    if o < s.ring then head.getD o 0 else Memory.read m.mem (m.ckRowAddr x ((o - s.ring) / s.rowLen) + (o - s.ring) % s.rowLen))

/-- A drain frame with its FLAGS, OFFSET, IMAGE_LEN and data (R418). -/
def Mod.drainFrame (m : Mod) (x flags off total : Nat) (data : List Byte) : List Byte :=
  let vlan := m.num 0x4C0006
  m.oct 0x4C0005 ++ m.oct 0x380009 ++ (if vlan = 0 then [] else toBE 2 0x8100 ++ toBE 2 (vlan % 4096)) ++ toBE 2 0x88B6 ++
    toLE 1 1 ++ toLE 1 x ++ toLE 1 m.moduleId ++ toLE 1 flags ++ toLE 4 (m.num 0x4C2002 x) ++ toLE 8 off ++ toLE 8 total ++
    toLE 2 data.length ++ List.replicate 6 0 ++ data

/-- A drain frame injected at port 866 as class SC7. -/
def Mod.sendDrain (m : Mod) (now x flags off total : Nat) (data : List Byte) : Mod :=
  switchClassify { port := 866, bytes := m.drainFrame x flags off total data, ts := now, cls := 7 } m

/-- Whether slot x has something to send: a range to be sent again, a record that drains, or a row of a continuous record that runs. -/
def Mod.wantsDrain (m : Mod) (x : Nat) : Bool :=
  let st := m.ckState x
  let s := m.ck x
  !s.resend.isEmpty || st == ckDraining || (st == ckTriggered && m.ckMode x 0 && decide (s.sent < m.imageLen x))

/-- Slot x's image is sent to its last octet: DONE, event 0x0804; with AUTO_REARM the slot is ARMED again (R412). -/
def Mod.drained (m : Mod) (x : Nat) : Mod :=
  let m := (m.set 0x4C2001 ckDone x).raise 0x0804 [x, m.num 0x4C2002 x, m.num 0x4C2008 x]
  if m.ckMode x 3 then m.ckArm x else m

/-- The next drain frame of slot x. -/
def Mod.drainSlot (m : Mod) (now x : Nat) : Mod :=
  let s := m.ck x
  let cont := m.ckMode x 0
  let runs := m.ckState x == ckTriggered
  let total := m.imageLen x
  let most := m.num 0x4C0008
  match s.resend with
  | (off, len) :: t =>
    let n := min len most
    let m := m.setCk x { s with resend := if n = len then t else (off + n, len - n) :: t }
    m.sendDrain now x (2 + 4 * b2n cont) off total (m.imageOctets x s.count off n)
  | [] =>
    if s.sent < total then
      let n := min most (total - s.sent)
      let last := !cont && s.sent + n == total
      let data := m.imageOctets x (if cont then 0 else s.count) s.sent n
      let m := (m.setCk x { s with sent := s.sent + n }).bump 0x4C2008 x n
      let m := m.sendDrain now x (b2n last + 4 * b2n cont) s.sent (if cont ∧ runs then 0 else total) data
      if last then m.drained x else m
    else if cont ∧ m.ckState x = ckDraining then
      (m.sendDrain now x (1 + 4 + 8) 0 total (m.imageOctets x s.count 0 0x100)).drained x
    else m

/-- DRAIN_FRAME_SEND (R418): DRAIN_RATE allows the next frame, and the slots that have something to send take turns. -/
def drainFrameSend (now : Nat) (m : Mod) : Mod :=
  match ((List.range 64).map (fun i => (m.click.turn + 1 + i) % 64)).find? m.wantsDrain with
  | some x => ({ m with click := { m.click with turn := x } }).drainSlot now x
  | none => m

/-- DRAIN_FRAME_SEND. -/
def execDrainFrameSend (now : Nat) (s : State) : Host.Outcome State Fault Refusal := .next { s with mod := s.mod.awake (drainFrameSend now) }

end Sys2Proof.Machine
end

