-- ==== Sys2Proof/Machine/Ports.lean ====
section
/-!
DEFINITION. Port lanes and MACs: lane modes, port states, the judgement of received frames, pause, duplicate tables, pattern filters, gating of
lane groups and the eye monitor (R346-R375).
-/
namespace Sys2Proof.Machine

/-! ## Lanes and port states (R346-R350, R368) -/

/-- The ports of lane l. -/
def lanePorts (l : Nat) : List Nat := [4 * l, 4 * l + 1, 4 * l + 2, 4 * l + 3]

/-- The state of front port p set, with what the switch sees of it (R309, R350). -/
def Mod.setPs (m : Mod) (p st : Nat) : Mod := m.set 0x320002 st p

/-- Front port p leaves UP: flushed, and the learned addresses there removed (R324, R337, R351). -/
def Mod.leaveUp (m : Mod) (p st : Nat) : Mod :=
  if m.num 0x320002 p = psUp then ((m.setPs p st).flushPort p).macFlush p else m.setPs p st

/-- Whether every lane of group j is OFF or carries only DISABLED and DORMANT ports (R368). -/
def Mod.groupIdle (m : Mod) (j : Nat) : Bool :=
  ((List.range 16).map (16 * j + ·)).all (fun l => m.num 0x310001 l == 0 ||
    (lanePorts l).all (fun p => m.num 0x320002 p == psDisabled || m.num 0x320002 p == psDormant))

/-- The filter in event 0x0206 where no filter woke the port or the group: an open number (log entry 108). -/
def wokenByNone : Nat := Config.eventField 0x0206 0

/-- A gated group whose condition no longer holds wakes: WAKES, and event 0x0206 with the filter that woke it, an open number for none (R368). -/
def Mod.wakeGroup (m : Mod) (j f : Nat) : Mod :=
  if m.num 0x350002 j = 1 ∧ !m.groupIdle j then ((m.set 0x350002 0 j).bump 0x350003 j).raise 0x0206 [j, f, m.k] else m

/-- A DISABLED port whose ENABLE is 1 and whose lane mode provides it goes to DOWN (R350). -/
def Mod.portOn (m : Mod) (p : Nat) : Mod :=
  if m.num 0x320002 p = psDisabled ∧ m.on 0x320001 p ∧ m.provided p then (m.setPs p psDown).wakeGroup (p / 64) wokenByNone else m

/-- Lane l retrains: it is not locked. A port that loses its link condition by it goes DOWN 10 µs later (PORT_LINK_LOSS). -/
def Mod.retrain (m : Mod) (l : Nat) : Mod := m.set 0x310005 0 l

/-- LANE_MODE_WRITE (R346, R348): every port of the lane goes to DISABLED, the lane retrains, and each port leaves DISABLED as its ENABLE allows. -/
def laneModeWrite (path : Path) (l v : Nat) (m : Mod) : Mod :=
  if 191 < l then m.report path abSelector
  else if 7 < v then m.report path abValue
  else m.served path (fun m =>
    let m := m.each (lanePorts l) (fun m p =>
      let m := m.leaveUp p psDisabled
      m.setPort p { m.port p with link := false })
    (m.set 0x310001 v l).retrain l |>.each (lanePorts l) Mod.portOn)

/-- LANE_MODE_WRITE. -/
def execLaneModeWrite (path : Path) (l v : Nat) (s : State) : Host.Outcome State Fault Refusal :=
  .next { s with mod := s.mod.gate path (fun (m : Mod) => laneModeWrite path l v m) }

/-- LANE_POLARITY_WRITE (R348): bit 1 inverts the transmit pair, bit 0 the receive pair; the lane retrains. -/
def lanePolarityWrite (path : Path) (l v : Nat) (m : Mod) : Mod :=
  if 191 < l then m.report path abSelector
  else m.served path (fun m => (m.set 0x310004 (v % 4) l).retrain l)

/-- LANE_POLARITY_WRITE. -/
def execLanePolarityWrite (path : Path) (l v : Nat) (s : State) : Host.Outcome State Fault Refusal :=
  .next { s with mod := s.mod.gate path (fun (m : Mod) => lanePolarityWrite path l v m) }

/-- PORT_ENABLE_WRITE (R350). -/
def portEnableWrite (path : Path) (p v : Nat) (m : Mod) : Mod :=
  if 767 < p then m.report path abSelector
  else if 1 < v then m.report path abValue
  else m.served path (fun m =>
    let m := m.set 0x320001 v p
    if v = 0 then m.leaveUp p psDisabled else m.portOn p)

/-- PORT_ENABLE_WRITE. -/
def execPortEnableWrite (path : Path) (p v : Nat) (s : State) : Host.Outcome State Fault Refusal :=
  .next { s with mod := s.mod.gate path (fun (m : Mod) => portEnableWrite path p v m) }

/-- A DORMANT port wakes: UP where the link condition holds, otherwise DOWN; event 0x0206 with the filter, an open number for a write (R350, R368). -/
def Mod.wakePort (m : Mod) (p f : Nat) : Mod :=
  if m.num 0x320002 p ≠ psDormant then m
  else
    let m := (m.set 0x320003 0 p).setPs p (if (m.port p).link then psUp else psDown)
    (m.raise 0x0206 [p, f, m.k]).wakeGroup (p / 64) f

/-- PORT_DORMANT_WRITE (R350): 1 takes an UP port to DORMANT, 0 wakes a DORMANT one. -/
def portDormantWrite (path : Path) (p v : Nat) (m : Mod) : Mod :=
  if 767 < p then m.report path abSelector
  else if 1 < v then m.report path abValue
  else m.served path (fun m =>
    let m' := m.set 0x320003 v p
    if v = 0 then m.wakePort p wokenByNone |>.set 0x320003 0 p
    else if m.num 0x320002 p = psUp then m'.leaveUp p psDormant else m')

/-- PORT_DORMANT_WRITE. -/
def execPortDormantWrite (path : Path) (p v : Nat) (s : State) : Host.Outcome State Fault Refusal :=
  .next { s with mod := s.mod.gate path (fun (m : Mod) => portDormantWrite path p v m) }

/-- A lane's CDR has locked: CTLE and the taps of the DFE take what training found, a free value (R369; log entry 103). -/
def Mod.equalise (m : Mod) (l : Nat) : Mod :=
  let (c, m) := m.draw 4
  let (m, taps) := (List.range 5).foldl (fun (a : Mod × List Byte) _ =>
    let (v, m) := a.1.draw 16
    (m, a.2 ++ toLE 1 (ofInt 8 ((v % 63 : Nat) - 31)))) (m, [])
  (m.set 0x310007 c l).setOct 0x310008 taps l

/-- PORT_LINK_UP (R350, R347): the link condition has held for LINK_UP_TIME. `bad` is a rate code that the PHY reports and the mode does not
have: the port stays DOWN, event 0x0203. A DORMANT port keeps its state. -/
def portLinkUp (p : Nat) (bad : Option Nat) (m : Mod) : Mod :=
  let st := m.num 0x320002 p
  if 767 < p ∨ !m.provided p ∨ (st ≠ psDown ∧ st ≠ psDormant) then m
  else match bad with
    | some c => if st = psDown then m.raise 0x0203 [p, c] else m
    | none =>
      let l := p / 4
      let m := if m.num 0x310005 l = 0 then (m.set 0x310005 1 l).equalise l else m
      let m := m.setPort p { m.port p with link := true }
      if st = psDormant then m
      else (m.setPs p psUp).raise 0x0200 [p, m.num 0x310001 l, m.k]

/-- PORT_LINK_UP. -/
def execPortLinkUp (p : Nat) (bad : Option Nat) (s : State) : Host.Outcome State Fault Refusal :=
  .next { s with mod := s.mod.awake (portLinkUp p bad) }

/-- PORT_LINK_LOSS (R350): the link condition has been lost for 10 µs, with the cause of event 0x0201. While DORMANT it is counted only. -/
def portLinkLoss (p cause : Nat) (m : Mod) : Mod :=
  let st := m.num 0x320002 p
  if 767 < p ∨ (st ≠ psUp ∧ st ≠ psDormant) ∨ !(m.port p).link then m
  else
    let m := (m.setPort p { m.port p with link := false }).bump 0x320029 p
    if st = psUp then (m.leaveUp p psDown).raise 0x0201 [p, cause, m.k] else m

/-- PORT_LINK_LOSS. -/
def execPortLinkLoss (p cause : Nat) (s : State) : Host.Outcome State Fault Refusal := .next { s with mod := s.mod.awake (portLinkLoss p cause) }

/-- LANE_CDR_LOSS (R369): counted, and the lane retrains; its ports lose their link condition (PORT_LINK_LOSS follows after 10 µs). -/
def laneCdrLoss (l : Nat) (m : Mod) : Mod := if 191 < l ∨ m.num 0x310005 l = 0 then m else (m.set 0x310005 0 l).bump 0x31000C l

/-- LANE_CDR_LOSS. -/
def execLaneCdrLoss (l : Nat) (s : State) : Host.Outcome State Fault Refusal := .next { s with mod := s.mod.awake (laneCdrLoss l) }

/-- LANE_GROUP_GATE (R368): a group has been idle for GATE_DELAY; event 0x0207. -/
def laneGroupGate (j : Nat) (m : Mod) : Mod :=
  if 11 < j ∨ m.num 0x350002 j = 1 ∨ !m.groupIdle j then m else (m.set 0x350002 1 j).raise 0x0207 [j, m.k]

/-- LANE_GROUP_GATE. -/
def execLaneGroupGate (j : Nat) (s : State) : Host.Outcome State Fault Refusal := .next { s with mod := s.mod.awake (laneGroupGate j) }

/-- EYE_MONITOR (R369): the 10 ms report of a locked lane. Meanwhile the LMS loop may have moved CTLE and the taps, unless EQ_FREEZE holds them
or the lane's ports are dormant (R368). -/
def eyeMonitor (l height width : Nat) (m : Mod) : Mod :=
  if 191 < l ∨ m.num 0x310005 l = 0 then m
  else
    let m := (m.set 0x310009 (height % 65536) l).set 0x31000A (width % 65536) l
    let frozen := m.num 0x310006 l == 1 || (lanePorts l).all (fun p => m.num 0x320002 p == psDormant || m.num 0x320002 p == psDisabled)
    let m := if frozen then m else m.equalise l
    if height % 65536 < m.num 0x31000B l then m.raise 0x0202 [l, height % 65536] else m

/-- EYE_MONITOR. -/
def execEyeMonitor (l height width : Nat) (s : State) : Host.Outcome State Fault Refusal :=
  .next { s with mod := s.mod.awake (eyeMonitor l height width) }

/-! ## Pause (R354, R355) -/

/-- PAUSE_FRAME_RX (R355): a pause frame on port p stops new SC1 to SC7 frames for its quanta, where PAUSE_RX is 1 and PROCESS_BUS 0. -/
def pauseFrameRx (p quanta : Nat) (m : Mod) : Mod :=
  if m.num 0x320002 p ≠ psUp ∨ 767 < p then m
  else
    let m := (m.bump 0x320020 p).bump 0x320024 p
    if m.num 0x320006 p = 1 then m.bump 0x320026 p
    else if m.num 0x320008 p = 1 then m.setPort p { m.port p with paused := quanta % 65536 ≠ 0 }
    else m

/-- PAUSE_FRAME_RX. -/
def execPauseFrameRx (p quanta : Nat) (s : State) : Host.Outcome State Fault Refusal := .next { s with mod := s.mod.awake (pauseFrameRx p quanta) }

/-- PAUSE_EXPIRY (R355): quanta times 512 bit times have elapsed since the pause frame. -/
def pauseExpiry (p : Nat) (m : Mod) : Mod := m.setPort p { m.port p with paused := false }

/-- PAUSE_EXPIRY. -/
def execPauseExpiry (p : Nat) (s : State) : Host.Outcome State Fault Refusal := .next { s with mod := s.mod.awake (pauseExpiry p) }

/-- PAUSE_XOFF_REPEAT (R354): half of PAUSE_QUANTA has elapsed, and the occupancy is still at or above PAUSE_LOW. -/
def pauseXoffRepeat (p : Nat) (m : Mod) : Mod :=
  if (m.port p).xoff ∧ m.num 0x32000A p ≤ m.occupancy p ∧ m.num 0x320007 p = 1 ∧ m.num 0x320006 p = 0 then
    (m.bump 0x320025 p).emit (.pause p (m.num 0x32000B p))
  else m

/-- PAUSE_XOFF_REPEAT. -/
def execPauseXoffRepeat (p : Nat) (s : State) : Host.Outcome State Fault Refusal := .next { s with mod := s.mod.awake (pauseXoffRepeat p) }

/-! ## Duplicate tables (R360, R363) -/

/-- A first copy entered: where 4,096 entries stand, the one with the oldest arrival is replaced and counted. -/
def Mod.enterDup (m : Mod) (i : Nat) (e : DupEntry) : Mod :=
  let t := m.dupTable i
  if t.length < 4096 then m.setDupTable i (t ++ [e])
  else
    let m := m.setDupTable i (t.drop 1 ++ [e])
    if i < 64 then m.bump 0x330009 i else m.bump 0x338009 (i - 64)

/-- DUP_ENTRY_FORGET (R360, R363): FORGET_TIME has elapsed since the oldest arrival in table i, a ring's number or 64 and a pair's. -/
def dupEntryForget (i : Nat) (m : Mod) : Mod := m.setDupTable i ((m.dupTable i).drop 1)

/-- DUP_ENTRY_FORGET. -/
def execDupEntryForget (i : Nat) (s : State) : Host.Outcome State Fault Refusal := .next { s with mod := s.mod.awake (dupEntryForget i) }

/-! ## Pattern filters (R365-R367) -/

/-- One octet through the CRC-16 of R365. -/
def crc16Byte (c : Nat) (b : Byte) : Nat :=
  (List.range 8).foldl (fun c _ => if bit c 15 then (c * 2 % 65536) ^^^ 0x1021 else c * 2 % 65536) (c ^^^ (b.toNat * 256))

/-- CRC-16 of octets: polynomial 0x1021, initial value all ones, no reflection, no final XOR (R365). -/
def crc16 (bs : List Byte) : Nat := bs.foldl crc16Byte 0xFFFF

/-- The octets of a frame that a mask selects, ascending; none where the frame does not reach the highest, or the mask is all zeros (R365). -/
def selected (mask frame : List Byte) : Option (List Byte) :=
  let pick := (List.range 128).filter (fun n => bit (mask.getD (n / 8) 0).toNat (n % 8))
  if pick.isEmpty then none
  else if frame.length ≤ pick.getLastD 0 then none
  else some (pick.map (fun n => frame.getD n 0))

/-- The filters that match a frame as received, each with its ACTION (R365). -/
def filterHits (fs : List Pattern) (frame : List Byte) : List (Nat × Nat) :=
  ((List.range 8).zip fs).filterMap (fun (f, x) => match selected x.mask frame with
    | some bs => if crc16 bs = x.check then some (f, x.action) else none
    | none => none)

/-- ADMIT (R366): a copy of the frame goes to port 864. -/
def Mod.admitCopy (m : Mod) (f : SwFrame) : Mod :=
  let c : Copy := { no := m.sw.nextNo, ingress := f.port, cls := m.classOf f none, frame := f.bytes, vlan := 1, tick := m.k,
                    ts := m.rxStamp f.port f.ts, since := f.ts }
  (({ m with sw := { m.sw with nextNo := m.sw.nextNo + 1 } }).place f.saturated f.ts (864, c)).swSync

/-- PATTERN_FILTER_HIT (R366-R368): every hit is counted; TRIGGER acts whatever the FCS, WAKE and ADMIT on good frames.
The filters are those that stood when the frame began (R373). -/
def Mod.runFilters (m : Mod) (f : SwFrame) (good : Bool) : Mod :=
  let p := f.port
  let dormant := m.num 0x320002 p == psDormant
  let hits := filterHits ((m.port p).held.getD (m.patterns p)) (if good then f.bytes ++ toLE 4 (crc32 f.bytes) else f.bytes)
  let has := fun (i : Nat) => (hits.filter (fun x => bit x.2 i)).map Prod.fst
  let m := m.setPort p { m.port p with held := none }
  let m' := m.each (hits.map Prod.fst) (fun m x => m.bump (filterObj x 4) p)
  let m' := m'.each (has 0) (fun m x =>
    m.offerTrigger f.ts (fun kind _ arg => kind == 4 && arg % 1024 == p && arg / 4096 % 8 == x) { instant := m.rxStamp p f.ts })
  let m' := if good ∧ !(has 1).isEmpty then
      let m := m'.admitCopy f
      if dormant then m.bump 0x32002A p else m
    else m'
  if good ∧ dormant then (match has 2 with
    | x :: _ => m'.wakePort p x
    | [] => m') else m'

/-! ## Received frames (R351, R352, R360, R362) -/

/-- The reception on port p ends badly: its copies go (R322, R352). -/
def Mod.rxBad (m : Mod) (p : Nat) : Mod :=
  match (m.port p).rx with
  | some no => ((m.badEnd p no).endRx p).swSync
  | none => m

/-- A good frame at its end: counters of the tags and the duplicate table, and its copies become whole. A frame whose twin has been entered
since its classification loses the copies still held; one not classified yet is classified now (R313, R352, R360, R363). -/
def Mod.rxGood (m : Mod) (f : SwFrame) : Mod :=
  let p := f.port
  let x := m.verdict f
  let m := m.each x.counts (fun m e => m.bump e.1 e.2)
  let go := x.pass || x.onward.isSome
  let m := match (m.port p).rx with
    | some no =>
      if !go then m.badEnd p no |>.endRx p
      else if x.ingestOnly then
        let m := m.each ((m.sw.ports.map Prod.fst).filter (· ≠ 792)) (fun m q => m.dropReception no q)
        (m.goodEnd no).endRx p
      else (m.goodEnd no).endRx p
    | none => if go ∨ !(m.sessionsOf p 0).isEmpty then m.classify f x true else m
  (match x.enter with
    | some (i, e) => m.enterDup i e
    | none => m).swSync

/-- FRAME_RECEIVED (R352): a frame on a front port has ended, with its FCS good or bad. Pattern filters run while the port is UP or DORMANT. A
pause frame has a row of its own; other MAC control frames are discarded and counted (R355). -/
def frameReceived (f : SwFrame) (fcs : Bool) (m : Mod) : Mod :=
  let p := f.port
  let st := m.num 0x320002 p
  let len := frameLen f.bytes
  if 767 < p ∨ (st ≠ psUp ∧ st ≠ psDormant) then m
  else
    let runt := decide (len < 64)
    let long := decide (m.num 0x320005 p < len)
    let good := fcs && !runt && !long
    let control := isMacControl f.bytes
    let m := m.runFilters f good
    if st = psDormant then m
    else if runt then (m.bump 0x320022 p).rxBad p
    else if long then (m.bump 0x320023 p).rxBad p
    else if !fcs then (m.bump 0x320021 p).rxBad p
    else if control then
      if beNat (slice f.bytes 14 2) = 1 then m else (m.bump 0x320020 p).bump 0x320024 p
    else (m.bump 0x320020 p).rxGood f

/-- FRAME_RECEIVED. -/
def execFrameReceived (f : SwFrame) (fcs : Bool) (s : State) : Host.Outcome State Fault Refusal :=
  .next { s with mod := s.mod.awake (frameReceived f fcs) }

end Sys2Proof.Machine
end

