-- ==== Sys2Proof/Machine/Bound.lean ====
section
/-!
DEFINITION. The publish entries of a Last image with their egress ports and lengths, and which of them are bound-eligible (R38-R42).
-/
namespace Sys2Proof.Machine

/-- The frame by whose addresses an entry's egress ports are found: a tenant slot's keys, or the frame last in an SC0 buffer. Logic-owned slots and
time-triggered messages have none (log entry 112). -/
def Mod.entryFrame (m : Mod) (e : Nat) : Option (List Byte) :=
  let o := pubObject e
  if pubKind e = 1 ∧ pubTenant e ≠ 0 then
    let i := pubInst (pubTenant e) o
    let vlan := m.num 0x513002 i
    some (m.oct 0x513001 i ++ List.replicate 6 0 ++ (if vlan = 0 then [] else toBE 2 0x8100 ++ toBE 2 vlan) ++ toBE 2 (m.num 0x513004 i) ++
      toBE 2 (m.num 0x513003 i) ++ List.replicate 42 0)
  else if pubKind e = 2 then
    let x := m.sc0 o
    let f := match x.standing.getLast? with
      | some s => s.2
      | none => x.frame
    if f.isEmpty then none else some f
  else none

/-- The egress ports of an entry's frames, twins of rings and pairs among them. -/
def Mod.entryPorts (m : Mod) (e : Nat) : List Nat :=
  match m.entryFrame e with
  | none => []
  | some f =>
    let v := (m.verdict { port := 864, bytes := f }).v
    let (m, d) := m.forwardDecision 864 v f true
    ((m.expand { ingress := 864, frame := d.frame, vlan := d.vlan } d.ports).2.map Prod.fst)

/-- L_j of R40: the configured maximum frame length of an entry, with the FCS. -/
def Mod.entryLen (m : Mod) (e : Nat) : Nat :=
  if pubKind e = 2 then m.num 0x516001 (pubObject e)
  else if pubKind e = 1 ∧ pubTenant e ≠ 0 then m.num 0x51300B (pubInst (pubTenant e) (pubObject e))
  else 0

/-- The publish entries of an image that are not bound-eligible on at least one port, with those ports (R40). -/
def Mod.unbound (m : Mod) (img : List Byte) : List (Nat × List Nat) :=
  let es := lastPubs img
  unboundGo (lastRate img) (lastStart img 7) m.portRate ((indexed es).map (fun e => (e.1, m.entryPorts e.2, m.entryLen e.2))) []

/-- How many entries are not bound-eligible on at least one port, and the first of them; 0xFFFF for none (R42). -/
def unboundSummary (l : List (Nat × List Nat)) : Nat × Nat := (l.length, (l.map Prod.fst).headD 0xFFFF)

/-- The bound-eligibility of the active image shown, as it is found when a start-up image is judged (R31, R40, R42). -/
def Mod.showBounds (m : Mod) : Mod :=
  let u := unboundSummary (m.unbound m.activeLast)
  (m.set 0x202101 u.1).set 0x202102 u.2

end Sys2Proof.Machine
end

