-- ==== Sys2Proof/Machine/Keys.lean ====
section
/-!
DEFINITION. The key store, invocation counters and their ledger, the random numbers and the debug access (R482-R498, R502, R503).
-/
namespace Sys2Proof.Machine

/-! ## The life-cycle state (R477, R503) -/

/-- The life-cycle state: how many fuse groups from G0 on are blown. -/
def Mod.lcState (m : Mod) : Nat := (m.nv.fuses.groups.takeWhile (fun g => g != 0)).length

/-- BLANK to SCRAPPED as 0x6400.01 codes them. -/
def lcBlank : Nat := 0
/-- MANUFACTURED. -/
def lcManufactured : Nat := 1
/-- PROVISIONED. -/
def lcProvisioned : Nat := 2
/-- OPERATIONAL. -/
def lcOperational : Nat := 3
/-- RETURNED. -/
def lcReturned : Nat := 4
/-- SCRAPPED. -/
def lcScrapped : Nat := 5

/-- The root the KDF sees (R477); empty where there is none. -/
def Mod.visibleRoot (m : Mod) : List Byte :=
  let st := m.lcState
  if st = lcBlank ∨ lcScrapped ≤ st then [] else m.nv.fuses.roots.getD (st - 1) []

/-- DEBUG_STATE (R503): 0 boundary scan, 1 core debug, 2 core debug and fuses. -/
def Mod.debugState (m : Mod) : Nat :=
  let st := m.lcState
  if st = lcBlank then 2
  else if st = lcManufactured ∨ st = lcReturned ∨ (st = lcProvisioned ∧ m.nv.fuses.okHash.isEmpty) then 1
  else 0

/-- ROOTS_PRESENT (R506). -/
def Mod.rootsPresent (m : Mod) : Nat := (List.range 4).foldl (fun n i => n + b2n (!(m.nv.fuses.roots.getD i []).isEmpty) * 2 ^ i) 0
/-- KEYHASHES (R506). -/
def Mod.keyHashes (m : Mod) : Nat := b2n (!m.nv.fuses.vkHash.isEmpty) + 2 * b2n (!m.nv.fuses.okHash.isEmpty)

/-! ## Key slots (R485-R491) -/

/-- Slot i's secret. -/
def Mod.keySlot (m : Mod) (i : Nat) : KeySlot := Table.get m.keys.slots {} i
/-- Slot i's secret replaced. -/
def Mod.setKeySlot (m : Mod) (i : Nat) (x : KeySlot) : Mod := { m with keys := { m.keys with slots := Table.set m.keys.slots {} i x } }

/-- USAGE codes of R485. -/
def kuGmacRx : Nat := 1
/-- GMAC_TX. -/
def kuGmacTx : Nat := 2
/-- HMAC. -/
def kuHmac : Nat := 3
/-- KDF. -/
def kuKdf : Nat := 4

/-- The fingerprint of a key (R489): the first 8 octets of its HMAC over "KUNATH-KFP". -/
def keyPrint (key : List Byte) : List Byte := slice (Config.hmac key [0x4B, 0x55, 0x4E, 0x41, 0x54, 0x48, 0x2D, 0x4B, 0x46, 0x50]) 0 8

/-- USERS of slot i (R506): how many objects name it. -/
def Mod.keyUsers (m : Mod) (i : Nat) : Nat :=
  (m.dict.filter (fun e => [0x401011, 0x401012, 0x513009, 0x1F3002, 0x515006].contains (e.1 / 65536) && e.2 == .num i)).length

/-- Two shares of a key under a fresh mask from the DRBG (R485). -/
def Mod.maskKey (m : Mod) (key : List Byte) : KeySlot × Mod :=
  let (mask, m) := m.drawOctets key.length
  ({ shareA := mask, shareB := List.zipWith (· ^^^ ·) key mask }, m)

/-- The ledger's ceiling for a fingerprint (R496). -/
def Mod.ceiling (m : Mod) (fp : List Byte) : Option Nat := (m.nv.ledger.find? (fun e => e.1 == fp)).map Prod.snd

/-- The last value of N, and the value at which event 0x0A20 is raised (R494). -/
def lastInv : Nat := 0xFFFFFFFF
/-- N at which the warning is raised. -/
def warnInv : Nat := 0xFFF00000

/-- Event 0x0A20 for slot i, once its N has reached 2^32 - 2^20 (R494). -/
def Mod.warnKey (m : Mod) (i : Nat) : Mod :=
  if m.num 0x642002 i = kuGmacTx ∧ warnInv ≤ m.num 0x642005 i ∧ Table.get m.keys.warned 0 i = 0 then
    { m with keys := { m.keys with warned := Table.put m.keys.warned i 1 } }.raise 0x0A20 [i, m.k]
  else m

/-- The ledger with a ceiling for a fingerprint: a new one takes the next entry, the oldest giving way once 1,024 are in use. -/
def Mod.setCeiling (m : Mod) (fp : List Byte) (c : Nat) : Mod :=
  let l := if m.nv.ledger.any (fun e => e.1 == fp) then m.nv.ledger.map (fun e => if e.1 = fp then (fp, c) else e)
    else (if m.nv.ledger.length < 1024 then m.nv.ledger else m.nv.ledger.drop 1) ++ [(fp, c)]
  ({ m with nv := { m.nv with ledger := l } }).set 0x643005 l.length

/-- A key put into slot i with its objects: SLOT_STATE, USAGE, KCV, KEY_ID and N, which starts at the larger of KEY_INV_START and the ledger's
ceiling; event 0x0A02 (R487, R495). A key whose ledger leaves no value of N unused is exhausted from the start (R494, R496; log entry 117). -/
def Mod.loadKey (m : Mod) (i state : Nat) (key : List Byte) : Mod :=
  let usage := m.num 0x641003
  let fp := keyPrint key
  let kcv := beNat (fp.take 4)
  let (x, m) := m.maskKey key
  let m := m.setKeySlot i { x with fixed := m.oct 0x641005 }
  let n := if usage = kuGmacTx then max (m.num 0x641006) ((m.ceiling fp).getD 0) else 0
  let m := if usage = kuGmacTx ∧ (m.ceiling fp).getD 0 ≤ n then m.setCeiling fp n else m
  let state := if lastInv < n then 3 else state
  let m := { m with keys := { m.keys with warned := Table.del m.keys.warned i } }
  let m := (((m.set 0x642001 state i).set 0x642002 usage i).set 0x642003 kcv i).set 0x642004 (m.num 0x641004) i
  ((m.set 0x642005 (min n lastInv) i).raise 0x0A02 [i, usage, kcv]).warnKey i

/-- Whether a path and mode may write the objects of R486: the supervisor's dictionary port, from M mode. -/
def mPath (path : Path) (mMode : Bool) : Bool :=
  mMode && (match path with
    | .supervisor => true
    | _ => false)

/-- A key command carried out or refused: KEY_RESULT, and KEY_VALUE zeroised (R486, R487). -/
def Mod.keyCommand (m : Mod) (path : Path) (mMode : Bool) (f : Nat → Mod → Nat × Mod) : Mod :=
  if !mPath path mMode then (m.set 0x64100B 4).report path abAccess
  else
    let (r, m) := f (m.num 0x641001) m
    ((({ m with keys := { m.keys with value := none } }).set 0x64100B r)).report path 0

/-- Whether the DRBG can draw (R498). -/
def Mod.drbgReady (m : Mod) : Bool := m.num 0x643002 == 1

/-- Whether a key length fits a usage (R485). -/
def lengthFits (usage n : Nat) : Bool :=
  if usage = kuGmacRx ∨ usage = kuGmacTx then n == 16 || n == 32
  else if usage = kuHmac ∨ usage = kuKdf then n == 32
  else false

/-- KEY_INSTALL (R487). -/
def keyInstall (path : Path) (mMode : Bool) (m : Mod) : Mod :=
  m.keyCommand path mMode (fun i m =>
    if m.num 0x642001 i ≠ 0 then (2, m)
    else match m.keys.value with
    | none => (3, m)
    | some key =>
      if !lengthFits (m.num 0x641003) key.length then (3, m)
      else if !m.drbgReady then (5, m)
      else (1, m.loadKey i 1 key))

/-- KEY_INSTALL. -/
def execKeyInstall (path : Path) (mMode : Bool) (s : State) : Host.Outcome State Fault Refusal :=
  .next { s with mod := s.mod.access path (fun (m : Mod) => keyInstall path mMode m) }

/-- The output of the KDF (R484) under an input key: one iteration of counter mode. -/
def kdf (key label context : List Byte) : List Byte := slice (Config.hmac key (toBE 4 1 ++ label ++ [0] ++ context ++ toBE 4 256)) 0 32

/-- KEY_DERIVE (R484, R487). -/
def keyDerive (path : Path) (mMode : Bool) (m : Mod) : Mod :=
  m.keyCommand path mMode (fun i m =>
    let usage := m.num 0x641003
    let src := m.num 0x641007
    let key := if src = 0x200 then m.visibleRoot else if src < 512 ∧ m.num 0x642002 src = kuKdf then m.keyBytes src else []
    if m.num 0x642001 i ≠ 0 then (2, m)
    else if (usage ≠ kuHmac ∧ usage ≠ kuKdf) ∨ src = i ∨ key.isEmpty ∨ (m.oct 0x641008).isEmpty then (3, m)
    else if !m.drbgReady then (5, m)
    else (1, m.loadKey i 2 (kdf key (m.oct 0x641008) (m.oct 0x641009))))

/-- KEY_DERIVE. -/
def execKeyDerive (path : Path) (mMode : Bool) (s : State) : Host.Outcome State Fault Refusal :=
  .next { s with mod := s.mod.access path (fun (m : Mod) => keyDerive path mMode m) }

/-- Slot i zeroised: both shares, and its objects as those of an empty slot (R485, R487). -/
def Mod.zeroSlot (m : Mod) (i : Nat) : Mod :=
  let m := m.setKeySlot i {}
  let m := { m with keys := { m.keys with warned := Table.del m.keys.warned i } }
  m.each [0x642001, 0x642002, 0x642003, 0x642004, 0x642005] (fun m o => m.set o 0 i)

/-- KEY_REMASK (R491): the shares of a slot take a fresh mask, the key never being formed; paused while the DRBG is unavailable. -/
def keyRemask (i : Nat) (m : Mod) : Mod :=
  if m.num 0x642001 i = 0 ∨ !m.drbgReady then m
  else
    let x := m.keySlot i
    let (mask, m) := m.drawOctets x.shareA.length
    m.setKeySlot i { x with shareA := mask, shareB := List.zipWith (· ^^^ ·) x.shareB (List.zipWith (· ^^^ ·) x.shareA mask) }

/-- KEY_REMASK. -/
def execKeyRemask (i : Nat) (s : State) : Host.Outcome State Fault Refusal := .next { s with mod := s.mod.awake (keyRemask i) }

/-! ## Invocation counters (R492-R496) -/

/-- A frame due on key slot i takes the next N: its initialisation vector and key, the ledger's ceiling raised before N passes it, N advanced,
the slot exhausted after the last. None where the slot is no GMAC_TX key or is exhausted: the frame is blocked and counted (R488, R492-R496). -/
def Mod.nextInv (m : Mod) (i : Nat) : Option (List Byte × List Byte) × Mod :=
  let n := m.num 0x642005 i
  if m.num 0x642001 i = 0 ∨ m.num 0x642002 i ≠ kuGmacTx then (none, m.bump 0x642007 i)
  else if m.num 0x642001 i = 3 then
    let m := if Table.get m.keys.warned 0 i = 2 then m
      else { m with keys := { m.keys with warned := Table.put m.keys.warned i 2 } }.raise 0x0A21 [i, m.k]
    (none, m.bump 0x642007 i)
  else
    let key := m.keyBytes i
    let fp := keyPrint key
    let c := (m.ceiling fp).getD 0
    let m := if c ≤ n then m.setCeiling fp (min (max c n + 2 ^ 20) (2 ^ 32)) else m
    let iv := (m.keySlot i).fixed ++ toBE 4 n
    let m := if n = lastInv then m.set 0x642001 3 i else m.set 0x642005 (n + 1) i
    (some (key, iv), m.warnKey i)

/-- A frame with the vector and tag of its key slot in place (R213, R492): the vector in the 12 octets before `at`, the tag in the 16 from it on.
The tag covers the frame up to it (log entry 110). -/
def tagFrame (f key iv : List Byte) (pos : Nat) : List Byte :=
  let f := f.take (pos - 12) ++ iv ++ f.drop pos
  f.take pos ++ slice (Config.gmac key iv (f.take pos)) 0 16 ++ f.drop (pos + 16)

/-! ## Fuses, random numbers and debug (R482, R497, R498, R502, R503) -/

/-- OK_HASH_WRITE (R482): once, in PROVISIONED, by the supervisor in M mode. -/
def okHashWrite (path : Path) (mMode : Bool) (b : List Byte) (m : Mod) : Mod :=
  if !mPath path mMode then m.report path abAccess
  else if b.length ≠ 48 then m.report path abLength
  else if m.lcState ≠ lcProvisioned ∨ !m.nv.fuses.okHash.isEmpty then m.report path abState
  else { m with nv := { m.nv with fuses := { m.nv.fuses with okHash := b } } }.report path 0

/-- OK_HASH_WRITE. -/
def execOkHashWrite (path : Path) (mMode : Bool) (b : List Byte) (s : State) : Host.Outcome State Fault Refusal :=
  .next { s with mod := s.mod.access path (fun (m : Mod) => okHashWrite path mMode b m) }

/-- MIN_SVN_SET (R502): fuses blown up to the value, which lies between MIN_SVN and the running image's SVN. -/
def minSvnSet (path : Path) (mMode : Bool) (v : Nat) (m : Mod) : Mod :=
  if !mPath path mMode then m.report path abAccess
  else if m.num 0x644002 < v ∨ 64 < v ∨ v < m.nv.fuses.minSvn then m.report path abValue
  else { m with nv := { m.nv with fuses := { m.nv.fuses with minSvn := v } } }.report path 0

/-- MIN_SVN_SET. -/
def execMinSvnSet (path : Path) (mMode : Bool) (v : Nat) (s : State) : Host.Outcome State Fault Refusal :=
  .next { s with mod := s.mod.access path (fun (m : Mod) => minSvnSet path mMode v m) }

/-- ENTROPY_HEALTH_FAIL (R497): test 1 is the repetition count, 2 the adaptive proportion; the third failure within 1 s makes the DRBG unavailable. -/
def entropyHealthFail (test now : Nat) (m : Mod) : Mod :=
  let fs := now :: m.keys.fails.filter (fun t => decide (now < t + 1000000000))
  let m := { m with keys := { m.keys with fails := fs } }
  let m := (m.bump 0x643004).raise 0x0A05 [test, fs.length]
  if 3 ≤ fs.length ∧ m.num 0x643002 ≠ 2 then (m.set 0x643002 2).raise 0x0A06 [m.k] else m

/-- ENTROPY_HEALTH_FAIL. -/
def execEntropyHealthFail (test now : Nat) (s : State) : Host.Outcome State Fault Refusal :=
  .next { s with mod := s.mod.awake (entropyHealthFail test now) }

/-- DRBG_RESEED (R498): after 1 s or 2^20 requests. -/
def drbgReseed (m : Mod) : Mod := if m.drbgReady then m.bump 0x643003 else m

/-- DRBG_RESEED. -/
def execDrbgReseed (s : State) : Host.Outcome State Fault Refusal := .next { s with mod := s.mod.awake drbgReseed }

/-- DEBUGGER_ATTACH (R503): the first attachment after a reset, where the life-cycle state leaves core debug open. -/
def debuggerAttach (m : Mod) : Mod :=
  if m.keys.attached ∨ m.debugState = 0 then m
  else { m with keys := { m.keys with attached := true } }.raise 0x0A12 [m.debugState]

/-- DEBUGGER_ATTACH. -/
def execDebuggerAttach (s : State) : Host.Outcome State Fault Refusal := .next { s with mod := s.mod.awake debuggerAttach }

end Sys2Proof.Machine
end

