-- ==== Sys2Proof/Machine/Recorder.lean ====
section
/-!
DEFINITION. The event recorder: records and their slots in MRAM, token buckets, the queue, the restart scan, checkpoints, anchors and
software events (R508-R524). A time `t` is the time since the reset was released, in units of 1/4,096 s (log entry 129).
-/
namespace Sys2Proof.Machine

/-! ## Slots and records (R508, R509) -/

/-- The slot that the record with a SEQ occupies (R508). -/
def slotOfSeq (s : Nat) : Nat := if s < 8192 then s else 8192 + (s - 8192) % 57344

/-- Where slot j lies. -/
def recAt (j : Nat) : Nat := 0x60000000 + 128 * j

/-- The operating time at a time since reset release: it resumes at the end of the restart scan from the newest valid OP_TIME (R514). -/
def Mod.opAt (m : Mod) (t : Nat) : Nat := m.recorder.base + (t - m.recorder.origin)

/-- The 128 octets of a record whose OP_TIME is `op` (R509). -/
def recordOctets (e : RecEntry) (cycle op seq : Nat) : List Byte :=
  let body := toLE 2 e.code ++ toLE 1 e.severity ++ toLE 1 e.source ++ toLE 3 cycle ++ [0] ++ toLE 6 op ++ [0, 0] ++ toLE 6 seq ++
    [0, 0] ++ slice e.payload 0 96
  body ++ toLE 4 (crc32 body) ++ toLE 4 (0x5A5A0000 + seq % 65536)

/-- Whether the octets of slot j are a valid record (R513). -/
def recordValid (j : Nat) (b : List Byte) : Bool :=
  let seq := field b 0x10 6
  field b 0x7E 2 == 0x5A5A && field b 0x7C 2 == seq % 65536 && field b 0x78 4 == crc32 (b.take 0x78) && slotOfSeq seq == j

/-- KEEP_USED and OLDEST_RING_SEQ follow NEXT_SEQ (R508, R523). -/
def Mod.recSync (m : Mod) : Mod :=
  let n := m.num 0x680001
  (m.set 0x680003 (min n 8192)).set 0x680002 (if n ≤ 8192 then 0 else max 8192 (n - 57344))

/-- A record is written to its slot and is durable (R511, R512); what the slot held before is kept for a reset that comes before that. -/
def Mod.writeRecord (m : Mod) (e : RecEntry) : Mod :=
  let seq := m.num 0x680001
  let a := recAt (slotOfSeq seq)
  let m : Mod := { m with recorder := { m.recorder with undo := some (slotOfSeq seq, Memory.readN m.mem a 128) } }
  let m := m.poke a (recordOctets e (m.num 0x680004) (m.opAt e.t) seq)
  (m.set 0x680001 (seq + 1)).recSync

/-- OP_TIME follows the operating time of the commands that carry it (log entry 129). -/
def Mod.opTime (m : Mod) (t : Nat) : Mod := if m.recorder.scanned then m.set 0x680005 (m.opAt t) else m

/-! ## Tokens and the queue (R517-R519) -/

/-- Whether a code never takes a token of its own bucket (R517). -/
def codeExempt (code : Nat) : Bool := decide (code ≤ 2) || code == 0x0110 || code == 0x0A00 || code == 0x0A11

/-- The range of a code (R517). -/
def codeRange (code : Nat) : Nat := if code < 0xC00 then code / 256 else 12

/-- The bucket of a code. -/
def Mod.bucket (m : Mod) (code : Nat) : Bucket := Table.get m.recorder.buckets {} code
/-- A bucket replaced. -/
def Mod.setBucket (m : Mod) (code : Nat) (b : Bucket) : Mod :=
  { m with recorder := { m.recorder with buckets := Table.set m.recorder.buckets {} code b } }

/-- A record takes a token of the global bucket and is written, waits in the queue of 256, or is dropped and counted (R519). Before the
restart scan has completed every record waits (R513). -/
def Mod.submit (m : Mod) (e : RecEntry) : Mod :=
  let r := m.recorder
  if r.scanned ∧ r.queue.isEmpty ∧ !r.dropDue ∧ r.used < 2000 then
    ({ m with recorder := { r with used := r.used + 1 } }).writeRecord e
  else if r.queue.length < 256 then { m with recorder := { r with queue := r.queue ++ [e] } }
  else ({ m with recorder := { r with drops := r.drops + 1, firstDrop := if r.drops = 0 then e.t else r.firstDrop } }).bump 0x680008

/-- The queue is written while the global bucket holds tokens. -/
def drainQueue : Nat → Mod → Mod
  | 0, m => m
  | n + 1, m =>
    let r := m.recorder
    match r.queue with
    | e :: q =>
      if 2000 ≤ r.used then m
      else
        let m : Mod := { m with recorder := { r with used := r.used + 1, queue := q, dropDue := q.isEmpty && decide (0 < r.drops) } }
        drainQueue n (m.writeRecord e)
    | [] => m

/-- An occurrence suppressed and counted, for its code and in 0x6800.07 (R517). -/
def Mod.suppress (m : Mod) (e : RecEntry) : Mod :=
  let b := m.bucket e.code
  let first := if b.count = 0 then e.t else b.first
  (m.setBucket e.code { b with count := b.count + 1, first := first, last := e.t, payload := e.payload }).bump 0x680007

/-- An occurrence takes a token of its code's bucket and is submitted, or is suppressed and counted (R517). -/
def Mod.occur (m : Mod) (e : RecEntry) : Mod :=
  let b := m.bucket e.code
  if codeExempt e.code then m.submit e
  else if b.used < m.num 0x682002 (codeRange e.code) then (m.setBucket e.code { b with used := b.used + 1 }).submit e
  else m.suppress e

/-- The payload of a hardware event: its fields in order, each of its width (R509; log entry 130). -/
def payloadOctets (code : Nat) (fields : List Nat) : List Byte :=
  ((List.range fields.length).zip fields).flatMap (fun e => toLE (Config.payloadWidth code e.1) e.2)

/-- The record of a hardware event; 0x0A11 comes from the boot ROM (R509, R510). -/
def evRecord (e : Ev) (t : Nat) : RecEntry :=
  { code := e.code, severity := Config.eventLevel e.code % 5, source := if e.code = 0x0A11 then 0xFE else 0, payload := payloadOctets e.code e.payload, t := t }

/-- The event that takes its SEQ first among `same` events raised in one cycle: the one of the lowest code (R512). -/
def firstEvent (same : Nat) (l : List Ev) : Option Ev :=
  (l.take (max same 1)).foldl (fun (o : Option Ev) e => match o with
    | some a => if e.code < a.code then some e else o
    | none => some e) none

/-- EVENT_RAISED (R512, R517, R519): the next raised event takes its tokens and is recorded, queued or suppressed. `same` is how many of the
events raised belong to one cycle: they go in ascending order of their codes. -/
def eventRaised (same t : Nat) (m : Mod) : Mod :=
  match firstEvent same m.raised with
  | some e => (({ m with raised := dropFirst e m.raised }).occur (evRecord e t)).opTime t
  | none => m

/-- EVENT_RAISED. -/
def execEventRaised (same t : Nat) (s : State) : Host.Outcome State Fault Refusal := .next { s with mod := s.mod.awake (eventRaised same t) }

/-- A record of the recorder's own, SOURCE 0xFF; its codes have levels like every hardware code. -/
def ownRecord (code : Nat) (payload : List Byte) (t : Nat) : RecEntry :=
  { code := code, severity := Config.eventLevel code % 5, source := 0xFF, payload := payload, t := t }

/-- CODE_TOKEN_REFILL (R517, R518): a code's bucket regains a token; where occurrences have been suppressed the token goes to a summary. -/
def codeTokenRefill (code t : Nat) (m : Mod) : Mod :=
  let b := m.bucket code
  if b.used = 0 then m
  else if b.count = 0 then (m.setBucket code { b with used := b.used - 1 }).opTime t
  else
    let p := toLE 2 code ++ [0, 0] ++ toLE 4 (min b.count 0xFFFFFFFF) ++ toLE 6 (m.opAt b.first) ++ [0, 0] ++ toLE 6 (m.opAt b.last) ++ [0, 0] ++
      slice b.payload 0 72
    ((m.setBucket code { used := b.used }).submit (ownRecord 0x0002 p t)).opTime t

/-- CODE_TOKEN_REFILL. -/
def execCodeTokenRefill (code t : Nat) (s : State) : Host.Outcome State Fault Refusal := .next { s with mod := s.mod.awake (codeTokenRefill code t) }

/-- The record of drops, code 0x0003, written with the next global token; it is subject to the bucket of its own code, which R517 does not except
(R519; log entry 132). -/
def Mod.writeDrops (m : Mod) (t : Nat) : Mod :=
  let r := m.recorder
  let e := ownRecord 0x0003 (toLE 4 r.drops ++ toLE 6 (m.opAt r.firstDrop)) t
  let b := m.bucket 0x0003
  let m : Mod := { m with recorder := { r with drops := 0, firstDrop := 0, dropDue := false } }
  if b.used < m.num 0x682002 0 then
    let m := m.setBucket 0x0003 { b with used := b.used + 1 }
    { m with recorder := { m.recorder with used := m.recorder.used + 1 } }.writeRecord e
  else m.suppress e

/-- GLOBAL_TOKEN_REFILL (R519): the global bucket regains a token. The record of drops takes it when it is due, otherwise the queue. -/
def globalTokenRefill (t : Nat) (m : Mod) : Mod :=
  let r := m.recorder
  let m : Mod := { m with recorder := { r with used := r.used - 1 } }
  if !r.scanned then m
  else if r.dropDue then (m.writeDrops t).opTime t
  else (drainQueue 1 m).opTime t

/-- GLOBAL_TOKEN_REFILL. -/
def execGlobalTokenRefill (t : Nat) (s : State) : Host.Outcome State Fault Refusal := .next { s with mod := s.mod.awake (globalTokenRefill t) }

/-! ## The restart scan (R513, R514) -/

/-- The slots of the area that are not all zero, in rising order. -/
def usedSlots (mem : Memory) : List Nat :=
  (mem.foldl (fun (l : List Nat) e =>
    if 0x60000000 ≤ e.1 ∧ e.1 < 0x60800000 then
      let j := (e.1 - 0x60000000) / 128
      if l.head? = some j then l else j :: l
    else l) []).reverse

/-- The octets of slot j. -/
def Mod.slotOctets (m : Mod) (j : Nat) : List Byte := Memory.readN m.mem (recAt j) 128

/-- The valid record with the highest SEQ. -/
def Mod.newestRecord (m : Mod) : Option (List Byte) :=
  (((usedSlots m.mem).map (fun j => (j, m.slotOctets j))).filter (fun e => recordValid e.1 e.2)).foldl (fun (o : Option (List Byte)) e => match o with
    | some a => if field a 0x10 6 < field e.2 0x10 6 then some e.2 else o
    | none => some e.2) none

/-- RECORDER_SCAN_DONE (R513, R514): the next SEQ, the power-cycle count and the operating time follow the newest valid record; the power-up
record is written, and the records that waited after it. -/
def recorderScanDone (t : Nat) (m : Mod) : Mod :=
  if m.recorder.scanned ∨ m.power.held ≠ 0 then m
  else
    let bad := ((usedSlots m.mem).filter (fun j => !recordValid j (m.slotOctets j))).length
    let newest := m.newestRecord
    let next := match newest with | some b => field b 0x10 6 + 1 | none => 0
    let cycle := match newest with | some b => (field b 0x04 3 + 1) % 2 ^ 24 | none => 0
    let base := match newest with | some b => field b 0x08 6 | none => 0
    let m := ((m.set 0x680006 bad).set 0x680001 next).set 0x680004 cycle
    let m : Mod := { m with recorder := { m.recorder with scanned := true, base := base, origin := t, used := m.recorder.used + 1 } }
    let p := toLE 1 (m.num 0x203002) ++ toLE 1 m.lcState ++ toLE 4 bad
    let m := m.writeRecord (ownRecord 0x0000 p t)
    (drainQueue 256 m).opTime t

/-- RECORDER_SCAN_DONE. -/
def execRecorderScanDone (t : Nat) (s : State) : Host.Outcome State Fault Refusal := .next { s with mod := s.mod.awake (recorderScanDone t) }

/-! ## Checkpoints, anchors, software events (R515, R516, R522) -/

/-- OP_TIME_CHECKPOINT (R515): code 0x0001 with no payload. -/
def opTimeCheckpoint (t : Nat) (m : Mod) : Mod := if m.recorder.scanned then (m.submit (ownRecord 0x0001 [] t)).opTime t else m

/-- OP_TIME_CHECKPOINT. -/
def execOpTimeCheckpoint (t : Nat) (s : State) : Host.Outcome State Fault Refusal := .next { s with mod := s.mod.awake (opTimeCheckpoint t) }

/-- ANCHOR_WRITE (R516): TAI, TIME_QUALITY, k and TIME_STATE at one instant, code 0x0110. -/
def anchorWrite (path : Path) (v t now : Nat) (m : Mod) : Mod :=
  if v ≠ 1 then m.report path abValue
  else m.served path (fun m =>
    let p := toLE 8 (m.tb now) ++ toLE 1 m.timeQuality ++ toLE 8 m.k ++ toLE 1 (m.num 0x3C0001)
    (m.submit (ownRecord 0x0110 p t)).opTime t)

/-- ANCHOR_WRITE. -/
def execAnchorWrite (path : Path) (v t now : Nat) (s : State) : Host.Outcome State Fault Refusal :=
  .next { s with mod := s.mod.gate path (fun (m : Mod) => anchorWrite path v t now m) }

/-- SW_WRITE (R522): an event of the supervisor, or one it relays for a tenant, as the SW objects describe it. -/
def swWrite (path : Path) (v t : Nat) (m : Mod) : Mod :=
  let code := m.num 0x683001
  let sev := m.num 0x683002
  let src := m.num 0x683003
  if v ≠ 1 ∨ code < 0x8000 ∨ 4 < sev ∨ !((decide (1 ≤ src) && decide (src ≤ 64)) || src == 0x80) then m.report path abValue
  else m.served path (fun m => (m.occur { code := code, severity := sev, source := src, payload := m.oct 0x683004, t := t }).opTime t)

/-- SW_WRITE. -/
def execSwWrite (path : Path) (v t : Nat) (s : State) : Host.Outcome State Fault Refusal :=
  .next { s with mod := s.mod.gate path (fun (m : Mod) => swWrite path v t m) }

/-- RECORD: the record whose SEQ is READ_SEQ, or nothing where it is no longer held or has not been written (R521). -/
def Mod.recordRead (m : Mod) : List Byte :=
  let seq := m.num 0x681001
  let b := m.slotOctets (slotOfSeq seq)
  if recordValid (slotOfSeq seq) b && field b 0x10 6 == seq then b else []

end Sys2Proof.Machine
end

