-- ==== Sys2Proof/Machine/Power.lean ====
section
/-!
DEFINITION. Reset and its causes, the life-cycle change, start-up and secure boot, voltage scaling, clocks, temperature and the watchdog
(R477-R481, R500, R501, R525-R545).
-/
namespace Sys2Proof.Machine

/-! ## The reset state (R199, R532, R536, R537) -/

/-- Whether an address lies in MRAM, whose contents a reset keeps. -/
def isMram (a : Nat) : Bool := decide (0x60000000 ≤ a ∧ a < 0x61000000)

/-- What an interrupted record leaves (R511, R512): with `torn` 1 the reset came before the record's first words were written, with 2 before its
last; either way the word at 0x78 is zero. -/
def Mod.tearRecord (m : Mod) (torn : Nat) : Mod :=
  match m.recorder.undo with
  | some (j, old) =>
    if torn = 1 then m.poke (recAt j) (old.take 0x78 ++ List.replicate 8 0)
    else if torn = 2 then m.poke (recAt j + 0x78) (List.replicate 8 0)
    else m
  | none => m

/-- MRAM words written and not yet durable: each keeps its old value, its new one, or holds undefined content, a free value (R200). -/
def Mod.tearMram (m : Mod) : Mod :=
  m.each (m.ten.harts.flatMap (fun e => e.2.mramPend)) (fun m a =>
    let (v, m) := m.draw 64
    m.poke a (toLE 8 v))

/-- A module of which fuses, MRAM and what has left it alone are kept, held in reset by a cause. -/
def Mod.cleared (m : Mod) (cause : Nat) : Mod :=
  { nv := m.nv, mem := m.mem.filter (fun e => isMram e.1), out := m.out, freeCount := m.freeCount,
    power := { held := cause, cause := cause, tempMax := m.power.tempMax, trip := m.num 0x206004 } }

/-- The bridge entries that a reset leaves: a hart's read that waits is quarantined with its GEN, and what was in quarantine stays there (R296). -/
def Mod.quarantined (m : Mod) : Table TagSt :=
  (m.welt.tags.filter (fun e => e.2.state == .quarantine || (e.2.state == .waiting && (match e.2.master with
    | .hart _ => true
    | _ => false)))).map (fun e => (e.1, { gen := e.2.gen, state := .quarantine, outstanding := true }))

/-- XSPI_RESET_N driven (R561). -/
def Mod.setXspi (m : Mod) (level : Bool) : Mod :=
  if m.power.xspi = level then m else { m with power := { m.power with xspi := level } }.emit (.xspiReset level)

/-- The reset state with a cause: everything but fuses, MRAM, reads in quarantine and what has left the module is as at power-on, and the Lace line is
OFF. -/
def Mod.resetState (m : Mod) (cause torn : Nat) : Mod :=
  let tags := m.quarantined
  let m := ((((m.tearRecord torn).tearMram).setDrive .off).setXspi false).cleared cause
  { m with welt := { m.welt with tags := tags } }.set 0x613001 tags.length

/-- RESET_ASSERT (R532): RESET_N falls. `low` says how far a record under way had come, 0 where none was; a low shorter than 50 ns, none here, is
ignored (R559). -/
def resetAssert (low : Option Nat) (m : Mod) : Mod :=
  match low with
  | some torn => m.resetState 1 torn
  | none => m

/-- RESET_ASSERT. -/
def execResetAssert (low : Option Nat) (s : State) : Host.Outcome State Fault Refusal :=
  .next { s with mod := resetAssert low s.mod }

/-! ## Start-up, steps 1 to 5 (R234, R481, R497, R538) -/

/-- A new LC_NONCE from the DRBG (R479). -/
def Mod.newNonce (m : Mod) : Mod :=
  let (n, m) := m.drawOctets 16
  m.setOct 0x640003 n

/-- The module out of reset, its voltage loop started (R528, R538). -/
def Mod.released (m : Mod) : Mod := { m with power := { m.power with held := 0, avs := true } }

/-- The end of a reset: TRIAD_POS is sampled, partly blown fuse groups are completed, the fuses read and the voltage loop started; the DRBG is
instantiated and LC_NONCE drawn. Start-up stands at step 4. `pos` is TRIAD_POS, `ref` the REFCLK pairs present. -/
def Mod.startUp (m : Mod) (pos ref : Nat) : Mod :=
  let cause := m.power.held
  let m := m.released
  let m : Mod := { m with nv := { m.nv with fuses := { m.nv.fuses with groups := m.nv.fuses.groups.map (fun g => if g = 0 then 0 else 255) } } }
  let m := ((m.set 0x203002 cause).set 0x600001 (pos % 4)).set 0x205002 (ref % 4096)
  let m := (((m.set 0x205003 15).set 0x204003 m.nv.fuses.vcoreMin).set 0x206002 m.power.tempMax).set 0x206005 m.power.tempMax
  let m := ((m.set 0x643002 1).set 0x643005 m.nv.ledger.length).newNonce
  (((m.set 0x203001 1).stepDone 1).stepDone 2).stepDone 3

/-- RESET_RELEASE (R538): RESET_N rises. A module whose TEST balls are not all low enters a factory test mode and does not start (R554): it stays
held until RESET_N falls again. -/
def resetRelease (pins : Straps) (ref : Nat) (m : Mod) : Mod :=
  if m.power.held ≠ 1 ∨ m.power.factory then m
  else if pins.test then { m with power := { m.power with factory := true } }
  else m.startUp pins.pos ref

/-- RESET_RELEASE. -/
def execResetRelease (pins : Straps) (ref : Nat) (s : State) : Host.Outcome State Fault Refusal :=
  .next { s with mod := resetRelease pins ref s.mod }

/-- INTERNAL_RESET_END (R536): an internal reset's hold ends; a thermal reset is held until the hottest sensor reads TEMP_TRIP - 15 °C or less. -/
def internalResetEnd (pos ref : Nat) (m : Mod) : Mod :=
  let p := m.power
  if p.held < 2 ∨ (p.held = 6 ∧ !b32.le p.tempMax (b32.sub p.trip 0x41700000)) then m else m.startUp pos ref

/-- INTERNAL_RESET_END. -/
def execInternalResetEnd (pos ref : Nat) (s : State) : Host.Outcome State Fault Refusal := .next { s with mod := internalResetEnd pos ref s.mod }

/-- The boot key of the life-cycle state: KEY_SEL and the fused hash (R477). -/
def Mod.bootKey (m : Mod) : Option (Nat × List Byte) :=
  let f := m.nv.fuses
  let st := m.lcState
  if st = lcManufactured ∨ st = lcReturned ∨ (st = lcProvisioned ∧ f.okHash.isEmpty) then some (0, f.vkHash)
  else if st = lcProvisioned ∨ st = lcOperational then some (1, f.okHash)
  else none

/-- Why the boot ROM does not accept a copy, in the order of R501: 1 read, 2 header, 3 key hash, 4 signature, 5 SVN, 6 serial, 7 range; 0 accepts.
`none` is a copy that could not be read. -/
def Mod.copyCause (m : Mod) (copy : Option (List Byte)) : Nat :=
  match copy with
  | none => 1
  | some b =>
    let len := field b 0x8 4
    let off := field b 0xC 4
    let entry := field b 0x10 4
    let key := slice b 0x100 97
    match m.bootKey with
    | none => 2
    | some (sel, hash) =>
      if slice b 0 4 ≠ [0x4B, 0x42, 0x4F, 0x54] ∨ field b 4 2 ≠ 1 ∨ field b 6 1 ≠ sel ∨ 2 < field b 7 1 ∨
          !(slice b 0x18 32).all (fun x => decide (0x20 ≤ x.toNat ∧ x.toNat ≤ 0x7E)) then 2
      else if Config.sha384 key ≠ hash then 3
      else if !Config.ecdsaOk key (slice b 0x180 96) (b.take 0x180 ++ slice b 0x1000 len) then 4
      else if field b 0x14 4 < m.nv.fuses.minSvn ∨ 64 < field b 0x14 4 then 5
      else if field b 0x38 4 ≠ 0 ∧ field b 0x38 4 ≠ m.num 0x101804 then 6
      else if len < 4 ∨ 4194304 < len ∨ off % 4096 ≠ 0 ∨ 0x600000 < off + len ∨ entry < off ∨ off + len ≤ entry then 7
      else 0

/-- The image stored for engine g, where it passes the check: STOPPED (R175). -/
def Mod.loadStoredEngine (m : Mod) (g : Nat) (img : List Byte) : Mod :=
  let m := m.setEngine g { m.engine g with image := img }
  if logicCheck g img (m.loadedOwn g) false % 8192 = 0 then
    loadEngine g (m.set 0x581010 (field img (img.length - 4) 4) g)
  else m

/-- Step 6 as the module carries it out: the start-up Last, the profile banks and the logic images (R31, R88, R175). The objects stand at their
defaults since the reset (R9). -/
def Mod.loadDefaults (m : Mod) : Mod :=
  let m := m.loadStartLast.showBounds.each ((List.range 60).map (· + 4)) Mod.loadProfile
  m.each m.nv.logic (fun m e => m.loadStoredEngine e.1 e.2)

/-- A copy accepted: its image in supervisor SRAM, the supervisor started at ENTRY; step 6 begins (R501, R538). -/
def Mod.bootFrom (m : Mod) (copy causeA : Nat) (b : List Byte) : Mod :=
  let svn := field b 0x14 4
  let sel := field b 6 1
  let m := (((m.set 0x644001 copy).set 0x644002 svn).set 0x644003 causeA).set 0x644004 sel
  let m := (m.setOct 0x100A00 (slice b 0x18 32)).raise 0x0A10 [copy, svn, sel]
  let m := (m.poke (0x20000000 + field b 0xC 4) (slice b 0x1000 (field b 0x8 4))).emit (.boot (field b 0x10 4))
  ((m.stepDone 4).stepDone 5).loadDefaults

/-- SECURE_BOOT (R501, R561): XSPI_RESET_N rises before the first read; copy A is tried, then copy B; where neither is accepted, event 0x0A11 and the boot ROM halts. -/
def secureBoot (a b : Option (List Byte)) (m : Mod) : Mod :=
  if m.num 0x203001 ≠ 4 ∨ m.power.halted then m
  else
    let m := m.setXspi true
    let ca := m.copyCause a
    let cb := m.copyCause b
    if ca = 0 then m.bootFrom 0 0 (a.getD [])
    else if cb = 0 then m.bootFrom 1 ca (b.getD [])
    else (({ m with power := { m.power with halted := true } }).set 0x644003 (ca + 256 * cb)).raise 0x0A11 [ca, cb]

/-- SECURE_BOOT. -/
def execSecureBoot (a b : Option (List Byte)) (s : State) : Host.Outcome State Fault Refusal := .next { s with mod := secureBoot a b s.mod }

/-! ## Start-up, steps 6 to 8 (R538) -/

/-- CONFIG_DONE (R538): a write of 1 in step 6 completes it, and lane training begins. -/
def configDone (path : Path) (v : Nat) (m : Mod) : Mod :=
  if v ≠ 1 then m.report path abValue else m.served path (fun m => m.stepDone 6)

/-- CONFIG_DONE. -/
def execConfigDone (path : Path) (v : Nat) (s : State) : Host.Outcome State Fault Refusal :=
  .next { s with mod := s.mod.access path (fun (m : Mod) => configDone path v m) }

/-- LANES_UP_COMPLETE (R538): step 7 completes when every Welt link with LANES other than 0 is out of TRAIN, or 100 ms have elapsed. -/
def lanesUpComplete (elapsed : Bool) (m : Mod) : Mod :=
  if elapsed || (List.range 24).all (fun l => m.num 0x611001 l == 0 || m.lkState l != lkTrain) then m.stepDone 7 else m

/-- LANES_UP_COMPLETE. -/
def execLanesUpComplete (elapsed : Bool) (s : State) : Host.Outcome State Fault Refusal := .next { s with mod := lanesUpComplete elapsed s.mod }

/-! ## Internal resets (R535, R536) -/

/-- SYSCLK_LOSS (R535): cause 7. -/
def sysclkLoss (m : Mod) : Mod := if m.power.held = 1 then m else m.resetState 7 0

/-- SYSCLK_LOSS. -/
def execSysclkLoss (s : State) : Host.Outcome State Fault Refusal := .next { s with mod := sysclkLoss s.mod }

/-- JTAG_RESET (R536): a system reset through the debug module, where core debug is open (R503): cause 5. -/
def jtagReset (m : Mod) : Mod := if m.power.held ≠ 0 ∨ m.debugState = 0 then m else m.resetState 5 0

/-- JTAG_RESET. -/
def execJtagReset (s : State) : Host.Outcome State Fault Refusal := .next { s with mod := jtagReset s.mod }

/-- Whether WDT_PERIOD has elapsed without a kick (R536). -/
def Mod.wdtDue (m : Mod) (now : Nat) : Bool := m.num 0x203006 != 0 && decide (m.power.wdtAt + m.num 0x203006 * 1000000 ≤ now)

/-- SW_RESET (R536): 0xA5 written from M mode to aperture 0, or through the supervisor's dictionary port: cause 3, or 4 where the watchdog expires in
the same cycle (R543). Any other path or value is refused. -/
def swReset (aperture : Bool) (path : Path) (mMode : Bool) (v now : Nat) (m : Mod) : Mod :=
  if v = 0xA5 ∧ (if aperture then mMode else path == .supervisor) then m.resetState (if m.wdtDue now then 4 else 3) 0 else m.report path abAccess

/-- SW_RESET. -/
def execSwReset (aperture : Bool) (path : Path) (mMode : Bool) (v : Timed Nat) (s : State) : Host.Outcome State Fault Refusal :=
  .next { s with mod := s.mod.access path (fun (m : Mod) => swReset aperture path mMode v.it v.now m) }

/-- WATCHDOG_EXPIRY (R536): WDT_PERIOD has elapsed without a kick: cause 4. -/
def watchdogExpiry (now : Nat) (m : Mod) : Mod :=
  if m.power.held ≠ 0 ∨ !m.wdtDue now then m else m.resetState 4 0

/-- WATCHDOG_EXPIRY. -/
def execWatchdogExpiry (now : Nat) (s : State) : Host.Outcome State Fault Refusal := .next { s with mod := watchdogExpiry now s.mod }

/-- WDT_KICK (R536, R544): 0x5A written from M mode, at aperture 0 or through the object, begins the period again. -/
def wdtKick (path : Path) (mMode : Bool) (v now : Nat) (m : Mod) : Mod :=
  if !mPath path mMode then m.report path abAccess
  else if v ≠ 0x5A then m.report path abValue
  else m.served path (fun m => { m with power := { m.power with wdtAt := now } })

/-- WDT_KICK. -/
def execWdtKick (path : Path) (mMode : Bool) (v now : Nat) (s : State) : Host.Outcome State Fault Refusal :=
  .next { s with mod := s.mod.access path (fun (m : Mod) => wdtKick path mMode v now m) }

/-! ## The life-cycle change (R477-R480) -/

/-- Whether a transition is listed, and which signatures its token carries: vendor, owner (R478). -/
def lcTransition (a b : Nat) : Option (Bool × Bool) :=
  if a = lcBlank ∧ b = lcManufactured then some (false, false)
  else if a = lcManufactured ∧ b = lcProvisioned then some (true, false)
  else if a = lcProvisioned ∧ b = lcOperational then some (false, true)
  else if (a = lcProvisioned ∨ a = lcOperational) ∧ b = lcReturned then some (true, true)
  else if (a = lcBlank ∨ a = lcManufactured ∨ a = lcReturned) ∧ b = lcScrapped then some (false, false)
  else if (a = lcProvisioned ∨ a = lcOperational) ∧ b = lcScrapped then some (false, true)
  else none

/-- Whether a signature field is as its transition needs: valid under a public key whose hash is fused, or all zero (R479). -/
def sigOk (needed : Bool) (key hash sig data : List Byte) : Bool :=
  if needed then Config.sha384 key == hash && Config.ecdsaOk key sig data else sig.all (· == 0)

/-- LC_RESULT of a request for a target state: PASS, or the checks that failed (R478, R479). -/
def Mod.lcResult (m : Mod) (target : Nat) : Nat :=
  let st := m.lcState
  let f := m.nv.fuses
  match lcTransition st target with
  | none => 1
  | some (v, o) =>
    let t := m.keys.token
    let pre := m.stopped &&
      (if st = lcBlank ∧ target = lcManufactured then f.roots.all (fun r => !r.isEmpty) && !f.vkHash.isEmpty
       else if st = lcProvisioned ∧ target = lcOperational then !f.okHash.isEmpty else true)
    let fields := t.length == 224 && slice t 0 4 == [0x4C, 0x43, 0x54, 0x4B] && beNat (slice t 4 4) == m.num 0x101804 &&
      field t 8 1 == st && field t 9 1 == target && slice t 12 16 == m.oct 0x640003
    let sigs := sigOk v (m.oct 0x64000C) f.vkHash (slice t 32 96) (t.take 32) && sigOk o (m.oct 0x64000D) f.okHash (slice t 128 96) (t.take 32)
    if pre && fields && sigs && m.drbgReady then 2 ^ 31
    else 2 * b2n (!pre) + 4 * b2n (!fields) + 8 * b2n (!sigs) + 16 * b2n (!m.drbgReady)

/-- The configuration area of MRAM erased, with all that is stored there (R480, R496). -/
def Mod.eraseConfig (m : Mod) : Mod :=
  { m with nv := { fuses := m.nv.fuses }, mem := m.mem.filter (fun e => !decide (0x60800000 ≤ e.1 ∧ e.1 < 0x61000000)) }

/-- LIFECYCLE_CHANGE (R478-R480): a write of LC_TARGET, in BLANK through JTAG, which also writes LC_TOKEN (`jtag`), otherwise by the
supervisor in M mode. A refused request is
reported and draws a new nonce. An accepted one erases the configuration area on entry to RETURNED or SCRAPPED, blows the fuse groups, records
event 0x0A00 and resets the module with cause 2, which zeroises the keys. -/
def lifecycleChange (path : Path) (mMode : Bool) (jtag : Option (List Byte)) (target t : Nat) (m : Mod) : Mod :=
  let st := m.lcState
  if (st = lcBlank ∧ jtag.isNone) ∨ (st ≠ lcBlank ∧ (jtag.isSome || !mPath path mMode)) then m.report path abAccess
  else
    let m : Mod := match jtag with
      | some token => { m with keys := { m.keys with token := token } }
      | none => m
    let r := m.lcResult target
    let m := (m.set 0x640005 r).report path 0
    if r ≠ 2 ^ 31 then (m.raise 0x0A01 [target, r]).newNonce
    else
      let m := if target < lcReturned then m else m.eraseConfig
      let groups := (List.range 5).map (fun g => if g < target then 255 else m.nv.fuses.groups.getD g 0)
      let m : Mod := { m with nv := { m.nv with fuses := { m.nv.fuses with groups := groups } } }
      let m := m.occur (evRecord { code := 0x0A00, payload := [st, target] } t)
      m.resetState 2 0

/-- LIFECYCLE_CHANGE. -/
def execLifecycleChange (path : Path) (mMode : Bool) (jtag : Option (List Byte)) (target t : Nat) (s : State) : Host.Outcome State Fault Refusal :=
  .next { s with mod := s.mod.access path (fun (m : Mod) => lifecycleChange path mMode jtag target t m) }

/-! ## Voltage scaling (R528-R530) -/

/-- A voltage command on AVSBus that draws no valid response `fails` times: it is tried three times, and then the loop stops commanding,
event 0x0012 (R530). -/
def Mod.avsSend (m : Mod) (mV fails : Nat) : Mod :=
  if fails < 3 then
    let m : Mod := { m with power := { m.power with avsStopped := false } }
    ((m.bump 0x204008 0 (fails + 1)).set 0x204002 mV).emit (.avs mV true)
  else
    let m : Mod := { m with power := { m.power with avsStopped := true } }
    (((m.bump 0x204008 0 3).bump 0x204009).raise 0x0012 [mV, m.num 0x204002]).emit (.avs mV false)

/-- A step of 5 mV up or down; one that a limit would cross is not sent, and event 0x0010 is raised once for each arrival (R528). -/
def Mod.avsMove (m : Mod) (up : Bool) (fails : Nat) : Mod :=
  let v := m.num 0x204002
  let lim : VLimit := if up then .high else .low
  let bound := if up then 850 else m.num 0x204003
  if (up ∧ bound < v + 5) ∨ (!up ∧ v < bound + 5) then
    if m.power.limit = some lim then m
    else ({ m with power := { m.power with limit := some lim } }).raise 0x0010 [bound, m.num 0x204004]
  else ({ m with power := { m.power with limit := none } }).avsSend (if up then v + 5 else v - 5) fails

/-- AVS_SAMPLE (R528, R529): every 10 µs the smallest reading in ps becomes the slack; `fails` is how often a command that follows draws no
valid response. -/
def avsSample (slack fails : Nat) (m : Mod) : Mod :=
  if !m.power.avs then m
  else
    let m := m.set 0x204004 slack
    let m := if slack < m.num 0x204007 then m.raise 0x0011 [slack, m.num 0x204002] else m
    let p := m.power
    if !m.on 0x204001 ∨ p.avsStopped then m
    else if slack < m.num 0x204005 ∨ slack < m.num 0x204007 then
      let m : Mod := { m with power := { p with lowRun := p.lowRun + 1, highRun := 0 } }
      if p.lowRun % 2 = 0 then m.avsMove true fails else m
    else if m.num 0x204006 < slack then
      if p.highRun + 1 < 100 then { m with power := { p with lowRun := 0, highRun := p.highRun + 1 } }
      else ({ m with power := { p with lowRun := 0, highRun := 0 } }).avsMove false fails
    else { m with power := { p with lowRun := 0, highRun := 0 } }

/-- AVS_SAMPLE. -/
def execAvsSample (slack fails : Nat) (s : State) : Host.Outcome State Fault Refusal := .next { s with mod := avsSample slack fails s.mod }

/-- AVSBUS_RETRY (R530): the stopped loop tries again with the voltage commanded last. -/
def avsbusRetry (fails : Nat) (m : Mod) : Mod := if m.power.avsStopped then m.avsSend (m.num 0x204002) fails else m

/-- AVSBUS_RETRY. -/
def execAvsbusRetry (fails : Nat) (s : State) : Host.Outcome State Fault Refusal := .next { s with mod := avsbusRetry fails s.mod }

/-! ## Clocks and temperature (R535, R541, R542) -/

/-- REFCLK_LOSS (R535): pair j is lost, taking the lanes it serves out of lock, or returns; event 0x0021. -/
def refclkLoss (j : Nat) (present : Bool) (m : Mod) : Mod :=
  if 11 < j ∨ m.power.held ≠ 0 ∨ bit (m.num 0x205002) j = present then m
  else
    let m := (m.set 0x205002 (setBit (m.num 0x205002) j present)).raise 0x0021 [j, b2n present]
    if present then m
    else
      let lanes := (List.range 16).map (· + 16 * j)
      let m := m.each lanes (fun m l => m.set 0x310005 0 l)
      let m := m.each (lanes.flatMap lanePorts) (fun m p => portLinkLoss p 1 m)
      m.each [2 * j, 2 * j + 1] (fun m l => m.linkDown l 1)

/-- REFCLK_LOSS. -/
def execRefclkLoss (j : Nat) (present : Bool) (s : State) : Host.Outcome State Fault Refusal := .next { s with mod := refclkLoss j present s.mod }

/-- The hottest of the sensors: its number and its reading. -/
def hottest (temps : List Nat) : Nat × Nat :=
  ((List.range temps.length).zip temps).foldl (fun a e => if b32.lt a.2 e.2 then e else a) (0, temps.headD 0)

/-- The warning of R541: set at TEMP_WARN, cleared 5 °C below it, event 0x0020 at either. -/
def Mod.thermalWarn (m : Mod) (sensor t : Nat) : Mod :=
  let warn := m.num 0x206003
  if m.power.warning ∧ b32.le t (b32.sub warn 0x40A00000) then
    ({ m with power := { m.power with warning := false } }).raise 0x0020 [t, sensor]
  else if !m.power.warning ∧ b32.le warn t then
    ({ m with power := { m.power with warning := true } }).raise 0x0020 [t, sensor]
  else m

/-- THERMAL_SAMPLE (R541): the sensors' readings, binary32 patterns in °C. At TEMP_TRIP the module resets itself with cause 6. -/
def thermalSample (temps : List Nat) (m : Mod) : Mod :=
  let (i, t) := hottest temps
  let m : Mod := { m with power := { m.power with tempMax := t } }
  if m.power.held ≠ 0 then m
  else
    let m := m.each ((List.range 16).zip temps) (fun m e => m.set 0x206001 e.2 e.1)
    let m := m.set 0x206002 t
    let m := if b32.lt (m.num 0x206005) t then m.set 0x206005 t else m
    let m := m.thermalWarn i t
    if b32.le (m.num 0x206004) t then m.resetState 6 0 else m

/-- THERMAL_SAMPLE. -/
def execThermalSample (temps : List Nat) (s : State) : Host.Outcome State Fault Refusal := .next { s with mod := thermalSample temps s.mod }

/-- The SMBus target's registers 0x00 to 0x03 (R542); those of the running module read 0 in reset. -/
def Mod.smbus (m : Mod) (r : Nat) : Nat :=
  let run := m.power.held == 0
  match r with
  | 0 => ofInt 8 (satInt 8 (b32.floor m.power.tempMax))
  | 1 => if run then b2n m.power.warning + 2 * b2n (m.num 0x203001 == 11) + 4 * b2n m.isMember + 8 * b2n m.power.limit.isSome else 0
  | 2 => if run then (m.num 0x204002 - 500) / 5 else 0
  | 3 => m.power.cause
  | _ => 0

end Sys2Proof.Machine
end

