-- ==== Sys2Proof/Machine/Publish.lean ====
section
/-!
DEFINITION. Publication: the publish entries handed to egress at P start, their bound, the guard time, and the retransmissions from the hold
register (R30, R39-R42, R213, R214, R250, R259, R263, R492-R494).
-/
namespace Sys2Proof.Machine

/-- GUARD_TIME_START (R41): a port that carries a publish entry starts no SC1 to SC7 frame from the guard time before P start on. -/
def guardTimeStart (p : Nat) (m : Mod) : Mod :=
  if !m.tick.running ∨ !(lastPubs m.activeLast).any (fun e => (m.entryPorts e).contains p) then m
  else m.setPort p { m.port p with guard := true }

/-- GUARD_TIME_START. -/
def execGuardTimeStart (p : Nat) (s : State) : Host.Outcome State Fault Refusal := .next { s with mod := s.mod.awake (guardTimeStart p) }

/-! ## Frames as they are sent (R213, R492) -/

/-- A tenant slot's frame as it becomes due, with its vector and tag where KEY_SLOT is set; none where its key blocks it. N advances in either
case (R488, R493, R494). -/
def Mod.dueFrame (m : Mod) (i : Nat) (f : List Byte) : Option (List Byte) × Mod :=
  let slot := m.num 0x513009 i
  if slot = 0xFFFF then (some f, m)
  else match m.nextInv slot with
    | (some (key, iv), m) => (some (tagFrame f key iv (m.num 0x51300A i)), m)
    | (none, m) => (none, m)

/-- Whether the module computes the voted schedule: a MEMBER, and a module in SHADOW, which follows it (log entry 113). -/
def Mod.onSchedule (m : Mod) : Bool := m.isMember || m.mstate == msShadow

/-- The bound of R38 in the present tick: its start plus 200 µs, or 240 µs at 4,000 Hz. -/
def Mod.bound (m : Mod) : Nat := rowInstant m.tick.sec m.tick.q m.hz + (if m.num 0x200001 = 0 then 200000 else 240000)

/-- One publish entry at P start: what was voted in this tick is sent where the gate is open. `late` are the ports on which it is not bound-eligible. -/
def Mod.publishEntry (m : Mod) (now e : Nat) (late : List Nat) : Mod :=
  let o := pubObject e
  let bound := fun (p : Nat) => if late.contains p then none else some m.bound
  let gate := m.triad.gateAtP
  if pubKind e = 2 then
    let x := m.sc0 o
    if x.frame.isEmpty ∨ x.frameTick ≠ m.k ∨ !gate then m else (m.inject x.frame 1 now bound).bump 0x516002 o
  else if pubKind e = 1 ∧ pubTenant e = 0 then
    let x := Table.get m.triad.hold.slots {} o
    if x.chg = some m.k ∧ gate then m.injectLogic o x 1 now bound else m
  else if pubKind e = 1 then
    let n := pubInst (pubTenant e) o
    let x := m.pub n
    if x.frame.isEmpty ∨ x.commitTick ≠ m.k then m
    else
      let (f, m) := m.dueFrame n x.frame
      match f with
      | some f => if gate then (m.inject f 1 now bound).bump 0x51300C n else m
      | none => m
  else m

/-- The guard time ends on ports that have no publish entry waiting (R41). -/
def Mod.endGuards (m : Mod) : Mod :=
  m.each ((m.sw.ports.filter (fun e => e.2.guard && !e.2.q.any (fun (c : Copy) => c.pub == 1))).map Prod.fst) (fun m p =>
    m.setPort p { m.port p with guard := false })

/-- PUBLISH_START (R30, R259, R437): at P start the gate decides, the tick's entries go to egress in table order, and time-triggered columns are armed. -/
def publishStart (now : Nat) (m : Mod) : Mod :=
  if !m.inPhase .V ∨ m.triad.stage ≠ 5 then m
  else
    let voted := m.triad.majority.isSome
    let m := { m with
      tick := { m.tick with phase := .P }
      triad := { m.triad with
        gateAtP := m.gateOpen
        armed := voted
        armedBits := m.triad.hold.bits
        armedCan := ((lastPubs m.activeLast).filter (fun e => pubKind e == 3)).map pubObject } }
    if !m.onSchedule then m.endGuards
    else
      let late := m.unbound m.activeLast
      (m.each (indexed (lastPubs m.activeLast)) (fun m e => m.publishEntry now e.2 (Table.get late [] e.1))).endGuards

/-- PUBLISH_START. -/
def execPublishStart (now : Nat) (s : State) : Host.Outcome State Fault Refusal := .next { s with mod := s.mod.awake (publishStart now) }

/-! ## Retransmission (R213, R250, R263) -/

/-- A tenant slot's repetition: sqNum raised by one into SQ_OFFSET, the next interval double up to RETX_MAX. A freeze stops it (R225). It is injected
whether or not a gate is open, which is judged at its first bit (R250, R259). -/
def Mod.repeatSlot (m : Mod) (i now : Nat) : Mod :=
  let x := m.pub i
  if x.interval = 0 ∨ x.frame.isEmpty ∨ m.k < x.due ∨ !m.onSchedule ∨ m.tnState (i / 32 + 1) ≠ tnRunning then m
  else
    let sqAt := m.num 0x513008 i
    let sq := (x.sq + 1) % 2 ^ 32
    let f := x.frame.take sqAt ++ toBE 4 sq ++ x.frame.drop (sqAt + 4)
    let iv := min (2 * x.interval) (max 1 (m.num 0x513007 i))
    let m := m.setPub i { x with frame := f, sq := sq, interval := iv, due := x.due + iv }
    let (f, m) := m.dueFrame i f
    match f with
    | some f =>
      if m.triad.hold.safe then m
      else (m.inject f 2 now (fun _ => none)).when (m.gateOpen || m.holdGate) (fun m => m.bump 0x51300C i)
    | none => m

/-- A logic-owned slot's repetition: sqNum raised by one, but for the first frame of a slot rebuilt at the hold limit (R263). -/
def Mod.repeatLogic (m : Mod) (u now : Nat) : Mod :=
  let h := m.triad.hold
  match Table.find? h.slots u with
  | none => m
  | some x =>
    if !m.onSchedule then m
    else
      let x := if x.fresh then { x with fresh := false } else { x with sq := (x.sq + 1) % 2 ^ 32 }
      let m := { m with triad := { m.triad with hold := { h with slots := Table.put h.slots u x } } }
      m.injectLogic u x 2 now (fun _ => none)

/-- PUB_RETRANSMIT (R213, R250, R263): slot i's interval has expired, i below 2,048 being instance i of 0x5130 and 2,048 + u logic-owned slot u,
whose schedule the spec does not give (log entry 114). -/
def pubRetransmit (i now : Nat) (m : Mod) : Mod :=
  if !m.tick.running then m else if i < 2048 then m.repeatSlot i now else m.repeatLogic (i - 2048) now

/-- PUB_RETRANSMIT. -/
def execPubRetransmit (i now : Nat) (s : State) : Host.Outcome State Fault Refusal := .next { s with mod := s.mod.awake (pubRetransmit i now) }

end Sys2Proof.Machine
end

