-- ==== Sys2Proof/Machine/Time.lean ====
section
/-!
DEFINITION. Time: the time base and its states, sources and their qualification, disciplining and steps, time in a triad, PTP and the PPS
outputs (R376-R399).
-/
namespace Sys2Proof.Machine

/-! ## Sources (R380-R382) -/

/-- QSTATE values. -/
def qsOff : Nat := 0
/-- ABSENT. -/
def qsAbsent : Nat := 1
/-- QUALIFYING. -/
def qsQualifying : Nat := 2
/-- QUALIFIED. -/
def qsQualified : Nat := 3

/-- TIME_STATE values. -/
def tsFreerun : Nat := 0
/-- LOCKING. -/
def tsLocking : Nat := 1
/-- LOCKED. -/
def tsLocked : Nat := 2
/-- HOLDOVER. -/
def tsHoldover : Nat := 3

/-- SELECTED when it is the triad leader's time transfer. -/
def selTransfer : Nat := 0xFE
/-- SELECTED when there is none. -/
def selNone : Nat := 0xFF

/-- Source j. -/
def Mod.timeSrc (m : Mod) (j : Nat) : SrcSt := Table.get m.time.srcs {} j
/-- Source j replaced. -/
def Mod.setTimeSrc (m : Mod) (j : Nat) (x : SrcSt) : Mod := { m with time := { m.time with srcs := Table.set m.time.srcs {} j x } }
/-- QSTATE of source j. -/
def Mod.qstate (m : Mod) (j : Nat) : Nat := m.num 0x3C1003 j
/-- x of source j in ns. -/
def Mod.srcX (m : Mod) (j : Nat) : Int := m.int 64 0x3C1004 j
/-- TIME_STATE. -/
def Mod.timeState (m : Mod) : Nat := m.num 0x3C0001
/-- SELECTED. -/
def Mod.selected (m : Mod) : Nat := m.num 0x3C0002

/-- Whether source j's input is enabled and its PRIORITY set (R381). -/
def Mod.srcEnabled (m : Mod) (j : Nat) : Bool :=
  m.num 0x3C1002 j != 0xFF &&
  (match j with
   | 0 => m.on 0x3D0001 0
   | 1 => m.on 0x3D0001 1
   | 2 => m.on 0x3C2001
   | _ => true)

/-- Whether source j gives the time of day (R380); the leader's transfer does (R390). -/
def Mod.isTod (m : Mod) (j : Nat) : Bool := j == 0 || j == 1 || j == selTransfer || (j == 2 && m.num 0x3C2001 == 1)

/-- The QUALIFIED source with the lowest PRIORITY, ties going to the lower j (R382). -/
def Mod.bestSource (m : Mod) : Option Nat :=
  ([0, 1, 2, 3].filter (fun j => m.qstate j == qsQualified)).foldl (fun b j => match b with
    | none => some j
    | some i => if m.num 0x3C1002 j < m.num 0x3C1002 i then some j else some i) none

/-- Whether source a is better than source b. -/
def Mod.betterSource (m : Mod) (a b : Nat) : Bool :=
  decide (m.num 0x3C1002 a < m.num 0x3C1002 b ∨ (m.num 0x3C1002 a = m.num 0x3C1002 b ∧ a < b))

/-- LEADER. -/
def Mod.leader (m : Mod) : Nat := m.num 0x3C000F

/-- FOLLOWING (R388): another rank leads, and the module is a MEMBER, in SEEK, RESYNC or SHADOW, or still in step 8 of start-up (R389). -/
def Mod.following (m : Mod) : Bool :=
  m.leader != 0 && m.leader != m.rank && m.rank != 0 &&
  (m.mstate == msMember || m.mstate == msSeek || m.mstate == msResync || m.mstate == msShadow || m.num 0x203001 == 8)

/-- Whether the module decides the time status bits: the leader, or a standalone module (R391). -/
def Mod.decidesTime (m : Mod) : Bool := m.rank == 0 || (m.isMember && m.leader == m.rank)

/-! ## Steps (R15, R386, R387) -/

/-- The step commits pending. -/
def Mod.stepCommits (m : Mod) : List Commit := m.pendingCommits.filter (fun (c : Commit) => c.step.isSome)

/-- The time base set back by x ns (R15, R377): every x falls by it; where the tick runs, q and the second are derived afresh, the tick
before having been lengthened by x modulo one period; TICK_START clears the histories in it (R87). -/
def Mod.moveTime (m : Mod) (x : Int) : Mod :=
  let m := { m with time := { m.time with off := m.time.off - x } }
  let m := m.each [0, 1, 2, 3] (fun m j => if m.qstate j = qsOff then m else m.set 0x3C1004 (ofInt 64 (m.srcX j - x)) j)
  let m := if m.selected = selNone then m else m.set 0x3C0003 (ofInt 64 (m.int 64 0x3C0003 - x))
  if !m.tick.running then m
  else
    let at' := ((m.tick.sec * m.hz + m.tick.q : Nat) : Int) - x * m.hz / 1000000000
    let n := at'.toNat
    m.markTick (n % m.hz) (n / m.hz)

/-- A step applied (R387): STEPS, LAST_STEP, event 0x0105, and STEP_APPLIED in the tick of the step (R391). -/
def Mod.stepApplied (m : Mod) (x : Int) : Mod :=
  let m := m.moveTime x
  let m := (m.bump 0x3C000D).set 0x3C000E (ofInt 64 x)
  let m := { m with click := { m.click with steps := ((m.k, x) :: m.click.steps).take 8 } }
  (m.setBitAt 0x80005 true).raise 0x0105 [ofInt 64 x, m.k]

/-- A step request cancelled or refused: slew at MAX_SLEW, and no new request for 10 s (R384). -/
def Mod.stepDropped (m : Mod) : Mod := { m with time := { m.time with stepHold := true, servo := .maxSlew } }

/-- The module's own pending step request cancelled where R459 still allows it (R378); no new one is made for 10 s (R384). -/
def Mod.cancelStep (m : Mod) : Mod :=
  m.each (m.stepCommits.filter (fun (c : Commit) => c.own && decide (m.k + 16 < c.target))) (fun m c =>
    { (m.sendCommit 5 c abCancelled).cancelCommit c abCancelled m.rank with time := { m.time with stepHold := true } })

/-- The first tick at least 96 ticks ahead whose q is 0 (R387). -/
def Mod.stepTarget (m : Mod) : Nat := m.k + 96 + (m.hz - (m.tick.q + 96) % m.hz) % m.hz

/-- STEP_REQUEST (R384, R386, R387): an offset above 1 µs with STEP_ENABLE becomes a commit; while the tick is stopped the step is applied at once. -/
def Mod.requestStep (m : Mod) (x : Int) : Mod :=
  if m.stopped then (m.moveTime x).bump 0x3C000D |>.set 0x3C000E (ofInt 64 x) |>.raise 0x0105 [ofInt 64 x, m.k]
  else m.proposeOwn m.stepTarget { step := some x }

/-! ## The time base's states (R378, R384) -/

/-- The servo's correction for the offset x (R384): a follower makes no step request of its own (R390). -/
def Mod.servo (m : Mod) : Mod :=
  let x := m.int 64 0x3C0003
  let dst := fun (m : Mod) (s : Servo) => { m with time := { m.time with servo := s } }
  if x.natAbs ≤ 1000 then dst m .slew
  else if !m.stepCommits.isEmpty then dst m .hold
  else if m.num 0x3C0007 = 0 ∨ m.time.stepHold ∨ m.following then dst m .maxSlew
  else (dst m .hold).requestStep x

/-- A source becomes selected, its x the OFFSET. -/
def Mod.select (m : Mod) (j : Nat) : Mod := (m.set 0x3C0002 j).set 0x3C0003 (if j < 4 then m.num 0x3C1004 j else m.num 0x3C0003)

/-- LOCKED is entered: event 0x0100. -/
def Mod.enterLocked (m : Mod) : Mod :=
  let j := m.selected
  let m := { m with time := { m.time with everLocked := true, lockedTod := m.time.lockedTod || m.isTod j } }
  ((m.set 0x3C0001 tsLocked).set 0x3C000C 0).raise 0x0100 [j, m.num 0x3C0003, m.k]

/-- HOLDOVER is entered from LOCKED: event 0x0101 with the source lost. -/
def Mod.enterHoldover (m : Mod) (j : Nat) : Mod :=
  let m := { m with time := { m.time with servo := .hold } }
  (((m.set 0x3C0001 tsHoldover).set 0x3C000C 0).set 0x3C0002 selNone).raise 0x0101 [j, m.k]

/-- The source that can be selected: the leader's transfer for a follower, otherwise the best of the module's own. -/
def Mod.candidate (m : Mod) : Option Nat :=
  if m.following then (if m.time.xfer then some selTransfer else none) else m.bestSource

/-- Whether the selected source still is one. A follower that has lost its leader keeps its state (R389). -/
def Mod.selectedHolds (m : Mod) : Bool :=
  if m.selected = selTransfer then m.following else m.selected < 4 && m.qstate m.selected == qsQualified && !m.following

/-- One transition of the time base's state, where its condition holds (R378). -/
def Mod.timeStep (m : Mod) : Mod :=
  let st := m.timeState
  if st = tsFreerun ∨ st = tsHoldover then
    let waits := match m.time.waitBetter with
      | some j => m.qstate j == qsQualifying && !m.following
      | none => false
    if waits then m
    else
      let m := { m with time := { m.time with waitBetter := none } }
      match m.candidate with
      | none => if m.selected = selNone then m else m.set 0x3C0002 selNone
      | some j =>
        let m := m.select j
        if st = tsFreerun ∧ m.isTod j ∧ !m.time.everLocked ∧ !m.isMember then
          let x := m.int 64 0x3C0003
          let m := if m.tick.running then { m with time := { m.time with jump := some x } } else m.moveTime x
          m.enterLocked
        else ({ m with time := { m.time with before := st } }).set 0x3C0001 tsLocking
  else if st = tsLocking then
    if !m.selectedHolds then
      let j := m.selected
      let m := m.cancelStep
      if m.time.before = tsLocked then
        match m.candidate with
        | some b => (m.select b).set 0x3C0001 tsLocked
        | none => m.enterHoldover j
      else ((m.set 0x3C0001 m.time.before).set 0x3C0002 selNone)
    else if (m.int 64 0x3C0003).natAbs ≤ 1000 then m.enterLocked
    else m
  else
    if !m.selectedHolds then
      let j := m.selected
      if m.following ∧ !m.time.xfer then m
      else match m.candidate with
        | some b => if m.following ∨ j = selTransfer then m.select b else m.enterHoldover j
        | none => m.enterHoldover j
    else match m.candidate with
      | some b =>
        if m.selected < 4 ∧ b ≠ m.selected ∧ m.on 0x3C0008 ∧ m.betterSource b m.selected then
          ({ m.select b with time := { m.time with before := tsLocked } }).set 0x3C0001 tsLocking
        else m
      | none => m

/-! ## The time status bits (R391) -/

/-- The status bits that the module's own state asks for, bit i for 0x80000 + i, STEP_APPLIED apart. -/
def Mod.timeBits (m : Mod) : Nat :=
  let st := m.timeState
  let sync := !(st = tsFreerun || (st = tsLocking && m.time.before = tsFreerun))
  b2n (st == tsLocked) + 2 * b2n (st == tsHoldover) + 4 * b2n (st == tsFreerun) + 8 * b2n sync + 16 * b2n (!m.stepCommits.isEmpty) +
    64 * b2n (m.num 0x3C000A != 0) + (if m.selected < 4 then 2 ^ (8 + m.selected) else 0)

/-- Time status bits put in force; a value asked for does not touch STEP_APPLIED. -/
def Mod.putTimeBits (m : Mod) (v : Nat) : Mod :=
  m.setBits (([0, 1, 2, 3, 4, 6, 8, 9, 10, 11] : List Nat).map (fun i => (0x80000 + i, bit v i)))

/-- The bits in force, or those of the latest commit that will change them. -/
def Mod.timeBitsDue (m : Mod) : Nat :=
  match (m.pendingCommits.filterMap (fun (c : Commit) => c.timeBits)).reverse with
  | v :: _ => v
  | [] => ([0, 1, 2, 3, 4, 6, 8, 9, 10, 11] : List Nat).foldl (fun n i => n + b2n (Table.get m.bits 0 (0x80000 + i) == 1) * 2 ^ i) 0

/-- A change in the bits is committed for tick k + 48 by the leader or a standalone module; while the tick is stopped it takes effect at once (R391, R455). -/
def Mod.noteTime (m : Mod) : Mod :=
  let v := m.timeBits
  if !m.decidesTime ∨ v = m.timeBitsDue then m
  else if m.stopped then m.putTimeBits v
  else m.proposeOwn (m.k + 48) { timeBits := some v }

/-- FREERUN is entered from HOLDOVER (R378): event 0x0102. -/
def Mod.enterFreerun (m : Mod) : Mod :=
  let lim := m.num 0x3C0005
  ((m.set 0x3C0001 tsFreerun).set 0x3C000C lim).raise 0x0102 [lim, m.k]

/-- A return to HOLDOVER, its time having run on, finds HOLDOVER_LIMIT reached (R378). -/
def Mod.holdoverSpent (m : Mod) : Mod :=
  if m.timeState = tsHoldover ∧ m.num 0x3C0005 ≤ m.num 0x3C000C then m.enterFreerun else m

/-- The time base's state follows its sources: transitions until none is due (at most four follow one another), the servo, the status bits. -/
def Mod.judgeTime (m : Mod) : Mod :=
  let m := m.timeStep.timeStep.timeStep.timeStep.holdoverSpent
  let m := if m.timeState = tsLocking ∨ m.timeState = tsLocked then m.servo else m
  m.noteTime

/-! ## Inputs (R381) -/

/-- OFF and ABSENT follow PRIORITY and the input's enable. -/
def Mod.syncSources (m : Mod) : Mod :=
  m.each [0, 1, 2, 3] (fun m j =>
    if !m.srcEnabled j then (if m.qstate j = qsOff then m else (m.set 0x3C1003 qsOff j).setTimeSrc j {})
    else if m.qstate j = qsOff then m.set 0x3C1003 qsAbsent j else m)

/-- Source j is lost (R381): counted and event 0x0104 where it was QUALIFIED, or where its offsets spread (log entry 88). -/
def Mod.loseSource (m : Mod) (j cause : Nat) : Mod :=
  let q := m.qstate j
  if q = qsQualifying ∨ q = qsQualified then
    let m := (m.set 0x3C1003 qsAbsent j).setTimeSrc j { m.timeSrc j with offsets := [] }
    let m := if q = qsQualified then m.bump 0x3C1006 j else m
    let m := if q = qsQualified ∨ cause = 3 then m.raise 0x0104 [j, cause, m.k] else m
    m.judgeTime
  else m

/-- Input of source j that is not valid, and no loss condition: the 2 s of continuous valid input of a QUALIFYING source start afresh (R381). -/
def Mod.badInput (m : Mod) (j : Nat) : Mod :=
  if m.qstate j = qsQualifying then m.setTimeSrc j { m.timeSrc j with offsets := [] } else m

/-- A valid offset measured on source j: x is kept; an ABSENT source begins to qualify, which abandons a switch to a worse one (R378,
R382); the selected source's x is the OFFSET. -/
def Mod.measured (m : Mod) (j : Nat) (x : Int) : Mod :=
  let m := m.syncSources
  let q := m.qstate j
  if q = qsOff then m
  else
    let m := m.set 0x3C1004 (ofInt 64 x) j
    let m := if q = qsAbsent then
        let m := (m.set 0x3C1003 qsQualifying j).setTimeSrc j { m.timeSrc j with offsets := [x] }
        if m.timeState = tsLocking ∧ m.selected < 4 ∧ m.betterSource j m.selected then
          let m := m.cancelStep.raise 0x0107 [m.selected, j]
          let m := { m with time := { m.time with waitBetter := some j, servo := .hold } }
          (m.set 0x3C0001 tsHoldover).set 0x3C0002 selNone
        else m
      else if q = qsQualifying then m.setTimeSrc j { m.timeSrc j with offsets := x :: (m.timeSrc j).offsets }
      else m
    let m := if m.selected = j then m.set 0x3C0003 (ofInt 64 x) else m
    m.judgeTime

/-- SOURCE_QUALIFIED (R381): the 2 s of qualification end; the source is QUALIFIED where every offset lies within 1 µs of their mean, and
otherwise ABSENT. A phase-only source also needs that the time base has been LOCKED to a time-of-day source or set (R380). -/
def sourceQualified (j : Nat) (m : Mod) : Mod :=
  let os := (m.timeSrc j).offsets
  let n : Int := os.length
  if m.qstate j ≠ qsQualifying ∨ os.isEmpty then m
  else if !m.isTod j ∧ !m.time.lockedTod ∧ !m.time.todSet then m
  else if os.any (fun x => decide (1000 * n < ((x * n - os.sum).natAbs : Int))) then m.loseSource j 3
  else
    let m := (m.set 0x3C1003 qsQualified j).set 0x3C1005 m.k j
    (m.raise 0x0103 [j, m.num 0x3C1004 j]).judgeTime

/-- SOURCE_QUALIFIED. -/
def execSourceQualified (j : Nat) (s : State) : Host.Outcome State Fault Refusal := .next { s with mod := s.mod.awake (sourceQualified j) }

/-- Days from 1970-01-01 to the first day of a year. -/
def daysToYear (y : Nat) : Nat := 365 * (y - 1970) + (y - 1969) / 4 - (y - 1901) / 100 + (y - 1601) / 400

/-- The TAI second that an IRIG-B frame stands for (R383). -/
def Mod.irigSecond (m : Mod) (f : IrigFrame) : Int :=
  let year := match f.year with
    | some y => y
    | none => m.num 0x3C2004
  let utc : Int := (daysToYear year * 86400 + f.secOfYear : Nat) - (if m.num 0x3C2002 = 1 then f.localOffset else m.int 32 0x3C2003)
  utc + m.int 16 0x3C0009

/-- IRIG_FRAME_RX (R380, R381, R383): a frame that decodes without error, is 1 s later than the one before, and whose time quality is no
higher than 4 where it is read, gives an offset at its on-time point less the cable delay. -/
def irigFrameRx (f : IrigFrame) (m : Mod) : Mod :=
  if m.num 0x3C2001 ≠ 1 then m
  else
    let cf := m.num 0x3C2002 == 1
    let sec := m.irigSecond f
    let last := (m.timeSrc 2).last
    let m := m.setTimeSrc 2 { m.timeSrc 2 with last := if f.good then some sec.toNat else last.map (· + 1) }
    let follows := match last with
      | some l => sec = l + 1
      | none => false
    if !f.good ∨ !follows ∨ (cf ∧ 4 < f.quality) then m.badInput 2
    else
      let m := if cf then
          { m with time := { m.time with leapKnown := true } }.set 0x3C000A (if f.leapPending then (if f.leapDelete then 2 else 1) else 0)
        else m
      m.measured 2 ((m.tb f.now : Int) - m.int 32 0x3C2006 - sec * 1000000000)

/-- IRIG_FRAME_RX. -/
def execIrigFrameRx (f : IrigFrame) (s : State) : Host.Outcome State Fault Refusal := .next { s with mod := s.mod.awake (irigFrameRx f) }

/-- IRIG_FRAME_LOSS (R381): two consecutive missing or bad frames. -/
def irigFrameLoss (m : Mod) : Mod :=
  if m.num 0x3C2001 ≠ 1 then m else (m.setTimeSrc 2 { m.timeSrc 2 with last := none }).loseSource 2 1

/-- IRIG_FRAME_LOSS. -/
def execIrigFrameLoss (s : State) : Host.Outcome State Fault Refusal := .next { s with mod := s.mod.awake irigFrameLoss }

/-- The source that PPS input i feeds: PPS_IN0 is source 3, PPS_IN1 source 2 while IN1_MODE is 2 (R380). -/
def Mod.ppsSource (m : Mod) (i : Nat) : Option Nat := if i = 0 then some 3 else if i = 1 ∧ m.num 0x3C2001 = 2 then some 2 else none

/-- PPS_IN_EDGE (R380, R381): an edge 1 s ± 1 µs after the one before gives x, the fractional second of the time base at the edge less
the cable delay; |x| above 0.4 s disqualifies the source. -/
def ppsInEdge (i now : Nat) (m : Mod) : Mod :=
  match m.ppsSource i with
  | none => m
  | some j =>
    let last := (m.timeSrc j).last
    let m := m.setTimeSrc j { m.timeSrc j with last := some now }
    let valid := match last with
      | some l => decide (l + 999999000 ≤ now ∧ now ≤ l + 1000001000)
      | none => false
    let at' : Int := (m.tb now : Int) - m.int 32 (0x3C2005 + i)
    let fr := at' % 1000000000
    let x := if 500000000 ≤ fr then fr - 1000000000 else fr
    if !valid then m.badInput j
    else if 400000000 < x.natAbs then (m.set 0x3C1004 (ofInt 64 x) j).loseSource j 2
    else m.measured j x

/-- PPS_IN_EDGE. -/
def execPpsInEdge (i now : Nat) (s : State) : Host.Outcome State Fault Refusal := .next { s with mod := s.mod.awake (ppsInEdge i now) }

/-- PPS_LOSS_TIMEOUT (R381): no edge for 1.001 s. -/
def ppsLossTimeout (i : Nat) (m : Mod) : Mod :=
  match m.ppsSource i with
  | none => m
  | some j => (m.setTimeSrc j { m.timeSrc j with last := none }).loseSource j 1

/-- PPS_LOSS_TIMEOUT. -/
def execPpsLossTimeout (i : Nat) (s : State) : Host.Outcome State Fault Refusal := .next { s with mod := s.mod.awake (ppsLossTimeout i) }

/-! ## Elapsed conditions (R378, R384, R385) -/

/-- STEP_RETRY (R384): 10 s after a cancelled step a new request may be made, where |x| still exceeds 1 µs. -/
def stepRetry (m : Mod) : Mod := if m.time.stepHold then ({ m with time := { m.time with stepHold := false } }).judgeTime else m

/-- STEP_RETRY. -/
def execStepRetry (s : State) : Host.Outcome State Fault Refusal := .next { s with mod := s.mod.awake stepRetry }

/-- Whether a Clicker record is capturing: a slot is TRIGGERED (R408). -/
def Mod.capturing (m : Mod) : Bool := (m.instancesOn 0x4C2001).any (fun x => m.num 0x4C2001 x == 2)

/-- STEP_CAPTURE_CHECK (R386, R387): at the start of k_t - 48 a MEMBER, or a standalone module, with a capture in progress cancels the
step on all modules; event 0x0106. -/
def stepCaptureCheck (m : Mod) : Mod :=
  let cs := m.stepCommits.filter (fun (c : Commit) => (c.state == .proposed || c.state == .confirmed) && c.target == m.k + 48)
  if !m.capturing ∨ !(m.isMember || m.mstate == msStandalone) then m
  else (m.each cs (fun m c =>
    ((m.sendCommit 5 c abCancelled).cancelCommit c abCancelled m.rank).stepDropped.raise 0x0106 [m.rank, c.target])).noteTime

/-- STEP_CAPTURE_CHECK. -/
def execStepCaptureCheck (s : State) : Host.Outcome State Fault Refusal := .next { s with mod := s.mod.awake stepCaptureCheck }

/-- REF10M_QUALIFIED (R385): 2 s within ±10 ppm. -/
def ref10mQualified (m : Mod) : Mod := if m.num 0x3C2007 = 2 then m else (m.set 0x3C2007 2).raise 0x010B [2]

/-- REF10M_QUALIFIED. -/
def execRef10mQualified (s : State) : Host.Outcome State Fault Refusal := .next { s with mod := s.mod.awake ref10mQualified }

/-- REF10M_LOSS (R385): no edge for 10 µs, or an error above 10 ppm. -/
def ref10mLoss (m : Mod) : Mod := if m.num 0x3C2007 = 0 then m else (m.set 0x3C2007 0).raise 0x010B [0]

/-- REF10M_LOSS. -/
def execRef10mLoss (s : State) : Host.Outcome State Fault Refusal := .next { s with mod := s.mod.awake ref10mLoss }

/-- OFFSET_EXCURSION_TIMEOUT (R378): |x| above 1 µs for 1 s in LOCKED leads to LOCKING; event 0x0104, cause 4. -/
def offsetExcursionTimeout (m : Mod) : Mod :=
  if m.timeState ≠ tsLocked ∨ (m.int 64 0x3C0003).natAbs ≤ 1000 then m
  else
    let m := ({ m with time := { m.time with before := tsLocked } }).set 0x3C0001 tsLocking
    (m.raise 0x0104 [m.selected, 4, m.k]).judgeTime

/-- OFFSET_EXCURSION_TIMEOUT. -/
def execOffsetExcursionTimeout (s : State) : Host.Outcome State Fault Refusal := .next { s with mod := s.mod.awake offsetExcursionTimeout }

/-- HOLDOVER_LIMIT_EXPIRY (R378): HOLDOVER becomes FREERUN; event 0x0102. -/
def holdoverLimitExpiry (m : Mod) : Mod :=
  if m.timeState = tsHoldover then m.enterFreerun.judgeTime else m

/-- HOLDOVER_LIMIT_EXPIRY. -/
def execHoldoverLimitExpiry (s : State) : Host.Outcome State Fault Refusal := .next { s with mod := s.mod.awake holdoverLimitExpiry }

/-- TOD_SET_WRITE (R378, R380): the time of day, accepted only in FREERUN on a module that has not been LOCKED since reset and is no MEMBER. -/
def todSetWrite (path : Path) (v now : Nat) (m : Mod) : Mod :=
  if m.timeState ≠ tsFreerun ∨ m.time.everLocked ∨ m.isMember then m.report path abState
  else m.served path (fun m =>
    let x : Int := (m.tb now : Int) - v
    let m := { m with time := { m.time with todSet := true } }
    if m.tick.running then { m with time := { m.time with jump := some x } } else m.moveTime x)

/-- TOD_SET_WRITE. -/
def execTodSetWrite (path : Path) (v now : Nat) (s : State) : Host.Outcome State Fault Refusal :=
  .next { s with mod := s.mod.gate path (fun (m : Mod) => todSetWrite path v now m) }

/-! ## Time in a triad (R388-R390) -/

/-- LEADER_CHANGE (R388): another MEMBER has ranked better for 2 s, or the leader is none any more; event 0x0108. A new leader disciplines
to its best own source, a follower to the transfer. -/
def leaderChange (r : Nat) (m : Mod) : Mod :=
  let isMem := if r = m.rank then m.isMember else m.num 0x600102 r == msMember
  if r = m.leader ∨ m.rank = 0 ∨ 3 < r ∨ (r ≠ 0 ∧ !isMem) then m
  else
    let m := (m.raise 0x0108 [m.leader, r, m.k]).set 0x3C000F r
    let m := { m with time := { m.time with xfer := false } }
    if m.following then m else m.judgeTime

/-- LEADER_CHANGE. -/
def execLeaderChange (r : Nat) (s : State) : Host.Outcome State Fault Refusal := .next { s with mod := s.mod.awake (leaderChange r) }

/-- A message of the time transfer to the neighbour on link l: a W1 FRAME of class SC1, of 58 octets as IEEE 1588 has both over IEEE 802.3 (R389;
log entry 229). -/
def Mod.sendTransfer (m : Mod) (l : Nat) (followUp : Bool) (now : Nat) : Mod :=
  m.sendOn l { ty := .frame, vc := 1, dst := m.num 0x611006 l, src := m.moduleId, cls := 1, tick := m.k % 2 ^ 32, len := 58,
               data := slice (Config.transferFrame followUp (m.tb now)) 0 58 }

/-- TIME_TRANSFER_SEND (R389): 16 times a second the leader sends Sync and Follow_Up on each triad link. -/
def timeTransferSend (now : Nat) (m : Mod) : Mod :=
  if m.isMember ∧ m.leader = m.rank then
    m.each (m.linksUp.filter (fun l => m.triadLink l)) (fun m l => (m.sendTransfer l false now).sendTransfer l true now)
  else m

/-- TIME_TRANSFER_SEND. -/
def execTimeTransferSend (now : Nat) (s : State) : Host.Outcome State Fault Refusal := .next { s with mod := s.mod.awake (timeTransferSend now) }

/-- TIME_TRANSFER_RX (R389, R390): a follower takes x from the leader's Sync and Follow_Up, sent at `origin`, with the link's peer delay. -/
def timeTransferRx (l origin delay now : Nat) (m : Mod) : Mod :=
  if !m.following ∨ !m.triadLink l ∨ m.num 0x600101 m.leader ≠ m.num 0x611006 l then m
  else
    let x : Int := (m.tb now : Int) - origin - delay
    let m := { m with time := { m.time with xfer := true } }
    let m := if m.selected = selTransfer ∨ m.timeState = tsFreerun ∨ m.timeState = tsHoldover then m else m.set 0x3C0002 selTransfer
    (m.set 0x3C0003 (ofInt 64 x)).judgeTime

/-- TIME_TRANSFER_RX. -/
def execTimeTransferRx (l origin delay now : Nat) (s : State) : Host.Outcome State Fault Refusal :=
  .next { s with mod := s.mod.awake (timeTransferRx l origin delay now) }

/-- TIME_TRANSFER_LOSS (R389, R390): three Sync intervals without the leader's transfer; the follower holds its frequency, and its
TIME_STATE does not change. -/
def timeTransferLoss (m : Mod) : Mod :=
  if m.following ∧ m.time.xfer then { m with time := { m.time with xfer := false, servo := .hold } } else m

/-- TIME_TRANSFER_LOSS. -/
def execTimeTransferLoss (s : State) : Host.Outcome State Fault Refusal := .next { s with mod := s.mod.awake timeTransferLoss }

/-- FOLLOWER_DEVIATION (R388): the follower's own best source has differed from the time base by more than TRIAD_DEV for 10 s; event 0x0109. -/
def followerDeviation (m : Mod) : Mod :=
  match m.bestSource with
  | some j => if m.following ∧ m.num 0x3C0011 < (m.srcX j).natAbs then m.raise 0x0109 [j, m.num 0x3C1004 j] else m
  | none => m

/-- FOLLOWER_DEVIATION. -/
def execFollowerDeviation (s : State) : Host.Outcome State Fault Refusal := .next { s with mod := s.mod.awake followerDeviation }

/-! ## PTP (R393-R396) -/

/-- PORT_STATE values of IEEE 1588-2019 (PRESUMED, log entry 89). -/
def ptMaster : Nat := 6
/-- PASSIVE. -/
def ptPassive : Nat := 7
/-- SLAVE. -/
def ptSlave : Nat := 9
/-- LISTENING. -/
def ptListening : Nat := 4

/-- PTP port p. -/
def Mod.ptpPort (m : Mod) (p : Nat) : PtpPort := Table.get m.time.ptp {} p
/-- PTP port p replaced. -/
def Mod.setPtpPort (m : Mod) (p : Nat) (x : PtpPort) : Mod := { m with time := { m.time with ptp := Table.set m.time.ptp {} p x } }

/-- The ports of an instance. -/
def Mod.instPorts (m : Mod) (i : Nat) : List Nat := u16s (m.oct 0x3D0004 i)

/-- The grandmaster of an instance: that of its port in SLAVE. -/
def Mod.parent (m : Mod) (i : Nat) : Option Gm :=
  ((m.instPorts i).find? (fun p => m.num 0x3D4001 p == ptSlave)).bind (fun p => (m.ptpPort p).best)

/-- clockClass and clockAccuracy that a master announces (R395). -/
def Mod.clockQuality (m : Mod) : Nat × Nat :=
  let st := m.timeState
  if st = tsLocked then
    if m.selected < 2 then (match m.parent m.selected with
      | some g => (g.cls, g.acc)
      | none => (248, 0xFE))
    else if m.selected < 4 then (6, 0x22)
    else Config.followerClock
  else if st = tsHoldover then (7, 0x23)
  else (248, 0xFE)

/-- The order of the dataset comparison: priority1, class, accuracy, variance, priority2, identity, steps removed, sender. -/
def Gm.key (g : Gm) : List Nat := [g.p1, g.cls, g.acc, g.var, g.p2, g.id, g.steps, g.sender, g.port]

/-- Whether a list of numbers comes before another. -/
def listLt : List Nat → List Nat → Bool
  | [], [] => false
  | [], _ => true
  | _, [] => false
  | a :: s, b :: t => a < b || (a == b && listLt s t)

/-- Whether a grandmaster is better than another. -/
def Gm.better (a b : Gm) : Bool := listLt a.key b.key

/-- The module itself as a grandmaster of instance i. -/
def Mod.ownGm (m : Mod) (i : Nat) : Gm :=
  { p1 := m.num 0x3D0006 i, cls := m.clockQuality.1, acc := m.clockQuality.2, p2 := m.num 0x3D0007 i, id := m.moduleId }

/-- The state that the best master clock algorithm gives port p of instance i; `ebest` is the best Announce of the instance and its port,
`expired` says that p's announce receipt timeout has run out. -/
def Mod.decidePort (m : Mod) (i p : Nat) (ebest : Option (Nat × Gm)) (expired : Bool) : Nat :=
  let mode := m.num 0x3D0005 i
  let own := m.ownGm i
  let mine := (m.ptpPort p).best
  if mode = 2 then ptMaster
  else match ebest with
    | none => if mode = 1 ∨ !expired ∧ m.num 0x3D4001 p ≠ ptMaster then ptListening else ptMaster
    | some (q, g) =>
      if q = p ∧ (mode = 1 ∨ g.better own) then ptSlave
      else if mode = 1 then ptListening
      else if own.cls < 128 then (match mine with
        | some e => if own.better e then ptMaster else ptPassive
        | none => ptMaster)
      else if own.better g then ptMaster
      else match mine with
        | some e => if e.id = g.id then ptPassive else ptMaster
        | none => if expired ∨ m.num 0x3D4001 p = ptMaster then ptMaster else ptListening

/-- The states of an instance's ports decided afresh, with GM_IDENTITY and STEPS_REMOVED. -/
def Mod.bmca (m : Mod) (i : Nat) (expired : Option Nat) : Mod :=
  let ports := m.instPorts i
  let ebest := ports.foldl (fun (b : Option (Nat × Gm)) p => match (m.ptpPort p).best, b with
    | some g, some (q, h) => if g.better h then some (p, g) else some (q, h)
    | some g, none => some (p, g)
    | none, b => b) none
  let sts := ports.map (fun p => (p, m.decidePort i p ebest (expired == some p)))
  let m := m.each sts (fun m e => m.set 0x3D4001 e.2 e.1)
  match m.parent i with
  | some g => (m.setOct 0x3D000C (toBE 8 g.id) i).set 0x3D000D g.steps i
  | none => m

/-- Whether a message is one of an instance's port: the instance is enabled on that port and its domain is the message's. -/
def Mod.ptpOf (m : Mod) (x : PtpMsg) : Option Nat :=
  match m.ptpInst x.port with
  | some i => if x.domain = m.num 0x3D0003 i then some i else none
  | none => none

/-- An offset measured on the SLAVE port of instance i, where the grandmaster's class is admitted (R377, R381): the ingress time less the
time of sending, correction, peer delay and asymmetry. -/
def Mod.ptpOffset (m : Mod) (i p : Nat) (t2 : Int) (origin : Nat) (corr : Int) : Mod :=
  match m.parent i with
  | none => m
  | some g =>
    if m.num 0x3D4001 p ≠ ptSlave ∨ m.num 0x3D000B i < g.cls then m
    else m.measured i (t2 - origin - corr - m.num 0x3D4002 p - m.int 32 0x3D4003 p)

/-- PTP_SYNC_RX (R381, R393): on an instance's port in SLAVE a one-step Sync gives an offset, a two-step one waits for its Follow_Up. On
a transparent-clock port the Sync is corrected as it leaves (R396). -/
def ptpSyncRx (x : PtpMsg) (m : Mod) : Mod :=
  match m.ptpOf x with
  | none => m
  | some i =>
    let t2 : Int := (m.tb x.ts : Int) + m.int 32 0x320013 x.port
    if x.twoStep then m.setPtpPort x.port { m.ptpPort x.port with sync := some (x.seq, t2.toNat, x.corr) }
    else m.ptpOffset i x.port t2 x.origin x.corr

/-- PTP_SYNC_RX. -/
def execPtpSyncRx (x : PtpMsg) (s : State) : Host.Outcome State Fault Refusal := .next { s with mod := s.mod.awake (ptpSyncRx x) }

/-- PTP_FOLLOW_UP_RX (R393): the Follow_Up of the Sync that waits gives the offset. -/
def ptpFollowUpRx (x : PtpMsg) (m : Mod) : Mod :=
  match m.ptpOf x, (m.ptpPort x.port).sync with
  | some i, some (seq, t2, corr) =>
    if seq = x.seq then
      (m.setPtpPort x.port { m.ptpPort x.port with sync := none }).ptpOffset i x.port t2 x.origin (corr + x.corr)
    else m
  | _, _ => m

/-- PTP_FOLLOW_UP_RX. -/
def execPtpFollowUpRx (x : PtpMsg) (s : State) : Host.Outcome State Fault Refusal := .next { s with mod := s.mod.awake (ptpFollowUpRx x) }

/-- UTC_OFFSET and LEAP_PENDING as the grandmaster of a SLAVE port announces them (R376, R392). -/
def Mod.takeUtc (m : Mod) (x : PtpMsg) : Mod :=
  if m.num 0x3D4001 x.port ≠ ptSlave then m
  else
    let m := m.set 0x3C000A (if x.leap61 then 1 else if x.leap59 then 2 else 0)
    if x.utcValid then { m with time := { m.time with leapKnown := true } }.set 0x3C0009 (ofInt 16 x.utcOffset) else m

/-- PTP_ANNOUNCE_RX (R381, R393, R394): the Announce enters the best master clock algorithm; a class above CLASS_MAX loses the source. -/
def ptpAnnounceRx (x : PtpMsg) (m : Mod) : Mod :=
  match m.ptpOf x with
  | none => m
  | some i =>
    let g : Gm := { p1 := x.p1, cls := x.cls, acc := x.acc, var := x.var, p2 := x.p2, id := x.gmId, steps := x.steps + 1,
                    sender := x.sender, port := x.senderPort }
    let old := (m.ptpPort x.port).best
    let keep := match old with
      | some h => h.sender != g.sender && h.better g
      | none => false
    let m := if keep then m else m.setPtpPort x.port { m.ptpPort x.port with best := some g }
    let m := (m.bmca i none).takeUtc x
    match m.parent i with
    | some h => if m.num 0x3D000B i < h.cls then m.loseSource i 2 else m.noteTime
    | none => m

/-- PTP_ANNOUNCE_RX. -/
def execPtpAnnounceRx (x : PtpMsg) (s : State) : Host.Outcome State Fault Refusal := .next { s with mod := s.mod.awake (ptpAnnounceRx x) }

/-- PTP_PDELAY_REQ_RX (R396): a peer-delay request on an instance's or a transparent-clock port is answered. -/
def ptpPdelayReqRx (x : PtpMsg) (m : Mod) : Mod :=
  if x.port < 768 ∧ ((m.ptpOf x).isSome ∨ ((m.ptpInst x.port).isNone ∧ m.on 0x3D8001)) then
    m.emit (.ptp x.port .pdelayResp x.domain [x.seq, x.sender, x.senderPort, ((m.tb x.ts : Int) + m.int 32 0x320013 x.port).toNat])
  else m

/-- PTP_PDELAY_REQ_RX. -/
def execPtpPdelayReqRx (x : PtpMsg) (s : State) : Host.Outcome State Fault Refusal := .next { s with mod := s.mod.awake (ptpPdelayReqRx x) }

/-- PTP_PDELAY_RESP_RX (R396): with the request sent at t1, received at t2, the response sent at t3 and received at t4, the peer delay is
half of (t4 - t1) - (t3 - t2) less the corrections. -/
def ptpPdelayRespRx (p t1 t2 t3 t4 : Nat) (corr : Int) (m : Mod) : Mod :=
  if p < 768 ∧ ((m.ptpInst p).isSome ∨ m.on 0x3D8001) then
    m.set 0x3D4002 (min ((((t4 : Int) - t1 - (t3 - t2) - corr) / 2).toNat) (2 ^ 32 - 1)) p
  else m

/-- PTP_PDELAY_RESP_RX. -/
def execPtpPdelayRespRx (p t1 t2 t3 t4 : Nat) (corr : Int) (s : State) : Host.Outcome State Fault Refusal :=
  .next { s with mod := s.mod.awake (ptpPdelayRespRx p t1 t2 t3 t4 corr) }

/-- PTP_MANAGEMENT_RX (R393): the message is passed to port 864 for the supervisor. -/
def ptpManagementRx (f : SwFrame) (m : Mod) : Mod :=
  let c : Copy := { no := m.sw.nextNo, ingress := f.port, cls := 7, frame := f.bytes, vlan := 1, tick := m.k, ts := m.rxStamp f.port f.ts, since := f.ts }
  (({ m with sw := { m.sw with nextNo := m.sw.nextNo + 1 } }).place f.saturated f.ts (864, c)).swSync

/-- PTP_MANAGEMENT_RX. -/
def execPtpManagementRx (f : SwFrame) (s : State) : Host.Outcome State Fault Refusal := .next { s with mod := s.mod.awake (ptpManagementRx f) }

/-- PTP_MESSAGE_SEND (R393-R396): an interval of port p expires. A MASTER port sends Announce, Sync and, in two-step operation,
Follow_Up; a peer-delay request leaves on every port of an instance or of the transparent clock. -/
def ptpMessageSend (p : Nat) (kind : PtpKind) (now : Nat) (m : Mod) : Mod :=
  match m.ptpInst p with
  | none => if kind = .pdelayReq ∧ p < 768 ∧ m.on 0x3D8001 then m.emit (.ptp p kind 0 [m.tb now]) else m
  | some i =>
    let dom := m.num 0x3D0003 i
    let master := m.num 0x3D4001 p == ptMaster
    match kind with
    | .announce =>
      let q := m.clockQuality
      let steps := match m.parent i with
        | some g => g.steps
        | none => 0
      if master then m.emit (.ptp p kind dom [m.num 0x3D0006 i, q.1, q.2, m.num 0x3D0007 i, steps, m.num 0x3C0009, m.num 0x3C000A,
        if m.num 0x3D0002 i = 1 then m.num 0x3D000E i else 0]) else m
    | .sync => if master then m.emit (.ptp p kind dom [m.num 0x3D0008 i, m.tb now]) else m
    | .followUp => if master ∧ m.num 0x3D0008 i = 0 then m.emit (.ptp p kind dom [m.tb now]) else m
    | .pdelayReq => m.emit (.ptp p kind dom [m.tb now])
    | .pdelayResp => m

/-- PTP_MESSAGE_SEND. -/
def execPtpMessageSend (p : Nat) (kind : PtpKind) (now : Nat) (s : State) : Host.Outcome State Fault Refusal :=
  .next { s with mod := s.mod.awake (ptpMessageSend p kind now) }

/-- PTP_ANNOUNCE_TIMEOUT (R381): the announce receipt timeout of port p; the source is lost where p was the SLAVE port. -/
def ptpAnnounceTimeout (p : Nat) (m : Mod) : Mod :=
  match m.ptpInst p with
  | none => m
  | some i =>
    let slave := m.num 0x3D4001 p == ptSlave
    let m := (m.setPtpPort p {}).bmca i (some p)
    if slave then m.loseSource i 1 else m

/-- PTP_ANNOUNCE_TIMEOUT. -/
def execPtpAnnounceTimeout (p : Nat) (s : State) : Host.Outcome State Fault Refusal := .next { s with mod := s.mod.awake (ptpAnnounceTimeout p) }

/-- PTP_SYNC_MISSED (R381): three consecutive Sync intervals of instance i missed. -/
def ptpSyncMissed (i : Nat) (m : Mod) : Mod := if i < 2 then m.loseSource i 1 else m

/-- PTP_SYNC_MISSED. -/
def execPtpSyncMissed (i : Nat) (s : State) : Host.Outcome State Fault Refusal := .next { s with mod := s.mod.awake (ptpSyncMissed i) }

/-! ## PPS outputs and leap seconds (R376, R397) -/

/-- PPS_OUT_EDGE (R397): at a second boundary of the time base plus OFFSET, MODE 1 gives an edge, and MODE 2 unless NOT_SYNCHRONISED is 1. -/
def ppsOutEdge (o now : Nat) (m : Mod) : Mod :=
  let mode := m.num 0x3C3001 o
  if 1 < o ∨ ((m.tb now : Int) - m.int 32 0x3C3002 o) % 1000000000 ≠ 0 ∨ !(mode = 1 ∨ (mode = 2 ∧ !bit m.timeQuality 5)) then m
  else m.emit (.ppsOut o (m.num 0x3C3003 o))

/-- PPS_OUT_EDGE. -/
def execPpsOutEdge (o now : Nat) (s : State) : Host.Outcome State Fault Refusal := .next { s with mod := s.mod.awake (ppsOutEdge o now) }

/-- LEAP_SECOND (R376): at the end of the UTC day a pending leap second changes UTC_OFFSET; event 0x010A. -/
def leapSecond (m : Mod) : Mod :=
  let d : Int := if m.num 0x3C000A = 1 then 1 else if m.num 0x3C000A = 2 then -1 else 0
  if d = 0 then m
  else
    let v := ofInt 16 (m.int 16 0x3C0009 + d)
    (((m.set 0x3C0009 v).set 0x3C000A 0).raise 0x010A [v]).noteTime

/-- LEAP_SECOND. -/
def execLeapSecond (s : State) : Host.Outcome State Fault Refusal := .next { s with mod := s.mod.awake leapSecond }

end Sys2Proof.Machine
end

