-- ==== Sys2Proof/Machine/Tick.lean ====
section
/-!
DEFINITION. The tick: its start, its first start after a reset, its stop and its restart (R10-R15, R42, R246, R252, R539).
-/
namespace Sys2Proof.Machine

/-! ## The start of a tick -/

/-- The status bits of the triad formed from tick k - 1 (R252): ranks in the majority, a majority formed, the preferred publisher, and whether the
tick was held. -/
def Mod.triadBits (m : Mod) : Mod :=
  let t := m.triad
  let formed := t.majority.isSome
  let p := m.num 0x602006
  let m := m.each [1, 2, 3] (fun m r => (m.setBitAt (0x85FFF + r) (bit t.inMajority (r - 1))).setBitAt (0x86003 + r) (p == r))
  (m.setBitAt 0x86003 formed).setBitAt 0x86007 (!formed && m.inTriad)

/-- The messages, fetches and vote of the tick before are over. -/
def Mod.clearVote (m : Mod) : Mod :=
  { m with triad := { m.triad with
    agrees := [], vectors := [], fetches := [], own := {}, ownInTime := false, stage := 0, eligible := 0, present := 0, inMajority := 0, majority := none } }

/-- The commits that apply at the start of the tick: ARMED, with the tick as their target (R456, R460). -/
def Mod.dueCommits (m : Mod) : List Commit :=
  m.dic.held.filter (fun (c : Commit) => c.state == .armed && c.target == m.k)

/-- What every tick start does: the vote of the tick before is over, the switch's load in it is checked (R315), and the records form. Where commits
apply in the tick they do so first, and COMMIT_APPLY forms the records (R456); at a formation tick FORMATION_TICK does (R239). -/
def Mod.beginTick (m : Mod) : Mod :=
  let m := (m.clearVote.setBitAt 0x80005 false).sc0LoadCheck.noteTime
  if m.dueCommits.isEmpty && !m.formationDue then m.openTick else m

/-- k advances by one and q with it, the second at q = 0 (R12, R13). -/
def Mod.advance (m : Mod) : Mod :=
  let t := m.tick
  let wrap := t.q + 1 == m.hz
  let q := if wrap then 0 else t.q + 1
  let sec := if wrap then t.sec + 1 else t.sec
  { m with tick := { t with k := t.k + 1, q := q, sec := sec, phase := .I }, logic := { m.logic with l2 := false } }

/-- A step of the time base that waits takes effect at a tick start (R15). -/
def Mod.takeJump (m : Mod) : Mod :=
  match m.time.jump with
  | some x => ({ m with time := { m.time with jump := none } }).moveTime x
  | none => m

/-- Whether the next tick starts with a step of the time base, so that this one is lengthened: a jump that waits, or an armed step (R15, R387). -/
def Mod.stepNext (m : Mod) : Bool :=
  m.time.jump.isSome || m.dic.held.any (fun (c : Commit) => c.state == .armed && c.step.isSome && c.target == m.k + 1)

/-- The tick that a step lengthens clears the histories as it ends (R87; log entry 27). -/
def Mod.endTick (m : Mod) : Mod := if m.stepNext then m.clearForStep.flushCleared else m

/-- HOLDOVER_TIME counts the seconds of a holdover. -/
def Mod.holdoverTime (m : Mod) : Mod :=
  if m.tick.q = 0 ∧ (m.timeState = tsHoldover ∨ (m.timeState = tsLocking ∧ m.time.before = tsHoldover)) then m.bump 0x3C000C else m

/-- A DEMOTED module enters SEEK at the next tick start, and one in SEEK counts its ticks (R238). -/
def Mod.seekOn (m : Mod) : Mod :=
  if m.mstate = msDemoted then m.enterSeek
  else if m.mstate = msSeek then { m with triad := { m.triad with seekTicks := m.triad.seekTicks + 1 } }
  else m

/-- TICK_START (R12, R19): phase P ends and the next tick starts; where TICK_RUN was written 0, phases stop instead (R42). -/
def tickStart (m : Mod) : Mod :=
  if !m.inPhase .P then m
  else if m.tick.stopPending then { m with tick := { m.tick with running := false, stopPending := false } }
  else m.endTick.keepView.advance.takeJump.holdoverTime.triadBits.seekOn.beginTick

/-- TICK_START. -/
def execTickStart (s : State) : Host.Outcome State Fault Refusal := .next { s with mod := s.mod.awake tickStart }

/-! ## Starting and stopping the tick -/

/-- The tick starts with number k = S x R + q: the state of the first tick after a stop, and the member state SEEK or STANDALONE, but that a third
failed attempt keeps OUT; step 8 of start-up is complete (R12, R238, R538, R539). -/
def Mod.startTick (m : Mod) (k : Nat) : Mod :=
  let q := k % m.hz
  let sec := k / m.hz
  let m : Mod := { m with tick := { m.tick with k := k, q := q, sec := sec, running := true, stopPending := false, phase := .I } }
  let m := { m with logic := { m.logic with l2 := false } }.freshTick.clickerRestart.stepDone 8
  let m := if m.mstate ≠ msOut then m else if m.rank = 0 then (m.setMstate msStandalone).noteVote else if 3 ≤ m.triad.attempts then m else m.enterSeek
  m.beginTick

/-- Whether the time base has held time of day since reset: LOCKED at least once, or TOD_SET written (R539). -/
def Mod.heldTod (m : Mod) : Bool := m.time.everLocked || m.time.todSet

/-- FIRST_TICK_START (R539): in step 8, with TICK_RUN 1, at the boundary of TAI second `taiS`. -/
def firstTickStart (taiS : Nat) (m : Mod) : Mod :=
  if m.tick.running ∨ !m.on 0x200003 ∨ m.num 0x203001 ≠ 8 ∨ !m.heldTod then m else m.startTick (taiS * m.hz)

/-- FIRST_TICK_START. -/
def execFirstTickStart (taiS : Nat) (s : State) : Host.Outcome State Fault Refusal := .next { s with mod := s.mod.awake (firstTickStart taiS) }

/-- A stop of the tick: what it ends, and the place in the triad; a claim is released first, and a MEMBER is demoted by it (R42, R238, R251). -/
def Mod.stopTick (m : Mod) : Mod :=
  let m := if m.isMember then m.raise 0x0301 [m.rank, Config.eventField 0x0301 4, m.k] else m
  let m := ((m.releaseClaim 6).laceOff).haltTick
  if m.mstate = msStandalone then m else m.setMstate msOut

/-- TICK_STOP (R42): a write of 0 to TICK_RUN releases any claim, and phases I to P stop at the next tick start. -/
def tickStop (path : Path) (m : Mod) : Mod :=
  m.served path (fun m =>
    let m := m.set 0x200003 0
    if m.tick.running then ({ m with tick := { m.tick with stopPending := true } }).stopTick else m)

/-- TICK_STOP. -/
def execTickStop (path : Path) (s : State) : Host.Outcome State Fault Refusal :=
  .next { s with mod := s.mod.gate path (fun (m : Mod) => tickStop path m) }

/-- TICK_RUN_START (R42): a write of 1 to TICK_RUN; refused where the active bank's RATE differs from TICK_RATE. A tick that has run since the
reset restarts with the next tick number of the time base (R12); before that, FIRST_TICK_START follows. -/
def tickRunStart (path : Path) (now : Nat) (m : Mod) : Mod :=
  if lastRate m.activeLast ≠ m.num 0x200001 then m.report path abState
  else m.served path (fun m =>
    if m.on 0x200003 then m
    else
      let m := m.set 0x200003 1
      if m.num 0x203001 ≤ 8 then m else m.startTick (m.tb now * m.hz / 1000000000 + 1))

/-- TICK_RUN_START. -/
def execTickRunStart (path : Path) (now : Nat) (s : State) : Host.Outcome State Fault Refusal :=
  .next { s with mod := s.mod.gate path (fun (m : Mod) => tickRunStart path now m) }

end Sys2Proof.Machine
end

