-- ==== Sys2Proof/Machine/Values.lean ====
section
/-!
DEFINITION. What a write may carry: reserved bits ignored (R8), types and lengths (R446), the range of each object, and the conditions that
the chapters put on a value. What a condition leaves to the check of a commit stands in Check.lean.
-/
namespace Sys2Proof.Machine

/-! ## Reserved bits (R8) -/

/-- The bits of a written number that the object keeps; the others are reserved and ignored (R8). -/
def keptBits (o n : Nat) : Nat :=
  match o with
  | 0x441005 | 0x481006 => n &&& 0x800FFFFF
  | 0x481002 => n &&& 0xCFEF
  | 0x612001 => n % 2 ^ 24
  | 0x614003 => n % 4
  | 0x3B0001 => n &&& 0xF7FF8000
  | 0x381003 | 0x3B000B => if n < 0x8000 then n % 1024 else 0x8000 + n % 4096
  | 0x381004 => n % 16
  | 0x310004 => n % 4
  | 0x5C2001 | 0x5D0002 | 0x5A0008 | 0x5E4001 => n &&& 0x9FFFFFFF
  | 0x5D0003 => n % 2 ^ 29
  | 0x5D0004 => n &&& 0xF000FFFF
  | 0x5C2002 => n % 16
  | 0x4C1006 => n % 16
  | 0x4C6003 => if n / 2 ^ 30 = 1 then 2 ^ 30 + n % 64 else if n / 2 ^ 30 = 2 then 2 ^ 31 + n % 2 ^ 20 else n / 2 ^ 30 * 2 ^ 30
  | 0x51000C => n &&& 0xFC000FFFFFFFFFFF
  | _ => if 0x3400 ≤ o / 256 ∧ o / 256 < 0x3408 ∧ o % 256 = 3 then n % 8 else n

/-- Octets of records of `n` each, with those at the offsets that `keep` refuses read as 0. -/
def maskRecords (n : Nat) (keep : Nat → Bool) (b : List Byte) : List Byte := (indexed b).map (fun e => if keep (e.1 % n) then e.2 else 0)

/-- The octets of a written value that the object keeps; reserved octets of the terms of R406 and of the columns of R435 are ignored (R8). -/
def keptOctets (o : Nat) (b : List Byte) : List Byte :=
  match o with
  | 0x4C100B => maskRecords 8 (fun i => decide (i ≠ 2 ∧ i ≠ 3)) b
  | 0x5E0004 => maskRecords 12 (fun i => decide (i < 9)) b
  | _ => b

/-! ## Conditions on a number -/

/-- Whether a number is a front port, or `none'` (log entry 148). -/
def frontOr (n none' : Nat) : Bool := decide (n < 768) || n == none'

/-- The bit times of a phase, in 10^-9 s x 80 / 1,000 of the CAN clock: quanta of 12.5 ns (R427). -/
def canQuanta (brp seg1 seg2 : Nat) : Nat := (1 + seg1 + seg2) * brp

/-- Whether channel n's bit timing keeps R427 with object `o` taken as `v`: nominal rate up to 1 Mbit/s, data rate up to 8 Mbit/s and not below
the nominal, and synchronisation jump widths within TSEG2. -/
def Mod.canTimingOk (m : Mod) (o n v : Nat) : Bool :=
  let g := fun (x : Nat) => if x = o then v else m.num x n
  let nom := canQuanta (g 0x5C1002) (g 0x5C1003) (g 0x5C1004)
  let dat := canQuanta (g 0x5C1006) (g 0x5C1007) (g 0x5C1008)
  decide (80 ≤ nom ∧ 10 ≤ dat ∧ dat ≤ nom ∧ g 0x5C1005 ≤ g 0x5C1004 ∧ g 0x5C1009 ≤ g 0x5C1008)

/-- Whether classifier rule i keeps R343 with object `o` taken as `v`. -/
def Mod.ruleOk (m : Mod) (o i v : Nat) : Bool :=
  let a := if o = 0x3B0001 then v else m.num 0x3B0001 i
  let e := if o = 0x3B0004 then v else m.num 0x3B0004 i
  let cls := bitsOf a 26 24
  !(bit a 30 && bit a 29) &&
    (!bit a 28 || (cls != 1 && (cls != 0 || (e / 65536 == 0xFFFF && (e % 65536 == 0x88BA || e % 65536 == 0x88B8)))))

/-- Whether bridge route x keeps R439 with object `o` taken as `v`. -/
def Mod.routeOk (m : Mod) (o x v : Nat) : Bool :=
  let src := if o = 0x5D0001 then v else m.num 0x5D0001 x
  let e := if o = 0x5D0004 then v else m.num 0x5D0004 x
  let kind := bitsOf e 30 28
  decide (src < 192 ∨ (0x100 ≤ src ∧ src < 0x200)) &&
    (o != 0x5D0004 || decide (1 ≤ kind ∧ kind ≤ 3)) &&
    !(kind == 1 && decide (191 < e % 256 ∨ e % 256 = src)) && !(kind == 2 && decide (e % 256 = 0 ∨ 64 < e % 256)) &&
    !(kind == 3 && decide (0x100 ≤ src))

/-- Whether mirror session j keeps R326 with its analyser port and sources given. -/
def mirrorOk (dest : Nat) (sources : List Nat) : Bool :=
  (dest == 0xFFFF || decide (dest < 768) || dest == 864 || dest == 866) && !sources.contains dest

/-- The grade's default of TEMP_TRIP as a binary32 pattern: 110 or 120 degrees C (R541). -/
def Mod.tripDefault (m : Mod) : Nat := if m.num 0x101901 = 0 then 0x42DC0000 else 0x42F00000

/-- Whether a binary32 pattern is a number and not an infinity (R446). -/
def f32Fin (n : Nat) : Bool := bitsOf n 30 23 != 255

/-- The conditions that the chapters put on a number beyond its object's range (log entry 148). -/
def Mod.numOk (m : Mod) (o i n : Nat) : Bool :=
  match o with
  | 0x442001 => n != 0 || decide (m.num 0x442003 i ≤ 96)
  | 0x442002 => [1, 2, 4, 8].contains n
  | 0x442003 => decide ((m.activeBank i).taps ≤ n ∧ n ≤ if m.num 0x442001 i = 1 then 288 else 96)
  | 0x452004 => b32.le 0 n
  | 0x452008 => decide (n < 256) || n == 0xFFFF
  | 0x511009 => n % 32 == 0
  | 0x51100B | 0x4C1003 | 0x4C1004 => n % 65536 == 0
  | 0x4C1002 => decide (n ≤ 64)
  | 0x513009 | 0x515006 | 0x1F3002 => decide (n < 512) || n == 0xFFFF
  | 0x610001 => decide (1 ≤ n ∧ n ≤ 254)
  | 0x614001 | 0x614002 => n % 4096 == 0
  | 0x302004 => mirrorOk n (u16s (m.oct 0x302002 i))
  | 0x302006 => n == 0 || decide (64 ≤ n ∧ n ≤ 9216)
  | 0x390006 => decide (n < 4096) || n == 0xFFFF
  | 0x3A1001 => n == 4 || n == 6
  | 0x3A1004 => decide (n < 16384)
  | 0x3A2001 => decide (n ≤ 866) || n == 0xFFFF
  | 0x3B0001 | 0x3B0004 => m.ruleOk o i n
  | 0x3B0003 => decide (n ≤ 4094)
  | 0x320009 => decide (m.num 0x32000A i < n)
  | 0x32000A => decide (n < m.num 0x320009 i)
  | 0x330002 | 0x330003 | 0x338002 | 0x338003 | 0x338005 => frontOr n 0xFFFF
  | 0x3C1002 => decide (n < 8) || n == 0xFF
  | 0x3C3002 => decide ((toInt 32 n).natAbs ≤ 500000000)
  | 0x4C100C => decide (n < 16) || n == 0xFF
  | 0x4C4001 => decide ((toInt 16 n).natAbs ≤ 2048)
  | 0x4C6003 => n / 2 ^ 30 != 3
  | 0x5C1002 | 0x5C1003 | 0x5C1004 | 0x5C1005 | 0x5C1006 | 0x5C1007 | 0x5C1008 | 0x5C1009 => m.canTimingOk o i n
  | 0x5C2002 => !(bit n 1 && bit n 2)
  | 0x5D0001 | 0x5D0004 => m.routeOk o i n
  | 0x5E0002 => [1, 2, 4, 8, 16, 32, 64].contains n
  | 0x5E0003 => n % 8 == 0
  | 0x204005 => decide (n < m.num 0x204006)
  | 0x204006 => decide (m.num 0x204005 < n)
  | 0x206004 => b32.le n m.tripDefault
  | _ => true

/-- The conditions on octets beyond their object's lengths: addresses, groups of R450, a mirror session's sources, and the analogue signals of a
record slot (R416, R422). -/
def Mod.octOk (m : Mod) (o i : Nat) (b : List Byte) : Bool :=
  let n := b.length
  match o with
  | 0x401013 | 0x3A1002 | 0x3A3001 => n == 0 || n == 4 || n == 16
  | 0x3B0008 => n == 0 || n == 5 || n == 17
  | 0x1F2001 =>
    let l := u16s b
    l.all (fun x => decide (x ≤ 0x3FFF)) && (l.zip (l.drop 1)).all (fun e => decide (e.1 < e.2))
  | 0x302002 => m.num 0x302004 i == 0xFFFF || mirrorOk (m.num 0x302004 i) (u16s b)
  | 0x3D0004 => (u16s b).all (fun p => decide (p < 768))
  | 0x4C1009 => (List.range (n / 4)).all (fun j =>
      decide (field b (4 * j) 2 < 16384 ∧ (field b (4 * j + 2) 1 = 1 ∨ field b (4 * j + 2) 1 = 2) ∧ (field b (4 * j + 3) 1 < 32 ∨ field b (4 * j + 3) 1 = 0xFF)))
  | _ => true

/-! ## Key usages (R488) -/

/-- The USAGE that an object requires of the key slot it names: 1 GMAC_RX, 2 GMAC_TX, 3 HMAC; 0 for other objects. -/
def usageOf (o : Nat) : Nat :=
  match o with
  | 0x401011 | 0x401012 => 1
  | 0x513009 => 2
  | 0x1F3002 | 0x515006 => 3
  | _ => 0

/-- Whether the slot that an object is to name fits it, or the object is to name none (R488). -/
def Mod.usageOk (m : Mod) (o n : Nat) : Bool := usageOf o == 0 || n == 0xFFFF || m.num 0x642001 n == usageOf o

/-! ## A value as written -/

/-- Whether an octet may stand in a STRING (R446). -/
def printable (b : Byte) : Bool := decide (0x20 ≤ b.toNat ∧ b.toNat ≤ 0x7E)

/-- The code with which the octets written to object `o` are refused for their length or type; 0 where they are not (R446, R472). -/
def lengthCode (r : ObjRow) (bs : List Byte) : Nat :=
  let n := bs.length
  if tySize r.ty ≠ 0 then (if n = tySize r.ty then 0 else abLength)
  else if r.lenMax < n then abTooLong
  else if n < r.lenMin ∨ n % r.lenMul ≠ 0 then abLength
  else 0

/-- The value that octets written to object `o`, instance `i`, spell, or the code with which they are refused (R8, R446, R473). -/
def Mod.readValue (m : Mod) (r : ObjRow) (o i : Nat) (bs : List Byte) : Nat × Val :=
  let c := lengthCode r bs
  if c ≠ 0 then (c, .num 0)
  else if tySize r.ty = 0 then
    if (r.ty = .str ∧ !bs.all printable) ∨ !m.octOk o i bs then (abValue, .num 0) else (0, .oct (keptOctets o bs))
  else
    let n := keptBits o (leNat bs)
    if (r.ty = .f32 ∧ !f32Fin n) ∨ n < r.lo ∨ r.hi < n ∨ !m.numOk o i n then (abValue, .num 0) else (0, .num n)

end Sys2Proof.Machine
end

