-- ==== Sys2Proof/Machine/Apply.lean ====
section
/-!
DEFINITION. What a value does when it takes effect: the effects of committed entries at a tick start, and of writes that take effect at once
(R447, R456).
-/
namespace Sys2Proof.Machine

/-! ## Streams (R51, R60, R67, R87) -/

/-- STREAMS_ENABLED brought up to date. -/
def Mod.countStreams (m : Mod) : Mod := m.set 0x400001 m.streamsOn.length

/-- STREAM_ENABLE_APPLY, a committed enable of a stream that is disabled: WAITING with its counters at 0, its channels' histories and held values
cleared (R51, R60, R87). -/
def streamOn (s : Nat) (m : Mod) : Mod :=
  if m.on 0x401001 s then m
  else
    let m := ((m.set 0x401001 1 s).set 0x401015 1 s).clearSubs 0x4010 0x20 0x29 s
    let m := (m.setStreamRt s { enabledAt := m.k }).countStreams
    m.each (m.chansOf s) (fun m c =>
      let m := m.clearHistory c 1 true
      { m with ingest := { m.ingest with held := Table.del m.ingest.held c } })

/-- A committed disable of a stream that is enabled: DISABLED, its status bits clear, its filings gone and its channels MISSING and without history
(R49, R60, R69). -/
def streamOff (s : Nat) (m : Mod) : Mod :=
  if !m.on 0x401001 s then m
  else
    let m := ((m.set 0x401001 0 s).set 0x401015 0 s).setStreamRt s {}
    let m := (m.setBitAt (0x81000 + s) false).setBitAt (0x81800 + s) false
    let m := { m with ingest := { m.ingest with filings := m.ingest.filings.filter (fun e => e.1 / 3 % 2048 != s) } }
    (m.each (m.chansOf s) (fun m c => (m.set 0x402006 0x40 c).dropChannel c)).countStreams

/-! ## Channels, profiles and phasors (R87, R105) -/

/-- The phasor history of channel c cleared (R105). -/
def Mod.clearPhasor (m : Mod) (c : Nat) : Mod :=
  let ph := m.phChan c
  m.setPhChan c { ph with hist := [], latest := { ph.latest with made := false } }

/-- The history depth of channel c and of its phasor (R83, R100). -/
def Mod.depths (m : Mod) (c : Nat) : Nat × Nat :=
  (m.depthOf (m.num 0x441001 c) (m.triple c), phDepth (m.num 0x451002 c) (m.outRate c))

/-- A setting changed, with the histories of the channels `cs` cleared whose depth changes by it. -/
def Mod.keepDepths (m : Mod) (cs : List Nat) (f : Mod → Mod) : Mod :=
  let n := f m
  n.each cs (fun n c =>
    let a := m.depths c
    let b := n.depths c
    if a.1 ≠ b.1 then n.clearHistory c 2 false else if a.2 ≠ b.2 then n.clearPhasor c else n)

/-- The channels that use profile p: mapped ones, which USERS counts (R69, R97). -/
def Mod.onProfile (m : Mod) (p : Nat) : List Nat := m.mapped.filter (fun c => m.num 0x441001 c == p)

/-- A new SHIFT of channel c (R87). -/
def setShift (c v : Nat) (m : Mod) : Mod :=
  if m.num 0x441002 c = v then m else (m.set 0x441002 v c).clearHistory c 3 true

/-- A new RATE of profile p: the gain tables of its banks are for that rate (R103; log entry 200). -/
def setProfileRate (p v : Nat) (m : Mod) : Mod :=
  let m := m.set 0x442001 v p
  m.setProfile p { m.profile p with a := m.withGain p (m.profile p).a, b := m.withGain p (m.profile p).b }

/-- A new TAPS_MAX of profile p; an inactive bank with more taps has to be checked again (R81, R89; log entry 204). -/
def setTapsMax (p v : Nat) (m : Mod) : Mod :=
  let m := m.keepDepths (m.onProfile p) (fun m => m.set 0x442003 v p)
  if v < (m.inactiveBank p).taps then m.set 0x44200B 0 p else m

/-- PH_ENABLE of channel c: setting it clears the phasor history (R105). -/
def setPhEnable (c v : Nat) (m : Mod) : Mod :=
  if v = 1 ∧ !m.on 0x451001 c then (m.set 0x451001 v c).clearPhasor c else m.set 0x451001 v c

/-- ENABLE of reference group v (R111). -/
def setGroupEnable (g v : Nat) (m : Mod) : Mod :=
  let was := m.on 0x452001 g
  let m := m.set 0x452001 v g
  if v = 1 ∧ !was then m.enableGroup g else if v = 0 ∧ was then m.disableGroup g else m

/-! ## Engines (R176) -/

/-- A constant, timer preset or counter preset of engine g, by the block of its object (R176, R177). -/
def putOnline (block g i n : Nat) (m : Mod) : Mod :=
  let e := m.engine g
  m.setEngine g (match block with
    | 0x590 => { e with consts := Table.put e.consts i n }
    | 0x594 => { e with presets := Table.put e.presets i n }
    | _ => { e with limits := Table.put e.limits i n })

/-- ONLINE_CHANGE_APPLY: an online value changed by a commit; event 0x0604 (R176, R185). -/
def setOnline (block g i n : Nat) (m : Mod) : Mod := (putOnline block g i n m).raise 0x0604 [g, block * 16 + g, i, m.k]

/-! ## Restoring (R231) -/

/-- A slot's state from its 256 octets, its ticks moved by `d`; its outputs follow from the state: pickups by MODE, OP, and VAL and DIR 0, which the
image does not carry (log entry 212). -/
def slotFrom (bs : List Byte) (d type mode : Nat) : SlotSt :=
  let fl := field bs 2 2
  let n := field bs 28 4
  let ph := modePhases mode != 0
  let l := [bit fl 0, bit fl 1, bit fl 2]
  let pu := if type = 8 then bit fl 4 else if !ph then bit fl 0 else if bit mode 5 then l.all id else l.any id
  { out := outByte false false false (ph && bit fl 2) (ph && bit fl 1) (ph && bit fl 0) (bit fl 3) pu
    pa := bit fl 0, pb := bit fl 1, pc := bit fl 2, p0 := bit fl 0, op := bit fl 3, running := bit fl 4,
    up := field bs 4 4, dn := field bs 8 4, nRun := field bs 12 4, acc := field bs 16 8, offRun := field bs 24 4,
    puTick := (field bs 32 8 + d) % 2 ^ 32, opTick := (field bs 40 8 + d) % 2 ^ 32,
    hist := ((List.range (min n 48)).map (fun i => { q := field bs (64 + 4 * i) 4, valid := true })).reverse }

/-- An engine's state from its section, timers moved by `d`. -/
def restoreEngine (bs : List Byte) (d : Nat) (m : Mod) : Mod :=
  let g := field bs 0 4
  let words : Table Word := (List.range 3840).foldl (fun w r => Table.set w 0 r (BitVec.ofNat 32 (field bs (4 + 4 * r) 4))) []
  let tAt := 4 + 4 * 3840
  let cAt := tAt + 16 * 1024
  let kAt := cAt + 12 * 512
  let timers : Table TimerSt := (List.range 1024).foldl (fun x t =>
    let fl := field bs (tAt + 16 * t + 4) 4
    Table.set x {} t { run := bit fl 0, q := bit fl 1, last := bit fl 2,
                       k0 := (field bs (tAt + 16 * t + 8) 8 + d) % 2 ^ 48 }) []
  let presets : Table Nat := (List.range 1024).foldl (fun x t => Table.put x t (field bs (tAt + 16 * t) 4)) []
  let counters : Table CounterSt := (List.range 512).foldl (fun x c =>
    Table.set x {} c { cv := toInt 32 (field bs (cAt + 12 * c + 4) 4), edge := bit (field bs (cAt + 12 * c + 8) 4) 0 }) []
  let limits : Table Nat := (List.range 512).foldl (fun x c => Table.put x c (field bs (cAt + 12 * c) 4)) []
  let m := m.setEngine g { m.engine g with words := words, timers := timers, presets := presets, counters := counters, limits := limits }
  let m := m.setBits ((List.range 16384).map (fun i => (0x40000 + 0x4000 * g + i, bit (field bs (kAt + i / 8) 1) (i % 8))))
  m.setEngState g (field bs (kAt + 2048) 4)

/-- A publication slot's state from its 2,048 octets. -/
def restorePub (t : Nat) (bs : List Byte) (d : Nat) (m : Mod) : Mod :=
  m.setPub (pubInst t (field bs 0 1)) {
    sq := field bs 8 4, interval := field bs 12 4, due := (field bs 16 8 + d) % 2 ^ 48, commitTick := (field bs 24 8 + d) % 2 ^ 48,
    frame := slice bs 256 (field bs 32 2) }

/-- One setting of an image put back: an engine's image is loaded as after a passed check; a channel's profile, shift and phasor settings clear
histories as a commit's do (R87, R105, R231); a constant or preset goes to its engine; any other object takes its value. -/
def restoreSetting (e : Nat × Nat × List Byte) (m : Mod) : Mod :=
  let (o, i, bs) := e
  match o with
  | 0x581002 => loadEngine i (putLogicImage i bs false m)
  | 0x441001 | 0x451002 => m.keepDepths [i] (fun m => m.setVal o (decodeVal o bs) i)
  | 0x441002 => setShift i (leNat bs) m
  | 0x451001 => setPhEnable i (leNat bs) m
  | _ => if o / 0x1000 = 0x590 ∨ o / 0x1000 = 0x594 ∨ o / 0x1000 = 0x596 then putOnline (o / 0x1000) (o / 256 % 16) i (leNat bs) m
    else m.setVal o (decodeVal o bs) i

/-- The content of a section, empty where the image has none. -/
def imgBody (img : List Byte) (ty : Nat) : List Byte :=
  match imgSection img ty with
  | some (_, b) => b
  | none => []

/-- Consecutive pieces of `n` octets. -/
def pieces (n : Nat) (bs : List Byte) : List (List Byte) := (List.range (bs.length / n)).map (fun i => slice bs (n * i) n)

/-- A committed restore of the loaded image at k_r (R231): RUNNING under the staged allotment (log entry 57) with a new GEN and fresh tokens, every
stored tick moved by k_r - FREEZE_TICK, identity 5, event 0x0522. -/
def tenantRestore (m : Mod) : Mod :=
  let img := m.ten.loadBuf
  let t := field img 7 1
  if img.isEmpty ∨ m.tnState t ≠ tnEmpty then m
  else
    let d := (m.k + 2 ^ 48 - field img 0x10 8 % 2 ^ 48) % 2 ^ 48
    let sets := (imgSettings img).filter (fun e => e.1 / 256 != 0x5110 && !([0x510003, 0x510004, 0x510005, 0x510007].contains e.1))
    let m := m.newTenant t
    let m := m.each sets (fun m e => restoreSetting e m)
    let m := m.poke (m.tnSram t).1 (imgBody img 2)
    let m := m.each (pieces 256 (imgBody img 3)) (fun m b =>
      { m with element := { m.element with slots := Table.set m.element.slots {} (field b 0 2) (slotFrom b d (m.slotType (field b 0 2)) (m.slotMode (field b 0 2))) } }.retableSlot
        (field b 0 2))
    let m := m.each (pieces (4 + 15360 + 16384 + 6144 + 2048 + 4) (imgBody img 4)) (fun m b => restoreEngine b d m)
    let m := m.each (pieces 2048 (imgBody img 5)) (fun m b => restorePub t b d m)
    let mb := imgBody img 6
    let m := m.poke (vfAt t + 0x1000) (slice mb 0 8192)
    let tb := imgBody img 7
    let m := m.setTenant t { m.tenant t with
      mbIn := field mb 8192 2
      mbOut := field mb 8194 2
      tickShift := d
      tbits := (List.range (tb.length / 4)).foldl (fun x i => Table.set x 0 i (field tb (4 * i) 4)) [] }
    let m := { m with ten := { m.ten with loadBuf := [] } }.set 0x515003 0
    (m.identity t 5).raise 0x0522 [t, m.k, d]

/-! ## PTP instances (R394) -/

/-- ENABLE of PTP instance i: the ports of an enabled instance listen, those of a disabled one initialise (log entry 151). -/
def setPtpEnable (i v : Nat) (m : Mod) : Mod :=
  let m := m.set 0x3D0001 v i
  let m := m.each (m.instPorts i) (fun m p => (m.setPtpPort p {}).set 0x3D4001 (if v = 1 then ptListening else 1) p)
  m.syncSources.judgeTime

/-! ## Objects of access RW whose value has a consequence at once -/

/-- ROUTES_USED: bridge entries in use. -/
def Mod.countRoutes (m : Mod) : Mod := m.set 0x5C000B ((m.instancesOn 0x5D0004).filter (fun x => bit (m.num 0x5D0004 x) 31)).length

/-- A value of an RW object in force, with what follows from it at once: sources of time (R381), TRIG lines (R409), the watchdog (R536), mirror
sessions (R326), pause (R354), bridge routes. -/
def Mod.putRw (m : Mod) (env : Env) (o i : Nat) (v : Val) : Mod :=
  let was := m.num o i
  let m := m.setVal o v i
  match o with
  | 0x3C1002 | 0x3C2001 => m.syncSources.judgeTime
  | 0x4C6001 => m.trigFollow i env.now
  | 0x4C6003 => if was / 2 ^ 30 = 1 ∧ m.trigMode i = some 1 then m else m.trigFollow i env.now
  | 0x3C0009 => { m with time := { m.time with leapKnown := true } }
  | 0x612001 => m.routesInUse
  | 0x60000C => m.each (List.range 24) (fun m l => m.judgeTriadLink l)
  | 0x611002 => if m.lkState i = lkHello ∨ m.lkUp i then m.sayHello i else m
  | 0x5D0004 => m.countRoutes
  | 0x203006 => { m with power := { m.power with wdtAt := env.now } }
  | 0x302001 => if was = 0 ∧ m.on o i then { m with sw := { m.sw with mirrors := Table.del m.sw.mirrors i } } else m
  | 0x320006 | 0x320007 | 0x320009 | 0x32000A => pauseCheck i m
  | _ => m

/-- A function that reports on the supervisor's path, without its report: its effect and the code it would report. -/
def Mod.quietly (m : Mod) (f : Mod → Mod) : Mod × Nat :=
  let n := f m
  ({ n with dic := { n.dic with lastAbort := m.dic.lastAbort } }, n.lastAbort .supervisor)

/-- The number a value holds. -/
def valNum : Val → Nat
  | .num n => n
  | .oct _ => 0

/-- The octets a value holds. -/
def valOct : Val → List Byte
  | .num _ => []
  | .oct b => b

/-- Objects of access RW that have a command of their own: its meaning on a path. -/
def ownRw (env : Env) (path : Path) (o i : Nat) (v : Val) : Option (Mod → Mod) :=
  let n := valNum v
  match o with
  | 0x200003 => some (if n = 0 then tickStop path else tickRunStart path env.now)
  | 0x202002 => some (inactiveImageWrite path (valOct v))
  | 0x442007 => some (profileTapsWrite path i n)
  | 0x442008 => some (profileCoeffsWrite path i (valOct v))
  | 0x515004 => some (imageSegmentWrite path 0 (valOct v) true)
  | 0x310001 => some (laneModeWrite path i n)
  | 0x310004 => some (lanePolarityWrite path i n)
  | 0x320001 => some (portEnableWrite path i n)
  | 0x320003 => some (portDormantWrite path i n)
  | 0x5C1001 => some (canModeWrite path i n)
  | 0x611001 => some (weltLanesWrite path i n)
  | _ => none

/-! ## One entry of a commit -/

/-- One instance's entry takes effect at a tick start; `port` says that the commit came through a tenant's port (R171, R218, R456). -/
def Mod.putEntry (m : Mod) (env : Env) (port : Bool) (o i : Nat) (v : Val) : Mod :=
  let n := valNum v
  match o with
  | 0x200001 => m.newRate n
  | 0x202005 => (m.set o n).swapLast m.k
  | 0x401001 => if n = 1 then streamOn i m else streamOff i m
  | 0x441001 => m.keepDepths [i] (fun m => m.set o n i)
  | 0x441002 => setShift i n m
  | 0x442001 => setProfileRate i n m
  | 0x442002 => m.keepDepths (m.onProfile i) (fun m => m.set o n i)
  | 0x442003 => setTapsMax i n m
  | 0x44200C => (m.set o n i).swapProfile i m.k
  | 0x451001 => setPhEnable i n m
  | 0x451002 => m.keepDepths [i] (fun m => m.set o n i)
  | 0x452001 => setGroupEnable i n m
  | 0x581002 => putLogicImage i (valOct v) port m
  | 0x581003 => (m.quietly (logicCheckWrite .supervisor i n)).1
  | 0x581005 => startEngine i (m.set o n i)
  | 0x581007 => stopEngine i (m.set o n i)
  | 0x5A0001 => stationEnable i n m
  | 0x510003 => tenantCreate i (m.set o n i)
  | 0x510004 => tenantDestroy i (m.set o n i)
  | 0x510005 => tenantFreeze i 1 (m.set o n i)
  | 0x510007 => tenantUnfreeze i (m.set o n i)
  | 0x511010 => resourceApply i (m.set o n i)
  | 0x515005 => tenantRestore (m.set o n i)
  | 0x3C0007 => (m.set o n i).judgeTime
  | 0x3D0001 => setPtpEnable i n m
  | 0x4C1001 => (m.set o n i).ckEnable i (n == 1)
  | _ =>
    if o / 0x1000 = 0x590 ∨ o / 0x1000 = 0x594 ∨ o / 0x1000 = 0x596 then setOnline (o / 0x1000) (o / 256 % 16) i n m
    else match ownRw env .supervisor o i v with
      | some f => (m.quietly f).1
      | none => m.putRw env o i v

/-- The instances an entry sets: one, or every instance of the object (R449, R450); the preset profiles are read-only (R80). -/
def Mod.targets (m : Mod) (e : StageEntry) : List Nat :=
  if e.sel ≠ 0xFFFF then [e.sel]
  else if e.obj / 256 = 0x4420 then (m.instances e.obj).filter (fun p => decide (4 ≤ p))
  else m.instances e.obj

/-- An entry with its selector. -/
def Mod.putStaged (m : Mod) (env : Env) (port : Bool) (e : StageEntry) : Mod :=
  m.each (m.targets e) (fun m i => m.putEntry env port e.obj i e.val)

/-! ## What follows the entries of a commit -/

/-- The element slots that entries name. -/
def slotsNamed (es : List StageEntry) : List Nat :=
  let l := es.filter (fun e => e.obj / 256 == 0x4810)
  if l.any (fun e => e.sel == 0xFFFF) then List.range 4096 else (l.map StageEntry.sel).eraseDups

/-- What decides whether a commit resets a slot: TYPE, sources, BLOCK_SRC and MODE bits 11:0 (R134). -/
def Mod.slotKey (m : Mod) (e : Nat) : List Nat :=
  [m.num 0x481001 e, m.num 0x481003 e, m.num 0x481004 e, m.num 0x481005 e, m.num 0x481006 e, m.num 0x481002 e % 4096]

/-- The slots whose settings a commit may have changed: those its entries name, and those it has taken out of use (R134, R224). -/
def Mod.slotsTouched (m before : Mod) (es : List StageEntry) : List Nat :=
  (slotsNamed es ++ before.slotsOn.filter (fun e => m.slotType e == 0)).eraseDups

/-- SLOT_COMMIT_RESET: a slot whose key changed starts from the reset state at phase E, its outputs and record standing until then; another takes
its tables anew (R134). -/
def Mod.settleSlots (m before : Mod) (slots : List Nat) : Mod :=
  m.each slots (fun m e => if m.slotKey e = before.slotKey e then m.retableSlot e else m.restartSlot e)

/-- The slots that a commit resets (R153). -/
def Mod.slotsReset (m before : Mod) (es : List StageEntry) : List Nat :=
  (m.slotsTouched before es).filter (fun e => m.slotKey e != before.slotKey e)

/-! ### Mixed delays and blockers (R95) -/

/-- The channels that a source word names. -/
def Mod.srcChans (m : Mod) (w : Nat) : List Nat :=
  match srcKind w with
  | 1 | 2 => [srcA w]
  | 9 => [srcA w, srcB w]
  | 3 | 4 | 5 | 10 => m.phases (srcA w)
  | _ => []

/-- Whether a list holds two different values. -/
def differ {α : Type} [BEq α] : List α → Bool
  | [] => false
  | a :: t => t.any (fun b => b != a)

/-- Whether channels differ in group delay or output rate, and whether in blocker settings, among those that produce outputs (R95). -/
def Mod.mixed (m : Mod) (cs : List Nat) : Bool × Bool :=
  let cs := (cs.eraseDups).filter m.hasOutput
  let delay := fun (c : Nat) =>
    let n := (m.coeffs (m.num 0x441001 c) (m.triple c)).1
    ((n - 1) * (if m.triple c then 1 else 3), m.outRate c)
  let blk := cs.filter (fun c => m.on 0x441003 c)
  if cs.length < 2 then (false, false)
  else (differ (cs.map delay), differ (cs.map (fun c => m.on 0x441003 c)) || differ (blk.map (fun c => (m.num 0x441004 c, m.num 0x441005 c))))

/-- The groups and slots compared, as FIRST_MIXED_DELAY names them, with their channels: enabled three-phase groups g, then slots in use as
0x8000 + e (R95). -/
def Mod.mixables (m : Mod) : List (Nat × List Nat) :=
  (m.instancesOn 0x453005).map (fun g => (g, m.phases g)) ++
    m.slotsOn.map (fun e => (0x8000 + e, m.srcChans (m.src e 0) ++ m.srcChans (m.src e 1) ++ m.srcChans (m.src e 2)))

/-- MIXED_CHANNEL_CHECK: the offenders counted and the first of them named; warnings only (R95). -/
def Mod.mixedCheck (m : Mod) : Mod :=
  let l := m.mixables.map (fun e => (e.1, m.mixed e.2))
  let d := (l.filter (fun e => e.2.1)).map Prod.fst
  let b := (l.filter (fun e => e.2.2)).map Prod.fst
  let m := (m.set 0x443001 d.length).set 0x443002 (d.headD 0xFFFF)
  (m.set 0x443003 b.length).set 0x443004 (b.headD 0xFFFF)

/-- The state after a list of entries, in stage order, with what follows from them: slots settled (R134), pools in use (R83, R100) and the check of
R95. Events of the tick as a whole are left to the caller. -/
def Mod.putEntries (m : Mod) (env : Env) (port : Bool) (es : List StageEntry) : Mod :=
  let n := m.each es (fun m e => m.putStaged env port e)
  let n := n.settleSlots m (n.slotsTouched m es)
  let n := (n.set 0x440001 n.poolUsed).set 0x450001 n.phPoolUsed
  n.mixedCheck

end Sys2Proof.Machine
end

