-- ==== Sys2Proof/Machine/Check.lean ====
section
/-!
DEFINITION. The check of a commit: each entry against the state it finds, then the blocks' rules on the state after all of them (R447, R456).
-/
namespace Sys2Proof.Machine

/-! ## RWS objects (R447) -/

/-- Whether link l is OFF for every l (R290). -/
def Mod.linksOff (m : Mod) : Bool := (List.range 24).all (fun l => m.num 0x611001 l == 0)

/-- Whether the owning block of an RWS object is stopped or disabled, so that the object may be written (R447, log entry 152). -/
def Mod.rwsFree (m : Mod) (o i : Nat) : Bool :=
  match o / 256 with
  | 0x2000 | 0x4000 | 0x4500 | 0x6000 => m.stopped
  | 0x4010 => !m.on 0x401001 i
  | 0x4420 => m.stopped || (m.onProfile i).isEmpty
  | 0x5810 => m.engState i != enRunning
  | 0x5A00 => m.num 0x5A0001 i != 1
  | 0x6100 => m.linksOff
  | 0x3D00 => !m.on 0x3D0001 i
  | 0x4C10 => !m.on 0x4C1001 i
  | 0x4C50 => !(m.instancesOn 0x4C1001).any (fun x => (m.ckSigs x).any (fun d => d.mask == i))
  | 0x5C10 => m.num 0x5C1001 i == 0
  | 0x5C20 => m.num 0x5C1001 (i / 3) == 0
  | _ => true

/-! ## Outcomes of a check -/

/-- What a check finds: the code, 0 when it passes, and what the owning block reports of a failure. -/
structure Verdict where
  code : Nat := 0
  report : Mod → Mod := id

/-- A check that passes. -/
def pass : Verdict := {}

/-- A failure where `bad` holds. -/
def failIf (bad : Bool) (code : Nat) (report : Mod → Mod := id) : Verdict := if bad then { code := code, report := report } else {}

/-- The first failure of a list of checks. -/
def firstFail : List Verdict → Verdict
  | [] => {}
  | v :: t => if v.code = 0 then firstFail t else v

/-! ## One entry (R34, R90, R171, R205, R222, R230, R447, R488) -/

/-- Whether tokens can be drawn (R498). -/
def Mod.drbgOff (m : Mod) : Bool := m.num 0x643002 == 2

/-- A staged allotment of tenant t that fails, with its cause (R223). -/
def Mod.allotVerdict (m : Mod) (t : Nat) : Verdict :=
  let c := m.allotCause t
  failIf (c != 0) abCheck (fun n => ((n.set 0x511012 c t).set 0x511011 3 t).raise 0x0505 [t, c])

/-- The restore of the loaded image (R230): refused where its check does not pass against the allotment in force in the commit. -/
def Mod.restoreVerdict (m : Mod) : Verdict :=
  let img := m.ten.loadBuf
  let t := field img 7 1
  let r := ({ m with dic := { m.dic with stages := [] } }).restoreCheck .supervisor img
  failIf (img.isEmpty || !bit r 31) abCheck (fun n =>
    let n := { n with ten := { n.ten with loadBuf := [] } }
    ((n.set 0x515007 r).wipe (sramAt + m.num 0x511001 t) (m.num 0x511002 t)).raise 0x0521 [t, r])

/-- A start of engine g (R171, R173): refused while the engine is neither STOPPED nor FAULTED, while its ownership conflicts, and while it is
FAULTED unless the commit came through the supervisor's path. -/
def Mod.startVerdict (m : Mod) (path g : Nat) : Verdict :=
  let st := m.engState g
  if st = enFaulted ∧ path ≠ 0 then { code := abAccess, report := fun n => n.raise 0x0607 [g, path] }
  else failIf ((st != enStopped && st != enFaulted) || ownsClash (m.engine g).own (m.othersOwn g)) abCheck
    (fun n => n.raise 0x0603 [g, m.num 0x581004 g])

/-- One instance's entry against the state it finds; `path` is the commit's PATH. -/
def Mod.entryVerdict (m : Mod) (env : Env) (path o i : Nat) (v : Val) : Verdict :=
  let n := valNum v
  if accessOf o = some .rws ∧ !m.rwsFree o i then { code := abState }
  else if !m.usageOk o n then { code := abCheck }
  else if (o = 0x442001 ∨ o = 0x442003) ∧ !m.numOk o i n then { code := abValue }
  else match o with
    | 0x202005 => failIf (!bit (m.num 0x202004) 31) abCheck
    | 0x44200C => failIf (!bit (m.num 0x44200B i) 31) abCheck
    | 0x581005 => m.startVerdict path i
    | 0x510003 => firstFail [failIf m.drbgOff abCheck, if m.tnState i = tnEmpty then m.allotVerdict i else pass]
    | 0x511010 => m.allotVerdict i
    | 0x515005 => firstFail [failIf m.drbgOff abCheck, m.restoreVerdict]
    | _ => match ownRw env .supervisor o i v with
      | some f => { code := (m.quietly f).2 }
      | none => pass

/-- One instance after another: each is checked and takes effect, until one fails. -/
def tryInstances (env : Env) (path : Nat) (port : Bool) (e : StageEntry) : List Nat → Mod → Verdict × Mod
  | [], m => (pass, m)
  | i :: t, m =>
    let v := m.entryVerdict env path e.obj i e.val
    if v.code ≠ 0 then (v, m) else tryInstances env path port e t (m.putEntry env port e.obj i e.val)

/-- The entries of a commit in stage order, each checked and taking effect, until one fails. -/
def tryEntries (env : Env) (path : Nat) (port : Bool) : List StageEntry → Mod → Verdict × Mod
  | [], m => (pass, m)
  | e :: t, m =>
    let r := tryInstances env path port e (m.targets e) m
    if r.1.code ≠ 0 then r else tryEntries env path port t r.2

/-! ## The state after (R48, R49, R82, R100, R107, R117, R125, R248, R359, R394, R401, R435) -/

/-- Whether two enabled streams share all four keys (R48). -/
def Mod.sameKeys (m : Mod) (a b : Nat) : Bool :=
  m.oct 0x401002 a == m.oct 0x401002 b && [0x401003, 0x401004].all (fun o => m.num o a == m.num o b) && m.oct 0x401005 a == m.oct 0x401005 b

/-- Every unordered pair of a list. -/
def pairsOf : List Nat → List (Nat × Nat)
  | [] => []
  | a :: t => t.map (fun b => (a, b)) ++ pairsOf t

/-- The streams: keys, names, and channel ranges (R48, R49). -/
def Mod.streamsVerdict (m : Mod) : Verdict :=
  let on := m.streamsOn
  failIf (on.any (fun s => (m.oct 0x401005 s).isEmpty || decide (16384 < m.num 0x40100A s + m.num 0x401009 s)) ||
    (pairsOf on).any (fun e => m.sameKeys e.1 e.2 ||
      rangesMeet (m.num 0x40100A e.1) (m.num 0x401009 e.1) (m.num 0x40100A e.2) (m.num 0x401009 e.2))) abCheck

/-- The channels of enabled streams: profiles of the stream's rate with an active bank, and the pools (R82, R83, R100). -/
def Mod.channelsVerdict (m : Mod) : Verdict :=
  failIf (m.streamsOn.any (fun s => (m.chansOf s).any (fun c =>
      let p := m.num 0x441001 c
      decide (4 ≤ p) && (m.num 0x442001 p != m.num 0x401007 s || (m.activeBank p).taps == 0))) ||
    decide (1048576 < m.poolUsed ∨ 2097152 < m.phPoolUsed)) abCheck

/-- The channels whose phasors are the source of reference group v. -/
def Mod.groupSources (m : Mod) (v : Nat) : List Nat :=
  if m.num 0x452002 v = 0 then [m.num 0x452003 v] else m.phases (m.num 0x452003 v)

/-- An enabled reference group that breaks R107. -/
def Mod.groupBad (m : Mod) (v : Nat) : Bool :=
  let fb := m.num 0x452008 v
  (m.groupSources v).any (fun c => !m.phasorEnabled c || m.num 0x451003 c != v || m.divisor (m.num 0x441001 c) != 1) ||
    (m.num 0x452002 v == 1 && !m.threeOn (m.num 0x452003 v)) ||
    (fb != 0xFFFF && (fb == v || m.num 0x452008 fb != 0xFFFF))

/-- An enabled three-phase group that breaks R117. -/
def Mod.threeBad (m : Mod) (g : Nat) : Bool :=
  let cs := m.phases g
  cs.any (fun c => !m.phasorEnabled c) || differ (cs.map (fun c => m.num 0x451003 c)) || differ (cs.map (fun c => m.num 0x451002 c))

/-- The groups of the phasor engine (R107, R117). -/
def Mod.groupsVerdict (m : Mod) : Verdict :=
  failIf ((m.instancesOn 0x452001).any m.groupBad || (m.instancesOn 0x453005).any m.threeBad) abCheck

/-- The lowest slot that breaks a rule, with its cause; a commit of tenant t names no slot of another owner (R152). -/
def Mod.slotsVerdict (m : Mod) (t : Option Nat) (named : List Nat) : Verdict :=
  let foreign := fun (e : Nat) => match t with
    | some t => named.contains e && m.num 0x481016 e != t
    | none => false
  let l := ((m.slotsOn ++ named.filter foreign).eraseDups.mergeSort).filter (fun e => m.slotCause e (foreign e) != 0)
  match l with
  | [] => pass
  | e :: _ => { code := abCheck, report := fun n =>
      let c := m.slotCause e (foreign e)
      ((n.set 0x480002 e).set 0x480003 c).raise 0x0742 [e, c] }

/-- The length of the vector that a start, an allotment or a Last swap leaves (R248). -/
def Mod.vectorVerdict (m : Mod) (es : List StageEntry) : Verdict :=
  failIf (es.any (fun e => e.obj == 0x581005 || e.obj == 0x511010 || e.obj == 0x510003 || e.obj == 0x202005) &&
    decide (4096 < 32 + 4 * m.outWords.length + 8 * m.pubEntries.length + 4)) abCheck

/-- The slots that entries enable are judged by R401, the lowest first. -/
def Mod.clickerVerdict (m : Mod) (es : List StageEntry) : Verdict :=
  let xs := (es.filter (fun e => e.obj == 0x4C1001 && e.val == .num 1)).flatMap (fun e => if e.sel = 0xFFFF then List.range 64 else [e.sel])
  match (xs.mergeSort).filter (fun x => m.ckRefusal x != 0) with
  | [] => pass
  | x :: _ => { code := abCheck, report := fun n => (n.set 0x4C000C x).raise 0x0805 [x, m.ckRefusal x] }

/-- Whether an enabled ring joins two front ports of one lane mode with REDUNDANCY 1 (R359). -/
def Mod.ringOk (m : Mod) (r : Nat) : Bool :=
  let a := m.num 0x330002 r
  let b := m.num 0x330003 r
  decide (a < 768 ∧ b < 768 ∧ a ≠ b) && m.num 0x310001 (a / 4) == m.num 0x310001 (b / 4) && m.num 0x320012 a == 1 && m.num 0x320012 b == 1

/-- Rings, where the commit names one (R359; log entry 153). -/
def Mod.ringsVerdict (m : Mod) (es : List StageEntry) : Verdict :=
  failIf (es.any (fun e => e.obj / 256 == 0x3300) && (m.instancesOn 0x330001).any (fun r => !m.ringOk r)) abCheck

/-- The ports of the PTP instances, where the commit names them: at most 16, none in both (R394). -/
def Mod.ptpVerdict (m : Mod) (es : List StageEntry) : Verdict :=
  let a := m.instPorts 0
  let b := m.instPorts 1
  failIf (es.any (fun e => e.obj == 0x3D0004) && (decide (16 < a.length + b.length) || a.any b.contains)) abCheck

/-- The system matrices of the channels that a commit names (R435). -/
def Mod.matrixVerdict (m : Mod) (es : List StageEntry) : Verdict :=
  let all := es.any (fun e => e.obj / 256 == 0x5E40 || (e.obj / 256 == 0x5E00 && e.sel == 0xFFFF))
  let ns := if all then List.range 8 else ((es.filter (fun e => e.obj / 256 == 0x5E00)).map StageEntry.sel).eraseDups
  failIf (ns.any m.ttBad) abCheck

/-- The rules on the state after all entries. -/
def Mod.afterVerdict (m : Mod) (t : Option Nat) (es : List StageEntry) : Verdict :=
  firstFail [m.streamsVerdict, m.channelsVerdict, m.groupsVerdict, m.slotsVerdict t (slotsNamed es), m.vectorVerdict es, m.clickerVerdict es,
    m.ringsVerdict es, m.ptpVerdict es, m.matrixVerdict es]

/-! ## A commit -/

/-- Whether a commit came through a tenant's port. -/
def Commit.port (c : Commit) : Bool := c.kind == 2

/-- The tenant of a KIND 2 commit (R457). -/
def Commit.tenant (c : Commit) : Option Nat := if c.kind = 2 then some (c.id / 2 ^ 16 % 256) else none

/-- What the check of a commit finds, against the state given (R456). -/
def Mod.commitVerdict (m : Mod) (env : Env) (c : Commit) : Verdict :=
  if c.kind = 3 then pass
  else
    let r := tryEntries env c.path c.port c.entries m
    if r.1.code ≠ 0 then r.1 else r.2.afterVerdict c.tenant c.entries

/-- What a commit that passes its check puts in force: its entries, or what a module-internal commit carries (R216, R387, R391). -/
def Mod.carryOut (m : Mod) (env : Env) (c : Commit) : Mod :=
  if c.kind ≠ 3 then m.putEntries env c.port c.entries
  else match c.freeze with
    | some t => tenantFreeze t 2 m
    | none => match c.step with
      | some x => m.stepApplied x
      | none => match c.timeBits with
        | some v => m.putTimeBits v
        | none => m

/-- Two commits in the order in which they apply: by target tick, then COMMIT_ID (R456). -/
def commitLe (a b : Commit) : Bool := decide (a.target < b.target) || (a.target == b.target && decide (a.id ≤ b.id))

/-- The commits that apply before commit c: CONFIRMED or ARMED with an earlier or equal target, in order (R456). -/
def Mod.before (m : Mod) (c : Commit) : List Commit :=
  (m.dic.held.filter (fun (x : Commit) => x.id != c.id && (x.state == .confirmed || x.state == .armed) && decide (x.target ≤ c.target))).mergeSort commitLe

/-- The state a proposal is checked against: the active one with those commits applied (R456). -/
def Mod.expected (m : Mod) (env : Env) (c : Commit) : Mod := m.each (m.before c) (fun m x => m.carryOut env x)

end Sys2Proof.Machine
end

