-- ==== Sys2Proof/Machine/Commit.lean ====
section
/-!
DEFINITION. Commits: how a stage is proposed, the messages between the members, the schedule, and how a commit applies (R453-R462).
-/
namespace Sys2Proof.Machine

/-! ## The record and the digest (R237, R457) -/

/-- SETTINGS_DIGEST chained over a commit that applies: D := CRC(D ‖ record ‖ target tick) (R237; log entry 154). -/
def Mod.chainDigest (m : Mod) (c : Commit) : Mod :=
  if m.digestChained then m.set 0x600006 (crc32 (toLE 4 (m.num 0x600006) ++ c.record ++ toLE 8 c.target)) else m

/-! ## Swaps that a commit carries (R34, R35, R90) -/

/-- Whether entries swap the Last. -/
def swapsLast (es : List StageEntry) : Bool := es.any (fun e => e.obj == 0x202005)

/-- The profiles whose banks entries swap. -/
def swapsProfiles (es : List StageEntry) : List Nat :=
  (es.filter (fun e => e.obj == 0x44200C)).flatMap (fun e => if e.sel = 0xFFFF then instancesAll 0x44200C else [e.sel])

/-- Whether the Last swap of a request fails R34: no passed check, a swap pending, or another module without the same image. -/
def Mod.lastBarred (m : Mod) (same : Bool) : Bool := m.swapPending || !bit (m.num 0x202004) 31 || (!m.stopped && !same)

/-- Whether the bank swap of profile p fails R90. -/
def Mod.profileBarred (m : Mod) (same : Bool) (p : Nat) : Bool :=
  m.profileSwapPending p || !bit (m.num 0x44200B p) 31 || (!m.stopped && !same)

/-- A Last swap request that fails R34: SWAP_STATE 3 unless a swap is pending, event 0x0B21 (R35). -/
def Mod.lastRefused (m : Mod) : Mod := (if m.swapPending then m else m.set 0x202006 3).raise 0x0B21 [abCheck]

/-- A bank swap request that fails R90: state 3 unless one is pending, event 0x0721. -/
def Mod.profileRefused (m : Mod) (p : Nat) : Mod :=
  (if m.profileSwapPending p then m else m.set 0x44200D 3 p).raise 0x0721 [p, Config.eventField 0x0721 abCheck]

/-- What is reported of each swap that entries request where their commit is refused before it is taken up (R34, R35, R90, R98). -/
def Mod.swapsRefused (m : Mod) (es : List StageEntry) : Mod := (m.when (swapsLast es) Mod.lastRefused).each (swapsProfiles es) Mod.profileRefused

/-- The swaps of entries judged by R34 and R90; where one fails, what is reported of each swap requested. `tickBad` says that the target is out
of range. -/
def Mod.swapsBarred (m : Mod) (same tickBad : Bool) (es : List StageEntry) : Option Mod :=
  let last := swapsLast es
  let ps := swapsProfiles es
  let bad := (last || !ps.isEmpty) && tickBad || (last && m.lastBarred same) || ps.any (m.profileBarred same)
  if !bad then none
  else some (m.swapsRefused es)

/-- The swaps of a commit taken up are pending (R35, R90). -/
def Mod.markSwaps (m : Mod) (c : Commit) : Mod :=
  let m := m.when (swapsLast c.entries) (fun m =>
    { m with tick := { m.tick with swapTick := c.target, swapCommit := c.id } }.set 0x202006 1)
  m.each (swapsProfiles c.entries) (fun m p =>
    (m.setProfile p { m.profile p with swapTick := c.target, swapCommit := c.id }).set 0x44200D 1 p)

/-- The allotments that a commit taken up closes are pending, and so is a restore (R222, R230). -/
def Mod.markAllots (m : Mod) (c : Commit) : Mod :=
  (m.each c.allots (fun m t => m.set 0x511011 1 t)).when (c.names 0x515005) (fun m => m.set 0x515003 3)

/-! ## A commit takes effect (R456) -/

/-- What the end of a commit means for a step of the time base that it carried: the module that asked for it slews instead (R384). -/
def Mod.stepEnded (m : Mod) (c : Commit) : Mod :=
  if c.step.isNone then m else (m.when c.own Mod.stepDropped).noteTime

/-- A commit refused, with the report of the block whose check failed. -/
def Mod.refuseBy (m : Mod) (c : Commit) (v : Verdict) (code : Nat) : Mod :=
  ((v.report m).refuseCommit c code m.rank).stepEnded c

/-- A commit applies as a whole; the slots it resets are added to the list. -/
def Mod.applyEntries (r : Mod × List Nat) (env : Env) (c : Commit) : Mod × List Nat :=
  let n := r.1.carryOut env c
  (n.chainDigest c, (r.2 ++ n.slotsReset r.1 c.entries).eraseDups)

/-- The banks that the swaps of later commits of the same tick make active, where those commits pass their own checks: a commit of that tick is
judged against them (R91). -/
def Mod.swappedBy (m : Mod) (env : Env) (later : List Commit) : Mod :=
  m.each (later.filter (fun x => (m.commitVerdict env x).code == 0)) (fun m x =>
    m.each (swapsProfiles x.entries) (fun m p => m.set 0x442004 (1 - m.num 0x442004 p) p))

/-- A commit is checked once more, with the swaps of the tick's later commits, and applies, or is refused with 0x0880_000C (R91, R456). -/
def Mod.applyDue (env : Env) (later : List Commit) (r : Mod × List Nat) (c : Commit) : Mod × List Nat :=
  let v := (r.1.swappedBy env later).commitVerdict env c
  if v.code ≠ 0 then (r.1.refuseBy c v abCheck, r.2)
  else Mod.applyEntries (r.1.mapCommit c.id (fun c => { c with state := .applying }), r.2) env c

/-- The commits of one tick, one after another. -/
def Mod.applyAll (env : Env) : List Commit → Mod × List Nat → Mod × List Nat
  | [], r => r
  | c :: t, r => Mod.applyAll env t (Mod.applyDue env t r c)

/-- What the commits of one tick report together: histories cleared (0x0724) and slots reset (0x0743, R153). -/
def Mod.reportTick (m : Mod) (reset : List Nat) : Mod :=
  let m := m.flushCleared
  match reset.mergeSort with
  | [] => m
  | e :: _ => m.raise 0x0743 [e, reset.length, m.k]

/-- HELLO tells a SETTINGS_DIGEST that is no longer `d` (R288). -/
def Mod.tellDigest (m : Mod) (d : Nat) : Mod := if m.settingsDigest = d then m else m.helloAll

/-- COMMIT_APPLY (R456): at the start of k_t, before phase I, the commits of the tick apply in COMMIT_ID order; then the tick's records form. -/
def commitApply (env : Env) (m : Mod) : Mod :=
  let due := m.dueCommits.mergeSort commitLe
  if !m.inPhase .I ∨ m.triad.stage ≠ 0 ∨ due.isEmpty then m
  else
    let r := Mod.applyAll env due (m, [])
    ((r.1.reportTick r.2).tellDigest m.settingsDigest).openTick

/-- COMMIT_APPLY. -/
def execCommitApply (env : Env) (s : State) : Host.Outcome State Fault Refusal := .next { s with mod := s.mod.awake (commitApply env) }

/-! ## Proposals (R453-R456) -/

/-- A commit kept without being sent, for what becomes of it to be read (R460). -/
def Mod.keepCommit (m : Mod) (c : Commit) : Mod := { m with dic := { m.dic with held := m.dic.held ++ [c] } }

/-- A proposal while the tick is stopped: it applies at once on this module only, or is refused (R455). -/
def Mod.proposeStopped (m : Mod) (env : Env) (c : Commit) : Mod × Nat :=
  let v := m.commitVerdict env c
  let d := m.settingsDigest
  let m := m.keepCommit c
  if v.code ≠ 0 then ((m.refuseBy c v v.code).swapsRefused c.entries, v.code)
  else
    let r := Mod.applyEntries (m.mapCommit c.id (fun c => { c with state := .applied }), []) env c
    (((((r.1.reportTick r.2).tellDigest d).bump 0x1F0102).raise 0x0B00 [c.id, c.target, 0]).tenantOutcome c 0, 0)

/-- A proposal while the tick runs: checked, then taken up and sent to the members, or refused (R455, R456, R460). -/
def Mod.proposeRunning (m : Mod) (env : Env) (c : Commit) : Mod × Nat :=
  let v := (m.expected env c).commitVerdict env c
  if v.code ≠ 0 then (((m.keepCommit c).refuseBy c v v.code).swapsRefused c.entries, v.code)
  else (((m.takeUp c).markSwaps c).markAllots c, 0)

/-- Entries of a path proposed as one commit for tick `t` (R453-R456): the new state and the code, 0 when the commit was taken up or applied. What
bars a proposal, and an empty list (log entry 155), leave the stage as it stands. -/
def Mod.proposeEntries (m : Mod) (p : Path) (env : Env) (t : Nat) (es : List StageEntry) : Mod × Nat :=
  let swaps := swapsLast es || !(swapsProfiles es).isEmpty
  if es.isEmpty then (m, abValue)
  else if !m.stopped ∧ !m.isMember ∧ m.mstate ≠ msStandalone then (m, abMember)
  else if !m.stopped ∧ !swaps ∧ !m.targetOk t then (m, abTarget)
  else if !m.stopped ∧ 64 ≤ m.pendingCommits.length then (m, abPending)
  else match m.swapsBarred env.same (!m.stopped && !m.targetOk t) es with
    | some m => (m, abCheck)
    | none =>
      let (id, m) := m.nextCommitId
      let c : Commit := { id := id, kind := 1, originRank := m.rank, path := pathCode p, pathNo := pathNo p, target := t, entries := es }
      let m := m.setStage p []
      let m := { m with dic := { m.dic with lastCommit := Table.set m.dic.lastCommit 0 (pathNo p) id } }
      if m.stopped then m.proposeStopped env c else m.proposeRunning env c

/-- The target that a COMMIT_TICK or DP_TICK names: 0 is the earliest allowed (R453). -/
def Mod.targetOf (m : Mod) (v : Nat) : Nat := if v = 0 then m.k + 48 else v

/-- STAGE_COMMIT (R453): a write of the target tick to COMMIT_TICK proposes the path's stage as one commit. -/
def stageCommit (p : Path) (v : Nat) (env : Env) (m : Mod) : Mod :=
  if 2 ^ 48 ≤ v then m.report p abValue
  else
    let r := m.proposeEntries p env (m.targetOf v) (m.stage p)
    r.1.report p r.2

/-- STAGE_COMMIT. -/
def execStageCommit (path : Path) (v : Nat) (env : Env) (s : State) : Host.Outcome State Fault Refusal :=
  .next { s with mod := s.mod.gate path (fun (m : Mod) => stageCommit path v env m) }

/-- STAGE_DISCARD (R475): writing 1 to DISCARD empties the path's stage. -/
def stageDiscard (p : Path) (v : Nat) (m : Mod) : Mod := if v ≠ 1 then m.report p abValue else (m.setStage p []).report p 0

/-- STAGE_DISCARD. -/
def execStageDiscard (path : Path) (v : Nat) (s : State) : Host.Outcome State Fault Refusal :=
  .next { s with mod := s.mod.gate path (fun (m : Mod) => stageDiscard path v m) }

/-- A write to an RWT object that names a target: it joins the stage as its last entry and the stage is proposed; a proposal that is barred
leaves the stage without it (R453). -/
def Mod.proposeWith (m : Mod) (p : Path) (env : Env) (es : List StageEntry) (t : Nat) : Mod :=
  if 2 ^ 48 ≤ t then m.report p abValue
  else
    let st := ((m.stage p).filter (fun e => !es.any (fun x => x.obj == e.obj && x.sel == e.sel))) ++ es
    if 8192 < st.length ∨ 262144 < stageBytes st then m.report p abStageFull
    else
      let r := m.proposeEntries p env t st
      r.1.report p r.2

/-! ## Cancelling (R459) -/

/-- Whether a commit can still be cancelled here: PROPOSED or CONFIRMED, with `lead` ticks and more to its target. -/
def Mod.canCancel (m : Mod) (c : Commit) (lead : Nat) : Bool :=
  (c.state == .proposed || c.state == .confirmed) && decide (m.k + lead < c.target)

/-- A commit cancelled by this module before k_t - 16: CANCEL goes to the members; otherwise refused with 0x0880_0007 (R459). -/
def Mod.cancelById (m : Mod) (id : Nat) : Mod × Nat :=
  match m.commit? id with
  | none => (m, abCancelLate)
  | some c =>
    if !m.canCancel c 16 then (m, abCancelLate)
    else (((m.sendCommit 5 c abCancelled).cancelCommit c abCancelled m.rank).stepEnded c, 0)

/-- COMMIT_CANCEL (R459): a write of a COMMIT_ID to CANCEL. -/
def commitCancel (p : Path) (v : Nat) (m : Mod) : Mod :=
  let r := m.cancelById v
  r.1.report p r.2

/-- COMMIT_CANCEL. -/
def execCommitCancel (path : Path) (v : Nat) (s : State) : Host.Outcome State Fault Refusal :=
  .next { s with mod := s.mod.gate path (fun (m : Mod) => commitCancel path v m) }

/-- COMMIT_CANCEL_RX (R459, R460): a CANCEL counts if received before the start of k_t - 8; otherwise it is ignored (R474). -/
def commitCancelRx (rank id code : Nat) (m : Mod) : Mod :=
  match m.commit? id with
  | none => m
  | some c => if m.canCancel c 8 then (m.cancelCommit c code rank).stepEnded c else m

/-- COMMIT_CANCEL_RX. -/
def execCommitCancelRx (rank id code : Nat) (s : State) : Host.Outcome State Fault Refusal :=
  .next { s with mod := s.mod.awake (commitCancelRx rank id code) }

/-! ## Messages (R458-R461) -/

/-- Whether every other member has answered: ACCEPTs of the members concerned, or for KIND 2 their identical copies beside the own one. -/
def Commit.complete (c : Commit) : Bool := if c.kind = 2 then c.own && c.members.all c.copies.contains else c.members.all c.accepted.contains

/-- A commit PROPOSED on its origin becomes CONFIRMED when every other member has accepted before the start of k_t - 32, and CONFIRM is sent; a
KIND 2 commit is confirmed without a message (R459, R461). -/
def Mod.confirmIf (m : Mod) (id : Nat) : Mod :=
  match m.commit? id with
  | none => m
  | some c =>
    if c.own ∧ c.state = .proposed ∧ c.complete ∧ m.k + 32 < c.target then
      let m := m.mapCommit id (fun c => { c with state := .confirmed })
      if c.kind = 2 then m else m.sendCommit 4 c 0
    else m

/-- COMMIT_ACCEPT_RX (R460). -/
def commitAcceptRx (rank id : Nat) (m : Mod) : Mod :=
  (m.mapCommit id (fun c => if c.own ∧ c.state = .proposed then { c with accepted := (rank :: c.accepted).eraseDups } else c)).confirmIf id

/-- COMMIT_ACCEPT_RX. -/
def execCommitAcceptRx (rank id : Nat) (s : State) : Host.Outcome State Fault Refusal := .next { s with mod := s.mod.awake (commitAcceptRx rank id) }

/-- COMMIT_REFUSE_RX (R460): a PROPOSED commit becomes REFUSED, and its origin sends CANCEL with the code. -/
def commitRefuseRx (rank id code : Nat) (m : Mod) : Mod :=
  match m.commit? id with
  | none => m
  | some c =>
    if c.state ≠ .proposed then m
    else
      let m := m.when (c.own && c.kind != 2) (fun m => m.sendCommit 5 c code)
      (m.refuseCommit c code rank).stepEnded c

/-- COMMIT_REFUSE_RX. -/
def execCommitRefuseRx (rank id code : Nat) (s : State) : Host.Outcome State Fault Refusal :=
  .next { s with mod := s.mod.awake (commitRefuseRx rank id code) }

/-- COMMIT_CONFIRM_RX (R460): a PROPOSED commit of another module becomes CONFIRMED. -/
def commitConfirmRx (rank id : Nat) (m : Mod) : Mod :=
  m.mapCommit id (fun c => if !c.own ∧ c.state = .proposed ∧ c.originRank = rank then { c with state := .confirmed } else c)

/-- COMMIT_CONFIRM_RX. -/
def execCommitConfirmRx (rank id : Nat) (s : State) : Host.Outcome State Fault Refusal :=
  .next { s with mod := s.mod.awake (commitConfirmRx rank id) }

/-- Whether a tick counted from the proposal is in range (R454). -/
def inRange (k t : Nat) : Bool := decide (k + 48 ≤ t ∧ t ≤ k + 2 ^ 24)

/-- A PROPOSE of KIND 1 or 3: checked, held and answered (R460). -/
def Mod.takeProposal (m : Mod) (env : Env) (sendTick : Nat) (c : Commit) : Mod :=
  let answer := fun (m : Mod) (v : Verdict) (code : Nat) =>
    (((m.keepCommit c).refuseBy c v code).sendCommit 3 c code)
  let refused := fun (v : Verdict) (code : Nat) => answer (m.swapsRefused c.entries) v code
  if 64 ≤ m.pendingCommits.length then refused pass abPending
  else match m.swapsBarred env.same (!inRange sendTick c.target) c.entries with
    | some m => answer m pass abCheck
    | none =>
      if !inRange sendTick c.target then refused pass abTarget
      else
        let v := (m.expected env c).commitVerdict env c
        if v.code ≠ 0 then refused v v.code
        else
          let m := m.keepCommit c
          (((m.set 0x1F0101 m.pendingCommits.length).markSwaps c).markAllots c).sendCommit 2 c 0

/-- Whether two KIND 2 records are identical. -/
def Commit.sameRecord (a b : Commit) : Bool := a.id == b.id && a.path == b.path && a.target == b.target && a.entries == b.entries

/-- A PROPOSE of KIND 2 from a peer (R461): its copy is held; a record that differs from those held is refused with 0x0880_0004. -/
def Mod.takeCopy (m : Mod) (rank : Nat) (c : Commit) : Mod :=
  match m.commit? c.id with
  | some x =>
    if !x.pending then m
    else if !x.sameRecord c then (m.refuseCommit x abPeer m.rank).sendCommit 3 x abPeer
    else (m.mapCommit c.id (fun x => { x with copies := (rank :: x.copies).eraseDups })).confirmIf c.id
  | none =>
    let m := m.keepCommit { c with copies := [rank] }
    m.set 0x1F0101 m.pendingCommits.length

/-- The fragments of a PROPOSE held, and whether they cover its record (R458). -/
def covered (len : Nat) (l : List (Nat × Nat)) : Bool :=
  (List.range ((len + 9175) / 9176)).all (fun i => l.any (fun e => decide (e.1 ≤ 9176 * i ∧ min len (9176 * i + 9176) ≤ e.1 + e.2)))

/-- COMMIT_PROPOSE_RX (R458, R460): a PROPOSE is held until all its fragments have arrived, then checked and answered. `c` is the commit that its
record spells. -/
def commitProposeRx (rank sendTick : Nat) (c : Commit) (off len : Nat) (env : Env) (m : Mod) : Mod :=
  if !m.isMember then m
  else
    let l := (off, len) :: Table.get m.dic.frags [] c.id
    if !covered c.recordLen l then { m with dic := { m.dic with frags := Table.set m.dic.frags [] c.id l } }
    else
      let m : Mod := { m with dic := { m.dic with frags := Table.set m.dic.frags [] c.id [] } }
      let c : Commit := { id := c.id, kind := c.kind, originRank := c.originRank, path := c.path, target := c.target, entries := c.entries,
                          step := c.step, timeBits := c.timeBits, freeze := c.freeze, own := false, pathNo := 0xFFFFFFFF, members := m.otherMembers }
      if c.kind = 2 then m.takeCopy rank c
      else if (m.commit? c.id).isSome then m
      else m.takeProposal env sendTick c

/-- COMMIT_PROPOSE_RX. -/
def execCommitProposeRx (rank sendTick : Nat) (c : Commit) (fragOffset fragLen : Nat) (env : Env) (s : State) : Host.Outcome State Fault Refusal :=
  .next { s with mod := s.mod.awake (commitProposeRx rank sendTick c fragOffset fragLen env) }

/-! ## The schedule (R459-R461) -/

/-- COMMIT_ACCEPT_DEADLINE (R459-R461): at k_t - 32 an origin without every ACCEPT refuses the commit with 0x0880_0005 and sends CANCEL; a KIND 2
commit whose copies are not all there is refused. -/
def commitAcceptDeadline (m : Mod) : Mod :=
  let late := m.dic.held.filter (fun (c : Commit) => c.state == .proposed && (c.own || c.kind == 2) && decide (c.target ≤ m.k + 32))
  m.each late (fun m c =>
    let m := m.when (c.kind != 2) (fun m => m.sendCommit 5 c abInTime)
    (m.refuseCommit c abInTime m.rank).stepEnded c)

/-- COMMIT_ACCEPT_DEADLINE. -/
def execCommitAcceptDeadline (s : State) : Host.Outcome State Fault Refusal := .next { s with mod := s.mod.awake commitAcceptDeadline }

/-- Whether the origin of a commit is still a MEMBER here: the module itself, or a peer whose HELLO says so. -/
def Mod.originMember (m : Mod) (c : Commit) : Bool :=
  if c.originRank = m.rank then m.isMember else m.num 0x600102 c.originRank == msMember

/-- COMMIT_ARM (R460): at the start of k_t - 8 the outcome is fixed: CONFIRMED commits arm; PROPOSED ones are MISSED, or CANCELLED where their
origin is a MEMBER no longer. A commit whose tick went by while the tick was stopped is MISSED (log entry 156). -/
def commitArm (m : Mod) : Mod :=
  if m.stopped then m
  else
    let at8 := m.dic.held.filter (fun (c : Commit) =>
      (c.state == .proposed || c.state == .confirmed || c.state == .armed) && decide (c.target ≤ m.k + 8))
    m.each at8 (fun m c =>
      if c.target < m.k then m.missCommit c 3
      else match c.state with
        | .confirmed => m.mapCommit c.id (fun c => { c with state := .armed })
        | .proposed => (if m.originMember c then m.missCommit c 1 else m.cancelCommit c abInTime 0).stepEnded c
        | _ => m)

/-- COMMIT_ARM. -/
def execCommitArm (s : State) : Host.Outcome State Fault Refusal := .next { s with mod := s.mod.awake commitArm }

end Sys2Proof.Machine
end

