-- ==== Sys2Proof/Machine/Requests.lean ====
section
/-!
DEFINITION. Requests that become commits: swaps, starts and stops of engines, tenants' states and allotments, restores, and what a tenant
submits through its dictionary port (R34, R35, R90, R171, R173, R205, R218, R222, R230, R461).
-/
namespace Sys2Proof.Machine

/-! ## The check of the Last (R33, R40) -/

/-- LAST_CHECK_DONE (R33): the check of the inactive bank completes. With the image located, the entries that are not bound-eligible are found as
well (R40); 0x2021.01 and 0x2021.02 show them once the bank is active. -/
def lastCheckDone (m : Mod) : Mod :=
  if !m.tick.checkPending then m
  else
    let img := m.inactiveLast
    let r := lastCheck img (m.num 0x200001)
    let located := !bit r 0 && !bit r 2
    let u := if located then m.unbound img else []
    let m := { m with tick := { m.tick with checkPending := false, chkUnbound := (unboundSummary u).1, chkFirst := (unboundSummary u).2 } }
    m.set 0x202004 (r + 2048 * b2n (!u.isEmpty) + (if lastPass r then 2 ^ 31 else 0))

/-- LAST_CHECK_DONE. -/
def execLastCheckDone (s : State) : Host.Outcome State Fault Refusal := .next { s with mod := s.mod.awake lastCheckDone }

/-! ## Target objects (R453) -/

/-- A write of target tick `t` to instance i of a target object. -/
def Mod.writeTarget (m : Mod) (p : Path) (env : Env) (o i t : Nat) : Mod :=
  if !(instancesAll o).contains i then m.report p abSelector
  else m.proposeWith p env [{ obj := o, sel := i, val := .num t }] t

/-- LAST_SWAP_REQUEST (R34): a write of k_s to SWAP_TICK. -/
def lastSwapRequest (p : Path) (kS : Nat) (env : Env) (m : Mod) : Mod := m.writeTarget p env 0x202005 0 kS

/-- LAST_SWAP_REQUEST. -/
def execLastSwapRequest (path : Path) (kS : Nat) (env : Env) (s : State) : Host.Outcome State Fault Refusal :=
  .next { s with mod := s.mod.gate path (fun (m : Mod) => lastSwapRequest path kS env m) }

/-- A pending swap's commit cancelled before k_s - 16, otherwise refused with 0x0880_0007 (R35, R90). -/
def Mod.cancelSwap (m : Mod) (p : Path) (v : Nat) (pending : Bool) (id : Nat) : Mod :=
  if v ≠ 1 then m.report p abValue
  else if !pending then m.report p abCancelLate
  else
    let r := m.cancelById id
    r.1.report p r.2

/-- LAST_SWAP_CANCEL (R35). -/
def lastSwapCancel (p : Path) (v : Nat) (m : Mod) : Mod := m.cancelSwap p v m.swapPending m.tick.swapCommit

/-- LAST_SWAP_CANCEL. -/
def execLastSwapCancel (path : Path) (v : Nat) (s : State) : Host.Outcome State Fault Refusal :=
  .next { s with mod := s.mod.gate path (fun (m : Mod) => lastSwapCancel path v m) }

/-- PROFILE_SWAP_REQUEST (R90): a write of k_s to a profile's SWAP_TICK. -/
def profileSwapRequest (path : Path) (p kS : Nat) (env : Env) (m : Mod) : Mod :=
  if profileGuard p ≠ 0 then m.report path (profileGuard p) else m.writeTarget path env 0x44200C p kS

/-- PROFILE_SWAP_REQUEST. -/
def execProfileSwapRequest (path : Path) (p kS : Nat) (env : Env) (s : State) : Host.Outcome State Fault Refusal :=
  .next { s with mod := s.mod.gate path (fun (m : Mod) => profileSwapRequest path p kS env m) }

/-- PROFILE_SWAP_CANCEL (R90). -/
def profileSwapCancel (path : Path) (p v : Nat) (m : Mod) : Mod :=
  if profileGuard p ≠ 0 then m.report path (profileGuard p)
  else m.cancelSwap path v (m.profileSwapPending p) (m.profile p).swapCommit

/-- PROFILE_SWAP_CANCEL. -/
def execProfileSwapCancel (path : Path) (p v : Nat) (s : State) : Host.Outcome State Fault Refusal :=
  .next { s with mod := s.mod.gate path (fun (m : Mod) => profileSwapCancel path p v m) }

/-- ENGINE_START_REQUEST (R171, R173): a write of START_TICK; for a FAULTED engine only the supervisor's is taken, any other raises event 0x0607. -/
def engineStartRequest (p : Path) (g kS : Nat) (env : Env) (m : Mod) : Mod :=
  if m.engState g = enFaulted ∧ p ≠ .supervisor then (m.raise 0x0607 [g, pathCode p]).report p abAccess
  else m.writeTarget p env 0x581005 g kS

/-- ENGINE_START_REQUEST. -/
def execEngineStartRequest (path : Path) (g kS : Nat) (env : Env) (s : State) : Host.Outcome State Fault Refusal :=
  .next { s with mod := s.mod.gate path (fun (m : Mod) => engineStartRequest path g kS env m) }

/-- ENGINE_STOP_REQUEST (R171): a write of STOP_TICK. -/
def engineStopRequest (p : Path) (g kT : Nat) (env : Env) (m : Mod) : Mod := m.writeTarget p env 0x581007 g kT

/-- ENGINE_STOP_REQUEST. -/
def execEngineStopRequest (path : Path) (g kT : Nat) (env : Env) (s : State) : Host.Outcome State Fault Refusal :=
  .next { s with mod := s.mod.gate path (fun (m : Mod) => engineStopRequest path g kT env m) }

/-- CREATE_TICK_WRITE (R205). -/
def createTickWrite (p : Path) (t k : Nat) (env : Env) (m : Mod) : Mod := m.writeTarget p env 0x510003 t k

/-- CREATE_TICK_WRITE. -/
def execCreateTickWrite (path : Path) (t k : Nat) (env : Env) (s : State) : Host.Outcome State Fault Refusal :=
  .next { s with mod := s.mod.gate path (fun (m : Mod) => createTickWrite path t k env m) }

/-- DESTROY_TICK_WRITE (R205). -/
def destroyTickWrite (p : Path) (t k : Nat) (env : Env) (m : Mod) : Mod := m.writeTarget p env 0x510004 t k

/-- DESTROY_TICK_WRITE. -/
def execDestroyTickWrite (path : Path) (t k : Nat) (env : Env) (s : State) : Host.Outcome State Fault Refusal :=
  .next { s with mod := s.mod.gate path (fun (m : Mod) => destroyTickWrite path t k env m) }

/-- FREEZE_TICK_WRITE (R205). -/
def freezeTickWrite (p : Path) (t k : Nat) (env : Env) (m : Mod) : Mod := m.writeTarget p env 0x510005 t k

/-- FREEZE_TICK_WRITE. -/
def execFreezeTickWrite (path : Path) (t k : Nat) (env : Env) (s : State) : Host.Outcome State Fault Refusal :=
  .next { s with mod := s.mod.gate path (fun (m : Mod) => freezeTickWrite path t k env m) }

/-- UNFREEZE_TICK_WRITE (R205). -/
def unfreezeTickWrite (p : Path) (t k : Nat) (env : Env) (m : Mod) : Mod := m.writeTarget p env 0x510007 t k

/-- UNFREEZE_TICK_WRITE. -/
def execUnfreezeTickWrite (path : Path) (t k : Nat) (env : Env) (s : State) : Host.Outcome State Fault Refusal :=
  .next { s with mod := s.mod.gate path (fun (m : Mod) => unfreezeTickWrite path t k env m) }

/-- RESOURCE_COMMIT_TICK_WRITE (R222): the staged allotment is closed into a commit. -/
def resourceCommitTickWrite (p : Path) (t k : Nat) (env : Env) (m : Mod) : Mod := m.writeTarget p env 0x511010 t k

/-- RESOURCE_COMMIT_TICK_WRITE. -/
def execResourceCommitTickWrite (path : Path) (t k : Nat) (env : Env) (s : State) : Host.Outcome State Fault Refusal :=
  .next { s with mod := s.mod.gate path (fun (m : Mod) => resourceCommitTickWrite path t k env m) }

/-- RESTORE_TICK_WRITE (R230). -/
def restoreTickWrite (p : Path) (k : Nat) (env : Env) (m : Mod) : Mod := m.writeTarget p env 0x515005 0 k

/-- RESTORE_TICK_WRITE. -/
def execRestoreTickWrite (path : Path) (k : Nat) (env : Env) (s : State) : Host.Outcome State Fault Refusal :=
  .next { s with mod := s.mod.gate path (fun (m : Mod) => restoreTickWrite path k env m) }

/-! ## A tenant's dictionary port (R218, R461) -/

/-- Whether tenant t's port accepts a write of object o, instance i. -/
def Mod.portAccepts (m : Mod) (t o i : Nat) : Bool :=
  let idx := o / 256
  let rwt := accessOf o == some .rwt
  if idx = 0x4410 ∨ idx = 0x4510 then rwt && (m.tnChans t).contains i
  else if idx = 0x4810 then rwt && (m.tnSlots t).contains i
  else if idx = 0x5810 then (decide (0x02 ≤ o % 256 ∧ o % 256 ≤ 0x07) || o % 256 == 0x0D) && (m.tnEngines t).contains i
  else if o / 0x1000 = 0x590 ∨ ((o / 0x1000 = 0x594 ∨ o / 0x1000 = 0x596) ∧ o % 256 = 1) then (m.tnEngines t).contains (o / 256 % 16)
  else false

/-- What tenant t's registers ask for: the value, or the code with which the port refuses it. -/
def Mod.portValue (m : Mod) (t : Nat) : Nat × Val :=
  let d := (m.tenant t).dp
  let o := d.addr / 2 ^ 16 * 256 + d.addr / 256 % 256
  match objRow? o with
  | none => (abAccess, .num 0)
  | some r =>
    if !m.portAccepts t o d.instSel then (abAccess, .num 0)
    else if r.acc = .ro then (abReadOnly, .num 0)
    else if o = 0x581005 ∧ m.engState d.instSel = enFaulted then (abAccess, .num 0)
    else if !(m.instances o).contains d.instSel then (abSelector, .num 0)
    else m.readValue r o d.instSel (d.data.take d.len)

/-- A submission that is refused at once: DONE and REFUSED with its code, identity 6 (R208, R218). -/
def Mod.submitRefused (m : Mod) (t code : Nat) : Mod :=
  let x := m.tenant t
  (m.setTenant t { x with dp := { x.dp with status := 2 ^ 30 + 2 ^ 29, abort := code } }).identity t 6

/-- What bars a tenant's submission for its target. -/
def Mod.submitBar (m : Mod) (target : Nat) : Nat := if m.stopped then 0 else m.proposalBar target

/-- The module's own copy of a KIND 2 commit, beside the copies of peers that it holds (R461). -/
def Mod.submitOwn (m : Mod) (c : Commit) : Mod :=
  if m.stopped then (m.proposeStopped {} c).1
  else match m.commit? c.id with
    | some x =>
      if !x.pending then m.tenantOutcome c (if x.code = 0 then abPeer else x.code)
      else if !x.sameRecord c then (m.refuseCommit x abPeer m.rank).sendCommit 3 x abPeer
      else
        let v := (m.expected {} c).commitVerdict {} c
        if v.code ≠ 0 then ((v.report m).refuseCommit x v.code m.rank).sendCommit 3 x v.code
        else ((m.mapCommit c.id (fun x => { x with own := true, pathNo := c.pathNo })).sendCommit 1 c 0).confirmIf c.id
    | none =>
      let v := (m.expected {} c).commitVerdict {} c
      if v.code ≠ 0 then ((m.keepCommit c).refuseBy c v v.code).sendCommit 3 c v.code else m.takeUp c

/-- TENANT_DP_SUBMIT (R218): a write of 1 to DP_CTRL submits the write that the registers hold as a KIND 2 commit for DP_TICK. While the last
submission is BUSY nothing happens (log entry 161). -/
def tenantDpSubmit (t : Nat) (m : Mod) : Mod :=
  let x := m.tenant t
  if t = 0 ∨ 64 < t ∨ m.tnState t = tnEmpty ∨ bit x.dp.status 31 then m
  else
    let d := x.dp
    let o := d.addr / 2 ^ 16 * 256 + d.addr / 256 % 256
    let v := m.portValue t
    let bar := m.submitBar d.tick
    if v.1 ≠ 0 then
      let m := m.when (o == 0x581005 && m.portAccepts t o d.instSel && m.engState d.instSel == enFaulted) (fun m => m.raise 0x0607 [d.instSel, 3])
      m.submitRefused t v.1
    else if bar ≠ 0 then m.submitRefused t bar
    else
      let id := 0xFF000000 + t * 2 ^ 16 + (x.submits + 1) % 2 ^ 16
      let m := m.setTenant t { x with submits := x.submits + 1, dpCommit := id, dp := { d with status := 2 ^ 31, abort := 0 } }
      m.submitOwn { id := id, kind := 2, originRank := 0, path := 3, pathNo := pathNo (.tenant t), target := d.tick,
                    entries := [{ obj := o, sel := d.instSel, val := v.2 }] }

/-- TENANT_DP_SUBMIT. -/
def execTenantDpSubmit (t : Nat) (s : State) : Host.Outcome State Fault Refusal := .next { s with mod := s.mod.awake (tenantDpSubmit t) }

end Sys2Proof.Machine
end

