-- ==== Sys2Proof/Machine/Sessions.lean ====
section
/-!
DEFINITION. DTP sessions as they end, and the commands on key slots that end them (R469, R474, R487, R488).
-/
namespace Sys2Proof.Machine

/-- A DTP session. -/
def Mod.session? (m : Mod) (n : Nat) : Option Session := Table.find? m.dic.sessions n

/-- The sessions open, with DTP_OPEN. -/
def Mod.setSessions (m : Mod) (t : Table Session) : Mod := { m with dic := { m.dic with sessions := t } }.set 0x1F3005 t.length

/-- A value that arrives in parts on a path is given up: its code is recorded and event 0x0B05 raised (R472, R474). -/
def Mod.dropParts (m : Mod) (p : Path) : Mod :=
  match Table.find? m.dic.parts (pathNo p) with
  | none => m
  | some x =>
    let m := { m with dic := { m.dic with parts := Table.del m.dic.parts (pathNo p) } }
    (m.report p abCutShort).raise 0x0B05 [pathCode p, x.obj / 256, abCutShort]

/-- Session n closes: its key, its stage and any transfer on it are gone; event 0x0B07. Why is named as `Config.eventField` numbers it (log entry 164). -/
def Mod.closeSession (m : Mod) (n why : Nat) : Mod :=
  if (m.session? n).isNone then m
  else
    let m := (m.dropParts (.dtp n)).setStage (.dtp n) []
    (m.setSessions (Table.del m.dic.sessions n)).raise 0x0B07 [n, Config.eventField 0x0B07 why]

/-- Every session closes. -/
def Mod.closeSessions (m : Mod) (why : Nat) : Mod := m.each (m.dic.sessions.map Prod.fst) (fun m n => m.closeSession n why)

/-- DTP_CLOSE's other ends: DTP_IDLE_TIMEOUT (R469), a session without a valid request for DTP_IDLE. -/
def dtpIdleTimeout (session : Nat) (m : Mod) : Mod := m.closeSession session 2

/-- DTP_IDLE_TIMEOUT. -/
def execDtpIdleTimeout (session : Nat) (s : State) : Host.Outcome State Fault Refusal := .next { s with mod := s.mod.awake (dtpIdleTimeout session) }

/-- DTP_SNAPSHOT_EXPIRY (R471): 2 s after it was taken, the snapshot of a session is gone. -/
def dtpSnapshotExpiry (session : Nat) (m : Mod) : Mod :=
  match m.session? session with
  | some x => m.setSessions (Table.put m.dic.sessions session { x with snap := none })
  | none => m

/-- DTP_SNAPSHOT_EXPIRY. -/
def execDtpSnapshotExpiry (session : Nat) (s : State) : Host.Outcome State Fault Refusal :=
  .next { s with mod := s.mod.awake (dtpSnapshotExpiry session) }

/-- DTP_KEY_SLOT_WRITE (R469, R488): the slot must hold an HMAC key or be 0xFFFF; every session closes. -/
def dtpKeySlotWrite (p : Path) (v : Nat) (m : Mod) : Mod :=
  if !m.numOk 0x1F3002 0 v then m.report p abValue
  else if !m.usageOk 0x1F3002 v then m.report p abCheck
  else ((m.set 0x1F3002 v).closeSessions 4).report p 0

/-- DTP_KEY_SLOT_WRITE. -/
def execDtpKeySlotWrite (path : Path) (v : Nat) (s : State) : Host.Outcome State Fault Refusal :=
  .next { s with mod := s.mod.gate path (fun (m : Mod) => dtpKeySlotWrite path v m) }

/-- KEY_DESTROY (R487, R488): both shares zeroised and USAGE 0; event 0x0A03; DTP sessions on the slot close. -/
def keyDestroy (path : Path) (mMode : Bool) (m : Mod) : Mod :=
  m.keyCommand path mMode (fun i m =>
    let kcv := m.num 0x642003 i
    let m := (m.zeroSlot i).raise 0x0A03 [i, kcv]
    (1, if m.num 0x1F3002 = i then m.closeSessions 5 else m))

/-- KEY_DESTROY. -/
def execKeyDestroy (path : Path) (mMode : Bool) (s : State) : Host.Outcome State Fault Refusal :=
  .next { s with mod := s.mod.access path (fun (m : Mod) => keyDestroy path mMode m) }

end Sys2Proof.Machine
end

