-- ==== Sys2Proof/Machine/Reads.lean ====
section
/-!
DEFINITION. What a read of an object returns: values kept in the store, and values that follow from the state (R445, R447, R449, R451).
-/
namespace Sys2Proof.Machine

/-! ## Values that follow from the state -/

/-- DC_ESTIMATE of channel c in physical units (R73, R97): the estimate of the blocker, in 2^-24 of a working unit. -/
def Mod.dcEstimate (m : Mod) (c : Nat) : Nat :=
  let x := (m.chan c).m
  let shift := m.num 0x441002 c
  match m.num 0x402002 c with
  | 0 => b32.ofRat (x * 2 ^ shift) (2 ^ 24 * 1000)
  | 1 => b32.ofRat (x * 2 ^ shift) (2 ^ 24 * 100)
  | _ => b32.ofScaled (x * b32.int (m.num 0x402005 c)) (b32.expo (m.num 0x402005 c) + shift - 24)

/-- The stored words of a preset's set, as octets (R80). -/
def Mod.presetWords (m : Mod) (p : Nat) (triple : Bool) : List Byte := (m.coeffs p triple).2.flatMap (fun w => toLE 4 (ofInt 32 w))

/-- The CRC of a preset's set, formed as for a bank (R80, R88). -/
def Mod.presetCrc (m : Mod) (p : Nat) (triple : Bool) : Nat := bankCrc { taps := (m.coeffs p triple).1, words := m.presetWords p triple }

/-- GAIN_TABLE of profile p at a rate: empty for a user profile that does not serve the rate or has no active set (R103). -/
def Mod.gainOctets (m : Mod) (p : Nat) (triple : Bool) : List Byte :=
  if 4 ≤ p ∧ (m.on 0x442001 p != triple ∨ (m.activeBank p).taps = 0) then []
  else (List.range 121).flatMap (fun t => toLE 4 (m.gainEntry p triple t))

/-- The commit that a path proposed last. -/
def Mod.lastOf (m : Mod) (p : Path) : Option Commit := m.commit? (Table.get m.dic.lastCommit 0 (pathNo p))

/-- Entry i of the commit log, newest at 0 (R475). -/
def Mod.logEntry (m : Mod) (i : Nat) : Option Commit := if i < 16 then m.dic.held.reverse[i]? else none

/-- A field of a commit, 0 where there is none. -/
def ofCommit (f : Commit → Nat) : Option Commit → Val
  | some c => .num (f c)
  | none => .num 0

/-- A value of the profiles, by subindex: the presets read what is built in (R80, R97). -/
def Mod.profileVal (m : Mod) (o p : Nat) : Option Val :=
  let pre := decide (p < 4)
  match o % 256 with
  | 0x05 => if pre then some (.num (presetTaps p)) else none
  | 0x06 => if pre then some (.num (m.presetCrc p false)) else none
  | 0x10 => some (.num ((m.mapped.filter (fun c => m.num 0x441001 c == p)).length))
  | 0x11 => some (.oct (if pre then m.presetWords p false else (m.activeBank p).words))
  | 0x13 => some (.oct (if pre then m.presetWords p true else []))
  | 0x14 => some (.num (if pre then 3 * presetTaps p else 0))
  | 0x15 => some (.num (if pre then m.presetCrc p true else 0))
  | _ => none

/-- A value of 0x1F00, which refers to the stage and the last proposal of the path it is read on (R452, R460, R475). -/
def Mod.pathVal (m : Mod) (p : Path) (o : Nat) : Option Val :=
  match o % 256 with
  | 0x01 => some (.num (m.stage p).length)
  | 0x04 => some (.num (Table.get m.dic.lastCommit 0 (pathNo p)))
  | 0x05 => some (ofCommit (fun c => commitCode c.state) (m.lastOf p))
  | 0x06 => some (ofCommit (fun c => c.code) (m.lastOf p))
  | 0x08 => some (.num (stageBytes (m.stage p)))
  | _ => none

/-- A value of the commit log (R462, R475). -/
def Mod.logVal (m : Mod) (o i : Nat) : Option Val :=
  let c := m.logEntry i
  match o % 256 with
  | 0x01 => some (ofCommit (fun c => c.id) c)
  | 0x02 => some (ofCommit (fun c => c.target) c)
  | 0x03 => some (ofCommit (fun c => commitCode c.state) c)
  | 0x04 => some (ofCommit (fun c => c.appliedRanks) c)
  | 0x05 => some (ofCommit (fun c => c.code) c)
  | _ => none

/-- A value of the life cycle (R477, R482, R502, R503, R506). -/
def Mod.lifeVal (m : Mod) (o : Nat) : Option Val :=
  match o % 256 with
  | 0x01 => some (.num m.lcState)
  | 0x06 => some (.num m.rootsPresent)
  | 0x07 => some (.num m.keyHashes)
  | 0x09 => some (.num m.nv.fuses.minSvn)
  | 0x0B => some (.num m.debugState)
  | _ => none

/-- A value of an engine's registers (R177, R184). -/
def Mod.engineVal (m : Mod) (o i : Nat) : Option Val :=
  let g := o / 256 % 16
  match o / 0x1000, o % 256 with
  | 0x592, 1 => some (.num (Table.get (m.engine g).words 0 i).toNat)
  | 0x594, 2 => some (.num (m.elapsed g i))
  | 0x596, 2 => some (.num (ofInt 32 (Table.get (m.engine g).counters {} i).cv))
  | _, _ => none

/-- Values of the tick, the chain, the groups, time, the tenants' image and the recorder that follow from the state. -/
def Mod.derived (m : Mod) (env : Env) (o i : Nat) : Option Val :=
  match o with
  | 0x201001 => some (.num m.k)
  | 0x201002 => some (.num m.tick.q)
  | 0x201003 => some (.num (phaseCode m.tick.phase))
  | 0x201004 => some (.num (b2n m.tick.running))
  | 0x202002 => some (.oct m.inactiveLast)
  | 0x205001 => some (.num (if m.time.everLocked then Config.sysclkPpm m.k % 65536 else 0))
  | 0x30000A => some (.num m.cIn)
  | 0x30000B => some (.num m.cOut)
  | 0x301003 => some (.num (b2n (m.upOut i || m.upIn i)))
  | 0x301004 => some (.num (m.rateShown i))
  | 0x3C0002 => if m.following then some (.num selTransfer) else none
  | 0x3D4001 => if m.on 0x3D8001 ∧ (m.ptpInst i).isNone then some (.num 0) else none
  | 0x3C0004 => some (.num m.timeQuality)
  | 0x3C0010 => some (.num (b2n m.following))
  | 0x402001 => some (.num ((m.streamOfChan i).getD 0xFFFF))
  | 0x441007 => some (.num (m.dcEstimate i))
  | 0x44100A => some (.num (m.groupDelay i))
  | 0x44100B => some (.num (alphaOf (m.hz * (if m.triple i then 3 else 1)) (m.num 0x441004 i)))
  | 0x45200B => if m.num 0x45200A i = 0 then some (.num (fofInt m.fNom)) else none
  | 0x45200D => some (.num (kpOf m.hz (m.num 0x452005 i)))
  | 0x45200E => some (.num (kiOf m.hz (m.num 0x452005 i)))
  | 0x454001 => some (.oct (m.gainOctets i false))
  | 0x454002 => some (.oct (m.gainOctets i true))
  | 0x480001 => some (.num m.slotsOn.length)
  | 0x481025 => some (.oct ((m.slot i).incTable.flatMap (toLE 4)))
  | 0x481026 => some (.oct ((m.slot i).decTable.flatMap (toLE 4)))
  | 0x500201 => some (.num 1)
  | 0x515004 => some (.oct (if m.num 0x515003 = 1 then m.tenantImage (m.num 0x515001) else []))
  | 0x600006 => some (.num m.settingsDigest)
  | 0x642006 => some (.num (m.keyUsers i))
  | 0x680005 => some (.num (max (m.num o) env.opTime))
  | 0x681002 => some (.oct m.recordRead)
  | 0x684001 => some (.num (Config.eventLevel i % 5))
  | _ => none

/-- What object o, instance i, reads as on a path: the active value (R447). -/
def Mod.readVal (m : Mod) (p : Path) (env : Env) (o i : Nat) : Val :=
  let v := match o / 256 with
    | 0x1F00 => m.pathVal p o
    | 0x1F40 => m.logVal o i
    | 0x4420 => m.profileVal o i
    | 0x6400 => m.lifeVal o
    | _ => if 0x5900 ≤ o / 256 ∧ o / 256 < 0x5970 then m.engineVal o i else m.derived env o i
  match v with
  | some v => v
  | none => m.active o i

/-! ## Selectors (R449-R451) -/

/-- Whether a selector names a group or every instance. -/
def selMany (sel : Nat) : Bool := decide (0x3FFF < sel)

/-- The instances of object o that a selector names, or the code with which it is refused. -/
def Mod.selects (m : Mod) (r : ObjRow) (o sel : Nat) : Nat × List Nat :=
  if r.inst.isNone then (if sel = 0 then (0, [0]) else (abSelector, []))
  else if sel ≤ 0x3FFF then (if (m.instances o).contains sel then (0, [sel]) else (abSelector, []))
  else if 0xF000 ≤ sel ∧ sel ≤ 0xF0FF then
    let l := u16s (m.oct 0x1F2001 (sel - 0xF000))
    if l.isEmpty ∨ l.any (fun i => !(m.instances o).contains i) then (abGroup, []) else (0, l)
  else if sel = 0xFFFF then (0, m.instances o)
  else (abSelector, [])

/-! ## A read -/

/-- What a read of object o returns on a path: a code, and the octets of the values in selector order (R445, R447, R448, R451). -/
def Mod.readOctets (m : Mod) (p : Path) (env : Env) (o sel : Nat) : Nat × List Byte :=
  match objRow? o with
  | none =>
    if !indexUsed (o / 256) then (abNoObject, [])
    else if o % 256 = 0 then (0, toLE 1 (highestSub (o / 256)))
    else (abNoSub, [])
  | some r =>
    if r.acc = .wo then (abWriteOnly, [])
    else if selMany sel ∧ tySize r.ty = 0 then (abSelector, [])
    else
      let l := m.selects r o sel
      (l.1, l.2.flatMap (fun i => encodeVal o (m.readVal p env o i)))

/-- What a read of one value takes away: an egress timestamp (R371), an entry of a dump (R338), a record of a receive FIFO (R432), or a saved
image, whose save is then done (R227). -/
def Mod.readTakes (m : Mod) (o i : Nat) : Mod :=
  match o with
  | 0x320015 =>
    let q := (m.port i).tsQueue.drop 1
    (m.setPort i { m.port i with tsQueue := q }).setOct o (q.headD []) i
  | 0x381007 =>
    let d := m.sw.dump.tail
    { m with sw := { m.sw with dump := d } }.setOct o (d.headD [])
  | 0x5C3001 =>
    let c := m.canChan i
    let rest := c.fifo.drop 1
    (m.setCanChan i { c with fifo := rest, overrun := c.overrun && !rest.isEmpty }).fifoSync i
  | 0x515004 =>
    if m.num 0x515003 = 1 then (m.set 0x515003 0).raise 0x0520 [m.num 0x515001, (m.tenantImage (m.num 0x515001)).length] else m
  | _ => m

end Sys2Proof.Machine
end

