-- ==== Sys2Proof/Machine/Dictionary.lean ====
section
/-!
DEFINITION. Writes to the dictionary on any path: what may be written when, the objects whose write is a command of its own, staging and groups
(R445-R453, R486, R540); and the supervisor's dictionary port (R463, R472).
-/
namespace Sys2Proof.Machine

/-! ## Objects whose write is a command (R447) -/

/-- A write of OP to the MAC staging set (R338). -/
def macOpWrite (p : Path) (n : Nat) (m : Mod) : Mod :=
  match n with
  | 1 => macInsertOp p m
  | 2 => macDeleteOp p m
  | 3 => macLookupOp p m
  | 4 => macDumpStart p m
  | _ => m.report p abValue

/-- A write of OP to the route staging set (R341). -/
def routeOpWrite (p : Path) (n : Nat) (m : Mod) : Mod :=
  match n with
  | 1 => routeInsert p m
  | 2 => routeDelete p m
  | 3 => routeLookupOp p m
  | _ => m.report p abValue

/-- A write of CTRL of CAN buffer i: bit 0 REQUEST, bit 1 ABORT; REQUEST goes first where both are set (R428, R430; log entry 166). -/
def canCtrlWrite (p : Path) (i n : Nat) (env : Env) (m : Mod) : Mod :=
  let m := if bit n 0 then canTxRequest p i env.now env.idle m else m.report p 0
  if bit n 1 then canTxAbort p i m else m

/-- A write of KEY_CMD (R487). -/
def keyCmdWrite (p : Path) (n : Nat) (env : Env) (m : Mod) : Mod :=
  match n with
  | 1 => keyInstall p env.mMode m
  | 2 => keyDerive p env.mMode m
  | 3 => keyDestroy p env.mMode m
  | _ => if mPath p env.mMode then m.report p abValue else m.report p abAccess

/-- A write of KEY_VALUE: held until the next command, and DP_DATA is cleared (R486, R487). -/
def keyValueWrite (p : Path) (b : List Byte) (env : Env) (m : Mod) : Mod :=
  if !mPath p env.mMode then m.report p abAccess
  else
    let x := m.tenant 0
    ({ m with keys := { m.keys with value := some b } }.setTenant 0 { x with dp := { x.dp with data := [] } }).report p 0

/-- A write of LC_TOKEN (R479, R486). -/
def lcTokenWrite (p : Path) (b : List Byte) (env : Env) (m : Mod) : Mod :=
  if !mPath p env.mMode then m.report p abAccess else { m with keys := { m.keys with token := b } }.report p 0

/-- The command that a write to object o, instance i, is, where it is one. -/
def commandOf (p : Path) (env : Env) (o i : Nat) (v : Val) : Option (Mod → Mod) :=
  let n := valNum v
  let b := valOct v
  match o with
  | 0x200001 => some (tickRateWrite p n)
  | 0x202003 => some (lastCheckWrite p n)
  | 0x202005 => some (lastSwapRequest p n env)
  | 0x202009 => some (lastSwapCancel p n)
  | 0x20200A => some (lastStore p n)
  | 0x44200A => some (profileCheckWrite p i n)
  | 0x44200C => some (profileSwapRequest p i n env)
  | 0x44200E => some (profileSwapCancel p i n)
  | 0x44200F => some (profileSwapNow p i n)
  | 0x442012 => some (profileStore p i n)
  | 0x581002 => some (logicImageWrite p i b)
  | 0x581003 => some (logicCheckWrite p i n)
  | 0x581005 => some (engineStartRequest p i n env)
  | 0x581007 => some (engineStopRequest p i n env)
  | 0x58100E => some (logicStore p i n)
  | 0x51000B => some (violClear p i n)
  | 0x510003 => some (createTickWrite p i n env)
  | 0x510004 => some (destroyTickWrite p i n env)
  | 0x510005 => some (freezeTickWrite p i n env)
  | 0x510007 => some (unfreezeTickWrite p i n env)
  | 0x511010 => some (resourceCommitTickWrite p i n env)
  | 0x515002 => some (imageSave p n)
  | 0x515005 => some (restoreTickWrite p n env)
  | 0x600007 => some (rejoinWrite p n)
  | 0x380008 => some (macFlushPort p n)
  | 0x381005 => some (macOpWrite p n)
  | 0x3A1005 => some (routeOpWrite p n)
  | 0x3C000B => some (todSetWrite p n env.now)
  | 0x4C100D => some (clickerForce p i n env.now)
  | 0x4C100E => some (clickerStop p i n)
  | 0x4C100F => some (clickerDrain p i n)
  | 0x4C1010 => some (clickerRelease p i n)
  | 0x4C1011 => some (clickerResend p i b)
  | 0x5C100D => some (canRecover p i n env.now)
  | 0x5C2006 => some (canCtrlWrite p i n env)
  | 0x1F0002 => some (stageCommit p n env)
  | 0x1F0003 => some (stageDiscard p n)
  | 0x1F0007 => some (commitCancel p n)
  | 0x1F3002 => some (dtpKeySlotWrite p n)
  | 0x640002 => some (lifecycleChange p env.mMode none n env.opTime)
  | 0x640004 => some (lcTokenWrite p b env)
  | 0x640008 => some (okHashWrite p env.mMode b)
  | 0x64000A => some (minSvnSet p env.mMode n)
  | 0x641002 => some (keyValueWrite p b env)
  | 0x64100A => some (keyCmdWrite p n env)
  | 0x68000B => some (anchorWrite p n env.opTime env.now)
  | 0x683005 => some (swWrite p n env.opTime)
  | 0x203004 => some (swReset false p env.mMode n env.now)
  | 0x203005 => some (configDone p n)
  | 0x203007 => some (wdtKick p env.mMode n env.now)
  | _ => ownRw env p o i v

/-! ## What bars a write -/

/-- The objects that name a target tick (R453). -/
def targetObjects : List Nat :=
  [0x202005, 0x44200C, 0x510003, 0x510004, 0x510005, 0x510007, 0x511010, 0x515005, 0x581005, 0x581007]

/-- Why a path may not write an object or instance now, 0 where it may: R338 and R341 (only the supervisor), R486 (only M mode), R428 (a buffer
that is pending or being sent), R80 (the presets). -/
def Mod.writeBar (m : Mod) (p : Path) (env : Env) (o i : Nat) : Nat :=
  match o / 256 with
  | 0x3810 | 0x3A10 => if supervisorOnly p then abAccess else 0
  | 0x6410 => if mPath p env.mMode then 0 else abAccess
  | 0x5C20 => if o % 256 ≤ 4 ∧ (m.num 0x5C2007 i = 1 ∨ m.num 0x5C2007 i = 2) then abState else 0
  | 0x4420 => if i < 4 then abReadOnly else 0
  | _ => 0

/-! ## Values that take effect through an access code (R447) -/

/-- An RWS object written: staged on a MEMBER whose tick runs; otherwise at once where its condition and the block's rules hold,
and HELLO tells the new SETTINGS_DIGEST (R288). -/
def Mod.writeRws (m : Mod) (p : Path) (env : Env) (e : StageEntry) : Mod :=
  if m.isMember && !m.stopped then
    let r := m.stageAll p [e]
    r.1.report p r.2
  else
    let v := m.commitVerdict env { path := pathCode p, entries := [e] }
    if v.code ≠ 0 then (v.report m).report p v.code
    else ((m.putEntries env false [e]).tellDigest m.settingsDigest).report p 0

/-- One instance's value written through the object's access code. -/
def Mod.writeOne (m : Mod) (p : Path) (env : Env) (r : ObjRow) (o i : Nat) (v : Val) : Mod :=
  let bar := m.writeBar p env o i
  if bar ≠ 0 then m.report p bar
  else match commandOf p env o i v with
    | some f => f m
    | none => match r.acc with
      | .rwt =>
        let s := m.stageAll p [{ obj := o, sel := i, val := v }]
        s.1.report p s.2
      | .rws => m.writeRws p env { obj := o, sel := i, val := v }
      | _ => if !m.usageOk o (valNum v) then m.report p abCheck else (m.putRw env o i v).report p 0

/-- A write with a group's or every instance's selector: always staged, even of an RW object; a group becomes one entry for each instance it
lists; where the object names a target the stage is proposed (R450, R451, R453). -/
def Mod.writeMany (m : Mod) (p : Path) (env : Env) (o sel : Nat) (l : List Nat) (v : Val) : Mod :=
  let es : List StageEntry := if sel = 0xFFFF then [{ obj := o, sel := sel, val := v }] else l.map (fun i => { obj := o, sel := i, val := v })
  let bar := if sel = 0xFFFF then 0 else (l.map (m.writeBar p env o)).foldl (fun a b => if a = 0 then b else a) 0
  if bar ≠ 0 then m.report p bar
  else if targetObjects.contains o then m.proposeWith p env es (valNum v)
  else
    let s := m.stageAll p es
    s.1.report p s.2

/-- The first code with which the octets are refused for an instance of a list, and the value they spell. -/
def Mod.readValues (m : Mod) (r : ObjRow) (o : Nat) (bs : List Byte) (l : List Nat) : Nat × Val :=
  l.foldl (fun a i => if a.1 ≠ 0 then a else m.readValue r o i bs) (0, .num 0)

/-- Whether a write to an index is served before step 6 of start-up completes (R540). -/
def earlyIndex (idx : Nat) : Bool := idx == 0x2030 || decide (0x6400 ≤ idx ∧ idx ≤ 0x64FF)

/-- A whole value written to an object on a path: the code is the path's last (R445-R453, R473). No subindex is held as reserved in the sense of R8: the
object tables mark none, and one that a table does not list does not exist (log entry 199). -/
def Mod.writeObject (m : Mod) (p : Path) (env : Env) (o sel : Nat) (bs : List Byte) : Mod :=
  if m.power.held ≠ 0 then m
  else if isTenantPath p then m.report p abAccess
  else if !m.configured ∧ !earlyIndex (o / 256) then m.report p abState
  else match objRow? o with
    | none => m.report p (if !indexUsed (o / 256) then abNoObject else if o % 256 = 0 then abReadOnly else abNoSub)
    | some r =>
      if r.acc = .ro ∨ (r.acc = .wo ∧ selMany sel) then m.report p (if selMany sel then abAccess else abReadOnly)
      else
        let l := m.selects r o sel
        if l.1 ≠ 0 then m.report p l.1
        else
          let w := m.readValues r o bs (if sel = 0xFFFF ∧ o / 256 = 0x4420 then l.2.filter (fun i => decide (4 ≤ i)) else l.2)
          if w.1 ≠ 0 then m.report p w.1
          else if selMany sel then m.writeMany p env o sel l.2 w.2
          else m.writeOne p env r o sel w.2

/-- DICTIONARY_WRITE (R447): a write of a value to an object. -/
def dictionaryWrite (p : Path) (obj sel : Nat) (bytes : List Byte) (env : Env) (m : Mod) : Mod := m.writeObject p env obj sel bytes

/-- DICTIONARY_WRITE. -/
def execDictionaryWrite (path : Path) (obj sel : Nat) (bytes : List Byte) (env : Env) (s : State) : Host.Outcome State Fault Refusal :=
  .next { s with mod := dictionaryWrite path obj sel bytes env s.mod }

/-! ## Values in parts (R472) -/

/-- The most octets a value of an object may have; the image that IMAGE takes is not bounded by its row. -/
def lenBound (o : Nat) : Nat :=
  match objRow? o with
  | some r => if tySize r.ty = 0 then r.lenMax else tySize r.ty
  | none => 0

/-- One part of a value at an offset: 0 begins a transfer and discards an unfinished one; a later part follows what has arrived; the value applies
with the part that is the last (R472). -/
def Mod.writePart (m : Mod) (p : Path) (env : Env) (o sel off : Nat) (bs : List Byte) (last : Bool) : Mod :=
  let m := if off = 0 then m.dropParts p else m
  let have' : List Byte := match Table.find? m.dic.parts (pathNo p) with
    | some x => if x.obj = o ∧ x.sel = sel then x.data else []
    | none => []
  if off = 0 ∧ last then m.writeObject p env o sel bs
  else if off ≠ 0 ∧ (have'.length ≠ off ∨ have'.isEmpty) then
    ({ m with dic := { m.dic with parts := Table.del m.dic.parts (pathNo p) } }).report p abOrder
  else
    let all := (if off = 0 then [] else have') ++ bs
    let m := { m with dic := { m.dic with parts := Table.del m.dic.parts (pathNo p) } }
    if (objRow? o).isSome ∧ lenBound o < all.length then m.report p abTooLong
    else if last then m.writeObject p env o sel all
    else { m with dic := { m.dic with parts := Table.put m.dic.parts (pathNo p) { obj := o, sel := sel, data := all } } }.report p 0

/-! ## The supervisor's dictionary port (R208, R463) -/

/-- The registers of aperture 0. -/
def Mod.dp (m : Mod) : DpRegs := (m.tenant 0).dp

/-- The registers of aperture 0 replaced. -/
def Mod.setDp (m : Mod) (d : DpRegs) : Mod := m.setTenant 0 { m.tenant 0 with dp := d }

/-- The object that DP_ADDR names. -/
def DpRegs.obj (d : DpRegs) : Nat := d.addr / 2 ^ 16 * 256 + d.addr / 256 % 256

/-- The instance selector that DP_INSTANCE holds. -/
def DpRegs.sel (d : DpRegs) : Nat := d.instSel % 2 ^ 16

/-- The outcome shown in DP_STATUS and DP_ABORT: DONE, with REFUSED and its code. -/
def Mod.dpDone (m : Mod) : Mod :=
  let c := m.lastAbort .supervisor
  m.setDp { m.dp with status := if c = 0 then 2 ^ 30 else 2 ^ 30 + 2 ^ 29, abort := c }

/-- DP_WRITE (R463, R472): DP_CTRL 1 writes DP_LEN octets of DP_DATA as the part at DP_OFFSET; the value applies with the part that has LAST set. -/
def dpWrite (env : Env) (m : Mod) : Mod :=
  let d := m.dp
  let off := d.offset % 2 ^ 31
  let bs := slice d.data 0 (min d.len 512)
  if m.power.held ≠ 0 then m else (m.writePart .supervisor env d.obj d.sel off bs (bit d.offset 31)).dpDone

/-- DP_WRITE. -/
def execDpWrite (env : Env) (s : State) : Host.Outcome State Fault Refusal := .next { s with mod := dpWrite env s.mod }

/-- DP_READ (R463): DP_CTRL 2 reads up to 512 octets of the value from DP_OFFSET into DP_DATA; DP_LEN reads how many, DP_TOTAL the value's length. -/
def dpRead (env : Env) (m : Mod) : Mod :=
  if m.power.held ≠ 0 then m
  else
    let d := m.dp
    let off := d.offset % 2 ^ 31
    let r := m.readOctets .supervisor env d.obj d.sel
    if r.1 ≠ 0 then (m.report .supervisor r.1).dpDone
    else
      let part := (r.2.drop off).take 512
      let ends := if d.obj = 0x515004 then decide (r.2.length ≤ off + 512) else decide (off = 0)
      let m := if ends then m.readTakes d.obj d.sel else m
      (((m.setDp { d with data := slice (part ++ d.data.drop part.length) 0 512, len := part.length, total := r.2.length }).report .supervisor 0).dpDone).emit (.data part)

/-- DP_READ. -/
def execDpRead (env : Env) (s : State) : Host.Outcome State Fault Refusal := .next { s with mod := dpRead env s.mod }

/-- DP_COMMIT (R463): DP_CTRL 3 proposes the stage for DP_TICK, where 0 means k + 48. -/
def dpCommit (env : Env) (m : Mod) : Mod :=
  if m.power.held ≠ 0 then m
  else if !m.configured then (m.report .supervisor abState).dpDone
  else (stageCommit .supervisor m.dp.tick env m).dpDone

/-- DP_COMMIT. -/
def execDpCommit (env : Env) (s : State) : Host.Outcome State Fault Refusal := .next { s with mod := dpCommit env s.mod }

end Sys2Proof.Machine
end

