-- ==== Sys2Proof/Machine/Dtp.lean ====
section
/-!
DEFINITION. The Dictionary Transfer Protocol: datagrams, sessions and the four operations (R467-R472).
-/
namespace Sys2Proof.Machine

/-! ## Datagrams (R467) -/

/-- The parts of a request: OP, SESSION, SEQ, body, and the octets under the tag with the tag. -/
structure DtpReq where
  op : Nat
  session : Nat
  seq : Nat
  body : List Byte
  signed : List Byte
  tag : List Byte

/-- A request that octets spell; none where the version or the length is wrong. -/
def dtpParse (d : List Byte) : Option DtpReq :=
  let n := beNat (slice d 8 2)
  if slice d 0 1 ≠ [1] ∨ 1440 < n ∨ d.length ≠ n + 44 then none
  else some { op := beNat (slice d 1 1), session := beNat (slice d 2 2), seq := beNat (slice d 4 4), body := slice d 12 n,
              signed := d.take (n + 12), tag := d.drop (n + 12) }

/-- The tag of octets under a key. -/
def dtpTag (key bs : List Byte) : List Byte := slice (Config.hmac key bs) 0 32

/-- A response: the request's OP + 0x80 and SEQ, tagged under a key. -/
def dtpResponse (key : List Byte) (op session seq : Nat) (body : List Byte) : List Byte :=
  let h := [1] ++ toBE 1 (op + 0x80) ++ toBE 2 session ++ toBE 4 seq ++ toBE 2 body.length ++ [0, 0] ++ body
  h ++ dtpTag key h

/-- Where a request came from: address and port (R467). -/
structure DtpFrom where
  addr : Nat
  udpPort : Nat

/-- Octets sent to where a request came from. -/
def Mod.dtpSend (m : Mod) (w : DtpFrom) (bs : List Byte) : Mod := m.emit (.datagram w.addr w.udpPort bs)

/-- Whether DTP is served (R475). -/
def Mod.dtpServed (m : Mod) : Bool := m.power.held == 0 && m.on 0x1F3001

/-- A datagram whose tag fails or whose session is unknown: discarded and counted (R469). -/
def Mod.dtpAuthFail (m : Mod) : Mod := m.bump 0x1F3006

/-! ## HELLO (R469) -/

/-- The label of the session key: "KUNATH-DTP". -/
def dtpLabel : List Byte := [0x4B, 0x55, 0x4E, 0x41, 0x54, 0x48, 0x2D, 0x44, 0x54, 0x50]

/-- The session numbers of 1 to 8 that are free. -/
def Mod.freeSessions (m : Mod) : List Nat := ((List.range 8).map (· + 1)).filter (fun n => (m.session? n).isNone)

/-- A HELLO whose tag holds: refused while the DRBG is unavailable or eight sessions are open, otherwise a session with a
derived key, under one of the free numbers (log entry 174). -/
def Mod.openSession (m : Mod) (w : DtpFrom) (key : List Byte) (q : DtpReq) : Mod :=
  let refuse := fun (code : Nat) => m.dtpSend w (dtpResponse key q.op 0 q.seq (toBE 4 code ++ toBE 2 0 ++ [0, 0] ++ List.replicate 16 0))
  if m.drbgOff then refuse abCheck
  else match m.freeSessions with
    | [] => refuse abSessions
    | n0 :: l =>
      let (v, m) := m.draw 3
      let n := (n0 :: l).getD (v % (l.length + 1)) n0
      let (snonce, m) := m.drawOctets 16
      let sk := kdf key dtpLabel (slice q.body 2 16 ++ snonce ++ toBE 2 n)
      let m := m.setSessions (Table.put m.dic.sessions n { key := sk, addr := w.addr, udpPort := w.udpPort })
      let m := m.raise 0x0B07 [n, Config.eventField 0x0B07 0]
      m.dtpSend w (dtpResponse sk q.op n q.seq (toBE 4 0 ++ toBE 2 n ++ [0, 0] ++ snonce))

/-- DTP_HELLO (R469): verified under the key in DTP_KEY_SLOT; a HELLO that fails is counted and raises event 0x0B06. -/
def dtpHello (addr udpPort : Nat) (datagram : List Byte) (m : Mod) : Mod :=
  if !m.dtpServed then m
  else match dtpParse datagram with
    | none => m
    | some q =>
      let slot := m.num 0x1F3002
      let key := if slot < 512 ∧ m.num 0x642002 slot = 3 then m.keyBytes slot else []
      if q.op ≠ 1 ∨ q.body.length ≠ 18 then m
      else if q.session ≠ 0 ∨ key.isEmpty ∨ q.tag ≠ dtpTag key q.signed then (m.dtpAuthFail).raise 0x0B06 [addr, q.session]
      else m.openSession { addr := addr, udpPort := udpPort } key q

/-- DTP_HELLO. -/
def execDtpHello (addr udpPort : Nat) (datagram : List Byte) (s : State) : Host.Outcome State Fault Refusal :=
  .next { s with mod := s.mod.awake (dtpHello addr udpPort datagram) }

/-! ## Requests of a session (R470) -/

/-- A request of a session executed once: its response is kept, and the session closes after the last SEQ (R469, R470). -/
def Mod.dtpServe (m : Mod) (w : DtpFrom) (x : Session) (q : DtpReq) (f : Mod → Mod × List Byte) : Mod :=
  let r := f m
  let out := dtpResponse x.key q.op q.session q.seq r.2
  let m := match r.1.session? q.session with
    | some y => r.1.setSessions (Table.put r.1.dic.sessions q.session { y with seq := q.seq, cached := out })
    | none => r.1
  let m := m.dtpSend w out
  if q.seq = 0xFFFFFFFF then m.closeSession q.session 3 else m

/-- A request to a session, of one OP: discarded with a count where the session is unknown or the tag fails; answered again where its SEQ is the last one
served; discarded with a count where its SEQ is not the next (R469, R470). -/
def Mod.dtpRequest (m : Mod) (w : DtpFrom) (datagram : List Byte) (op : Nat) (f : DtpReq → Mod → Mod × List Byte) : Mod :=
  if !m.dtpServed then m
  else match dtpParse datagram with
    | none => m
    | some q =>
      if q.op ≠ op then m
      else match m.session? q.session with
        | none => m.dtpAuthFail
        | some x =>
          if q.tag ≠ dtpTag x.key q.signed then m.dtpAuthFail
          else if q.seq = x.seq ∧ x.seq ≠ 0 then m.dtpSend w x.cached
          else if q.seq ≠ x.seq + 1 then m.bump 0x1F3007
          else m.dtpServe w x q (f q)

/-- The object that an addressing block names (R468). -/
def dtpObj (b : List Byte) : Nat := beNat (slice b 0 2) * 256 + beNat (slice b 2 1)
/-- The selector. -/
def dtpSel (b : List Byte) : Nat := beNat (slice b 4 2)
/-- OFFSET. -/
def dtpOffset (b : List Byte) : Nat := beNat (slice b 8 4)
/-- COUNT. -/
def dtpCount (b : List Byte) : Nat := beNat (slice b 12 4)

/-- The body of a response to a READ that is refused. -/
def dtpReadRefused (code : Nat) : List Byte := toBE 4 code ++ toBE 4 0

/-- COUNT octets of a snapshot from OFFSET. -/
def dtpPart (b snap : List Byte) : List Byte := toBE 4 0 ++ toBE 4 snap.length ++ (snap.drop (dtpOffset b)).take (dtpCount b)

/-- What a READ does and answers (R468, R471). -/
def Mod.dtpDoRead (m : Mod) (env : Env) (q : DtpReq) : Mod × List Byte :=
  let b := q.body
  let p := Path.dtp q.session
  let refuse := fun (code : Nat) => (m.report p code, dtpReadRefused code)
  if b.length ≠ 16 then refuse abLength
  else if dtpCount b = 0 ∨ 1400 < dtpCount b then refuse abValue
  else if dtpOffset b = 0 then
    let r := m.readOctets p env (dtpObj b) (dtpSel b)
    if r.1 ≠ 0 then refuse r.1
    else
      let m := (m.readTakes (dtpObj b) (dtpSel b)).report p 0
      let m := match m.session? q.session with
        | some x => m.setSessions (Table.put m.dic.sessions q.session { x with snap := some (dtpObj b, dtpSel b, r.2) })
        | none => m
      (m, dtpPart b r.2)
  else match (m.session? q.session).bind (fun x => x.snap) with
    | some (o, sel, bs) => if o = dtpObj b ∧ sel = dtpSel b then (m.report p 0, dtpPart b bs) else refuse abOrder
    | none => refuse abOrder

/-- DTP_READ (R471). -/
def dtpRead (addr udpPort : Nat) (datagram : List Byte) (env : Env) (m : Mod) : Mod :=
  m.dtpRequest { addr := addr, udpPort := udpPort } datagram 2 (fun q m => m.dtpDoRead env q)

/-- DTP_READ. -/
def execDtpRead (addr udpPort : Nat) (datagram : List Byte) (env : Env) (s : State) : Host.Outcome State Fault Refusal :=
  .next { s with mod := s.mod.awake (dtpRead addr udpPort datagram env) }

/-- What a WRITE does and answers (R468, R472). -/
def Mod.dtpDoWrite (m : Mod) (env : Env) (q : DtpReq) : Mod × List Byte :=
  let b := q.body
  let p := Path.dtp q.session
  let m := if b.length ≠ 16 + dtpCount b then m.report p abLength
    else if dtpCount b = 0 ∨ 1400 < dtpCount b then m.report p abValue
    else m.writePart p env (dtpObj b) (dtpSel b) (dtpOffset b) (b.drop 16) (bit (beNat (slice b 3 1)) 0)
  (m, toBE 4 (m.lastAbort p))

/-- DTP_WRITE (R472). -/
def dtpWrite (addr udpPort : Nat) (datagram : List Byte) (env : Env) (m : Mod) : Mod :=
  m.dtpRequest { addr := addr, udpPort := udpPort } datagram 3 (fun q m => m.dtpDoWrite env q)

/-- DTP_WRITE. -/
def execDtpWrite (addr udpPort : Nat) (datagram : List Byte) (env : Env) (s : State) : Host.Outcome State Fault Refusal :=
  .next { s with mod := s.mod.awake (dtpWrite addr udpPort datagram env) }

/-- DTP_CLOSE (R469). -/
def dtpClose (addr udpPort : Nat) (datagram : List Byte) (m : Mod) : Mod :=
  m.dtpRequest { addr := addr, udpPort := udpPort } datagram 4 (fun q m => (m.closeSession q.session 1, toBE 4 0))

/-- DTP_CLOSE. -/
def execDtpClose (addr udpPort : Nat) (datagram : List Byte) (s : State) : Host.Outcome State Fault Refusal :=
  .next { s with mod := s.mod.awake (dtpClose addr udpPort datagram) }

end Sys2Proof.Machine
end

