-- ==== Sys2Proof/Machine/Rings.lean ====
section
/-!
DEFINITION. Tenant DMA through the IOMMU and the descriptor rings it serves (R194, R195, R207-R210).
-/
namespace Sys2Proof.Machine

/-! ## Tenant DMA (R194, R195, R207) -/

/-- Where n octets at offset o of tenant t's Clicker share lie: the share is the areas of the slots it owns, in the order of the slots `xs`
(R195, R400; log entry 54). -/
def Mod.shareAt (m : Mod) (t : Nat) : List Nat → (o n : Nat) → Option Nat
  | [], _, _ => none
  | x :: xs, o, n =>
    let size := if m.num 0x4C1002 x = t then m.num 0x4C1004 x else 0
    if o + n ≤ size then some (0x40000000 + m.num 0x4C1003 x + o) else if o < size then none else m.shareAt t xs (o - size) n

/-- Where n octets at a guest-physical address of tenant t lie under the map of R195, whether they may be written; none outside the guest part of
its SRAM and the other columns that R191 opens to it. Words of the measurement window and of the VF aperture are read whole. -/
def Mod.guestPhys (m : Mod) (t a n : Nat) : Option (Nat × Bool) :=
  let (base, size) := m.tnSram t
  let words := decide (a % 4 = 0 ∧ n % 4 = 0)
  if a + n + 0x20000 ≤ size then some (base + 0x20000 + a, true)
  else if 0x40000000 ≤ a ∧ a + n ≤ 0x40600000 ∧ words then some (a - 0x10000000, false)
  else if 0x50000000 ≤ a ∧ a + n ≤ 0x50020000 ∧ words then some (vfAt t + (a - 0x50000000), false)
  else if 0x60000000 ≤ a then (m.shareAt t (List.range 64) (a - 0x60000000) n).map (fun x => (x, false))
  else none

/-- An access fault of tenant t's DMA, delivered to HS mode through the fault queue of the IOMMU under the device ID of the tenant: 5 for a read, 7 for a
write (R194, R207; log entry 217). -/
def Mod.dmaFault (m : Mod) (t cause a : Nat) : Mod :=
  { m with ten := { m.ten with iommu := { m.ten.iommu with faults := m.ten.iommu.faults ++ [(0x100 + t, cause, a)] } } }

/-- A read of tenant t's DMA; none where it faults. -/
def Mod.dmaRead (m : Mod) (t a n : Nat) : Option (List Byte) := (m.guestPhys t a n).bind (fun x => m.physRead x.1 n none)

/-- The physical address of octets that tenant t's DMA may write; none where it faults. -/
def Mod.dmaDest (m : Mod) (t a n : Nat) : Option Nat := (m.guestPhys t a n).bind (fun x => if x.2 then some x.1 else none)

/-- A write of tenant t's DMA to its SRAM. -/
def Mod.dmaPoke (m : Mod) (a : Nat) (bs : List Byte) : Mod := (m.poke a bs).masterWrote a bs.length

/-! ## Rings (R208-R210) -/

/-- A transmit descriptor `d` at `a` taken: its frame is read through the IOMMU, checked, and handed to switch port 800 + t - 1 with its class
lowered below SC2 to SC2 (R209, R210). A frame that faults completes with ERR. -/
def takeTx (t now a : Nat) (d : List Byte) (m : Mod) : Mod :=
  let x := m.tenant t
  let len := field d 8 2
  let m := m.setTenant t { x with tx := { x.tx with head := (x.tx.head + 1) % x.tx.size } }
  match m.dmaRead t (field d 0 8) len with
  | none => (m.setTenant t { m.tenant t with txTaken := x.txTaken ++ [(a, false)] }).dmaFault t 5 (field d 0 8)
  | some f =>
    let c := m.ringCheck t f
    let m := m.setTenant t { m.tenant t with txTaken := x.txTaken ++ [(a, c == 0)] }
    if c = 0 then switchClassify { port := 799 + t, bytes := f, ts := now, cls := max 2 (field d 11 1) } m else m.violation t c 0xFF

/-- Descriptors taken from HEAD up to TAIL while the tenant is RUNNING and below VIOL_LIMIT, up to one that faults; `n` bounds the ring's size. -/
def takeTxs (t now : Nat) : Nat → Mod → Mod
  | 0, m => m
  | n + 1, m =>
    let x := m.tenant t
    let a := x.tx.base + 16 * x.tx.head
    if x.tx.size = 0 ∨ x.tx.head = x.tx.tail % x.tx.size ∨ m.violLimited t ∨ m.tnState t ≠ tnRunning then m
    else match m.dmaRead t a 16 with
      | none => m.dmaFault t 5 a
      | some d => takeTxs t now n (takeTx t now a d m)

/-- TX_TAIL_WRITE (R209): TXQ_TAIL is written, and the module takes the descriptors up to it. -/
def txTailWrite (t tail now : Nat) (m : Mod) : Mod :=
  if m.tnState t = tnEmpty then m
  else
    let x := m.tenant t
    takeTxs t now 4096 (m.setTenant t { x with tx := { x.tx with tail := tail % 2 ^ 32 } })

/-- TX_TAIL_WRITE. -/
def execTxTailWrite (t : Nat) (tail : Timed Nat) (s : State) : Host.Outcome State Fault Refusal := .next { s with mod := s.mod.awake (txTailWrite t tail.it tail.now) }

/-- TX_DESCRIPTOR_DONE (R209): the oldest descriptor taken completes: OWN cleared, DONE set, ERR set where its frame failed; identity 7. A descriptor
that the tenant's DMA cannot write faults. -/
def txDescriptorDone (t : Nat) (m : Mod) : Mod :=
  match (m.tenant t).txTaken with
  | [] => m
  | (a, ok) :: rest =>
    let m := m.setTenant t { m.tenant t with txTaken := rest }
    match m.dmaDest t (a + 10) 1 with
    | none => (m.dmaFault t 7 (a + 10)).identity t 7
    | some pa =>
      let fl := (Memory.read m.mem pa &&& 0xF8) ||| 2 ||| (if ok then 0 else 4)
      (m.dmaPoke pa [fl]).identity t 7

/-- TX_DESCRIPTOR_DONE. -/
def execTxDescriptorDone (t : Nat) (s : State) : Host.Outcome State Fault Refusal := .next { s with mod := s.mod.awake (txDescriptorDone t) }

/-- RX_FRAME_DELIVERY (R209, R371): a frame for tenant t goes into the descriptor at RXQ_HEAD that the tenant has given back,
with its length, DONE, its service class and the low 32 bits of its receive timestamp in ns; identity 8. With no descriptor it is dropped; where the
tenant's DMA may not read the descriptor or write it and the frame, it faults. -/
def rxFrameDelivery (t : Nat) (frame : List Byte) (ts cls : Nat) (m : Mod) : Mod :=
  let x := m.tenant t
  let a := x.rx.base + 16 * x.rx.head
  if m.tnState t = tnEmpty ∨ x.rx.size = 0 ∨ x.rx.head = x.rx.tail % x.rx.size then m
  else
    match m.dmaDest t a 16 with
    | none => m.dmaFault t 7 a
    | some pa =>
      let at' := leNat (Memory.readN m.mem pa 8)
      match m.dmaDest t at' frame.length with
      | none => m.dmaFault t 7 at'
      | some fa =>
        let m := m.dmaPoke fa frame
        let fl := (Memory.read m.mem (pa + 10) &&& 0xF8) ||| 2
        let m := m.dmaPoke (pa + 8) (toLE 2 frame.length ++ [fl] ++ toLE 1 cls ++ toLE 4 (ts % 2 ^ 32))
        (m.setTenant t { x with rx := { x.rx with head := (x.rx.head + 1) % x.rx.size } }).identity t 8

/-- RX_FRAME_DELIVERY. -/
def execRxFrameDelivery (t : Nat) (frame : ClassedFrame) (ts : Nat) (s : State) : Host.Outcome State Fault Refusal :=
  .next { s with mod := s.mod.awake (rxFrameDelivery t frame.bytes ts frame.cls) }

end Sys2Proof.Machine
end

