-- ==== Sys2Proof/Machine/Memory.lean ====
section
/-!
DEFINITION. Loads, stores, fetches and atomic operations of a core against the memory map, and remote writes that arrive over Welt
(R189, R191-R195, R199, R200, R208, R214, R220, R293, R294, R463).
-/
namespace Sys2Proof.Machine

/-! ## What an access is -/

/-- Whether an access may write. -/
def accStores : CoreAccess → Bool
  | .store | .amo _ | .sc | .vstore => true
  | .load | .fetch | .lr | .vload _ => false

/-- Whether an access is an atomic operation, a load-reserved or a store-conditional. -/
def accAtomic : CoreAccess → Bool
  | .amo _ | .lr | .sc => true
  | .load | .store | .fetch | .vload _ | .vstore => false

/-- Whether an access is a load or store of data and neither a fetch nor atomic. -/
def accPlain : CoreAccess → Bool
  | .load | .store | .vload _ | .vstore => true
  | .fetch | .amo _ | .lr | .sc => false

/-- The number of the address-misaligned exception of an access. -/
def misalignedCause : CoreAccess → Nat
  | .fetch => 0
  | .load | .lr | .vload _ => 4
  | .store | .amo _ | .sc | .vstore => 6

/-- The number of the access-fault exception of an access. -/
def accessCause : CoreAccess → Nat
  | .fetch => 1
  | .load | .lr | .vload _ => 5
  | .store | .amo _ | .sc | .vstore => 7

/-- Whether a region is cacheable (R191). -/
def cacheable : Region → Bool
  | .bootRom | .tenantSram | .supSram | .clicker => true
  | .window | .device | .filed | .vf | .sc0 | .mram | .remote | .absent => false

/-- The widths an access may have: 1, 2, 4 or 8 octets, 2 for a fetch, 4 or 8 for an atomic operation, and 64 for a store that zeroes a cache
block (R188). -/
def widthOk (acc : CoreAccess) (n : Nat) : Bool :=
  match acc with
  | .fetch => n == 2
  | .amo _ | .lr | .sc => n == 4 || n == 8
  | .load | .vload _ | .vstore => n == 1 || n == 2 || n == 4 || n == 8
  | .store => n == 1 || n == 2 || n == 4 || n == 8 || n == 64

/-- Whether an access is misaligned and does not complete in hardware: of those that are not naturally aligned, only a scalar load or store
within one aligned 16-octet block of a cacheable region does (R189). -/
def misaligned (acc : CoreAccess) (a n : Nat) : Bool :=
  let scalar := match acc with
    | .load | .store => true
    | _ => false
  a % n != 0 && !(scalar && cacheable (regionOf a) && a / 16 == (a + n - 1) / 16)

/-! ## What may be accessed -/

/-- Whether offset o of aperture t begins a 64-bit register: TXQ_BASE, RXQ_BASE, PUB_COMMIT, and in aperture 0 SC0_COMMIT (R208, R214). -/
def wideRegister (t o : Nat) : Bool :=
  o == 0x0A0 || o == 0x0B8 || (decide (0x100 ≤ o ∧ o < 0x200) && o % 8 == 0) || (t == 0 && decide (0x1000 ≤ o ∧ o < 0x1800) && o % 8 == 0)

/-- Where an address of the VF apertures lies: the aperture and the offset in it (R193). -/
def apertureOf (a : Nat) : Nat × Nat := ((a - 0x58000000) / 0x20000, (a - 0x58000000) % 0x20000)

/-- Whether an address lies in the event-recorder area of MRAM, which the recorder hardware alone writes (R199). -/
def recorderArea (a : Nat) : Bool := decide (0x60000000 ≤ a ∧ a < 0x60800000)

/-- Whether the attributes of a region admit an access in a mode (R191, R192, R199, R200, R214, R293). -/
def Mod.regionAllows (m : Mod) (mode : HartMode) (acc : CoreAccess) (a n : Nat) : Bool :=
  let priv := mode == .m || mode == .hs
  let word := n == 4 || n == 8
  match regionOf a with
  | .bootRom => !accStores acc && !accAtomic acc
  | .tenantSram | .supSram => true
  | .window =>
    (match acc with
      | .load => word
      | .vload unit => unit && n == 4
      | _ => false) && (wordsFrom (fun x => m.windowWord (x - 0x30000000)) a n).isSome
  | .clicker => accPlain acc
  | .device => accPlain acc && n == 4
  | .filed => false
  | .vf => accPlain acc && (n == 4 || (n == 8 && wideRegister (apertureOf a).1 (apertureOf a).2))
  | .sc0 => accPlain acc && word && priv
  | .mram => accPlain acc && mode == .m && !(accStores acc && recorderArea a)
  | .remote =>
    (match acc with
      | .load | .store => true
      | _ => false) && word && priv
  | .absent => false

/-- Whether a run of addresses lies in an area of a Clicker slot that tenant t owns (R191, R400). -/
def Mod.clickerShare (m : Mod) (t a n : Nat) : Bool :=
  t != 0 && (List.range 64).any (fun x => m.num 0x4C1002 x == t && decide (m.ckBase x ≤ a ∧ a + n ≤ m.ckBase x + m.num 0x4C1004 x))

/-- Whether an access in VS or VU mode under VMID t stays in the guest part of the tenant's SRAM or in what R191 opens to it (R194; log entry 181). -/
def Mod.tenantAllows (m : Mod) (t : Nat) (acc : CoreAccess) (a n : Nat) : Bool :=
  match regionOf a with
  | .tenantSram => decide ((m.tnSram t).1 + 0x20000 ≤ a ∧ a + n ≤ (m.tnSram t).1 + (m.tnSram t).2)
  | .window => !accStores acc && !accAtomic acc
  | .clicker => !accStores acc && m.clickerShare t a n
  | .vf => decide (vfAt t ≤ a ∧ a + n ≤ vfAt t + 0x20000)
  | .bootRom | .supSram | .device | .filed | .sc0 | .mram | .remote | .absent => false

/-- The PMP permission an access needs: 0 read, 1 write, 2 execute. -/
def accPerm : CoreAccess → Nat
  | .fetch => 2
  | .load | .lr | .vload _ => 0
  | .store | .amo _ | .sc | .vstore => 1

/-- The exception an access of hart j raises, and whether it goes to HS mode whatever is delegated; none where it completes. -/
def Mod.coreTrap (m : Mod) (j : Nat) (acc : CoreAccess) (a n : Nat) : Option (Nat × Bool) :=
  let h := m.hart j
  if misaligned acc a n then some (misalignedCause acc, false)
  else if isGuest h.mode && !m.tenantAllows (vmidOf h.hgatp) acc a n then some (accessCause acc, true)
  else if !m.regionAllows h.mode acc a n ∨ !h.pmpAdmits (accPerm acc) a n then some (accessCause acc, false)
  else none

/-! ## Stores -/

/-- A number with its low, or high, 32 bits replaced. -/
def setHalf (v : Nat) (high : Bool) (w : Nat) : Nat :=
  if high then w % 2 ^ 32 * 2 ^ 32 + v % 2 ^ 32 else v / 2 ^ 32 * 2 ^ 32 + w % 2 ^ 32

/-- A base of a ring after a store of n octets to its low or high half. -/
def setBase (v : Nat) (high : Bool) (n w : Nat) : Nat := if n = 8 then w % 2 ^ 64 else setHalf v high w

/-- A store of n octets to the register at offset o of aperture t (R208, R463). Read-only and unlisted offsets ignore it. -/
def Mod.vfStore (m : Mod) (env : Env) (mMode : Bool) (t o n v : Nat) : Mod :=
  let x := m.tenant t
  let gen := m.num 0x510002 t
  let dp := fun (d : DpRegs) => m.setTenant t { x with dp := d }
  if 0x100 ≤ o ∧ o < 0x200 then (if n = 8 ∧ t ≠ 0 then pubCommit t ((o - 0x100) / 8) v m else m)
  else if 0x400 ≤ o ∧ o < 0x600 then
    let data := slice x.dp.data 0 512
    dp { x.dp with data := data.take (o - 0x400) ++ toLE 4 v ++ data.drop (o - 0x400 + 4) }
  else if 0x800 ≤ o ∧ o < 0x880 then m.setTenant t { x with tbits := Table.set x.tbits 0 ((o - 0x800) / 4) v }
  else match o with
    | 0x02C => vfIrqLatchClear t v m
    | 0x084 => if t = 0 then m else mbInRelease t (v % 16) gen m
    | 0x08C => if t = 0 then m else mbOutPost t (v % 16) gen m
    | 0x0A0 => m.setTenant t { x with tx := { x.tx with base := setBase x.tx.base false n v } }
    | 0x0A4 => m.setTenant t { x with tx := { x.tx with base := setBase x.tx.base true n v } }
    | 0x0A8 => m.setTenant t { x with tx := { x.tx with size := v } }
    | 0x0AC => txTailWrite t v env.now m
    | 0x0B8 => m.setTenant t { x with rx := { x.rx with base := setBase x.rx.base false n v } }
    | 0x0BC => m.setTenant t { x with rx := { x.rx with base := setBase x.rx.base true n v } }
    | 0x0C0 => m.setTenant t { x with rx := { x.rx with size := v } }
    | 0x0C4 => m.setTenant t { x with rx := { x.rx with tail := v } }
    | 0x0D0 => if t = 0 then mbPost (bitsOf v 14 8) (v % 16) (bitsOf v 23 16) m else m
    | 0x0D4 => if t = 0 then mbRelease (bitsOf v 14 8) (v % 16) (bitsOf v 23 16) m else m
    | 0x0E4 => if t = 0 then wdtKick .supervisor mMode v env.now m else m
    | 0x0E8 => if t = 0 then swReset true .supervisor mMode v env.now m else m
    | 0x300 => dp { x.dp with addr := v / 256 * 256 }
    | 0x304 => dp { x.dp with instSel := v % 2 ^ 16 }
    | 0x308 => dp { x.dp with tick := setHalf x.dp.tick false v }
    | 0x30C => dp { x.dp with tick := setHalf x.dp.tick true (v % 2 ^ 16) }
    | 0x310 => dp { x.dp with len := v }
    | 0x314 =>
      if t = 0 then
        (match v with
          | 1 => dpWrite env m
          | 2 => dpRead env m
          | 3 => dpCommit env m
          | _ => m)
      else if v = 1 then tenantDpSubmit t m
      else m
    | 0x320 => if t = 0 then dp { x.dp with offset := v } else m
    | _ => m

/-- A store of n octets to an aperture: registers, mailbox slots, publication frame buffers, and in aperture 0 the SC0 registers. A write into a
full mailbox slot is ignored and counted; the reserved octets of a slot keep 0 (R8, R193, R214, R219, R220). -/
def Mod.apertureStore (m : Mod) (env : Env) (mMode : Bool) (a n v : Nat) : Mod :=
  let (t, o) := apertureOf a
  if o < 0x1000 then m.vfStore env mMode t o n v
  else if o < 0x3000 ∧ t = 0 then (if o < 0x1800 ∧ n = 8 then sc0Commit ((o - 0x1000) / 8) v m else m)
  else if o < 0x3000 then
    let full := if o < 0x2000 then (m.tenant t).mbIn else (m.tenant t).mbOut
    let w := if o % 256 = 0 then v % 2 ^ 24 else if o % 256 = 12 then 0 else v
    if bit full (o % 0x1000 / 256) then m.bump 0x514004 t else m.poke a (toLE n w)
  else if 0x10000 ≤ o then m.poke a (toLE n v)
  else m

/-- Octets stored in the map by hart `j`, or from another module. A hart's MRAM words are not durable until it reads MRAM_SYNC (R200). Nothing is
stored where the map has nothing to write. -/
def Mod.physWrite (m : Mod) (env : Env) (j : Option Nat) (mMode : Bool) (a : Nat) (bytes : List Byte) : Mod :=
  let n := bytes.length
  match regionOf a with
  | .tenantSram | .supSram | .clicker | .sc0 =>
    if !inRegion (regionOf a) a n then m
    else match j with
      | some _ => (m.poke a bytes).loseReservations j a n
      | none => (m.poke a bytes).masterWrote a n
  | .mram =>
    match j with
    | some i =>
      let m := m.poke a bytes
      let w := a / 8 * 8
      m.setHart i { m.hart i with mramPend := if (m.hart i).mramPend.contains w then (m.hart i).mramPend else w :: (m.hart i).mramPend }
    | none => m
  | .vf =>
    if !inRegion .vf a n ∨ a % 4 ≠ 0 ∨ n % 4 ≠ 0 then m
    else if n = 8 ∧ a % 8 = 0 ∧ wideRegister (apertureOf a).1 (apertureOf a).2 then m.apertureStore env mMode a 8 (leNat bytes)
    else m.each (List.range (n / 4)) (fun m i => m.apertureStore env mMode (a + 4 * i) 4 (field bytes (4 * i) 4))
  | .bootRom | .window | .device | .filed | .remote | .absent => m

/-! ## CORE_MEMORY_ACCESS -/

/-- The result of an atomic memory operation on n octets. -/
def amoResult (op : AmoOp) (n old v : Nat) : Nat :=
  let w := 8 * n
  match op with
  | .swap => v
  | .add => (old + v) % 2 ^ w
  | .xor => old ^^^ v
  | .and => old &&& v
  | .or => old ||| v
  | .min => if toInt w old ≤ toInt w v then old else v
  | .max => if toInt w v ≤ toInt w old then old else v
  | .minu => min old v
  | .maxu => max old v

/-- What hart j has loaded. -/
def Mod.setLoaded (m : Mod) (j : Nat) (bs : List Byte) : Mod := m.setHart j { m.hart j with loaded := bs }

/-- A load that the map admits. A load of TICK_LO latches TICK_HI; one of MRAM_SYNC makes the hart's MRAM writes durable; one of a remote window
goes to the bridge (R200, R208, R293). -/
def Mod.coreLoad (m : Mod) (j a n : Nat) : Mod :=
  if regionOf a = .remote then remoteRead (.hart j) a n m
  else if a = 0x580000E0 then mramSyncRead j m
  else
    match m.loadOctets a n (some j) with
    | none => m
    | some (bs, m) =>
      let m := m.setLoaded j ((m.hart j).forwarded a bs)
      let (t, o) := apertureOf a
      if regionOf a = .vf ∧ o = 0x008 then m.setTenant t { m.tenant t with tickHi := m.k / 2 ^ 32 % 2 ^ 16 } else m

/-- A store that takes effect at once. -/
def Mod.coreStore (m : Mod) (env : Env) (j a : Nat) (bytes : List Byte) : Mod :=
  if regionOf a = .remote then remoteWrite (.hart j) a bytes none m
  else m.physWrite env (some j) ((m.hart j).mode == .m) a bytes

/-! ### The store buffer (R198; log entry 191) -/

/-- Whether a buffered store may leave: one to a remote window where the bridge accepts it (R299), any other always. -/
def Mod.storeLeaves (m : Mod) (e : Nat × List Byte) : Bool := regionOf e.1 != .remote || m.bridgeTakes (m.writeRequest e.1 e.2)

/-- The oldest buffered stores of hart j drain in program order, `n` of them or until one may not leave. -/
def Mod.drainStores (m : Mod) (env : Env) (j : Nat) : Nat → Mod
  | 0 => m
  | n + 1 =>
    match (m.hart j).stores with
    | [] => m
    | e :: rest =>
      if !m.storeLeaves e then m
      else ((m.setHart j { m.hart j with stores := rest }).coreStore env j e.1 e.2).drainStores env j n

/-- Every buffered store of hart j drains. -/
def Mod.drainAll (m : Mod) (env : Env) (j : Nat) : Mod := m.drainStores env j (m.hart j).stores.length

/-- A free number of the oldest buffered stores of each hart that has any drains. -/
def Mod.drainSome (m : Mod) (env : Env) : Mod :=
  m.each ((m.ten.harts.filter (fun e => !e.2.stores.isEmpty)).map Prod.fst) (fun m j =>
    let (v, m) := m.draw 4
    m.drainStores env j v)

/-- Whether a region's stores pass through the store buffer: a cacheable one, and the remote windows (R198, R299). -/
def buffered (r : Region) : Bool := cacheable r || r == .remote

/-- A store of hart j enters its store buffer of 8 entries; the oldest drain where it is full, and a remote one leaves as soon as the bridge accepts it. Where
the buffer stays full the hart waits, and nothing is stored (R198, R299). -/
def Mod.bufferStore (m : Mod) (env : Env) (j a : Nat) (bytes : List Byte) : Mod :=
  let new := storeEntries a bytes
  let m := m.drainStores env j ((m.hart j).stores.length + new.length - 8)
  if 8 < (m.hart j).stores.length + new.length then m
  else
    let m := m.setHart j { m.hart j with stores := (m.hart j).stores ++ new }
    if regionOf a = .remote then m.drainAll env j else m

/-- What an access does that raises no exception (R188, R191, R198): a load sees the hart's own buffered stores; an atomic operation and an access to
a region that is not cacheable follow every older store, and wait while one may not leave. -/
def Mod.coreAct (m : Mod) (env : Env) (j : Nat) (acc : CoreAccess) (a n : Nat) (bytes : List Byte) : Mod :=
  let m := if accAtomic acc || !cacheable (regionOf a) then m.drainAll env j else m
  if (accAtomic acc || !buffered (regionOf a)) && !(m.hart j).stores.isEmpty then m
  else match acc with
  | .load | .vload _ => m.coreLoad j a n
  | .store | .vstore => if buffered (regionOf a) then m.bufferStore env j a bytes else m.coreStore env j a bytes
  | .fetch => m.retireFetch j
  | .amo op =>
    let old := Memory.readN m.mem a n
    (m.setLoaded j old).coreStore env j a (toLE n (amoResult op n (leNat old) (leNat bytes)))
  | .lr =>
    let m := m.coreLoad j a n
    m.setHart j { m.hart j with reserved := some a }
  | .sc =>
    let ok := (m.hart j).reserved == some a
    let m := m.setHart j { m.hart j with reserved := none, scOk := ok }
    if ok then m.coreStore env j a bytes else m

/-- The caches after an access of hart j to a cacheable region (R187). -/
def Mod.cached (m : Mod) (j : Nat) (acc : CoreAccess) (a n : Nat) : Mod :=
  if cacheable (regionOf a) then m.fillLines j a n (acc == .fetch) (accStores acc) else m

/-- Whether a hart's stalled load lets it make an access: none stalls, or the access is that load again (R297). -/
def HartSt.freeFor (h : HartSt) (acc : CoreAccess) (a n : Nat) : Bool := h.stalled.isNone || (acc == .load && h.stalled == some (a, n))

/-- Whether the hart runs and the access is one that a core makes. -/
def Mod.coreRuns (m : Mod) (j : Nat) (acc : CoreAccess) (a n : Nat) : Bool :=
  m.power.held == 0 && decide (j ≤ 67) && widthOk acc n && (m.hart j).freeFor acc a n

/-- CORE_MEMORY_ACCESS (R189, R191, R194): an access is checked for alignment, against the tenant's range and against the region's attributes;
one that fails traps with its address, any other completes. Before it, some buffered stores may have drained (R198). `a` is the physical address,
`bytes` the octets stored (log entry 180). -/
def coreMemoryAccess (j : Nat) (acc : CoreAccess) (a n : Nat) (bytes : List Byte) (env : Env) (m : Mod) : Mod :=
  if !m.coreRuns j acc a n then m
  else
    let m := m.drainSome env
    match m.coreTrap j acc a n with
    | some (cause, toHS) => m.trap j cause a toHS
    | none => (m.coreAct env j acc a n (slice bytes 0 n)).cached j acc a n

/-- Whether an access stores to a device register, whose effect the manual does not give (R463). -/
def Mod.deviceStore (m : Mod) (j : Nat) (acc : CoreAccess) (a n : Nat) : Bool :=
  m.coreRuns j acc a n && m.coreTrap j acc a n == none && accStores acc && regionOf a == .device

/-- CORE_MEMORY_ACCESS. -/
def execCoreMemoryAccess (hart : Nat) (acc : CoreAccess) (a n : Nat) (bytes : List Byte) (env : Env) (s : State) : Host.Outcome State Fault Refusal :=
  if s.mod.deviceStore hart acc a n then .fault .deviceRegister
  else .next { s with mod := coreMemoryAccess hart acc a n bytes env s.mod }

/-! ## WELT_WR_REQ_RX -/

/-- Whether a remote write is admitted: by a software grant; during RESYNC from the chosen donor, to the memory that a transfer carries
(R268, R294; log entry 179). -/
def Mod.writeGranted (m : Mod) (src off : Nat) : Bool :=
  (regionOf off != .mram && m.winGrants src off 1) || (m.mstate == msResync && src == m.num 0x60000B && regionOf off == .tenantSram)

/-- A write of the memory map that a grant admits takes place, a refused one is discarded, counted, event 0x0406. A granted write where nothing can be
written is discarded (R294). -/
def Mod.serveWrite (m : Mod) (e : W2Entry) : Mod :=
  if e.granted then m.physWrite e.env none false e.pkt.offset e.pkt.data else (m.bump 0x61300C).raise 0x0406 [e.pkt.src, e.pkt.offset, 1]

/-- A granted read of the memory map is answered with its data; a refused one with STATUS 2, counted, event 0x0406; an offset outside the map with STATUS 3
(R294, R298). -/
def Mod.serveRead (m : Mod) (e : W2Entry) : Mod :=
  let p := e.pkt
  if !e.granted then ((m.bump 0x61300B).raise 0x0406 [p.src, p.offset, 0]).respond p 2 []
  else match m.loadOctets p.offset p.len none with
    | some (bs, m) => m.respond p 0 bs
    | none => m.respond p 3 []

/-- A request taken off a W2 receive buffer (R300). -/
def Mod.serve (m : Mod) (e : W2Entry) : Mod :=
  match e.pkt.ty with
  | .rdReq => m.serveRead e
  | .wrReq => m.serveWrite e
  | .fence => m.takeFence e.pkt e.chain
  | .frame | .rdRsp | .rdErr | .xtrig => m

/-- Whether the oldest request of a W2 buffer may be taken: a read only with output space for its whole response (R300). -/
def Mod.mayServe (m : Mod) (e : W2Entry) : Bool := e.pkt.ty != .rdReq || m.outputFor (if e.granted then e.pkt.len else 0)

/-- Requests of link l are taken in order while they may be, each returning its credits; `n` bounds their number (R299, R300). -/
def serveLink (l : Nat) : Nat → Mod → Mod
  | 0, m => m
  | n + 1, m =>
    let x := m.link l
    match x.w2 with
    | [] => m
    | e :: rest =>
      if !m.mayServe e then m
      else serveLink l n (((m.setLink l { x with w2 := rest }).owe l 2 (flitsOf e.pkt)).serve e)

/-- The requests of link l taken as far as they may be. -/
def Mod.serveW2 (m : Mod) (l : Nat) : Mod := serveLink l (m.link l).w2.length m

/-- A request enters the W2 receive buffer of link l, its grant judged, and the buffer is served (R294, R300; log entry 221). -/
def Mod.takeRequest (m : Mod) (l : Nat) (e : W2Entry) : Mod × Bool :=
  let x := m.link l
  ((m.setLink l { x with w2 := x.w2 ++ [e] }).serveW2 l, false)

/-- WELT_RD_REQ_RX (R294, R298, R300). -/
def weltRdReqRx (h : FlitHdr) (p : Packet) (m : Mod) : Mod :=
  m.takePacket h p (fun m => m.takeRequest h.l { pkt := p, granted := m.readGranted p.src p.offset p.len })

/-- WELT_RD_REQ_RX. -/
def execWeltRdReqRx (h : FlitHdr) (p : Packet) (s : State) : Host.Outcome State Fault Refusal := .next { s with mod := s.mod.awake (weltRdReqRx h p) }

/-- WELT_FENCE_RX (R269, R299): every earlier W2 packet of the link is taken before it. -/
def weltFenceRx (h : FlitHdr) (p : Packet) (c : Option Chain) (m : Mod) : Mod :=
  m.takePacket h p (fun m => m.takeRequest h.l { pkt := p, chain := c })

/-- WELT_FENCE_RX. -/
def execWeltFenceRx (h : FlitHdr) (p : Packet) (c : Option Chain) (s : State) : Host.Outcome State Fault Refusal :=
  .next { s with mod := s.mod.awake (weltFenceRx h p c) }

/-- WELT_WR_REQ_RX (R294, R299). -/
def weltWrReqRx (h : FlitHdr) (p : Packet) (env : Env) (m : Mod) : Mod :=
  m.takePacket h p (fun m => m.takeRequest h.l { pkt := p, env := env, granted := m.writeGranted p.src p.offset })

/-- Whether a packet is a granted write to device registers, whose effect the manual does not give (R463). -/
def Mod.deviceWrite (m : Mod) (h : FlitHdr) (p : Packet) : Bool :=
  m.power.held == 0 && m.lkUp h.l && p.ty.onVc p.vc && m.roomFor h.l p && h.seq == (m.link h.l).rxSeq && p.dst == m.moduleId && m.writeGranted p.src p.offset &&
    regionOf p.offset == .device

/-- WELT_WR_REQ_RX. -/
def execWeltWrReqRx (h : FlitHdr) (p : Packet) (env : Env) (s : State) : Host.Outcome State Fault Refusal :=
  if s.mod.deviceWrite h p then .fault .deviceRegister else .next { s with mod := s.mod.awake (weltWrReqRx h p env) }

/-- WELT_IDLE_RX (R281, R283): ACK and credits come in; credits due go back, and requests that waited for output space are taken. An IDLE whose SEQ is not the
one expected shows that flits are missing. -/
def weltIdleRx (h : FlitHdr) (m : Mod) : Mod :=
  let (m, ok) := m.accept h 0
  if !ok then m
  else
    let m := m.serveW2 h.l
    if m.lkUp h.l then m.returnCredits h.l else m

/-- WELT_IDLE_RX. -/
def execWeltIdleRx (h : FlitHdr) (s : State) : Host.Outcome State Fault Refusal := .next { s with mod := s.mod.awake (weltIdleRx h) }

end Sys2Proof.Machine
end

