-- ==== Sys2Proof/Machine/Sdo.lean ====
section
/-!
DEFINITION. The SDO server on a CAN channel, and the NMT commands that it honours (R464-R466, R474).
-/
namespace Sys2Proof.Machine

/-! ## The server -/

/-- Whether the server is served: its channel is in MODE 1 or 3 (R465). -/
def Mod.sdoServed (m : Mod) : Bool := m.power.held == 0 && (m.canMode m.sdoChannel == 1 || m.canMode m.sdoChannel == 3)

/-- A response on the channel and node of the transfer, or of the request (R465). -/
def Mod.sdoReply (m : Mod) (at' : Nat × Nat) (r : SdoReply) : Mod := m.emit (.sdo at'.1 at'.2 r)

/-- The channel and node on which a request is answered. -/
def Mod.sdoAt (m : Mod) : Nat × Nat := (m.sdoChannel, m.sdoNode)

/-- An abort: SDO_LAST_ABORT takes the code, and the abort frame carries it (R464, R473). -/
def Mod.sdoAbort (m : Mod) (at' : Nat × Nat) (obj code : Nat) : Mod :=
  ((m.report .sdo code).set 0x1F1005 code).sdoReply at' (.abort obj code)

/-- The transfer of the server, replaced. -/
def Mod.setSdo (m : Mod) (x : Option SdoXfer) : Mod := { m with dic := { m.dic with sdo := x } }

/-- An initiate that arrives during a transfer discards that transfer, whose code is recorded (R466). -/
def Mod.sdoFresh (m : Mod) : Mod :=
  match m.dic.sdo with
  | some x => ((m.setSdo none).set 0x1F1005 abCutShort).raise 0x0B05 [1, x.obj / 256, abCutShort]
  | none => m

/-- A value received by SDO written, and answered with `ok` or an abort. -/
def Mod.sdoWrite (m : Mod) (env : Env) (obj sel : Nat) (bs : List Byte) (ok : SdoReply) : Mod :=
  let at' := m.sdoAt
  let m := (m.setSdo none).writeObject .sdo env obj sel bs
  let c := m.lastAbort .sdo
  if c = 0 then m.sdoReply at' ok else m.sdoAbort at' obj c

/-- SDO_INITIATE_DOWNLOAD (R464-R466): an expedited request carries the value; a segmented one begins a transfer to the instance that SDO_SELECTOR
names now, with the size if it is indicated. -/
def sdoInitiateDownload (obj : Nat) (expedited : Bool) (size : Option Nat) (bytes : List Byte) (env : Env) (m : Mod) : Mod :=
  if !m.sdoServed then m
  else
    let m := m.sdoFresh
    let sel := m.num 0x1F1004
    if expedited then m.sdoWrite env obj sel bytes (.downloadOk obj)
    else
      let x : SdoXfer := { up := false, obj := obj, sel := sel, size := size, chan := m.sdoChannel, node := m.sdoNode }
      (m.setSdo (some x)).sdoReply m.sdoAt (.downloadOk obj)

/-- SDO_INITIATE_DOWNLOAD. -/
def execSdoInitiateDownload (obj : Nat) (expedited : Bool) (size : Option Nat) (bytes : List Byte) (env : Env) (s : State) :
    Host.Outcome State Fault Refusal :=
  .next { s with mod := s.mod.awake (sdoInitiateDownload obj expedited size bytes env) }

/-- SDO_DOWNLOAD_SEGMENT (R466): the toggle alternates from 0; the value applies with the last segment. Octets beyond the object's longest value, and a
size other than the one indicated, are refused (log entry 172). -/
def sdoDownloadSegment (toggle : Bool) (bytes : List Byte) (last : Bool) (env : Env) (m : Mod) : Mod :=
  if !m.sdoServed then m
  else match m.dic.sdo with
    | none => m.sdoAbort m.sdoAt 0 abSpecifier
    | some x =>
      let stop := fun (code : Nat) => (m.setSdo none).sdoAbort m.sdoAt x.obj code
      if x.up then stop abSpecifier
      else if toggle ≠ x.toggle then stop abToggle
      else
        let all := x.data ++ bytes
        let past : Bool := (objRow? x.obj).isSome && decide (lenBound x.obj < all.length)
        let wrong : Bool := match x.size with
          | some n => n != all.length
          | none => false
        if past then stop abTooLong
        else if !last then (m.setSdo (some { x with data := all, toggle := !x.toggle })).sdoReply m.sdoAt (.segmentOk toggle)
        else if wrong then stop abLength
        else m.sdoWrite env x.obj x.sel all (.segmentOk toggle)

/-- SDO_DOWNLOAD_SEGMENT. -/
def execSdoDownloadSegment (toggle : Bool) (bytes : List Byte) (last : Bool) (env : Env) (s : State) : Host.Outcome State Fault Refusal :=
  .next { s with mod := s.mod.awake (sdoDownloadSegment toggle bytes last env) }

/-- SDO_INITIATE_UPLOAD (R466): a snapshot is taken; a value of 1 to 4 octets goes with the response, a longer one in segments. -/
def sdoInitiateUpload (obj : Nat) (env : Env) (m : Mod) : Mod :=
  if !m.sdoServed then m
  else
    let m := m.sdoFresh
    let sel := m.num 0x1F1004
    let r := m.readOctets .sdo env obj sel
    if r.1 ≠ 0 then m.sdoAbort m.sdoAt obj r.1
    else
      let m := (m.readTakes obj sel).report .sdo 0
      if 1 ≤ r.2.length ∧ r.2.length ≤ 4 then m.sdoReply m.sdoAt (.value obj r.2)
      else
        let x : SdoXfer := { up := true, obj := obj, sel := sel, data := r.2, chan := m.sdoChannel, node := m.sdoNode }
        (m.setSdo (some x)).sdoReply m.sdoAt (.size obj r.2.length)

/-- SDO_INITIATE_UPLOAD. -/
def execSdoInitiateUpload (obj : Nat) (env : Env) (s : State) : Host.Outcome State Fault Refusal :=
  .next { s with mod := s.mod.awake (sdoInitiateUpload obj env) }

/-- SDO_UPLOAD_SEGMENT (R464, R466): the next 7 octets of the snapshot; with the last the transfer ends. -/
def sdoUploadSegment (toggle : Bool) (m : Mod) : Mod :=
  if !m.sdoServed then m
  else match m.dic.sdo with
    | none => m.sdoAbort m.sdoAt 0 abSpecifier
    | some x =>
      if !x.up then (m.setSdo none).sdoAbort m.sdoAt x.obj abSpecifier
      else if toggle ≠ x.toggle then (m.setSdo none).sdoAbort m.sdoAt x.obj abToggle
      else
        let last := decide (x.data.length ≤ 7)
        let n := if last then none else some { x with data := x.data.drop 7, toggle := !x.toggle }
        (m.setSdo n).sdoReply m.sdoAt (.segment toggle (x.data.take 7) last)

/-- SDO_UPLOAD_SEGMENT. -/
def execSdoUploadSegment (toggle : Bool) (s : State) : Host.Outcome State Fault Refusal :=
  .next { s with mod := s.mod.awake (sdoUploadSegment toggle) }

/-- SDO_ABORT_RX (R464): the client's abort ends the transfer, and its code is the last abort code. -/
def sdoAbortRx (code : Nat) (m : Mod) : Mod :=
  if !m.sdoServed ∨ m.dic.sdo.isNone then m else (m.setSdo none).set 0x1F1005 code

/-- SDO_ABORT_RX. -/
def execSdoAbortRx (code : Nat) (s : State) : Host.Outcome State Fault Refusal := .next { s with mod := s.mod.awake (sdoAbortRx code) }

/-- SDO_BLOCK_REQUEST (R464): block transfer is refused with 0x0504_0001; a transfer in progress goes on (log entry 173). -/
def sdoBlockRequest (obj : Nat) (m : Mod) : Mod := if !m.sdoServed then m else m.sdoAbort m.sdoAt obj abSpecifier

/-- SDO_BLOCK_REQUEST. -/
def execSdoBlockRequest (obj : Nat) (s : State) : Host.Outcome State Fault Refusal := .next { s with mod := s.mod.awake (sdoBlockRequest obj) }

/-- SDO_TIMEOUT (R466): a gap above SDO_TIMEOUT aborts the transfer with 0x0504_0000. -/
def sdoTimeout (m : Mod) : Mod :=
  match m.dic.sdo with
  | some x => (m.setSdo none).sdoAbort m.sdoAt x.obj abTimeout
  | none => m

/-- SDO_TIMEOUT. -/
def execSdoTimeout (s : State) : Host.Outcome State Fault Refusal := .next { s with mod := s.mod.awake sdoTimeout }

/-! ## NMT (R464, R474) -/

/-- The server reset by NMT: a transfer is cut short without an abort frame, the stage is emptied and SDO_SELECTOR reads 0. -/
def Mod.nmtReset (m : Mod) (node : Nat) : Mod :=
  if !m.sdoServed ∨ (node ≠ 0 ∧ node ≠ m.sdoNode) then m
  else (m.sdoCut.setStage .sdo []).set 0x1F1004 0

/-- NMT_RESET_NODE (R464): command 0x81 addressed to NODE_ID or 0. -/
def nmtResetNode (node : Nat) (m : Mod) : Mod := m.nmtReset node

/-- NMT_RESET_NODE. -/
def execNmtResetNode (node : Nat) (s : State) : Host.Outcome State Fault Refusal := .next { s with mod := s.mod.awake (nmtResetNode node) }

/-- NMT_RESET_COMMUNICATION (R464): command 0x82 addressed to NODE_ID or 0. -/
def nmtResetCommunication (node : Nat) (m : Mod) : Mod := m.nmtReset node

/-- NMT_RESET_COMMUNICATION. -/
def execNmtResetCommunication (node : Nat) (s : State) : Host.Outcome State Fault Refusal :=
  .next { s with mod := s.mod.awake (nmtResetCommunication node) }

/-- NMT_OTHER_COMMAND (R464): ignored. -/
def nmtOtherCommand (_cmd _node : Nat) (m : Mod) : Mod := m

/-- NMT_OTHER_COMMAND. -/
def execNmtOtherCommand (cmd node : Nat) (s : State) : Host.Outcome State Fault Refusal :=
  .next { s with mod := s.mod.awake (nmtOtherCommand cmd node) }

end Sys2Proof.Machine
end

