-- ==== Sys2Proof/Machine/Dispatch.lean ====
section
/-!
DEFINITION. `exec`: one arm per command, each one call of its meaning.
-/
namespace Sys2Proof.Machine

/-- What each command does to everything but the queue. -/
def exec (i : Instr) (s : State) : Host.Outcome State Fault Refusal :=
  match i with
  | .tickStart => Sys2Proof.Machine.execTickStart s
  | .firstTickStart taiS => Sys2Proof.Machine.execFirstTickStart taiS s
  | .tickStop path => Sys2Proof.Machine.execTickStop path s
  | .tickRunStart path now => Sys2Proof.Machine.execTickRunStart path now s
  | .tickRateWrite path v => Sys2Proof.Machine.execTickRateWrite path v s
  | .inactiveImageWrite path image => Sys2Proof.Machine.execInactiveImageWrite path image s
  | .lastCheck path v => Sys2Proof.Machine.execLastCheck path v s
  | .lastCheckDone => Sys2Proof.Machine.execLastCheckDone s
  | .lastSwapRequest path kS env => Sys2Proof.Machine.execLastSwapRequest path kS env s
  | .lastSwapCancel path v => Sys2Proof.Machine.execLastSwapCancel path v s
  | .lastStore path v => Sys2Proof.Machine.execLastStore path v s
  | .filterPhase => Sys2Proof.Machine.execFilterPhase s
  | .elementPhase => Sys2Proof.Machine.execElementPhase s
  | .logicPassL1 => Sys2Proof.Machine.execLogicPassL1 s
  | .logicPassL2 => Sys2Proof.Machine.execLogicPassL2 s
  | .windowEntry w late => Sys2Proof.Machine.execWindowEntry w late s
  | .windowExit w => Sys2Proof.Machine.execWindowExit w s
  | .phaseTEnd => Sys2Proof.Machine.execPhaseTEnd s
  | .voteStart now => Sys2Proof.Machine.execVoteStart now s
  | .voteDeadline own => Sys2Proof.Machine.execVoteDeadline own s
  | .vEnd => Sys2Proof.Machine.execVEnd s
  | .publishStart now => Sys2Proof.Machine.execPublishStart now s
  | .guardTimeStart p => Sys2Proof.Machine.execGuardTimeStart p s
  | .ingestFrameArrival f port overload => Sys2Proof.Machine.execIngestFrameArrival f port overload s
  | .streamRunning strm => Sys2Proof.Machine.execStreamRunning strm s
  | .streamLost strm => Sys2Proof.Machine.execStreamLost strm s
  | .substHoldExpiry c => Sys2Proof.Machine.execSubstHoldExpiry c s
  | .profileTapsWrite path p n => Sys2Proof.Machine.execProfileTapsWrite path p n s
  | .profileCoeffsWrite path p words => Sys2Proof.Machine.execProfileCoeffsWrite path p words s
  | .profileCheck path p v => Sys2Proof.Machine.execProfileCheck path p v s
  | .profileCheckDone p => Sys2Proof.Machine.execProfileCheckDone p s
  | .profileSwapRequest path p kS env => Sys2Proof.Machine.execProfileSwapRequest path p kS env s
  | .profileSwapCancel path p v => Sys2Proof.Machine.execProfileSwapCancel path p v s
  | .profileSwapNow path p v => Sys2Proof.Machine.execProfileSwapNow path p v s
  | .profileStore path p v => Sys2Proof.Machine.execProfileStore path p v s
  | .groupLocked v => Sys2Proof.Machine.execGroupLocked v s
  | .lockLost v => Sys2Proof.Machine.execLockLost v s
  | .signalLostHold v => Sys2Proof.Machine.execSignalLostHold v s
  | .holdReacquire v => Sys2Proof.Machine.execHoldReacquire v s
  | .fallbackEntered v => Sys2Proof.Machine.execFallbackEntered v s
  | .fallbackReacquire v => Sys2Proof.Machine.execFallbackReacquire v s
  | .freqLimitRun v => Sys2Proof.Machine.execFreqLimitRun v s
  | .rocofValid v => Sys2Proof.Machine.execRocofValid v s
  | .opDelayExpiry e => Sys2Proof.Machine.execOpDelayExpiry e s
  | .dropDelayExpiry e => Sys2Proof.Machine.execDropDelayExpiry e s
  | .timerOperate e => Sys2Proof.Machine.execTimerOperate e s
  | .timerDefiniteResetExpiry e => Sys2Proof.Machine.execTimerDefiniteResetExpiry e s
  | .lgLd g a => Sys2Proof.Machine.execLgLd g a s
  | .lgLdn g a => Sys2Proof.Machine.execLgLdn g a s
  | .lgAnd g a => Sys2Proof.Machine.execLgAnd g a s
  | .lgAndn g a => Sys2Proof.Machine.execLgAndn g a s
  | .lgOr g a => Sys2Proof.Machine.execLgOr g a s
  | .lgOrn g a => Sys2Proof.Machine.execLgOrn g a s
  | .lgXor g a => Sys2Proof.Machine.execLgXor g a s
  | .lgXorn g a => Sys2Proof.Machine.execLgXorn g a s
  | .lgSt g a => Sys2Proof.Machine.execLgSt g a s
  | .lgStn g a => Sys2Proof.Machine.execLgStn g a s
  | .lgSet g a => Sys2Proof.Machine.execLgSet g a s
  | .lgRst g a => Sys2Proof.Machine.execLgRst g a s
  | .lgJmp g n => Sys2Proof.Machine.execLgJmp g n s
  | .lgJmpc g n => Sys2Proof.Machine.execLgJmpc g n s
  | .lgJmpn g n => Sys2Proof.Machine.execLgJmpn g n s
  | .lgAndb g => Sys2Proof.Machine.execLgAndb g s
  | .lgOrb g => Sys2Proof.Machine.execLgOrb g s
  | .lgBcl g => Sys2Proof.Machine.execLgBcl g s
  | .lgNot g => Sys2Proof.Machine.execLgNot g s
  | .lgCall g sect => Sys2Proof.Machine.execLgCall g sect s
  | .lgRet g => Sys2Proof.Machine.execLgRet g s
  | .lgRedge g a => Sys2Proof.Machine.execLgRedge g a s
  | .lgFedge g a => Sys2Proof.Machine.execLgFedge g a s
  | .lgTon g t => Sys2Proof.Machine.execLgTon g t s
  | .lgTof g t => Sys2Proof.Machine.execLgTof g t s
  | .lgTp g t => Sys2Proof.Machine.execLgTp g t s
  | .lgLdtq g t => Sys2Proof.Machine.execLgLdtq g t s
  | .lgCtu g c => Sys2Proof.Machine.execLgCtu g c s
  | .lgCtd g c => Sys2Proof.Machine.execLgCtd g c s
  | .lgCrst g c => Sys2Proof.Machine.execLgCrst g c s
  | .lgLdcq g c => Sys2Proof.Machine.execLgLdcq g c s
  | .lgLdw g r => Sys2Proof.Machine.execLgLdw g r s
  | .lgLdk g c => Sys2Proof.Machine.execLgLdk g c s
  | .lgLdi g n => Sys2Proof.Machine.execLgLdi g n s
  | .lgStw g r => Sys2Proof.Machine.execLgStw g r s
  | .lgMov g src dst => Sys2Proof.Machine.execLgMov g src dst s
  | .lgLdtv g t => Sys2Proof.Machine.execLgLdtv g t s
  | .lgLdcv g c => Sys2Proof.Machine.execLgLdcv g c s
  | .lgCeq g r => Sys2Proof.Machine.execLgCeq g r s
  | .lgCne g r => Sys2Proof.Machine.execLgCne g r s
  | .lgCgt g r => Sys2Proof.Machine.execLgCgt g r s
  | .lgCge g r => Sys2Proof.Machine.execLgCge g r s
  | .lgClt g r => Sys2Proof.Machine.execLgClt g r s
  | .lgCle g r => Sys2Proof.Machine.execLgCle g r s
  | .lgEnd g => Sys2Proof.Machine.execLgEnd g s
  | .passOverrun g => Sys2Proof.Machine.execPassOverrun g s
  | .logicImageWrite path g image => Sys2Proof.Machine.execLogicImageWrite path g image s
  | .logicCheck path g v => Sys2Proof.Machine.execLogicCheck path g v s
  | .logicCheckDone g => Sys2Proof.Machine.execLogicCheckDone g s
  | .engineStartRequest path g kS env => Sys2Proof.Machine.execEngineStartRequest path g kS env s
  | .engineStopRequest path g kT env => Sys2Proof.Machine.execEngineStopRequest path g kT env s
  | .logicStore path g v => Sys2Proof.Machine.execLogicStore path g v s
  | .engineAutostart g => Sys2Proof.Machine.execEngineAutostart g s
  | .gooseStationRx f origin => Sys2Proof.Machine.execGooseStationRx f origin s
  | .stationDropout r => Sys2Proof.Machine.execStationDropout r s
  | .coreMemoryAccess hart acc a n bytes env => Sys2Proof.Machine.execCoreMemoryAccess hart acc a n bytes env s
  | .frozenGuestReturn hart word tval => Sys2Proof.Machine.execFrozenGuestReturn hart word tval s
  | .mramSyncRead hart => Sys2Proof.Machine.execMramSyncRead hart s
  | .pubCommit t u data => Sys2Proof.Machine.execPubCommit t u data s
  | .pubCopyDone t u => Sys2Proof.Machine.execPubCopyDone t u s
  | .pubRetransmit n now => Sys2Proof.Machine.execPubRetransmit n now s
  | .sc0Commit b data => Sys2Proof.Machine.execSc0Commit b data s
  | .sc0CopyDone b => Sys2Proof.Machine.execSc0CopyDone b s
  | .txTailWrite t tail => Sys2Proof.Machine.execTxTailWrite t tail s
  | .txDescriptorDone t => Sys2Proof.Machine.execTxDescriptorDone t s
  | .rxFrameDelivery t frame ts => Sys2Proof.Machine.execRxFrameDelivery t frame ts s
  | .tenantDpSubmit t => Sys2Proof.Machine.execTenantDpSubmit t s
  | .mbOutPost t slot gen => Sys2Proof.Machine.execMbOutPost t slot gen s
  | .mbInRelease t slot gen => Sys2Proof.Machine.execMbInRelease t slot gen s
  | .mbPost t slot gen => Sys2Proof.Machine.execMbPost t slot gen s
  | .mbRelease t slot gen => Sys2Proof.Machine.execMbRelease t slot gen s
  | .vfIrqLatchClear t mask => Sys2Proof.Machine.execVfIrqLatchClear t mask s
  | .violClear path t v => Sys2Proof.Machine.execViolClear path t v s
  | .createTickWrite path t k env => Sys2Proof.Machine.execCreateTickWrite path t k env s
  | .destroyTickWrite path t k env => Sys2Proof.Machine.execDestroyTickWrite path t k env s
  | .freezeTickWrite path t k env => Sys2Proof.Machine.execFreezeTickWrite path t k env s
  | .unfreezeTickWrite path t k env => Sys2Proof.Machine.execUnfreezeTickWrite path t k env s
  | .resourceCommitTickWrite path t k env => Sys2Proof.Machine.execResourceCommitTickWrite path t k env s
  | .restoreTickWrite path k env => Sys2Proof.Machine.execRestoreTickWrite path k env s
  | .sramClearDone => Sys2Proof.Machine.execSramClearDone s
  | .imageSave path v => Sys2Proof.Machine.execImageSave path v s
  | .imageSegmentRead path n => Sys2Proof.Machine.execImageSegmentRead path n s
  | .imageSegmentWrite path offset bytes last => Sys2Proof.Machine.execImageSegmentWrite path offset bytes last s
  | .agreeRx x => Sys2Proof.Machine.execAgreeRx x s
  | .agreeDeadline => Sys2Proof.Machine.execAgreeDeadline s
  | .fetchDeadline => Sys2Proof.Machine.execFetchDeadline s
  | .vectorRx x => Sys2Proof.Machine.execVectorRx x s
  | .demotion r => Sys2Proof.Machine.execDemotion r s
  | .holdLimitReached => Sys2Proof.Machine.execHoldLimitReached s
  | .revertDelayElapsed => Sys2Proof.Machine.execRevertDelayElapsed s
  | .revertHoldoffEnd => Sys2Proof.Machine.execRevertHoldoffEnd s
  | .laceClaimDecoded r => Sys2Proof.Machine.execLaceClaimDecoded r s
  | .laceAliveDecoded r => Sys2Proof.Machine.execLaceAliveDecoded r s
  | .lacePatternLost r => Sys2Proof.Machine.execLacePatternLost r s
  | .laceDeadTimeout r => Sys2Proof.Machine.execLaceDeadTimeout r s
  | .laceLoopbackFault => Sys2Proof.Machine.execLaceLoopbackFault s
  | .laceViewFault r => Sys2Proof.Machine.execLaceViewFault r s
  | .laceFaultClear => Sys2Proof.Machine.execLaceFaultClear s
  | .laceGeneratorTimeout => Sys2Proof.Machine.execLaceGeneratorTimeout s
  | .foreignClaimAlarm r => Sys2Proof.Machine.execForeignClaimAlarm r s
  | .formWaitExpiry r kForm k q => Sys2Proof.Machine.execFormWaitExpiry r kForm k q s
  | .formationTick => Sys2Proof.Machine.execFormationTick s
  | .resyncTimeout cause => Sys2Proof.Machine.execResyncTimeout cause s
  | .shadowComplete => Sys2Proof.Machine.execShadowComplete s
  | .rejoinWrite path v => Sys2Proof.Machine.execRejoinWrite path v s
  | .weltLanesWrite path l v => Sys2Proof.Machine.execWeltLanesWrite path l v s
  | .laneTrainLock l => Sys2Proof.Machine.execLaneTrainLock l s
  | .laneTrainTimeout l => Sys2Proof.Machine.execLaneTrainTimeout l s
  | .weltHelloRx h x => Sys2Proof.Machine.execWeltHelloRx h x s
  | .weltHelloSend l => Sys2Proof.Machine.execWeltHelloSend l s
  | .weltHelloTimeout l => Sys2Proof.Machine.execWeltHelloTimeout l s
  | .weltLockLoss l => Sys2Proof.Machine.execWeltLockLoss l s
  | .weltDownRetrain l => Sys2Proof.Machine.execWeltDownRetrain l s
  | .weltIdleRx h => Sys2Proof.Machine.execWeltIdleRx h s
  | .weltFlitDiscard l cause => Sys2Proof.Machine.execWeltFlitDiscard l cause s
  | .weltNakRx h => Sys2Proof.Machine.execWeltNakRx h s
  | .weltNakRepeat l => Sys2Proof.Machine.execWeltNakRepeat l s
  | .weltReplayTimeout l => Sys2Proof.Machine.execWeltReplayTimeout l s
  | .weltFrameRx h p sv goose ts => Sys2Proof.Machine.execWeltFrameRx h p sv goose ts s
  | .packetAgeExpiry l n => Sys2Proof.Machine.execPacketAgeExpiry l n s
  | .weltRdReqRx h p => Sys2Proof.Machine.execWeltRdReqRx h p s
  | .weltWrReqRx h p env => Sys2Proof.Machine.execWeltWrReqRx h p env s
  | .weltFenceRx h p c => Sys2Proof.Machine.execWeltFenceRx h p c s
  | .weltRdRspRx h p => Sys2Proof.Machine.execWeltRdRspRx h p s
  | .weltRdErrRx h p => Sys2Proof.Machine.execWeltRdErrRx h p s
  | .weltXtrigRx h p now => Sys2Proof.Machine.execWeltXtrigRx h p now s
  | .remoteRead w a n => Sys2Proof.Machine.execRemoteRead w a n s
  | .remoteReadReissue w a n => Sys2Proof.Machine.execRemoteReadReissue w a n s
  | .remoteWrite w a bytes fence => Sys2Proof.Machine.execRemoteWrite w a bytes fence s
  | .respTimeoutExpiry t => Sys2Proof.Machine.execRespTimeoutExpiry t s
  | .holdTimeExpiry t => Sys2Proof.Machine.execHoldTimeExpiry t s
  | .quarantineExpiry t => Sys2Proof.Machine.execQuarantineExpiry t s
  | .rateProposal l w now => Sys2Proof.Machine.execRateProposal l w now s
  | .rateReqRx h code nonce util => Sys2Proof.Machine.execRateReqRx h code nonce util s
  | .rateAckRx h nonce => Sys2Proof.Machine.execRateAckRx h nonce s
  | .rateNakRx h => Sys2Proof.Machine.execRateNakRx h s
  | .rateMarkRx h => Sys2Proof.Machine.execRateMarkRx h s
  | .rateProposalTimeout l => Sys2Proof.Machine.execRateProposalTimeout l s
  | .quiesceDrained l => Sys2Proof.Machine.execQuiesceDrained l s
  | .retrainLock l => Sys2Proof.Machine.execRetrainLock l s
  | .retrainTimeout l => Sys2Proof.Machine.execRetrainTimeout l s
  | .retrainFallbackTimeout l => Sys2Proof.Machine.execRetrainFallbackTimeout l s
  | .switchClassify f => Sys2Proof.Machine.execSwitchClassify f s
  | .egressSchedule p now ecc => Sys2Proof.Machine.execEgressSchedule p now ecc s
  | .queuePromotion p c now => Sys2Proof.Machine.execQueuePromotion p c now s
  | .macSweep => Sys2Proof.Machine.execMacSweep s
  | .macFlushPort path p => Sys2Proof.Machine.execMacFlushPort path p s
  | .macInsert path => Sys2Proof.Machine.execMacInsert path s
  | .macDelete path => Sys2Proof.Machine.execMacDelete path s
  | .macLookup path => Sys2Proof.Machine.execMacLookup path s
  | .macDumpStart path => Sys2Proof.Machine.execMacDumpStart path s
  | .macDumpNext path => Sys2Proof.Machine.execMacDumpNext path s
  | .routeInsert path => Sys2Proof.Machine.execRouteInsert path s
  | .routeDelete path => Sys2Proof.Machine.execRouteDelete path s
  | .routeLookupOp path => Sys2Proof.Machine.execRouteLookupOp path s
  | .laneModeWrite path l v => Sys2Proof.Machine.execLaneModeWrite path l v s
  | .lanePolarityWrite path l v => Sys2Proof.Machine.execLanePolarityWrite path l v s
  | .portEnableWrite path p v => Sys2Proof.Machine.execPortEnableWrite path p v s
  | .portDormantWrite path p v => Sys2Proof.Machine.execPortDormantWrite path p v s
  | .portLinkUp p bad => Sys2Proof.Machine.execPortLinkUp p bad s
  | .portLinkLoss p cause => Sys2Proof.Machine.execPortLinkLoss p cause s
  | .laneCdrLoss l => Sys2Proof.Machine.execLaneCdrLoss l s
  | .frameReceived f fcs => Sys2Proof.Machine.execFrameReceived f fcs s
  | .pauseFrameRx p quanta => Sys2Proof.Machine.execPauseFrameRx p quanta s
  | .pauseExpiry p => Sys2Proof.Machine.execPauseExpiry p s
  | .pauseXoffRepeat p => Sys2Proof.Machine.execPauseXoffRepeat p s
  | .dupEntryForget n => Sys2Proof.Machine.execDupEntryForget n s
  | .laneGroupGate j => Sys2Proof.Machine.execLaneGroupGate j s
  | .eyeMonitor l height width => Sys2Proof.Machine.execEyeMonitor l height width s
  | .ptpSyncRx x => Sys2Proof.Machine.execPtpSyncRx x s
  | .ptpFollowUpRx x => Sys2Proof.Machine.execPtpFollowUpRx x s
  | .ptpAnnounceRx x => Sys2Proof.Machine.execPtpAnnounceRx x s
  | .ptpPdelayReqRx x => Sys2Proof.Machine.execPtpPdelayReqRx x s
  | .ptpPdelayRespRx p t1 t2 t3 t4 corr => Sys2Proof.Machine.execPtpPdelayRespRx p t1 t2 t3 t4 corr s
  | .ptpManagementRx f => Sys2Proof.Machine.execPtpManagementRx f s
  | .ptpMessageSend p kind now => Sys2Proof.Machine.execPtpMessageSend p kind now s
  | .ptpAnnounceTimeout p => Sys2Proof.Machine.execPtpAnnounceTimeout p s
  | .ptpSyncMissed n => Sys2Proof.Machine.execPtpSyncMissed n s
  | .irigFrameRx f => Sys2Proof.Machine.execIrigFrameRx f s
  | .irigFrameLoss => Sys2Proof.Machine.execIrigFrameLoss s
  | .ppsInEdge n now => Sys2Proof.Machine.execPpsInEdge n now s
  | .ppsLossTimeout n => Sys2Proof.Machine.execPpsLossTimeout n s
  | .sourceQualified j => Sys2Proof.Machine.execSourceQualified j s
  | .stepRetry => Sys2Proof.Machine.execStepRetry s
  | .stepCaptureCheck => Sys2Proof.Machine.execStepCaptureCheck s
  | .ref10mQualified => Sys2Proof.Machine.execRef10mQualified s
  | .ref10mLoss => Sys2Proof.Machine.execRef10mLoss s
  | .offsetExcursionTimeout => Sys2Proof.Machine.execOffsetExcursionTimeout s
  | .holdoverLimitExpiry => Sys2Proof.Machine.execHoldoverLimitExpiry s
  | .todSetWrite path v now => Sys2Proof.Machine.execTodSetWrite path v now s
  | .leaderChange r => Sys2Proof.Machine.execLeaderChange r s
  | .timeTransferSend now => Sys2Proof.Machine.execTimeTransferSend now s
  | .timeTransferRx l origin delay now => Sys2Proof.Machine.execTimeTransferRx l origin delay now s
  | .timeTransferLoss => Sys2Proof.Machine.execTimeTransferLoss s
  | .followerDeviation => Sys2Proof.Machine.execFollowerDeviation s
  | .ppsOutEdge o now => Sys2Proof.Machine.execPpsOutEdge o now s
  | .leapSecond => Sys2Proof.Machine.execLeapSecond s
  | .clickerRowWrite now => Sys2Proof.Machine.execClickerRowWrite now s
  | .trigInputEdge j now level => Sys2Proof.Machine.execTrigInputEdge j now level s
  | .clickerForce path x v now => Sys2Proof.Machine.execClickerForce path x v now s
  | .clickerStop path x v => Sys2Proof.Machine.execClickerStop path x v s
  | .clickerDrain path x v => Sys2Proof.Machine.execClickerDrain path x v s
  | .clickerRelease path x v => Sys2Proof.Machine.execClickerRelease path x v s
  | .clickerResend path x b => Sys2Proof.Machine.execClickerResend path x b s
  | .drainFrameSend now => Sys2Proof.Machine.execDrainFrameSend now s
  | .trigPulseEnd j now => Sys2Proof.Machine.execTrigPulseEnd j now s
  | .canFrameRx n f sof now => Sys2Proof.Machine.execCanFrameRx n f sof now s
  | .canTxSuccess n now => Sys2Proof.Machine.execCanTxSuccess n now s
  | .canArbLoss n => Sys2Proof.Machine.execCanArbLoss n s
  | .canTxError n counts now => Sys2Proof.Machine.execCanTxError n counts now s
  | .busoffAutoRecovery n now => Sys2Proof.Machine.execBusoffAutoRecovery n now s
  | .canRecover path n v now => Sys2Proof.Machine.execCanRecover path n v now s
  | .canModeWrite path n v => Sys2Proof.Machine.execCanModeWrite path n v s
  | .canTxRequest path n now idle => Sys2Proof.Machine.execCanTxRequest path n now idle s
  | .canTxAbort path n => Sys2Proof.Machine.execCanTxAbort path n s
  | .canFifoRead path n => Sys2Proof.Machine.execCanFifoRead path n s
  | .ttCycleStart n now => Sys2Proof.Machine.execTtCycleStart n now s
  | .ttWindowStart n j now => Sys2Proof.Machine.execTtWindowStart n j now s
  | .tunnelWaitExpiry now => Sys2Proof.Machine.execTunnelWaitExpiry now s
  | .tunnelFrameRx bytes now => Sys2Proof.Machine.execTunnelFrameRx bytes now s
  | .dictionaryWrite path obj sel bytes env => Sys2Proof.Machine.execDictionaryWrite path obj sel bytes env s
  | .stageCommit path v env => Sys2Proof.Machine.execStageCommit path v env s
  | .stageDiscard path v => Sys2Proof.Machine.execStageDiscard path v s
  | .commitCancel path v => Sys2Proof.Machine.execCommitCancel path v s
  | .commitProposeRx rank sendTick c fragOffset fragLen env => Sys2Proof.Machine.execCommitProposeRx rank sendTick c fragOffset fragLen env s
  | .commitAcceptRx rank id => Sys2Proof.Machine.execCommitAcceptRx rank id s
  | .commitRefuseRx rank id code => Sys2Proof.Machine.execCommitRefuseRx rank id code s
  | .commitConfirmRx rank id => Sys2Proof.Machine.execCommitConfirmRx rank id s
  | .commitCancelRx rank id code => Sys2Proof.Machine.execCommitCancelRx rank id code s
  | .commitAcceptDeadline => Sys2Proof.Machine.execCommitAcceptDeadline s
  | .commitArm => Sys2Proof.Machine.execCommitArm s
  | .commitApply env => Sys2Proof.Machine.execCommitApply env s
  | .dpWrite env => Sys2Proof.Machine.execDpWrite env s
  | .dpRead env => Sys2Proof.Machine.execDpRead env s
  | .dpCommit env => Sys2Proof.Machine.execDpCommit env s
  | .sdoInitiateDownload obj expedited size bytes env => Sys2Proof.Machine.execSdoInitiateDownload obj expedited size bytes env s
  | .sdoDownloadSegment toggle bytes last env => Sys2Proof.Machine.execSdoDownloadSegment toggle bytes last env s
  | .sdoInitiateUpload obj env => Sys2Proof.Machine.execSdoInitiateUpload obj env s
  | .sdoUploadSegment toggle => Sys2Proof.Machine.execSdoUploadSegment toggle s
  | .sdoAbortRx code => Sys2Proof.Machine.execSdoAbortRx code s
  | .sdoBlockRequest obj => Sys2Proof.Machine.execSdoBlockRequest obj s
  | .sdoTimeout => Sys2Proof.Machine.execSdoTimeout s
  | .nmtResetNode node => Sys2Proof.Machine.execNmtResetNode node s
  | .nmtResetCommunication node => Sys2Proof.Machine.execNmtResetCommunication node s
  | .nmtOtherCommand cmd node => Sys2Proof.Machine.execNmtOtherCommand cmd node s
  | .dtpHello addr udpPort datagram => Sys2Proof.Machine.execDtpHello addr udpPort datagram s
  | .dtpRead addr udpPort datagram env => Sys2Proof.Machine.execDtpRead addr udpPort datagram env s
  | .dtpWrite addr udpPort datagram env => Sys2Proof.Machine.execDtpWrite addr udpPort datagram env s
  | .dtpClose addr udpPort datagram => Sys2Proof.Machine.execDtpClose addr udpPort datagram s
  | .dtpIdleTimeout session => Sys2Proof.Machine.execDtpIdleTimeout session s
  | .dtpSnapshotExpiry session => Sys2Proof.Machine.execDtpSnapshotExpiry session s
  | .dtpKeySlotWrite path v => Sys2Proof.Machine.execDtpKeySlotWrite path v s
  | .lifecycleChange path mMode jtag target t => Sys2Proof.Machine.execLifecycleChange path mMode jtag target t s
  | .okHashWrite path mMode b => Sys2Proof.Machine.execOkHashWrite path mMode b s
  | .minSvnSet path mMode v => Sys2Proof.Machine.execMinSvnSet path mMode v s
  | .keyInstall path mMode => Sys2Proof.Machine.execKeyInstall path mMode s
  | .keyDerive path mMode => Sys2Proof.Machine.execKeyDerive path mMode s
  | .keyDestroy path mMode => Sys2Proof.Machine.execKeyDestroy path mMode s
  | .keyRemask n => Sys2Proof.Machine.execKeyRemask n s
  | .entropyHealthFail test now => Sys2Proof.Machine.execEntropyHealthFail test now s
  | .drbgReseed => Sys2Proof.Machine.execDrbgReseed s
  | .debuggerAttach => Sys2Proof.Machine.execDebuggerAttach s
  | .eventRaised same t => Sys2Proof.Machine.execEventRaised same t s
  | .recorderScanDone t => Sys2Proof.Machine.execRecorderScanDone t s
  | .opTimeCheckpoint t => Sys2Proof.Machine.execOpTimeCheckpoint t s
  | .anchorWrite path v t now => Sys2Proof.Machine.execAnchorWrite path v t now s
  | .codeTokenRefill code t => Sys2Proof.Machine.execCodeTokenRefill code t s
  | .globalTokenRefill t => Sys2Proof.Machine.execGlobalTokenRefill t s
  | .swWrite path v t => Sys2Proof.Machine.execSwWrite path v t s
  | .resetAssert low => Sys2Proof.Machine.execResetAssert low s
  | .resetRelease pins ref => Sys2Proof.Machine.execResetRelease pins ref s
  | .internalResetEnd pos ref => Sys2Proof.Machine.execInternalResetEnd pos ref s
  | .secureBoot a b => Sys2Proof.Machine.execSecureBoot a b s
  | .configDone path v => Sys2Proof.Machine.execConfigDone path v s
  | .lanesUpComplete elapsed => Sys2Proof.Machine.execLanesUpComplete elapsed s
  | .avsSample slack fails => Sys2Proof.Machine.execAvsSample slack fails s
  | .avsbusRetry fails => Sys2Proof.Machine.execAvsbusRetry fails s
  | .sysclkLoss => Sys2Proof.Machine.execSysclkLoss s
  | .refclkLoss j present => Sys2Proof.Machine.execRefclkLoss j present s
  | .thermalSample temps => Sys2Proof.Machine.execThermalSample temps s
  | .watchdogExpiry now => Sys2Proof.Machine.execWatchdogExpiry now s
  | .wdtKick path mMode v now => Sys2Proof.Machine.execWdtKick path mMode v now s
  | .swReset aperture path mMode v => Sys2Proof.Machine.execSwReset aperture path mMode v s
  | .jtagReset => Sys2Proof.Machine.execJtagReset s
  | .canRxError n by8 now => Sys2Proof.Machine.execCanRxError n by8 now s
  | .donorCopyComplete r => Sys2Proof.Machine.execDonorCopyComplete r s
  | .illegalInstruction hart word => Sys2Proof.Machine.execIllegalInstruction hart word s

end Sys2Proof.Machine
end

