-- ==== Sys2Proof/Safety.lean ====
section
/-!
DEFINITION. What a sound state is and when a command reaches its effect, in the terms the statements use.
-/
namespace Sys2Proof.Machine

/-! ## Sound states -/

/-- A sound module: the store of objects and the memory are in canonical form, so that equal contents are equal data, and the module either runs or
is held by one of the causes of reset (R536). -/
structure Mod.Good (m : Mod) : Prop where
  dict : dictWf m.dict = true
  mem : Memory.wf m.mem = true
  held : m.power.held ≤ 7

/-- A sound state: a sound module, whatever waits in the queue. -/
def State.Good (s : State) : Prop := s.mod.Good

/-! ## When a command reaches its effect -/

/-- The module is not held in reset. -/
abbrev Mod.Runs (m : Mod) : Prop := m.power.held = 0

/-- An access by name on a path is served: no reset is held, the path is not a tenant's, whose only path is its port (R218). -/
abbrev Mod.Reaches (m : Mod) (p : Path) : Prop := m.power.held = 0 ∧ isTenantPath p = false

/-- A write on a path is served: besides, step 6 of start-up has completed (R540). -/
abbrev Mod.Serves (m : Mod) (p : Path) : Prop := m.power.held = 0 ∧ isTenantPath p = false ∧ m.configured = true

/-- The path of a command that is a write, refused before step 6 of start-up completes (R540). -/
def gatedPath : Instr → Option Path
  | .tickStop p | .tickRunStart p _ | .tickRateWrite p _ | .inactiveImageWrite p _ | .lastCheck p _ | .lastSwapRequest p _ _
  | .lastSwapCancel p _ | .lastStore p _ | .profileTapsWrite p _ _ | .profileCoeffsWrite p _ _ | .profileCheck p _ _
  | .profileSwapRequest p _ _ _ | .profileSwapCancel p _ _ | .profileSwapNow p _ _ | .profileStore p _ _ | .logicImageWrite p _ _
  | .logicCheck p _ _ | .engineStartRequest p _ _ _ | .engineStopRequest p _ _ _ | .logicStore p _ _ | .violClear p _ _
  | .createTickWrite p _ _ _ | .destroyTickWrite p _ _ _ | .freezeTickWrite p _ _ _ | .unfreezeTickWrite p _ _ _
  | .resourceCommitTickWrite p _ _ _ | .restoreTickWrite p _ _ | .imageSave p _ | .imageSegmentWrite p _ _ _ | .rejoinWrite p _
  | .weltLanesWrite p _ _ | .macFlushPort p _ | .macInsert p | .macDelete p | .macLookup p | .macDumpStart p | .routeInsert p | .routeDelete p
  | .routeLookupOp p | .laneModeWrite p _ _ | .lanePolarityWrite p _ _ | .portEnableWrite p _ _ | .portDormantWrite p _ _ | .todSetWrite p _ _
  | .clickerForce p _ _ _ | .clickerStop p _ _ | .clickerDrain p _ _ | .clickerRelease p _ _ | .clickerResend p _ _ | .canRecover p _ _ _
  | .canModeWrite p _ _ | .canTxRequest p _ _ _ | .canTxAbort p _ | .stageCommit p _ _ | .stageDiscard p _ | .commitCancel p _
  | .dtpKeySlotWrite p _ | .anchorWrite p _ _ _ | .swWrite p _ _ => some p
  | _ => none

/-- The path of a command that is an access served at any time: a read, or a write to the indices that R540 excepts. -/
def earlyPath : Instr → Option Path
  | .imageSegmentRead p _ | .macDumpNext p | .canFifoRead p _ | .lifecycleChange p _ _ _ _ | .okHashWrite p _ _ | .minSvnSet p _ _
  | .keyInstall p _ | .keyDerive p _ | .keyDestroy p _ | .configDone p _ | .wdtKick p _ _ _ | .swReset _ p _ _ => some p
  | _ => none

/-- The commands that act on a module held in reset: what begins, ends or prolongs a reset, and the rails and sensors that run through it (R532,
R536, R538, R541, R542). -/
def actsInReset : Instr → Bool
  | .resetAssert _ | .resetRelease _ _ | .internalResetEnd _ _ | .sysclkLoss | .thermalSample _ => true
  | .secureBoot _ _ | .lanesUpComplete _ | .avsSample _ _ | .avsbusRetry _ => true
  | _ => false

/-- The commands that store to memory at an address of their own, and so can meet a device register (R463). -/
def storesByAddress : Instr → Bool
  | .coreMemoryAccess _ _ _ _ _ _ | .weltWrReqRx _ _ _ => true
  | _ => false

/-! ## Welt -/

/-- A packet is received with the flit header `h`: the link is up, the type is on its VC, its flits find room, and they come in order (R279, R281, R282). -/
abbrev Mod.Takes (m : Mod) (h : FlitHdr) (p : Packet) : Prop :=
  m.power.held = 0 ∧ m.lkUp h.l = true ∧ p.ty.onVc p.vc = true ∧ m.roomFor h.l p = true ∧ h.seq = (m.link h.l).rxSeq

/-- A link-local flit with the header `h` is received: the link is up, and the flit comes in order (R281). -/
abbrev Mod.Hears (m : Mod) (h : FlitHdr) : Prop := m.power.held = 0 ∧ m.lkUp h.l = true ∧ h.seq = (m.link h.l).rxSeq

/-- The module once `n` flits that begin with the SEQ expected are in: the SEQ expected next, no NAK due, the ACK and the credits of the header taken
(R281, R283). -/
def Mod.advanced (m : Mod) (h : FlitHdr) (n : Nat) : Mod :=
  (m.setLink h.l { m.link h.l with rxSeq := ((m.link h.l).rxSeq + n) % 4096, nak := false }).ackAndCredit h

/-- The module once a packet stands in its receive buffer (R282). -/
def Mod.received (m : Mod) (h : FlitHdr) (p : Packet) : Mod :=
  let n := m.advanced h (flitsOf p)
  n.setLink h.l { n.link h.l with inbuf := atVc (n.link h.l).inbuf p.vc (· + flitsOf p) }

/-- The ACK of what has come, and the credits due, go back on a link that is up (R281, R283). -/
def Mod.answered (m : Mod) (l : Nat) : Mod := if m.lkUp l then (m.sayFiller l ftIdle).returnCredits l else m

/-- A packet leaves its receive buffer, its credits become due, and the link answers (R283). -/
def Mod.freed (m : Mod) (h : FlitHdr) (p : Packet) : Mod := (m.owe h.l p.vc (flitsOf p)).answered h.l

/-! ## The Clicker -/

/-- Whether slot x takes the rows of a tick: it is ARMED or TRIGGERED (R412). -/
def Mod.recording (m : Mod) (x : Nat) : Bool := m.ckState x == ckArmed || m.ckState x == ckTriggered

/-- Slot x in its turn, with the octets written for the slots before it in the tick: its rows of the captured tick `c`, one or three, and its header, where
WRITE_BUDGET has room for them; overflow with cause 1 where it has none (R402, R405, R413, R414). -/
def Mod.ckTurn (m : Mod) (now x : Nat) (c : CapTick) (spent : Nat) : Mod × Nat :=
  if m.recording x = false then (m, spent)
  else if m.num 0x4C0002 < spent + (m.ck x).rowLen * m.ckPer x then ((m.bump 0x4C0003).ckOverflow x 1, spent)
  else
    let n := m.each (List.range (m.ckPer x)) (fun m i => m.writeRow now x c i)
    (if n.recording x then n.ckSync x else n, spent + (m.ck x).rowLen * m.ckPer x)

/-! ## Proposals -/

/-- A path's stage with the write of target tick `t` to instance `i` of object `o` as its last entry, in place of an earlier one (R453). -/
def Mod.stageWith (m : Mod) (p : Path) (o i t : Nat) : List StageEntry :=
  (m.stage p).filter (fun e => !(o == e.obj && i == e.sel)) ++ [{ obj := o, sel := i, val := .num t }]

/-- A write of target tick `t` to instance `i` of object `o` joins the stage: the path is served, the instance exists, the tick is one, and the
stage keeps within R452. -/
def Mod.Joins (m : Mod) (p : Path) (o i t : Nat) : Prop :=
  m.Serves p ∧ (instancesAll o).contains i = true ∧ t < 2 ^ 48 ∧ (m.stageWith p o i t).length ≤ 8192 ∧ stageBytes (m.stageWith p o i t) ≤ 262144

/-- The module with the next COMMIT_ID taken for a proposal of a path: the path's stage is empty and the identifier is its last (R453, R457). -/
def Mod.identified (m : Mod) (p : Path) : Mod :=
  let n := m.nextCommitId.2.setStage p []
  { n with dic := { n.dic with lastCommit := Table.set n.dic.lastCommit 0 (pathNo p) m.nextCommitId.1 } }

/-- The commit that a path proposes next with entries `es` for tick `t` (R455, R457). -/
def Mod.proposal (m : Mod) (p : Path) (t : Nat) (es : List StageEntry) : Commit :=
  { id := m.nextCommitId.1, kind := 1, originRank := (m.identified p).rank, path := pathCode p, pathNo := pathNo p, target := t, entries := es }

/-! ## Logic engines -/

/-- Engine g is about to execute the instruction of opcode `op` and operand field `arg`: the module runs, a pass is in progress with budget left, and
that word stands at the engine's index (R154, R162). -/
abbrev Mod.At (m : Mod) (g op arg : Nat) : Prop := m.power.held = 0 ∧ m.atInstr g op arg = true

/-- The pass of engine g as every instruction leaves it but for its own effect: the index one further, the instruction counted. -/
def Mod.nextRun (m : Mod) (g : Nat) : PassSt :=
  { (m.engine g).run with pc := (m.engine g).run.pc + 1, used := (m.engine g).run.used + 1 }

end Sys2Proof.Machine
end

