-- ==== Sys2Proof/Certificates/Slice0/Obligations.lean ====
section
/-!
DEFINITION. What the model is claimed to do, one statement per definition, for the provers.
-/
open Sys2Proof Sys2Proof.Machine

/-! ## The queue -/

/-- A step takes the command at the front of the queue and is that command's effect on the state with the queue's rest. -/
def Obligations.StepRunsFront : Prop :=
  ∀ (c : Instr) (rest : List Instr) (m : Mod), step { mod := m, pending := c :: rest } = exec c { mod := m, pending := rest }

/-- The queue is kept: with no command waiting the block idles, every state with an empty queue being its own next state (the model's choice, log
entry 183), and a command leaves what waits behind it as it is, first in, first out. -/
def Obligations.QueueKept : Prop :=
  (∀ (m : Mod), step { mod := m, pending := [] } = .next { mod := m, pending := [] }) ∧
  (∀ (c : Instr) (s t : State), exec c s = .next t → t.pending = s.pending)

/-! ## Every state -/

/-- The state right after reset is sound: its store of objects and its memory are in canonical form, and no cause of reset beyond the seven of R536
holds it. -/
def Obligations.ResetGood : Prop := State.reset.Good

/-- Every step keeps a state sound: the store of objects and the memory stay in canonical form, so that equal contents are equal data, and the module
runs or is held by one of the seven causes of R536. -/
def Obligations.StepKeepsGood : Prop := ∀ (s t : State), s.Good → step s = .next t → t.Good

/-- The block stops nowhere but at a store to a device register: every step of every state answers a next state, or faults with `deviceRegister` on a
CORE_MEMORY_ACCESS or WELT_WR_REQ_RX. No command is refused. -/
def Obligations.StepsOn : Prop :=
  ∀ (s : State), (∃ t, step s = .next t) ∨
    (step s = .fault .deviceRegister ∧ ∃ (c : Instr) (rest : List Instr), s.pending = c :: rest ∧ storesByAddress c = true)

/-! ## Held in reset, start-up and tenants -/

/-- While a reset is held nothing else acts: every command but the nine that begin, end or measure through a reset leaves the module as it is (the
model's reading of R532 and R536, log entry 133). -/
def Obligations.HeldInReset : Prop :=
  ∀ (c : Instr) (s : State), s.mod.power.held ≠ 0 → actsInReset c = false → exec c s = .next s

/-- Until step 6 of start-up completes, every command that is a write by name on the supervisor's path, SDO or DTP is refused with 0x0800_0022 and
changes nothing but the path's last code; the indices that R540 excepts have commands of their own, which `gatedPath` does not list. -/
def Obligations.WritesBeforeStepSix : Prop :=
  ∀ (c : Instr) (p : Path) (s : State), gatedPath c = some p → s.mod.Reaches p → s.mod.configured = false →
    exec c s = .next { s with mod := s.mod.report p 0x08000022 }

/-- A tenant has no access by name: every command that is one, on the path of a tenant, is refused with 0x0601_0000 and changes nothing but that
path's last code. -/
def Obligations.TenantsHaveNoAccessByName : Prop :=
  ∀ (c : Instr) (t : Nat) (s : State), gatedPath c = some (.tenant t) ∨ earlyPath c = some (.tenant t) → s.mod.Runs →
    exec c s = .next { s with mod := s.mod.report (.tenant t) 0x06010000 }

/-! ## The tick and the Last -/

/-- The tick starts and stops as R12, R13 and R42 say. TICK_START advances k by one and q by one round the rate and begins the tick where phase P
has begun, and does nothing in any other phase or while the tick is stopped; with TICK_RUN written 0 it stops the phases instead. FIRST_TICK_START in step 8 starts the tick at the boundary of the
TAI second. TICK_STOP writes 0 to TICK_RUN, ends the claim, and stops the phases at the next tick start. TICK_RUN_START writes 1 and restarts a tick
that has run since the reset; a rate that differs from the active image's is refused with 0x0800_0022. -/
def Obligations.TickStartsAndStops : Prop :=
  (∀ (m : Mod), m.advance.tick.k = m.tick.k + 1 ∧ m.advance.tick.q = (if m.tick.q + 1 = m.hz then 0 else m.tick.q + 1)) ∧
  (∀ (s : State), s.mod.Runs → s.mod.inPhase .P = true → s.mod.tick.stopPending = false →
    exec .tickStart s = .next { s with mod := s.mod.endTick.keepView.advance.takeJump.holdoverTime.triadBits.seekOn.beginTick }) ∧
  (∀ (s : State), s.mod.Runs → s.mod.inPhase .P = true → s.mod.tick.stopPending = true →
    exec .tickStart s = .next { s with mod := { s.mod with tick := { s.mod.tick with running := false, stopPending := false } } }) ∧
  (∀ (s : State), s.mod.inPhase .P = false → exec .tickStart s = .next s) ∧
  (∀ (s : State) (sec : Nat), s.mod.Runs → s.mod.tick.running = false → s.mod.on 0x200003 = true → s.mod.num 0x203001 = 8 → s.mod.heldTod = true →
    exec (.firstTickStart sec) s = .next { s with mod := s.mod.startTick (sec * s.mod.hz) }) ∧
  (∀ (s : State) (p : Path), s.mod.Serves p → s.mod.tick.running = true →
    exec (.tickStop p) s = .next { s with mod :=
      ({ s.mod.set 0x200003 0 with tick := { s.mod.tick with stopPending := true } } : Mod).stopTick.report p 0 }) ∧
  (∀ (s : State) (p : Path) (now : Nat), s.mod.Serves p → lastRate s.mod.activeLast = s.mod.num 0x200001 → s.mod.on 0x200003 = false →
    8 < s.mod.num 0x203001 → s.mod.Good →
    exec (.tickRunStart p now) s = .next { s with mod :=
      ((s.mod.set 0x200003 1).startTick ((s.mod.set 0x200003 1).tb now * (s.mod.set 0x200003 1).hz / 1000000000 + 1)).report p 0 }) ∧
  (∀ (s : State) (p : Path) (now : Nat), s.mod.Serves p → lastRate s.mod.activeLast ≠ s.mod.num 0x200001 →
    exec (.tickRunStart p now) s = .next { s with mod := s.mod.report p 0x08000022 })

/-- The Last is loaded, checked and stored as R33 and R42 say. An image written goes into the inactive bank, sets INACTIVE_CRC and invalidates the
check; while a swap is pending the write is refused with 0x0800_0022. A write of 1 to CHECK starts the check, any other value is refused with
0x0609_0030; when the check completes, CHECK_RESULT holds the failures of R33, UNBOUND and PASS. STORE keeps the active image in configuration MRAM.
TICK_RATE is written only while the tick is stopped, or staged on a MEMBER; the new rate brings the built-in Last into bank A (R32). -/
def Obligations.LastIsLoadedAndChecked : Prop :=
  (∀ (s : State) (p : Path) (img : List Byte), s.mod.Serves p → s.mod.swapPending = false → img.length ≤ 12516 →
    exec (.inactiveImageWrite p img) s = .next { s with mod :=
      (((({ s.mod.setInactiveLast img with tick := { (s.mod.setInactiveLast img).tick with checkPending := false } } : Mod).set 0x202008
        (lastCrc img)).set 0x202004 0).report p 0) }) ∧
  (∀ (s : State) (p : Path) (img : List Byte), s.mod.Serves p → s.mod.swapPending = true →
    exec (.inactiveImageWrite p img) s = .next { s with mod := s.mod.report p 0x08000022 }) ∧
  (∀ (s : State) (p : Path), s.mod.Serves p →
    exec (.lastCheck p 1) s = .next { s with mod := ({ s.mod with tick := { s.mod.tick with checkPending := true } } : Mod).report p 0 }) ∧
  (∀ (s : State) (p : Path) (v : Nat), s.mod.Serves p → v ≠ 1 →
    exec (.lastCheck p v) s = .next { s with mod := s.mod.report p 0x06090030 } ∧
    exec (.lastStore p v) s = .next { s with mod := s.mod.report p 0x06090030 }) ∧
  (∀ (s : State), s.mod.Runs → s.mod.Good → s.mod.tick.checkPending = true → ∃ t, exec .lastCheckDone s = .next t ∧
    t.mod.tick.checkPending = false ∧
    t.mod.num 0x202004 = lastCheck s.mod.inactiveLast (s.mod.num 0x200001) + 2048 * b2n (t.mod.tick.chkUnbound != 0) +
      (if lastPass (lastCheck s.mod.inactiveLast (s.mod.num 0x200001)) then 2 ^ 31 else 0) ∧
    (∀ o i, objKey o i ≠ objKey 0x202004 0 → t.mod.val o i = s.mod.val o i) ∧
    t.mod.mem = s.mod.mem ∧ t.mod.raised = s.mod.raised ∧ t.mod.out = s.mod.out) ∧
  (∀ (s : State) (p : Path), s.mod.Serves p →
    exec (.lastStore p 1) s = .next { s with mod := ({ s.mod with nv := { s.mod.nv with last := s.mod.activeLast } } : Mod).report p 0 }) ∧
  (∀ (s : State) (p : Path) (v : Nat), s.mod.Serves p → v ≤ 1 → s.mod.stopped = true →
    exec (.tickRateWrite p v) s = .next { s with mod := (s.mod.newRate v).report p 0 }) ∧
  (∀ (s : State) (p : Path) (v : Nat), s.mod.Serves p → v ≤ 1 → s.mod.stopped = false → s.mod.isMember = false →
    exec (.tickRateWrite p v) s = .next { s with mod := s.mod.report p 0x08000022 })

/-! ## Arithmetic the rules give whole -/

/-- The CRC of R23: the register begins with all ones, takes in each octet by eight shifts of the reflected polynomial 0xEDB8_8320, and is inverted at
the end; over octets followed by their CRC, least significant byte first, it leaves the residue of the Ethernet frame check sequence. An image of the
Last passes the check of its CRC exactly when its last four octets are the CRC of the others, least significant byte first. -/
def Obligations.CrcIsEthernets : Prop :=
  crc32 [] = 0 ∧
  (∀ (bs : List Byte) (b : Byte), crc32 (bs ++ [b]) =
    (((List.range 8).foldl (fun r _ => if r % 2 = 1 then (r / 2) ^^^ 0xEDB88320 else r / 2) ((crc32 bs ^^^ 0xFFFFFFFF) ^^^ b.toNat)) ^^^ 0xFFFFFFFF)) ∧
  (∀ (bs : List Byte), crc32 bs < 2 ^ 32 ∧ crc32 (bs ++ toLE 4 (crc32 bs)) = 0x2144DF1C) ∧
  (∀ (body c : List Byte) (rate : Nat), c.length = 4 → lastMagicOk (body ++ c) = true → lastLengthOk (body ++ c) = true →
    (bit (lastCheck (body ++ c) rate) 3 = false ↔ c = toLE 4 (crc32 body)))

/-- The working sample of R71: w = sat24((x + h) >> SHIFT) of the received value x, by an arithmetic shift, with h = 2^(SHIFT - 1) and 0 when SHIFT is 0.
SHIFT is 0x4410.02[c], 0 to 8, 3 by default. Where the result was limited, the sample in the history is marked and the record of R84 has SAT set. -/
def Obligations.WorkingSamples : Prop :=
  (∀ (shift v : Nat) (y : Int), shift ≤ 8 → v < 2 ^ 32 → y = (toInt 32 v + (if shift = 0 then 0 else 2 ^ (shift - 1))) >>> shift →
    (toWork shift v).1 = max (-8388608) (min 8388607 y) ∧ (toWork shift v).2 = decide (y < -8388608 ∨ 8388607 < y)) ∧
  (∀ (c : Nat), c < 16384 → State.reset.mod.num 0x441002 c = 3) ∧
  (∀ (m : Mod) (r : ObjRow) (c v : Nat), objRow? 0x441002 = some r → v < 256 → ((m.readValue r 0x441002 c [BitVec.ofNat 8 v]).1 = 0 ↔ v ≤ 8)) ∧
  (∀ (shift alpha depth : Nat) (dcb frozen : Bool) (st : ChanSt) (e : Nat × Nat) (n : Nat) (h : List Int) (kind scale profile bank smp kf : Nat), 0 < depth → 0 < n → bank ≤ 1 →
    ∀ (y : ChanSt), y = chainPush shift alpha depth dcb frozen st e →
    (y.hist.getD 0 {}).d = (dcStep dcb (frozen || flagBad e.2) alpha (toWork shift e.1).1 st.m).1 ∧
    ((toWork shift e.1).2 = true → (y.hist.getD 0 {}).sat = true ∧ (chainOutput n h kind shift scale profile bank smp kf y).2 = true ∧
      bit ((chainOutput n h kind shift scale profile bank smp kf y).1.getD 3 0) 7 = true))

/-- The fingerprint of R489: the first 8 octets of HMAC-SHA-256 keyed with the key over the ASCII string "KUNATH-KFP". KCV, 0x6420.03[i], is its first
4 octets read as a big-endian U32. -/
def Obligations.KeyFingerprints : Prop :=
  (∀ (key : List Byte), (keyPrint key).length = 8 ∧
    ∀ j, j < 8 → (keyPrint key).getD j 0 = (Config.hmac key ("KUNATH-KFP".toList.map (fun ch => BitVec.ofNat 8 ch.toNat))).getD j 0) ∧
  (∀ (m : Mod) (i st : Nat) (key : List Byte), m.Good → i < 512 →
    (m.loadKey i st key).num 0x642003 i = beNat ((keyPrint key).take 4))

/-! ## Targets and commits -/

/-- A write to an object that names a target joins the path's stage as its last entry, and the stage is proposed for that tick (R453): swaps of the
Last and of a profile's bank, starts and stops of an engine, a tenant's creation, destruction, freeze and unfreeze, its staged allotment, and a
restore. What the proposal answers is the path's last code, and the proposal is the command's whole effect. -/
def Obligations.TargetWritesPropose : Prop :=
  (∀ (s : State) (p : Path) (env : Env) (t : Nat), s.mod.Joins p 0x202005 0 t → exec (.lastSwapRequest p t env) s =
    .next { s with mod := ((s.mod.proposeEntries p env t (s.mod.stageWith p 0x202005 0 t)).1.report p
      (s.mod.proposeEntries p env t (s.mod.stageWith p 0x202005 0 t)).2) }) ∧
  (∀ (s : State) (p : Path) (env : Env) (i t : Nat), 4 ≤ i → s.mod.Joins p 0x44200C i t → exec (.profileSwapRequest p i t env) s =
    .next { s with mod := ((s.mod.proposeEntries p env t (s.mod.stageWith p 0x44200C i t)).1.report p
      (s.mod.proposeEntries p env t (s.mod.stageWith p 0x44200C i t)).2) }) ∧
  (∀ (s : State) (p : Path) (env : Env) (i t : Nat), s.mod.Joins p 0x581005 i t → p = .supervisor ∨ s.mod.engState i ≠ enFaulted →
    exec (.engineStartRequest p i t env) s =
    .next { s with mod := ((s.mod.proposeEntries p env t (s.mod.stageWith p 0x581005 i t)).1.report p
      (s.mod.proposeEntries p env t (s.mod.stageWith p 0x581005 i t)).2) }) ∧
  (∀ (s : State) (p : Path) (env : Env) (i t : Nat), s.mod.Joins p 0x581007 i t → exec (.engineStopRequest p i t env) s =
    .next { s with mod := ((s.mod.proposeEntries p env t (s.mod.stageWith p 0x581007 i t)).1.report p
      (s.mod.proposeEntries p env t (s.mod.stageWith p 0x581007 i t)).2) }) ∧
  (∀ (s : State) (p : Path) (env : Env) (i t : Nat), s.mod.Joins p 0x510003 i t → exec (.createTickWrite p i t env) s =
    .next { s with mod := ((s.mod.proposeEntries p env t (s.mod.stageWith p 0x510003 i t)).1.report p
      (s.mod.proposeEntries p env t (s.mod.stageWith p 0x510003 i t)).2) }) ∧
  (∀ (s : State) (p : Path) (env : Env) (i t : Nat), s.mod.Joins p 0x510004 i t → exec (.destroyTickWrite p i t env) s =
    .next { s with mod := ((s.mod.proposeEntries p env t (s.mod.stageWith p 0x510004 i t)).1.report p
      (s.mod.proposeEntries p env t (s.mod.stageWith p 0x510004 i t)).2) }) ∧
  (∀ (s : State) (p : Path) (env : Env) (i t : Nat), s.mod.Joins p 0x510005 i t → exec (.freezeTickWrite p i t env) s =
    .next { s with mod := ((s.mod.proposeEntries p env t (s.mod.stageWith p 0x510005 i t)).1.report p
      (s.mod.proposeEntries p env t (s.mod.stageWith p 0x510005 i t)).2) }) ∧
  (∀ (s : State) (p : Path) (env : Env) (i t : Nat), s.mod.Joins p 0x510007 i t → exec (.unfreezeTickWrite p i t env) s =
    .next { s with mod := ((s.mod.proposeEntries p env t (s.mod.stageWith p 0x510007 i t)).1.report p
      (s.mod.proposeEntries p env t (s.mod.stageWith p 0x510007 i t)).2) }) ∧
  (∀ (s : State) (p : Path) (env : Env) (i t : Nat), s.mod.Joins p 0x511010 i t → exec (.resourceCommitTickWrite p i t env) s =
    .next { s with mod := ((s.mod.proposeEntries p env t (s.mod.stageWith p 0x511010 i t)).1.report p
      (s.mod.proposeEntries p env t (s.mod.stageWith p 0x511010 i t)).2) }) ∧
  (∀ (s : State) (p : Path) (env : Env) (t : Nat), s.mod.Joins p 0x515005 0 t → exec (.restoreTickWrite p t env) s =
    .next { s with mod := ((s.mod.proposeEntries p env t (s.mod.stageWith p 0x515005 0 t)).1.report p
      (s.mod.proposeEntries p env t (s.mod.stageWith p 0x515005 0 t)).2) })

/-- A write of COMMIT_TICK proposes the path's stage as one commit; what bars it, in order (R453-R455): an empty stage (log entry 155), a member state
that cannot commit, a target less than 48 ticks or more than 2^24 ticks away, 64 commits pending. What is barred leaves the stage as it is. -/
def Obligations.ProposalsAreBarred : Prop :=
  (∀ (s : State) (p : Path) (t : Nat) (env : Env), s.mod.Serves p → t < 2 ^ 48 → s.mod.stage p = [] →
    exec (.stageCommit p t env) s = .next { s with mod := s.mod.report p 0x06090030 }) ∧
  (∀ (s : State) (p : Path) (t : Nat) (env : Env), s.mod.Serves p → t < 2 ^ 48 → s.mod.stage p ≠ [] → s.mod.stopped = false →
    s.mod.isMember = false → s.mod.mstate ≠ msStandalone →
    exec (.stageCommit p t env) s = .next { s with mod := s.mod.report p 0x0880000B }) ∧
  (∀ (s : State) (p : Path) (t : Nat) (env : Env), s.mod.Serves p → t < 2 ^ 48 → s.mod.stage p ≠ [] → s.mod.stopped = false →
    s.mod.isMember = true ∨ s.mod.mstate = msStandalone → swapsLast (s.mod.stage p) = false → swapsProfiles (s.mod.stage p) = [] →
    t ≠ 0 → t < s.mod.k + 48 ∨ s.mod.k + 2 ^ 24 < t →
    exec (.stageCommit p t env) s = .next { s with mod := s.mod.report p 0x08800003 }) ∧
  (∀ (s : State) (p : Path) (t : Nat) (env : Env), s.mod.Serves p → t < 2 ^ 48 → s.mod.stage p ≠ [] → s.mod.stopped = false →
    s.mod.isMember = true ∨ s.mod.mstate = msStandalone → s.mod.k + 48 ≤ t → t ≤ s.mod.k + 2 ^ 24 → 64 ≤ s.mod.pendingCommits.length →
    exec (.stageCommit p t env) s = .next { s with mod := s.mod.report p 0x08800009 })

/-- A stage without a swap whose target is in range and which the check accepts becomes a commit. While the tick runs it is taken up, PROPOSED to the
members (R455, R460); while the tick is stopped it applies at once, on this module only (R455). Either way the stage becomes empty and the code is 0. -/
def Obligations.ProposalsAreTakenUp : Prop :=
  (∀ (s : State) (p : Path) (t : Nat) (env : Env), s.mod.Serves p → 0 < t → t < 2 ^ 48 → s.mod.stage p ≠ [] → s.mod.stopped = false →
    s.mod.isMember = true ∨ s.mod.mstate = msStandalone → swapsLast (s.mod.stage p) = false → swapsProfiles (s.mod.stage p) = [] →
    s.mod.k + 48 ≤ t → t ≤ s.mod.k + 2 ^ 24 → s.mod.pendingCommits.length < 64 →
    ((((s.mod.identified p).expected env (s.mod.proposal p t (s.mod.stage p))).commitVerdict env (s.mod.proposal p t (s.mod.stage p))).code = 0) →
    exec (.stageCommit p t env) s = .next { s with mod :=
      ((((s.mod.identified p).takeUp (s.mod.proposal p t (s.mod.stage p))).markSwaps (s.mod.proposal p t (s.mod.stage p))).markAllots
        (s.mod.proposal p t (s.mod.stage p))).report p 0 }) ∧
  (∀ (s : State) (p : Path) (t : Nat) (env : Env), s.mod.Serves p → 0 < t → t < 2 ^ 48 → s.mod.stage p ≠ [] → s.mod.stopped = true →
    swapsLast (s.mod.stage p) = false → swapsProfiles (s.mod.stage p) = [] →
    (((s.mod.identified p).commitVerdict env (s.mod.proposal p t (s.mod.stage p))).code = 0) →
    exec (.stageCommit p t env) s = .next { s with mod :=
      ((s.mod.identified p).proposeStopped env (s.mod.proposal p t (s.mod.stage p))).1.report p 0 } ∧
    (s.mod.identified p).proposeStopped env (s.mod.proposal p t (s.mod.stage p)) =
      (((((((Mod.applyEntries (((s.mod.identified p).keepCommit (s.mod.proposal p t (s.mod.stage p))).mapCommit s.mod.nextCommitId.1
          (fun c => { c with state := .applied }), []) env (s.mod.proposal p t (s.mod.stage p))).1.reportTick
        (Mod.applyEntries (((s.mod.identified p).keepCommit (s.mod.proposal p t (s.mod.stage p))).mapCommit s.mod.nextCommitId.1
          (fun c => { c with state := .applied }), []) env (s.mod.proposal p t (s.mod.stage p))).2).tellDigest (s.mod.identified p).settingsDigest).bump 0x1F0102).raise 0x0B00
        [s.mod.nextCommitId.1, t, 0]).tenantOutcome (s.mod.proposal p t (s.mod.stage p)) 0), 0))

/-- Stages are discarded and commits cancelled as R459 and R475 say. DISCARD of 1 empties the stage. A cancel of a commit PROPOSED or CONFIRMED here
more than 16 ticks before its target goes to the members and takes effect; of any other it is refused with 0x0880_0007. A peer's CANCEL counts until
the start of k_t - 8 and is ignored after. -/
def Obligations.CommitsAreCancelled : Prop :=
  (∀ (s : State) (p : Path), s.mod.Serves p → exec (.stageDiscard p 1) s = .next { s with mod := (s.mod.setStage p []).report p 0 }) ∧
  (∀ (s : State) (p : Path) (v : Nat), s.mod.Serves p → v ≠ 1 → exec (.stageDiscard p v) s = .next { s with mod := s.mod.report p 0x06090030 }) ∧
  (∀ (s : State) (p : Path) (id : Nat) (c : Commit), s.mod.Serves p → s.mod.commit? id = some c → c.state = .proposed ∨ c.state = .confirmed →
    s.mod.k + 16 < c.target →
    exec (.commitCancel p id) s = .next { s with mod :=
      (((s.mod.sendCommit 5 c 0x08800006).cancelCommit c 0x08800006 s.mod.rank).stepEnded c).report p 0 }) ∧
  (∀ (s : State) (p : Path) (id : Nat), s.mod.Serves p →
    (∀ c, s.mod.commit? id = some c → c.target ≤ s.mod.k + 16 ∨ (c.state ≠ .proposed ∧ c.state ≠ .confirmed)) →
    exec (.commitCancel p id) s = .next { s with mod := s.mod.report p 0x08800007 }) ∧
  (∀ (s : State) (rank id code : Nat) (c : Commit), s.mod.Runs → s.mod.commit? id = some c → c.state = .proposed ∨ c.state = .confirmed →
    s.mod.k + 8 < c.target →
    exec (.commitCancelRx rank id code) s = .next { s with mod := (s.mod.cancelCommit c code rank).stepEnded c }) ∧
  (∀ (s : State) (rank id code : Nat) (c : Commit), s.mod.commit? id = some c → c.target ≤ s.mod.k + 8 →
    exec (.commitCancelRx rank id code) s = .next s)

/-- What the members answer of a commit, by R459 and R460: an ACCEPT of a member is counted, and the last one confirms; a CONFIRM of the origin turns a
PROPOSED commit of another module CONFIRMED; a REFUSE of a PROPOSED commit turns it REFUSED, and its origin sends CANCEL; a PROPOSE of a new commit is
held back until its fragments are all there, and is then checked and answered. -/
def Obligations.MembersAnswer : Prop :=
  (∀ (s : State) (rank id : Nat), s.mod.Runs → exec (.commitAcceptRx rank id) s = .next { s with mod :=
    (s.mod.mapCommit id (fun c => if c.own = true ∧ c.state = .proposed then { c with accepted := (rank :: c.accepted).eraseDups } else c)).confirmIf id }) ∧
  (∀ (m : Mod) (id : Nat) (c : Commit), m.commit? id = some c → c.own = true → c.state = .proposed → c.kind ≠ 2 →
    c.members.all c.accepted.contains = true → m.k + 32 < c.target →
    m.confirmIf id = (m.mapCommit id (fun c => { c with state := .confirmed })).sendCommit 4 c 0) ∧
  (∀ (s : State) (rank id : Nat), s.mod.Runs → exec (.commitConfirmRx rank id) s = .next { s with mod := (s.mod.mapCommit id
    (fun c => if !c.own ∧ c.state = .proposed ∧ c.originRank = rank then { c with state := .confirmed } else c)) }) ∧
  (∀ (s : State) (rank id code : Nat) (c : Commit), s.mod.Runs → s.mod.commit? id = some c → c.state = .proposed → c.own = true → c.kind ≠ 2 →
    exec (.commitRefuseRx rank id code) s = .next { s with mod := ((s.mod.sendCommit 5 c code).refuseCommit c code rank).stepEnded c }) ∧
  (∀ (s : State) (rank id code : Nat) (c : Commit), s.mod.Runs → s.mod.commit? id = some c → c.state = .proposed → c.own = false →
    exec (.commitRefuseRx rank id code) s = .next { s with mod := (s.mod.refuseCommit c code rank).stepEnded c }) ∧
  (∀ (s : State) (rank k off len : Nat) (c : Commit) (env : Env), s.mod.Runs → s.mod.isMember = true →
    covered c.recordLen ((off, len) :: Table.get s.mod.dic.frags [] c.id) = false →
    exec (.commitProposeRx rank k c off len env) s = .next { s with mod := { s.mod with dic := { s.mod.dic with
      frags := Table.set s.mod.dic.frags [] c.id ((off, len) :: Table.get s.mod.dic.frags [] c.id) } } }) ∧
  (∀ (s : State) (rank k off len : Nat) (c : Commit) (env : Env) (m : Mod), s.mod.Runs → s.mod.isMember = true →
    covered c.recordLen ((off, len) :: Table.get s.mod.dic.frags [] c.id) = true → c.kind ≠ 2 → s.mod.commit? c.id = none →
    m = { s.mod with dic := { s.mod.dic with frags := Table.set s.mod.dic.frags [] c.id [] } } →
    exec (.commitProposeRx rank k c off len env) s = .next { s with mod := (m.takeProposal env k
      { id := c.id, kind := c.kind, originRank := c.originRank, path := c.path, target := c.target, entries := c.entries, step := c.step,
        timeBits := c.timeBits, freeze := c.freeze, own := false, pathNo := 0xFFFFFFFF, members := m.otherMembers }) })

/-- The schedule of a commit, by R456, R459 and R460: at k_t - 32 an origin refuses a commit that is still PROPOSED with 0x0880_0005 and sends CANCEL; at
k_t - 8 a CONFIRMED commit is ARMED and a PROPOSED one of a MEMBER is MISSED; at k_t the ARMED commits of the tick apply in COMMIT_ID order, and the
tick's records form. -/
def Obligations.CommitsFollowTheSchedule : Prop :=
  (∀ (s : State) (c : Commit), s.mod.Runs → c.kind ≠ 2 →
    s.mod.dic.held.filter (fun c => c.state == .proposed && (c.own || c.kind == 2) && decide (c.target ≤ s.mod.k + 32)) = [c] →
    exec .commitAcceptDeadline s = .next { s with mod :=
      ((s.mod.sendCommit 5 c 0x08800005).refuseCommit c 0x08800005 (s.mod.sendCommit 5 c 0x08800005).rank).stepEnded c }) ∧
  (∀ (s : State) (c : Commit), s.mod.Runs → s.mod.stopped = false → s.mod.k ≤ c.target → c.state = .confirmed →
    s.mod.dic.held.filter (fun c => (c.state == .proposed || c.state == .confirmed || c.state == .armed) && decide (c.target ≤ s.mod.k + 8)) = [c] →
    exec .commitArm s = .next { s with mod := s.mod.mapCommit c.id (fun c => { c with state := .armed }) }) ∧
  (∀ (s : State) (c : Commit), s.mod.Runs → s.mod.stopped = false → s.mod.k ≤ c.target → c.state = .proposed → s.mod.originMember c = true →
    s.mod.dic.held.filter (fun c => (c.state == .proposed || c.state == .confirmed || c.state == .armed) && decide (c.target ≤ s.mod.k + 8)) = [c] →
    exec .commitArm s = .next { s with mod := (s.mod.missCommit c 1).stepEnded c }) ∧
  (∀ (s : State) (env : Env) (l : List Commit), s.mod.Runs → s.mod.inPhase .I = true → s.mod.triad.stage = 0 → s.mod.dueCommits.mergeSort commitLe = l → l ≠ [] →
    exec (.commitApply env) s = .next { s with mod :=
      ((((Mod.applyAll env l (s.mod, [])).1.reportTick (Mod.applyAll env l (s.mod, [])).2).tellDigest s.mod.settingsDigest).openTick) }) ∧
  (∀ (env : Env) (m : Mod) (r : List Nat) (c : Commit) (l : List Commit), ((m.swappedBy env l).commitVerdict env c).code = 0 →
    Mod.applyAll env (c :: l) (m, r) =
      Mod.applyAll env l (Mod.applyEntries (m.mapCommit c.id (fun c => { c with state := .applying }), r) env c)) ∧
  (∀ (env : Env) (m : Mod) (r : List Nat) (c : Commit) (l : List Commit), ((m.swappedBy env l).commitVerdict env c).code ≠ 0 →
    Mod.applyAll env (c :: l) (m, r) =
      Mod.applyAll env l (m.refuseBy c ((m.swappedBy env l).commitVerdict env c) 0x0880000C, r)) ∧
  (∀ (s : State) (env : Env), s.mod.inPhase .I = false ∨ s.mod.triad.stage ≠ 0 ∨ s.mod.dueCommits = [] → exec (.commitApply env) s = .next s)

/-! ## Streams, filters, reference groups and slots -/

/-- A sampled-value frame ends where R53 and R67 say, and a sub-sample that is new is filed. A frame beyond the load that ingest sustains counts at
0x4000.04; one outside R43 and R64, without an ASDU, or malformed at 0x4000.03; one that matches no enabled stream at 0x4000.02. One that matches,
with one ASDU that carries the stream's CONF_REV and value count and needs no authentication, counts at FRAMES and, its filing tick open and its place
free, is filed there with its values, sync class and port. -/
def Obligations.FramesAreFiled : Prop :=
  (∀ (s : State) (f : SvFrame) (port : Nat), s.mod.Runs → exec (.ingestFrameArrival f port true) s = .next { s with mod := s.mod.bump 0x400004 }) ∧
  (∀ (s : State) (f : SvFrame) (port : Nat), s.mod.Runs →
    svOutside f (s.mod.num 0x400005) = true ∨ f.asdus = [] ∨ f.asdus.any asduMalformed = true →
    exec (.ingestFrameArrival f port false) s = .next { s with mod := s.mod.bump 0x400003 }) ∧
  (∀ (s : State) (f : SvFrame) (port : Nat), s.mod.Runs → svOutside f (s.mod.num 0x400005) = false → f.asdus ≠ [] →
    f.asdus.any asduMalformed = false → s.mod.streamOf f = none →
    exec (.ingestFrameArrival f port false) s = .next { s with mod := s.mod.bump 0x400002 }) ∧
  (∀ (s : State) (f : SvFrame) (port strm n kf : Nat) (a : Asdu), s.mod.Runs → svOutside f (s.mod.num 0x400005) = false → f.asdus = [a] →
    asduMalformed a = false → s.mod.streamOf f = some strm → s.mod.num 0x401008 strm = 1 → a.svID = some (s.mod.oct 0x401005 strm) →
    a.confRev = some (s.mod.num 0x401006 strm) → a.seqLen = some (8 * s.mod.num 0x401009 strm) → a.smpCnt = some n →
    n < s.mod.streamRate strm → f.sim = s.mod.on 0x40100E strm → s.mod.num 0x401010 strm = 0 → f.auth ≠ .hmac → f.auth ≠ .encrypted →
    s.mod.tick.running = true → s.mod.on 0x401007 strm = false → s.mod.filingTick n = some kf → s.mod.k < kf + s.mod.delay → kf ≤ s.mod.k + 8 →
    Table.find? s.mod.ingest.filings (filingKey strm kf 0) = none → a.gmIdentity = none → s.mod.Good →
    ∃ t, exec (.ingestFrameArrival f port false) s = .next t ∧
      Table.find? t.mod.ingest.filings (filingKey strm kf 0) =
        some { smpCnt := n, sync := syncClass (a.smpSynch.getD 0), vals := a.seq, port := port, stamp := f.stamp } ∧
      t.mod.num 0x401020 strm = min (s.mod.num 0x401020 strm + 1) (objMax 0x401020) ∧ (t.mod.streamRt strm).confOk = true ∧
      (∀ o i, objKey o i ≠ objKey 0x401020 strm → t.mod.val o i = s.mod.val o i) ∧
      t.mod.mem = s.mod.mem ∧ t.mod.raised = s.mod.raised ∧ t.mod.out = s.mod.out)

/-- The stream states of R60: three consecutive present ticks take a WAITING or LOST stream to RUNNING, event 0x0711 and bit 0x81000 + s set;
LOSS_TICKS consecutive absent ticks take a RUNNING stream to LOST, event 0x0710 and the bit clear. In any other case nothing changes. A HOLD channel
whose held value is older than HOLD_LIMIT delivers 0 for its missing and invalid sub-samples (R59). -/
def Obligations.StreamStates : Prop :=
  (∀ (s : State) (x : Nat), s.mod.Runs → s.mod.num 0x401015 x = 1 ∨ s.mod.num 0x401015 x = 3 → 3 ≤ (s.mod.streamRt x).present →
    exec (.streamRunning x) s = .next { s with mod :=
      (((s.mod.set 0x401015 2 x).setBitAt (0x81000 + x) true).raise 0x0711 [x, s.mod.k]) }) ∧
  (∀ (s : State) (x : Nat), s.mod.Runs → s.mod.num 0x401015 x = 2 → s.mod.num 0x401014 x ≤ (s.mod.streamRt x).absent →
    exec (.streamLost x) s = .next { s with mod :=
      (((s.mod.set 0x401015 3 x).setBitAt (0x81000 + x) false).raise 0x0710 [x, s.mod.k]) }) ∧
  (∀ (s : State) (x : Nat), (s.mod.streamRt x).present < 3 ∨ s.mod.num 0x401015 x = 0 ∨ s.mod.num 0x401015 x = 2 →
    exec (.streamRunning x) s = .next s) ∧
  (∀ (s : State) (x : Nat), (s.mod.streamRt x).absent < s.mod.num 0x401014 x ∨ s.mod.num 0x401015 x ≠ 2 → exec (.streamLost x) s = .next s) ∧
  (∀ (s : State) (c : Nat) (d : Delivered), s.mod.Runs → Table.find? s.mod.ingest.deliv c = some d → s.mod.num 0x402003 c = 0 →
    (Table.get s.mod.ingest.held {} c).valid = true → s.mod.num 0x402004 c < d.kf - (Table.get s.mod.ingest.held {} c).kg →
    exec (.substHoldExpiry c) s = .next { s with mod := { s.mod with ingest := { s.mod.ingest with
      deliv := Table.put s.mod.ingest.deliv c { d with subs := d.subs.map (fun e => if flagBad e.2 then (0, e.2) else e) } } } })

/-- The user profiles, 4 to 63, by R88 to R92 and R97: a write to the inactive bank invalidates its check; while a swap is pending it is refused with
0x0800_0022. A check that completes reports the failures of R89, and PASS where none but the last is set. While the tick is stopped, a passed bank is
exchanged at once, event 0x0720. Profiles 0 to 3 are read-only. -/
def Obligations.ProfilesAreLoadedAndChecked : Prop :=
  (∀ (s : State) (p : Path) (i n : Nat), s.mod.Serves p → 4 ≤ i → i < 64 → s.mod.profileSwapPending i = false →
    exec (.profileTapsWrite p i n) s = .next { s with mod := (s.mod.writeBank i { s.mod.inactiveBank i with taps := n, gain := [] }).report p 0 }) ∧
  (∀ (s : State) (p : Path) (i : Nat) (w : List Byte), s.mod.Serves p → 4 ≤ i → i < 64 → w.length ≤ 576 → s.mod.profileSwapPending i = false →
    exec (.profileCoeffsWrite p i w) s = .next { s with mod := (s.mod.writeBank i { s.mod.inactiveBank i with words := w, gain := [] }).report p 0 }) ∧
  (∀ (s : State) (p : Path) (i n : Nat), s.mod.Serves p → 4 ≤ i → i < 64 → s.mod.profileSwapPending i = true →
    exec (.profileTapsWrite p i n) s = .next { s with mod := s.mod.report p 0x08000022 }) ∧
  (∀ (s : State) (p : Path) (i n : Nat), s.mod.Serves p → i < 4 →
    exec (.profileTapsWrite p i n) s = .next { s with mod := s.mod.report p 0x06010002 }) ∧
  (∀ (s : State) (p : Path) (i : Nat), s.mod.Serves p → 4 ≤ i → i < 64 →
    exec (.profileCheck p i 1) s = .next { s with mod := (s.mod.setProfile i { s.mod.profile i with checkPending := true }).report p 0 }) ∧
  (∀ (s : State) (i : Nat), s.mod.Runs → s.mod.Good → (s.mod.profile i).checkPending = true → ∃ t, exec (.profileCheckDone i) s = .next t ∧
    t.mod.num 0x44200B i = bankCheck (s.mod.inactiveBank i) (s.mod.num 0x442003 i) +
      (if bankCheck (s.mod.inactiveBank i) (s.mod.num 0x442003 i) % 16 = 0 then 2 ^ 31 else 0) ∧
    (∀ o j, objKey o j ≠ objKey 0x44200B i → t.mod.val o j = s.mod.val o j) ∧ t.mod.mem = s.mod.mem ∧ t.mod.raised = s.mod.raised) ∧
  (∀ (s : State) (p : Path) (i : Nat), s.mod.Serves p → 4 ≤ i → i < 64 → s.mod.stopped = true → bit (s.mod.num 0x44200B i) 31 = true →
    exec (.profileSwapNow p i 1) s = .next { s with mod := (s.mod.swapProfile i s.mod.k).report p 0 }) ∧
  (∀ (s : State) (p : Path) (i : Nat), s.mod.Serves p → 4 ≤ i → i < 64 → s.mod.stopped = false →
    exec (.profileSwapNow p i 1) s = .next { s with mod := s.mod.report p 0x08000022 }) ∧
  (∀ (s : State) (p : Path) (i : Nat), s.mod.Serves p → 4 ≤ i → i < 64 →
    exec (.profileStore p i 1) s = .next { s with mod := (({ s.mod with nv := { s.mod.nv with
      profiles := Table.set s.mod.nv.profiles {} i (storedBank (s.mod.activeBank i)) } } : Mod).report p 0) })

/-- A pending swap is cancelled through the commit that carries it: of the Last by R35, of a profile's bank by R90; more than 16 ticks before the swap
the commit is cancelled and CANCEL goes to the members, and with no swap pending the write is refused with 0x0880_0007. -/
def Obligations.SwapsAreCancelled : Prop :=
  (∀ (s : State) (p : Path) (c : Commit), s.mod.Serves p → s.mod.swapPending = true → s.mod.commit? s.mod.tick.swapCommit = some c →
    c.state = .proposed ∨ c.state = .confirmed → s.mod.k + 16 < c.target →
    exec (.lastSwapCancel p 1) s = .next { s with mod :=
      ((((s.mod.sendCommit 5 c 0x08800006).cancelCommit c 0x08800006 s.mod.rank).stepEnded c).report p 0) }) ∧
  (∀ (s : State) (p : Path), s.mod.Serves p → s.mod.swapPending = false →
    exec (.lastSwapCancel p 1) s = .next { s with mod := s.mod.report p 0x08800007 }) ∧
  (∀ (s : State) (p : Path) (i : Nat) (c : Commit), s.mod.Serves p → 4 ≤ i → i < 64 → s.mod.profileSwapPending i = true →
    s.mod.commit? (s.mod.profile i).swapCommit = some c → c.state = .proposed ∨ c.state = .confirmed → s.mod.k + 16 < c.target →
    exec (.profileSwapCancel p i 1) s = .next { s with mod :=
      ((((s.mod.sendCommit 5 c 0x08800006).cancelCommit c 0x08800006 s.mod.rank).stepEnded c).report p 0) }) ∧
  (∀ (s : State) (p : Path) (i : Nat), s.mod.Serves p → 4 ≤ i → i < 64 → s.mod.profileSwapPending i = false →
    exec (.profileSwapCancel p i 1) s = .next { s with mod := s.mod.report p 0x08800007 })

/-- The states of a reference group in phase F, by R110, R111, R113 and R116, each change of state with the group's record of the tick: LOCKED after 48 present ticks with a small error, event 0x0730; back to ACQUIRE after 8
with a large one, event 0x0731; HOLD after LOS_TICKS absent ticks, event 0x0732; FALLBACK after HOLD_LIMIT ticks in HOLD, event 0x0733; from HOLD and
FALLBACK to ACQUIRE after three present ticks, the phase taken from the signal and the held frequency kept. -/
def Obligations.GroupStates : Prop :=
  (∀ (s : State) (v : Nat), s.mod.Runs → s.mod.inPhase .F = true → s.mod.num 0x45200A v = 1 → 48 ≤ (s.mod.group v).lockRun → s.mod.Good →
    exec (.groupLocked v) s = .next { s with mod :=
      (((((s.mod.set 0x45200A 2 v).setGroup v { s.mod.group v with lockRun := 0, errRun := 0, lockedTicks := 0 }).setBitAt (0x82000 + v) true).writeFreq
        v).raise 0x0730 [v, freqOf s.mod.hz (s.mod.group v).delta, s.mod.k]) }) ∧
  (∀ (s : State) (v : Nat), s.mod.Runs → s.mod.inPhase .F = true → s.mod.num 0x45200A v = 2 → 8 ≤ (s.mod.group v).errRun → s.mod.Good → ∃ t,
    exec (.lockLost v) s = .next t ∧ t.mod.num 0x45200A v = 1 ∧ t.mod.num 0x45200C v = 0 ∧ t.mod.num 0x45200F v = min (s.mod.num 0x45200F v + 1) (objMax 0x45200F) ∧
    t.mod.raised = s.mod.raised ++ [{ code := 0x0731, payload := [v, ofInt 32 (s.mod.group v).eps, s.mod.k] }] ∧
    (∀ o i, objKey o i ≠ objKey 0x45200A v → objKey o i ≠ objKey 0x45200C v → objKey o i ≠ objKey 0x45200F v → t.mod.val o i = s.mod.val o i) ∧ t.mod.mem = s.mod.mem) ∧
  (∀ (s : State) (v : Nat), s.mod.Runs → s.mod.inPhase .F = true → s.mod.num 0x45200A v = 1 ∨ s.mod.num 0x45200A v = 2 →
    s.mod.num 0x452006 v ≤ (s.mod.group v).absentRun →
    s.mod.Good →
    exec (.signalLostHold v) s = .next { s with mod :=
      ((((((s.mod.set 0x45200A 3 v).setGroup v
        { s.mod.group v with errRun := 0, lockRun := 0, holdTicks := 0, lockedTicks := 0, rocofValid := false, rocof := 0 }).unlockBits v).set 0x45200C 0 v).writeFreq v).raise 0x0732 [v, freqOf s.mod.hz (s.mod.group v).delta, s.mod.k]) }) ∧
  (∀ (s : State) (v : Nat), s.mod.Runs → s.mod.inPhase .F = true → s.mod.num 0x45200A v = 3 → 3 ≤ (s.mod.group v).presentRun →
    exec (.holdReacquire v) s = .next { s with mod := (((s.mod.set 0x45200A 1 v).setGroup v { s.mod.group v with
      psi := ofInt 48 ((s.mod.group v).theta * 2 ^ 16 + (s.mod.group v).delta), integ := (s.mod.group v).delta - s.mod.dNom, seedPsi := false,
      lockRun := 0, errRun := 0, holdTicks := 0 }).writeFreq v) }) ∧
  (∀ (s : State) (v : Nat), s.mod.Runs → s.mod.inPhase .F = true → s.mod.num 0x45200A v = 3 → s.mod.num 0x452007 v ≤ (s.mod.group v).holdTicks →
    (s.mod.group v).presentRun < 3 →
    exec (.fallbackEntered v) s = .next { s with mod := (((s.mod.set 0x45200A 4 v).writeFreq v).raise 0x0733 [v, s.mod.num 0x452008 v, s.mod.k]) }) ∧
  (∀ (s : State) (v : Nat), s.mod.Runs → s.mod.inPhase .F = true → s.mod.num 0x45200A v = 4 → 3 ≤ (s.mod.group v).presentRun →
    exec (.fallbackReacquire v) s = .next { s with mod := (((s.mod.set 0x45200A 1 v).setGroup v { s.mod.group v with
      psi := ofInt 48 ((s.mod.group v).theta * 2 ^ 16 + (s.mod.group v).delta), integ := (s.mod.group v).delta - s.mod.dNom, seedPsi := false,
      lockRun := 0, errRun := 0, holdTicks := 0 }).writeFreq v) }) ∧
  (∀ (s : State) (v : Nat), s.mod.Runs → s.mod.inPhase .F = true → (s.mod.group v).limitRun = 48 →
    exec (.freqLimitRun v) s = .next { s with mod := ((s.mod.setGroup v { s.mod.group v with limitRun := 49 }).raise 0x0734
      [v, Config.eventField 0x0734 (if (s.mod.group v).limitLow then 40 else 70), s.mod.k]) }) ∧
  (∀ (s : State) (v : Nat), s.mod.Runs → s.mod.inPhase .F = true → s.mod.num 0x45200A v = 2 →
    s.mod.num 0x452009 v + 1 ≤ (s.mod.group v).lockedTicks → (s.mod.group v).rocofValid = false → s.mod.Good → ∃ t, exec (.rocofValid v) s = .next t ∧
    t.mod.num 0x45200C v = rocofOf s.mod.hz (s.mod.num 0x452009 v) (s.mod.group v).delta (deltaAgo (s.mod.group v) (s.mod.num 0x452009 v)) ∧
    (∀ o i, objKey o i ≠ objKey 0x45200C v → t.mod.val o i = s.mod.val o i) ∧ t.mod.mem = s.mod.mem ∧ t.mod.raised = s.mod.raised)

/-- Phases F and E, in the fixed order of R19, and the decisions of a slot in phase E. Phase F, after the fetch deadline of phase I, runs the filters, the
phasors, the sequences and the loops in turn and writes the frequency records; phase E takes the resets that wait, then the slots that are not TIMERs
and then the TIMERs (R131, R136); out of its place in the order neither does anything. A slot whose PU has run beyond OP_DELAY has OP set, one whose drop delay has run has it clear (R129); a running
TIMER at its operate point operates, and one not running for SET4 clears under definite reset (R146, R148). -/
def Obligations.PhasesAndSlots : Prop :=
  (∀ (s : State), s.mod.Runs → s.mod.inPhase .I = true → s.mod.triad.stage = 2 → exec .filterPhase s = .next { s with mod :=
    (({ s.mod with tick := { s.mod.tick with phase := .F } } : Mod).flushCleared.filterChain.phasors.sequences.loops.writeFreqs) }) ∧
  (∀ (s : State), s.mod.inPhase .I = false ∨ s.mod.triad.stage ≠ 2 → exec .filterPhase s = .next s) ∧
  (∀ (s : State), s.mod.inPhase .F = false → exec .elementPhase s = .next s) ∧
  (∀ (s : State) (m n : Mod), s.mod.Runs → s.mod.inPhase .F = true → m = { s.mod with tick := { s.mod.tick with phase := .E } } →
    n = (m.resetSlots.each (m.slotsOn.filter (fun e => m.slotType e != 8)) (evalSlot m)).each (m.slotsOn.filter (fun e => m.slotType e == 8)) (evalSlot m) →
    exec .elementPhase s = .next { s with mod := ((n.draw 32).2.raiseTo 0x480004 ((n.draw 32).1 % 6735)) }) ∧
  (∀ (s : State) (e : Nat), s.mod.Runs → s.mod.slotWritable e = true → s.mod.slotType e ≠ 8 → bit (s.mod.slot e).out 0 = true →
    s.mod.num 0x481010 e < (s.mod.slot e).up → bit (s.mod.slot e).out 1 = false →
    exec (.opDelayExpiry e) s = .next { s with mod :=
      (s.mod.writeSlot e { s.mod.slot e with op := true, dn := 0, opRaw := true, out := (s.mod.slot e).out + 2 }) }) ∧
  (∀ (s : State) (e : Nat), s.mod.Runs → s.mod.slotWritable e = true → bit (s.mod.slot e).out 1 = true → (s.mod.slot e).opRaw = false →
    s.mod.num 0x481011 e < (s.mod.slot e).dn →
    exec (.dropDelayExpiry e) s = .next { s with mod :=
      (s.mod.writeSlot e { s.mod.slot e with op := false, dn := 0, out := (s.mod.slot e).out - 2 }) }) ∧
  (∀ (s : State) (e : Nat), s.mod.Runs → s.mod.slotWritable e = true → s.mod.slotType e = 8 → (s.mod.slot e).running = true → bit (s.mod.slot e).out 0 = true →
    bit (s.mod.slot e).out 1 = false → ticksOf s.mod.hz (s.mod.sett e 3) + 1 ≤ (s.mod.slot e).nRun →
    modeCurve (s.mod.slotMode e) = 0 ∨ 2 ^ 32 ≤ (s.mod.slot e).acc →
    exec (.timerOperate e) s = .next { s with mod :=
      (s.mod.writeSlot e { s.mod.slot e with op := true, dn := 0, opRaw := true, out := (s.mod.slot e).out + 2 }) }) ∧
  (∀ (s : State) (e : Nat), s.mod.Runs → s.mod.slotWritable e = true → s.mod.slotType e = 8 → modeReset (s.mod.slotMode e) = 1 → (s.mod.slot e).running = false →
    ticksOf s.mod.hz (s.mod.sett e 4) < (s.mod.slot e).offRun →
    exec (.timerDefiniteResetExpiry e) s = .next { s with mod :=
      ((s.mod.setSlot e { s.mod.slot e with acc := 0, nRun := 0 }).set 0x481022 0 e) })

/-! ## Logic engines -/

/-- The instructions that load and combine a bit, by R164: A takes the bit, its complement, or A combined with either by AND, OR or XOR; the index moves
on by one, the instruction is counted, and nothing else changes. The bit is as R158 has it read: the engine's own write of the pass, otherwise the
snapshot of pass start. A command that is not the engine's next instruction changes nothing (the model's choice, log entry 1). -/
def Obligations.LogicLoadsBits : Prop :=
  (∀ (s : State) (g a : Nat), s.mod.At g 0x1 a → exec (.lgLd g a) s = .next { s with mod :=
    (s.mod.setRun g { s.mod.nextRun g with a := s.mod.engineBit g a }) }) ∧
  (∀ (s : State) (g a : Nat), s.mod.At g 0x2 a → exec (.lgLdn g a) s = .next { s with mod :=
    (s.mod.setRun g { s.mod.nextRun g with a := !s.mod.engineBit g a }) }) ∧
  (∀ (s : State) (g a : Nat), s.mod.At g 0x3 a → exec (.lgAnd g a) s = .next { s with mod :=
    (s.mod.setRun g { s.mod.nextRun g with a := (s.mod.engine g).run.a && s.mod.engineBit g a }) }) ∧
  (∀ (s : State) (g a : Nat), s.mod.At g 0x4 a → exec (.lgAndn g a) s = .next { s with mod :=
    (s.mod.setRun g { s.mod.nextRun g with a := (s.mod.engine g).run.a && !s.mod.engineBit g a }) }) ∧
  (∀ (s : State) (g a : Nat), s.mod.At g 0x5 a → exec (.lgOr g a) s = .next { s with mod :=
    (s.mod.setRun g { s.mod.nextRun g with a := (s.mod.engine g).run.a || s.mod.engineBit g a }) }) ∧
  (∀ (s : State) (g a : Nat), s.mod.At g 0x6 a → exec (.lgOrn g a) s = .next { s with mod :=
    (s.mod.setRun g { s.mod.nextRun g with a := (s.mod.engine g).run.a || !s.mod.engineBit g a }) }) ∧
  (∀ (s : State) (g a : Nat), s.mod.At g 0x7 a → exec (.lgXor g a) s = .next { s with mod :=
    (s.mod.setRun g { s.mod.nextRun g with a := (s.mod.engine g).run.a ^^ s.mod.engineBit g a }) }) ∧
  (∀ (s : State) (g a : Nat), s.mod.At g 0x8 a → exec (.lgXorn g a) s = .next { s with mod :=
    (s.mod.setRun g { s.mod.nextRun g with a := (s.mod.engine g).run.a ^^ !s.mod.engineBit g a }) }) ∧
  (∀ (s : State) (g a v : Nat), Table.find? (s.mod.engine g).run.writes a = some v → s.mod.engineBit g a = (v == 1)) ∧
  (∀ (s : State) (g a : Nat), s.mod.atInstr g 0x1 a = false → exec (.lgLd g a) s = .next s)

/-- The instructions that write a bit, by R164: ST and STN write A and its complement, SET and RST write 1 and 0 where A is 1 and nothing where it is 0,
REDGE and FEDGE load the edge of A against the bit and write A to it. The write is held in the pass until it ends. -/
def Obligations.LogicWritesBits : Prop :=
  (∀ (s : State) (g a : Nat), s.mod.At g 0x09 a → exec (.lgSt g a) s = .next { s with mod :=
    (s.mod.setRun g { s.mod.nextRun g with writes := Table.put (s.mod.engine g).run.writes a (b2n (s.mod.engine g).run.a) }) }) ∧
  (∀ (s : State) (g a : Nat), s.mod.At g 0x0A a → exec (.lgStn g a) s = .next { s with mod :=
    (s.mod.setRun g { s.mod.nextRun g with writes := Table.put (s.mod.engine g).run.writes a (b2n (!(s.mod.engine g).run.a)) }) }) ∧
  (∀ (s : State) (g a : Nat), s.mod.At g 0x0B a → (s.mod.engine g).run.a = true → exec (.lgSet g a) s = .next { s with mod :=
    (s.mod.setRun g { s.mod.nextRun g with writes := Table.put (s.mod.engine g).run.writes a (b2n true) }) }) ∧
  (∀ (s : State) (g a : Nat), s.mod.At g 0x0B a → (s.mod.engine g).run.a = false → exec (.lgSet g a) s = .next { s with mod :=
    (s.mod.setRun g (s.mod.nextRun g)) }) ∧
  (∀ (s : State) (g a : Nat), s.mod.At g 0x0C a → (s.mod.engine g).run.a = true → exec (.lgRst g a) s = .next { s with mod :=
    (s.mod.setRun g { s.mod.nextRun g with writes := Table.put (s.mod.engine g).run.writes a (b2n false) }) }) ∧
  (∀ (s : State) (g a : Nat), s.mod.At g 0x0C a → (s.mod.engine g).run.a = false → exec (.lgRst g a) s = .next { s with mod :=
    (s.mod.setRun g (s.mod.nextRun g)) }) ∧
  (∀ (s : State) (g a : Nat), s.mod.At g 0x18 a → exec (.lgRedge g a) s = .next { s with mod :=
    (s.mod.setRun g { s.mod.nextRun g with writes := Table.put (s.mod.engine g).run.writes a (b2n (s.mod.engine g).run.a), a := (s.mod.engine g).run.a && !s.mod.engineBit g a }) }) ∧
  (∀ (s : State) (g a : Nat), s.mod.At g 0x19 a → exec (.lgFedge g a) s = .next { s with mod :=
    (s.mod.setRun g { s.mod.nextRun g with writes := Table.put (s.mod.engine g).run.writes a (b2n (s.mod.engine g).run.a), a := !(s.mod.engine g).run.a && s.mod.engineBit g a }) })

/-- The instructions of control, by R164: jumps set the index, always, where A is 1, or where A is 0; ANDB and ORB push A and begin a branch with 1 or
0, BCL pops one and combines; NOT complements A; CALL pushes the return index and goes to the start of its section, RET pops it; END ends the pass and
commits its writes. A RET with nothing to pop is counted and stays where it is, so that only END commits (the model's choice, log entry 41). -/
def Obligations.LogicControls : Prop :=
  (∀ (s : State) (g i : Nat), s.mod.At g 0x0D i → exec (.lgJmp g i) s = .next { s with mod :=
    (s.mod.setRun g { s.mod.nextRun g with pc := i }) }) ∧
  (∀ (s : State) (g i : Nat), s.mod.At g 0x0E i → (s.mod.engine g).run.a = true → exec (.lgJmpc g i) s = .next { s with mod :=
    (s.mod.setRun g { s.mod.nextRun g with pc := i }) }) ∧
  (∀ (s : State) (g i : Nat), s.mod.At g 0x0E i → (s.mod.engine g).run.a = false → exec (.lgJmpc g i) s = .next { s with mod :=
    (s.mod.setRun g (s.mod.nextRun g)) }) ∧
  (∀ (s : State) (g i : Nat), s.mod.At g 0x0F i → (s.mod.engine g).run.a = false → exec (.lgJmpn g i) s = .next { s with mod :=
    (s.mod.setRun g { s.mod.nextRun g with pc := i }) }) ∧
  (∀ (s : State) (g i : Nat), s.mod.At g 0x0F i → (s.mod.engine g).run.a = true → exec (.lgJmpn g i) s = .next { s with mod :=
    (s.mod.setRun g (s.mod.nextRun g)) }) ∧
  (∀ (s : State) (g : Nat), s.mod.At g 0x10 0 → exec (.lgAndb g) s = .next { s with mod :=
    (s.mod.setRun g { s.mod.nextRun g with branches := ((s.mod.engine g).run.a, true) :: (s.mod.engine g).run.branches, a := true }) }) ∧
  (∀ (s : State) (g : Nat), s.mod.At g 0x11 0 → exec (.lgOrb g) s = .next { s with mod :=
    (s.mod.setRun g { s.mod.nextRun g with branches := ((s.mod.engine g).run.a, false) :: (s.mod.engine g).run.branches, a := false }) }) ∧
  (∀ (s : State) (g : Nat) (sv : Bool) (l : List (Bool × Bool)), s.mod.At g 0x12 0 → (s.mod.engine g).run.branches = (sv, true) :: l →
    exec (.lgBcl g) s = .next { s with mod := (s.mod.setRun g { s.mod.nextRun g with branches := l, a := sv && (s.mod.engine g).run.a }) }) ∧
  (∀ (s : State) (g : Nat) (sv : Bool) (l : List (Bool × Bool)), s.mod.At g 0x12 0 → (s.mod.engine g).run.branches = (sv, false) :: l →
    exec (.lgBcl g) s = .next { s with mod := (s.mod.setRun g { s.mod.nextRun g with branches := l, a := sv || (s.mod.engine g).run.a }) }) ∧
  (∀ (s : State) (g : Nat), s.mod.At g 0x13 0 → exec (.lgNot g) s = .next { s with mod :=
    (s.mod.setRun g { s.mod.nextRun g with a := !(s.mod.engine g).run.a }) }) ∧
  (∀ (s : State) (g sect : Nat), s.mod.At g 0x14 sect → exec (.lgCall g sect) s = .next { s with mod :=
    (s.mod.setRun g { s.mod.nextRun g with calls := ((s.mod.engine g).run.pc + 1) :: (s.mod.engine g).run.calls, pc := liSect (s.mod.engine g).image sect }) }) ∧
  (∀ (s : State) (g r : Nat) (l : List Nat), s.mod.At g 0x15 0 → (s.mod.engine g).run.calls = r :: l →
    exec (.lgRet g) s = .next { s with mod := (s.mod.setRun g { s.mod.nextRun g with calls := l, pc := r }) }) ∧
  (∀ (s : State) (g : Nat), s.mod.At g 0x15 0 → (s.mod.engine g).run.calls = [] →
    exec (.lgRet g) s = .next { s with mod := (s.mod.setRun g { s.mod.nextRun g with pc := (s.mod.engine g).run.pc }) }) ∧
  (∀ (s : State) (g : Nat), s.mod.At g 0x3F 0 → exec (.lgEnd g) s = .next { s with mod :=
    (((s.mod.setBits ((s.mod.engine g).run.writes.map (fun e => (e.1, e.2 == 1)))).raiseTo
      (if (s.mod.engine g).run.pass = 1 then 0x58100B else 0x58100C) ((s.mod.engine g).run.used + 1) g).setRun g {}) })

/-- The timers and counters, by R164 to R166: TON runs while A is 1 and sets Q when PT has elapsed; TOF sets Q while A is 1, runs when A falls and clears Q when PT
has elapsed; TP runs for PT from a rising edge of A with Q set. Elapsed time is k - k0, A takes Q, and LDTQ and LDTV read what the last execution left.
CTU adds 1 and CTD subtracts 1 where A is 1 and was 0 at the counter's last execution, saturating at 2^31 - 1 and -2^31; A takes CV ≥ PV or CV ≤ 0.
CRST clears CV where A is 1, and LDCQ and LDCV read. -/
def Obligations.LogicTimersAndCounters : Prop :=
  (∀ (s : State) (g t : Nat), s.mod.At g 0x20 t → (s.mod.engine g).run.a = true → (s.mod.timer g t).run = true →
    exec (.lgTon g t) s = .next { s with mod :=
    (s.mod.runTimer g t (s.mod.nextRun g) { run := true, q := decide (s.mod.preset g t ≤ s.mod.k - (s.mod.timer g t).k0), k0 := (s.mod.timer g t).k0, last := true }) }) ∧
  (∀ (s : State) (g t : Nat), s.mod.At g 0x20 t → (s.mod.engine g).run.a = true → (s.mod.timer g t).run = false →
    exec (.lgTon g t) s = .next { s with mod :=
    (s.mod.runTimer g t (s.mod.nextRun g) { run := true, q := decide (s.mod.preset g t = 0), k0 := s.mod.k, last := true }) }) ∧
  (∀ (s : State) (g t : Nat), s.mod.At g 0x20 t → (s.mod.engine g).run.a = false → exec (.lgTon g t) s = .next { s with mod :=
    (s.mod.runTimer g t (s.mod.nextRun g) { s.mod.timer g t with run := false, q := false, last := false }) }) ∧
  (∀ (s : State) (g t : Nat), s.mod.At g 0x21 t → (s.mod.engine g).run.a = true → exec (.lgTof g t) s = .next { s with mod :=
    (s.mod.runTimer g t (s.mod.nextRun g) { s.mod.timer g t with run := false, q := true, last := true }) }) ∧
  (∀ (s : State) (g t : Nat), s.mod.At g 0x21 t → (s.mod.engine g).run.a = false → (s.mod.timer g t).run = true → s.mod.preset g t ≤ s.mod.k - (s.mod.timer g t).k0 →
    exec (.lgTof g t) s = .next { s with mod :=
    (s.mod.runTimer g t (s.mod.nextRun g) { s.mod.timer g t with run := false, q := false, last := false }) }) ∧
  (∀ (s : State) (g t : Nat), s.mod.At g 0x21 t → (s.mod.engine g).run.a = false → (s.mod.timer g t).run = true → s.mod.k - (s.mod.timer g t).k0 < s.mod.preset g t →
    exec (.lgTof g t) s = .next { s with mod :=
    (s.mod.runTimer g t (s.mod.nextRun g) { s.mod.timer g t with last := false }) }) ∧
  (∀ (s : State) (g t : Nat), s.mod.At g 0x21 t → (s.mod.engine g).run.a = false → (s.mod.timer g t).run = false → (s.mod.timer g t).q = true → 0 < s.mod.preset g t →
    exec (.lgTof g t) s = .next { s with mod :=
    (s.mod.runTimer g t (s.mod.nextRun g) { run := true, q := true, k0 := s.mod.k, last := false }) }) ∧
  (∀ (s : State) (g t : Nat), s.mod.At g 0x22 t → (s.mod.engine g).run.a = true → (s.mod.timer g t).last = false → (s.mod.timer g t).run = false → 0 < s.mod.preset g t →
    exec (.lgTp g t) s = .next { s with mod :=
    (s.mod.runTimer g t (s.mod.nextRun g) { run := true, q := true, k0 := s.mod.k, last := true }) }) ∧
  (∀ (s : State) (g t : Nat), s.mod.At g 0x22 t → (s.mod.timer g t).run = true → s.mod.preset g t ≤ s.mod.k - (s.mod.timer g t).k0 →
    exec (.lgTp g t) s = .next { s with mod :=
    (s.mod.runTimer g t (s.mod.nextRun g) { s.mod.timer g t with run := false, q := false, last := (s.mod.engine g).run.a }) }) ∧
  (∀ (s : State) (g t : Nat), s.mod.At g 0x22 t → (s.mod.timer g t).run = true → s.mod.k - (s.mod.timer g t).k0 < s.mod.preset g t →
    exec (.lgTp g t) s = .next { s with mod :=
    (s.mod.runTimer g t (s.mod.nextRun g) { s.mod.timer g t with run := true, q := true, last := (s.mod.engine g).run.a }) }) ∧
  (∀ (s : State) (g t : Nat), s.mod.At g 0x24 t → exec (.lgLdtq g t) s = .next { s with mod :=
    (s.mod.setRun g { s.mod.nextRun g with a := (s.mod.timer g t).q }) }) ∧
  (∀ (s : State) (g t : Nat), s.mod.At g 0x35 t → (s.mod.timer g t).run = true → exec (.lgLdtv g t) s = .next { s with mod :=
    (s.mod.setRun g { s.mod.nextRun g with w := BitVec.ofNat 32 (min (s.mod.k - (s.mod.timer g t).k0) (s.mod.preset g t)) }) }) ∧
  (∀ (s : State) (g t : Nat), s.mod.At g 0x35 t → (s.mod.timer g t).run = false → exec (.lgLdtv g t) s = .next { s with mod :=
    (s.mod.setRun g { s.mod.nextRun g with w := 0 }) }) ∧
  (∀ (m : Mod) (g t : Nat) (p : PassSt) (x : TimerSt), m.runTimer g t p x =
    m.setEngine g { m.engine g with timers := Table.set (m.engine g).timers {} t x, run := { p with a := x.q } }) ∧
  (∀ (s : State) (g c : Nat), s.mod.At g 0x28 c → (s.mod.engine g).run.a = true → (s.mod.counter g c).edge = false →
    exec (.lgCtu g c) s = .next { s with mod :=
    (s.mod.setEngine g { s.mod.engine g with
        counters := Table.set (s.mod.engine g).counters {} c { cv := satInt 32 ((s.mod.counter g c).cv + 1), edge := true },
        run := { s.mod.nextRun g with a := decide (s.mod.limit g c ≤ satInt 32 ((s.mod.counter g c).cv + 1)) } }) }) ∧
  (∀ (s : State) (g c : Nat), s.mod.At g 0x28 c → (s.mod.engine g).run.a = false ∨ (s.mod.counter g c).edge = true →
    exec (.lgCtu g c) s = .next { s with mod :=
    (s.mod.setEngine g { s.mod.engine g with
        counters := Table.set (s.mod.engine g).counters {} c { s.mod.counter g c with edge := (s.mod.engine g).run.a },
        run := { s.mod.nextRun g with a := decide (s.mod.limit g c ≤ (s.mod.counter g c).cv) } }) }) ∧
  (∀ (s : State) (g c : Nat), s.mod.At g 0x29 c → (s.mod.engine g).run.a = true → (s.mod.counter g c).edge = false →
    exec (.lgCtd g c) s = .next { s with mod :=
    (s.mod.setEngine g { s.mod.engine g with
        counters := Table.set (s.mod.engine g).counters {} c { cv := satInt 32 ((s.mod.counter g c).cv - 1), edge := true },
        run := { s.mod.nextRun g with a := decide (satInt 32 ((s.mod.counter g c).cv - 1) ≤ 0) } }) }) ∧
  (∀ (s : State) (g c : Nat), s.mod.At g 0x29 c → (s.mod.engine g).run.a = false ∨ (s.mod.counter g c).edge = true →
    exec (.lgCtd g c) s = .next { s with mod :=
    (s.mod.setEngine g { s.mod.engine g with
        counters := Table.set (s.mod.engine g).counters {} c { s.mod.counter g c with edge := (s.mod.engine g).run.a },
        run := { s.mod.nextRun g with a := decide ((s.mod.counter g c).cv ≤ 0) } }) }) ∧
  (∀ (s : State) (g c : Nat), s.mod.At g 0x2A c → (s.mod.engine g).run.a = true → exec (.lgCrst g c) s = .next { s with mod :=
    (s.mod.setEngine g { s.mod.engine g with
        counters := Table.set (s.mod.engine g).counters {} c { s.mod.counter g c with cv := 0 },
        run := { s.mod.nextRun g with a := true } }) }) ∧
  (∀ (s : State) (g c : Nat), s.mod.At g 0x2B c → exec (.lgLdcq g c) s = .next { s with mod :=
    (s.mod.setRun g { s.mod.nextRun g with a := decide (s.mod.limit g c ≤ (s.mod.counter g c).cv) }) }) ∧
  (∀ (s : State) (g c : Nat), s.mod.At g 0x36 c → exec (.lgLdcv g c) s = .next { s with mod :=
    (s.mod.setRun g { s.mod.nextRun g with w := BitVec.ofInt 32 (s.mod.counter g c).cv }) }) ∧
  satInt 32 (2 ^ 31) = 2 ^ 31 - 1 ∧ satInt 32 (-(2 ^ 31) - 1) = -(2 ^ 31)

/-- The instructions of words, by R160 and R164: W takes a register, a constant or a sign-extended immediate; STW and MOV write a general register, and
discard what is written to the read-only registers 0xF00 to 0xFFF; the comparisons are signed. The words that the start of a pass loads hold the low 32
and the high 16 bits of k at 0xF00 and 0xF01, q at 0xF02 and the pass at 0xF03, and leave every other register as it is. -/
def Obligations.LogicWords : Prop :=
  (∀ (s : State) (g r : Nat), s.mod.At g 0x30 r → exec (.lgLdw g r) s = .next { s with mod :=
    (s.mod.setRun g { s.mod.nextRun g with w := s.mod.wordReg g r }) }) ∧
  (∀ (s : State) (g c : Nat), s.mod.At g 0x31 c → exec (.lgLdk g c) s = .next { s with mod :=
    (s.mod.setRun g { s.mod.nextRun g with w := BitVec.ofNat 32 (s.mod.constant g c) }) }) ∧
  (∀ (s : State) (g i : Nat), s.mod.At g 0x32 i → exec (.lgLdi g i) s = .next { s with mod :=
    (s.mod.setRun g { s.mod.nextRun g with w := (BitVec.ofNat 16 i).signExtend 32 }) }) ∧
  (∀ (s : State) (g r : Nat), s.mod.At g 0x33 r → r < 0xF00 → exec (.lgStw g r) s = .next { s with mod :=
    ((s.mod.setEngine g { s.mod.engine g with words := Table.set (s.mod.engine g).words 0 r (s.mod.engine g).run.w }).setRun g (s.mod.nextRun g)) }) ∧
  (∀ (s : State) (g r : Nat), s.mod.At g 0x33 r → 0xF00 ≤ r → exec (.lgStw g r) s = .next { s with mod :=
    (s.mod.setRun g (s.mod.nextRun g)) }) ∧
  (∀ (s : State) (g src dst : Nat), s.mod.At g 0x34 (src * 4096 + dst) → dst < 0xF00 → exec (.lgMov g src dst) s = .next { s with mod :=
    ((s.mod.setEngine g { s.mod.engine g with words := Table.set (s.mod.engine g).words 0 dst (s.mod.wordReg g src) }).setRun g (s.mod.nextRun g)) }) ∧
  (∀ (s : State) (g src dst : Nat), s.mod.At g 0x34 (src * 4096 + dst) → 0xF00 ≤ dst → exec (.lgMov g src dst) s = .next { s with mod :=
    (s.mod.setRun g (s.mod.nextRun g)) }) ∧
  (∀ (s : State) (g r : Nat), s.mod.At g 0x38 r → exec (.lgCeq g r) s = .next { s with mod :=
    (s.mod.setRun g { s.mod.nextRun g with a := (s.mod.engine g).run.w == s.mod.wordReg g r }) }) ∧
  (∀ (s : State) (g r : Nat), s.mod.At g 0x39 r → exec (.lgCne g r) s = .next { s with mod :=
    (s.mod.setRun g { s.mod.nextRun g with a := (s.mod.engine g).run.w != s.mod.wordReg g r }) }) ∧
  (∀ (s : State) (g r : Nat), s.mod.At g 0x3A r → exec (.lgCgt g r) s = .next { s with mod :=
    (s.mod.setRun g { s.mod.nextRun g with a := decide ((s.mod.wordReg g r).toInt < (s.mod.engine g).run.w.toInt) }) }) ∧
  (∀ (s : State) (g r : Nat), s.mod.At g 0x3B r → exec (.lgCge g r) s = .next { s with mod :=
    (s.mod.setRun g { s.mod.nextRun g with a := decide ((s.mod.wordReg g r).toInt ≤ (s.mod.engine g).run.w.toInt) }) }) ∧
  (∀ (s : State) (g r : Nat), s.mod.At g 0x3C r → exec (.lgClt g r) s = .next { s with mod :=
    (s.mod.setRun g { s.mod.nextRun g with a := decide ((s.mod.engine g).run.w.toInt < (s.mod.wordReg g r).toInt) }) }) ∧
  (∀ (s : State) (g r : Nat), s.mod.At g 0x3D r → exec (.lgCle g r) s = .next { s with mod :=
    (s.mod.setRun g { s.mod.nextRun g with a := decide ((s.mod.engine g).run.w.toInt ≤ (s.mod.wordReg g r).toInt) }) }) ∧
  (∀ (m : Mod) (g pass : Nat), Table.wf 0 (m.engine g).words = true → Table.wf 0 (m.passWords g pass) = true ∧
    Table.get (m.passWords g pass) 0 0xF00 = BitVec.ofNat 32 (m.k % 2 ^ 32) ∧
    Table.get (m.passWords g pass) 0 0xF01 = BitVec.ofNat 32 (m.k / 2 ^ 32 % 2 ^ 16) ∧ Table.get (m.passWords g pass) 0 0xF02 = BitVec.ofNat 32 m.tick.q ∧
    Table.get (m.passWords g pass) 0 0xF03 = BitVec.ofNat 32 pass ∧
    ∀ r, r < 0xF00 ∨ 0xF03 < r → Table.get (m.passWords g pass) 0 r = m.wordReg g r)

/-- The passes, by R19, R20, R161, R162, R172 and R175. LOGIC_PASS_L1 after phase E, and LOGIC_PASS_L2 once in phase L2, take the snapshot and begin the pass
of every RUNNING engine that has one; out of their place neither does anything. A pass whose
budget is used up without END stops: nothing it wrote is committed, its markers are 0 and its owned bits safe, the largest number of instructions used
is kept, and the engine is FAULTED with event 0x0602; the end of the phase does the same to every engine that has not reached END. With AUTOSTART an engine that is STOPPED starts at the tick at which the module first takes part in
the vote, before its phase L1, and at no other. -/
def Obligations.LogicPasses : Prop :=
  (∀ (s : State) (m : Mod), s.mod.Runs → s.mod.inPhase .E = true → m = s.mod.each (List.range 16) (fun m g => l1Engine g m) →
    exec .logicPassL1 s = .next { s with mod := (({ m with tick := { m.tick with phase := .L1 }, logic := { m.logic with snap := m.bits } } : Mod).each
      (List.range 16) (fun m g => beginPass 1 g m)) }) ∧
  (∀ (s : State), s.mod.Runs → s.mod.inPhase .L2 = true → s.mod.logic.l2 = false →
    exec .logicPassL2 s = .next { s with mod := (({ s.mod with logic := { s.mod.logic with snap := s.mod.bits, l2 := true } } : Mod).each
      (List.range 16) (fun m g => beginPass 2 g m)) }) ∧
  (∀ (s : State), s.mod.inPhase .E = false → exec .logicPassL1 s = .next s) ∧
  (∀ (s : State), s.mod.inPhase .L2 = false ∨ s.mod.logic.l2 = true → exec .logicPassL2 s = .next s) ∧
  (∀ (m : Mod) (pass g : Nat), m.engState g = enRunning → m.engineFrozen g = false → m.passRuns g pass = true → (m.engine g).errDue = false →
    beginPass pass g m = m.setEngine g { m.engine g with
      run := { pass := pass, pc := liSect (m.engine g).image (m.entry g pass) }, errDue := false, idleSaid := false, words := m.passWords g pass }) ∧
  (∀ (s : State) (g : Nat) (m : Mod), s.mod.Runs → (s.mod.engine g).run.pass ≠ 0 →
    s.mod.budget g (s.mod.engine g).run.pass ≤ (s.mod.engine g).run.used → m = ((s.mod.clearMarkers g).safeBits g true).setRun g {} →
    exec (.passOverrun g) s = .next { s with mod :=
      ((((((m.set 0x581008 (s.mod.engine g).run.pass g).set 0x581009 m.k g).set 0x58100A (s.mod.engine g).run.pc g).raiseTo
        (if (s.mod.engine g).run.pass = 1 then 0x58100B else 0x58100C) (s.mod.engine g).run.used g).setEngState g enFaulted).raise
        0x0602 [g, (s.mod.engine g).run.pass, (s.mod.engine g).run.pc, m.k]) }) ∧
  (∀ (m : Mod), (∀ g, g < 16 → (m.engine g).run.pass = 0) → m.endPasses = m) ∧
  (∀ (m : Mod) (g : Nat), g < 16 → (m.engine g).run.pass ≠ 0 → (∀ h, h < g → (m.engine h).run.pass = 0) → m.endPasses =
    (m.tripPass g).each ((List.range' (g + 1) (15 - g))) (fun m h => if (m.engine h).run.pass = 0 then m else m.tripPass h)) ∧
  (∀ (s : State) (g : Nat), (s.mod.engine g).run.pass = 0 ∨ (s.mod.engine g).run.used < s.mod.budget g (s.mod.engine g).run.pass →
    exec (.passOverrun g) s = .next s) ∧
  (∀ (s : State) (g : Nat), s.mod.Runs → s.mod.on 0x58100D g = true → s.mod.engState g = enStopped → s.mod.tick.running = true →
    s.mod.triad.firstVote = some s.mod.k → phaseCode s.mod.tick.phase < 3 → ownsClash (s.mod.engine g).own (s.mod.othersOwn g) = false →
    s.mod.on 0x581006 g = false → s.mod.Good →
    exec (.engineAutostart g) s = .next { s with mod :=
      (((s.mod.setEngState g enRunning).setEngine g { (s.mod.setEngState g enRunning).engine g with idleSaid := false }).raise
        0x0600 [g, 0, s.mod.k]) }) ∧
  (∀ (s : State) (g : Nat), s.mod.on 0x58100D g = false ∨ s.mod.engState g ≠ enStopped ∨ s.mod.triad.firstVote ≠ some s.mod.k ∨
    3 ≤ phaseCode s.mod.tick.phase → exec (.engineAutostart g) s = .next s)

/-- The images of the engines, by R170, R171 and R184: an image written while the engine is not RUNNING replaces the old one, and the engine is UNLOADED;
while it is RUNNING the write is refused with 0x0800_0022. CHECK of 1 starts the check; an image that passes takes an UNLOADED engine to STOPPED with
the image's ownership, one that fails raises event 0x0603. STORE keeps the image where the check has passed, and is otherwise refused with
0x0880_000C. -/
def Obligations.LogicImages : Prop :=
  (∀ (s : State) (p : Path) (g : Nat) (img : List Byte), s.mod.Serves p → g < 16 → img.length ≤ 165412 → s.mod.isMember = false ∨ s.mod.stopped = true →
    s.mod.engState g ≠ enRunning →
    exec (.logicImageWrite p g img) s = .next { s with mod := (putLogicImage g img false s.mod).report p 0 }) ∧
  (∀ (s : State) (p : Path) (g : Nat) (img : List Byte), s.mod.Serves p → g < 16 → img.length ≤ 165412 → s.mod.isMember = false ∨ s.mod.stopped = true →
    s.mod.engState g = enRunning →
    exec (.logicImageWrite p g img) s = .next { s with mod := s.mod.report p 0x08000022 }) ∧
  (∀ (s : State) (p : Path) (g : Nat), s.mod.Serves p → g < 16 →
    exec (.logicCheck p g 1) s = .next { s with mod := (s.mod.setEngine g { s.mod.engine g with checkPending := true }).report p 0 }) ∧
  (∀ (s : State) (g bits : Nat), s.mod.Runs → (s.mod.engine g).checkPending = true →
    bits = logicCheck g (s.mod.engine g).image (s.mod.loadedOwn g) (s.mod.engine g).viaPort → bits % 8192 ≠ 0 →
    exec (.logicCheckDone g) s = .next { s with mod :=
      (((s.mod.setEngine g { s.mod.engine g with checkPending := false }).set 0x581004 bits g).raise 0x0603 [g, bits]) }) ∧
  (∀ (s : State) (g bits : Nat) (m : Mod), s.mod.Runs → (s.mod.engine g).checkPending = true →
    bits = logicCheck g (s.mod.engine g).image (s.mod.loadedOwn g) (s.mod.engine g).viaPort → bits % 8192 = 0 →
    m = ((s.mod.setEngine g { s.mod.engine g with checkPending := false }).set 0x581004 (bits + 2 ^ 31) g).set 0x581010
      (field (s.mod.engine g).image ((s.mod.engine g).image.length - 4) 4) g → m.engState g = enUnloaded →
    exec (.logicCheckDone g) s = .next { s with mod := (loadEngine g m) }) ∧
  (∀ (s : State) (p : Path) (g : Nat), s.mod.Serves p → g < 16 → bit (s.mod.num 0x581004 g) 31 = true →
    exec (.logicStore p g 1) s = .next { s with mod := (({ s.mod with nv := { s.mod.nv with
      logic := Table.put s.mod.nv.logic g (s.mod.engine g).image } } : Mod).report p 0) }) ∧
  (∀ (s : State) (p : Path) (g : Nat), s.mod.Serves p → g < 16 → bit (s.mod.num 0x581004 g) 31 = false →
    exec (.logicStore p g 1) s = .next { s with mod := s.mod.report p 0x0880000C })

/-! ## Tenants -/

/-- Windows and the end of phase T, by R19, R20, R197, R201, R202 and R217. At the START of a window whose tenant is RUNNING, on a core that no window
holds, the background context is saved, the tenant's hgatp set, the window recorded, any reservation lost and the predictors cleared; a late entry is
counted. The first window begins phase T. At the exit the tenant's context is saved, the window is over, the reservation lost and the predictors cleared,
and with ISOLATE the L1 caches of the core are empty. The end of phase T begins phase L2 with the snapshot of every tenant bit. A window of a tenant
that is not RUNNING does not run. -/
def Obligations.WindowsSwitchTenants : Prop :=
  (∀ (s : State) (w : Nat) (late : Bool) (e : LastWin), s.mod.Runs → s.mod.Good → e = lastWin s.mod.activeLast w →
    s.mod.inPhase .T = true ∨ (s.mod.inPhase .L1 = true ∧ ∀ g, g < 16 → (s.mod.engine g).run.pass = 0) → w < 256 →
    e.en = true → s.mod.k % 2 ^ e.div = e.offset → s.mod.tnState e.tenant = tnRunning → (s.mod.hart e.core).winTenant = 0 → e.tenant ≠ 0 →
    ∃ t, exec (.windowEntry w late) s = .next t ∧ t.mod.tick.phase = .T ∧ t.mod.num 0x501001 e.core = 1 ∧ t.mod.num 0x501002 e.core = e.tenant ∧
      (t.mod.hart e.core).winTenant = e.tenant ∧ (t.mod.hart e.core).winIndex = w ∧ (t.mod.hart e.core).reserved = none ∧
      (t.mod.hart e.core).predictor = 0 ∧ (t.mod.hart e.core).returns = 0 ∧ (t.mod.hart e.core).stores = (s.mod.hart e.core).stores ∧
      (t.mod.hart e.core).hgatp = hgatpOf (s.mod.num 0x51000C e.tenant) e.tenant ∧
      ((t.mod.hart e.core).mode = .vs ∨ (t.mod.hart e.core).mode = .vu) ∧
      Memory.readN t.mod.mem (saveArea e.core) 2048 = slice (s.mod.hart e.core).ctx 0 2048 ∧
      t.mod.num 0x501003 e.core = (if late then min (s.mod.num 0x501003 e.core + 1) (objMax 0x501003) else s.mod.num 0x501003 e.core) ∧
      t.mod.raised = s.mod.raised ∧ t.mod.out = s.mod.out) ∧
  (∀ (s : State) (w : Nat) (late : Bool), s.mod.tnState (lastWin s.mod.activeLast w).tenant ≠ tnRunning → exec (.windowEntry w late) s = .next s) ∧
  (∀ (s : State) (w j : Nat), s.mod.Runs → s.mod.Good → j = (lastWin s.mod.activeLast w).core → (s.mod.hart j).winTenant ≠ 0 →
    (s.mod.hart j).winIndex = w →
    ∃ t, exec (.windowExit w) s = .next t ∧ t.mod.num 0x501001 j = 0 ∧ t.mod.num 0x501002 j = 0 ∧
      (∃ x : HartSt, t.mod.ten.harts = Table.set (if s.mod.num 0x510008 (s.mod.hart j).winTenant = 1 then (s.mod.isolate j).ten.harts else s.mod.ten.harts)
          {} j x ∧ x.winTenant = 0 ∧ x.reserved = none ∧ x.predictor = 0 ∧ x.returns = 0 ∧ x.stores = (s.mod.hart j).stores ∧
        (s.mod.num 0x510008 (s.mod.hart j).winTenant = 1 → x.l1d = [] ∧ x.l1i = [])) ∧
      Memory.readN t.mod.mem ((s.mod.tnSram (s.mod.hart j).winTenant).1 + 0x800 * j) 2048 = slice (s.mod.hart j).ctx 0 2048 ∧
      (∀ o i, objKey o i ≠ objKey 0x501001 j → objKey o i ≠ objKey 0x501002 j → t.mod.val o i = s.mod.val o i) ∧
      t.mod.raised = s.mod.raised ∧ t.mod.out = s.mod.out) ∧
  (∀ (s : State), s.mod.Runs → s.mod.inPhase .T = true → exec .phaseTEnd s = .next { s with mod :=
    (({ s.mod with bits := s.mod.bits.filter (fun e => !decide (0x90000 ≤ e.1 ∧ e.1 < 0xA0000)), tick := { s.mod.tick with phase := .L2 } } : Mod).each
      s.mod.tenantsOn (fun m t => m.setBits (m.tbitsOf t))) }) ∧
  (∀ (s : State), s.mod.inPhase .L1 = false → s.mod.inPhase .T = false → exec .phaseTEnd s = .next s)

/-- Rings, by R194, R209 and R210. A write of TXQ_TAIL has the module take the descriptors from the head up to it, each read by the tenant's DMA. The frame
of a descriptor taken, read by the same DMA, goes to switch port 800 + t - 1 with a class of 2 at least where it passes the checks; one that fails them is
a violation, one that the DMA cannot read an access fault, and both complete with an error. The oldest descriptor taken completes with OWN cleared and DONE
set, ERR where its frame failed, and identity 7. A frame that arrives goes into the next free descriptor with its length, DONE, its class and its
timestamp, and identity 8; without a ring or without a free descriptor it is dropped. -/
def Obligations.RingsMoveFrames : Prop :=
  (∀ (s : State) (t tail now : Nat), s.mod.Runs → s.mod.tnState t ≠ tnEmpty → exec (.txTailWrite t ⟨tail, now⟩) s = .next { s with mod :=
    (takeTxs t now 4096 (s.mod.setTenant t { s.mod.tenant t with tx := { (s.mod.tenant t).tx with tail := tail % 2 ^ 32 } })) }) ∧
  (∀ (m : Mod) (t now n : Nat) (d : List Byte), (m.tenant t).tx.size ≠ 0 → (m.tenant t).tx.head ≠ (m.tenant t).tx.tail % (m.tenant t).tx.size →
    m.violLimited t = false → m.tnState t = tnRunning → m.dmaRead t ((m.tenant t).tx.base + 16 * (m.tenant t).tx.head) 16 = some d →
    takeTxs t now (n + 1) m = takeTxs t now n (takeTx t now ((m.tenant t).tx.base + 16 * (m.tenant t).tx.head) d m)) ∧
  (∀ (m : Mod) (t now n : Nat), (m.tenant t).tx.size = 0 ∨ (m.tenant t).tx.head = (m.tenant t).tx.tail % (m.tenant t).tx.size ∨
    m.tnState t ≠ tnRunning → takeTxs t now n m = m) ∧
  (∀ (m n : Mod) (t now a : Nat) (d f : List Byte),
    n = m.setTenant t { m.tenant t with tx := { (m.tenant t).tx with head := ((m.tenant t).tx.head + 1) % (m.tenant t).tx.size } } →
    n.dmaRead t (field d 0 8) (field d 8 2) = some f →
    (n.ringCheck t f = 0 → takeTx t now a d m =
      switchClassify { port := 799 + t, bytes := f, ts := now, cls := max 2 (field d 11 1) }
        (n.setTenant t { n.tenant t with txTaken := (m.tenant t).txTaken ++ [(a, true)] })) ∧
    (n.ringCheck t f ≠ 0 → takeTx t now a d m =
      (n.setTenant t { n.tenant t with txTaken := (m.tenant t).txTaken ++ [(a, false)] }).violation t (n.ringCheck t f) 0xFF)) ∧
  (∀ (m n : Mod) (t now a : Nat) (d : List Byte),
    n = m.setTenant t { m.tenant t with tx := { (m.tenant t).tx with head := ((m.tenant t).tx.head + 1) % (m.tenant t).tx.size } } →
    n.dmaRead t (field d 0 8) (field d 8 2) = none →
    takeTx t now a d m = (n.setTenant t { n.tenant t with txTaken := (m.tenant t).txTaken ++ [(a, false)] }).dmaFault t 5 (field d 0 8)) ∧
  (∀ (s : State) (t a pa : Nat) (ok : Bool) (l : List (Nat × Bool)) (m : Mod), s.mod.Runs → (s.mod.tenant t).txTaken = (a, ok) :: l →
    m = s.mod.setTenant t { s.mod.tenant t with txTaken := l } → m.dmaDest t (a + 10) 1 = some pa →
    exec (.txDescriptorDone t) s = .next { s with mod :=
      ((m.dmaPoke pa [(Memory.read m.mem pa &&& 0xF8) ||| 2 ||| (if ok then 0 else 4)]).identity t 7) }) ∧
  (∀ (s : State) (t ts cls pa fa : Nat) (f : List Byte) (m : Mod), s.mod.Runs → s.mod.tnState t ≠ tnEmpty → (s.mod.tenant t).rx.size ≠ 0 →
    (s.mod.tenant t).rx.head ≠ (s.mod.tenant t).rx.tail % (s.mod.tenant t).rx.size →
    s.mod.dmaDest t ((s.mod.tenant t).rx.base + 16 * (s.mod.tenant t).rx.head) 16 = some pa →
    s.mod.dmaDest t (leNat (Memory.readN s.mod.mem pa 8)) f.length = some fa →
    m = (s.mod.dmaPoke fa f).dmaPoke (pa + 8) (toLE 2 f.length ++ [(Memory.read (s.mod.dmaPoke fa f).mem (pa + 10) &&& 0xF8) ||| 2] ++ toLE 1 cls ++
      toLE 4 (ts % 2 ^ 32)) →
    exec (.rxFrameDelivery t ⟨f, cls⟩ ts) s = .next { s with mod := ((m.setTenant t { s.mod.tenant t with
      rx := { (s.mod.tenant t).rx with head := ((s.mod.tenant t).rx.head + 1) % (s.mod.tenant t).rx.size } }).identity t 8) }) ∧
  (∀ (s : State) (t ts cls : Nat) (f : List Byte), (s.mod.tenant t).rx.size = 0 ∨
    (s.mod.tenant t).rx.head = (s.mod.tenant t).rx.tail % (s.mod.tenant t).rx.size → exec (.rxFrameDelivery t ⟨f, cls⟩ ts) s = .next s)

/-- Publication slots, SC0 buffers and mailboxes, by R208, R211, R212, R214, R215 and R219 to R221. A commit with the slot's token and a length that fits begins the copy; a wrong token
fails with result 2 and a wrong length with result 3, each counted and a violation; a commit while BUSY is ignored and counted. A copy that passes R215
stands for its tick. An SC0 commit is accepted until phase V of its tick. A post into an empty mailbox slot stamps it, sets it full, counts it and signals
the other side; into a full one it is ignored and counted. A release empties the slot and signals. A request that names another generation is stale. Bits
written 1 in VF_IRQ_LATCH are cleared. -/
def Obligations.SlotsAndMailboxes : Prop :=
  (∀ (s : State) (t u data : Nat), s.mod.Runs → s.mod.tnState t = tnRunning → u < s.mod.num 0x511108 t → (s.mod.pub (pubInst t u)).busy = false →
    bitsOf data 63 32 = s.mod.num 0x513005 (pubInst t u) → 60 ≤ data % 2 ^ 16 → data % 2 ^ 16 ≤ 1514 →
    data % 2 ^ 16 + 4 ≤ s.mod.num 0x51300B (pubInst t u) →
    exec (.pubCommit t u data) s = .next { s with mod := (s.mod.setPub (pubInst t u) { s.mod.pub (pubInst t u) with
      busy := true, copyLen := data % 2 ^ 16, copyTick := s.mod.commitTick }) }) ∧
  (∀ (s : State) (t u data : Nat), s.mod.Runs → s.mod.tnState t = tnRunning → u < s.mod.num 0x511108 t → (s.mod.pub (pubInst t u)).busy = true →
    exec (.pubCommit t u data) s = .next { s with mod := s.mod.bump 0x51300E (pubInst t u) }) ∧
  (∀ (s : State) (t u data : Nat), s.mod.Runs → s.mod.tnState t = tnRunning → u < s.mod.num 0x511108 t → (s.mod.pub (pubInst t u)).busy = false →
    bitsOf data 63 32 ≠ s.mod.num 0x513005 (pubInst t u) →
    exec (.pubCommit t u data) s = .next { s with mod :=
      ((s.mod.setPub (pubInst t u) { s.mod.pub (pubInst t u) with result := 2 }).bump 0x51300E (pubInst t u)).violation t 6 u }) ∧
  (∀ (s : State) (t u : Nat) (f : List Byte), s.mod.Runs → (s.mod.pub (pubInst t u)).busy = true →
    f = Memory.readN s.mod.mem (vfAt t + 0x10000 + 0x800 * u) (s.mod.pub (pubInst t u)).copyLen → s.mod.slotCheck t u f = 0 →
    Table.find? (s.mod.pub (pubInst t u)).standing (s.mod.pub (pubInst t u)).copyTick = none →
    exec (.pubCopyDone t u) s = .next { s with mod := (s.mod.setPub (pubInst t u) { s.mod.pub (pubInst t u) with
      busy := false, result := 1, standing := Table.put (s.mod.pub (pubInst t u)).standing (s.mod.pub (pubInst t u)).copyTick f }) }) ∧
  (∀ (s : State) (t u : Nat) (f : List Byte), s.mod.Runs → (s.mod.pub (pubInst t u)).busy = true →
    f = Memory.readN s.mod.mem (vfAt t + 0x10000 + 0x800 * u) (s.mod.pub (pubInst t u)).copyLen → s.mod.slotCheck t u f ≠ 0 →
    exec (.pubCopyDone t u) s = .next { s with mod := (((s.mod.setPub (pubInst t u) { s.mod.pub (pubInst t u) with
      busy := false, result := 3 }).bump 0x51300E (pubInst t u)).violation t (s.mod.slotCheck t u f) u) }) ∧
  (∀ (s : State) (b data : Nat), s.mod.Runs → b < 256 → nextTickLow s.mod.k (bitsOf data 63 32) ≠ s.mod.k ∨ s.mod.inVP = false →
    nextTickLow s.mod.k (bitsOf data 63 32) ≤ s.mod.k + 2 ^ 20 → data % 2 ^ 16 + 4 ≤ s.mod.num 0x516001 b → 60 ≤ data % 2 ^ 16 → data % 2 ^ 16 ≤ 1514 →
    exec (.sc0Commit b data) s = .next { s with mod := (s.mod.setSc0 b { s.mod.sc0 b with
      busy := true, copyLen := data % 2 ^ 16, copyTick := nextTickLow s.mod.k (bitsOf data 63 32) }) }) ∧
  (∀ (s : State) (b data : Nat), s.mod.Runs → b < 256 → nextTickLow s.mod.k (bitsOf data 63 32) = s.mod.k → s.mod.inVP = true →
    exec (.sc0Commit b data) s = .next { s with mod := (s.mod.setSc0 b { s.mod.sc0 b with result := 2 }).bump 0x516003 b }) ∧
  (∀ (s : State) (b : Nat), s.mod.Runs → (s.mod.sc0 b).busy = true →
    exec (.sc0CopyDone b) s = .next { s with mod := (s.mod.setSc0 b { s.mod.sc0 b with
      busy := false, result := 1, standing := Table.put (s.mod.sc0 b).standing (s.mod.sc0 b).copyTick
        (Memory.readN s.mod.mem (sc0At b) (s.mod.sc0 b).copyLen) }) }) ∧
  (∀ (s : State) (t i : Nat) (m : Mod), s.mod.Runs → 0 < t → t ≤ 64 → s.mod.tnState t ≠ tnEmpty → i < 16 → bit (s.mod.tenant t).mbOut i = false →
    m = s.mod.stampSlot (mbAt t false i) t →
    exec (.mbOutPost t i (s.mod.num 0x510002 t)) s = .next { s with mod :=
      (((m.setTenant t { m.tenant t with mbOut := setBit (m.tenant t).mbOut i true }).bump 0x514002 t).supIdentity t
        (((m.setTenant t { m.tenant t with mbOut := setBit (m.tenant t).mbOut i true })).num 0x514005 t)) }) ∧
  (∀ (s : State) (t i : Nat) (m : Mod), s.mod.Runs → 0 < t → t ≤ 64 → s.mod.tnState t ≠ tnEmpty → i < 16 → bit (s.mod.tenant t).mbIn i = false →
    m = s.mod.stampSlot (mbAt t true i) t →
    exec (.mbPost t i (s.mod.num 0x510002 t)) s = .next { s with mod :=
      (((m.setTenant t { m.tenant t with mbIn := setBit (m.tenant t).mbIn i true }).bump 0x514001 t).identity t 2) }) ∧
  (∀ (s : State) (t i : Nat), s.mod.Runs → 0 < t → t ≤ 64 → s.mod.tnState t ≠ tnEmpty → i < 16 → bit (s.mod.tenant t).mbOut i = true →
    exec (.mbOutPost t i (s.mod.num 0x510002 t)) s = .next { s with mod := s.mod.bump 0x514004 t }) ∧
  (∀ (s : State) (t i : Nat), s.mod.Runs → 0 < t → t ≤ 64 → s.mod.tnState t ≠ tnEmpty → i < 16 → bit (s.mod.tenant t).mbIn i = true →
    exec (.mbPost t i (s.mod.num 0x510002 t)) s = .next { s with mod := s.mod.bump 0x514004 t }) ∧
  (∀ (s : State) (t i : Nat), s.mod.Runs → 0 < t → t ≤ 64 → s.mod.tnState t ≠ tnEmpty → i < 16 →
    exec (.mbInRelease t i (s.mod.num 0x510002 t)) s = .next { s with mod :=
      ((s.mod.setTenant t { s.mod.tenant t with mbIn := setBit (s.mod.tenant t).mbIn i false }).supIdentity t 3) }) ∧
  (∀ (s : State) (t i : Nat), s.mod.Runs → 0 < t → t ≤ 64 → s.mod.tnState t ≠ tnEmpty → i < 16 →
    exec (.mbRelease t i (s.mod.num 0x510002 t)) s = .next { s with mod :=
      ((s.mod.setTenant t { s.mod.tenant t with mbOut := setBit (s.mod.tenant t).mbOut i false }).identity t 3) }) ∧
  (∀ (s : State) (t i gen : Nat), s.mod.Runs → 0 < t → t ≤ 64 → i < 16 → gen ≠ s.mod.num 0x510002 t →
    exec (.mbPost t i gen) s = .next { s with mod := s.mod.stale t true i gen } ∧
    exec (.mbInRelease t i gen) s = .next { s with mod := s.mod.stale t true i gen } ∧
    exec (.mbOutPost t i gen) s = .next { s with mod := s.mod.stale t false i gen } ∧
    exec (.mbRelease t i gen) s = .next { s with mod := s.mod.stale t false i gen }) ∧
  (∀ (s : State) (t mask : Nat), s.mod.Runs → exec (.vfIrqLatchClear t mask) s = .next { s with mod := (s.mod.setTenant t { s.mod.tenant t with
    irqLatch := (List.range 16).foldl (fun v i => if bit mask i then setBit v i false else v) (s.mod.tenant t).irqLatch }) })

/-- What a tenant's cores and memory see, by R188, R194, R200, R206, R216 and R224: VIOL_CLEAR of 1 clears the count; the oldest range being cleared reads
0 and is free again; an absent extension traps with cause 2; a return into a guest whose tenant is FROZEN traps, any other that the mode may execute
takes place, and one that it may not traps; a read of MRAM_SYNC makes the hart's writes durable and loads 1. A trap takes the hart of that access, and no
other, to the mode that takes it, with the pc, the cause and the value saved and the pc at the vector (what it saves and where is the privileged
architecture's that R188 names, log entry 213). -/
def Obligations.TenantsAndHarts : Prop :=
  (∀ (s : State) (p : Path) (t : Nat), s.mod.Serves p → 0 < t → t ≤ 64 →
    exec (.violClear p t 1) s = .next { s with mod := (s.mod.set 0x51000A 0 t).report p 0 }) ∧
  (∀ (s : State) (b n : Nat) (l : List (Nat × Nat)), s.mod.Runs → s.mod.ten.clearing = (b, n) :: l →
    exec .sramClearDone s = .next { s with mod :=
      ((({ s.mod with ten := { s.mod.ten with clearing := l } } : Mod).wipe (sramAt + b) n).tenantTotals) }) ∧
  (∀ (s : State) (j w : Nat), s.mod.Runs → exec (.illegalInstruction j w) s = .next { s with mod := s.mod.trap j 2 w false }) ∧
  (∀ (s : State) (j w : Nat) (b : Bool) (mode : HartMode), s.mod.Runs → (s.mod.hart j).returnMode w = some mode → isGuest mode = true →
    s.mod.tnState (vmidOf (s.mod.hart j).hgatp) = tnFrozen →
    exec (.frozenGuestReturn j w b) s = .next { s with mod := s.mod.trap j 2 (if b then w else 0) false }) ∧
  (∀ (s : State) (j w : Nat) (b : Bool) (mode : HartMode), s.mod.Runs → (s.mod.hart j).returnMode w = some mode →
    isGuest mode = false ∨ s.mod.tnState (vmidOf (s.mod.hart j).hgatp) ≠ tnFrozen →
    exec (.frozenGuestReturn j w b) s = .next { s with mod := s.mod.setHart j ((s.mod.hart j).return w mode) }) ∧
  (∀ (s : State) (j w : Nat) (b : Bool), s.mod.Runs → (s.mod.hart j).returnMode w = none →
    exec (.frozenGuestReturn j w b) s = .next { s with mod := s.mod.trap j (if isGuest (s.mod.hart j).mode then 22 else 2) (if b then w else 0) false }) ∧
  (∀ (m : Mod) (j c v : Nat) (hs : Bool), (m.trap j c v hs).ten.harts =
    Table.set m.ten.harts {} j { (m.hart j).enter ((m.hart j).trapMode c hs) c v with stalled := none } ∧ (hs = true → (m.hart j).trapMode c hs = .hs) ∧
    (m.trap j c v hs).mem = m.mem ∧ (m.trap j c v hs).dict = m.dict ∧ (m.trap j c v hs).bits = m.bits) ∧
  (∀ (h : HartSt) (c v : Nat), (h.enter .hs c v).mode = .hs ∧ (h.enter .hs c v).reg 0 = vectorAt (h.csrAt 0x105) c % 2 ^ 64 ∧
    (h.enter .m c v).mode = .m ∧ (h.enter .m c v).reg 0 = vectorAt (h.csrAt 0x305) c % 2 ^ 64 ∧
    (h.enter .vs c v).mode = .vs ∧ (h.enter .vs c v).reg 0x248 = h.reg 0 % 2 ^ 64 ∧ (h.enter .vs c v).reg 0x250 = c % 2 ^ 64 ∧
    (h.enter .vs c v).reg 0x258 = v % 2 ^ 64 ∧ (h.enter .vs c v).reg 0 = vectorAt (h.reg 0x238) c % 2 ^ 64 ∧ (h.enter .vs c v).csr = h.csr) ∧
  (∀ (h : HartSt) (c v : Nat), Table.wf 0 h.csr = true →
    (h.enter .hs c v).csrAt 0x141 = h.reg 0 % 2 ^ 64 ∧ (h.enter .hs c v).csrAt 0x142 = c % 2 ^ 64 ∧ (h.enter .hs c v).csrAt 0x143 = v % 2 ^ 64 ∧
    (h.enter .m c v).csrAt 0x341 = h.reg 0 % 2 ^ 64 ∧ (h.enter .m c v).csrAt 0x342 = c % 2 ^ 64 ∧ (h.enter .m c v).csrAt 0x343 = v % 2 ^ 64 ∧
    Table.wf 0 (h.enter .hs c v).csr = true ∧ Table.wf 0 (h.enter .m c v).csr = true) ∧
  (∀ (s : State) (j : Nat), s.mod.Runs →
    exec (.mramSyncRead j) s = .next { s with mod := s.mod.setHart j { s.mod.hart j with mramPend := [], loaded := [1, 0, 0, 0] } })

/-- A tenant's submission through its port, by R208, R218 and R461: one that the port accepts for a target in range is BUSY, with the next identifier of the
tenant, and becomes the module's own copy of a KIND 2 commit; one that is barred is DONE and REFUSED at once; while the last one is BUSY nothing
happens. -/
def Obligations.TenantsSubmit : Prop :=
  (∀ (s : State) (t o id : Nat) (v : Val) (m : Mod), s.mod.Runs → 0 < t → t ≤ 64 → s.mod.tnState t ≠ tnEmpty → bit (s.mod.tenant t).dp.status 31 = false →
    s.mod.portValue t = (0, v) → s.mod.submitBar (s.mod.tenant t).dp.tick = 0 →
    o = (s.mod.tenant t).dp.addr / 2 ^ 16 * 256 + (s.mod.tenant t).dp.addr / 256 % 256 →
    id = 0xFF000000 + t * 2 ^ 16 + ((s.mod.tenant t).submits + 1) % 2 ^ 16 →
    m = s.mod.setTenant t { s.mod.tenant t with submits := (s.mod.tenant t).submits + 1, dpCommit := id, dp := { (s.mod.tenant t).dp with status := 2 ^ 31, abort := 0 } } →
    exec (.tenantDpSubmit t) s = .next { s with mod := (m.submitOwn {
      id := id, kind := 2, originRank := 0, path := 3, pathNo := pathNo (.tenant t), target := (s.mod.tenant t).dp.tick,
      entries := [{ obj := o, sel := (s.mod.tenant t).dp.instSel, val := v }] }) }) ∧
  (∀ (s : State) (t : Nat) (v : Val), s.mod.Runs → 0 < t → t ≤ 64 → s.mod.tnState t ≠ tnEmpty → bit (s.mod.tenant t).dp.status 31 = false →
    s.mod.portValue t = (0, v) → s.mod.submitBar (s.mod.tenant t).dp.tick ≠ 0 →
    exec (.tenantDpSubmit t) s = .next { s with mod := s.mod.submitRefused t (s.mod.submitBar (s.mod.tenant t).dp.tick) }) ∧
  (∀ (s : State) (t : Nat), bit (s.mod.tenant t).dp.status 31 = true → exec (.tenantDpSubmit t) s = .next s)

/-- Tenant images, by R227, R230 and R232. SAVE of 1 begins the image of a tenant FROZEN with kind ALL, any other value and any other tenant is refused; a
segment read gives its next octets and, with the last, ends the save with event 0x0520; without a save under way it is refused with 0x0880_000D. A segment
written at offset 0 begins an image, one at the end of what has come joins it, and one out of order is refused with 0x0880_000D; with the last the
image is checked and RESULT reports it, and an image refused is dropped, the staged SRAM cleared, event 0x0521. -/
def Obligations.TenantImages : Prop :=
  (∀ (s : State) (p : Path), s.mod.Serves p → s.mod.frozenAll (s.mod.num 0x515001) = true → s.mod.num 0x515003 < 2 →
    exec (.imageSave p 1) s = .next { s with mod :=
      (({ s.mod with ten := { s.mod.ten with readPos := 0, saving := s.mod.num 0x515001 } } : Mod).set 0x515003 1).report p 0 }) ∧
  (∀ (s : State) (p : Path), s.mod.Serves p → s.mod.frozenAll (s.mod.num 0x515001) = false →
    exec (.imageSave p 1) s = .next { s with mod := s.mod.report p 0x08000022 }) ∧
  (∀ (s : State) (p : Path) (v : Nat), s.mod.Serves p → v ≠ 1 → exec (.imageSave p v) s = .next { s with mod := s.mod.report p 0x06090030 }) ∧
  (∀ (s : State) (p : Path) (n : Nat) (img : List Byte), s.mod.Reaches p → s.mod.num 0x515003 = 1 → s.mod.frozenAll s.mod.ten.saving = true →
    img = s.mod.tenantImage s.mod.ten.saving → s.mod.ten.readPos + n < img.length →
    exec (.imageSegmentRead p n) s = .next { s with mod := ((({ s.mod with ten := { s.mod.ten with readPos := s.mod.ten.readPos + n } } : Mod).emit
      (.data ((img.drop s.mod.ten.readPos).take n))).report p 0) }) ∧
  (∀ (s : State) (p : Path) (n : Nat) (img : List Byte) (m : Mod), s.mod.Reaches p → s.mod.num 0x515003 = 1 →
    s.mod.frozenAll s.mod.ten.saving = true → img = s.mod.tenantImage s.mod.ten.saving → img.length ≤ s.mod.ten.readPos + n →
    m = ({ s.mod with ten := { s.mod.ten with readPos := s.mod.ten.readPos + n } } : Mod).emit (.data ((img.drop s.mod.ten.readPos).take n)) →
    exec (.imageSegmentRead p n) s = .next { s with mod :=
      (((({ m with ten := { m.ten with saving := 0 } } : Mod).set 0x515003 0).raise 0x0520 [s.mod.ten.saving, img.length]).report p 0) }) ∧
  (∀ (s : State) (p : Path) (n : Nat), s.mod.Reaches p → s.mod.num 0x515003 ≠ 1 →
    exec (.imageSegmentRead p n) s = .next { s with mod := s.mod.report p 0x0880000D }) ∧
  (∀ (s : State) (p : Path) (off : Nat) (bs : List Byte), s.mod.Serves p → 0 < off → off = s.mod.ten.loadBuf.length →
    exec (.imageSegmentWrite p off bs false) s = .next { s with mod :=
      ((({ s.mod with ten := { s.mod.ten with loadBuf := s.mod.ten.loadBuf ++ bs } } : Mod).set 0x515003 2).report p 0) }) ∧
  (∀ (s : State) (p : Path) (bs : List Byte), s.mod.Serves p →
    exec (.imageSegmentWrite p 0 bs false) s = .next { s with mod :=
      ((({ s.mod with ten := { s.mod.ten with loadBuf := bs } } : Mod).set 0x515003 2).report p 0) }) ∧
  (∀ (s : State) (p : Path) (off : Nat) (bs img : List Byte) (m : Mod), s.mod.Serves p → off = 0 ∨ off = s.mod.ten.loadBuf.length →
    img = (if off = 0 then bs else s.mod.ten.loadBuf ++ bs) →
    m = ((({ s.mod with ten := { s.mod.ten with loadBuf := img } } : Mod).set 0x515003 2).report p 0) → bit (m.restoreCheck p img) 31 = true →
    exec (.imageSegmentWrite p off bs true) s = .next { s with mod := (m.set 0x515007 (m.restoreCheck p img)).set 0x515003 0 }) ∧
  (∀ (s : State) (p : Path) (off : Nat) (bs img : List Byte) (m n : Mod), s.mod.Serves p → off = 0 ∨ off = s.mod.ten.loadBuf.length →
    img = (if off = 0 then bs else s.mod.ten.loadBuf ++ bs) →
    m = ((({ s.mod with ten := { s.mod.ten with loadBuf := img } } : Mod).set 0x515003 2).report p 0) → bit (m.restoreCheck p img) 31 = false →
    n = (m.set 0x515007 (m.restoreCheck p img)).set 0x515003 0 →
    exec (.imageSegmentWrite p off bs true) s = .next { s with mod :=
      ((({ n with ten := { n.ten with loadBuf := [] } } : Mod).wipe (sramAt + n.stagedNum p 0x511001 (field img 7 1))
        (n.stagedNum p 0x511002 (field img 7 1))).raise 0x0521 [field img 7 1, m.restoreCheck p img]) }) ∧
  (∀ (s : State) (p : Path) (off : Nat) (bs : List Byte) (last : Bool), s.mod.Serves p → 0 < off → off ≠ s.mod.ten.loadBuf.length →
    exec (.imageSegmentWrite p off bs last) s = .next { s with mod := s.mod.report p 0x0880000D })

/-- A core's access to memory, by R189, R191, R194, R198 and R199, after the buffered stores that have drained before it. A store to cacheable memory that no
check stops enters the store buffer and changes no memory yet; when the buffer drains, its octets stand at its address and nothing else has changed. A
load gives the octets that stand there with the hart's own buffered stores over them, and changes no memory; a store-conditional without the reservation
stores nothing. An access that a check stops traps with the cause and its address. A store to a device register stops the
model: R463 keeps its effect out of the interface. -/
def Obligations.CoreAccesses : Prop :=
  (∀ (s : State) (j a n : Nat) (bs : List Byte) (env : Env) (m : Mod), s.mod.coreRuns j .store a n = true → m = s.mod.drainSome env →
    m.coreTrap j .store a n = none → regionOf a = .tenantSram ∨ regionOf a = .supSram ∨ regionOf a = .clicker →
    (m.hart j).stores.length + (storeEntries a (slice bs 0 n)).length ≤ 8 →
    ∃ t, exec (.coreMemoryAccess j .store a n bs env) s = .next t ∧
      (t.mod.hart j).stores = (m.hart j).stores ++ storeEntries a (slice bs 0 n) ∧ t.mod.mem = m.mem ∧
      t.mod.dict = m.dict ∧ t.mod.raised = m.raised ∧ t.mod.out = m.out ∧ t.mod.bits = m.bits) ∧
  (∀ (m : Mod) (j a : Nat) (bs : List Byte) (env : Env), m.Good → (m.hart j).stores = [(a, bs)] →
    regionOf a = .tenantSram ∨ regionOf a = .supSram ∨ regionOf a = .clicker → inRegion (regionOf a) a bs.length = true →
    Memory.readN (m.drainAll env j).mem a bs.length = bs ∧
    (∀ x, x < a ∨ a + bs.length ≤ x → Memory.read (m.drainAll env j).mem x = Memory.read m.mem x) ∧
    (m.drainAll env j).dict = m.dict ∧ (m.drainAll env j).raised = m.raised ∧ (m.drainAll env j).out = m.out) ∧
  (∀ (s : State) (j a n : Nat) (bs : List Byte) (env : Env) (m : Mod), s.mod.coreRuns j .load a n = true → m = s.mod.drainSome env →
    m.coreTrap j .load a n = none → regionOf a = .tenantSram ∨ regionOf a = .supSram ∨ regionOf a = .clicker → inRegion (regionOf a) a n = true →
    ∃ t, exec (.coreMemoryAccess j .load a n bs env) s = .next t ∧ (t.mod.hart j).loaded = (m.hart j).forwarded a (Memory.readN m.mem a n) ∧
      t.mod.mem = m.mem ∧ t.mod.dict = m.dict ∧ t.mod.raised = m.raised ∧ t.mod.out = m.out ∧ t.mod.bits = m.bits) ∧
  (∀ (h : HartSt) (a : Nat) (bs : List Byte), h.stores = [] → h.forwarded a bs = bs) ∧
  (∀ (h : HartSt) (a : Nat) (bs new : List Byte), h.stores = [(a, new)] → new.length = bs.length → h.forwarded a bs = new) ∧
  (∀ (s : State) (j a n : Nat) (bs : List Byte) (env : Env) (m : Mod), s.mod.coreRuns j .sc a n = true → m = s.mod.drainSome env →
    m.coreTrap j .sc a n = none → (m.hart j).stores = [] → (m.hart j).reserved ≠ some a → regionOf a ≠ .device →
    exec (.coreMemoryAccess j .sc a n bs env) s =
      .next { s with mod := (m.setHart j { m.hart j with reserved := none, scOk := false }).cached j .sc a n }) ∧
  (∀ (m : Mod) (j a n : Nat) (acc : CoreAccess), (m.cached j acc a n).mem = m.mem ∧ (m.cached j acc a n).dict = m.dict ∧
    (m.cached j acc a n).raised = m.raised ∧ (m.cached j acc a n).out = m.out) ∧
  (∀ (s : State) (j a n cause : Nat) (hs : Bool) (acc : CoreAccess) (bs : List Byte) (env : Env) (m : Mod), s.mod.coreRuns j acc a n = true →
    s.mod.coreTrap j acc a n = some (cause, hs) → m = s.mod.drainSome env → m.coreTrap j acc a n = some (cause, hs) →
    exec (.coreMemoryAccess j acc a n bs env) s = .next { s with mod := m.trap j cause a hs }) ∧
  (∀ (m : Mod) (env : Env), (∀ e, e ∈ m.ten.harts → e.2.stores = []) → m.drainSome env = m) ∧
  (∀ (s : State) (j a n : Nat) (acc : CoreAccess) (bs : List Byte) (env : Env), s.mod.coreRuns j acc a n = true → s.mod.coreTrap j acc a n = none →
    accStores acc = true → regionOf a = .device → exec (.coreMemoryAccess j acc a n bs env) s = .fault .deviceRegister)

/-! ## The triad -/

/-- Member states, by R235 to R239, R268, R269 and R273. A 1 written to REJOIN takes a module in OUT or CONFLICT to SEEK. In SEEK, with no member for
FORM_WAIT and a peer that seeks with the same digest, the lower rank announces k_form = k + 4,800, and at k_form each of the two is a MEMBER, whose
AGREE of that tick leaves as a MEMBER's, with event 0x030B. A failed
attempt to resynchronise is counted, with event 0x0303, and the third leads to OUT. 48 shadow ticks make a MEMBER, with event 0x0300. The donor sends the
blocks of tenant SRAM as remote writes, its fence after them, and its state with it, to a joiner in RESYNC. -/
def Obligations.MemberStates : Prop :=
  (∀ (s : State) (p : Path), s.mod.Serves p → s.mod.Good → s.mod.mstate = msOut ∨ s.mod.mstate = msConflict → s.mod.stopped = false → s.mod.rank ≠ 0 →
    ∃ t, exec (.rejoinWrite p 1) s = .next t ∧ t.mod.mstate = msSeek ∧ t.mod.triad.attempts = 0 ∧ t.mod.triad.seekTicks = 0 ∧
      t.mod.triad.kForm = none ∧ t.mod.triad.drive ≠ .off ∧ t.mod.bits = s.mod.bits ∧ t.mod.mem = s.mod.mem) ∧
  (∀ (s : State) (r kf k q : Nat), s.mod.Runs → s.mod.mstate = msSeek → s.mod.num 0x600008 ≤ s.mod.triad.seekTicks → s.mod.triad.kForm = none →
    (Table.get s.mod.triad.peers {} r).mstate = msSeek → (Table.get s.mod.triad.peers {} r).digest = s.mod.settingsDigest → s.mod.rank < r →
    (∀ x, x = 1 ∨ x = 2 ∨ x = 3 → x = s.mod.rank ∨ s.mod.num 0x600102 x ≠ msMember) →
    exec (.formWaitExpiry r kf k q) s = .next { s with mod := (({ s.mod with triad := { s.mod.triad with
      kForm := some (s.mod.k + 4800), formPeer := r } } : Mod).emit (.formation (s.mod.k + 4800) s.mod.k)) }) ∧
  (∀ (s : State) (m n : Mod), s.mod.Runs → s.mod.mstate = msSeek → s.mod.triad.kForm = some s.mod.tick.k → s.mod.inPhase .I = true → s.mod.triad.stage = 0 →
    m = (s.mod.set 0x600006 s.mod.configDigest).freshTick → n = m.peerIs s.mod.triad.formPeer msMember →
    exec .formationTick s = .next { s with mod := (n.raise 0x030B [m.k, m.num 0x600101 s.mod.triad.formPeer]).becomeMember.noteVote.openTick }) ∧
  (∀ (s : State), s.mod.mstate ≠ msSeek ∨ s.mod.triad.kForm ≠ some s.mod.tick.k → exec .formationTick s = .next s) ∧
  (∀ (m : Mod), m.Good → m.becomeMember.mstate = msMember ∧ m.becomeMember.triad.attempts = 0 ∧ m.becomeMember.triad.kForm = none ∧
    m.becomeMember.num 0x602104 m.rank = 0 ∧ m.becomeMember.num 0x602102 m.rank = 0) ∧
  (∀ (s : State) (c : Nat), s.mod.Runs → s.mod.Good → s.mod.mstate = msResync → s.mod.triad.attempts < 2 →
    ∃ t, exec (.resyncTimeout c) s = .next t ∧ t.mod.mstate = msSeek ∧ t.mod.triad.attempts = s.mod.triad.attempts + 1 ∧
      t.mod.num 0x600009 = min (s.mod.num 0x600009 + 1) (objMax 0x600009)) ∧
  (∀ (s : State) (c : Nat), s.mod.Runs → s.mod.Good → s.mod.mstate = msResync → 2 ≤ s.mod.triad.attempts →
    ∃ t, exec (.resyncTimeout c) s = .next t ∧ t.mod.mstate = msOut ∧ t.mod.triad.drive = .off ∧ t.mod.num 0x601001 = 0) ∧
  (∀ (s : State) (c : Nat), s.mod.Runs → s.mod.mstate ≠ msResync → exec (.resyncTimeout c) s = .next s) ∧
  (∀ (s : State), s.mod.Runs → s.mod.Good → s.mod.mstate = msShadow → 48 ≤ s.mod.triad.shadowRun →
    ∃ t, exec .shadowComplete s = .next t ∧ t.mod.mstate = msMember ∧ t.mod.triad.shadowRun = 0 ∧ t.mod.triad.attempts = 0 ∧
      t.mod.num 0x60000A = min ((s.mod.k - s.mod.triad.resyncAt) * 1000000 / s.mod.hz) (2 ^ 32 - 1) ∧ t.mod.bits = s.mod.bits ∧ t.mod.mem = s.mod.mem) ∧
  (∀ (s : State) (r : Nat) (m n : Mod), s.mod.Runs → s.mod.mstate = msMember → r ≠ s.mod.rank → s.mod.num 0x600102 r = msResync →
    m = (s.mod.each s.mod.sramBlocks (fun m a => m.post
      { ty := .wrReq, vc := 2, dst := s.mod.num 0x600101 r, src := m.moduleId, len := 4096, offset := a, data := Memory.readN m.mem a 4096 })) →
    n = m.post { ty := .fence, vc := 2, dst := s.mod.num 0x600101 r, src := m.moduleId } →
    exec (.donorCopyComplete r) s = .next { s with mod := n.emit (.donorFence (s.mod.num 0x600101 r) n.chain) })

/-- What comes from the peers, by R235, R240, R269, R280, R281, R288 to R290, R299 and R300. The first HELLO on a link in HELLO takes it to ACTIVE with the
peer's credits; an invalid ID, the own ID or other LANES take it to FAULT with event 0x0404; another module's ID on a link in use takes it down. A packet for
this module is received: a request enters the W2 buffer and is served in order, a FENCE recording its FENCE_ID for its sender and ending a transfer.
An acceptable AGREE or VECTOR before its deadline is kept for the tick, and any other is as absent; what one module sends, another reads back. -/
def Obligations.PeersAreHeard : Prop :=
  (∀ (s : State) (h : FlitHdr) (x : Hello) (k q : Nat), s.mod.Runs → s.mod.lkState h.l = lkHello ∨ s.mod.lkState h.l = lkFault → s.mod.moduleId ≠ 0 →
    s.mod.helloFault h.l x = 0 → exec (.weltHelloRx h ⟨x, k, q⟩) s = .next { s with mod := (s.mod.linkActive h.l x).triadHello x k q }) ∧
  (∀ (m n : Mod) (l : Nat) (h : Hello), n = ((m.setLink l
      { credits := h.credits, peerMax := h.rateMax, peerRank := h.rank, climb := true, noUp := (m.link l).noUp, noDown := (m.link l).noDown }).setLk
        l lkActive).peerFields l h →
    m.linkActive l h = (((n.raise 0x0400 [l, h.moduleId, h.link, n.num 0x611005 l]).sayHello l).climbOn l)) ∧
  (∀ (m : Mod) (l : Nat) (h : Hello), m.Good → l < 24 → (m.linkActive l h).num 0x611004 l = lkActive ∧ (m.linkActive l h).num 0x611006 l = h.moduleId ∧
    (m.linkActive l h).num 0x611007 l = h.link ∧ (m.linkActive l h).num 0x611008 l = h.triadId ∧ (m.linkActive l h).mem = m.mem) ∧
  (∀ (s : State) (h : FlitHdr) (x : Hello) (k q : Nat), s.mod.Runs → s.mod.lkState h.l = lkHello → s.mod.moduleId ≠ 0 → s.mod.helloFault h.l x ≠ 0 →
    exec (.weltHelloRx h ⟨x, k, q⟩) s = .next { s with mod := (s.mod.raise 0x0404 [h.l, s.mod.helloFault h.l x]).setLk h.l lkFault }) ∧
  (∀ (m : Mod) (l : Nat) (h : Hello), (h.moduleId = 0 ∨ 255 ≤ h.moduleId → m.helloFault l h = 1) ∧
    (1 ≤ h.moduleId → h.moduleId < 255 → h.moduleId = m.moduleId → m.helloFault l h = 2) ∧
    (1 ≤ h.moduleId → h.moduleId < 255 → h.moduleId ≠ m.moduleId → h.lanes ≠ m.num 0x611001 l → m.helloFault l h = 3)) ∧
  (∀ (s : State) (h : FlitHdr) (x : Hello) (k q : Nat) (m : Mod), s.mod.Hears h → m = s.mod.advanced h 1 → x.moduleId ≠ m.num 0x611006 h.l →
    exec (.weltHelloRx h ⟨x, k, q⟩) s = .next { s with mod := (m.linkDown h.l 4).answered h.l }) ∧
  (∀ (s : State) (h : FlitHdr) (x : Hello) (k q : Nat) (m : Mod), s.mod.Hears h → m = s.mod.advanced h 1 → x.moduleId = m.num 0x611006 h.l →
    exec (.weltHelloRx h ⟨x, k, q⟩) s = .next { s with mod := (((m.peerFields h.l x).climbOn h.l).triadHello x k q).answered h.l }) ∧
  (∀ (s : State) (h : FlitHdr) (p : Packet) (c : Option Chain) (m : Mod), s.mod.Takes h p → m = s.mod.received h p → p.dst = m.moduleId →
    exec (.weltFenceRx h p c) s = .next { s with mod := (m.takeRequest h.l { pkt := p, chain := c }).1.answered h.l }) ∧
  (∀ (m n : Mod) (l : Nat) (e : W2Entry), (m.link l).w2 = [] → n = m.setLink l { m.link l with w2 := [e] } →
    (n.mayServe e = true → (m.takeRequest l e).1 = ((n.setLink l { n.link l with w2 := [] }).owe l 2 (flitsOf e.pkt)).serve e) ∧
    (n.mayServe e = false → (m.takeRequest l e).1 = n)) ∧
  (∀ (m : Mod) (e : W2Entry), e.pkt.ty = .fence → m.mayServe e = true ∧ m.serve e = m.takeFence e.pkt e.chain) ∧
  (∀ (m : Mod) (p : Packet), m.takeFence p none = m.set 0x613010 p.fenceId p.src) ∧
  (∀ (m n : Mod) (p : Packet) (c : Chain), n = m.set 0x613010 p.fenceId p.src →
    (n.mstate = msResync → p.src = n.num 0x60000B → n.fenceInTime c = true → m.takeFence p (some c) = n.resyncComplete c) ∧
    (n.mstate ≠ msResync ∨ p.src ≠ n.num 0x60000B ∨ n.fenceInTime c = false → m.takeFence p (some c) = n)) ∧
  (∀ (s : State) (h : FlitHdr) (p : Packet) (rs : List StMsg) (m : Mod), s.mod.Takes h p → m = s.mod.received h p → p.dst = m.moduleId →
    exec (.agreeRx ⟨h, p, rs⟩) s = .next { s with mod := (m.takeAgree h.l p rs).freed h p } ∧
    exec (.vectorRx ⟨h, p⟩) s = .next { s with mod := (m.takeVector h.l p).freed h p }) ∧
  (∀ (m : Mod) (l ty : Nat) (p : Packet) (x : TriadHdr × List Byte), m.triadMsg l ty p = some x → triadParse ty p.data = some x ∧ p.vc = 0 ∧
    bit p.flags 1 = true ∧ m.triadLink l = true ∧ x.1.tick = m.tick.k ∧ x.1.rank ≠ m.rank ∧ 1 ≤ x.1.rank ∧ x.1.rank ≤ 3 ∧ m.num 0x602104 x.1.rank = 0) ∧
  (∀ (m : Mod) (l : Nat) (p : Packet) (rs : List StMsg) (h : TriadHdr) (b : List Byte), m.Good → m.triadMsg l 1 p = some (h, b) → m.triad.stage = 0 →
    Table.find? (m.takeAgree l p rs).triad.agrees h.rank = some (m.readAgree h b rs) ∧ (m.takeAgree l p rs).num 0x600102 h.rank = h.mstate ∧
    (m.takeAgree l p rs).triad.vectors = m.triad.vectors ∧ (m.takeAgree l p rs).bits = m.bits ∧ (m.takeAgree l p rs).raised = m.raised) ∧
  (∀ (m : Mod) (l : Nat) (p : Packet) (rs : List StMsg), m.triadMsg l 1 p = none ∨ m.triad.stage ≠ 0 → m.takeAgree l p rs = m) ∧
  (∀ (m : Mod) (l : Nat) (p : Packet) (h : TriadHdr) (b : List Byte), m.Good → m.triadMsg l 2 p = some (h, b) → m.triad.stage < 4 →
    Table.find? (m.takeVector l p).triad.vectors h.rank = some { hdr := h, body := b } ∧ (m.takeVector l p).num 0x600102 h.rank = h.mstate ∧
    (m.takeVector l p).triad.agrees = m.triad.agrees ∧ (m.takeVector l p).bits = m.bits ∧ (m.takeVector l p).raised = m.raised) ∧
  (∀ (m : Mod) (l : Nat) (p : Packet), m.triadMsg l 2 p = none ∨ 4 ≤ m.triad.stage → m.takeVector l p = m) ∧
  (∀ (ty : Nat) (h : TriadHdr) (b : List Byte), ty < 256 → h.rank < 256 → h.moduleId < 256 → h.mstate < 256 → h.tick < 2 ^ 64 → h.digest < 2 ^ 32 →
    h.status < 2 ^ 32 → h.laceView < 2 ^ 16 → h.voteView < 2 ^ 16 → b.length < 65500 → triadParse ty (triadBytes ty h b) = some (h, b))

/-- Agreement, by R242 to R245. The deadline counts each MEMBER peer without a message as absent and settles every stream and station: two equal digests
agree; with only the peers' pair the samples are fetched from the lower rank; without a pair there is no agreement, counted. The fetch deadline counts the
fetches not done and delivers what is agreed. -/
def Obligations.AgreementPerTick : Prop :=
  (∀ (s : State) (absent : List Nat) (m n : Mod), s.mod.Runs → s.mod.triad.stage = 0 → s.mod.tick.phase = .I → s.mod.tick.running = true →
    absent = (if s.mod.inTriad then s.mod.otherMembers.filter (fun r => (Table.find? s.mod.triad.agrees r).isNone) else []) →
    m = s.mod.each absent (fun m _ => m.bump 0x603004) →
    n = ({ m with triad := { m.triad with stage := 1 } } : Mod).each (indexed m.streamsOn) (fun m e => m.agreeStream e.1 e.2) →
    exec .agreeDeadline s = .next { s with mod := n.each (indexed n.stationsOn) (fun m e => m.agreeStation e.1 e.2) }) ∧
  (∀ (own : Nat) (mp : Bool), (∀ ps : List (Nat × Nat), mp = true → (∃ r, (r, own) ∈ ps) → agreeOn own mp ps = .own) ∧
    (∀ a b d, d ≠ own → agreeOn own mp [(a, d), (b, d)] = .peer a) ∧ (∀ a b d d', d ≠ own → d' ≠ own → d ≠ d' → agreeOn own mp [(a, d), (b, d')] = .no) ∧
    (∀ a d, d ≠ own → agreeOn own mp [(a, d)] = .no) ∧ agreeOn own mp [] = .no) ∧
  (∀ (m : Mod) (i s : Nat), m.outcome AgreeMsg.digests (Table.get m.ingest.closed {} s).digest i = .own →
    m.agreeStream i s = { m with ingest := { m.ingest with agreed := Table.put m.ingest.agreed s (Table.get m.ingest.closed {} s).subs } }) ∧
  (∀ (m : Mod) (i s : Nat), m.outcome AgreeMsg.digests (Table.get m.ingest.closed {} s).digest i = .no → m.agreeStream i s = m.bump 0x603003) ∧
  (∀ (s : State), s.mod.Runs → s.mod.triad.stage = 1 →
    exec .fetchDeadline s = .next { s with mod := (applyStations (({ (s.mod.bump 0x603002 0 ((s.mod.triad.fetches.filter (fun f => !f.done)).length)) with
      triad := { s.mod.triad with stage := 2 } } : Mod).deliverAll)).sampleGroups }) ∧
  (∀ (s : State), s.mod.triad.stage ≠ 0 → exec .agreeDeadline s = .next s) ∧ (∀ (s : State), s.mod.triad.stage ≠ 1 → exec .fetchDeadline s = .next s)

/-- The vote, by R19, R20, R248 to R251, R260 and R263. V start, after the passes of phase L2, forms the own vector, sends it and samples the lines. At the deadline the majority is the vector that two present
vectors equal; a claimer that missed the deadline or is outside the majority releases. V end does its work once. A MEMBER with three ticks in the minority is
DEMOTED with event 0x0301; a peer at a limit is excluded. A revert starts and ends its hold-off. At the hold limit the holder of LAST_PUB turns to safe
values, with event 0x0309, and its logic-owned slots, rebuilt with a new stNum, leave as repetitions do. -/
def Obligations.TheVote : Prop :=
  (∀ (s : State) (now : Nat) (n m : Mod), s.mod.Runs → s.mod.inPhase .L2 = true → s.mod.logic.l2 = true → s.mod.triad.stage = 2 → n = s.mod.endPasses →
    m = ({ n with
      tick := { n.tick with phase := .V }
      triad := { n.triad with
        stage := 3, own := n.ownVector, ownStatus := n.triadStatus, laceView := n.sampleLace, vDrive := n.triad.drive } } : Mod).set
        0x602001 (36 + n.ownVector.body.length) →
    exec (.voteStart now) s = .next { s with mod :=
      (if m.inTriad then m.sendTriad (triadBytes 2 m.triadHdr n.ownVector.body) else m).clickerVStart now }) ∧
  (∀ (s : State) (now : Nat), s.mod.inPhase .L2 = false ∨ s.mod.logic.l2 = false ∨ s.mod.triad.stage ≠ 2 → exec (.voteStart now) s = .next s) ∧
  (∀ (s : State) (vs : List (Nat × VoteVec)), s.mod.Runs → s.mod.triad.stage = 3 → vs = s.mod.presentVectors true →
    majorityOf vs = some s.mod.triad.own →
    exec (.voteDeadline true) s = .next { s with mod := { s.mod with triad := { s.mod.triad with
      stage := 4, ownInTime := true, majority := some s.mod.triad.own, present := rankMask (vs.map Prod.fst),
      inMajority := rankMask ((vs.filter (fun e => e.2 = s.mod.triad.own)).map Prod.fst) } } }) ∧
  (∀ (s : State) (own : Bool) (vs : List (Nat × VoteVec)) (v : VoteVec), s.mod.Runs → s.mod.mstate = msMember → s.mod.triad.stage = 3 →
    vs = s.mod.presentVectors own → majorityOf vs = some v → own = false ∨ v ≠ s.mod.triad.own →
    exec (.voteDeadline own) s = .next { s with mod := (({ s.mod with triad := { s.mod.triad with
      stage := 4, ownInTime := own, majority := some v, present := rankMask (vs.map Prod.fst),
      inMajority := rankMask ((vs.filter (fun e => e.2 = v)).map Prod.fst) } } : Mod).releaseClaim (if own then 4 else 3)) }) ∧
  (∀ (a b c : Nat × VoteVec), majorityOf [] = none ∧ majorityOf [a] = none ∧ (a.2 = b.2 → majorityOf [a, b, c] = some a.2) ∧
    (a.2 ≠ b.2 → a.2 = c.2 → majorityOf [a, b, c] = some a.2) ∧ (a.2 ≠ b.2 → b.2 = c.2 → majorityOf [a, b, c] = some b.2) ∧
    (a.2 ≠ b.2 → a.2 ≠ c.2 → b.2 ≠ c.2 → majorityOf [a, b, c] = none) ∧ (a.2 = b.2 → majorityOf [a, b] = some a.2) ∧ (a.2 ≠ b.2 → majorityOf [a, b] = none)) ∧
  (∀ (s : State), s.mod.Runs → s.mod.triad.stage = 4 → exec .vEnd s = .next { s with mod :=
    (({ s.mod with triad := { s.mod.triad with stage := 5 } } : Mod).endVote (s.mod.num 0x602006)) }) ∧
  (∀ (s : State), s.mod.triad.stage ≠ 4 → exec .vEnd s = .next s) ∧
  (∀ (s : State) (r : Nat), s.mod.Runs → s.mod.mstate = msMember → r = s.mod.rank → 1 ≤ r → r ≤ 3 → 3 ≤ s.mod.num 0x602102 r →
    exec (.demotion r) s = .next { s with mod :=
      (((s.mod.releaseClaim 5).setMstate msDemoted).raise 0x0301 [r, Config.eventField 0x0301 1, ((s.mod.releaseClaim 5).setMstate msDemoted).k]).missArmed 2 }) ∧
  (∀ (s : State) (r : Nat), s.mod.Runs → s.mod.mstate = msMember → r ≠ s.mod.rank → 1 ≤ r → r ≤ 3 → 3 ≤ s.mod.num 0x602102 r ∨ 16 ≤ s.mod.num 0x602101 r →
    exec (.demotion r) s = .next { s with mod := s.mod.set 0x602104 1 r }) ∧
  (∀ (s : State) (r : Nat), s.mod.Runs → r ≠ s.mod.rank → s.mod.num 0x602102 r < 3 → s.mod.num 0x602101 r < 16 → exec (.demotion r) s = .next s) ∧
  (∀ (s : State) (l : Nat) (rs : List Nat), s.mod.Runs → maskRanks s.mod.triad.eligible = l :: rs → s.mod.triad.stage = 5 → s.mod.mstate = msMember →
    s.mod.num 0x602003 = 1 → s.mod.num 0x602006 ∈ rs → l < s.mod.num 0x602006 → s.mod.num 0x602004 ≤ Table.get s.mod.triad.hold.runs 0 l →
    exec .revertDelayElapsed s = .next { s with mod := ((({ s.mod with triad := { s.mod.triad with
      hold := { s.mod.triad.hold with holdoffOn := true, holdoffLeft := s.mod.num 0x602005 } } } : Mod).set 0x602006 0).releaseClaim 1) }) ∧
  (∀ (s : State) (l : Nat) (rs : List Nat), s.mod.Runs → s.mod.triad.hold.holdoffOn = true → s.mod.triad.hold.holdoffLeft = 0 → s.mod.triad.stage = 5 →
    s.mod.mstate = msMember → maskRanks s.mod.triad.eligible = l :: rs → s.mod.num 0x602006 = 0 →
    exec .revertHoldoffEnd s = .next { s with mod := ((({ s.mod with triad := { s.mod.triad with
      hold := { s.mod.triad.hold with holdoffOn := false } } } : Mod).set 0x602006 l).drivePublisher) }) ∧
  (∀ (s : State) (slots : Table LogicPub) (m : Mod), s.mod.Runs → s.mod.num 0x602002 ≤ s.mod.num 0x602007 → s.mod.triad.hold.safe = false →
    s.mod.triad.lastPub = true →
    slots = s.mod.triad.hold.slots.map (fun e =>
      (e.1, { bits := memberBitsOf s.mod.safeTable e.1, stNum := e.2.stNum + 1, sq := 0, chg := some s.mod.k, fresh := true })) →
    m = ({ s.mod with triad := { s.mod.triad with hold := { s.mod.triad.hold with safe := true, bits := s.mod.safeTable, slots := slots } } } : Mod).raise
      0x0309 [s.mod.num 0x602007, s.mod.k] →
    exec .holdLimitReached s = .next { s with mod := m }) ∧
  (∀ (s : State), s.mod.num 0x602007 < s.mod.num 0x602002 ∨ s.mod.triad.hold.safe = true ∨ s.mod.triad.lastPub = false →
    exec .holdLimitReached s = .next s)

/-- The Lace, by R256 to R259, R262 and R266. Each decoded pattern sets its line's state: 2 CLAIM, 1 ALIVE, 3 UNQUALIFIED, 0 DEAD. Another line's CLAIM
clears LAST_PUB, and while the module drives CLAIM it is counted as a contention with event 0x0306, in which a module of higher rank number releases. A loopback or view
fault sets its bit of LACE_FAULT; 4,800 ticks without one clear both. A generator not re-armed drives OFF. A foreign claim raises event 0x030D. -/
def Obligations.LaceLines : Prop :=
  (∀ (s : State) (r : Nat), s.mod.Runs → s.mod.Good → 1 ≤ r → r ≤ 3 → r = s.mod.rank →
    exec (.laceClaimDecoded r) s = .next { s with mod := (s.mod.set (0x601001 + r) 2).followLines }) ∧
  (∀ (s : State) (r : Nat), s.mod.Runs → 1 ≤ r → r ≤ 3 → r ≠ (s.mod.set (0x601001 + r) 2).rank → s.mod.triad.drive ≠ .claim →
    exec (.laceClaimDecoded r) s = .next { s with mod :=
      ({ (s.mod.set (0x601001 + r) 2) with triad := { s.mod.triad with lastPub := false } } : Mod).gates }) ∧
  (∀ (s : State) (r : Nat) (m : Mod), s.mod.Runs → s.mod.Good → 1 ≤ r → r ≤ 3 → r ≠ s.mod.rank → s.mod.triad.drive = .claim →
    m = ((({ (s.mod.set (0x601001 + r) 2) with triad := { s.mod.triad with lastPub := false } } : Mod).bump 0x601008).raise 0x0306
      [Config.eventField 0x0306 (2 ^ (s.mod.rank - 1) + 2 ^ (r - 1)), s.mod.k]) →
    exec (.laceClaimDecoded r) s = .next { s with mod := if r < s.mod.rank then m.releaseClaim 2 else m.followLines }) ∧
  (∀ (m : Mod), m.Good → m.triad.drive = .claim → ∀ c, (m.releaseClaim c).triad.drive = .alive ∧ (m.releaseClaim c).num 0x601001 = 1 ∧
    (m.releaseClaim c).triad.lastPub = (m.triad.lastPub || m.triad.gateAtP) ∧ (m.releaseClaim c).bits = m.bits ∧ (m.releaseClaim c).mem = m.mem) ∧
  (∀ (s : State) (r : Nat), s.mod.Runs → 1 ≤ r → r ≤ 3 →
    exec (.laceAliveDecoded r) s = .next { s with mod := (s.mod.set (0x601001 + r) 1).followLines }) ∧
  (∀ (s : State) (r : Nat), s.mod.Runs → 1 ≤ r → r ≤ 3 → s.mod.line r = 1 ∨ s.mod.line r = 2 →
    exec (.lacePatternLost r) s = .next { s with mod := (s.mod.set (0x601001 + r) 3).followLines }) ∧
  (∀ (s : State) (r : Nat), s.mod.line r ≠ 1 → s.mod.line r ≠ 2 → exec (.lacePatternLost r) s = .next s) ∧
  (∀ (s : State) (r : Nat), s.mod.Runs → 1 ≤ r → r ≤ 3 → s.mod.line r = 3 →
    exec (.laceDeadTimeout r) s = .next { s with mod := (s.mod.set (0x601001 + r) 0).followLines }) ∧
  (∀ (s : State) (r : Nat), s.mod.line r ≠ 3 → exec (.laceDeadTimeout r) s = .next s) ∧
  (∀ (m : Mod) (r : Nat), m.Good → 1 ≤ r → r ≤ 3 → m.followLines.line r = m.line r) ∧
  (∀ (m : Mod), m.Good → 1 ≤ m.rank → m.rank ≤ 3 → (m.followLines.num 0x601006 = if m.gateOpen then 1 else if m.holdGate then 2 else 0) ∧
    (m.num 0x601001 = 2 → m.gateOpen = true → m.followLines.num 0x601001 = 3) ∧ (m.num 0x601001 = 3 → m.gateOpen = false → m.followLines.num 0x601001 = 2)) ∧
  (∀ (s : State), s.mod.Runs → s.mod.rank ≠ 0 → exec .laceLoopbackFault s = .next { s with mod := s.mod.laceFault 0 s.mod.rank }) ∧
  (∀ (s : State) (r : Nat), s.mod.Runs → 1 ≤ r → r ≤ 3 → 8 ≤ Table.get s.mod.triad.viewRun 0 r →
    exec (.laceViewFault r) s = .next { s with mod := s.mod.laceFault 1 r }) ∧
  (∀ (m : Mod) (b r : Nat), m.Good → bit ((m.laceFault b r).num 0x601005) b = true ∧ (m.laceFault b r).gateOpen = false ∧
    (m.laceFault b r).triad.faultFree = 0) ∧
  (∀ (s : State), s.mod.Runs → 4800 ≤ s.mod.triad.faultFree → exec .laceFaultClear s = .next { s with mod := (s.mod.set 0x601005 0).followLines }) ∧
  (∀ (s : State), s.mod.triad.faultFree < 4800 → exec .laceFaultClear s = .next s) ∧
  (∀ (s : State), s.mod.Runs → s.mod.Good → ∃ t, exec .laceGeneratorTimeout s = .next t ∧ t.mod.triad.drive = .off ∧ t.mod.num 0x601001 = 0 ∧
    t.mod.gateOpen = false ∧ t.mod.bits = s.mod.bits ∧ t.mod.raised = s.mod.raised) ∧
  (∀ (s : State) (r : Nat), s.mod.Runs → 1 ≤ r → r ≤ 3 → s.mod.mstate = msMember → Table.get s.mod.triad.foreignRun 0 r = 8 →
    exec (.foreignClaimAlarm r) s = .next { s with mod := s.mod.raise 0x030D [r, s.mod.k] })

/-- Publication, by R30, R39 to R41, R213, R225, R250, R259 and R263. The guard time closes a port that carries a publish entry. P start, after V end, takes
the gate's state and hands the tick's entries to egress in table order. A slot's repetition raises sqNum by one and doubles its interval up to the
longest; a logic-owned slot's raises sqNum. Whether a gate is open is judged as a copy starts: through neither gate nothing leaves. -/
def Obligations.Publication : Prop :=
  (∀ (s : State) (p : Nat), s.mod.Runs → s.mod.tick.running = true → (lastPubs s.mod.activeLast).any (fun e => (s.mod.entryPorts e).contains p) = true →
    exec (.guardTimeStart p) s = .next { s with mod := s.mod.setPort p { s.mod.port p with guard := true } }) ∧
  (∀ (s : State) (p : Nat), (lastPubs s.mod.activeLast).any (fun e => (s.mod.entryPorts e).contains p) = false →
    exec (.guardTimeStart p) s = .next s) ∧
  (∀ (s : State) (now : Nat) (m : Mod), s.mod.Runs → s.mod.inPhase .V = true → s.mod.triad.stage = 5 → s.mod.onSchedule = true →
    m = ({ s.mod with
      tick := { s.mod.tick with phase := .P }
      triad := { s.mod.triad with
        gateAtP := s.mod.gateOpen
        armed := s.mod.triad.majority.isSome
        armedBits := s.mod.triad.hold.bits
        armedCan := ((lastPubs s.mod.activeLast).filter (fun e => pubKind e == 3)).map pubObject } } : Mod) →
    exec (.publishStart now) s = .next { s with mod :=
      (m.each (indexed (lastPubs m.activeLast)) (fun m' e => m'.publishEntry now e.2 (Table.get (m.unbound m.activeLast) [] e.1))).endGuards }) ∧
  (∀ (s : State) (now : Nat), s.mod.inPhase .V = false ∨ s.mod.triad.stage ≠ 5 → exec (.publishStart now) s = .next s) ∧
  (∀ (m : Mod) (now e : Nat) (late : List Nat), pubKind e = 2 → (m.sc0 (pubObject e)).frame ≠ [] → (m.sc0 (pubObject e)).frameTick = m.k →
    m.triad.gateAtP = true → m.publishEntry now e late =
      (m.inject (m.sc0 (pubObject e)).frame 1 now (fun p => if late.contains p then none else some m.bound)).bump 0x516002 (pubObject e)) ∧
  (∀ (m : Mod) (now e : Nat) (late : List Nat), pubKind e = 2 → m.triad.gateAtP = false → m.publishEntry now e late = m) ∧
  (∀ (s : State) (u now : Nat) (x : LogicPub) (m : Mod), s.mod.Runs → s.mod.tick.running = true → s.mod.onSchedule = true →
    Table.find? s.mod.triad.hold.slots u = some x → x.fresh = false → m = ({ s.mod with triad := { s.mod.triad with hold := { s.mod.triad.hold with
      slots := Table.put s.mod.triad.hold.slots u { x with sq := (x.sq + 1) % 2 ^ 32 } } } } : Mod) →
    exec (.pubRetransmit (2048 + u) now) s = .next { s with mod := (m.inject (Config.logicFrame u x.bits x.stNum ((x.sq + 1) % 2 ^ 32)) 2 now (fun _ => none)) }) ∧
  (∀ (s : State) (u now : Nat) (x : LogicPub) (m : Mod), s.mod.Runs → s.mod.tick.running = true → s.mod.onSchedule = true →
    Table.find? s.mod.triad.hold.slots u = some x → x.fresh = true → m = ({ s.mod with triad := { s.mod.triad with hold := { s.mod.triad.hold with
      slots := Table.put s.mod.triad.hold.slots u { x with fresh := false } } } } : Mod) →
    exec (.pubRetransmit (2048 + u) now) s = .next { s with mod := (m.inject (Config.logicFrame u x.bits x.stNum x.sq) 2 now (fun _ => none)) }) ∧
  (∀ (s : State) (i now sqAt iv : Nat) (f : List Byte) (x : PubSlot) (m : Mod), s.mod.Runs → s.mod.tick.running = true → s.mod.onSchedule = true → i < 2048 →
    s.mod.tnState (i / 32 + 1) = tnRunning → x = s.mod.pub i → x.interval ≠ 0 → x.frame ≠ [] → x.due ≤ s.mod.k → s.mod.num 0x513009 i = 0xFFFF →
    s.mod.triad.hold.safe = false →
    sqAt = s.mod.num 0x513008 i → f = x.frame.take sqAt ++ toBE 4 ((x.sq + 1) % 2 ^ 32) ++ x.frame.drop (sqAt + 4) →
    iv = min (2 * x.interval) (max 1 (s.mod.num 0x513007 i)) →
    m = s.mod.setPub i { x with frame := f, sq := (x.sq + 1) % 2 ^ 32, interval := iv, due := x.due + iv } →
    (m.gateOpen = true ∨ m.holdGate = true →
      exec (.pubRetransmit i now) s = .next { s with mod := (m.inject f 2 now (fun _ => none)).bump 0x51300C i }) ∧
    (m.gateOpen = false → m.holdGate = false → exec (.pubRetransmit i now) s = .next { s with mod := m.inject f 2 now (fun _ => none) })) ∧
  (∀ (s : State) (i now : Nat), s.mod.tick.running = false ∨ (i < 2048 ∧ (s.mod.k < (s.mod.pub i).due ∨ s.mod.tnState (i / 32 + 1) ≠ tnRunning)) →
    exec (.pubRetransmit i now) s = .next s) ∧
  (∀ (m : Mod) (c : Copy), m.mayLeave c = true ↔ c.pub = 0 ∨ m.gateOpen = true ∨ (c.pub = 2 ∧ m.holdGate = true))

/-! ## Welt -/

/-- Link states and replay, by R275, R281, R283, R286, R288 and R289. Lanes that R275 admits take the link to OFF or TRAIN at code 2; lock takes TRAIN to
HELLO; a lost lock, three milliseconds without HELLO or the 16th replay take a link that is up DOWN, counted, with the cause in event 0x0401, and 10 µs
later it trains again. The first bad flit sends NAK; NAK and the replay timeout send the flits not acknowledged again, in order, with the same SEQ and
credits. An IDLE in order brings its ACK and credits. -/
def Obligations.WeltLinks : Prop :=
  (∀ (s : State) (p : Path) (l : Nat), s.mod.Serves p → l ≤ 23 → l % 2 = 0 → s.mod.num 0x611001 (l + 1) = 0 →
    exec (.weltLanesWrite p l 2) s = .next { s with mod :=
      (((((s.mod.set 0x611001 2 l).clearLink l lkOff).set 0x611005 2 l).setLk l lkTrain).report p 0) }) ∧
  (∀ (s : State) (p : Path) (l : Nat), s.mod.Serves p → l ≤ 23 → exec (.weltLanesWrite p l 0) s = .next { s with mod :=
      (((((s.mod.set 0x611001 0 l).clearLink l lkOff).set 0x611005 2 l).setLk l lkOff).report p 0) }) ∧
  (∀ (s : State) (p : Path) (l : Nat), s.mod.Serves p → l ≤ 23 → l % 2 = 1 ∨ s.mod.num 0x611001 (l + 1) ≠ 0 →
    exec (.weltLanesWrite p l 2) s = .next { s with mod := s.mod.report p 0x06090030 }) ∧
  (∀ (s : State) (l : Nat), s.mod.Runs → s.mod.lkState l = lkTrain →
    exec (.laneTrainLock l) s = .next { s with mod := (s.mod.setLk l lkHello).sayHello l } ∧
    exec (.laneTrainTimeout l) s = .next { s with mod := s.mod.bump 0x61100D l }) ∧
  (∀ (s : State) (l : Nat), s.mod.lkState l ≠ lkTrain → exec (.laneTrainLock l) s = .next s ∧ exec (.laneTrainTimeout l) s = .next s) ∧
  (∀ (s : State) (l : Nat), s.mod.Runs → s.mod.lkState l = lkHello ∨ s.mod.lkUp l = true →
    exec (.weltHelloSend l) s = .next { s with mod := s.mod.sayHello l }) ∧
  (∀ (m : Mod) (l : Nat), (m.lkState l = lkActive → m.sayHello l = m.sendLocal l ftHello (helloBytes (m.myHello l))) ∧
    (m.lkState l = lkRate → m.sayHello l = m) ∧ (m.lkState l = lkHello → m.sayHello l =
      m.emit (.flit l (({ ty := ftHello, valid := 24, src := m.moduleId, payload := helloBytes (m.myHello l) } : Flit).bytes 0)))) ∧
  (∀ (s : State) (l : Nat), s.mod.Runs → s.mod.lkUp l = true →
    exec (.weltHelloTimeout l) s = .next { s with mod := ((s.mod.clearLink l lkDown).bump 0x61100D l).raise 0x0401 [l, 3] } ∧
    exec (.weltLockLoss l) s = .next { s with mod := ((s.mod.clearLink l lkDown).bump 0x61100D l).raise 0x0401 [l, 1] }) ∧
  (∀ (s : State) (l : Nat), s.mod.lkUp l = false → exec (.weltHelloTimeout l) s = .next s ∧ exec (.weltLockLoss l) s = .next s) ∧
  (∀ (s : State) (l : Nat), s.mod.Runs → s.mod.lkState l = lkDown →
    exec (.weltDownRetrain l) s = .next { s with mod := (s.mod.set 0x611005 2 l).setLk l lkTrain }) ∧
  (∀ (s : State) (h : FlitHdr) (m : Mod), s.mod.Hears h → m = (s.mod.ackAndCredit h).serveW2 h.l →
    exec (.weltIdleRx h) s = .next { s with mod := if m.lkUp h.l then m.returnCredits h.l else m }) ∧
  (∀ (s : State) (h : FlitHdr), s.mod.lkUp h.l = false → exec (.weltIdleRx h) s = .next s ∧ exec (.weltNakRx h) s = .next s) ∧
  (∀ (s : State) (h : FlitHdr), s.mod.Runs → s.mod.lkUp h.l = true → h.seq ≠ (s.mod.link h.l).rxSeq →
    exec (.weltIdleRx h) s = .next { s with mod := s.mod.discardFlit h.l } ∧ exec (.weltNakRx h) s = .next { s with mod := s.mod.discardFlit h.l }) ∧
  (∀ (s : State) (l : Nat), s.mod.Runs → s.mod.lkUp l = true → (s.mod.link l).nak = false →
    exec (.weltFlitDiscard l .crc) s = .next { s with mod :=
      (((s.mod.bump 0x61100B l).setLink l { s.mod.link l with nak := true }).sayFiller l ftNak) } ∧
    exec (.weltFlitDiscard l .seq) s = .next { s with mod := ((s.mod.setLink l { s.mod.link l with nak := true }).sayFiller l ftNak) } ∧
    exec (.weltFlitDiscard l .type) s = .next { s with mod :=
      (((s.mod.bump 0x61300A).setLink l { s.mod.link l with nak := true }).sayFiller l ftNak) }) ∧
  (∀ (s : State) (l : Nat), s.mod.Runs → s.mod.lkUp l = true → (s.mod.link l).nak = true →
    exec (.weltFlitDiscard l .crc) s = .next { s with mod := s.mod.bump 0x61100B l } ∧ exec (.weltFlitDiscard l .seq) s = .next s ∧
    exec (.weltNakRepeat l) s = .next { s with mod := s.mod.sayFiller l ftNak }) ∧
  (∀ (s : State) (h : FlitHdr), s.mod.Hears h →
    exec (.weltNakRx h) s = .next { s with mod := (s.mod.ackAndCredit h).replay h.l }) ∧
  (∀ (s : State) (l : Nat), s.mod.Runs → s.mod.lkUp l = true → (s.mod.link l).replay ≠ [] → (s.mod.link l).replays < 15 →
    exec (.weltReplayTimeout l) s = .next { s with mod :=
      (((s.mod.setLink l { s.mod.link l with replays := (s.mod.link l).replays + 1 }).bump 0x61100C l).each (s.mod.link l).replay
        (fun m f => m.emit (.flit l (f.bytes (((s.mod.link l).rxSeq + 4095) % 4096))))) }) ∧
  (∀ (s : State) (l : Nat), s.mod.Runs → s.mod.lkUp l = true → (s.mod.link l).replay ≠ [] → 15 ≤ (s.mod.link l).replays →
    exec (.weltReplayTimeout l) s = .next { s with mod :=
      (((s.mod.setLink l { s.mod.link l with replays := (s.mod.link l).replays + 1 }).bump 0x61100C l).linkDown l 2) }) ∧
  (∀ (s : State) (l i : Nat) (w : Queued), s.mod.Runs → (s.mod.link l).waiting[i]? = some w →
    exec (.packetAgeExpiry l i) s = .next { s with mod :=
      ((((s.mod.setLink l { s.mod.link l with waiting := (s.mod.link l).waiting.eraseIdx i }).bump 0x613008).oweVia w.via w.pkt.vc (flitsOf w.pkt)).pump l) }) ∧
  (∀ (f : Flit) (a : Nat), (f.bytes a).length = 64 ∧ field (f.bytes a) 60 4 = crc32 ((f.bytes a).take 60) ∧ field (f.bytes a) 0 8 = f.header a % 2 ^ 64) ∧
  (∀ (x : WeltLink), (x.ready 0 = true → x.turn = some (0, x.wrr)) ∧
    (x.ready 0 = false → x.ready 1 = false → x.ready 2 = false → x.ready 3 = false → x.turn = none))

/-- Packets and the bridge, by R280, R286, R292 to R300. A frame goes to ingest, the stations or the switch by its FLAGS; a packet for another module is
forwarded. A granted read is answered with its data, a refused one with STATUS 2, counted, event 0x0406; a granted write takes place, a refused one is
discarded. A new remote read with a tag, space and a route is logged and queued, RETRY being answered; without a tag it is counted; without a
route, or by an access that R293 does not admit, the master meets an access fault. A reissue of a logged read is answered RETRY while WAITING and with
its data in HELD. A response fills the entry that waits for it and is else stale, counted, with event 0x0407; each expiry moves its entry on. A write is
posted where the queue of its route has room, and with no route discarded and counted. -/
def Obligations.WeltBridge : Prop :=
  (∀ (s : State) (h : FlitHdr) (p : Packet) (sv : Option SvFrame) (g : GooseFrame) (ts : Nat) (m : Mod), s.mod.Takes h p → m = s.mod.received h p →
    p.dst = m.moduleId → bit p.flags 2 = true →
    exec (.weltFrameRx h p sv (some g) ts) s = .next { s with mod := (gooseStationRx g (some (m.tickFromLow p.tick)) m).freed h p }) ∧
  (∀ (s : State) (h : FlitHdr) (p : Packet) (sv : Option SvFrame) (g : Option GooseFrame) (ts : Nat) (m : Mod), s.mod.Takes h p → m = s.mod.received h p →
    p.dst = m.moduleId → bit p.flags 2 = false → bit p.flags 1 = false → p.vc ≠ 0 →
    exec (.weltFrameRx h p sv g ts) s = .next { s with mod :=
      (switchClassify { port := 768 + h.l, bytes := p.data, ts := ts, sv := sv, flags := p.flags, cls := p.cls } m).freed h p }) ∧
  (∀ (s : State) (h : FlitHdr) (p : Packet) (sv : Option SvFrame) (g : Option GooseFrame) (ts : Nat) (c : Option Chain) (e : Env) (rs : List StMsg) (m : Mod),
    s.mod.Takes h p → m = s.mod.received h p → p.dst ≠ m.moduleId → p.dst ≠ 255 →
    exec (.weltFrameRx h p sv g ts) s = .next { s with mod := (m.forwardPacket p h.l).answered h.l } ∧
    exec (.weltRdReqRx h p) s = .next { s with mod := (m.forwardPacket p h.l).answered h.l } ∧
    exec (.weltRdRspRx h p) s = .next { s with mod := (m.forwardPacket p h.l).answered h.l } ∧
    exec (.weltRdErrRx h p) s = .next { s with mod := (m.forwardPacket p h.l).answered h.l } ∧
    exec (.weltFenceRx h p c) s = .next { s with mod := (m.forwardPacket p h.l).answered h.l } ∧
    exec (.agreeRx ⟨h, p, rs⟩) s = .next { s with mod := (m.forwardPacket p h.l).answered h.l } ∧
    exec (.vectorRx ⟨h, p⟩) s = .next { s with mod := (m.forwardPacket p h.l).answered h.l } ∧
    (s.mod.moduleId = m.moduleId → exec (.weltWrReqRx h p e) s = .next { s with mod := (m.forwardPacket p h.l).answered h.l })) ∧
  (∀ (s : State) (h : FlitHdr) (p : Packet) (m : Mod), s.mod.Takes h p → m = s.mod.received h p → p.dst = m.moduleId →
    exec (.weltRdReqRx h p) s = .next { s with mod := (m.takeRequest h.l { pkt := p, granted := m.readGranted p.src p.offset p.len }).1.answered h.l }) ∧
  (∀ (s : State) (h : FlitHdr) (p : Packet) (e : Env) (m : Mod), s.mod.Takes h p → m = s.mod.received h p → p.dst = m.moduleId →
    regionOf p.offset ≠ .device ∨ s.mod.writeGranted p.src p.offset = false →
    exec (.weltWrReqRx h p e) s = .next { s with mod :=
      (m.takeRequest h.l { pkt := p, env := e, granted := m.writeGranted p.src p.offset }).1.answered h.l }) ∧
  (∀ (m n : Mod) (e : W2Entry) (bs : List Byte), e.pkt.ty = .rdReq → e.granted = true → m.loadOctets e.pkt.offset e.pkt.len none = some (bs, n) →
    m.serve e = (n.route { ty := .rdRsp, vc := 3, dst := e.pkt.src, src := n.moduleId, tagGen := e.pkt.tagGen, len := bs.length, status := 0, data := bs }).1) ∧
  (∀ (m n : Mod) (e : W2Entry), e.pkt.ty = .rdReq → e.granted = false → n = (m.bump 0x61300B).raise 0x0406 [e.pkt.src, e.pkt.offset, 0] →
    m.serve e = (n.route { ty := .rdErr, vc := 3, dst := e.pkt.src, src := n.moduleId, tagGen := e.pkt.tagGen, len := 0, status := 2, data := [] }).1) ∧
  (∀ (m : Mod) (e : W2Entry), e.pkt.ty = .wrReq → m.mayServe e = true ∧
    (e.granted = true → m.serve e = m.physWrite e.env none false e.pkt.offset e.pkt.data) ∧
    (e.granted = false → m.serve e = (m.bump 0x61300C).raise 0x0406 [e.pkt.src, e.pkt.offset, 1])) ∧
  (∀ (s : State) (w : Master) (a n t : Nat) (m : Mod) (p : Packet), s.mod.Runs → s.mod.mayUse w a n = true → s.mod.logged w a n = none → m = s.mod.abandon w →
    p = { ty := .rdReq, vc := 2, dst := (remoteOf a).1, src := m.moduleId, len := n, offset := (remoteOf a).2 } → m.routeLink p ≠ none →
    (if w = .fetch then (List.range 256).map (· + 768) else List.range 768).find? (fun t => (m.tag t).state == .free) = some t →
    n + m.spaceUsed (w == .fetch) ≤ (if w = .fetch then 131072 else 393216) → (m.tagsOf w).length < masterLimit w →
    exec (.remoteRead w a n) s = .next { s with mod :=
      (((m.setTag t { gen := (m.tag t).gen, state := .waiting, master := w, addr := a, len := n, outstanding := true }).route
        { p with tagGen := t + 1024 * (m.tag t).gen }).1.retry w a n) }) ∧
  (∀ (s : State) (w : Master) (a n : Nat) (m : Mod) (p : Packet), s.mod.Runs → s.mod.mayUse w a n = true → s.mod.logged w a n = none → m = s.mod.abandon w →
    p = { ty := .rdReq, vc := 2, dst := (remoteOf a).1, src := m.moduleId, len := n, offset := (remoteOf a).2 } →
    (m.routeLink p = none → exec (.remoteRead w a n) s = .next { s with mod := (m.bump 0x613007).masterFault w a false }) ∧
    (m.routeLink p ≠ none →
      (if w = .fetch then (List.range 256).map (· + 768) else List.range 768).find? (fun t => (m.tag t).state == .free) = none →
      exec (.remoteRead w a n) s = .next { s with mod := (m.bump 0x613003).retry w a n })) ∧
  (∀ (s : State) (w : Master) (a n : Nat), s.mod.Runs → s.mod.mayUse w a n = false →
    exec (.remoteRead w a n) s = .next { s with mod := s.mod.masterFault w a false }) ∧
  (∀ (m : Mod) (j a n : Nat), m.mayUse (.hart j) a n = true → regionOf a = .remote ∧ (remoteOf a).1 ≠ 0 ∧ (remoteOf a).1 ≠ 255 ∧
    (remoteOf a).1 ≠ m.moduleId ∧ ((m.hart j).mode = .m ∨ (m.hart j).mode = .hs) ∧ (n = 4 ∨ n = 8) ∧ a % n = 0) ∧
  (∀ (s : State) (w : Master) (a n : Nat), exec (.remoteReadReissue w a n) s = exec (.remoteRead w a n) s) ∧
  (∀ (s : State) (w : Master) (a n t : Nat), s.mod.Runs → s.mod.mayUse w a n = true → s.mod.logged w a n = some t → (s.mod.tag t).state = .waiting →
    exec (.remoteReadReissue w a n) s = .next { s with mod := s.mod.retry (s.mod.tag t).master (s.mod.tag t).addr (s.mod.tag t).len }) ∧
  (∀ (s : State) (w : Master) (a n t j : Nat) (m : Mod), s.mod.Runs → s.mod.mayUse w a n = true → s.mod.logged w a n = some t → (s.mod.tag t).state = .held →
    (s.mod.tag t).status = 0 → (s.mod.tag t).master = .hart j →
    m = ((s.mod.leaveTag t).setStall (.hart j) none).emit (.readData (.hart j) (s.mod.tag t).data) →
    exec (.remoteReadReissue w a n) s = .next { s with mod := m.setHart j { m.hart j with loaded := (s.mod.tag t).data } }) ∧
  (∀ (s : State) (w : Master) (a n t : Nat), s.mod.Runs → s.mod.mayUse w a n = true → s.mod.logged w a n = some t → (s.mod.tag t).state = .held →
    (s.mod.tag t).status ≠ 0 →
    exec (.remoteReadReissue w a n) s = .next { s with mod := (s.mod.leaveTag t).masterFault (s.mod.tag t).master (s.mod.tag t).addr false }) ∧
  (∀ (s : State) (w : Master) (a : Nat) (bs : List Byte) (p : Packet), s.mod.Runs → s.mod.mayUse w a bs.length = true →
    p = { ty := .wrReq, vc := 2, dst := (remoteOf a).1, src := s.mod.moduleId, len := bs.length, offset := (remoteOf a).2, data := bs } →
    s.mod.bridgeTakes p = true → exec (.remoteWrite w a bs none) s = .next { s with mod := s.mod.post p } ∧
    (∀ f, exec (.remoteWrite w a bs (some f)) s = .next { s with mod :=
      ((s.mod.post p).post { ty := .fence, vc := 2, dst := (remoteOf a).1, src := (s.mod.post p).moduleId, fenceId := f }) })) ∧
  (∀ (s : State) (w : Master) (a : Nat) (bs : List Byte) (f : Option Nat), s.mod.Runs → s.mod.mayUse w a bs.length = false →
    exec (.remoteWrite w a bs f) s = .next { s with mod := s.mod.masterFault w a true }) ∧
  (∀ (m n : Mod) (p : Packet), (m.route p = (n, true) → m.post p = n) ∧ (m.route p = (n, false) → m.post p = m.bump 0x613007)) ∧
  (∀ (s : State) (h : FlitHdr) (p : Packet) (m : Mod), s.mod.Takes h p → m = s.mod.received h p → p.dst = m.moduleId →
    (m.tag (p.tagGen % 1024)).state = .waiting → (m.tag (p.tagGen % 1024)).gen = p.tagGen / 1024 % 4 →
    exec (.weltRdRspRx h p) s = .next { s with mod := (m.setTag (p.tagGen % 1024) { m.tag (p.tagGen % 1024) with
      state := .held, status := 0, data := p.data, outstanding := false }).freed h p } ∧
    exec (.weltRdErrRx h p) s = .next { s with mod := (m.setTag (p.tagGen % 1024) { m.tag (p.tagGen % 1024) with
      state := .held, status := p.status, data := [], outstanding := false }).freed h p }) ∧
  (∀ (s : State) (h : FlitHdr) (p : Packet) (m : Mod), s.mod.Takes h p → m = s.mod.received h p → p.dst = m.moduleId →
    (m.tag (p.tagGen % 1024)).gen ≠ p.tagGen / 1024 % 4 →
    exec (.weltRdRspRx h p) s = .next { s with mod :=
      ((m.bump 0x613006).raise 0x0407 [p.src, p.tagGen % 1024, p.tagGen / 1024 % 4]).freed h p }) ∧
  (∀ (s : State) (t : Nat), s.mod.Runs → (s.mod.tag t).state = .waiting → exec (.respTimeoutExpiry t) s = .next { s with mod :=
    ((s.mod.setTag t { s.mod.tag t with state := .held, status := 4, outstanding := true }).bump 0x613005) }) ∧
  (∀ (s : State) (t : Nat), s.mod.Runs → (s.mod.tag t).state = .held →
    exec (.holdTimeExpiry t) s = .next { s with mod := (s.mod.leaveTag t).bump 0x613004 }) ∧
  (∀ (s : State) (t : Nat), s.mod.Runs → (s.mod.tag t).state = .quarantine →
    exec (.quarantineExpiry t) s = .next { s with mod := s.mod.setTag t { gen := ((s.mod.tag t).gen + 1) % 4 } })

/-- The rate handshake, by R302 to R305: a condition met proposes the next code with a new NONCE, which is a free value; a step up within RATE_MAX is
acknowledged, a step down only with low use on no triad link, any other refused, counted; ACK with the NONCE enters QUIESCE; a refusal or 50 µs without an
answer ends the proposal, counted, with a back-off of 100 ms in its direction; with MARK sent and received the lanes retrain; lock at the new code
is event 0x0402, and no lock event 0x0403 and the old code. -/
def Obligations.WeltRates : Prop :=
  (∀ (s : State) (l now : Nat) (w : UtilWindow) (m : Mod), s.mod.Runs → s.mod.lkUp l = true → m = ((s.mod.endBackoff l now).takeWindow l w).climbOn l →
    m.lkState l = lkActive → (m.link l).hs = .idle → m.num 0x610002 ≠ 0 → m.triadLink l = false → asksUp w = true →
    m.num 0x611002 l < m.num 0x611005 l → (m.link l).noUp = none →
    exec (.rateProposal l w now) s = .next { s with mod := m.propose l (m.num 0x611005 l - 1) }) ∧
  (∀ (s : State) (l now : Nat) (w : UtilWindow) (m : Mod), s.mod.Runs → s.mod.lkUp l = true → m = ((s.mod.endBackoff l now).takeWindow l w).climbOn l →
    m.lkState l = lkActive → (m.link l).hs = .idle → m.num 0x610002 ≠ 0 → m.triadLink l = false → asksUp w = false →
    m.num 0x611005 l < m.num 0x611003 l → (m.link l).noDown = none → (m.link l).calm (m.num 0x611005 l + 1) = true →
    exec (.rateProposal l w now) s = .next { s with mod := m.propose l (m.num 0x611005 l + 1) }) ∧
  (∀ (s : State) (l now : Nat) (w : UtilWindow) (m : Mod), s.mod.Runs → s.mod.lkUp l = true → m = ((s.mod.endBackoff l now).takeWindow l w).climbOn l →
    m.lkState l ≠ lkActive ∨ (m.link l).hs ≠ .idle ∨ m.num 0x610002 = 0 ∨ m.triadLink l = true →
    exec (.rateProposal l w now) s = .next { s with mod := m }) ∧
  (∀ (m : Mod) (l code : Nat), m.propose l code = ((({ m with freeCount := m.freeCount + 1 } : Mod).setLink l { m.link l with
    hs := .proposed, hsCode := code, hsNonce := Config.freeValue m.freeCount % 2 ^ 16 }).sayRate l 1 code (Config.freeValue m.freeCount % 2 ^ 16))) ∧
  (∀ (m : Mod) (l u : Nat), m.Good → l < 24 → (m.takeWindow l (.tenMs u)).num 0x61100A l = min u 100 ∧ (m.takeWindow l (.oneMs u)) = m) ∧
  (∀ (s : State) (h : FlitHdr) (code nonce util : Nat) (m n : Mod), s.mod.Hears h → m = s.mod.advanced h 1 → m.lkState h.l = lkActive → (m.link h.l).hs = .idle →
    n = m.setLink h.l { m.link h.l with hs := .idle } →
    (code < m.num 0x611005 h.l ∧ m.num 0x611002 h.l ≤ code) ∨
      (m.num 0x611005 h.l < code ∧ code ≤ 2 ∧ m.triadLink h.l = false ∧ (m.link h.l).calm code = true) →
    exec (.rateReqRx h code nonce util) s = .next { s with mod := ((n.sayRate h.l 2 code nonce).quiesce h.l code nonce).answered h.l }) ∧
  (∀ (s : State) (h : FlitHdr) (code nonce util : Nat) (m n : Mod), s.mod.Hears h → m = s.mod.advanced h 1 → m.lkState h.l = lkActive → (m.link h.l).hs = .idle →
    n = m.setLink h.l { m.link h.l with hs := .idle } →
    (code < m.num 0x611005 h.l ∧ code < m.num 0x611002 h.l) ∨
      (m.num 0x611005 h.l ≤ code ∧ ((m.link h.l).calm code = false ∨ m.triadLink h.l = true ∨ code = m.num 0x611005 h.l ∨ 2 < code)) →
    exec (.rateReqRx h code nonce util) s = .next { s with mod := (((n.bump 0x611010 h.l).sayRate h.l 3 code nonce).climbOn h.l).answered h.l }) ∧
  (∀ (s : State) (h : FlitHdr) (nonce : Nat) (m : Mod), s.mod.Hears h → m = s.mod.advanced h 1 → (m.link h.l).hs = .proposed →
    (m.link h.l).hsNonce = nonce → exec (.rateAckRx h nonce) s = .next { s with mod := (m.quiesce h.l (m.link h.l).hsCode nonce).answered h.l }) ∧
  (∀ (s : State) (h : FlitHdr) (nonce : Nat) (m : Mod), s.mod.Hears h → m = s.mod.advanced h 1 → (m.link h.l).hsNonce ≠ nonce →
    exec (.rateAckRx h nonce) s = .next { s with mod := m.answered h.l }) ∧
  (∀ (s : State) (h : FlitHdr) (now : Nat), s.mod.Hears h →
    exec (.rateNakRx ⟨h, now⟩) s = .next { s with mod := ((s.mod.advanced h 1).dropProposal h.l now).answered h.l }) ∧
  (∀ (s : State) (l now : Nat), s.mod.Runs → exec (.rateProposalTimeout ⟨l, now⟩) s = .next { s with mod := s.mod.dropProposal l now }) ∧
  (∀ (m : Mod) (l now : Nat), ((m.link l).hs = .proposed → m.dropProposal l now =
      ((m.setLink l { m.link l with hs := .idle }).backOff l (m.link l).hsCode now).bump 0x611010 l) ∧
    ((m.link l).hs ≠ .proposed → m.dropProposal l now = m)) ∧
  (∀ (m : Mod) (l code now : Nat), (code < m.num 0x611005 l → m.backOff l code now = m.setLink l { m.link l with noUp := some (now + 100000000) }) ∧
    (m.num 0x611005 l ≤ code → m.backOff l code now = m.setLink l { m.link l with noDown := some (now + 100000000) })) ∧
  (∀ (s : State) (l : Nat), s.mod.Runs → (s.mod.link l).hs = .quiesce → (s.mod.link l).replay = [] → (s.mod.link l).markSent = false →
    exec (.quiesceDrained l) s = .next { s with mod :=
      (((s.mod.setLink l { s.mod.link l with markSent := true }).sayRate l 4 (s.mod.link l).hsCode (s.mod.link l).hsNonce).maybeRetrain l) }) ∧
  (∀ (s : State) (h : FlitHdr) (m : Mod), s.mod.Hears h → m = s.mod.advanced h 1 → (m.link h.l).hs = .quiesce →
    exec (.rateMarkRx h) s = .next { s with mod := ((m.setLink h.l { m.link h.l with markSeen := true }).maybeRetrain h.l).answered h.l }) ∧
  (∀ (m : Mod) (l : Nat), (m.link l).hs = .quiesce → (m.link l).markSent = true → (m.link l).markSeen = true →
    m.maybeRetrain l = m.setLink l { m.link l with hs := .retrain }) ∧
  (∀ (m : Mod) (l : Nat), (m.link l).markSent = false ∨ (m.link l).markSeen = false → m.maybeRetrain l = m) ∧
  (∀ (s : State) (l : Nat) (x : WeltLink) (m : Mod), s.mod.Runs → x = s.mod.link l → x.hs = .retrain →
    m = (((s.mod.setLink l { x with hs := .idle }).set 0x611005 x.hsCode l).setLk l lkActive) →
    exec (.retrainLock l) s = .next { s with mod :=
      ((((((m.bump 0x61100F l).raise 0x0402 [l, x.hsOld, x.hsCode]).sayHello l).pump l).checkTriadLink l).climbOn l) }) ∧
  (∀ (s : State) (l : Nat), s.mod.Runs → (s.mod.link l).hs = .fallback → exec (.retrainLock l) s = .next { s with mod :=
    ((((s.mod.setLink l { s.mod.link l with hs := .idle }).setLk l lkActive).sayHello l).pump l) }) ∧
  (∀ (s : State) (l now : Nat), s.mod.Runs → (s.mod.link l).hs = .retrain → exec (.retrainTimeout ⟨l, now⟩) s = .next { s with mod :=
    ((((s.mod.setLink l { s.mod.link l with hs := .fallback }).backOff l (s.mod.link l).hsCode now).bump 0x611010 l).raise
      0x0403 [l, (s.mod.link l).hsCode]) }) ∧
  (∀ (s : State) (l : Nat), s.mod.Runs → (s.mod.link l).hs = .fallback → exec (.retrainFallbackTimeout l) s = .next { s with mod := s.mod.linkDown l 1 })

/-! ## The switch and its ports -/

/-- Classification and egress, by R313, R319, R320, R324 and R352. What a port that is down, a runt or a MAC control frame gives is not classified; a frame that the
port passes is. When a port becomes free its last copy is released and the next copies are chosen. A head of SC3 to SC7 that has waited longer than AGE_THRESH
moves to the tail of the next higher class, counted. A received frame that is short, long or has a bad FCS is counted so and its reception ends. -/
def Obligations.SwitchForwards : Prop :=
  (∀ (s : State) (f : SwFrame) (m : Mod), s.mod.Runs → s.mod.upIn f.port = true → 60 ≤ f.bytes.length → f.port < 768 → isMacControl f.bytes = false →
    m = s.mod.setPort f.port { s.mod.port f.port with held := some (s.mod.patterns f.port) } →
    ((m.verdict f).pass = true → exec (.switchClassify f) s = .next { s with mod := m.classify f (m.verdict f) false }) ∧
    ((m.verdict f).pass = false → (m.verdict f).onward = none → m.sessionsOf f.port 0 = [] → exec (.switchClassify f) s = .next { s with mod := m })) ∧
  (∀ (s : State) (f : SwFrame), s.mod.Runs → s.mod.upIn f.port = true → 768 ≤ f.port →
    ((s.mod.verdict f).pass = true → exec (.switchClassify f) s = .next { s with mod := s.mod.classify f (s.mod.verdict f) true }) ∧
    ((s.mod.verdict f).pass = false → (s.mod.verdict f).onward = none → s.mod.sessionsOf f.port 0 = [] → exec (.switchClassify f) s = .next s)) ∧
  (∀ (s : State) (f : SwFrame), s.mod.upIn f.port = false ∨ (f.port < 768 ∧ (f.bytes.length < 60 ∨ isMacControl f.bytes = true)) →
    exec (.switchClassify f) s = .next s) ∧
  (∀ (s : State) (p now : Nat) (c : Copy) (m : Mod), s.mod.Runs → s.mod.upOut p = true → (s.mod.port p).sending = some c → c.whole = true →
    m = (s.mod.setPort p { s.mod.port p with sending := none, cut := false }).release c →
    exec (.egressSchedule p now none) s = .next { s with mod := (sendNext p now ((m.port p).q.length + 1) m).swSync }) ∧
  (∀ (s : State) (p now : Nat) (e : Option (Nat × Nat × Bool)), s.mod.upOut p = false → exec (.egressSchedule p now e) s = .next s) ∧
  (∀ (m : Mod) (p : Nat) (c : Copy), (m.port p).q.find? (fun c => c.pub = 1 ∧ c.whole) = some c → m.pick p = some (c, (m.port p).deficit, (m.port p).turn)) ∧
  (∀ (m : Mod) (p : Nat) (c : Copy), (m.port p).q.find? (fun c => c.pub = 1 ∧ c.whole) = none → (m.port p).head 0 = some c →
    m.pick p = some (c, (m.port p).deficit, (m.port p).turn)) ∧
  (∀ (m : Mod) (p : Nat), (m.port p).q.find? (fun c => c.pub = 1 ∧ c.whole) = none → (m.port p).head 0 = none → (m.port p).guard = true ∨ (m.port p).paused = true →
    m.pick p = none) ∧
  (∀ (s : State) (p c now : Nat) (y : Copy) (d : List Nat), s.mod.Runs → 3 ≤ c → c ≤ 7 → (s.mod.port p).q.find? (fun y => y.cls = c) = some y →
    s.mod.num 0x300202 c ≠ 0 → 1000 * s.mod.num 0x300202 c < now - y.since →
    d = (if (dropFirst y (s.mod.port p).q).any (fun z => z.cls = c) then (s.mod.port p).deficit else (s.mod.port p).deficit.set c 0) →
    exec (.queuePromotion p c now) s = .next { s with mod := (((s.mod.setPort p { s.mod.port p with
      q := dropFirst y (s.mod.port p).q ++ [{ y with cls := c - 1, since := now }], deficit := d }).bump 0x301014 p).raiseTo 0x301021
        ((now - y.since) / 1000) p).swSync }) ∧
  (∀ (s : State) (p c now : Nat), c < 3 ∨ 7 < c ∨ s.mod.num 0x300202 c = 0 → exec (.queuePromotion p c now) s = .next s) ∧
  (∀ (s : State) (f : SwFrame) (ok : Bool) (m : Mod), s.mod.Runs → f.port ≤ 767 → s.mod.num 0x320002 f.port = psUp → frameLen f.bytes < 64 →
    m = s.mod.runFilters f false → exec (.frameReceived f ok) s = .next { s with mod := (m.bump 0x320022 f.port).rxBad f.port }) ∧
  (∀ (s : State) (f : SwFrame) (ok : Bool) (m : Mod), s.mod.Runs → f.port ≤ 767 → s.mod.num 0x320002 f.port = psUp → 64 ≤ frameLen f.bytes →
    s.mod.num 0x320005 f.port < frameLen f.bytes → m = s.mod.runFilters f false →
    exec (.frameReceived f ok) s = .next { s with mod := (m.bump 0x320023 f.port).rxBad f.port }) ∧
  (∀ (s : State) (f : SwFrame) (m : Mod), s.mod.Runs → f.port ≤ 767 → s.mod.num 0x320002 f.port = psUp → 64 ≤ frameLen f.bytes →
    frameLen f.bytes ≤ s.mod.num 0x320005 f.port → m = s.mod.runFilters f false →
    exec (.frameReceived f false) s = .next { s with mod := (m.bump 0x320021 f.port).rxBad f.port }) ∧
  (∀ (s : State) (f : SwFrame) (m : Mod), s.mod.Runs → f.port ≤ 767 → s.mod.num 0x320002 f.port = psUp → 64 ≤ frameLen f.bytes →
    frameLen f.bytes ≤ s.mod.num 0x320005 f.port → isMacControl f.bytes = false → m = s.mod.runFilters f true →
    exec (.frameReceived f true) s = .next { s with mod := (m.bump 0x320020 f.port).rxGood f }) ∧
  (∀ (s : State) (f : SwFrame) (ok : Bool), s.mod.num 0x320002 f.port ≠ psUp → s.mod.num 0x320002 f.port ≠ psDormant →
    exec (.frameReceived f ok) s = .next s)

/-- The forwarding tables, by R334 to R341. A sweep clears HIT of each learned entry that has it and removes one found clear twice; a flush removes the learned
entries of a port, with event 0x0233. OP of the MAC staging inserts or replaces a static entry, deletes, looks up and dumps, with RESULT 1, 2 not found, 3 full or 4
invalid; OP of the route staging likewise, a full table raising event 0x0232. Only the supervisor writes there. -/
def Obligations.ForwardingTables : Prop :=
  (∀ (s : State) (m : Mod), s.mod.Runs → m = ({ s.mod with sw := { s.mod.sw with mac := s.mod.sw.mac.map (fun b => (b.1, b.2.map (fun e =>
    if e.static then e else if e.hit then { e with hit := false, clear := 0 } else { e with clear := e.clear + 1 }))) } } : Mod) →
    exec .macSweep s = .next { s with mod := ((m.macRemove (fun e => !e.static && decide (2 ≤ e.clear))).1.bump 0x380006 0
      (m.macRemove (fun e => !e.static && decide (2 ≤ e.clear))).2) }) ∧
  (∀ (s : State) (p : Path) (n : Nat), s.mod.Serves p → portExists n = true →
    exec (.macFlushPort p n) s = .next { s with mod := (s.mod.macFlush n).report p 0 }) ∧
  (∀ (s : State) (p : Path) (n : Nat), s.mod.Serves p → portExists n = false →
    exec (.macFlushPort p n) s = .next { s with mod := s.mod.report p 0x06090030 }) ∧
  (∀ (m : Mod) (q : MacEntry → Bool), ∀ e ∈ ((m.macRemove q).1).macAll, q e = false ∧ e ∈ m.macAll) ∧
  (∀ (s : State) (p : Path), s.mod.Serves p → p ≠ .supervisor →
    exec (.macInsert p) s = .next { s with mod := s.mod.report p 0x06010000 } ∧ exec (.macDelete p) s = .next { s with mod := s.mod.report p 0x06010000 } ∧
    exec (.macLookup p) s = .next { s with mod := s.mod.report p 0x06010000 } ∧ exec (.macDumpStart p) s = .next { s with mod := s.mod.report p 0x06010000 } ∧
    exec (.routeInsert p) s = .next { s with mod := s.mod.report p 0x06010000 } ∧ exec (.routeDelete p) s = .next { s with mod := s.mod.report p 0x06010000 } ∧
    exec (.routeLookupOp p) s = .next { s with mod := s.mod.report p 0x06010000 }) ∧
  (∀ (s : State) (c d : Nat) (a : List Byte) (e : MacEntry) (m : Mod), s.mod.Serves .supervisor → c = s.mod.num 0x381001 → a = s.mod.oct 0x381002 →
    d = s.mod.num 0x381003 → c ≤ 4095 → a.length = 6 → bit d 15 = false → portExists d = true → s.mod.macFind c a = none →
    e = { mac := a, context := c, dest := d, static := true, hit := false, tick := s.mod.k % 2 ^ 32 } → s.mod.macInsert e = (m, true) →
    exec (.macInsert .supervisor) s = .next { s with mod := (m.set 0x381006 1).report .supervisor 0 }) ∧
  (∀ (s : State) (c d : Nat) (a : List Byte) (e : MacEntry) (m : Mod), s.mod.Serves .supervisor → c = s.mod.num 0x381001 → a = s.mod.oct 0x381002 →
    d = s.mod.num 0x381003 → c ≤ 4095 → a.length = 6 → bit d 15 = false → portExists d = true → s.mod.macFind c a = none →
    e = { mac := a, context := c, dest := d, static := true, hit := false, tick := s.mod.k % 2 ^ 32 } → s.mod.macInsert e = (m, false) →
    exec (.macInsert .supervisor) s = .next { s with mod := (s.mod.set 0x381006 3).report .supervisor 0 }) ∧
  (∀ (s : State), s.mod.Serves .supervisor → 4095 < s.mod.num 0x381001 ∨ (s.mod.oct 0x381002).length ≠ 6 →
    exec (.macInsert .supervisor) s = .next { s with mod := (s.mod.set 0x381006 4).report .supervisor 0 }) ∧
  (∀ (s : State) (b c : Nat) (e : MacEntry) (a : List Byte), s.mod.Serves .supervisor → c = s.mod.num 0x381001 → a = s.mod.oct 0x381002 →
    s.mod.macFind c a = some (b, e) →
    exec (.macDelete .supervisor) s =
      .next { s with mod := ((s.mod.macRemove (fun e => e.context == c && e.mac == a)).1.set 0x381006 1).report .supervisor 0 } ∧
    exec (.macLookup .supervisor) s = .next { s with mod :=
      ((((s.mod.set 0x381003 e.dest).set 0x381004 (b2n e.static + 2 * b2n e.hit + 4 * e.clear)).set 0x381006 1).report .supervisor 0) }) ∧
  (∀ (s : State), s.mod.Serves .supervisor → s.mod.macFind (s.mod.num 0x381001) (s.mod.oct 0x381002) = none →
    exec (.macDelete .supervisor) s = .next { s with mod := (s.mod.set 0x381006 2).report .supervisor 0 } ∧
    exec (.macLookup .supervisor) s = .next { s with mod := (s.mod.set 0x381006 2).report .supervisor 0 }) ∧
  (∀ (s : State), s.mod.Serves .supervisor → exec (.macDumpStart .supervisor) s = .next { s with mod :=
    (((({ s.mod with sw := { s.mod.sw with dump := s.mod.macAll.map MacEntry.octets } } : Mod).setOct 0x381007
      ((s.mod.macAll.map MacEntry.octets).headD [])).set 0x381006 1).report .supervisor 0) }) ∧
  (∀ (s : State) (p : Path) (l : List (List Byte)) (x : List Byte), s.mod.Reaches p → s.mod.sw.dump = x :: l →
    exec (.macDumpNext p) s = .next { s with mod :=
      (((({ s.mod with sw := { s.mod.sw with dump := l } } : Mod).setOct 0x381007 (l.headD [])).emit (.data x)).report p 0) }) ∧
  (∀ (s : State) (fam len b0 b1 b : Nat) (a : List Byte) (r : Route), s.mod.Serves .supervisor → fam = s.mod.num 0x3A1001 → a = s.mod.oct 0x3A1002 →
    len = s.mod.num 0x3A1003 → fam = 4 ∨ fam = 6 → a.length = famLen fam → len ≤ 8 * famLen fam → s.mod.routeFind fam len a = none →
    routeBuckets (routeKey fam len a) = (b0, b1) → r = { family := fam, len := len, pfx := maskTo len a, hop := s.mod.num 0x3A1004 } →
    insertBucket (s.mod.unitsAt b0) (s.mod.unitsAt b1) (s.mod.unitsAt routeOverflow) r.units 4 256 b0 b1 routeOverflow = some b →
    exec (.routeInsert .supervisor) s =
      .next { s with mod := ((s.mod.setRoutesAt b (s.mod.routesAt b ++ [r])).set 0x3A1006 1).report .supervisor 0 }) ∧
  (∀ (s : State) (fam len b0 b1 : Nat) (a : List Byte) (r : Route), s.mod.Serves .supervisor → fam = s.mod.num 0x3A1001 → a = s.mod.oct 0x3A1002 →
    len = s.mod.num 0x3A1003 → fam = 4 ∨ fam = 6 → a.length = famLen fam → len ≤ 8 * famLen fam → s.mod.routeFind fam len a = none →
    routeBuckets (routeKey fam len a) = (b0, b1) → r = { family := fam, len := len, pfx := maskTo len a, hop := s.mod.num 0x3A1004 } →
    insertBucket (s.mod.unitsAt b0) (s.mod.unitsAt b1) (s.mod.unitsAt routeOverflow) r.units 4 256 b0 b1 routeOverflow = none →
    exec (.routeInsert .supervisor) s =
      .next { s with mod := ((s.mod.set 0x3A1006 3).raise 0x0232 [fam, len]).report .supervisor 0 }) ∧
  (∀ (s : State) (fam len b : Nat) (a : List Byte) (r : Route), s.mod.Serves .supervisor → fam = s.mod.num 0x3A1001 → a = s.mod.oct 0x3A1002 →
    len = s.mod.num 0x3A1003 → fam = 4 ∨ fam = 6 → a.length = famLen fam → len ≤ 8 * famLen fam → s.mod.routeFind fam len a = some (b, r) →
    exec (.routeDelete .supervisor) s =
      .next { s with mod := ((s.mod.setRoutesAt b ((s.mod.routesAt b).filter (fun x => x ≠ r))).set 0x3A1006 1).report .supervisor 0 } ∧
    exec (.routeLookupOp .supervisor) s = .next { s with mod := (((s.mod.set 0x3A1004 r.hop).set 0x3A1006 1).report .supervisor 0) }) ∧
  (∀ (s : State), s.mod.Serves .supervisor → s.mod.num 0x3A1001 ≠ 4 → s.mod.num 0x3A1001 ≠ 6 →
    exec (.routeInsert .supervisor) s = .next { s with mod := (s.mod.set 0x3A1006 4).report .supervisor 0 } ∧
    exec (.routeDelete .supervisor) s = .next { s with mod := (s.mod.set 0x3A1006 4).report .supervisor 0 } ∧
    exec (.routeLookupOp .supervisor) s = .next { s with mod := (s.mod.set 0x3A1006 4).report .supervisor 0 })

/-- Lanes, ports and stations, by R178, R181, R346 to R350, R354, R355, R360, R363, R368 and R369. A mode takes its ports through DISABLED and retrains the lane;
polarity retrains it; ENABLE and DORMANT move the port's state; the link condition takes DOWN to UP with event 0x0200 and its loss UP to DOWN with event 0x0201;
a lost clock is counted; an idle group is gated with event 0x0207; the eye report is kept, with event 0x0202 below its threshold. A pause frame holds a port that
obeys it, and expires. The oldest entry of a duplicate table is forgotten. A station that stays away is DROPPED and shows its substitutes, with event 0x0605. -/
def Obligations.PortsAndStations : Prop :=
  (∀ (s : State) (p : Path) (l v : Nat) (m : Mod), s.mod.Serves p → l ≤ 191 → v ≤ 7 →
    m = s.mod.each (lanePorts l) (fun m q => (m.leaveUp q psDisabled).setPort q { (m.leaveUp q psDisabled).port q with link := false }) →
    exec (.laneModeWrite p l v) s =
      .next { s with mod := ((((m.set 0x310001 v l).set 0x310005 0 l).each (lanePorts l) Mod.portOn).report p 0) }) ∧
  (∀ (s : State) (p : Path) (l v : Nat), s.mod.Serves p → 191 < l → exec (.laneModeWrite p l v) s = .next { s with mod := s.mod.report p 0x08800001 } ∧
    exec (.lanePolarityWrite p l v) s = .next { s with mod := s.mod.report p 0x08800001 }) ∧
  (∀ (s : State) (p : Path) (l v : Nat), s.mod.Serves p → l ≤ 191 →
    exec (.lanePolarityWrite p l v) s = .next { s with mod := (((s.mod.set 0x310004 (v % 4) l).set 0x310005 0 l).report p 0) }) ∧
  (∀ (s : State) (p : Path) (q : Nat), s.mod.Serves p → q ≤ 767 →
    exec (.portEnableWrite p q 0) s = .next { s with mod := ((s.mod.set 0x320001 0 q).leaveUp q psDisabled).report p 0 } ∧
    exec (.portEnableWrite p q 1) s = .next { s with mod := ((s.mod.set 0x320001 1 q).portOn q).report p 0 }) ∧
  (∀ (s : State) (p : Path) (q : Nat), s.mod.Serves p → q ≤ 767 → s.mod.num 0x320002 q = psUp →
    exec (.portDormantWrite p q 1) s = .next { s with mod := ((s.mod.set 0x320003 1 q).leaveUp q psDormant).report p 0 }) ∧
  (∀ (s : State) (p : Path) (q : Nat), s.mod.Serves p → q ≤ 767 → s.mod.num 0x320002 q = psDormant →
    exec (.portDormantWrite p q 0) s = .next { s with mod := ((s.mod.wakePort q 0xFF).set 0x320003 0 q).report p 0 }) ∧
  (∀ (s : State) (q : Nat) (m : Mod), s.mod.Runs → s.mod.Good → q ≤ 767 → s.mod.provided q = true → s.mod.num 0x320002 q = psDown →
    s.mod.num 0x310005 (q / 4) ≠ 0 → m = (s.mod.setPort q { s.mod.port q with link := true }).setPs q psUp →
    exec (.portLinkUp q none) s = .next { s with mod := m.raise 0x0200 [q, s.mod.num 0x310001 (q / 4), s.mod.k] }) ∧
  (∀ (s : State) (q c : Nat), s.mod.Runs → q ≤ 767 → s.mod.provided q = true → s.mod.num 0x320002 q = psDown →
    exec (.portLinkUp q (some c)) s = .next { s with mod := s.mod.raise 0x0203 [q, c] }) ∧
  (∀ (s : State) (q c : Nat) (m : Mod), s.mod.Runs → q ≤ 767 → s.mod.num 0x320002 q = psUp → (s.mod.port q).link = true →
    m = ((s.mod.setPort q { s.mod.port q with link := false }).bump 0x320029 q).leaveUp q psDown →
    exec (.portLinkLoss q c) s = .next { s with mod := m.raise 0x0201 [q, c, s.mod.k] }) ∧
  (∀ (s : State) (q c : Nat), s.mod.Runs → q ≤ 767 → s.mod.num 0x320002 q = psDormant → (s.mod.port q).link = true →
    exec (.portLinkLoss q c) s = .next { s with mod := (s.mod.setPort q { s.mod.port q with link := false }).bump 0x320029 q }) ∧
  (∀ (s : State) (l : Nat), s.mod.Runs → l ≤ 191 → s.mod.num 0x310005 l ≠ 0 →
    exec (.laneCdrLoss l) s = .next { s with mod := (s.mod.set 0x310005 0 l).bump 0x31000C l }) ∧
  (∀ (s : State) (j : Nat), s.mod.Runs → j ≤ 11 → s.mod.num 0x350002 j ≠ 1 → s.mod.groupIdle j = true →
    exec (.laneGroupGate j) s = .next { s with mod := (s.mod.set 0x350002 1 j).raise 0x0207 [j, s.mod.k] }) ∧
  (∀ (s : State) (l h w : Nat) (m : Mod), s.mod.Runs → s.mod.Good → l ≤ 191 → s.mod.num 0x310005 l ≠ 0 → s.mod.num 0x310006 l = 1 →
    m = (s.mod.set 0x310009 (h % 65536) l).set 0x31000A (w % 65536) l →
    exec (.eyeMonitor l h w) s =
      .next { s with mod := if h % 65536 < s.mod.num 0x31000B l then m.raise 0x0202 [l, h % 65536] else m }) ∧
  (∀ (s : State) (q n : Nat) (m : Mod), s.mod.Runs → q ≤ 767 → s.mod.num 0x320002 q = psUp → m = (s.mod.bump 0x320020 q).bump 0x320024 q →
    m.num 0x320006 q ≠ 1 → m.num 0x320008 q = 1 →
    exec (.pauseFrameRx q n) s = .next { s with mod := m.setPort q { m.port q with paused := decide (n % 65536 ≠ 0) } }) ∧
  (∀ (s : State) (q : Nat), s.mod.Runs → exec (.pauseExpiry q) s = .next { s with mod := s.mod.setPort q { s.mod.port q with paused := false } }) ∧
  (∀ (s : State) (q : Nat), s.mod.Runs → (s.mod.port q).xoff = true → s.mod.num 0x32000A q ≤ s.mod.occupancy q → s.mod.num 0x320007 q = 1 →
    s.mod.num 0x320006 q = 0 →
    exec (.pauseXoffRepeat q) s = .next { s with mod := (s.mod.bump 0x320025 q).emit (.pause q (s.mod.num 0x32000B q)) }) ∧
  (∀ (s : State) (q : Nat), (s.mod.port q).xoff = false → exec (.pauseXoffRepeat q) s = .next s) ∧
  (∀ (s : State) (i : Nat), s.mod.Runs → exec (.dupEntryForget i) s = .next { s with mod := s.mod.setDupTable i ((s.mod.dupTable i).drop 1) }) ∧
  (∀ (s : State) (f : GooseFrame) (o : Option Nat), s.mod.Runs → s.mod.stationsOn.filter (s.mod.gooseMatches f) = [] →
    exec (.gooseStationRx f o) s = .next s) ∧
  (∀ (s : State) (f : GooseFrame) (rs : List Nat), s.mod.Runs → s.mod.stationsOn.filter (s.mod.gooseMatches f) = rs → rs ≠ [] →
    exec (.gooseStationRx f none) s = .next { s with mod := ((s.mod.each rs (fun m r => gooseAt f m.k r m)).forwardStation f.bytes) } ∧
    (∀ k, exec (.gooseStationRx f (some k)) s = .next { s with mod := s.mod.each rs (fun m r => gooseAt f k r m) })) ∧
  (∀ (s : State) (r : Nat) (m : Mod), s.mod.Runs → s.mod.num 0x5A000E r = stPresent → (s.mod.station r).agreed.invalid = true → s.mod.logic.imaged = true →
    m = (s.mod.set 0x5A000E stDropped r).setStationBits r (s.mod.substBits r) →
    exec (.stationDropout r) s = .next { s with mod :=
      ((((m.setBitAt (0x84000 + r) false).setBitAt (0x84800 + r) true).bump 0x5A000C r).raise 0x0605 [r, 2, s.mod.k]) }) ∧
  (∀ (s : State) (r : Nat), s.mod.num 0x5A000E r ≠ stPresent → exec (.stationDropout r) s = .next s)

/-- Sources and the time base, by R376, R378, R380 to R385, R397. A qualified source raises event 0x0103; a valid offset is kept and judged; a lost source becomes ABSENT.
An offset above 1 µs for 1 s leads from LOCKED to LOCKING, event 0x0104; at its limit HOLDOVER becomes FREERUN, event 0x0102. The 10 MHz reference reports its changes
with event 0x010B. A time of day is accepted in FREERUN only. A pending leap second changes UTC_OFFSET, event 0x010A. An edge leaves at a second boundary. -/
def Obligations.TheTimeBase : Prop :=
  (∀ (s : State) (j : Nat) (m : Mod), s.mod.Runs → s.mod.qstate j = qsQualifying → (s.mod.timeSrc j).offsets ≠ [] → s.mod.isTod j = true →
    (∀ x ∈ (s.mod.timeSrc j).offsets, ((x * (s.mod.timeSrc j).offsets.length - (s.mod.timeSrc j).offsets.sum).natAbs : Int) ≤
      1000 * (s.mod.timeSrc j).offsets.length) → m = (s.mod.set 0x3C1003 qsQualified j).set 0x3C1005 s.mod.k j →
    exec (.sourceQualified j) s = .next { s with mod := (m.raise 0x0103 [j, m.num 0x3C1004 j]).judgeTime }) ∧
  (∀ (s : State) (j : Nat), s.mod.qstate j ≠ qsQualifying → exec (.sourceQualified j) s = .next s) ∧
  (∀ (s : State), s.mod.Runs → s.mod.num 0x3C2001 = 1 → exec .irigFrameLoss s = .next { s with mod :=
    ((s.mod.setTimeSrc 2 { s.mod.timeSrc 2 with last := none }).loseSource 2 1) }) ∧
  (∀ (s : State) (f : IrigFrame) (l : Nat), s.mod.Runs → s.mod.num 0x3C2001 = 1 → s.mod.num 0x3C2002 ≠ 1 → f.good = true →
    (s.mod.timeSrc 2).last = some l → s.mod.irigSecond f = l + 1 →
    exec (.irigFrameRx f) s = .next { s with mod := ((s.mod.setTimeSrc 2 { s.mod.timeSrc 2 with last := some (l + 1) }).measured 2
      ((s.mod.tb f.now : Int) - s.mod.int 32 0x3C2006 - s.mod.irigSecond f * 1000000000)) }) ∧
  (∀ (s : State) (f : IrigFrame), s.mod.num 0x3C2001 ≠ 1 → exec (.irigFrameRx f) s = .next s ∧ exec .irigFrameLoss s = .next s) ∧
  (∀ (s : State) (i now j l : Nat) (x : Int), s.mod.Runs → s.mod.ppsSource i = some j → (s.mod.timeSrc j).last = some l → l + 999999000 ≤ now →
    now ≤ l + 1000001000 → x = ((s.mod.tb now : Int) - s.mod.int 32 (0x3C2005 + i)) % 1000000000 → x ≤ 400000000 →
    exec (.ppsInEdge i now) s = .next { s with mod := (s.mod.setTimeSrc j { s.mod.timeSrc j with last := some now }).measured j x }) ∧
  (∀ (s : State) (i j : Nat), s.mod.Runs → s.mod.ppsSource i = some j → exec (.ppsLossTimeout i) s = .next { s with mod :=
    ((s.mod.setTimeSrc j { s.mod.timeSrc j with last := none }).loseSource j 1) }) ∧
  (∀ (s : State) (i now : Nat), s.mod.ppsSource i = none → exec (.ppsInEdge i now) s = .next s ∧ exec (.ppsLossTimeout i) s = .next s) ∧
  (∀ (s : State), s.mod.Runs → s.mod.time.stepHold = true →
    exec .stepRetry s = .next { s with mod := ({ s.mod with time := { s.mod.time with stepHold := false } } : Mod).judgeTime }) ∧
  (∀ (s : State), s.mod.time.stepHold = false → exec .stepRetry s = .next s) ∧
  (∀ (s : State) (c : Commit) (m : Mod), s.mod.Runs → s.mod.capturing = true → s.mod.mstate = msMember →
    s.mod.stepCommits.filter (fun c => (c.state == .proposed || c.state == .confirmed) && c.target == s.mod.k + 48) = [c] →
    m = ((s.mod.sendCommit 5 c 0x08800006).cancelCommit c 0x08800006 s.mod.rank).stepDropped →
    exec .stepCaptureCheck s = .next { s with mod := (m.raise 0x0106 [s.mod.rank, c.target]).noteTime }) ∧
  (∀ (s : State), s.mod.capturing = false → exec .stepCaptureCheck s = .next s) ∧
  (∀ (s : State), s.mod.Runs → s.mod.num 0x3C2007 = 0 → exec .ref10mQualified s = .next { s with mod := (s.mod.set 0x3C2007 2).raise 0x010B [2] } ∧
    exec .ref10mLoss s = .next s) ∧
  (∀ (s : State), s.mod.Runs → s.mod.num 0x3C2007 = 2 → exec .ref10mLoss s = .next { s with mod := (s.mod.set 0x3C2007 0).raise 0x010B [0] } ∧
    exec .ref10mQualified s = .next s) ∧
  (∀ (s : State) (m : Mod), s.mod.Runs → s.mod.timeState = tsLocked → 1000 < (s.mod.int 64 0x3C0003).natAbs →
    m = ({ s.mod with time := { s.mod.time with before := tsLocked } } : Mod).set 0x3C0001 tsLocking →
    exec .offsetExcursionTimeout s = .next { s with mod := (m.raise 0x0104 [m.selected, 4, s.mod.k]).judgeTime }) ∧
  (∀ (s : State), (s.mod.int 64 0x3C0003).natAbs ≤ 1000 → exec .offsetExcursionTimeout s = .next s) ∧
  (∀ (s : State), s.mod.Runs → s.mod.timeState = tsHoldover → exec .holdoverLimitExpiry s = .next { s with mod :=
    ((((s.mod.set 0x3C0001 tsFreerun).set 0x3C000C (s.mod.num 0x3C0005)).raise 0x0102 [s.mod.num 0x3C0005, s.mod.k]).judgeTime) }) ∧
  (∀ (s : State), s.mod.timeState ≠ tsHoldover → exec .holdoverLimitExpiry s = .next s) ∧
  (∀ (s : State) (p : Path) (v now : Nat), s.mod.Serves p → s.mod.timeState = tsFreerun → s.mod.time.everLocked = false → s.mod.isMember = false →
    s.mod.tick.running = true → exec (.todSetWrite p v now) s = .next { s with mod :=
      (({ s.mod with time := { s.mod.time with todSet := true, jump := some ((s.mod.tb now : Int) - v) } } : Mod).report p 0) }) ∧
  (∀ (s : State) (p : Path) (v now : Nat), s.mod.Serves p → s.mod.timeState ≠ tsFreerun ∨ s.mod.time.everLocked = true ∨ s.mod.isMember = true →
    exec (.todSetWrite p v now) s = .next { s with mod := s.mod.report p 0x08000022 }) ∧
  (∀ (s : State) (v : Nat), s.mod.Runs → s.mod.num 0x3C000A = 1 → v = ofInt 16 (s.mod.int 16 0x3C0009 + 1) →
    exec .leapSecond s = .next { s with mod := ((((s.mod.set 0x3C0009 v).set 0x3C000A 0).raise 0x010A [v]).noteTime) }) ∧
  (∀ (s : State) (v : Nat), s.mod.Runs → s.mod.num 0x3C000A = 2 → v = ofInt 16 (s.mod.int 16 0x3C0009 - 1) →
    exec .leapSecond s = .next { s with mod := ((((s.mod.set 0x3C0009 v).set 0x3C000A 0).raise 0x010A [v]).noteTime) }) ∧
  (∀ (s : State), s.mod.num 0x3C000A = 0 → exec .leapSecond s = .next s) ∧
  (∀ (s : State) (o now : Nat), s.mod.Runs → o ≤ 1 → ((s.mod.tb now : Int) - s.mod.int 32 0x3C3002 o) % 1000000000 = 0 → s.mod.num 0x3C3001 o = 1 →
    exec (.ppsOutEdge o now) s = .next { s with mod := s.mod.emit (.ppsOut o (s.mod.num 0x3C3003 o)) }) ∧
  (∀ (s : State) (o now : Nat), s.mod.num 0x3C3001 o = 0 → exec (.ppsOutEdge o now) s = .next s)

/-- Time in a triad and PTP, by R381, R388 to R390, R393 and R396. A new leader raises event 0x0108; the leader sends its time on each triad link, and a follower
takes its offset from it; without it the follower holds. A Sync on an instance's SLAVE port gives an offset, a two-step one with its Follow_Up; a peer-delay request is
answered and a response gives half the round trip; management messages go to port 864; a message leaves at its interval; a timeout decides the ports afresh. -/
def Obligations.TriadTimeAndPtp : Prop :=
  (∀ (s : State) (r : Nat) (m : Mod), s.mod.Runs → r ≠ s.mod.leader → s.mod.rank ≠ 0 → 1 ≤ r → r ≤ 3 → r ≠ s.mod.rank →
    s.mod.num 0x600102 r = msMember → m = (s.mod.raise 0x0108 [s.mod.leader, r, s.mod.k]).set 0x3C000F r →
    exec (.leaderChange r) s = .next { s with mod := (if m.following then ({ m with time := { m.time with xfer := false } } : Mod)
      else ({ m with time := { m.time with xfer := false } } : Mod).judgeTime) }) ∧
  (∀ (s : State), exec (.leaderChange s.mod.leader) s = .next s) ∧
  (∀ (s : State) (now : Nat), s.mod.Runs → s.mod.mstate = msMember → s.mod.leader = s.mod.rank →
    exec (.timeTransferSend now) s = .next { s with mod :=
      (s.mod.each (s.mod.linksUp.filter (fun l => s.mod.triadLink l)) (fun m l => (m.sendTransfer l false now).sendTransfer l true now)) }) ∧
  (∀ (s : State) (l o d now : Nat), s.mod.Runs → s.mod.following = true → s.mod.triadLink l = true →
    s.mod.num 0x600101 s.mod.leader = s.mod.num 0x611006 l → s.mod.selected = selTransfer → exec (.timeTransferRx l o d now) s = .next { s with mod :=
      ((({ s.mod with time := { s.mod.time with xfer := true } } : Mod).set 0x3C0003 (ofInt 64 ((s.mod.tb now : Int) - o - d))).judgeTime) }) ∧
  (∀ (s : State) (l o d now : Nat), s.mod.following = false ∨ s.mod.triadLink l = false → exec (.timeTransferRx l o d now) s = .next s) ∧
  (∀ (s : State), s.mod.Runs → s.mod.following = true → s.mod.time.xfer = true → exec .timeTransferLoss s = .next { s with mod :=
    { s.mod with time := { s.mod.time with xfer := false, servo := .hold } } }) ∧
  (∀ (s : State) (j : Nat), s.mod.Runs → s.mod.bestSource = some j → s.mod.following = true → s.mod.num 0x3C0011 < (s.mod.srcX j).natAbs →
    exec .followerDeviation s = .next { s with mod := s.mod.raise 0x0109 [j, s.mod.num 0x3C1004 j] }) ∧
  (∀ (s : State) (x : PtpMsg) (i : Nat) (g : Gm), s.mod.Runs → s.mod.ptpOf x = some i → x.twoStep = false → s.mod.parent i = some g →
    s.mod.num 0x3D4001 x.port = ptSlave → g.cls ≤ s.mod.num 0x3D000B i →
    exec (.ptpSyncRx x) s = .next { s with mod := (s.mod.measured i ((s.mod.tb x.ts : Int) + s.mod.int 32 0x320013 x.port - x.origin - x.corr -
      s.mod.num 0x3D4002 x.port - s.mod.int 32 0x3D4003 x.port)) }) ∧
  (∀ (s : State) (x : PtpMsg) (i : Nat), s.mod.Runs → s.mod.ptpOf x = some i → x.twoStep = true →
    exec (.ptpSyncRx x) s = .next { s with mod := s.mod.setPtpPort x.port { s.mod.ptpPort x.port with
      sync := some (x.seq, ((s.mod.tb x.ts : Int) + s.mod.int 32 0x320013 x.port).toNat, x.corr) } }) ∧
  (∀ (s : State) (x : PtpMsg) (i t2 : Nat) (c : Int), s.mod.Runs → s.mod.ptpOf x = some i → (s.mod.ptpPort x.port).sync = some (x.seq, t2, c) →
    exec (.ptpFollowUpRx x) s = .next { s with mod :=
      ((s.mod.setPtpPort x.port { s.mod.ptpPort x.port with sync := none }).ptpOffset i x.port t2 x.origin (c + x.corr)) }) ∧
  (∀ (s : State) (x : PtpMsg), s.mod.ptpOf x = none →
    exec (.ptpSyncRx x) s = .next s ∧ exec (.ptpFollowUpRx x) s = .next s ∧ exec (.ptpAnnounceRx x) s = .next s) ∧
  (∀ (s : State) (x : PtpMsg) (i : Nat) (m : Mod), s.mod.Runs → s.mod.ptpOf x = some i → (s.mod.ptpPort x.port).best = none →
    m = ((s.mod.setPtpPort x.port { s.mod.ptpPort x.port with best := some {
      p1 := x.p1, cls := x.cls, acc := x.acc, var := x.var, p2 := x.p2, id := x.gmId, steps := x.steps + 1,
      sender := x.sender, port := x.senderPort } }).bmca i none).takeUtc x → m.parent i = none →
    exec (.ptpAnnounceRx x) s = .next { s with mod := m }) ∧
  (∀ (s : State) (x : PtpMsg), s.mod.Runs → x.port < 768 → (s.mod.ptpOf x).isSome = true →
    exec (.ptpPdelayReqRx x) s = .next { s with mod := (s.mod.emit (.ptp x.port .pdelayResp x.domain
      [x.seq, x.sender, x.senderPort, ((s.mod.tb x.ts : Int) + s.mod.int 32 0x320013 x.port).toNat])) }) ∧
  (∀ (s : State) (p t1 t2 t3 t4 : Nat) (c : Int), s.mod.Runs → p < 768 → (s.mod.ptpInst p).isSome = true →
    exec (.ptpPdelayRespRx p t1 t2 t3 t4 c) s =
      .next { s with mod := s.mod.set 0x3D4002 (min ((((t4 : Int) - t1 - (t3 - t2) - c) / 2).toNat) (2 ^ 32 - 1)) p }) ∧
  (∀ (s : State) (f : SwFrame) (c : Copy), s.mod.Runs → c = {
      no := s.mod.sw.nextNo, ingress := f.port, cls := 7, frame := f.bytes, vlan := 1, tick := s.mod.k
      ts := s.mod.rxStamp f.port f.ts
      since := f.ts } →
    exec (.ptpManagementRx f) s = .next { s with mod :=
      ((({ s.mod with sw := { s.mod.sw with nextNo := s.mod.sw.nextNo + 1 } } : Mod).place f.saturated f.ts (864, c)).swSync) }) ∧
  (∀ (s : State) (p i now : Nat), s.mod.Runs → s.mod.ptpInst p = some i → s.mod.num 0x3D4001 p = ptMaster →
    exec (.ptpMessageSend p .sync now) s =
      .next { s with mod := s.mod.emit (.ptp p .sync (s.mod.num 0x3D0003 i) [s.mod.num 0x3D0008 i, s.mod.tb now]) } ∧
    exec (.ptpMessageSend p .pdelayReq now) s = .next { s with mod := s.mod.emit (.ptp p .pdelayReq (s.mod.num 0x3D0003 i) [s.mod.tb now]) }) ∧
  (∀ (s : State) (p i now : Nat), s.mod.Runs → s.mod.ptpInst p = some i → s.mod.num 0x3D4001 p ≠ ptMaster → exec (.ptpMessageSend p .sync now) s = .next s ∧
    exec (.ptpMessageSend p .announce now) s = .next s ∧ exec (.ptpMessageSend p .followUp now) s = .next s) ∧
  (∀ (s : State) (p i : Nat), s.mod.Runs → s.mod.ptpInst p = some i → exec (.ptpAnnounceTimeout p) s = .next { s with mod :=
    (if s.mod.num 0x3D4001 p = ptSlave then ((s.mod.setPtpPort p {}).bmca i (some p)).loseSource i 1 else (s.mod.setPtpPort p {}).bmca i (some p)) }) ∧
  (∀ (s : State) (i : Nat), s.mod.Runs → i < 2 → exec (.ptpSyncMissed i) s = .next { s with mod := s.mod.loseSource i 1 }) ∧
  (∀ (m : Mod) (j c : Nat), m.qstate j ≠ qsQualifying → m.qstate j ≠ qsQualified → m.loseSource j c = m)

/-! ## Clicker, CAN and the recorder -/

/-- The Clicker, by R402, R406, R409, R410, R412, R418 and R419. Once a tick, from the end of L2 to the end of P, the slots that are ARMED or TRIGGERED take
in ascending order the rows of the tick captured ten before. An edge on an input line is timestamped, counted and offered to the terms of KIND 2; the end of a
pulse is an edge of its output. An XTRIG of format 1 from another module is counted and offered to the terms of KIND 3, any other is counted as ignored; one for
another module is forwarded, and a broadcast goes on where it has a hop left. FORCE offers a trigger to the terms of KIND 6; STOP, DRAIN, RELEASE and RESEND act
in the states R412 and R419 give them and are refused in any other; only 1 is taken, and RESEND takes a range of the image. The slots that have octets to send take
turns, and a frame carries the next octets of the image, with LAST, RESEND, CONTINUOUS and FINAL_HEADER as R418 says. -/
def Obligations.TheClicker : Prop :=
  (∀ (s : State) (now : Nat) (c : CapTick), s.mod.Runs → s.mod.tick.phase = .V ∨ s.mod.tick.phase = .P → s.mod.tick.running = true →
    s.mod.click.wrote ≠ s.mod.k + 1 → s.mod.click.hist.find? (fun c => c.k + 10 = s.mod.k) = some c →
    exec (.clickerRowWrite now) s = .next { s with mod := (((List.range 64).filter s.mod.recording).foldl (fun a x => a.1.ckTurn now x c a.2)
      (({ s.mod with click := { s.mod.click with wrote := s.mod.k + 1 } } : Mod), 0)).1 }) ∧
  (∀ (s : State) (now : Nat), s.mod.Runs → s.mod.tick.phase = .V ∨ s.mod.tick.phase = .P → s.mod.tick.running = true → s.mod.click.wrote ≠ s.mod.k + 1 →
    s.mod.click.hist.find? (fun c => c.k + 10 = s.mod.k) = none →
    exec (.clickerRowWrite now) s = .next { s with mod := { s.mod with click := { s.mod.click with wrote := s.mod.k + 1 } } }) ∧
  (∀ (s : State) (now : Nat), s.mod.click.wrote = s.mod.k + 1 ∨ s.mod.tick.running = false ∨ (s.mod.tick.phase ≠ .V ∧ s.mod.tick.phase ≠ .P) →
    exec (.clickerRowWrite now) s = .next s) ∧
  (∀ (s : State) (j now at' : Nat) (lv : Bool), s.mod.Runs → j ≤ 31 → s.mod.num 0x4C6001 j = 0 → s.mod.num 0x4C6005 j ≠ b2n lv →
    at' = s.mod.tb now - s.mod.num 0x4C6002 j → exec (.trigInputEdge j now lv) s = .next { s with mod :=
      ((((s.mod.set 0x4C6005 (b2n lv) j).set 0x4C6006 at' j).bump 0x4C6007 j).offerTrigger now
        (fun kind edge arg => kind == 2 && arg == j && edgeHit edge lv) { instant := at' }) }) ∧
  (∀ (s : State) (j now : Nat) (lv : Bool), 31 < j ∨ s.mod.num 0x4C6001 j ≠ 0 ∨ s.mod.num 0x4C6005 j = b2n lv →
    exec (.trigInputEdge j now lv) s = .next s) ∧
  (∀ (s : State) (j now : Nat), s.mod.Runs → s.mod.trigMode j = some 1 → s.mod.num 0x4C6005 j = 1 → exec (.trigPulseEnd j now) s = .next { s with mod :=
    ((((s.mod.set 0x4C6005 0 j).set 0x4C6006 (s.mod.tb now) j).bump 0x4C6007 j).emit (.trig j false)) }) ∧
  (∀ (s : State) (j now : Nat), s.mod.trigMode j ≠ some 1 ∨ s.mod.num 0x4C6005 j = 0 → exec (.trigPulseEnd j now) s = .next s) ∧
  (∀ (s : State) (h : FlitHdr) (p : Packet) (now : Nat) (m : Mod), s.mod.Takes h p → m = s.mod.received h p → p.dst = m.moduleId ∨ p.dst = 255 → p.ty = .xtrig →
    exec (.weltXtrigRx h p now) s = .next { s with mod := (m.takeCross h.l p now).freed h p }) ∧
  (∀ (s : State) (h : FlitHdr) (p : Packet) (now : Nat) (m : Mod), s.mod.Takes h p → m = s.mod.received h p → p.dst ≠ m.moduleId → p.dst ≠ 255 →
    exec (.weltXtrigRx h p now) s = .next { s with mod := (m.forwardPacket p h.l).answered h.l }) ∧
  (∀ (m : Mod) (l : Nat) (p : Packet) (now : Nat), p.dst ≠ 255 ∨ p.src = (m.takeXtrig p now).moduleId → m.takeCross l p now = m.takeXtrig p now) ∧
  (∀ (m n : Mod) (l : Nat) (p : Packet) (now : Nat), n = m.takeXtrig p now → p.dst = 255 → p.src ≠ n.moduleId →
    (p.hops = 0 → m.takeCross l p now = n.bump 0x613009) ∧
    (p.hops ≠ 0 → m.takeCross l p now = n.broadcast { p with hops := p.hops - 1 } (some l))) ∧
  (∀ (m : Mod) (p : Packet) (now : Nat), p.src = m.moduleId ∨ field p.data 0 1 ≠ 1 → m.takeXtrig p now = m.bump 0x4C000B) ∧
  (∀ (m : Mod) (p : Packet) (now : Nat), p.src ≠ m.moduleId → field p.data 0 1 = 1 → m.takeXtrig p now = (m.bump 0x4C000A).offerTrigger now
    (fun kind _ arg => kind == 3 && arg % 16 == field p.data 1 1 && (arg / 256 % 256 == 0 || arg / 256 % 256 == p.src))
    { instant := field p.data 8 8, cross := true, unsync := bit (field p.data 24 1) 5 || bit m.timeQuality 5 }) ∧
  (∀ (s : State) (p : Path) (x now : Nat), s.mod.Serves p → x ≤ 63 → exec (.clickerForce p x 1 now) s = .next { s with mod :=
    ((s.mod.each ((s.mod.terms x).filter (fun t => t.2.1 == 6)) (fun m t => m.detect now x { term := t.1, instant := m.tb now })).report p 0) }) ∧
  (∀ (s : State) (p : Path) (x : Nat), s.mod.Serves p → x ≤ 63 → s.mod.ckState x = ckTriggered →
    exec (.clickerStop p x 1) s = .next { s with mod := (s.mod.ckFinish x 3).report p 0 }) ∧
  (∀ (s : State) (p : Path) (x : Nat), s.mod.Serves p → x ≤ 63 → s.mod.ckState x = ckComplete →
    exec (.clickerDrain p x 1) s = .next { s with mod := (s.mod.set 0x4C2001 ckDraining x).report p 0 }) ∧
  (∀ (s : State) (p : Path) (x : Nat), s.mod.Serves p → x ≤ 63 → s.mod.ckState x = ckComplete ∨ s.mod.ckState x = ckDone →
    exec (.clickerRelease p x 1) s = .next { s with mod := (s.mod.ckArm x).report p 0 }) ∧
  (∀ (s : State) (p : Path) (x : Nat), s.mod.Serves p → x ≤ 63 →
    (s.mod.ckState x ≠ ckTriggered → exec (.clickerStop p x 1) s = .next { s with mod := s.mod.report p 0x08000022 }) ∧
    (s.mod.ckState x ≠ ckComplete → exec (.clickerDrain p x 1) s = .next { s with mod := s.mod.report p 0x08000022 }) ∧
    (s.mod.ckState x ≠ ckComplete → s.mod.ckState x ≠ ckDone → exec (.clickerRelease p x 1) s = .next { s with mod := s.mod.report p 0x08000022 })) ∧
  (∀ (s : State) (p : Path) (x v now : Nat), s.mod.Serves p → x ≤ 63 → v ≠ 1 →
    exec (.clickerForce p x v now) s = .next { s with mod := s.mod.report p 0x06090030 } ∧
    exec (.clickerStop p x v) s = .next { s with mod := s.mod.report p 0x06090030 } ∧
    exec (.clickerDrain p x v) s = .next { s with mod := s.mod.report p 0x06090030 } ∧
    exec (.clickerRelease p x v) s = .next { s with mod := s.mod.report p 0x06090030 }) ∧
  (∀ (s : State) (p : Path) (x v now : Nat), s.mod.Serves p → 63 < x →
    exec (.clickerForce p x v now) s = .next { s with mod := s.mod.report p 0x08800001 } ∧
    exec (.clickerStop p x v) s = .next { s with mod := s.mod.report p 0x08800001 } ∧
    exec (.clickerDrain p x v) s = .next { s with mod := s.mod.report p 0x08800001 } ∧
    exec (.clickerRelease p x v) s = .next { s with mod := s.mod.report p 0x08800001 }) ∧
  (∀ (s : State) (p : Path) (x : Nat) (b : List Byte), s.mod.Serves p → x ≤ 63 → b.length = 12 → field b 8 4 ≠ 0 → field b 0 8 + field b 8 4 ≤ s.mod.imageLen x →
    (s.mod.ck x).gone = 0 → s.mod.ckState x = ckComplete ∨ s.mod.ckState x = ckDone → exec (.clickerResend p x b) s = .next { s with mod :=
      ((s.mod.setCk x { s.mod.ck x with resend := (s.mod.ck x).resend ++ [(field b 0 8, field b 8 4)] }).report p 0) }) ∧
  (∀ (s : State) (p : Path) (x : Nat) (b : List Byte), s.mod.Serves p → x ≤ 63 → b.length = 12 →
    (field b 8 4 = 0 ∨ s.mod.imageLen x < field b 0 8 + field b 8 4 ∨ ((s.mod.ck x).ring < field b 0 8 + field b 8 4 ∧
        max (field b 0 8) (s.mod.ck x).ring < (s.mod.ck x).ring + (s.mod.ck x).gone * (s.mod.ck x).rowLen) →
      exec (.clickerResend p x b) s = .next { s with mod := s.mod.report p 0x06090030 }) ∧
    (field b 8 4 ≠ 0 → field b 0 8 + field b 8 4 ≤ s.mod.imageLen x → (s.mod.ck x).gone = 0 → s.mod.ckState x ≠ ckComplete → s.mod.ckState x ≠ ckDone →
      exec (.clickerResend p x b) s = .next { s with mod := s.mod.report p 0x08000022 })) ∧
  (∀ (s : State) (p : Path) (x : Nat) (b : List Byte), s.mod.Serves p → b.length ≠ 12 →
    exec (.clickerResend p x b) s = .next { s with mod := s.mod.report p 0x06070010 }) ∧
  (∀ (s : State) (now x : Nat), s.mod.Runs → ((List.range 64).map (fun i => (s.mod.click.turn + 1 + i) % 64)).find? s.mod.wantsDrain = some x →
    exec (.drainFrameSend now) s = .next { s with mod := (({ s.mod with click := { s.mod.click with turn := x } } : Mod).drainSlot now x) }) ∧
  (∀ (s : State) (now : Nat), (∀ x, x < 64 → s.mod.wantsDrain x = false) → exec (.drainFrameSend now) s = .next s) ∧
  (∀ (m n : Mod) (now x off len : Nat) (t : List (Nat × Nat)), (m.ck x).resend = (off, len) :: t →
    n = m.setCk x { m.ck x with resend := if len ≤ m.num 0x4C0008 then t else (off + m.num 0x4C0008, len - m.num 0x4C0008) :: t } →
    m.drainSlot now x = n.sendDrain now x (2 + 4 * b2n (m.ckMode x 0)) off (m.imageLen x) (n.imageOctets x (m.ck x).count off (min len (m.num 0x4C0008)))) ∧
  (∀ (m n : Mod) (now x most : Nat), (m.ck x).resend = [] → m.ckMode x 0 = false → (m.ck x).sent < m.imageLen x →
    most = min (m.num 0x4C0008) (m.imageLen x - (m.ck x).sent) →
    n = (m.setCk x { m.ck x with sent := (m.ck x).sent + most }).bump 0x4C2008 x most →
    ((m.ck x).sent + most ≠ m.imageLen x → m.drainSlot now x =
      n.sendDrain now x 0 (m.ck x).sent (m.imageLen x) (m.imageOctets x (m.ck x).count (m.ck x).sent most)) ∧
    ((m.ck x).sent + most = m.imageLen x → m.drainSlot now x =
      (n.sendDrain now x 1 (m.ck x).sent (m.imageLen x) (m.imageOctets x (m.ck x).count (m.ck x).sent most)).drained x)) ∧
  (∀ (m n : Mod) (now x most : Nat), (m.ck x).resend = [] → m.ckMode x 0 = true → (m.ck x).sent < m.imageLen x →
    most = min (m.num 0x4C0008) (m.imageLen x - (m.ck x).sent) →
    n = (m.setCk x { m.ck x with sent := (m.ck x).sent + most }).bump 0x4C2008 x most →
    m.drainSlot now x = n.sendDrain now x 4 (m.ck x).sent (if m.ckState x = ckTriggered then 0 else m.imageLen x) (m.imageOctets x 0 (m.ck x).sent most)) ∧
  (∀ (m : Mod) (now x : Nat), (m.ck x).resend = [] → m.ckMode x 0 = true → m.imageLen x ≤ (m.ck x).sent → m.ckState x = ckDraining →
    m.drainSlot now x = (m.sendDrain now x 13 0 (m.imageLen x) (m.imageOctets x (m.ck x).count 0 0x100)).drained x)

/-- CAN channels, by R424, R426, R428, R430, R432, R434, R437 and R442. Recovery from bus-off clears the error counts, with event 0x0902; a mode goes through OFF; a request
makes a free buffer PENDING; an abort ends a PENDING buffer with STATUS 6; a read of RX_NEXT removes the oldest record. A good frame sent ends its buffer SENT;
arbitration lost or an error counts against its limit, and a transmit error count above 255 is bus-off. A good frame received is counted and offered. A cycle starts
with the reference message; a window opens for its column; the tunnel sends its batch and discards a malformed frame. -/
def Obligations.CanChannels : Prop :=
  (∀ (s : State) (n now : Nat), s.mod.Runs → n ≤ 191 → s.mod.busOff n = true → s.mod.on 0x5C100C n = true →
    exec (.busoffAutoRecovery n now) s = .next { s with mod := (s.mod.leaveBusOff n).contend n now }) ∧
  (∀ (s : State) (n now : Nat), s.mod.busOff n = false → exec (.busoffAutoRecovery n now) s = .next s) ∧
  (∀ (m : Mod) (n : Nat), m.Good → n ≤ 191 → (m.leaveBusOff n).num 0x5C1011 n = 0 ∧ (m.leaveBusOff n).num 0x5C1013 n = 0 ∧ (m.leaveBusOff n).num 0x5C1014 n = 0) ∧
  (∀ (s : State) (p : Path) (n now : Nat), s.mod.Serves p → n ≤ 191 → s.mod.busOff n = true → s.mod.on 0x5C100C n = false →
    exec (.canRecover p n 1 now) s = .next { s with mod := ((s.mod.leaveBusOff n).contend n now).report p 0 }) ∧
  (∀ (s : State) (p : Path) (n v : Nat), s.mod.Serves p → s.mod.Good → n ≤ 191 → v ≤ 3 → (v = 3 → n ≤ 7) →
    ∃ t, exec (.canModeWrite p n v) s = .next t ∧ t.mod.num 0x5C1001 n = v ∧ t.mod.num 0x5C1011 n = 0 ∧ t.mod.num 0x5C1013 n = 0 ∧ t.mod.num 0x5C1014 n = 0 ∧
      t.mod.oct 0x5C3001 n = [] ∧ t.mod.num 0x5C3002 n = 0 ∧ t.mod.num 0x5C2007 (3 * n) ≠ 1 ∧ t.mod.num 0x5C2007 (3 * n) ≠ 2 ∧
      t.mod.bits = s.mod.bits ∧ t.mod.mem = s.mod.mem ∧ (s.mod.dic.sdo = none ∨ s.mod.sdoChannel ≠ n → t.mod.raised = s.mod.raised)) ∧
  (∀ (s : State) (p : Path) (n v : Nat), s.mod.Serves p → n ≤ 191 → 3 < v ∨ (v = 3 ∧ 7 < n) →
    exec (.canModeWrite p n v) s = .next { s with mod := s.mod.report p 0x06090030 }) ∧
  (∀ (s : State) (p : Path) (i now : Nat) (idle : Bool) (m : Mod), s.mod.Serves p → i ≤ 575 →
    m = s.mod.setCanChan (i / 3) { s.mod.canChan (i / 3) with busy := !idle && (s.mod.canChan (i / 3)).sending.isNone } → m.num 0x5C2005 i = 0 →
    m.num 0x5C2007 i ≠ 1 → m.num 0x5C2007 i ≠ 2 →
    exec (.canTxRequest p i now idle) s = .next { s with mod := (((m.setCanBuf i {}).set 0x5C2007 1 i).contend (i / 3) now).report p 0 }) ∧
  (∀ (s : State) (p : Path) (i : Nat), s.mod.Serves p → i ≤ 575 → s.mod.num 0x5C2007 i = 1 →
    exec (.canTxAbort p i) s = .next { s with mod := ((s.mod.set 0x5C2007 6 i).refill (i / 3)).report p 0 }) ∧
  (∀ (s : State) (p : Path) (i : Nat), s.mod.Serves p → i ≤ 575 → s.mod.num 0x5C2007 i = 2 →
    exec (.canTxAbort p i) s = .next { s with mod := (s.mod.setCanBuf i { s.mod.canBuf i with abort := true }).report p 0 }) ∧
  (∀ (s : State) (p : Path) (n : Nat) (r : List Byte) (l : List (List Byte)), s.mod.Reaches p → n ≤ 191 → (s.mod.canChan n).fifo = r :: l →
    exec (.canFifoRead p n) s = .next { s with mod := ((((s.mod.emit (.data r)).setCanChan n { s.mod.canChan n with
      fifo := l, overrun := (s.mod.canChan n).overrun && !l.isEmpty }).fifoSync n).report p 0) }) ∧
  (∀ (s : State) (now : Nat), s.mod.can.batch = [] → exec (.tunnelWaitExpiry now) s = .next s) ∧
  (∀ (s : State) (now : Nat), s.mod.Runs → exec (.tunnelWaitExpiry now) s = .next { s with mod := s.mod.sendTunnel now }) ∧
  (∀ (s : State) (bs : List Byte) (now e : Nat), s.mod.Runs → tunnelParse (bs.drop (if hasTag 0x8100 bs then 18 else 14)) = .error e →
    exec (.tunnelFrameRx bs now) s = .next { s with mod := (s.mod.bump 0x5C0009).raise 0x0906 [beNat (slice bs 6 6), Config.eventField 0x0906 e] }) ∧
  (∀ (b : List Byte), (field b 0 1 ≠ 1 → tunnelParse b = .error 1) ∧ (field b 0 1 = 1 → field b 1 1 = 0 → tunnelParse b = .error 2)) ∧
  (∀ (s : State) (n sof now : Nat) (f : CanFrame) (a m : Mod), s.mod.Runs → n ≤ 191 → s.mod.canMode n ≠ 0 → s.mod.busOff n = false →
    a = (if s.mod.canDrives n then s.mod.emit (.canAck n) else s.mod) →
    m = (((a.setCanChan n { s.mod.canChan n with busy := false }).bump 0x5C1015 n).rxCountDown n) →
    exec (.canFrameRx n f sof now) s = .next { s with mod := ((if (m.dropRef n (m.isRef n f)).sdoConsumes n f then m.dropRef n (m.isRef n f)
      else (m.dropRef n (m.isRef n f)).offerFrame n f sof now).contend n now) }) ∧
  (∀ (s : State) (n sof now : Nat) (f : CanFrame), s.mod.canMode n = 0 ∨ s.mod.busOff n = true → exec (.canFrameRx n f sof now) s = .next s) ∧
  (∀ (s : State) (n now : Nat) (b : Bool), s.mod.Runs → n ≤ 191 → s.mod.canMode n = 1 → s.mod.busOff n = false → (s.mod.canChan n).sending = none →
    exec (.canRxError n b now) s = .next { s with mod := (((((s.mod.setCanChan n { s.mod.canChan n with busy := false, refLost := false }).bump 0x5C1014 n
      (if b then 8 else 1)).errState n).emit (.canError n)).contend n now) }) ∧
  (∀ (s : State) (n now b : Nat) (m : Mod), s.mod.Runs → (s.mod.canChan n).sending = some (.buf b) →
    m = (s.mod.setCanChan n { s.mod.canChan n with sending := none }).bump 0x5C1016 n →
    exec (.canTxSuccess n now) s = .next { s with mod :=
      ((((((m.set 0x5C1013 (m.num 0x5C1013 n - 1) n).errState n).set 0x5C2007 3 (3 * n + b)).refill n)).contend n now) }) ∧
  (∀ (s : State) (n now : Nat) (c : Bool), (s.mod.canChan n).sending = none →
    exec (.canTxSuccess n now) s = .next s ∧ exec (.canArbLoss n) s = .next s ∧ exec (.canTxError n c now) s = .next s) ∧
  (∀ (s : State) (n b : Nat) (m : Mod), s.mod.Runs → (s.mod.canChan n).sending = some (.buf b) → m = (s.mod.setCanChan n { s.mod.canChan n with
      sending := none, busy := true, refLost := false }).setCanBuf (3 * n + b) { s.mod.canBuf (3 * n + b) with losses := (s.mod.canBuf (3 * n + b)).losses + 1 } →
    exec (.canArbLoss n) s = .next { s with mod := (m.retryBuf n (3 * n + b) (m.num 0x5C100F n != 0 &&
      decide (m.num 0x5C100F n ≤ (s.mod.canBuf (3 * n + b)).losses + 1)) 4) }) ∧
  (∀ (s : State) (n now j : Nat) (m : Mod), s.mod.Runs → (s.mod.canChan n).sending = some (.excl j) →
    m = (((s.mod.setCanChan n { s.mod.canChan n with sending := none }).emit (.canError n)).loseWindow n j) → 255 < m.num 0x5C1013 n + 8 →
    exec (.canTxError n true now) s = .next { s with mod := ((m.set 0x5C1013 255 n).enterBusOff n) }) ∧
  (∀ (m : Mod) (i n st : Nat), (m.canBuf i).abort = false → m.retryBuf n i false st = m.set 0x5C2007 1 i) ∧
  (∀ (s : State) (n now : Nat), s.mod.Runs → s.mod.canMode n ≠ 3 → exec (.ttCycleStart n now) s = .next s) ∧
  (∀ (s : State) (n now c ct : Nat) (m : Mod) (r : TtRun), s.mod.Runs → n ≤ 7 → s.mod.canMode n = 3 → s.mod.inPhase .P = true →
    ((s.mod.canChan n).run = none ∧ ct = s.mod.num 0x5E0001 n) ∨ (∃ x : TtRun, (s.mod.canChan n).run = some x ∧ ct = x.cycleTicks) → s.mod.k % ct = 0 →
    (s.mod.canChan n).excl = none → r = s.mod.ttSettings n → c = s.mod.k / r.cycleTicks % r.cycles →
    m = (((s.mod.setCanChan n { s.mod.canChan n with run := some r, cycleAt := s.mod.tb now, arb := (0, 0), ref := none, refLost := false }).set
      0x5E0006 c n).bump 0x5E000A n (s.mod.triad.armedCan.filter (fun o => o / 256 == n && (columnOf r.columns (o % 256)).2.2 != 1)).length) →
    ((m.isMember ∨ m.mstate = msStandalone) → m.busOff n = false → exec (.ttCycleStart n now) s = .next { s with mod :=
      ((m.setCanChan n { m.canChan n with ref := some (m.refFrame n c) }).contend n now) }) ∧
    ((m.isMember = false ∧ m.mstate ≠ msStandalone) ∨ m.busOff n = true → exec (.ttCycleStart n now) s = .next { s with mod := m })) ∧
  (∀ (s : State) (n now : Nat), s.mod.inPhase .P = false ∨ 7 < n → exec (.ttCycleStart n now) s = .next s) ∧
  (∀ (s : State) (n j now st len : Nat) (r : TtRun), s.mod.Runs → n ≤ 7 → j ≤ 31 → s.mod.canMode n = 3 → (s.mod.canChan n).run = some r →
    (s.mod.canChan n).excl = none → columnOf r.columns j = (st, len, 2) →
    exec (.ttWindowStart n j now) s = .next { s with mod := ((s.mod.setCanChan n { s.mod.canChan n with
      arb := ((s.mod.canChan n).cycleAt + st, (s.mod.canChan n).cycleAt + st + len) }).contend n now) }) ∧
  (∀ (s : State) (n j now st len e : Nat) (r : TtRun) (bits : Table Nat), s.mod.Runs → n ≤ 7 → j ≤ 31 → s.mod.canMode n = 3 →
    (s.mod.canChan n).run = some r → (s.mod.canChan n).excl = none → columnOf r.columns j = (st, len, 1) →
    s.mod.triad.armedCan.contains (256 * n + j) = true → e = matrixAt r.matrix (s.mod.num 0x5E0006 n) j →
    (bit e 15 = true → s.mod.windowBits = some bits → exec (.ttWindowStart n j now) s = .next { s with mod :=
      (s.mod.openExclusive n j ((s.mod.canChan n).cycleAt + st + len) now (s.mod.outMessage (e % 512) bits)) }) ∧
    (bit e 15 = false → exec (.ttWindowStart n j now) s = .next s)) ∧
  (∀ (s : State) (n j now : Nat), (s.mod.canChan n).run = none → exec (.ttWindowStart n j now) s = .next s)

/-- The event recorder, by R508, R509, R512 to R519 and R522. The first event raised, the lowest code of its cycle, takes a token of its code, where its code
is not exempt, and is submitted, or is suppressed and counted; a submission with a token of the global bucket and an empty queue is written to its slot and advances
NEXT_SEQ, keeping every other octet of memory; any other waits in the queue of 256 or is dropped and counted. A refill gives a token back, to a summary or to the drop
record where one is due. The restart scan sets the sequence, the cycle and the base, and writes the power-up record. A checkpoint, an anchor and a software event
submit their records. -/
def Obligations.TheRecorder : Prop :=
  (∀ (s : State) (same t : Nat) (e : Ev), s.mod.Runs → firstEvent same s.mod.raised = some e →
    exec (.eventRaised same t) s = .next { s with mod :=
      ((({ s.mod with raised := dropFirst e s.mod.raised } : Mod).occur (evRecord e t)).opTime t) }) ∧
  (∀ (s : State) (same t : Nat), s.mod.raised = [] → exec (.eventRaised same t) s = .next s) ∧
  (∀ (m : Mod) (e : RecEntry), codeExempt e.code = true → m.occur e = m.submit e) ∧
  (∀ (m : Mod) (e : RecEntry), codeExempt e.code = false → (m.bucket e.code).used < m.num 0x682002 (codeRange e.code) →
    m.occur e = (m.setBucket e.code { m.bucket e.code with used := (m.bucket e.code).used + 1 }).submit e) ∧
  (∀ (m : Mod) (e : RecEntry), codeExempt e.code = false → m.num 0x682002 (codeRange e.code) ≤ (m.bucket e.code).used →
    m.occur e = (m.setBucket e.code { m.bucket e.code with count := (m.bucket e.code).count + 1,
                                                           first := if (m.bucket e.code).count = 0 then e.t else (m.bucket e.code).first
                                                           last := e.t
                                                           payload := e.payload }).bump 0x680007) ∧
  (∀ (m : Mod) (e : RecEntry), m.recorder.scanned = true → m.recorder.queue = [] → m.recorder.dropDue = false → m.recorder.used < 2000 →
    m.submit e = ({ m with recorder := { m.recorder with used := m.recorder.used + 1 } } : Mod).writeRecord e) ∧
  (∀ (m : Mod) (e : RecEntry), m.recorder.scanned = false → m.recorder.queue.length < 256 →
    m.submit e = { m with recorder := { m.recorder with queue := m.recorder.queue ++ [e] } }) ∧
  (∀ (m : Mod) (e : RecEntry), m.recorder.drops ≠ 0 → 256 ≤ m.recorder.queue.length →
    m.submit e = ({ m with recorder := { m.recorder with drops := m.recorder.drops + 1 } } : Mod).bump 0x680008) ∧
  (∀ (m : Mod) (e : RecEntry), m.Good → (m.writeRecord e).num 0x680001 = m.num 0x680001 + 1 ∧
    Memory.readN (m.writeRecord e).mem (recAt (slotOfSeq (m.num 0x680001))) 128 =
      recordOctets e (m.num 0x680004) (m.opAt e.t) (m.num 0x680001) ∧
    (∀ a, a < recAt (slotOfSeq (m.num 0x680001)) ∨ recAt (slotOfSeq (m.num 0x680001)) + 128 ≤ a →
      Memory.read (m.writeRecord e).mem a = Memory.read m.mem a) ∧ (m.writeRecord e).bits = m.bits ∧ (m.writeRecord e).raised = m.raised) ∧
  (∀ (s : State) (c t : Nat), s.mod.Runs → (s.mod.bucket c).used ≠ 0 → (s.mod.bucket c).count = 0 →
    exec (.codeTokenRefill c t) s = .next { s with mod := (s.mod.setBucket c { s.mod.bucket c with used := (s.mod.bucket c).used - 1 }).opTime t }) ∧
  (∀ (s : State) (c t : Nat), s.mod.Runs → (s.mod.bucket c).used ≠ 0 → (s.mod.bucket c).count ≠ 0 →
    exec (.codeTokenRefill c t) s = .next { s with mod := (((s.mod.setBucket c { used := (s.mod.bucket c).used }).submit (ownRecord 0x0002
      (toLE 2 c ++ [0, 0] ++ toLE 4 (min (s.mod.bucket c).count 0xFFFFFFFF) ++ toLE 6 (s.mod.opAt (s.mod.bucket c).first) ++ [0, 0] ++
        toLE 6 (s.mod.opAt (s.mod.bucket c).last) ++ [0, 0] ++ slice (s.mod.bucket c).payload 0 72) t)).opTime t) }) ∧
  (∀ (s : State) (c t : Nat), (s.mod.bucket c).used = 0 → exec (.codeTokenRefill c t) s = .next s) ∧
  (∀ (s : State) (t : Nat), s.mod.Runs → s.mod.recorder.scanned = true → s.mod.recorder.dropDue = false → exec (.globalTokenRefill t) s = .next { s with mod :=
    ((drainQueue 1 ({ s.mod with recorder := { s.mod.recorder with used := s.mod.recorder.used - 1 } } : Mod)).opTime t) }) ∧
  (∀ (s : State) (t : Nat) (m : Mod), s.mod.Runs → s.mod.recorder.scanned = true → s.mod.recorder.dropDue = true →
    m = ({ s.mod with recorder := { s.mod.recorder with used := s.mod.recorder.used - 1 } } : Mod) →
    exec (.globalTokenRefill t) s = .next { s with mod := (m.writeDrops t).opTime t }) ∧
  (∀ (m : Mod) (t : Nat) (b : Bucket), b = m.bucket 0x0003 → b.used < m.num 0x682002 0 →
    m.writeDrops t = ({ m with recorder := { m.recorder with drops := 0
                                                             firstDrop := 0
                                                             dropDue := false
                                                             buckets := Table.set m.recorder.buckets {} 0x0003 { b with used := b.used + 1 }
                                                             used := m.recorder.used + 1 } } : Mod).writeRecord
      (ownRecord 0x0003 (toLE 4 m.recorder.drops ++ toLE 6 (m.opAt m.recorder.firstDrop)) t)) ∧
  (∀ (s : State) (t : Nat), s.mod.Runs → s.mod.recorder.scanned = false → exec (.globalTokenRefill t) s = .next { s with mod :=
    { s.mod with recorder := { s.mod.recorder with used := s.mod.recorder.used - 1 } } }) ∧
  (∀ (s : State) (t bad : Nat) (m n : Mod), s.mod.Runs → s.mod.recorder.scanned = false → s.mod.newestRecord = none →
    bad = ((usedSlots s.mod.mem).filter (fun j => !recordValid j (s.mod.slotOctets j))).length →
    m = ((s.mod.set 0x680006 bad).set 0x680001 0).set 0x680004 0 →
    n = ({ m with recorder := { m.recorder with scanned := true, base := 0, origin := t, used := m.recorder.used + 1 } } : Mod) →
    exec (.recorderScanDone t) s = .next { s with mod := ((drainQueue 256 (n.writeRecord (ownRecord 0x0000
      (toLE 1 (n.num 0x203002) ++ toLE 1 n.lcState ++ toLE 4 bad) t))).opTime t) }) ∧
  (∀ (s : State) (t bad : Nat) (b : List Byte) (m n : Mod), s.mod.Runs → s.mod.recorder.scanned = false → s.mod.newestRecord = some b →
    bad = ((usedSlots s.mod.mem).filter (fun j => !recordValid j (s.mod.slotOctets j))).length →
    m = ((s.mod.set 0x680006 bad).set 0x680001 (field b 0x10 6 + 1)).set 0x680004 ((field b 0x04 3 + 1) % 2 ^ 24) →
    n = ({ m with recorder := { m.recorder with scanned := true, base := field b 0x08 6, origin := t, used := m.recorder.used + 1 } } : Mod) →
    exec (.recorderScanDone t) s = .next { s with mod := ((drainQueue 256 (n.writeRecord (ownRecord 0x0000
      (toLE 1 (n.num 0x203002) ++ toLE 1 n.lcState ++ toLE 4 bad) t))).opTime t) }) ∧
  (∀ (s : State) (t : Nat), s.mod.recorder.scanned = true → exec (.recorderScanDone t) s = .next s) ∧
  (∀ (s : State) (t : Nat), s.mod.Runs → s.mod.recorder.scanned = true →
    exec (.opTimeCheckpoint t) s = .next { s with mod := (s.mod.submit (ownRecord 0x0001 [] t)).opTime t }) ∧
  (∀ (s : State) (p : Path) (t now : Nat), s.mod.Serves p → exec (.anchorWrite p 1 t now) s = .next { s with mod := (((s.mod.submit (ownRecord 0x0110
    (toLE 8 (s.mod.tb now) ++ toLE 1 s.mod.timeQuality ++ toLE 8 s.mod.k ++ toLE 1 (s.mod.num 0x3C0001)) t)).opTime t).report p 0) }) ∧
  (∀ (s : State) (p : Path) (v t now : Nat), s.mod.Serves p → v ≠ 1 → exec (.anchorWrite p v t now) s = .next { s with mod := s.mod.report p 0x06090030 }) ∧
  (∀ (s : State) (p : Path) (t : Nat), s.mod.Serves p → 0x8000 ≤ s.mod.num 0x683001 → s.mod.num 0x683002 ≤ 4 → s.mod.num 0x683003 = 0x80 →
    exec (.swWrite p 1 t) s = .next { s with mod := (((s.mod.occur { code := s.mod.num 0x683001, severity := s.mod.num 0x683002, source := s.mod.num 0x683003,
                                                                     payload := s.mod.oct 0x683004, t := t }).opTime t).report p 0) }) ∧
  (∀ (s : State) (p : Path) (t : Nat), s.mod.Serves p → s.mod.num 0x683001 < 0x8000 ∨ 4 < s.mod.num 0x683002 →
    exec (.swWrite p 1 t) s = .next { s with mod := s.mod.report p 0x06090030 })

/-! ## Power, keys and the dictionary's paths -/

/-- Resets and the supervision of the module, by R199, R479, R480, R528 to R530, R532, R535, R536, R538, R541 and R544. Each cause leaves the reset state with that
cause: held, every object but the count of quarantined reads at its default, every bit 0, no memory listed but MRAM's, fuses and MRAM kept; a low of RESET_N below
50 ns is ignored. A release starts up to step 4, a factory test mode does not. The first copy accepted boots once XSPI_RESET_N is high, and with none the boot ROM
halts; CONFIG and LANES complete their steps. A life-cycle change that passes its checks blows its fuses and resets the module, erasing the configuration from RETURNED
on. The loop, the clocks, the sensors and the watchdog act as their rules say. -/
def Obligations.ResetAndPower : Prop :=
  (∀ (m : Mod) (c torn : Nat), (m.resetState c torn).power.held = c ∧ (m.resetState c torn).bits = [] ∧
    (∀ o i, objKey o i ≠ objKey 0x613001 0 → (m.resetState c torn).val o i = ({} : Mod).val o i) ∧ (m.resetState c torn).welt.tags = m.quarantined ∧
    (m.resetState c torn).raised = [] ∧ (m.resetState c torn).nv = m.nv ∧ (m.resetState c torn).keys = {} ∧
    (∀ a, a < 0x60000000 ∨ 0x61000000 ≤ a → Memory.read (m.resetState c torn).mem a = Memory.read [] a)) ∧
  (∀ (s : State) (torn : Nat), exec (.resetAssert (some torn)) s = .next { s with mod := s.mod.resetState 1 torn } ∧
    exec (.resetAssert none) s = .next s) ∧
  (∀ (s : State) (pos ref : Nat), s.mod.power.held = 1 → s.mod.power.factory = false →
    exec (.resetRelease ⟨pos, false⟩ ref) s = .next { s with mod := s.mod.startUp pos ref } ∧
    exec (.resetRelease ⟨pos, true⟩ ref) s = .next { s with mod := { s.mod with power := { s.mod.power with factory := true } } }) ∧
  (∀ (s : State) (pos ref : Nat) (b : Bool), s.mod.power.held ≠ 1 ∨ s.mod.power.factory = true → exec (.resetRelease ⟨pos, b⟩ ref) s = .next s) ∧
  (∀ (s : State) (pos ref : Nat), 2 ≤ s.mod.power.held →
    s.mod.power.held ≠ 6 ∨ b32.le s.mod.power.tempMax (b32.sub s.mod.power.trip 0x41700000) = true → exec (.internalResetEnd pos ref) s = .next { s with mod := s.mod.startUp pos ref }) ∧
  (∀ (s : State) (pos ref : Nat), s.mod.power.held < 2 ∨
      (s.mod.power.held = 6 ∧ b32.le s.mod.power.tempMax (b32.sub s.mod.power.trip 0x41700000) = false) →
    exec (.internalResetEnd pos ref) s = .next s) ∧
  (∀ (m : Mod) (pos ref : Nat), m.Good → (m.startUp pos ref).power.held = 0 ∧ (m.startUp pos ref).num 0x203001 = 4 ∧
    (m.startUp pos ref).num 0x203002 = m.power.held ∧ (m.startUp pos ref).num 0x600001 = pos % 4 ∧ (m.startUp pos ref).num 0x643002 = 1 ∧
    (m.startUp pos ref).mem = m.mem) ∧
  (∀ (s : State) (a : List Byte) (b : Option (List Byte)), s.mod.num 0x203001 = 4 → s.mod.power.halted = false → s.mod.copyCause (some a) = 0 →
    exec (.secureBoot (some a) b) s = .next { s with mod := (s.mod.setXspi true).bootFrom 0 0 a }) ∧
  (∀ (s : State) (a : Option (List Byte)) (b : List Byte), s.mod.num 0x203001 = 4 → s.mod.power.halted = false → s.mod.copyCause a ≠ 0 →
    s.mod.copyCause (some b) = 0 → exec (.secureBoot a (some b)) s = .next { s with mod := (s.mod.setXspi true).bootFrom 1 (s.mod.copyCause a) b }) ∧
  (∀ (s : State) (a b : Option (List Byte)), s.mod.num 0x203001 ≠ 4 ∨ s.mod.power.halted = true → exec (.secureBoot a b) s = .next s) ∧
  (∀ (m : Mod), (m.power.xspi = true → m.setXspi true = m) ∧
    (m.power.xspi = false → m.setXspi true = ({ m with power := { m.power with xspi := true } } : Mod).emit (.xspiReset true))) ∧
  (∀ (s : State) (a b : Option (List Byte)) (m : Mod), s.mod.num 0x203001 = 4 → s.mod.power.halted = false → s.mod.copyCause a ≠ 0 →
    s.mod.copyCause b ≠ 0 → m = s.mod.setXspi true →
    exec (.secureBoot a b) s = .next { s with mod := ((({ m with power := { m.power with halted := true } } : Mod).set 0x644003
      (s.mod.copyCause a + 256 * s.mod.copyCause b)).raise 0x0A11 [s.mod.copyCause a, s.mod.copyCause b]) }) ∧
  (∀ (m : Mod), m.copyCause none = 1) ∧
  (∀ (s : State) (p : Path), s.mod.Reaches p → exec (.configDone p 1) s = .next { s with mod := (s.mod.stepDone 6).report p 0 }) ∧
  (∀ (s : State), exec (.lanesUpComplete true) s = .next { s with mod := s.mod.stepDone 7 }) ∧
  (∀ (m : Mod) (n : Nat), m.Good → m.num 0x203001 = n → (m.stepDone n).num 0x203001 = n + 1) ∧
  (∀ (m : Mod) (n : Nat), m.num 0x203001 ≠ n → m.stepDone n = m) ∧
  (∀ (s : State), s.mod.power.held ≠ 1 → exec .sysclkLoss s = .next { s with mod := s.mod.resetState 7 0 }) ∧
  (∀ (s : State), s.mod.Runs → s.mod.debugState ≠ 0 → exec .jtagReset s = .next { s with mod := s.mod.resetState 5 0 }) ∧
  (∀ (s : State), s.mod.debugState = 0 → exec .jtagReset s = .next s) ∧
  (∀ (s : State) (now c : Nat), s.mod.Runs →
    c = (if s.mod.num 0x203006 ≠ 0 ∧ s.mod.power.wdtAt + s.mod.num 0x203006 * 1000000 ≤ now then 4 else 3) →
    exec (.swReset false .supervisor false ⟨0xA5, now⟩) s = .next { s with mod := s.mod.resetState c 0 } ∧
    exec (.swReset true .supervisor true ⟨0xA5, now⟩) s = .next { s with mod := s.mod.resetState c 0 }) ∧
  (∀ (s : State) (ap mm : Bool) (p : Path) (v now : Nat), s.mod.Reaches p → v ≠ 0xA5 ∨ (ap = true ∧ mm = false) ∨ (ap = false ∧ p ≠ .supervisor) →
    exec (.swReset ap p mm ⟨v, now⟩) s = .next { s with mod := s.mod.report p 0x06010000 }) ∧
  (∀ (s : State) (now : Nat), s.mod.Runs → s.mod.num 0x203006 ≠ 0 → s.mod.power.wdtAt + s.mod.num 0x203006 * 1000000 ≤ now →
    exec (.watchdogExpiry now) s = .next { s with mod := s.mod.resetState 4 0 }) ∧
  (∀ (s : State) (now : Nat), s.mod.num 0x203006 = 0 ∨ now < s.mod.power.wdtAt + s.mod.num 0x203006 * 1000000 → exec (.watchdogExpiry now) s = .next s) ∧
  (∀ (s : State) (now : Nat), s.mod.Runs → exec (.wdtKick .supervisor true 0x5A now) s =
    .next { s with mod := ({ s.mod with power := { s.mod.power with wdtAt := now } } : Mod).report .supervisor 0 }) ∧
  (∀ (s : State) (p : Path) (v now : Nat), s.mod.Reaches p → exec (.wdtKick p false v now) s = .next { s with mod := s.mod.report p 0x06010000 }) ∧
  (∀ (s : State) (jtag : Option (List Byte)) (g t : Nat) (m n : Mod), s.mod.Runs → (s.mod.lcState = lcBlank ↔ jtag.isSome = true) →
    m = jtag.elim s.mod (fun tok => { s.mod with keys := { s.mod.keys with token := tok } }) → m.lcResult g = 2 ^ 31 →
    n = (if g < lcReturned then (m.set 0x640005 (2 ^ 31)).report .supervisor 0 else ((m.set 0x640005 (2 ^ 31)).report .supervisor 0).eraseConfig) →
    exec (.lifecycleChange .supervisor true jtag g t) s = .next { s with mod :=
      ((({ n with nv := { n.nv with fuses := { n.nv.fuses with groups := (List.range 5).map (fun i => if i < g then 255 else n.nv.fuses.groups.getD i 0) } } } :
        Mod).occur (evRecord { code := 0x0A00, payload := [s.mod.lcState, g] } t)).resetState 2 0) }) ∧
  (∀ (s : State) (jtag : Option (List Byte)) (g t : Nat) (m : Mod), s.mod.Runs → (s.mod.lcState = lcBlank ↔ jtag.isSome = true) →
    m = jtag.elim s.mod (fun tok => { s.mod with keys := { s.mod.keys with token := tok } }) → m.lcResult g ≠ 2 ^ 31 →
    exec (.lifecycleChange .supervisor true jtag g t) s = .next { s with mod :=
      ((((m.set 0x640005 (m.lcResult g)).report .supervisor 0).raise 0x0A01 [g, m.lcResult g]).newNonce) }) ∧
  (∀ (s : State) (p : Path) (mm : Bool) (jtag : Option (List Byte)) (g t : Nat), s.mod.Reaches p →
    (s.mod.lcState = lcBlank ∧ jtag = none) ∨ (s.mod.lcState ≠ lcBlank ∧ (jtag.isSome = true ∨ mm = false ∨ p ≠ .supervisor)) →
    exec (.lifecycleChange p mm jtag g t) s = .next { s with mod := s.mod.report p 0x06010000 }) ∧
  (∀ (m : Mod), m.eraseConfig = { m with nv := { fuses := m.nv.fuses }, mem := m.mem.filter (fun e => !decide (0x60800000 ≤ e.1 ∧ e.1 < 0x61000000)) }) ∧
  (∀ (s : State) (sl f : Nat), s.mod.power.avs = false → exec (.avsSample sl f) s = .next s) ∧
  (∀ (s : State) (sl f : Nat) (m : Mod), s.mod.Good → s.mod.power.avs = true → s.mod.on 0x204001 = true → s.mod.power.avsStopped = false →
    m = s.mod.set 0x204004 sl → s.mod.num 0x204007 ≤ sl → s.mod.num 0x204005 ≤ sl → sl ≤ s.mod.num 0x204006 →
    exec (.avsSample sl f) s = .next { s with mod := { m with power := { s.mod.power with lowRun := 0, highRun := 0 } } }) ∧
  (∀ (s : State) (f : Nat), s.mod.power.avsStopped = true → f < 3 → exec (.avsbusRetry f) s = .next { s with mod :=
    (((({ s.mod with power := { s.mod.power with avsStopped := false } } : Mod).bump 0x204008 0 (f + 1)).set 0x204002 (s.mod.num 0x204002)).emit
      (.avs (s.mod.num 0x204002) true)) }) ∧
  (∀ (s : State) (f : Nat) (m : Mod), s.mod.power.avsStopped = true → 3 ≤ f → m = ({ s.mod with power := { s.mod.power with avsStopped := true } } : Mod) →
    exec (.avsbusRetry f) s = .next { s with mod :=
      ((((m.bump 0x204008 0 3).bump 0x204009).raise 0x0012 [s.mod.num 0x204002, ((m.bump 0x204008 0 3).bump 0x204009).num 0x204002]).emit
        (.avs (s.mod.num 0x204002) false)) }) ∧
  (∀ (s : State) (f : Nat), s.mod.power.avsStopped = false → exec (.avsbusRetry f) s = .next s) ∧
  (∀ (s : State) (j : Nat), s.mod.Runs → j ≤ 11 → bit (s.mod.num 0x205002) j = false → exec (.refclkLoss j true) s =
    .next { s with mod := (s.mod.set 0x205002 (setBit (s.mod.num 0x205002) j true)).raise 0x0021 [j, 1] }) ∧
  (∀ (s : State) (j : Nat) (m n : Mod), s.mod.Runs → j ≤ 11 → bit (s.mod.num 0x205002) j = true →
    m = (s.mod.set 0x205002 (setBit (s.mod.num 0x205002) j false)).raise 0x0021 [j, 0] →
    n = ((m.each ((List.range 16).map (· + 16 * j)) (fun m l => m.set 0x310005 0 l)).each (((List.range 16).map (· + 16 * j)).flatMap lanePorts)
      (fun m p => portLinkLoss p 1 m)) →
    exec (.refclkLoss j false) s = .next { s with mod := ((n.linkDown (2 * j) 1).linkDown (2 * j + 1) 1) }) ∧
  (∀ (s : State) (j : Nat) (b : Bool), bit (s.mod.num 0x205002) j = b → exec (.refclkLoss j b) s = .next s) ∧
  (∀ (s : State) (ts : List Nat), s.mod.power.held ≠ 0 → exec (.thermalSample ts) s =
    .next { s with mod := { s.mod with power := { s.mod.power with tempMax := (hottest ts).2 } } }) ∧
  (∀ (s : State) (ts : List Nat), s.mod.Runs → s.mod.Good → b32.le (s.mod.num 0x206004) (hottest ts).2 = true →
    ∃ t, exec (.thermalSample ts) s = .next t ∧ t.mod.power.held = 6 ∧ t.mod.power.tempMax = (hottest ts).2 ∧ t.mod.bits = [] ∧ t.mod.nv = s.mod.nv ∧
    (∀ o i, objKey o i ≠ objKey 0x613001 0 → t.mod.val o i = ({} : Mod).val o i))

/-- Keys, debug and sessions, by R469, R471, R474, R482, R484, R485, R487, R488, R491, R497, R498, R502 and R503. A command needs the supervisor in M mode; KEY_VALUE is zeroised with
it. An install or a derivation needs an empty slot, a key that fits and the DRBG; a destruction zeroises the slot. New shares are a fresh mask and the key under it. The hash is written
once; MIN_SVN only rises; a third failed health test within a second stops the DRBG. A session that ends leaves no session. -/
def Obligations.KeysAndSessions : Prop :=
  (∀ (s : State) (k : List Byte) (m : Mod), s.mod.Runs → s.mod.num 0x642001 (s.mod.num 0x641001) = 0 → s.mod.keys.value = some k →
    lengthFits (s.mod.num 0x641003) k.length = true → s.mod.drbgReady = true → m = s.mod.loadKey (s.mod.num 0x641001) 1 k →
    exec (.keyInstall .supervisor true) s =
      .next { s with mod := ((({ m with keys := { m.keys with value := none } } : Mod).set 0x64100B 1).report .supervisor 0) }) ∧
  (∀ (s : State), s.mod.Runs → s.mod.num 0x642001 (s.mod.num 0x641001) ≠ 0 →
    exec (.keyInstall .supervisor true) s =
      .next { s with mod := ((({ s.mod with keys := { s.mod.keys with value := none } } : Mod).set 0x64100B 2).report .supervisor 0) } ∧
    exec (.keyDerive .supervisor true) s =
      .next { s with mod := ((({ s.mod with keys := { s.mod.keys with value := none } } : Mod).set 0x64100B 2).report .supervisor 0) }) ∧
  (∀ (s : State) (p : Path), s.mod.Reaches p → exec (.keyInstall p false) s = .next { s with mod := (s.mod.set 0x64100B 4).report p 0x06010000 } ∧
    exec (.keyDerive p false) s = .next { s with mod := (s.mod.set 0x64100B 4).report p 0x06010000 } ∧
    exec (.keyDestroy p false) s = .next { s with mod := (s.mod.set 0x64100B 4).report p 0x06010000 }) ∧
  (∀ (s : State) (m : Mod), s.mod.Runs → s.mod.num 0x642001 (s.mod.num 0x641001) = 0 → s.mod.num 0x641003 = kuKdf → s.mod.num 0x641007 = 0x200 →
    s.mod.num 0x641001 < 512 → s.mod.visibleRoot ≠ [] → s.mod.oct 0x641008 ≠ [] → s.mod.drbgReady = true →
    m = s.mod.loadKey (s.mod.num 0x641001) 2 (slice (Config.hmac s.mod.visibleRoot (toBE 4 1 ++ s.mod.oct 0x641008 ++ [0] ++ s.mod.oct 0x641009 ++ toBE 4 256)) 0 32) →
    exec (.keyDerive .supervisor true) s =
      .next { s with mod := ((({ m with keys := { m.keys with value := none } } : Mod).set 0x64100B 1).report .supervisor 0) }) ∧
  (∀ (s : State) (i : Nat) (m : Mod), s.mod.Runs → i = s.mod.num 0x641001 → m = (s.mod.zeroSlot i).raise 0x0A03 [i, s.mod.num 0x642003 i] →
    m.num 0x1F3002 ≠ i → exec (.keyDestroy .supervisor true) s =
      .next { s with mod := ((({ m with keys := { m.keys with value := none } } : Mod).set 0x64100B 1).report .supervisor 0) }) ∧
  (∀ (m : Mod) (i : Nat), m.Good → (m.zeroSlot i).keys.slots = Table.del m.keys.slots i ∧ (m.zeroSlot i).num 0x642001 i = 0 ∧ (m.zeroSlot i).num 0x642002 i = 0 ∧
    (m.zeroSlot i).num 0x642003 i = 0 ∧ (m.zeroSlot i).num 0x642005 i = 0 ∧ (m.zeroSlot i).mem = m.mem ∧ (m.zeroSlot i).raised = m.raised) ∧
  (∀ (s : State) (i : Nat), s.mod.num 0x642001 i = 0 ∨ s.mod.drbgReady = false → exec (.keyRemask i) s = .next s) ∧
  (∀ (s : State) (i : Nat) (k : List Byte) (m : Mod), s.mod.Runs → s.mod.num 0x642001 i ≠ 0 → s.mod.drbgReady = true →
    s.mod.drawOctets (s.mod.keySlot i).shareA.length = (k, m) → exec (.keyRemask i) s = .next { s with mod := m.setKeySlot i { s.mod.keySlot i with
      shareA := k, shareB := List.zipWith (· ^^^ ·) (s.mod.keySlot i).shareB (List.zipWith (· ^^^ ·) (s.mod.keySlot i).shareA k) } }) ∧
  (∀ (s : State) (b : List Byte), s.mod.Runs → b.length = 48 → s.mod.lcState = lcProvisioned → s.mod.nv.fuses.okHash = [] →
    exec (.okHashWrite .supervisor true b) s =
      .next { s with mod := ({ s.mod with nv := { s.mod.nv with fuses := { s.mod.nv.fuses with okHash := b } } } : Mod).report .supervisor 0 }) ∧
  (∀ (s : State) (b : List Byte), s.mod.Runs → b.length = 48 → s.mod.nv.fuses.okHash ≠ [] →
    exec (.okHashWrite .supervisor true b) s = .next { s with mod := s.mod.report .supervisor 0x08000022 }) ∧
  (∀ (s : State) (v : Nat), s.mod.Runs → s.mod.nv.fuses.minSvn ≤ v → v ≤ s.mod.num 0x644002 → v ≤ 64 → exec (.minSvnSet .supervisor true v) s =
      .next { s with mod := ({ s.mod with nv := { s.mod.nv with fuses := { s.mod.nv.fuses with minSvn := v } } } : Mod).report .supervisor 0 }) ∧
  (∀ (s : State) (v : Nat), s.mod.Runs → v < s.mod.nv.fuses.minSvn ∨ s.mod.num 0x644002 < v ∨ 64 < v →
    exec (.minSvnSet .supervisor true v) s = .next { s with mod := s.mod.report .supervisor 0x06090030 }) ∧
  (∀ (s : State) (test now : Nat), s.mod.Runs → s.mod.keys.fails = [] → exec (.entropyHealthFail test now) s = .next { s with mod :=
    ((({ s.mod with keys := { s.mod.keys with fails := [now] } } : Mod).bump 0x643004).raise 0x0A05 [test, 1]) }) ∧
  (∀ (s : State) (test now a b : Nat) (m : Mod), s.mod.Runs → s.mod.Good → s.mod.keys.fails = [a, b] → now < a + 1000000000 → now < b + 1000000000 →
    s.mod.num 0x643002 ≠ 2 → m = (({ s.mod with keys := { s.mod.keys with fails := [now, a, b] } } : Mod).bump 0x643004).raise 0x0A05 [test, 3] →
    exec (.entropyHealthFail test now) s = .next { s with mod := (m.set 0x643002 2).raise 0x0A06 [s.mod.k] }) ∧
  (∀ (s : State), s.mod.Runs → s.mod.drbgReady = true → exec .drbgReseed s = .next { s with mod := s.mod.bump 0x643003 }) ∧
  (∀ (s : State), s.mod.drbgReady = false → exec .drbgReseed s = .next s) ∧
  (∀ (s : State), s.mod.Runs → s.mod.keys.attached = false → s.mod.debugState ≠ 0 → exec .debuggerAttach s = .next { s with mod :=
    (({ s.mod with keys := { s.mod.keys with attached := true } } : Mod).raise 0x0A12 [s.mod.debugState]) }) ∧
  (∀ (s : State), s.mod.keys.attached = true ∨ s.mod.debugState = 0 → exec .debuggerAttach s = .next s) ∧
  (∀ (s : State) (n : Nat) (x : Session), s.mod.Runs → Table.find? s.mod.dic.parts (pathNo (.dtp n)) = none → s.mod.session? n = some x →
    exec (.dtpIdleTimeout n) s = .next { s with mod := (((s.mod.setStage (.dtp n) []).setSessions (Table.del s.mod.dic.sessions n)).raise 0x0B07
      [n, Config.eventField 0x0B07 2]) }) ∧
  (∀ (s : State) (n : Nat), s.mod.session? n = none → exec (.dtpIdleTimeout n) s = .next s ∧ exec (.dtpSnapshotExpiry n) s = .next s) ∧
  (∀ (s : State) (n : Nat) (x : Session), s.mod.Runs → s.mod.session? n = some x →
    exec (.dtpSnapshotExpiry n) s = .next { s with mod := s.mod.setSessions (Table.put s.mod.dic.sessions n { x with snap := none }) }) ∧
  (∀ (s : State) (p : Path) (v : Nat), s.mod.Serves p → s.mod.numOk 0x1F3002 0 v = true → s.mod.usageOk 0x1F3002 v = true →
    exec (.dtpKeySlotWrite p v) s = .next { s with mod := ((s.mod.set 0x1F3002 v).closeSessions 4).report p 0 }) ∧
  (∀ (s : State) (p : Path) (v : Nat), s.mod.Serves p → s.mod.numOk 0x1F3002 0 v = true → s.mod.usageOk 0x1F3002 v = false →
    exec (.dtpKeySlotWrite p v) s = .next { s with mod := s.mod.report p 0x0880000C })

/-- The paths of the dictionary, by R218, R445 to R447, R463, R467 to R472 and R540. A write is refused to a tenant, before step 6, at an index or subindex that does not exist and to a
read-only object, each with its code. One that passes takes effect through its access code: an RW object takes its value. The port's commands report in DP_STATUS and DP_ABORT. A
datagram that fails its tag is counted, the last request is answered again, and the next one is served. -/
def Obligations.DictionaryPaths : Prop :=
  (∀ (s : State) (t o sel : Nat) (bs : List Byte) (e : Env), s.mod.Runs →
    exec (.dictionaryWrite (.tenant t) o sel bs e) s = .next { s with mod := s.mod.report (.tenant t) 0x06010000 }) ∧
  (∀ (s : State) (p : Path) (o sel : Nat) (bs : List Byte) (e : Env), s.mod.Reaches p → s.mod.configured = false → earlyIndex (o / 256) = false →
    exec (.dictionaryWrite p o sel bs e) s = .next { s with mod := s.mod.report p 0x08000022 }) ∧
  (∀ (s : State) (p : Path) (o sel : Nat) (bs : List Byte) (e : Env), s.mod.Serves p → objRow? o = none → indexUsed (o / 256) = false →
    exec (.dictionaryWrite p o sel bs e) s = .next { s with mod := s.mod.report p 0x06020000 }) ∧
  (∀ (s : State) (p : Path) (o sel : Nat) (bs : List Byte) (e : Env), s.mod.Serves p → objRow? o = none → indexUsed (o / 256) = true → o % 256 ≠ 0 →
    exec (.dictionaryWrite p o sel bs e) s = .next { s with mod := s.mod.report p 0x06090011 }) ∧
  (∀ (s : State) (p : Path) (o sel : Nat) (bs : List Byte) (e : Env) (r : ObjRow), s.mod.Serves p → objRow? o = some r → r.acc = .ro → selMany sel = false →
    exec (.dictionaryWrite p o sel bs e) s = .next { s with mod := s.mod.report p 0x06010002 }) ∧
  (∀ (s : State) (p : Path) (o sel c : Nat) (bs : List Byte) (e : Env) (r : ObjRow) (l : List Nat), s.mod.Serves p → objRow? o = some r → r.acc ≠ .ro →
    r.acc ≠ .wo → s.mod.selects r o sel = (c, l) → c ≠ 0 → exec (.dictionaryWrite p o sel bs e) s = .next { s with mod := s.mod.report p c }) ∧
  (∀ (s : State) (p : Path) (o sel : Nat) (bs : List Byte) (e : Env) (r : ObjRow) (l : List Nat) (v : Val), s.mod.Serves p → objRow? o = some r → r.acc = .rw →
    selMany sel = false → s.mod.selects r o sel = (0, l) → s.mod.readValues r o bs l = (0, v) → s.mod.writeBar p e o sel = 0 → commandOf p e o sel v = none →
    s.mod.usageOk o (valNum v) = true → exec (.dictionaryWrite p o sel bs e) s = .next { s with mod := (s.mod.putRw e o sel v).report p 0 }) ∧
  (∀ (s : State) (p : Path) (o sel : Nat) (bs : List Byte) (e : Env) (r : ObjRow) (l : List Nat) (v : Val), s.mod.Serves p → objRow? o = some r → r.acc = .rwt →
    selMany sel = false → s.mod.selects r o sel = (0, l) → s.mod.readValues r o bs l = (0, v) → s.mod.writeBar p e o sel = 0 → commandOf p e o sel v = none →
    exec (.dictionaryWrite p o sel bs e) s = .next { s with mod :=
      (s.mod.stageAll p [{ obj := o, sel := sel, val := v }]).1.report p (s.mod.stageAll p [{ obj := o, sel := sel, val := v }]).2 }) ∧
  (∀ (s : State) (e : Env), s.mod.Runs → exec (.dpWrite e) s = .next { s with mod := (s.mod.writePart .supervisor e (s.mod.dp.addr / 2 ^ 16 * 256 + s.mod.dp.addr / 256 % 256)
    (s.mod.dp.instSel % 2 ^ 16) (s.mod.dp.offset % 2 ^ 31) (slice s.mod.dp.data 0 (min s.mod.dp.len 512)) (bit s.mod.dp.offset 31)).dpDone }) ∧
  (∀ (s : State) (e : Env) (c : Nat) (v : List Byte), s.mod.Runs → s.mod.readOctets .supervisor e s.mod.dp.obj s.mod.dp.sel = (c, v) → c ≠ 0 →
    exec (.dpRead e) s = .next { s with mod := (s.mod.report .supervisor c).dpDone }) ∧
  (∀ (s : State) (e : Env) (v : List Byte), s.mod.Runs → s.mod.readOctets .supervisor e s.mod.dp.obj s.mod.dp.sel = (0, v) → s.mod.dp.offset % 2 ^ 31 ≠ 0 →
    s.mod.dp.obj ≠ 0x515004 → exec (.dpRead e) s = .next { s with mod :=
      ((((s.mod.setDp { s.mod.dp with
        data := slice ((v.drop (s.mod.dp.offset % 2 ^ 31)).take 512 ++ s.mod.dp.data.drop ((v.drop (s.mod.dp.offset % 2 ^ 31)).take 512).length) 0 512
        len := ((v.drop (s.mod.dp.offset % 2 ^ 31)).take 512).length
        total := v.length }).report .supervisor 0).dpDone).emit (.data ((v.drop (s.mod.dp.offset % 2 ^ 31)).take 512))) }) ∧
  (∀ (s : State) (e : Env), s.mod.Runs → s.mod.configured = true →
    exec (.dpCommit e) s = .next { s with mod := (stageCommit .supervisor s.mod.dp.tick e s.mod).dpDone }) ∧
  (∀ (s : State) (e : Env), s.mod.Runs → s.mod.configured = false →
    exec (.dpCommit e) s = .next { s with mod := (s.mod.report .supervisor 0x08000022).dpDone }) ∧
  (∀ (m : Mod), m.dpDone.dp.status = (if m.lastAbort .supervisor = 0 then 2 ^ 30 else 2 ^ 30 + 2 ^ 29) ∧ m.dpDone.dp.abort = m.lastAbort .supervisor) ∧
  (∀ (s : State) (a u : Nat) (d : List Byte) (q : DtpReq), s.mod.Runs → s.mod.on 0x1F3001 = true → dtpParse d = some q → q.op = 1 → q.body.length = 18 →
    q.session ≠ 0 → exec (.dtpHello a u d) s = .next { s with mod := (s.mod.bump 0x1F3006).raise 0x0B06 [a, q.session] }) ∧
  (∀ (s : State) (a u slot : Nat) (d : List Byte) (q : DtpReq), s.mod.Runs → s.mod.on 0x1F3001 = true → dtpParse d = some q → q.op = 1 → q.body.length = 18 →
    q.session = 0 → slot = s.mod.num 0x1F3002 → slot < 512 → s.mod.num 0x642002 slot = 3 → s.mod.keyBytes slot ≠ [] →
    q.tag = slice (Config.hmac (s.mod.keyBytes slot) q.signed) 0 32 →
    exec (.dtpHello a u d) s = .next { s with mod := s.mod.openSession { addr := a, udpPort := u } (s.mod.keyBytes slot) q }) ∧
  (∀ (s : State) (a u : Nat) (d : List Byte) (e : Env), s.mod.on 0x1F3001 = false ∨ dtpParse d = none → exec (.dtpHello a u d) s = .next s ∧
    exec (.dtpRead a u d e) s = .next s ∧ exec (.dtpWrite a u d e) s = .next s ∧ exec (.dtpClose a u d) s = .next s) ∧
  (∀ (s : State) (a u : Nat) (d : List Byte) (e : Env) (q : DtpReq) (x : Session), s.mod.Runs → s.mod.on 0x1F3001 = true → dtpParse d = some q →
    s.mod.session? q.session = some x → q.tag = slice (Config.hmac x.key q.signed) 0 32 → q.seq = x.seq + 1 →
    (q.op = 2 → exec (.dtpRead a u d e) s =
      .next { s with mod := s.mod.dtpServe { addr := a, udpPort := u } x q (fun m => m.dtpDoRead e q) }) ∧
    (q.op = 3 → exec (.dtpWrite a u d e) s =
      .next { s with mod := s.mod.dtpServe { addr := a, udpPort := u } x q (fun m => m.dtpDoWrite e q) }) ∧
    (q.op = 4 → exec (.dtpClose a u d) s =
      .next { s with mod := s.mod.dtpServe { addr := a, udpPort := u } x q (fun m => (m.closeSession q.session 1, toBE 4 0)) })) ∧
  (∀ (s : State) (a u : Nat) (d : List Byte) (e : Env) (q : DtpReq) (x : Session), s.mod.Runs → s.mod.on 0x1F3001 = true → dtpParse d = some q → q.op = 2 →
    s.mod.session? q.session = some x → q.tag = slice (Config.hmac x.key q.signed) 0 32 →
    (q.seq = x.seq → x.seq ≠ 0 → exec (.dtpRead a u d e) s = .next { s with mod := s.mod.emit (.datagram a u x.cached) }) ∧
    (q.seq ≠ x.seq → q.seq ≠ x.seq + 1 → exec (.dtpRead a u d e) s = .next { s with mod := s.mod.bump 0x1F3007 })) ∧
  (∀ (s : State) (a u : Nat) (d : List Byte) (q : DtpReq) (x : Session), s.mod.Runs → s.mod.on 0x1F3001 = true → dtpParse d = some q → q.op = 4 →
    s.mod.session? q.session = some x → q.tag ≠ slice (Config.hmac x.key q.signed) 0 32 → exec (.dtpClose a u d) s = .next { s with mod := s.mod.bump 0x1F3006 })

/-- The SDO server and NMT, by R464 to R466 and R474. On a channel not in MODE 1 or 3 nothing is served. A segmented initiate begins a transfer and takes the selector; segments alternate their
toggle from 0 and the value applies with the last; a value read goes with the response or in segments of 7 octets. An abort or a time-out ends the transfer with its code, and a reset by
NMT addressed to the node empties the stage and the selector. Other NMT commands do nothing. -/
def Obligations.SdoServer : Prop :=
  (∀ (s : State) (o c n : Nat) (x g l : Bool) (z : Option Nat) (bs : List Byte) (e : Env), s.mod.sdoServed = false →
    exec (.sdoInitiateDownload o x z bs e) s = .next s ∧ exec (.sdoDownloadSegment g bs l e) s = .next s ∧ exec (.sdoInitiateUpload o e) s = .next s ∧
    exec (.sdoUploadSegment g) s = .next s ∧ exec (.sdoAbortRx c) s = .next s ∧ exec (.sdoBlockRequest o) s = .next s ∧
    exec (.nmtResetNode n) s = .next s ∧ exec (.nmtResetCommunication n) s = .next s) ∧
  (∀ (s : State) (o : Nat) (z : Option Nat) (bs : List Byte) (e : Env), s.mod.Runs → s.mod.sdoServed = true → s.mod.dic.sdo = none →
    exec (.sdoInitiateDownload o false z bs e) s = .next { s with mod :=
      ((s.mod.setSdo (some { up := false, obj := o, sel := s.mod.num 0x1F1004, size := z, chan := s.mod.num 0x1F1001, node := s.mod.num 0x1F1002 })).sdoReply
        (s.mod.num 0x1F1001, s.mod.num 0x1F1002) (.downloadOk o)) }) ∧
  (∀ (s : State) (o : Nat) (z : Option Nat) (bs : List Byte) (e : Env), s.mod.Runs → s.mod.sdoServed = true → s.mod.dic.sdo = none →
    exec (.sdoInitiateDownload o true z bs e) s = .next { s with mod := s.mod.sdoWrite e o (s.mod.num 0x1F1004) bs (.downloadOk o) }) ∧
  (∀ (s : State) (x : SdoXfer) (bs : List Byte) (e : Env), s.mod.Runs → s.mod.sdoServed = true → s.mod.dic.sdo = some x → x.up = false →
    (x.data ++ bs).length ≤ lenBound x.obj → exec (.sdoDownloadSegment x.toggle bs false e) s = .next { s with mod :=
      ((s.mod.setSdo (some { x with data := x.data ++ bs, toggle := !x.toggle })).sdoReply (x.chan, x.node) (.segmentOk x.toggle)) }) ∧
  (∀ (s : State) (x : SdoXfer) (bs : List Byte) (e : Env), s.mod.Runs → s.mod.sdoServed = true → s.mod.dic.sdo = some x → x.up = false → x.size = none →
    (x.data ++ bs).length ≤ lenBound x.obj →
    exec (.sdoDownloadSegment x.toggle bs true e) s = .next { s with mod := s.mod.sdoWrite e x.obj x.sel (x.data ++ bs) (.segmentOk x.toggle) }) ∧
  (∀ (s : State) (x : SdoXfer) (bs : List Byte) (l : Bool) (e : Env), s.mod.Runs → s.mod.sdoServed = true → s.mod.dic.sdo = some x → x.up = false →
    exec (.sdoDownloadSegment (!x.toggle) bs l e) s = .next { s with mod := (s.mod.setSdo none).sdoAbort (x.chan, x.node) x.obj 0x05030000 }) ∧
  (∀ (s : State) (g l : Bool) (bs : List Byte) (e : Env), s.mod.Runs → s.mod.sdoServed = true → s.mod.dic.sdo = none →
    exec (.sdoDownloadSegment g bs l e) s = .next { s with mod := s.mod.sdoAbort (s.mod.num 0x1F1001, s.mod.num 0x1F1002) 0 0x05040001 } ∧
    exec (.sdoUploadSegment g) s = .next { s with mod := s.mod.sdoAbort (s.mod.num 0x1F1001, s.mod.num 0x1F1002) 0 0x05040001 }) ∧
  (∀ (s : State) (o c : Nat) (v : List Byte) (e : Env), s.mod.Runs → s.mod.sdoServed = true → s.mod.dic.sdo = none →
    s.mod.readOctets .sdo e o (s.mod.num 0x1F1004) = (c, v) → c ≠ 0 →
    exec (.sdoInitiateUpload o e) s = .next { s with mod := s.mod.sdoAbort (s.mod.num 0x1F1001, s.mod.num 0x1F1002) o c }) ∧
  (∀ (s : State) (o : Nat) (v : List Byte) (e : Env) (m : Mod), s.mod.Runs → s.mod.sdoServed = true → s.mod.dic.sdo = none →
    s.mod.readOctets .sdo e o (s.mod.num 0x1F1004) = (0, v) → 1 ≤ v.length → v.length ≤ 4 → m = (s.mod.readTakes o (s.mod.num 0x1F1004)).report .sdo 0 →
    exec (.sdoInitiateUpload o e) s = .next { s with mod := m.emit (.sdo m.sdoChannel m.sdoNode (.value o v)) }) ∧
  (∀ (s : State) (x : SdoXfer), s.mod.Runs → s.mod.sdoServed = true → s.mod.dic.sdo = some x → x.up = true → 7 < x.data.length →
    exec (.sdoUploadSegment x.toggle) s = .next { s with mod :=
      ((s.mod.setSdo (some { x with data := x.data.drop 7, toggle := !x.toggle })).sdoReply (x.chan, x.node) (.segment x.toggle (x.data.take 7) false)) }) ∧
  (∀ (s : State) (x : SdoXfer), s.mod.Runs → s.mod.sdoServed = true → s.mod.dic.sdo = some x → x.up = true → x.data.length ≤ 7 →
    exec (.sdoUploadSegment x.toggle) s = .next { s with mod :=
      ((s.mod.setSdo none).sdoReply (x.chan, x.node) (.segment x.toggle (x.data.take 7) true)) }) ∧
  (∀ (s : State) (x : SdoXfer) (c : Nat), s.mod.Runs → s.mod.sdoServed = true → s.mod.dic.sdo = some x →
    exec (.sdoAbortRx c) s = .next { s with mod := (s.mod.setSdo none).set 0x1F1005 c }) ∧
  (∀ (s : State) (o : Nat), s.mod.Runs → s.mod.sdoServed = true → exec (.sdoBlockRequest o) s =
    .next { s with mod := ((s.mod.report .sdo 0x05040001).set 0x1F1005 0x05040001).emit (.sdo s.mod.sdoChannel s.mod.sdoNode (.abort o 0x05040001)) }) ∧
  (∀ (s : State) (x : SdoXfer), s.mod.Runs → s.mod.dic.sdo = some x →
    exec .sdoTimeout s = .next { s with mod := (s.mod.setSdo none).sdoAbort (x.chan, x.node) x.obj 0x05040000 }) ∧
  (∀ (s : State), s.mod.dic.sdo = none → exec .sdoTimeout s = .next s) ∧
  (∀ (s : State) (n : Nat), s.mod.Runs → s.mod.sdoServed = true → n = 0 ∨ n = s.mod.sdoNode → s.mod.dic.sdo = none →
    exec (.nmtResetNode n) s = .next { s with mod := (s.mod.setStage .sdo []).set 0x1F1004 0 } ∧
    exec (.nmtResetCommunication n) s = .next { s with mod := (s.mod.setStage .sdo []).set 0x1F1004 0 }) ∧
  (∀ (s : State) (n : Nat), n ≠ 0 → n ≠ s.mod.sdoNode → exec (.nmtResetNode n) s = .next s ∧ exec (.nmtResetCommunication n) s = .next s) ∧
  (∀ (s : State) (c n : Nat), exec (.nmtOtherCommand c n) s = .next s)
end

