-- ==== Sys2Proof/Laws/Table.lean ====
section
/-!
SUPPORT. Laws of sparse tables, of the object store and of memories: reading after writing, and the canonical forms that every operation keeps.
-/
namespace Sys2Proof.Machine

variable {α : Type}

/-! ## Reading after writing -/

/-- The entries of a table whose keys rise from above a bound lie above it. -/
theorem Table.rising_lt {t : Table α} {l k : Nat} (h : Table.rising (some l) t = true) (hk : k ≤ l) : Table.find? t k = none := by
  induction t generalizing l with
  | nil => rfl
  | cons e t ih =>
    obtain ⟨j, v⟩ := e
    simp only [Table.rising, Bool.and_eq_true, decide_eq_true_eq] at h
    simp only [Table.find?]
    rw [if_neg (by omega), if_pos (by omega)]

/-- A table reads at a key what was put there. -/
@[simp] theorem Table.find?_put (t : Table α) (k : Nat) (v : α) : Table.find? (Table.put t k v) k = some v := by
  induction t with
  | nil => simp [Table.put, Table.find?]
  | cons e t ih =>
    obtain ⟨j, w⟩ := e
    simp only [Table.put]
    split
    · simp [Table.find?]
    · split
      · simp [Table.find?]
      · rename_i h1 h2
        simp [Table.find?, h1, h2, ih]

/-- Putting an entry leaves every other key of a rising table as it was. -/
theorem Table.find?_put_ne (t : Table α) {k j : Nat} (v : α) (h : j ≠ k) {lo : Option Nat} (hr : Table.rising lo t = true) :
    Table.find? (Table.put t k v) j = Table.find? t j := by
  induction t generalizing lo with
  | nil => simp [Table.put, Table.find?, Ne.symm h]
  | cons e t ih =>
    obtain ⟨i, w⟩ := e
    simp only [Table.rising, Bool.and_eq_true] at hr
    simp only [Table.put]
    split
    · subst_vars
      simp only [Table.find?, if_neg (Ne.symm h)]
    · split
      · simp only [Table.find?, if_neg (Ne.symm h)]
        split
        · rw [if_neg (by omega), if_pos (by omega)]
        · rfl
      · simp only [Table.find?]
        rw [ih hr.2]

/-- A rising table has nothing at a key that was deleted. -/
theorem Table.find?_del (t : Table α) (k : Nat) {lo : Option Nat} (hr : Table.rising lo t = true) :
    Table.find? (Table.del t k) k = none := by
  induction t generalizing lo with
  | nil => rfl
  | cons e t ih =>
    obtain ⟨j, w⟩ := e
    simp only [Table.rising, Bool.and_eq_true] at hr
    simp only [Table.del]
    split
    · exact Table.rising_lt hr.2 (by omega)
    · split
      · rename_i h1 h2
        simp [Table.find?, h1, h2]
      · rename_i h1 h2
        simp [Table.find?, h1, h2, ih hr.2]

/-- Deleting a key leaves every other key of a rising table as it was. -/
theorem Table.find?_del_ne (t : Table α) {k j : Nat} (h : j ≠ k) {lo : Option Nat} (hr : Table.rising lo t = true) :
    Table.find? (Table.del t k) j = Table.find? t j := by
  induction t generalizing lo with
  | nil => rfl
  | cons e t ih =>
    obtain ⟨i, w⟩ := e
    simp only [Table.rising, Bool.and_eq_true] at hr
    simp only [Table.del]
    split
    · subst_vars
      simp only [Table.find?, if_neg (Ne.symm h)]
      split
      · exact Table.rising_lt hr.2 (by omega)
      · rfl
    · split
      · rfl
      · simp only [Table.find?]
        rw [ih hr.2]

/-! ## Canonical forms -/

/-- Every entry put into a table, or there before, is in the table. -/
theorem Table.all_put (p : Nat × α → Bool) (t : Table α) (k : Nat) (v : α) (h : t.all p = true) (hv : p (k, v) = true) :
    (Table.put t k v).all p = true := by
  induction t with
  | nil => simp [Table.put, hv]
  | cons e t ih =>
    obtain ⟨j, w⟩ := e
    simp only [List.all_cons, Bool.and_eq_true] at h
    simp only [Table.put]
    split
    · simp [hv, h.2]
    · split
      · simp [hv, h.1, h.2]
      · simp [h.1, ih h.2]

/-- What holds of every entry holds of those left after a deletion. -/
theorem Table.all_del (p : Nat × α → Bool) (t : Table α) (k : Nat) (h : t.all p = true) : (Table.del t k).all p = true := by
  induction t with
  | nil => rfl
  | cons e t ih =>
    obtain ⟨j, w⟩ := e
    simp only [List.all_cons, Bool.and_eq_true] at h
    simp only [Table.del]
    split
    · exact h.2
    · split
      · simp [h.1, h.2]
      · simp [h.1, ih h.2]

/-- A bound below a bound of a rising table bounds it too. -/
theorem Table.rising_weaken {t : Table α} {l k : Nat} (h : Table.rising (some l) t = true) (hk : k ≤ l) : Table.rising (some k) t = true := by
  cases t with
  | nil => rfl
  | cons e t =>
    obtain ⟨j, w⟩ := e
    simp only [Table.rising, Bool.and_eq_true, decide_eq_true_eq] at h ⊢
    exact ⟨by omega, h.2⟩

/-- Without a bound a rising table still rises. -/
theorem Table.rising_none {t : Table α} {lo : Option Nat} (h : Table.rising lo t = true) : Table.rising none t = true := by
  cases t with
  | nil => rfl
  | cons e t =>
    obtain ⟨j, w⟩ := e
    simp only [Table.rising, Bool.and_eq_true] at h ⊢
    exact ⟨trivial, h.2⟩

/-- Putting an entry above the bound keeps a table rising. -/
theorem Table.rising_put {t : Table α} {l k : Nat} (v : α) (h : Table.rising (some l) t = true) (hk : l < k) :
    Table.rising (some l) (Table.put t k v) = true := by
  induction t generalizing l with
  | nil => simp [Table.put, Table.rising, hk]
  | cons e t ih =>
    obtain ⟨j, w⟩ := e
    simp only [Table.rising, Bool.and_eq_true, decide_eq_true_eq] at h
    simp only [Table.put]
    split
    · subst_vars
      simp [Table.rising, h.2, hk]
    · split
      · simp [Table.rising, h.2, *]
      · simp only [Table.rising, Bool.and_eq_true, decide_eq_true_eq]
        exact ⟨h.1, ih h.2 (by omega)⟩

/-- Putting an entry keeps a table rising. -/
theorem Table.rising_put_none {t : Table α} (k : Nat) (v : α) (h : Table.rising none t = true) :
    Table.rising none (Table.put t k v) = true := by
  cases t with
  | nil => simp [Table.put, Table.rising]
  | cons e t =>
    obtain ⟨j, w⟩ := e
    simp only [Table.rising, Bool.and_eq_true] at h
    simp only [Table.put]
    split
    · subst_vars
      simp [Table.rising, h.2]
    · split
      · simp [Table.rising, h.2, *]
      · simp only [Table.rising, Bool.and_eq_true]
        exact ⟨trivial, Table.rising_put v h.2 (by omega)⟩

/-- Deleting a key keeps a table rising. -/
theorem Table.rising_del {t : Table α} (k : Nat) {lo : Option Nat} (h : Table.rising lo t = true) :
    Table.rising lo (Table.del t k) = true := by
  induction t generalizing lo with
  | nil => exact h
  | cons e t ih =>
    obtain ⟨j, w⟩ := e
    have h0 := h
    simp only [Table.rising, Bool.and_eq_true] at h
    simp only [Table.del]
    split
    · cases lo with
      | none => exact Table.rising_none h.2
      | some l =>
        simp only [decide_eq_true_eq] at h
        exact Table.rising_weaken h.2 (by omega)
    · split
      · exact h0
      · simp only [Table.rising, Bool.and_eq_true]
        exact ⟨h.1, ih h.2⟩

/-- A part of a rising table rises. -/
theorem Table.rising_filter (p : Nat × α → Bool) {t : Table α} {lo : Option Nat} (h : Table.rising lo t = true) :
    Table.rising lo (t.filter p) = true := by
  induction t generalizing lo with
  | nil => exact h
  | cons e t ih =>
    obtain ⟨j, w⟩ := e
    simp only [Table.rising, Bool.and_eq_true] at h
    rw [List.filter_cons]
    split
    · simp only [Table.rising, Bool.and_eq_true]
      exact ⟨h.1, ih h.2⟩
    · refine ih ?_
      cases lo with
      | none => exact Table.rising_none h.2
      | some l =>
        simp only [decide_eq_true_eq] at h
        exact Table.rising_weaken h.2 (by omega)

/-- What holds of every entry holds of those of a part. -/
theorem Table.all_filter (p q : Nat × α → Bool) (t : Table α) (h : t.all p = true) : (t.filter q).all p = true := by
  simp only [List.all_eq_true, List.mem_filter] at h ⊢
  exact fun x hx => h x hx.1

/-- An empty table is in canonical form. -/
@[simp] theorem Table.wf_nil [DecidableEq α] (d : α) : Table.wf d ([] : Table α) = true := rfl

/-- Setting a key keeps the canonical form. -/
theorem Table.wf_set [DecidableEq α] {t : Table α} {d : α} (k : Nat) (v : α) (h : Table.wf d t = true) : Table.wf d (Table.set t d k v) = true := by
  simp only [Table.wf, Bool.and_eq_true] at h ⊢
  simp only [Table.set]
  split
  · exact ⟨Table.rising_del k h.1, Table.all_del _ t k h.2⟩
  · rename_i hv
    exact ⟨Table.rising_put_none k v h.1, Table.all_put _ t k v h.2 (by simp [hv])⟩

/-- A part of a table in canonical form is in canonical form. -/
theorem Table.wf_filter [DecidableEq α] {t : Table α} {d : α} (p : Nat × α → Bool) (h : Table.wf d t = true) : Table.wf d (t.filter p) = true := by
  simp only [Table.wf, Bool.and_eq_true] at h ⊢
  exact ⟨Table.rising_filter p h.1, Table.all_filter _ _ t h.2⟩

/-- A table in canonical form reads at a key what was set there. -/
theorem Table.get_set [DecidableEq α] {t : Table α} {d : α} (k : Nat) (v : α) (h : Table.wf d t = true) : Table.get (Table.set t d k v) d k = v := by
  simp only [Table.wf, Bool.and_eq_true] at h
  simp only [Table.get, Table.set]
  split
  · rw [Table.find?_del t k h.1]
    simp [*]
  · simp

/-- Setting a key of a table in canonical form leaves every other key as it was. -/
theorem Table.get_set_ne [DecidableEq α] {t : Table α} {d : α} {k j : Nat} (v : α) (hj : j ≠ k) (h : Table.wf d t = true) :
    Table.get (Table.set t d k v) d j = Table.get t d j := by
  simp only [Table.wf, Bool.and_eq_true] at h
  simp only [Table.get, Table.set]
  split
  · rw [Table.find?_del_ne t hj h.1]
  · rw [Table.find?_put_ne t v hj h.1]

/-! ## Memories -/

/-- A write keeps the canonical form of a memory. -/
theorem Memory.wf_write {m : Memory} (a : Nat) (b : Byte) (h : Memory.wf m = true) : Memory.wf (Memory.write m a b) = true := Table.wf_set a b h

/-- A run of writes keeps the canonical form of a memory. -/
theorem Memory.wf_writeN {m : Memory} (a : Nat) (bs : List Byte) (h : Memory.wf m = true) : Memory.wf (Memory.writeN m a bs) = true := by
  induction bs generalizing m a with
  | nil => exact h
  | cons b bs ih => exact ih (a + 1) (Memory.wf_write a b h)

/-- A cleared part keeps the canonical form of a memory. -/
theorem Memory.wf_filter {m : Memory} (p : Host.Cell → Bool) (h : Memory.wf m = true) : Memory.wf (m.filter p) = true := Table.wf_filter p h

/-- A memory reads at an address what was written there. -/
theorem Memory.read_write {m : Memory} (a : Nat) (b : Byte) (h : Memory.wf m = true) : Memory.read (Memory.write m a b) a = b := Table.get_set a b h

/-- A write leaves every other address as it was. -/
theorem Memory.read_write_ne {m : Memory} {a c : Nat} (b : Byte) (hc : c ≠ a) (h : Memory.wf m = true) :
    Memory.read (Memory.write m a b) c = Memory.read m c := Table.get_set_ne b hc h

/-- A run of writes leaves every address outside it as it was. -/
theorem Memory.read_writeN_ne {m : Memory} {a c : Nat} (bs : List Byte) (hc : c < a ∨ a + bs.length ≤ c) (h : Memory.wf m = true) :
    Memory.read (Memory.writeN m a bs) c = Memory.read m c := by
  induction bs generalizing m a with
  | nil => rfl
  | cons b bs ih =>
    simp only [List.length_cons] at hc
    simp only [Memory.writeN]
    rw [ih (by omega) (Memory.wf_write a b h), Memory.read_write_ne b (by omega) h]

/-- A run of memory reads what was written there. -/
theorem Memory.readN_writeN {m : Memory} (a : Nat) (bs : List Byte) (h : Memory.wf m = true) :
    Memory.readN (Memory.writeN m a bs) a bs.length = bs := by
  induction bs generalizing m a with
  | nil => rfl
  | cons b bs ih =>
    simp only [Memory.writeN, List.length_cons, Memory.readN]
    rw [ih (a + 1) (Memory.wf_write a b h), Memory.read_writeN_ne bs (by omega) (Memory.wf_write a b h), Memory.read_write a b h]

/-! ## The object store -/

/-- A store in canonical form reads at a place what was put there. -/
theorem find?_putVal {d : Table Val} (k : Nat) (v : Val) (h : dictWf d = true) : (Table.find? (putVal d k v) k).getD (defaultAt k) = v := by
  simp only [dictWf, Bool.and_eq_true] at h
  simp only [putVal]
  split
  · rw [Table.find?_del d k h.1]
    simp [*]
  · simp

/-- Putting a value leaves every other place of the store as it was. -/
theorem find?_putVal_ne {d : Table Val} {k j : Nat} (v : Val) (hj : j ≠ k) (h : dictWf d = true) :
    Table.find? (putVal d k v) j = Table.find? d j := by
  simp only [dictWf, Bool.and_eq_true] at h
  simp only [putVal]
  split
  · exact Table.find?_del_ne d hj h.1
  · exact Table.find?_put_ne d v hj h.1

/-- Putting a value keeps the canonical form of the store. -/
theorem dictWf_putVal {d : Table Val} (k : Nat) (v : Val) (h : dictWf d = true) : dictWf (putVal d k v) = true := by
  simp only [dictWf, Bool.and_eq_true] at h ⊢
  simp only [putVal]
  split
  · exact ⟨Table.rising_del k h.1, Table.all_del _ d k h.2⟩
  · rename_i hv
    exact ⟨Table.rising_put_none k v h.1, Table.all_put _ d k v h.2 (by simp [hv])⟩

/-- A part of a store in canonical form is in canonical form. -/
theorem dictWf_filter {d : Table Val} (p : Nat × Val → Bool) (h : dictWf d = true) : dictWf (d.filter p) = true := by
  simp only [dictWf, Bool.and_eq_true] at h ⊢
  exact ⟨Table.rising_filter p h.1, Table.all_filter _ _ d h.2⟩

end Sys2Proof.Machine
end

