-- ==== Sys2Proof/Laws/Good.lean ====
section
/-!
SUPPORT. The operations of Machine/Ops.lean keep a module sound.
-/
namespace Sys2Proof.Machine

/-- Soundness sees a module's store, memory and hold alone. -/
theorem Mod.Good.of {m n : Mod} (h : m.Good) (hd : n.dict = m.dict) (hm : n.mem = m.mem) (hp : n.power.held = m.power.held) : n.Good :=
  ⟨hd ▸ h.dict, hm ▸ h.mem, hp ▸ h.held⟩

/-- Whether a record is sound shows in three of its fields. -/
theorem good_mk {dict : Table Val} {tick : TickSt} {ingest : IngestSt} {filter : FilterSt} {phasor : PhasorSt} {element : ElementSt} {logic : LogicSt} {ten : TenSt} {triad : TriadSt} {welt : WeltSt} {sw : SwSt} {time : TimeSt} {click : ClickerSt} {can : CanSt} {recorder : RecSt} {power : PowerSt} {mem : Memory} {dic : DictSt} {keys : KeysSt} {nv : NvSt} {bits : Table Nat} {raised : List Ev} {out : List Out} {freeCount : Nat} :
    (Mod.mk dict tick ingest filter phasor element logic ten triad welt sw time click can recorder power mem dic keys nv bits raised out freeCount).Good ↔ dictWf dict = true ∧ Memory.wf mem = true ∧ power.held ≤ 7 :=
  ⟨fun h => ⟨h.dict, h.mem, h.held⟩, fun h => ⟨h.1, h.2.1, h.2.2⟩⟩

/-- The three fields of a sound module. -/
theorem Mod.Good.all {m : Mod} (h : m.Good) : dictWf m.dict = true ∧ Memory.wf m.mem = true ∧ m.power.held ≤ 7 := ⟨h.dict, h.mem, h.held⟩

/-- A choice of sound modules is sound. -/
theorem good_ite {c : Prop} [Decidable c] {a b : Mod} (ha : a.Good) (hb : b.Good) : (if c then a else b).Good := by
  split
  · exact ha
  · exact hb

theorem Mod.setVal_good {m : Mod} (h : m.Good) (o : Nat) (v : Val) (i : Nat) : (m.setVal o v i).Good :=
  ⟨dictWf_putVal _ _ h.dict, h.mem, h.held⟩

theorem Mod.set_good {m : Mod} (h : m.Good) (o n i : Nat) : (m.set o n i).Good := Mod.setVal_good h o _ i

theorem Mod.setOct_good {m : Mod} (h : m.Good) (o : Nat) (b : List Byte) (i : Nat) : (m.setOct o b i).Good := Mod.setVal_good h o _ i

theorem Mod.bump_good {m : Mod} (h : m.Good) (o i n : Nat) : (m.bump o i n).Good := Mod.set_good h o _ i

theorem Mod.raiseTo_good {m : Mod} (h : m.Good) (o n i : Nat) : (m.raiseTo o n i).Good := Mod.set_good h o _ i

theorem Mod.clearSubs_good {m : Mod} (h : m.Good) (x a b i : Nat) : (m.clearSubs x a b i).Good :=
  ⟨dictWf_filter _ h.dict, h.mem, h.held⟩

theorem Mod.raise_good {m : Mod} (h : m.Good) (code : Nat) (p : List Nat) : (m.raise code p).Good := ⟨h.dict, h.mem, h.held⟩

theorem Mod.emit_good {m : Mod} (h : m.Good) (o : Out) : (m.emit o).Good := ⟨h.dict, h.mem, h.held⟩

theorem Mod.draw_good {m : Mod} (h : m.Good) (w : Nat) : (m.draw w).2.Good := ⟨h.dict, h.mem, h.held⟩

theorem Mod.draw_good_eq {m r : Mod} {y w : Nat} (e : m.draw w = (y, r)) (h : m.Good) : r.Good := by
  have := Mod.draw_good h w
  rw [e] at this
  exact this

theorem Mod.each_good {α : Type} {m : Mod} {l : List α} {f : Mod → α → Mod} (h : m.Good) (hf : ∀ m x, m.Good → (f m x).Good) :
    (m.each l f).Good := by
  unfold Mod.each
  induction l generalizing m with
  | nil => exact h
  | cons x l ih => exact ih (hf m x h)

theorem foldl_good_fst {α β : Type} {l : List α} {f : Mod × β → α → Mod × β} {a : Mod × β} (h : a.1.Good)
    (hf : ∀ a x, a.1.Good → (f a x).1.Good) : (l.foldl f a).1.Good := by
  induction l generalizing a with
  | nil => exact h
  | cons x l ih => exact ih (hf a x h)

theorem Mod.when_good {m : Mod} {c : Bool} {f : Mod → Mod} (h : m.Good) (hf : ∀ m, m.Good → (f m).Good) : (m.when c f).Good :=
  good_ite (hf m h) h

theorem Mod.awake_good {m : Mod} {f : Mod → Mod} (h : m.Good) (hf : ∀ m, m.Good → (f m).Good) : (m.awake f).Good :=
  good_ite h (hf m h)

end Sys2Proof.Machine
end

