-- ==== Sys2Proof/Laws/GoodOperands.lean ====
section
/-!
SUPPORT. The operations and commands of Machine/Operands.lean keep a module sound.
-/
set_option linter.unusedSimpArgs false

namespace Sys2Proof.Machine

theorem Mod.report_good {m : Mod} (h : m.Good) (p : _) (code : _) : (Mod.report m p code).Good := by
  unfold Mod.report
  try dsimp only
  repeat' first
    | with_reducible assumption
    | intro _
    | (simp only [↓good_mk]; with_reducible apply Mod.Good.all)

theorem Mod.served_good {m : Mod} {p : Path} {f : Mod → Mod} (h : m.Good) (hf : ∀ m, m.Good → (f m).Good) : (m.served p f).Good := by
  unfold Mod.served
  exact Mod.report_good (hf m h) _ _

theorem Mod.access_good {m : Mod} {p : Path} {f : Mod → Mod} (h : m.Good) (hf : ∀ m, m.Good → (f m).Good) : (m.access p f).Good :=
  good_ite h (good_ite (Mod.report_good h _ _) (hf m h))

theorem Mod.gate_good {m : Mod} {p : Path} {f : Mod → Mod} (h : m.Good) (hf : ∀ m, m.Good → (f m).Good) : (m.gate p f).Good :=
  Mod.access_good h (fun _ h => good_ite (Mod.report_good h _ _) (hf _ h))

theorem Mod.markTick_good {m : Mod} (h : m.Good) (q : _) (sec : _) : (Mod.markTick m q sec).Good := by
  unfold Mod.markTick
  try dsimp only
  repeat' first
    | with_reducible assumption
    | (simp only [↓good_mk]; with_reducible apply Mod.Good.all)

theorem Mod.setStage_good {m : Mod} (h : m.Good) (p : _) (st : _) : (Mod.setStage m p st).Good := by
  unfold Mod.setStage
  try dsimp only
  repeat' first
    | with_reducible assumption
    | intro _
    | (simp only [↓good_mk]; with_reducible apply Mod.Good.all)

theorem Mod.stageAll_good {m : Mod} (h : m.Good) (p : _) (es : _) : (Mod.stageAll m p es).1.Good := by
  unfold Mod.stageAll
  try dsimp only
  repeat' first
    | with_reducible assumption
    | intro _
    | simp only [↓good_mk]
    | with_reducible apply Mod.setStage_good
    | with_reducible apply good_ite
    | split

theorem Mod.stageAll_good_eq {m m1 : Mod} {y1 : _} {p : _} {es : _} (he : Mod.stageAll m p es = (m1, y1)) (h : m.Good) : m1.Good := by
  have := Mod.stageAll_good h p es
  rw [he] at this
  exact this

end Sys2Proof.Machine
end

