-- ==== Sys2Proof/Laws/GoodFlags.lean ====
section
/-!
SUPPORT. The operations and commands of Machine/Flags.lean keep a module sound.
-/
set_option linter.unusedSimpArgs false

namespace Sys2Proof.Machine

theorem Mod.setBitAt_good {m : Mod} (h : m.Good) (a : _) (b : _) : (Mod.setBitAt m a b).Good := by
  unfold Mod.setBitAt
  try dsimp only
  repeat' first
    | with_reducible assumption
    | intro _
    | (simp only [↓good_mk]; with_reducible apply Mod.Good.all)

theorem Mod.setBits_good {m : Mod} (h : m.Good) (l : List (Nat × Bool)) : (m.setBits l).Good := by
  unfold Mod.setBits
  induction l generalizing m with
  | nil => exact h
  | cons x l ih => exact ih (Mod.setBitAt_good h x.1 x.2)

end Sys2Proof.Machine
end

