-- ==== Sys2Proof/Laws/GoodWeltCore.lean ====
section
/-!
SUPPORT. The operations and commands of Machine/WeltCore.lean keep a module sound.
-/
set_option linter.unusedSimpArgs false

namespace Sys2Proof.Machine

theorem Mod.setLink_good {m : Mod} (h : m.Good) (l : _) (x : _) : (Mod.setLink m l x).Good := by
  unfold Mod.setLink
  try dsimp only
  repeat' first
    | with_reducible assumption
    | intro _
    | (simp only [↓good_mk]; with_reducible apply Mod.Good.all)

theorem Mod.owe_good {m : Mod} (h : m.Good) (l : _) (vc : _) (n : _) : (Mod.owe m l vc n).Good := by
  unfold Mod.owe
  try dsimp only
  repeat' first
    | with_reducible assumption
    | intro _
    | with_reducible apply Mod.setLink_good

theorem Mod.oweVia_good {m : Mod} (h : m.Good) (via : _) (vc : _) (n : _) : (Mod.oweVia m via vc n).Good := by
  unfold Mod.oweVia
  try dsimp only
  repeat' first
    | with_reducible assumption
    | with_reducible apply Mod.owe_good
    | split

theorem Mod.putFlit_good {m : Mod} (h : m.Good) (l : _) (f : _) : (Mod.putFlit m l f).Good := by
  unfold Mod.putFlit
  try dsimp only
  repeat' first
    | with_reducible assumption
    | with_reducible apply Mod.setLink_good
    | with_reducible apply Mod.emit_good

theorem Mod.sayFiller_good {m : Mod} (h : m.Good) (l : _) (ty : _) : (Mod.sayFiller m l ty).Good := by
  unfold Mod.sayFiller
  try dsimp only
  repeat' first
    | with_reducible assumption
    | with_reducible apply Mod.setLink_good
    | with_reducible apply Mod.emit_good

theorem Mod.sendVc_good {m : Mod} (h : m.Good) (l : _) (vc : _) (wrr : _) : (Mod.sendVc m l vc wrr).Good := by
  unfold Mod.sendVc
  try dsimp only
  repeat' first
    | with_reducible assumption
    | with_reducible apply Mod.setLink_good
    | with_reducible apply Mod.putFlit_good
    | with_reducible apply Mod.oweVia_good
    | split

theorem pumpLink_good {m : Mod} (h : m.Good) (l : _) (x1 : _) : (pumpLink l x1 m).Good := by
  induction x1 generalizing m  with
  | zero => exact h
  | succ z ih =>
    unfold pumpLink
    repeat' first
      | with_reducible assumption
      | with_reducible apply ih
      | with_reducible apply Mod.setLink_good
      | with_reducible apply Mod.putFlit_good
      | with_reducible apply Mod.sendVc_good
      | split
      | dsimp only

theorem Mod.pump_good {m : Mod} (h : m.Good) (l : _) : (Mod.pump m l).Good := by
  unfold Mod.pump
  try dsimp only
  repeat' first
    | with_reducible assumption
    | with_reducible apply pumpLink_good

theorem idleOut_good {m : Mod} (h : m.Good) (l : _) (x1 : _) : (idleOut l x1 m).Good := by
  induction x1 generalizing m  with
  | zero => exact h
  | succ z ih =>
    unfold idleOut
    repeat' first
      | with_reducible assumption
      | with_reducible apply ih
      | with_reducible apply Mod.sayFiller_good
      | with_reducible apply good_ite

theorem Mod.returnCredits_good {m : Mod} (h : m.Good) (l : _) : (Mod.returnCredits m l).Good := by
  unfold Mod.returnCredits
  try dsimp only
  repeat' first
    | with_reducible assumption
    | with_reducible apply idleOut_good

theorem Mod.sendOn_good {m : Mod} (h : m.Good) (l : _) (p : _) (via : _) : (Mod.sendOn m l p via).Good := by
  unfold Mod.sendOn
  try dsimp only
  repeat' first
    | with_reducible assumption
    | with_reducible apply Mod.setLink_good
    | with_reducible apply Mod.pump_good

theorem Mod.sendLocal_good {m : Mod} (h : m.Good) (l : _) (ty : _) (b : _) : (Mod.sendLocal m l ty b).Good := by
  unfold Mod.sendLocal
  try dsimp only
  repeat' first
    | with_reducible assumption
    | with_reducible apply Mod.setLink_good
    | with_reducible apply Mod.pump_good

theorem Mod.routeVia_good {m : Mod} (h : m.Good) (p : _) (via : _) : (Mod.routeVia m p via).1.Good := by
  unfold Mod.routeVia
  try dsimp only
  repeat' first
    | with_reducible assumption
    | (simp only [↓good_mk]; with_reducible apply Mod.Good.all)
    | with_reducible apply Mod.sendOn_good
    | split

theorem Mod.routeVia_good_eq {m m1 : Mod} {y1 : _} {p : _} {via : _} (he : Mod.routeVia m p via = (m1, y1)) (h : m.Good) : m1.Good := by
  have := Mod.routeVia_good h p via
  rw [he] at this
  exact this

theorem Mod.route_good {m : Mod} (h : m.Good) (p : _) : (Mod.route m p).1.Good := by
  unfold Mod.route
  try dsimp only
  repeat' first
    | with_reducible assumption
    | with_reducible apply Mod.routeVia_good

theorem Mod.route_good_eq {m m1 : Mod} {y1 : _} {p : _} (he : Mod.route m p = (m1, y1)) (h : m.Good) : m1.Good := by
  have := Mod.route_good h p
  rw [he] at this
  exact this

theorem Mod.ackAndCredit_good {m : Mod} (h : m.Good) (h_ : _) : (Mod.ackAndCredit m h_).Good := by
  unfold Mod.ackAndCredit
  try dsimp only
  repeat' first
    | with_reducible assumption
    | with_reducible apply Mod.setLink_good
    | with_reducible apply Mod.pump_good

theorem Mod.discardFlit_good {m : Mod} (h : m.Good) (l : _) : (Mod.discardFlit m l).Good := by
  unfold Mod.discardFlit
  try dsimp only
  repeat' first
    | with_reducible assumption
    | with_reducible apply Mod.setLink_good
    | with_reducible apply Mod.sayFiller_good
    | with_reducible apply good_ite

theorem Mod.accept_good {m : Mod} (h : m.Good) (h_ : _) (n : _) : (Mod.accept m h_ n).1.Good := by
  unfold Mod.accept
  try dsimp only
  repeat' first
    | with_reducible assumption
    | with_reducible apply Mod.discardFlit_good
    | with_reducible apply Mod.setLink_good
    | with_reducible apply Mod.ackAndCredit_good
    | split

theorem Mod.accept_good_eq {m m1 : Mod} {y1 : _} {h_ : _} {n : _} (he : Mod.accept m h_ n = (m1, y1)) (h : m.Good) : m1.Good := by
  have := Mod.accept_good h h_ n
  rw [he] at this
  exact this

theorem Mod.takeLocal_good {m : Mod} (h : m.Good) (h_ : _) (f : _) (hf : ∀ m, m.Good → (f m).Good) : (Mod.takeLocal m h_ f).Good := by
  unfold Mod.takeLocal
  try dsimp only
  repeat' first
    | with_reducible assumption
    | with_reducible apply hf
    | with_reducible apply Mod.accept_good
    | with_reducible apply Mod.sayFiller_good
    | with_reducible apply Mod.returnCredits_good
    | with_reducible apply good_ite

theorem Mod.forwardPacket_good {m : Mod} (h : m.Good) (p : _) (l : _) : (Mod.forwardPacket m p l).Good := by
  unfold Mod.forwardPacket
  try dsimp only
  repeat' first
    | with_reducible assumption
    | with_reducible apply Mod.route_good
    | with_reducible apply Mod.owe_good
    | with_reducible apply Mod.bump_good
    | with_reducible apply Mod.routeVia_good
    | with_reducible apply good_ite

theorem Mod.takePacket_good {m : Mod} (h : m.Good) (h_ : _) (p : _) (f : _) (hf : ∀ m, m.Good → (f m).1.Good) : (Mod.takePacket m h_ p f).Good := by
  unfold Mod.takePacket
  try dsimp only
  repeat' first
    | with_reducible assumption
    | with_reducible apply hf
    | with_reducible apply Mod.bump_good
    | with_reducible apply Mod.discardFlit_good
    | with_reducible apply Mod.accept_good
    | with_reducible apply Mod.setLink_good
    | with_reducible apply Mod.owe_good
    | with_reducible apply Mod.forwardPacket_good
    | with_reducible apply Mod.sayFiller_good
    | with_reducible apply Mod.returnCredits_good
    | with_reducible apply good_ite

theorem Mod.takeWhole_good {m : Mod} (h : m.Good) (h_ : _) (p : _) (f : _) (hf : ∀ m, m.Good → (f m).Good) : (Mod.takeWhole m h_ p f).Good := by
  unfold Mod.takeWhole
  try dsimp only
  repeat' first
    | with_reducible assumption
    | with_reducible apply Mod.takePacket_good

end Sys2Proof.Machine
end

