-- ==== Sys2Proof/Laws/GoodStations.lean ====
section
/-!
SUPPORT. The operations and commands of Machine/Stations.lean keep a module sound.
-/
set_option linter.unusedSimpArgs false

namespace Sys2Proof.Machine

theorem Mod.setStation_good {m : Mod} (h : m.Good) (r : _) (x : _) : (Mod.setStation m r x).Good := by
  unfold Mod.setStation
  try dsimp only
  repeat' first
    | with_reducible assumption
    | intro _
    | (simp only [↓good_mk]; with_reducible apply Mod.Good.all)

theorem Mod.setStationBits_good {m : Mod} (h : m.Good) (r : _) (v : _) : (Mod.setStationBits m r v).Good := by
  unfold Mod.setStationBits
  try dsimp only
  repeat' first
    | with_reducible assumption
    | intro _
    | with_reducible apply Mod.setBits_good

theorem gooseAt_good {m : Mod} (h : m.Good) (f : _) (k : _) (r : _) : (gooseAt f k r m).Good := by
  unfold gooseAt
  try dsimp only
  repeat' first
    | with_reducible assumption
    | intro _
    | with_reducible apply Mod.setStation_good

theorem Mod.forwardStation_good {m : Mod} (h : m.Good) (bytes : _) : (Mod.forwardStation m bytes).Good := by
  unfold Mod.forwardStation
  try dsimp only
  repeat' first
    | with_reducible assumption
    | intro _
    | with_reducible apply Mod.each_good
    | with_reducible apply Mod.route_good

theorem gooseStationRx_good {m : Mod} (h : m.Good) (f : _) (origin : _) : (gooseStationRx f origin m).Good := by
  unfold gooseStationRx
  try dsimp only
  repeat' first
    | with_reducible assumption
    | intro _
    | with_reducible apply Mod.each_good
    | with_reducible apply gooseAt_good
    | with_reducible apply Mod.forwardStation_good
    | with_reducible apply good_ite

theorem canStations_good {m : Mod} (h : m.Good) (ch : _) (ident : _) (ide : _) (data : _) : (canStations ch ident ide data m).Good := by
  unfold canStations
  try dsimp only
  repeat' first
    | with_reducible assumption
    | intro _
    | with_reducible apply Mod.each_good
    | with_reducible apply Mod.setStation_good

theorem formStation_good {m : Mod} (h : m.Good) (r : _) : (formStation r m).Good := by
  unfold formStation
  try dsimp only
  repeat' first
    | with_reducible assumption
    | intro _
    | with_reducible apply Mod.setStation_good

theorem applyStation_good {m : Mod} (h : m.Good) (r : _) : (applyStation r m).Good := by
  unfold applyStation
  try dsimp only
  repeat' first
    | with_reducible assumption
    | intro _
    | with_reducible apply Mod.set_good
    | with_reducible apply Mod.setStation_good
    | with_reducible apply Mod.setBitAt_good
    | with_reducible apply Mod.raise_good
    | with_reducible apply Mod.setStationBits_good
    | with_reducible apply foldl_good_fst
    | with_reducible apply good_ite

theorem applyStations_good {m : Mod} (h : m.Good) : (applyStations m).Good := by
  unfold applyStations
  try dsimp only
  repeat' first
    | with_reducible assumption
    | intro _
    | (simp only [↓good_mk]; with_reducible apply Mod.Good.all)
    | with_reducible apply Mod.each_good
    | with_reducible apply applyStation_good

theorem clearDropped_good {m : Mod} (h : m.Good) : (clearDropped m).Good := by
  unfold clearDropped
  try dsimp only
  repeat' first
    | with_reducible assumption
    | intro _
    | (simp only [↓good_mk]; with_reducible apply Mod.Good.all)

theorem stationDropout_good {m : Mod} (h : m.Good) (r : _) : (stationDropout r m).Good := by
  unfold stationDropout
  try dsimp only
  repeat' first
    | with_reducible assumption
    | intro _
    | with_reducible apply Mod.set_good
    | with_reducible apply Mod.setStationBits_good
    | with_reducible apply Mod.setBitAt_good
    | with_reducible apply Mod.bump_good
    | with_reducible apply Mod.raise_good
    | with_reducible apply good_ite

theorem stationEnable_good {m : Mod} (h : m.Good) (r : _) (v : _) : (stationEnable r v m).Good := by
  unfold stationEnable
  try dsimp only
  repeat' first
    | with_reducible assumption
    | intro _
    | with_reducible apply Mod.set_good
    | with_reducible apply Mod.setStation_good
    | with_reducible apply Mod.setStationBits_good
    | with_reducible apply Mod.setBitAt_good
    | with_reducible apply good_ite

end Sys2Proof.Machine
end

