-- ==== Sys2Proof/Laws/GoodForward.lean ====
section
/-!
SUPPORT. The operations and commands of Machine/Forward.lean keep a module sound.
-/
set_option linter.unusedSimpArgs false

namespace Sys2Proof.Machine

theorem Mod.setMacAt_good {m : Mod} (h : m.Good) (b : _) (l : _) : (Mod.setMacAt m b l).Good := by
  unfold Mod.setMacAt
  try dsimp only
  repeat' first
    | with_reducible assumption
    | intro _
    | (simp only [↓good_mk]; with_reducible apply Mod.Good.all)

theorem Mod.macCounts_good {m : Mod} (h : m.Good) : (Mod.macCounts m).Good := by
  unfold Mod.macCounts
  try dsimp only
  repeat' first
    | with_reducible assumption
    | intro _
    | with_reducible apply Mod.set_good

theorem Mod.macUpdate_good {m : Mod} (h : m.Good) (b : _) (e : _) (e' : _) : (Mod.macUpdate m b e e').Good := by
  unfold Mod.macUpdate
  try dsimp only
  repeat' first
    | with_reducible assumption
    | intro _
    | with_reducible apply Mod.setMacAt_good
    | with_reducible apply Mod.macCounts_good

theorem Mod.macInsert_good {m : Mod} (h : m.Good) (e : _) : (Mod.macInsert m e).1.Good := by
  unfold Mod.macInsert
  try dsimp only
  repeat' first
    | with_reducible assumption
    | intro _
    | simp only [↓good_mk]
    | with_reducible apply Mod.setMacAt_good
    | with_reducible apply Mod.macCounts_good
    | with_reducible apply good_ite
    | split

theorem Mod.macInsert_good_eq {m m1 : Mod} {y1 : _} {e : _} (he : Mod.macInsert m e = (m1, y1)) (h : m.Good) : m1.Good := by
  have := Mod.macInsert_good h e
  rw [he] at this
  exact this

theorem Mod.macRemove_good {m : Mod} (h : m.Good) (p : _) : (Mod.macRemove m p).1.Good := by
  unfold Mod.macRemove
  try dsimp only
  repeat' first
    | with_reducible assumption
    | intro _
    | (simp only [↓good_mk]; with_reducible apply Mod.Good.all)
    | with_reducible apply Mod.macCounts_good

theorem Mod.macRemove_good_eq {m m1 : Mod} {y1 : _} {p : _} (he : Mod.macRemove m p = (m1, y1)) (h : m.Good) : m1.Good := by
  have := Mod.macRemove_good h p
  rw [he] at this
  exact this

theorem Mod.macFlush_good {m : Mod} (h : m.Good) (p : _) : (Mod.macFlush m p).Good := by
  unfold Mod.macFlush
  try dsimp only
  repeat' first
    | with_reducible assumption
    | intro _
    | with_reducible refine Mod.macRemove_good_eq (by assumption) ?_
    | with_reducible apply Mod.macRemove_good
    | with_reducible apply Mod.bump_good
    | with_reducible apply Mod.raise_good

theorem Mod.learn_good {m : Mod} (h : m.Good) (context : _) (mac : _) (p : _) : (Mod.learn m context mac p).1.Good := by
  unfold Mod.learn
  try dsimp only
  repeat' first
    | with_reducible assumption
    | intro _
    | simp only [↓good_mk]
    | with_reducible apply Mod.bump_good
    | with_reducible refine Mod.macInsert_good_eq (by assumption) ?_
    | with_reducible apply Mod.macInsert_good
    | with_reducible apply Mod.raise_good
    | with_reducible apply Mod.macUpdate_good
    | with_reducible apply good_ite
    | split

theorem Mod.learn_good_eq {m m1 : Mod} {y1 : _} {context : _} {mac : _} {p : _} (he : Mod.learn m context mac p = (m1, y1)) (h : m.Good) : m1.Good := by
  have := Mod.learn_good h context mac p
  rw [he] at this
  exact this

theorem macSweep_good {m : Mod} (h : m.Good) : (macSweep m).Good := by
  unfold macSweep
  try dsimp only
  repeat' first
    | with_reducible assumption
    | intro _
    | (simp only [↓good_mk]; with_reducible apply Mod.Good.all)
    | with_reducible refine Mod.macRemove_good_eq (by assumption) ?_
    | with_reducible apply Mod.macRemove_good
    | with_reducible apply Mod.bump_good

theorem macFlushPort_good {m : Mod} (h : m.Good) (path : _) (p : _) : (macFlushPort path p m).Good := by
  unfold macFlushPort
  try dsimp only
  repeat' first
    | with_reducible assumption
    | intro _
    | with_reducible apply Mod.report_good
    | with_reducible apply Mod.served_good
    | with_reducible apply Mod.macFlush_good
    | with_reducible apply good_ite

theorem Mod.macResult_good {m : Mod} (h : m.Good) (r : _) : (Mod.macResult m r).Good := by
  unfold Mod.macResult
  try dsimp only
  repeat' first
    | with_reducible assumption
    | intro _
    | with_reducible apply Mod.set_good

theorem Mod.macOp_good {m : Mod} (h : m.Good) (path : _) (f : _) (hf : ∀ m, m.Good → (f m).Good) : (Mod.macOp m path f).Good := by
  unfold Mod.macOp
  try dsimp only
  repeat' first
    | with_reducible assumption
    | intro _
    | with_reducible apply hf
    | with_reducible apply Mod.report_good
    | with_reducible apply Mod.served_good
    | with_reducible apply good_ite

theorem macInsertOp_good {m : Mod} (h : m.Good) (path : _) : (macInsertOp path m).Good := by
  unfold macInsertOp
  try dsimp only
  repeat' first
    | with_reducible assumption
    | intro _
    | with_reducible apply Mod.macOp_good
    | with_reducible apply Mod.macResult_good
    | with_reducible apply Mod.macUpdate_good
    | with_reducible refine Mod.macInsert_good_eq (by assumption) ?_
    | with_reducible apply Mod.macInsert_good
    | with_reducible apply good_ite
    | split

theorem macDeleteOp_good {m : Mod} (h : m.Good) (path : _) : (macDeleteOp path m).Good := by
  unfold macDeleteOp
  try dsimp only
  repeat' first
    | with_reducible assumption
    | intro _
    | with_reducible apply Mod.macOp_good
    | with_reducible refine Mod.macRemove_good_eq (by assumption) ?_
    | with_reducible apply Mod.macRemove_good
    | with_reducible apply Mod.macResult_good
    | with_reducible apply good_ite
    | split

theorem macLookupOp_good {m : Mod} (h : m.Good) (path : _) : (macLookupOp path m).Good := by
  unfold macLookupOp
  try dsimp only
  repeat' first
    | with_reducible assumption
    | intro _
    | with_reducible apply Mod.macOp_good
    | with_reducible apply Mod.set_good
    | with_reducible apply Mod.macResult_good
    | with_reducible apply good_ite
    | split

theorem macDumpStart_good {m : Mod} (h : m.Good) (path : _) : (macDumpStart path m).Good := by
  unfold macDumpStart
  try dsimp only
  repeat' first
    | with_reducible assumption
    | intro _
    | (simp only [↓good_mk]; with_reducible apply Mod.Good.all)
    | with_reducible apply Mod.macOp_good
    | with_reducible apply Mod.setOct_good
    | with_reducible apply Mod.macResult_good

theorem macDumpNext_good {m : Mod} (h : m.Good) (path : _) : (macDumpNext path m).Good := by
  unfold macDumpNext
  try dsimp only
  repeat' first
    | with_reducible assumption
    | intro _
    | (simp only [↓good_mk]; with_reducible apply Mod.Good.all)
    | with_reducible apply Mod.setOct_good
    | with_reducible apply Mod.emit_good
    | with_reducible apply Mod.report_good

theorem Mod.setRoutesAt_good {m : Mod} (h : m.Good) (b : _) (l : _) : (Mod.setRoutesAt m b l).Good := by
  unfold Mod.setRoutesAt
  try dsimp only
  repeat' first
    | with_reducible assumption
    | intro _
    | (simp only [↓good_mk]; with_reducible apply Mod.Good.all)
    | with_reducible apply Mod.set_good

theorem Mod.routeOp_good {m : Mod} (h : m.Good) (path : _) (f : _) (hf : ∀ x0 x1 x2 m, m.Good → (f x0 x1 x2 m).Good) : (Mod.routeOp m path f).Good := by
  unfold Mod.routeOp
  try dsimp only
  repeat' first
    | with_reducible assumption
    | intro _
    | with_reducible apply hf
    | with_reducible apply Mod.report_good
    | with_reducible apply Mod.served_good
    | with_reducible apply Mod.set_good
    | with_reducible apply good_ite

theorem routeInsert_good {m : Mod} (h : m.Good) (path : _) : (routeInsert path m).Good := by
  unfold routeInsert
  try dsimp only
  repeat' first
    | with_reducible assumption
    | intro _
    | with_reducible apply Mod.routeOp_good
    | with_reducible apply Mod.setRoutesAt_good
    | with_reducible apply Mod.set_good
    | with_reducible apply Mod.raise_good
    | with_reducible apply good_ite
    | split

theorem routeDelete_good {m : Mod} (h : m.Good) (path : _) : (routeDelete path m).Good := by
  unfold routeDelete
  try dsimp only
  repeat' first
    | with_reducible assumption
    | intro _
    | with_reducible apply Mod.routeOp_good
    | with_reducible apply Mod.setRoutesAt_good
    | with_reducible apply Mod.set_good
    | with_reducible apply good_ite
    | split

theorem routeLookupOp_good {m : Mod} (h : m.Good) (path : _) : (routeLookupOp path m).Good := by
  unfold routeLookupOp
  try dsimp only
  repeat' first
    | with_reducible assumption
    | intro _
    | with_reducible apply Mod.routeOp_good
    | with_reducible apply Mod.set_good
    | with_reducible apply good_ite
    | split

theorem Mod.routeFrame_good {m : Mod} (h : m.Good) (d : _) : (Mod.routeFrame m d).1.Good := by
  unfold Mod.routeFrame
  try dsimp only
  repeat' first
    | with_reducible assumption
    | intro _
    | simp only [↓good_mk]
    | with_reducible apply Mod.bump_good
    | with_reducible apply good_ite
    | split

theorem Mod.routeFrame_good_eq {m m1 : Mod} {y1 : _} {d : _} (he : Mod.routeFrame m d = (m1, y1)) (h : m.Good) : m1.Good := by
  have := Mod.routeFrame_good h d
  rw [he] at this
  exact this

theorem Mod.lookup_good {m : Mod} (h : m.Good) (d : _) : (Mod.lookup m d).1.Good := by
  unfold Mod.lookup
  try dsimp only
  repeat' first
    | with_reducible assumption
    | intro _
    | simp only [↓good_mk]
    | with_reducible refine Mod.routeFrame_good_eq (by assumption) ?_
    | with_reducible apply Mod.routeFrame_good
    | with_reducible apply Mod.bump_good
    | with_reducible apply good_ite
    | split

theorem Mod.lookup_good_eq {m m1 : Mod} {y1 : _} {d : _} (he : Mod.lookup m d = (m1, y1)) (h : m.Good) : m1.Good := by
  have := Mod.lookup_good h d
  rw [he] at this
  exact this

theorem Mod.forwardDecision_good {m : Mod} (h : m.Good) (p : _) (v : _) (f : _) (fromStep3 : _) : (Mod.forwardDecision m p v f fromStep3).1.Good := by
  unfold Mod.forwardDecision
  try dsimp only
  repeat' first
    | with_reducible assumption
    | intro _
    | simp only [↓good_mk]
    | with_reducible apply Mod.bump_good
    | with_reducible refine Mod.learn_good_eq (by assumption) ?_
    | with_reducible apply Mod.learn_good
    | with_reducible refine Mod.lookup_good_eq (by assumption) ?_
    | with_reducible apply Mod.lookup_good
    | with_reducible apply good_ite
    | split

theorem Mod.forwardDecision_good_eq {m m1 : Mod} {y1 : _} {p : _} {v : _} {f : _} {fromStep3 : _} (he : Mod.forwardDecision m p v f fromStep3 = (m1, y1)) (h : m.Good) : m1.Good := by
  have := Mod.forwardDecision_good h p v f fromStep3
  rw [he] at this
  exact this

end Sys2Proof.Machine
end

