-- ==== Sys2Proof/Laws/GoodSwitchCore.lean ====
section
/-!
SUPPORT. The operations and commands of Machine/SwitchCore.lean keep a module sound.
-/
set_option linter.unusedSimpArgs false

namespace Sys2Proof.Machine

theorem Mod.setPort_good {m : Mod} (h : m.Good) (p : _) (x : _) : (Mod.setPort m p x).Good := by
  unfold Mod.setPort
  try dsimp only
  repeat' first
    | with_reducible assumption
    | intro _
    | (simp only [↓good_mk]; with_reducible apply Mod.Good.all)

theorem pauseCheck_good {m : Mod} (h : m.Good) (p : _) : (pauseCheck p m).Good := by
  unfold pauseCheck
  try dsimp only
  repeat' first
    | with_reducible assumption
    | intro _
    | with_reducible apply Mod.setPort_good
    | with_reducible apply Mod.bump_good
    | with_reducible apply Mod.emit_good
    | with_reducible apply good_ite

theorem Mod.swSync_good {m : Mod} (h : m.Good) : (Mod.swSync m).Good := by
  unfold Mod.swSync
  try dsimp only
  repeat' first
    | with_reducible assumption
    | intro _
    | with_reducible apply Mod.set_good
    | with_reducible apply Mod.each_good
    | with_reducible apply Mod.setOct_good
    | with_reducible apply pauseCheck_good
    | with_reducible apply good_ite

theorem Mod.release_good {m : Mod} (h : m.Good) (c : _) : (Mod.release m c).Good := by
  unfold Mod.release
  try dsimp only
  repeat' first
    | with_reducible assumption
    | intro _
    | (simp only [↓good_mk]; with_reducible apply Mod.Good.all)

theorem Mod.enqueue_good {m : Mod} (h : m.Good) (p : _) (c : _) : (Mod.enqueue m p c).Good := by
  unfold Mod.enqueue
  try dsimp only
  repeat' first
    | with_reducible assumption
    | intro _
    | (simp only [↓good_mk]; with_reducible apply Mod.Good.all)
    | with_reducible apply Mod.setPort_good

theorem Mod.offer_good {m : Mod} (h : m.Good) (p : _) (saturated : _) (c : _) : (Mod.offer m p saturated c).Good := by
  unfold Mod.offer
  try dsimp only
  repeat' first
    | with_reducible assumption
    | intro _
    | with_reducible apply Mod.bump_good
    | with_reducible apply Mod.enqueue_good
    | with_reducible apply Mod.raise_good
    | with_reducible apply good_ite
    | split

theorem Mod.dropReception_good {m : Mod} (h : m.Good) (no : _) (p : _) : (Mod.dropReception m no p).Good := by
  unfold Mod.dropReception
  try dsimp only
  repeat' first
    | with_reducible assumption
    | intro _
    | with_reducible apply Mod.setPort_good
    | with_reducible apply Mod.each_good
    | with_reducible apply Mod.release_good
    | with_reducible apply Mod.emit_good
    | with_reducible apply good_ite
    | split

theorem Mod.badEnd_good {m : Mod} (h : m.Good) (ingress : _) (no : _) : (Mod.badEnd m ingress no).Good := by
  unfold Mod.badEnd
  try dsimp only
  repeat' first
    | with_reducible assumption
    | intro _
    | with_reducible apply Mod.bump_good
    | with_reducible apply Mod.each_good
    | with_reducible apply Mod.dropReception_good

theorem Mod.goodEnd_good {m : Mod} (h : m.Good) (no : _) : (Mod.goodEnd m no).Good := by
  unfold Mod.goodEnd
  try dsimp only
  repeat' first
    | with_reducible assumption
    | intro _
    | with_reducible apply Mod.each_good
    | with_reducible apply Mod.setPort_good

theorem Mod.endRx_good {m : Mod} (h : m.Good) (p : _) : (Mod.endRx m p).Good := by
  unfold Mod.endRx
  try dsimp only
  repeat' first
    | with_reducible assumption
    | intro _
    | with_reducible apply Mod.setPort_good

theorem Mod.flushPort_good {m : Mod} (h : m.Good) (p : _) : (Mod.flushPort m p).Good := by
  unfold Mod.flushPort
  try dsimp only
  repeat' first
    | with_reducible assumption
    | intro _
    | with_reducible apply Mod.badEnd_good
    | with_reducible apply Mod.endRx_good
    | with_reducible apply Mod.each_good
    | with_reducible apply Mod.release_good
    | with_reducible apply Mod.emit_good
    | with_reducible apply Mod.bump_good
    | with_reducible apply Mod.setPort_good
    | with_reducible apply Mod.raise_good
    | with_reducible apply Mod.swSync_good
    | with_reducible apply good_ite
    | split

end Sys2Proof.Machine
end

