-- ==== Sys2Proof/Laws/GoodSwitch.lean ====
section
/-!
SUPPORT. The operations and commands of Machine/Switch.lean keep a module sound.
-/
set_option linter.unusedSimpArgs false

namespace Sys2Proof.Machine

theorem Mod.setDupTable_good {m : Mod} (h : m.Good) (i : _) (l : _) : (Mod.setDupTable m i l).Good := by
  unfold Mod.setDupTable
  try dsimp only
  repeat' first
    | with_reducible assumption
    | intro _
    | (simp only [↓good_mk]; with_reducible apply Mod.Good.all)

theorem Mod.meter_good {m : Mod} (h : m.Good) (f : _) (cls : _) : (Mod.meter m f cls).1.Good := by
  unfold Mod.meter
  try dsimp only
  repeat' first
    | with_reducible assumption
    | intro _
    | simp only [↓good_mk]
    | with_reducible apply Mod.setPort_good
    | with_reducible apply Mod.bump_good
    | with_reducible apply Mod.raise_good
    | with_reducible apply good_ite
    | split

theorem Mod.meter_good_eq {m m1 : Mod} {y1 : _} {f : _} {cls : _} (he : Mod.meter m f cls = (m1, y1)) (h : m.Good) : m1.Good := by
  have := Mod.meter_good h f cls
  rw [he] at this
  exact this

theorem Mod.offerSc0_good {m : Mod} (h : m.Good) (p : _) (cls : _) (f : _) : (Mod.offerSc0 m p cls f).Good := by
  unfold Mod.offerSc0
  try dsimp only
  repeat' first
    | with_reducible assumption
    | intro _
    | (simp only [↓good_mk]; with_reducible apply Mod.Good.all)
    | with_reducible apply good_ite

theorem Mod.sc0LoadCheck_good {m : Mod} (h : m.Good) : (Mod.sc0LoadCheck m).Good := by
  unfold Mod.sc0LoadCheck
  repeat' first
    | with_reducible assumption
    | intro _
    | extract_lets
    | (simp only [↓good_mk]; with_reducible apply Mod.Good.all)
    | (simp +zetaDelta only [good_mk]; with_reducible apply Mod.Good.all)
    | with_reducible apply Mod.portTotals_good
    | with_reducible apply Mod.set_good
    | with_reducible apply Mod.raiseTo_good
    | with_reducible apply Mod.bump_good
    | with_reducible apply Mod.raise_good
    | with_reducible apply Mod.each_good
    | with_reducible apply Mod.setPort_good
    | with_reducible apply good_ite

theorem Mod.mirrorOne_good {m : Mod} (h : m.Good) (s : _) (c : _) (saturated : _) : (Mod.mirrorOne m s c saturated).Good := by
  unfold Mod.mirrorOne
  try dsimp only
  repeat' first
    | with_reducible assumption
    | intro _
    | (simp only [↓good_mk]; with_reducible apply Mod.Good.all)
    | with_reducible apply Mod.set_good
    | with_reducible apply Mod.offer_good
    | with_reducible apply good_ite

theorem Mod.stampTx_good {m : Mod} (h : m.Good) (p : _) (f : _) (now : _) : (Mod.stampTx m p f now).Good := by
  unfold Mod.stampTx
  try dsimp only
  repeat' first
    | with_reducible assumption
    | intro _
    | with_reducible apply Mod.bump_good
    | with_reducible apply Mod.setPort_good
    | with_reducible apply Mod.setOct_good
    | with_reducible apply good_ite

theorem Mod.countCopy_good {m : Mod} (h : m.Good) (p : _) (c : _) (now : _) (cut : _) : (Mod.countCopy m p c now cut).Good := by
  unfold Mod.countCopy
  try dsimp only
  repeat' first
    | with_reducible assumption
    | intro _
    | (simp only [↓good_mk]; with_reducible apply Mod.Good.all)
    | with_reducible apply Mod.bump_good
    | with_reducible apply Mod.raiseTo_good
    | with_reducible apply good_ite
    | split

theorem Mod.sendCopy_good {m : Mod} (h : m.Good) (p : _) (c : _) (f : _) (now : _) : (Mod.sendCopy m p c f now).Good := by
  unfold Mod.sendCopy
  try dsimp only
  repeat' first
    | with_reducible assumption
    | intro _
    | with_reducible apply Mod.sendOn_good
    | with_reducible apply Mod.emit_good
    | with_reducible apply Mod.stampTx_good
    | with_reducible apply Mod.each_good
    | with_reducible apply Mod.mirrorOne_good
    | with_reducible apply good_ite

theorem Mod.startCopy_good {m : Mod} (h : m.Good) (p : _) (c : _) (now : _) (cut : _) : (Mod.startCopy m p c now cut).1.Good := by
  unfold Mod.startCopy
  repeat' first
    | with_reducible assumption
    | intro _
    | extract_lets
    | simp only [↓good_mk]
    | (simp +zetaDelta only [good_mk]; with_reducible apply Mod.Good.all)
    | with_reducible apply Mod.setPort_good
    | with_reducible apply Mod.release_good
    | with_reducible apply Mod.bump_good
    | with_reducible apply Mod.countCopy_good
    | with_reducible apply Mod.sendCopy_good
    | with_reducible apply good_ite
    | split

theorem Mod.startCopy_good_eq {m m1 : Mod} {y1 : _} {p : _} {c : _} {now : _} {cut : _} (he : Mod.startCopy m p c now cut = (m1, y1)) (h : m.Good) : m1.Good := by
  have := Mod.startCopy_good h p c now cut
  rw [he] at this
  exact this

theorem Mod.place_good {m : Mod} (h : m.Good) (saturated : _) (now : _) (e : _) : (Mod.place m saturated now e).Good := by
  unfold Mod.place
  try dsimp only
  repeat' first
    | with_reducible assumption
    | intro _
    | with_reducible apply Mod.offer_good
    | with_reducible apply Mod.setPort_good
    | with_reducible refine Mod.startCopy_good_eq (by assumption) ?_
    | with_reducible apply Mod.startCopy_good
    | with_reducible apply good_ite
    | split

theorem Mod.redundant_good {m : Mod} (h : m.Good) (c : _) (e : _) : (Mod.redundant m c e).1.Good := by
  unfold Mod.redundant
  try dsimp only
  repeat' first
    | with_reducible assumption
    | intro _
    | (simp only [↓good_mk]; with_reducible apply Mod.Good.all)
    | with_reducible apply Mod.set_good
    | with_reducible apply good_ite
    | split

theorem Mod.redundant_good_eq {m m1 : Mod} {y1 : _} {c : _} {e : _} (he : Mod.redundant m c e = (m1, y1)) (h : m.Good) : m1.Good := by
  have := Mod.redundant_good h c e
  rw [he] at this
  exact this

theorem Mod.expand_good {m : Mod} (h : m.Good) (c : _) (ports : _) : (Mod.expand m c ports).1.Good := by
  unfold Mod.expand
  try dsimp only
  repeat' first
    | with_reducible assumption
    | intro _
    | simp only [↓good_mk]
    | with_reducible refine Mod.redundant_good_eq (by assumption) ?_
    | with_reducible apply Mod.redundant_good
    | with_reducible apply foldl_good_fst
    | with_reducible apply good_ite
    | split

theorem Mod.expand_good_eq {m m1 : Mod} {y1 : _} {c : _} {ports : _} (he : Mod.expand m c ports = (m1, y1)) (h : m.Good) : m1.Good := by
  have := Mod.expand_good h c ports
  rw [he] at this
  exact this

theorem Mod.inject_good {m : Mod} (h : m.Good) (f : _) (pub : _) (now : _) (bound : _) : (Mod.inject m f pub now bound).Good := by
  unfold Mod.inject
  try dsimp only
  repeat' first
    | with_reducible assumption
    | intro _
    | (simp only [↓good_mk]; with_reducible apply Mod.Good.all)
    | with_reducible refine Mod.forwardDecision_good_eq (by assumption) ?_
    | with_reducible apply Mod.forwardDecision_good
    | with_reducible apply Mod.offerSc0_good
    | with_reducible refine Mod.expand_good_eq (by assumption) ?_
    | with_reducible apply Mod.expand_good
    | with_reducible apply Mod.each_good
    | with_reducible apply Mod.offer_good
    | with_reducible apply Mod.swSync_good

theorem Mod.classify_good {m : Mod} (h : m.Good) (f : _) (x : _) (whole : _) : (Mod.classify m f x whole).Good := by
  unfold Mod.classify
  try dsimp only
  repeat' first
    | with_reducible assumption
    | intro _
    | (simp only [↓good_mk]; with_reducible apply Mod.Good.all)
    | with_reducible apply Mod.setPort_good
    | with_reducible apply Mod.offerSc0_good
    | with_reducible apply Mod.each_good
    | with_reducible apply Mod.place_good
    | with_reducible apply Mod.swSync_good
    | with_reducible refine Mod.forwardDecision_good_eq (by assumption) ?_
    | with_reducible apply Mod.forwardDecision_good
    | with_reducible refine Mod.meter_good_eq (by assumption) ?_
    | with_reducible apply Mod.meter_good
    | with_reducible refine Mod.expand_good_eq (by assumption) ?_
    | with_reducible apply Mod.expand_good
    | with_reducible apply Mod.mirrorOne_good
    | with_reducible apply good_ite
    | split

theorem Mod.holdFilters_good {m : Mod} (h : m.Good) (p : _) : (Mod.holdFilters m p).Good := by
  unfold Mod.holdFilters
  try dsimp only
  repeat' first
    | with_reducible assumption
    | with_reducible apply Mod.setPort_good

theorem switchClassify_good {m : Mod} (h : m.Good) (f : _) : (switchClassify f m).Good := by
  unfold switchClassify
  try dsimp only
  repeat' first
    | with_reducible assumption
    | with_reducible apply Mod.holdFilters_good
    | with_reducible apply Mod.classify_good
    | with_reducible apply good_ite

theorem Mod.takeOff_good {m : Mod} (h : m.Good) (p : _) (c : _) (d : _) (t : _) : (Mod.takeOff m p c d t).Good := by
  unfold Mod.takeOff
  try dsimp only
  repeat' first
    | with_reducible assumption
    | intro _
    | with_reducible apply Mod.set_good
    | with_reducible apply Mod.setPort_good

theorem sendNext_good {m : Mod} (h : m.Good) (p : _) (now : _) (x2 : _) : (sendNext p now x2 m).Good := by
  induction x2 generalizing m  with
  | zero => exact h
  | succ z ih =>
    unfold sendNext
    repeat' first
      | with_reducible assumption
      | intro _
      | simp only [↓good_mk]
      | with_reducible apply ih
      | with_reducible apply Mod.takeOff_good
      | with_reducible refine Mod.startCopy_good_eq (by assumption) ?_
      | with_reducible apply Mod.startCopy_good
      | with_reducible apply good_ite
      | split

theorem Mod.eccError_good {m : Mod} (h : m.Good) (p : _) (now : _) (bank : _) (cell : _) (begun : _) : (Mod.eccError m p now bank cell begun).Good := by
  unfold Mod.eccError
  try dsimp only
  repeat' first
    | with_reducible assumption
    | intro _
    | (simp only [↓good_mk]; with_reducible apply Mod.Good.all)
    | with_reducible apply Mod.takeOff_good
    | with_reducible refine Mod.startCopy_good_eq (by assumption) ?_
    | with_reducible apply Mod.startCopy_good
    | with_reducible apply Mod.setPort_good
    | with_reducible apply Mod.release_good
    | with_reducible apply Mod.emit_good
    | with_reducible apply Mod.bump_good
    | with_reducible apply Mod.raise_good
    | with_reducible apply good_ite
    | split

theorem egressSchedule_good {m : Mod} (h : m.Good) (p : _) (now : _) (ecc : _) : (egressSchedule p now ecc m).Good := by
  unfold egressSchedule
  try dsimp only
  repeat' first
    | with_reducible assumption
    | intro _
    | with_reducible apply Mod.setPort_good
    | with_reducible apply Mod.release_good
    | with_reducible apply Mod.eccError_good
    | with_reducible apply sendNext_good
    | with_reducible apply Mod.swSync_good
    | with_reducible apply good_ite
    | split

theorem queuePromotion_good {m : Mod} (h : m.Good) (p : _) (c : _) (now : _) : (queuePromotion p c now m).Good := by
  unfold queuePromotion
  try dsimp only
  repeat' first
    | with_reducible assumption
    | intro _
    | with_reducible apply Mod.set_good
    | with_reducible apply Mod.setPort_good
    | with_reducible apply Mod.bump_good
    | with_reducible apply Mod.raiseTo_good
    | with_reducible apply Mod.swSync_good
    | with_reducible apply good_ite
    | split

end Sys2Proof.Machine
end

