-- ==== Sys2Proof/Laws/GoodCommitCore.lean ====
section
/-!
SUPPORT. The operations and commands of Machine/CommitCore.lean keep a module sound.
-/
set_option linter.unusedSimpArgs false

namespace Sys2Proof.Machine

theorem Mod.mapCommit_good {m : Mod} (h : m.Good) (id : _) (f : _) : (Mod.mapCommit m id f).Good := by
  unfold Mod.mapCommit
  try dsimp only
  repeat' first
    | with_reducible assumption
    | intro _
    | (simp only [↓good_mk]; with_reducible apply Mod.Good.all)
    | with_reducible apply Mod.set_good

theorem Mod.commitFrame_good {m : Mod} (h : m.Good) (op : _) (c : _) (code : _) (off : _) (frag : _) : (Mod.commitFrame m op c code off frag).Good := by
  unfold Mod.commitFrame
  try dsimp only
  repeat' first
    | with_reducible assumption
    | intro _
    | with_reducible apply Mod.each_good
    | with_reducible apply Mod.route_good

theorem Mod.sendCommit_good {m : Mod} (h : m.Good) (op : _) (c : _) (code : _) : (Mod.sendCommit m op c code).Good := by
  unfold Mod.sendCommit
  try dsimp only
  repeat' first
    | with_reducible assumption
    | intro _
    | with_reducible apply Mod.each_good
    | with_reducible apply Mod.commitFrame_good
    | with_reducible apply good_ite

theorem Mod.nextCommitId_good {m : Mod} (h : m.Good) : (Mod.nextCommitId m).2.Good := by
  unfold Mod.nextCommitId
  try dsimp only
  repeat' first
    | with_reducible assumption
    | intro _
    | (simp only [↓good_mk]; with_reducible apply Mod.Good.all)
    | with_reducible refine Mod.draw_good_eq (by assumption) ?_
    | with_reducible apply Mod.draw_good
    | with_reducible apply good_ite
    | split

theorem Mod.nextCommitId_good_eq {m m1 : Mod} {y1 : _} (he : Mod.nextCommitId m = (y1, m1)) (h : m.Good) : m1.Good := by
  have := Mod.nextCommitId_good h 
  rw [he] at this
  exact this

theorem Mod.takeUp_good {m : Mod} (h : m.Good) (c : _) : (Mod.takeUp m c).Good := by
  unfold Mod.takeUp
  try dsimp only
  repeat' first
    | with_reducible assumption
    | intro _
    | (simp only [↓good_mk]; with_reducible apply Mod.Good.all)
    | with_reducible apply Mod.set_good
    | with_reducible apply Mod.sendCommit_good
    | with_reducible apply good_ite

theorem Mod.proposeOwn_good {m : Mod} (h : m.Good) (target : _) (c : _) : (Mod.proposeOwn m target c).Good := by
  unfold Mod.proposeOwn
  try dsimp only
  repeat' first
    | with_reducible assumption
    | intro _
    | with_reducible refine Mod.nextCommitId_good_eq (by assumption) ?_
    | with_reducible apply Mod.nextCommitId_good
    | with_reducible apply Mod.takeUp_good
    | with_reducible apply good_ite

end Sys2Proof.Machine
end

