-- ==== Sys2Proof/Laws/GoodHart.lean ====
section
/-!
SUPPORT. The operations and commands of Machine/Hart.lean keep a module sound.
-/
set_option linter.unusedSimpArgs false

namespace Sys2Proof.Machine

theorem Mod.setHart_good {m : Mod} (h : m.Good) (j : _) (h_ : _) : (Mod.setHart m j h_).Good := by
  unfold Mod.setHart
  try dsimp only
  repeat' first
    | with_reducible assumption
    | intro _
    | (simp only [↓good_mk]; with_reducible apply Mod.Good.all)

theorem Mod.trap_good {m : Mod} (h : m.Good) (j : _) (cause : _) (value : _) (toHS : _) : (Mod.trap m j cause value toHS).Good := by
  unfold Mod.trap
  try dsimp only
  repeat' first
    | with_reducible assumption
    | intro _
    | with_reducible apply Mod.setHart_good

theorem Mod.loseReservations_good {m : Mod} (h : m.Good) (j : _) (a : _) (n : _) : (Mod.loseReservations m j a n).Good := by
  unfold Mod.loseReservations
  try dsimp only
  repeat' first
    | with_reducible assumption
    | intro _
    | with_reducible apply Mod.each_good
    | with_reducible apply Mod.setHart_good

theorem Mod.dropLines_good {m : Mod} (h : m.Good) (j : _) (ls : _) : (Mod.dropLines m j ls).Good := by
  unfold Mod.dropLines
  try dsimp only
  repeat' first
    | with_reducible assumption
    | (simp only [↓good_mk]; with_reducible apply Mod.Good.all)

theorem Mod.cleanLines_good {m : Mod} (h : m.Good) (j : _) (ls : _) : (Mod.cleanLines m j ls).Good := by
  unfold Mod.cleanLines
  try dsimp only
  repeat' first
    | with_reducible assumption
    | (simp only [↓good_mk]; with_reducible apply Mod.Good.all)

theorem Mod.fillLines_good {m : Mod} (h : m.Good) (j : _) (a : _) (n : _) (fetch : _) (dirty : _) : (Mod.fillLines m j a n fetch dirty).Good := by
  unfold Mod.fillLines
  try dsimp only
  repeat' first
    | with_reducible assumption
    | (simp only [↓good_mk]; with_reducible apply Mod.Good.all)
    | with_reducible apply Mod.dropLines_good
    | with_reducible apply Mod.cleanLines_good
    | with_reducible apply Mod.draw_good
    | with_reducible apply Mod.setHart_good
    | with_reducible apply good_ite

theorem Mod.isolate_good {m : Mod} (h : m.Good) (j : _) : (Mod.isolate m j).Good := by
  unfold Mod.isolate
  try dsimp only
  repeat' first
    | with_reducible assumption
    | with_reducible apply Mod.setHart_good

theorem Mod.masterWrote_good {m : Mod} (h : m.Good) (a : _) (n : _) : (Mod.masterWrote m a n).Good := by
  unfold Mod.masterWrote
  try dsimp only
  repeat' first
    | with_reducible assumption
    | with_reducible apply Mod.dropLines_good
    | with_reducible apply Mod.loseReservations_good

theorem Mod.retireFetch_good {m : Mod} (h : m.Good) (j : _) : (Mod.retireFetch m j).Good := by
  unfold Mod.retireFetch
  try dsimp only
  repeat' first
    | with_reducible assumption
    | with_reducible apply Mod.draw_good
    | with_reducible apply Mod.setHart_good

end Sys2Proof.Machine
end

