-- ==== Sys2Proof/Laws/GoodLogic.lean ====
section
/-!
SUPPORT. The operations and commands of Machine/Logic.lean keep a module sound.
-/
set_option linter.unusedSimpArgs false

namespace Sys2Proof.Machine

theorem Mod.setEngine_good {m : Mod} (h : m.Good) (g : _) (e : _) : (Mod.setEngine m g e).Good := by
  unfold Mod.setEngine
  try dsimp only
  repeat' first
    | with_reducible assumption
    | intro _
    | (simp only [↓good_mk]; with_reducible apply Mod.Good.all)

theorem Mod.setRun_good {m : Mod} (h : m.Good) (g : _) (p : _) : (Mod.setRun m g p).Good := by
  unfold Mod.setRun
  try dsimp only
  repeat' first
    | with_reducible assumption
    | intro _
    | with_reducible apply Mod.setEngine_good

theorem Mod.setEngState_good {m : Mod} (h : m.Good) (g : _) (st : _) : (Mod.setEngState m g st).Good := by
  unfold Mod.setEngState
  try dsimp only
  repeat' first
    | with_reducible assumption
    | intro _
    | with_reducible apply Mod.set_good
    | with_reducible apply Mod.setBitAt_good

theorem Mod.setWordReg_good {m : Mod} (h : m.Good) (g : _) (r : _) (v : _) : (Mod.setWordReg m g r v).Good := by
  unfold Mod.setWordReg
  try dsimp only
  repeat' first
    | with_reducible assumption
    | intro _
    | with_reducible apply Mod.setEngine_good
    | with_reducible apply Mod.set_good
    | with_reducible apply good_ite

theorem Mod.endPass_good {m : Mod} (h : m.Good) (g : _) (p : _) : (Mod.endPass m g p).Good := by
  unfold Mod.endPass
  try dsimp only
  repeat' first
    | with_reducible assumption
    | intro _
    | with_reducible apply Mod.setBits_good
    | with_reducible apply Mod.raiseTo_good
    | with_reducible apply Mod.setRun_good

theorem Mod.instr_good {m : Mod} (h : m.Good) (g : _) (op : _) (arg : _) (f : _) (hf : ∀ x0 m, m.Good → (f x0 m).Good) : (Mod.instr m g op arg f).Good := by
  unfold Mod.instr
  try dsimp only
  repeat' first
    | with_reducible assumption
    | intro _
    | with_reducible apply hf
    | with_reducible apply good_ite

theorem Mod.runTimer_good {m : Mod} (h : m.Good) (g : _) (t : _) (p : _) (x : _) : (Mod.runTimer m g t p x).Good := by
  unfold Mod.runTimer
  try dsimp only
  repeat' first
    | with_reducible assumption
    | intro _
    | with_reducible apply Mod.setEngine_good

theorem Mod.runCounter_good {m : Mod} (h : m.Good) (g : _) (c : _) (p : _) (x : _) (q : _) : (Mod.runCounter m g c p x q).Good := by
  unfold Mod.runCounter
  try dsimp only
  repeat' first
    | with_reducible assumption
    | intro _
    | with_reducible apply Mod.setEngine_good

theorem lgLd_good {m : Mod} (h : m.Good) (g : _) (a : _) : (lgLd g a m).Good := by
  unfold lgLd
  try dsimp only
  repeat' first
    | with_reducible assumption
    | intro _
    | with_reducible apply Mod.instr_good
    | with_reducible apply Mod.setRun_good

theorem lgLdn_good {m : Mod} (h : m.Good) (g : _) (a : _) : (lgLdn g a m).Good := by
  unfold lgLdn
  try dsimp only
  repeat' first
    | with_reducible assumption
    | intro _
    | with_reducible apply Mod.instr_good
    | with_reducible apply Mod.setRun_good

theorem lgAnd_good {m : Mod} (h : m.Good) (g : _) (a : _) : (lgAnd g a m).Good := by
  unfold lgAnd
  try dsimp only
  repeat' first
    | with_reducible assumption
    | intro _
    | with_reducible apply Mod.instr_good
    | with_reducible apply Mod.setRun_good

theorem lgAndn_good {m : Mod} (h : m.Good) (g : _) (a : _) : (lgAndn g a m).Good := by
  unfold lgAndn
  try dsimp only
  repeat' first
    | with_reducible assumption
    | intro _
    | with_reducible apply Mod.instr_good
    | with_reducible apply Mod.setRun_good

theorem lgOr_good {m : Mod} (h : m.Good) (g : _) (a : _) : (lgOr g a m).Good := by
  unfold lgOr
  try dsimp only
  repeat' first
    | with_reducible assumption
    | intro _
    | with_reducible apply Mod.instr_good
    | with_reducible apply Mod.setRun_good

theorem lgOrn_good {m : Mod} (h : m.Good) (g : _) (a : _) : (lgOrn g a m).Good := by
  unfold lgOrn
  try dsimp only
  repeat' first
    | with_reducible assumption
    | intro _
    | with_reducible apply Mod.instr_good
    | with_reducible apply Mod.setRun_good

theorem lgXor_good {m : Mod} (h : m.Good) (g : _) (a : _) : (lgXor g a m).Good := by
  unfold lgXor
  try dsimp only
  repeat' first
    | with_reducible assumption
    | intro _
    | with_reducible apply Mod.instr_good
    | with_reducible apply Mod.setRun_good

theorem lgXorn_good {m : Mod} (h : m.Good) (g : _) (a : _) : (lgXorn g a m).Good := by
  unfold lgXorn
  try dsimp only
  repeat' first
    | with_reducible assumption
    | intro _
    | with_reducible apply Mod.instr_good
    | with_reducible apply Mod.setRun_good

theorem lgSt_good {m : Mod} (h : m.Good) (g : _) (a : _) : (lgSt g a m).Good := by
  unfold lgSt
  try dsimp only
  repeat' first
    | with_reducible assumption
    | intro _
    | with_reducible apply Mod.instr_good
    | with_reducible apply Mod.setRun_good

theorem lgStn_good {m : Mod} (h : m.Good) (g : _) (a : _) : (lgStn g a m).Good := by
  unfold lgStn
  try dsimp only
  repeat' first
    | with_reducible assumption
    | intro _
    | with_reducible apply Mod.instr_good
    | with_reducible apply Mod.setRun_good

theorem lgSet_good {m : Mod} (h : m.Good) (g : _) (a : _) : (lgSet g a m).Good := by
  unfold lgSet
  try dsimp only
  repeat' first
    | with_reducible assumption
    | intro _
    | with_reducible apply Mod.instr_good
    | with_reducible apply Mod.setRun_good

theorem lgRst_good {m : Mod} (h : m.Good) (g : _) (a : _) : (lgRst g a m).Good := by
  unfold lgRst
  try dsimp only
  repeat' first
    | with_reducible assumption
    | intro _
    | with_reducible apply Mod.instr_good
    | with_reducible apply Mod.setRun_good

theorem lgJmp_good {m : Mod} (h : m.Good) (g : _) (i : _) : (lgJmp g i m).Good := by
  unfold lgJmp
  try dsimp only
  repeat' first
    | with_reducible assumption
    | intro _
    | with_reducible apply Mod.instr_good
    | with_reducible apply Mod.setRun_good

theorem lgJmpc_good {m : Mod} (h : m.Good) (g : _) (i : _) : (lgJmpc g i m).Good := by
  unfold lgJmpc
  try dsimp only
  repeat' first
    | with_reducible assumption
    | intro _
    | with_reducible apply Mod.instr_good
    | with_reducible apply Mod.setRun_good

theorem lgJmpn_good {m : Mod} (h : m.Good) (g : _) (i : _) : (lgJmpn g i m).Good := by
  unfold lgJmpn
  try dsimp only
  repeat' first
    | with_reducible assumption
    | intro _
    | with_reducible apply Mod.instr_good
    | with_reducible apply Mod.setRun_good

theorem lgAndb_good {m : Mod} (h : m.Good) (g : _) : (lgAndb g m).Good := by
  unfold lgAndb
  try dsimp only
  repeat' first
    | with_reducible assumption
    | intro _
    | with_reducible apply Mod.instr_good
    | with_reducible apply Mod.setRun_good

theorem lgOrb_good {m : Mod} (h : m.Good) (g : _) : (lgOrb g m).Good := by
  unfold lgOrb
  try dsimp only
  repeat' first
    | with_reducible assumption
    | intro _
    | with_reducible apply Mod.instr_good
    | with_reducible apply Mod.setRun_good

theorem lgBcl_good {m : Mod} (h : m.Good) (g : _) : (lgBcl g m).Good := by
  unfold lgBcl
  try dsimp only
  repeat' first
    | with_reducible assumption
    | intro _
    | with_reducible apply Mod.instr_good
    | with_reducible apply Mod.setRun_good

theorem lgNot_good {m : Mod} (h : m.Good) (g : _) : (lgNot g m).Good := by
  unfold lgNot
  try dsimp only
  repeat' first
    | with_reducible assumption
    | intro _
    | with_reducible apply Mod.instr_good
    | with_reducible apply Mod.setRun_good

theorem lgCall_good {m : Mod} (h : m.Good) (g : _) (sect : _) : (lgCall g sect m).Good := by
  unfold lgCall
  try dsimp only
  repeat' first
    | with_reducible assumption
    | intro _
    | with_reducible apply Mod.instr_good
    | with_reducible apply Mod.setRun_good

theorem lgRet_good {m : Mod} (h : m.Good) (g : _) : (lgRet g m).Good := by
  unfold lgRet
  try dsimp only
  repeat' first
    | with_reducible assumption
    | intro _
    | with_reducible apply Mod.instr_good
    | with_reducible apply Mod.setRun_good
    | with_reducible apply Mod.endPass_good
    | with_reducible apply good_ite
    | split

theorem lgRedge_good {m : Mod} (h : m.Good) (g : _) (a : _) : (lgRedge g a m).Good := by
  unfold lgRedge
  try dsimp only
  repeat' first
    | with_reducible assumption
    | intro _
    | with_reducible apply Mod.instr_good
    | with_reducible apply Mod.setRun_good

theorem lgFedge_good {m : Mod} (h : m.Good) (g : _) (a : _) : (lgFedge g a m).Good := by
  unfold lgFedge
  try dsimp only
  repeat' first
    | with_reducible assumption
    | intro _
    | with_reducible apply Mod.instr_good
    | with_reducible apply Mod.setRun_good

theorem lgTon_good {m : Mod} (h : m.Good) (g : _) (t : _) : (lgTon g t m).Good := by
  unfold lgTon
  try dsimp only
  repeat' first
    | with_reducible assumption
    | intro _
    | with_reducible apply Mod.instr_good
    | with_reducible apply Mod.runTimer_good

theorem lgTof_good {m : Mod} (h : m.Good) (g : _) (t : _) : (lgTof g t m).Good := by
  unfold lgTof
  try dsimp only
  repeat' first
    | with_reducible assumption
    | intro _
    | with_reducible apply Mod.instr_good
    | with_reducible apply Mod.runTimer_good

theorem lgTp_good {m : Mod} (h : m.Good) (g : _) (t : _) : (lgTp g t m).Good := by
  unfold lgTp
  try dsimp only
  repeat' first
    | with_reducible assumption
    | intro _
    | with_reducible apply Mod.instr_good
    | with_reducible apply Mod.runTimer_good

theorem lgLdtq_good {m : Mod} (h : m.Good) (g : _) (t : _) : (lgLdtq g t m).Good := by
  unfold lgLdtq
  try dsimp only
  repeat' first
    | with_reducible assumption
    | intro _
    | with_reducible apply Mod.instr_good
    | with_reducible apply Mod.setRun_good

theorem lgCtu_good {m : Mod} (h : m.Good) (g : _) (c : _) : (lgCtu g c m).Good := by
  unfold lgCtu
  try dsimp only
  repeat' first
    | with_reducible assumption
    | intro _
    | with_reducible apply Mod.instr_good
    | with_reducible apply Mod.runCounter_good

theorem lgCtd_good {m : Mod} (h : m.Good) (g : _) (c : _) : (lgCtd g c m).Good := by
  unfold lgCtd
  try dsimp only
  repeat' first
    | with_reducible assumption
    | intro _
    | with_reducible apply Mod.instr_good
    | with_reducible apply Mod.runCounter_good

theorem lgCrst_good {m : Mod} (h : m.Good) (g : _) (c : _) : (lgCrst g c m).Good := by
  unfold lgCrst
  try dsimp only
  repeat' first
    | with_reducible assumption
    | intro _
    | with_reducible apply Mod.instr_good
    | with_reducible apply Mod.runCounter_good

theorem lgLdcq_good {m : Mod} (h : m.Good) (g : _) (c : _) : (lgLdcq g c m).Good := by
  unfold lgLdcq
  try dsimp only
  repeat' first
    | with_reducible assumption
    | intro _
    | with_reducible apply Mod.instr_good
    | with_reducible apply Mod.setRun_good

theorem lgLdw_good {m : Mod} (h : m.Good) (g : _) (r : _) : (lgLdw g r m).Good := by
  unfold lgLdw
  try dsimp only
  repeat' first
    | with_reducible assumption
    | intro _
    | with_reducible apply Mod.instr_good
    | with_reducible apply Mod.setRun_good

theorem lgLdk_good {m : Mod} (h : m.Good) (g : _) (c : _) : (lgLdk g c m).Good := by
  unfold lgLdk
  try dsimp only
  repeat' first
    | with_reducible assumption
    | intro _
    | with_reducible apply Mod.instr_good
    | with_reducible apply Mod.setRun_good

theorem lgLdi_good {m : Mod} (h : m.Good) (g : _) (i : _) : (lgLdi g i m).Good := by
  unfold lgLdi
  try dsimp only
  repeat' first
    | with_reducible assumption
    | intro _
    | with_reducible apply Mod.instr_good
    | with_reducible apply Mod.setRun_good

theorem lgStw_good {m : Mod} (h : m.Good) (g : _) (r : _) : (lgStw g r m).Good := by
  unfold lgStw
  try dsimp only
  repeat' first
    | with_reducible assumption
    | intro _
    | with_reducible apply Mod.instr_good
    | with_reducible apply Mod.setWordReg_good
    | with_reducible apply Mod.setRun_good

theorem lgMov_good {m : Mod} (h : m.Good) (g : _) (src : _) (dst : _) : (lgMov g src dst m).Good := by
  unfold lgMov
  try dsimp only
  repeat' first
    | with_reducible assumption
    | intro _
    | with_reducible apply Mod.instr_good
    | with_reducible apply Mod.setWordReg_good
    | with_reducible apply Mod.setRun_good

theorem lgLdtv_good {m : Mod} (h : m.Good) (g : _) (t : _) : (lgLdtv g t m).Good := by
  unfold lgLdtv
  try dsimp only
  repeat' first
    | with_reducible assumption
    | intro _
    | with_reducible apply Mod.instr_good
    | with_reducible apply Mod.setRun_good

theorem lgLdcv_good {m : Mod} (h : m.Good) (g : _) (c : _) : (lgLdcv g c m).Good := by
  unfold lgLdcv
  try dsimp only
  repeat' first
    | with_reducible assumption
    | intro _
    | with_reducible apply Mod.instr_good
    | with_reducible apply Mod.setRun_good

theorem lgCeq_good {m : Mod} (h : m.Good) (g : _) (r : _) : (lgCeq g r m).Good := by
  unfold lgCeq
  try dsimp only
  repeat' first
    | with_reducible assumption
    | intro _
    | with_reducible apply Mod.instr_good
    | with_reducible apply Mod.setRun_good

theorem lgCne_good {m : Mod} (h : m.Good) (g : _) (r : _) : (lgCne g r m).Good := by
  unfold lgCne
  try dsimp only
  repeat' first
    | with_reducible assumption
    | intro _
    | with_reducible apply Mod.instr_good
    | with_reducible apply Mod.setRun_good

theorem lgCgt_good {m : Mod} (h : m.Good) (g : _) (r : _) : (lgCgt g r m).Good := by
  unfold lgCgt
  try dsimp only
  repeat' first
    | with_reducible assumption
    | intro _
    | with_reducible apply Mod.instr_good
    | with_reducible apply Mod.setRun_good

theorem lgCge_good {m : Mod} (h : m.Good) (g : _) (r : _) : (lgCge g r m).Good := by
  unfold lgCge
  try dsimp only
  repeat' first
    | with_reducible assumption
    | intro _
    | with_reducible apply Mod.instr_good
    | with_reducible apply Mod.setRun_good

theorem lgClt_good {m : Mod} (h : m.Good) (g : _) (r : _) : (lgClt g r m).Good := by
  unfold lgClt
  try dsimp only
  repeat' first
    | with_reducible assumption
    | intro _
    | with_reducible apply Mod.instr_good
    | with_reducible apply Mod.setRun_good

theorem lgCle_good {m : Mod} (h : m.Good) (g : _) (r : _) : (lgCle g r m).Good := by
  unfold lgCle
  try dsimp only
  repeat' first
    | with_reducible assumption
    | intro _
    | with_reducible apply Mod.instr_good
    | with_reducible apply Mod.setRun_good

theorem lgEnd_good {m : Mod} (h : m.Good) (g : _) : (lgEnd g m).Good := by
  unfold lgEnd
  try dsimp only
  repeat' first
    | with_reducible assumption
    | intro _
    | with_reducible apply Mod.instr_good
    | with_reducible apply Mod.endPass_good

theorem Mod.safeBits_good {m : Mod} (h : m.Good) (g : _) (markers : _) : (Mod.safeBits m g markers).Good := by
  unfold Mod.safeBits
  try dsimp only
  repeat' first
    | with_reducible assumption
    | intro _
    | with_reducible apply Mod.setBits_good

theorem Mod.clearMarkers_good {m : Mod} (h : m.Good) (g : _) : (Mod.clearMarkers m g).Good := by
  unfold Mod.clearMarkers
  try dsimp only
  repeat' first
    | with_reducible assumption
    | intro _
    | (simp only [↓good_mk]; with_reducible apply Mod.Good.all)

theorem beginPass_good {m : Mod} (h : m.Good) (pass : _) (g : _) : (beginPass pass g m).Good := by
  unfold beginPass
  try dsimp only
  repeat' first
    | with_reducible assumption
    | intro _
    | with_reducible apply Mod.setEngine_good
    | with_reducible apply Mod.bump_good
    | with_reducible apply good_ite

theorem noteIdle_good {m : Mod} (h : m.Good) (g : _) : (noteIdle g m).Good := by
  unfold noteIdle
  try dsimp only
  repeat' first
    | with_reducible assumption
    | intro _
    | with_reducible apply Mod.setEngine_good
    | with_reducible apply Mod.raise_good
    | with_reducible apply good_ite

theorem l1Engine_good {m : Mod} (h : m.Good) (g : _) : (l1Engine g m).Good := by
  unfold l1Engine
  try dsimp only
  repeat' first
    | with_reducible assumption
    | intro _
    | with_reducible apply Mod.safeBits_good
    | with_reducible apply Mod.setEngine_good
    | with_reducible apply noteIdle_good
    | with_reducible apply good_ite

theorem Mod.tripPass_good {m : Mod} (h : m.Good) (g : _) : (Mod.tripPass m g).Good := by
  unfold Mod.tripPass
  try dsimp only
  repeat' first
    | with_reducible assumption
    | with_reducible apply Mod.clearMarkers_good
    | with_reducible apply Mod.safeBits_good
    | with_reducible apply Mod.setRun_good
    | with_reducible apply Mod.set_good
    | with_reducible apply Mod.raiseTo_good
    | with_reducible apply Mod.setEngState_good
    | with_reducible apply Mod.raise_good

theorem Mod.endPasses_good {m : Mod} (h : m.Good) : (Mod.endPasses m).Good := by
  unfold Mod.endPasses
  try dsimp only
  repeat' first
    | with_reducible assumption
    | intro _
    | with_reducible apply Mod.each_good
    | with_reducible apply Mod.tripPass_good
    | with_reducible apply good_ite

theorem logicPassL1_good {m : Mod} (h : m.Good) : (logicPassL1 m).Good := by
  unfold logicPassL1
  try dsimp only
  repeat' first
    | with_reducible assumption
    | intro _
    | (simp only [↓good_mk]; with_reducible apply Mod.Good.all)
    | with_reducible apply Mod.each_good
    | with_reducible apply l1Engine_good
    | with_reducible apply beginPass_good
    | with_reducible apply good_ite

theorem logicPassL2_good {m : Mod} (h : m.Good) : (logicPassL2 m).Good := by
  unfold logicPassL2
  try dsimp only
  repeat' first
    | with_reducible assumption
    | intro _
    | (simp only [↓good_mk]; with_reducible apply Mod.Good.all)
    | with_reducible apply Mod.each_good
    | with_reducible apply Mod.setRun_good
    | with_reducible apply beginPass_good
    | with_reducible apply good_ite

theorem passOverrun_good {m : Mod} (h : m.Good) (g : _) : (passOverrun g m).Good := by
  unfold passOverrun
  try dsimp only
  repeat' first
    | with_reducible assumption
    | with_reducible apply Mod.tripPass_good
    | with_reducible apply good_ite

theorem Mod.coldStart_good {m : Mod} (h : m.Good) (g : _) : (Mod.coldStart m g).Good := by
  unfold Mod.coldStart
  try dsimp only
  repeat' first
    | with_reducible assumption
    | intro _
    | with_reducible apply Mod.setEngine_good
    | with_reducible apply Mod.clearMarkers_good
    | with_reducible apply Mod.setBits_good

theorem startEngine_good {m : Mod} (h : m.Good) (g : _) : (startEngine g m).Good := by
  unfold startEngine
  try dsimp only
  repeat' first
    | with_reducible assumption
    | intro _
    | with_reducible apply Mod.raise_good
    | with_reducible apply Mod.coldStart_good
    | with_reducible apply Mod.setEngState_good
    | with_reducible apply Mod.setEngine_good
    | with_reducible apply good_ite

theorem stopEngine_good {m : Mod} (h : m.Good) (g : _) : (stopEngine g m).Good := by
  unfold stopEngine
  try dsimp only
  repeat' first
    | with_reducible assumption
    | intro _
    | with_reducible apply Mod.setEngState_good
    | with_reducible apply Mod.setEngine_good
    | with_reducible apply Mod.raise_good
    | with_reducible apply good_ite

theorem engineAutostart_good {m : Mod} (h : m.Good) (g : _) : (engineAutostart g m).Good := by
  unfold engineAutostart
  try dsimp only
  repeat' first
    | with_reducible assumption
    | intro _
    | with_reducible apply startEngine_good
    | with_reducible apply good_ite

theorem putLogicImage_good {m : Mod} (h : m.Good) (g : _) (image : _) (viaPort : _) : (putLogicImage g image viaPort m).Good := by
  unfold putLogicImage
  try dsimp only
  repeat' first
    | with_reducible assumption
    | intro _
    | with_reducible apply Mod.setBits_good
    | with_reducible apply Mod.safeBits_good
    | with_reducible apply Mod.setEngine_good
    | with_reducible apply Mod.set_good
    | with_reducible apply Mod.setEngState_good
    | with_reducible apply good_ite

theorem Mod.rws_good {m : Mod} (h : m.Good) (p : _) (obj : _) (sel : _) (v : _) (ok : _) (act : _) (hact : ∀ m, m.Good → (act m).Good) : (Mod.rws m p obj sel v ok act).Good := by
  unfold Mod.rws
  try dsimp only
  repeat' first
    | with_reducible assumption
    | intro _
    | with_reducible apply hact
    | with_reducible refine Mod.stageAll_good_eq (by assumption) ?_
    | with_reducible apply Mod.stageAll_good
    | with_reducible apply Mod.report_good
    | with_reducible apply good_ite

theorem logicImageWrite_good {m : Mod} (h : m.Good) (p : _) (g : _) (image : _) : (logicImageWrite p g image m).Good := by
  unfold logicImageWrite
  try dsimp only
  repeat' first
    | with_reducible assumption
    | intro _
    | with_reducible apply Mod.report_good
    | with_reducible apply Mod.rws_good
    | with_reducible apply putLogicImage_good
    | with_reducible apply good_ite

theorem logicCheckWrite_good {m : Mod} (h : m.Good) (p : _) (g : _) (v : _) : (logicCheckWrite p g v m).Good := by
  unfold logicCheckWrite
  try dsimp only
  repeat' first
    | with_reducible assumption
    | intro _
    | with_reducible apply Mod.report_good
    | with_reducible apply Mod.setEngine_good
    | with_reducible apply good_ite

theorem loadEngine_good {m : Mod} (h : m.Good) (g : _) : (loadEngine g m).Good := by
  unfold loadEngine
  try dsimp only
  repeat' first
    | with_reducible assumption
    | intro _
    | with_reducible apply Mod.setBits_good
    | with_reducible apply Mod.setEngine_good
    | with_reducible apply Mod.safeBits_good
    | with_reducible apply Mod.setEngState_good

theorem logicCheckDone_good {m : Mod} (h : m.Good) (g : _) : (logicCheckDone g m).Good := by
  unfold logicCheckDone
  try dsimp only
  repeat' first
    | with_reducible assumption
    | intro _
    | with_reducible apply Mod.setEngine_good
    | with_reducible apply Mod.set_good
    | with_reducible apply loadEngine_good
    | with_reducible apply Mod.raise_good
    | with_reducible apply good_ite

theorem logicStore_good {m : Mod} (h : m.Good) (p : _) (g : _) (v : _) : (logicStore p g v m).Good := by
  unfold logicStore
  try dsimp only
  repeat' first
    | with_reducible assumption
    | intro _
    | (simp only [↓good_mk]; with_reducible apply Mod.Good.all)
    | with_reducible apply Mod.report_good
    | with_reducible apply good_ite

end Sys2Proof.Machine
end

