-- ==== Sys2Proof/Laws/GoodTenant.lean ====
section
/-!
SUPPORT. The operations and commands of Machine/Tenant.lean keep a module sound.
-/
set_option linter.unusedSimpArgs false

namespace Sys2Proof.Machine

theorem Mod.setTenant_good {m : Mod} (h : m.Good) (t : _) (x : _) : (Mod.setTenant m t x).Good := by
  unfold Mod.setTenant
  try dsimp only
  repeat' first
    | with_reducible assumption
    | intro _
    | (simp only [↓good_mk]; with_reducible apply Mod.Good.all)

theorem Mod.setPub_good {m : Mod} (h : m.Good) (i : _) (x : _) : (Mod.setPub m i x).Good := by
  unfold Mod.setPub
  try dsimp only
  repeat' first
    | with_reducible assumption
    | intro _
    | (simp only [↓good_mk]; with_reducible apply Mod.Good.all)

theorem Mod.setSc0_good {m : Mod} (h : m.Good) (b : _) (x : _) : (Mod.setSc0 m b x).Good := by
  unfold Mod.setSc0
  try dsimp only
  repeat' first
    | with_reducible assumption
    | intro _
    | (simp only [↓good_mk]; with_reducible apply Mod.Good.all)

theorem Mod.poke_good {m : Mod} (h : m.Good) (a : Nat) (bs : List Byte) : (m.poke a bs).Good := ⟨h.dict, Memory.wf_writeN _ _ h.mem, h.held⟩

theorem Mod.wipe_good {m : Mod} (h : m.Good) (a n : Nat) : (m.wipe a n).Good := ⟨h.dict, Memory.wf_filter _ h.mem, h.held⟩

theorem Mod.identity_good {m : Mod} (h : m.Good) (t : _) (i : _) : (Mod.identity m t i).Good := by
  unfold Mod.identity
  try dsimp only
  repeat' first
    | with_reducible assumption
    | intro _
    | with_reducible apply Mod.setTenant_good
    | with_reducible apply Mod.each_good
    | with_reducible apply Mod.setHart_good
    | with_reducible apply good_ite
    | split

theorem Mod.supIdentity_good {m : Mod} (h : m.Good) (t : _) (i : _) : (Mod.supIdentity m t i).Good := by
  unfold Mod.supIdentity
  try dsimp only
  repeat' first
    | with_reducible assumption
    | intro _
    | with_reducible apply Mod.setHart_good

theorem Mod.startT_good {m : Mod} (h : m.Good) : (Mod.startT m).Good := by
  unfold Mod.startT
  try dsimp only
  repeat' first
    | with_reducible assumption
    | (simp only [↓good_mk]; with_reducible apply Mod.Good.all)
    | with_reducible apply Mod.endPasses_good
    | with_reducible apply good_ite

theorem windowEntry_good {m : Mod} (h : m.Good) (w : _) (late : _) : (windowEntry w late m).Good := by
  unfold windowEntry
  try dsimp only
  repeat' first
    | with_reducible assumption
    | with_reducible apply Mod.startT_good
    | with_reducible apply Mod.poke_good
    | with_reducible apply Mod.setTenant_good
    | with_reducible apply Mod.draw_good
    | with_reducible apply Mod.setHart_good
    | with_reducible apply Mod.set_good
    | with_reducible apply Mod.bump_good
    | with_reducible apply good_ite

theorem windowExit_good {m : Mod} (h : m.Good) (w : _) : (windowExit w m).Good := by
  unfold windowExit
  try dsimp only
  repeat' first
    | with_reducible assumption
    | with_reducible apply Mod.poke_good
    | with_reducible apply Mod.isolate_good
    | with_reducible apply Mod.setHart_good
    | with_reducible apply Mod.set_good
    | with_reducible apply good_ite

theorem phaseTEnd_good {m : Mod} (h : m.Good) : (phaseTEnd m).Good := by
  unfold phaseTEnd
  try dsimp only
  repeat' first
    | with_reducible assumption
    | intro _
    | (simp only [↓good_mk]; with_reducible apply Mod.Good.all)
    | with_reducible apply Mod.startT_good
    | with_reducible apply Mod.each_good
    | with_reducible apply Mod.setBits_good
    | with_reducible apply good_ite

theorem Mod.violation_good {m : Mod} (h : m.Good) (t : _) (check : _) (slot : _) : (Mod.violation m t check slot).Good := by
  unfold Mod.violation
  try dsimp only
  repeat' first
    | with_reducible assumption
    | intro _
    | with_reducible apply Mod.bump_good
    | with_reducible apply Mod.raise_good
    | with_reducible apply Mod.proposeOwn_good
    | with_reducible apply good_ite

theorem violClear_good {m : Mod} (h : m.Good) (p : _) (t : _) (v : _) : (violClear p t v m).Good := by
  unfold violClear
  try dsimp only
  repeat' first
    | with_reducible assumption
    | intro _
    | with_reducible apply Mod.report_good
    | with_reducible apply Mod.set_good
    | with_reducible apply good_ite

theorem pubCommit_good {m : Mod} (h : m.Good) (t : _) (u : _) (data : _) : (pubCommit t u data m).Good := by
  unfold pubCommit
  try dsimp only
  repeat' first
    | with_reducible assumption
    | intro _
    | with_reducible apply Mod.bump_good
    | with_reducible apply Mod.setPub_good
    | with_reducible apply Mod.violation_good
    | with_reducible apply good_ite

theorem pubCopyDone_good {m : Mod} (h : m.Good) (t : _) (u : _) : (pubCopyDone t u m).Good := by
  unfold pubCopyDone
  try dsimp only
  repeat' first
    | with_reducible assumption
    | intro _
    | with_reducible apply Mod.setPub_good
    | with_reducible apply Mod.bump_good
    | with_reducible apply Mod.violation_good
    | with_reducible apply good_ite

theorem sc0Commit_good {m : Mod} (h : m.Good) (b : _) (data : _) : (sc0Commit b data m).Good := by
  unfold sc0Commit
  try dsimp only
  repeat' first
    | with_reducible assumption
    | intro _
    | with_reducible apply Mod.setSc0_good
    | with_reducible apply Mod.bump_good
    | with_reducible apply good_ite

theorem sc0CopyDone_good {m : Mod} (h : m.Good) (b : _) : (sc0CopyDone b m).Good := by
  unfold sc0CopyDone
  try dsimp only
  repeat' first
    | with_reducible assumption
    | intro _
    | with_reducible apply Mod.setSc0_good
    | with_reducible apply good_ite

theorem Mod.stale_good {m : Mod} (h : m.Good) (t : _) (inbound : _) (i : _) (gen : _) : (Mod.stale m t inbound i gen).Good := by
  unfold Mod.stale
  try dsimp only
  repeat' first
    | with_reducible assumption
    | intro _
    | with_reducible apply Mod.setTenant_good
    | with_reducible apply Mod.wipe_good
    | with_reducible apply Mod.bump_good
    | with_reducible apply Mod.raise_good

theorem Mod.stampSlot_good {m : Mod} (h : m.Good) (a : _) (t : _) : (Mod.stampSlot m a t).Good := by
  unfold Mod.stampSlot
  try dsimp only
  repeat' first
    | with_reducible assumption
    | intro _
    | with_reducible apply Mod.poke_good

theorem mbOutPost_good {m : Mod} (h : m.Good) (t : _) (slot : _) (gen : _) : (mbOutPost t slot gen m).Good := by
  unfold mbOutPost
  try dsimp only
  repeat' first
    | with_reducible assumption
    | intro _
    | with_reducible apply Mod.stale_good
    | with_reducible apply Mod.bump_good
    | with_reducible apply Mod.stampSlot_good
    | with_reducible apply Mod.setTenant_good
    | with_reducible apply Mod.supIdentity_good
    | with_reducible apply good_ite

theorem mbInRelease_good {m : Mod} (h : m.Good) (t : _) (slot : _) (gen : _) : (mbInRelease t slot gen m).Good := by
  unfold mbInRelease
  try dsimp only
  repeat' first
    | with_reducible assumption
    | intro _
    | with_reducible apply Mod.stale_good
    | with_reducible apply Mod.setTenant_good
    | with_reducible apply Mod.supIdentity_good
    | with_reducible apply good_ite

theorem mbPost_good {m : Mod} (h : m.Good) (t : _) (slot : _) (gen : _) : (mbPost t slot gen m).Good := by
  unfold mbPost
  try dsimp only
  repeat' first
    | with_reducible assumption
    | intro _
    | with_reducible apply Mod.stale_good
    | with_reducible apply Mod.bump_good
    | with_reducible apply Mod.stampSlot_good
    | with_reducible apply Mod.setTenant_good
    | with_reducible apply Mod.identity_good
    | with_reducible apply good_ite

theorem mbRelease_good {m : Mod} (h : m.Good) (t : _) (slot : _) (gen : _) : (mbRelease t slot gen m).Good := by
  unfold mbRelease
  try dsimp only
  repeat' first
    | with_reducible assumption
    | intro _
    | with_reducible apply Mod.stale_good
    | with_reducible apply Mod.setTenant_good
    | with_reducible apply Mod.identity_good
    | with_reducible apply good_ite

theorem vfIrqLatchClear_good {m : Mod} (h : m.Good) (t : _) (mask : _) : (vfIrqLatchClear t mask m).Good := by
  unfold vfIrqLatchClear
  try dsimp only
  repeat' first
    | with_reducible assumption
    | intro _
    | with_reducible apply Mod.setTenant_good

theorem Mod.reownSlot_good {m : Mod} (h : m.Good) (e : _) (owner : _) : (Mod.reownSlot m e owner).Good := by
  unfold Mod.reownSlot
  try dsimp only
  repeat' first
    | with_reducible assumption
    | intro _
    | (simp only [↓good_mk]; with_reducible apply Mod.Good.all)
    | with_reducible apply Mod.set_good

theorem Mod.reownSlots_good {m : Mod} (h : m.Good) (t : _) (oldBase : _) (oldCount : _) (newBase : _) (newCount : _) : (Mod.reownSlots m t oldBase oldCount newBase newCount).Good := by
  unfold Mod.reownSlots
  try dsimp only
  repeat' first
    | with_reducible assumption
    | intro _
    | with_reducible apply Mod.each_good
    | with_reducible apply Mod.reownSlot_good

theorem Mod.tenantTotals_good {m : Mod} (h : m.Good) : (Mod.tenantTotals m).Good := by
  unfold Mod.tenantTotals
  try dsimp only
  repeat' first
    | with_reducible assumption
    | intro _
    | with_reducible apply Mod.set_good

theorem Mod.startClearing_good {m : Mod} (h : m.Good) (base : _) (size : _) : (Mod.startClearing m base size).Good := by
  unfold Mod.startClearing
  try dsimp only
  repeat' first
    | with_reducible assumption
    | intro _
    | (simp only [↓good_mk]; with_reducible apply Mod.Good.all)
    | with_reducible apply Mod.tenantTotals_good
    | with_reducible apply good_ite

theorem Mod.dropTbits_good {m : Mod} (h : m.Good) (base : _) (words : _) (newBase : _) (newWords : _) : (Mod.dropTbits m base words newBase newWords).Good := by
  unfold Mod.dropTbits
  try dsimp only
  repeat' first
    | with_reducible assumption
    | (simp only [↓good_mk]; with_reducible apply Mod.Good.all)

theorem Mod.takeAllotment_good {m : Mod} (h : m.Good) (t : _) : (Mod.takeAllotment m t).Good := by
  unfold Mod.takeAllotment
  try dsimp only
  repeat' first
    | with_reducible assumption
    | intro _
    | with_reducible apply Mod.reownSlots_good
    | with_reducible apply Mod.dropTbits_good
    | with_reducible apply Mod.each_good
    | with_reducible apply Mod.setPub_good
    | with_reducible apply Mod.draw_good
    | with_reducible apply Mod.set_good
    | with_reducible apply Mod.setOct_good
    | with_reducible apply Mod.startClearing_good
    | with_reducible apply Mod.wipe_good
    | with_reducible apply Mod.tenantTotals_good
    | with_reducible apply good_ite

theorem resourceApply_good {m : Mod} (h : m.Good) (t : _) : (resourceApply t m).Good := by
  unfold resourceApply
  try dsimp only
  repeat' first
    | with_reducible assumption
    | intro _
    | with_reducible apply Mod.set_good
    | with_reducible apply Mod.takeAllotment_good
    | with_reducible apply Mod.setTenant_good
    | with_reducible apply Mod.identity_good
    | with_reducible apply Mod.raise_good
    | with_reducible apply good_ite

theorem sramClearDone_good {m : Mod} (h : m.Good) : (sramClearDone m).Good := by
  unfold sramClearDone
  try dsimp only
  repeat' first
    | with_reducible assumption
    | intro _
    | (simp only [↓good_mk]; with_reducible apply Mod.Good.all)
    | with_reducible apply Mod.wipe_good
    | with_reducible apply Mod.tenantTotals_good
    | with_reducible apply good_ite
    | split

theorem Mod.newTenant_good {m : Mod} (h : m.Good) (t : _) : (Mod.newTenant m t).Good := by
  unfold Mod.newTenant
  try dsimp only
  repeat' first
    | with_reducible assumption
    | intro _
    | (simp only [↓good_mk]; with_reducible apply Mod.Good.all)
    | with_reducible apply Mod.set_good
    | with_reducible apply Mod.wipe_good
    | with_reducible apply Mod.takeAllotment_good

theorem tenantCreate_good {m : Mod} (h : m.Good) (t : _) : (tenantCreate t m).Good := by
  unfold tenantCreate
  try dsimp only
  repeat' first
    | with_reducible assumption
    | intro _
    | with_reducible apply Mod.newTenant_good
    | with_reducible apply Mod.raise_good
    | with_reducible apply good_ite

theorem Mod.endSave_good {m : Mod} (h : m.Good) (t : _) : (Mod.endSave m t).Good := by
  unfold Mod.endSave
  try dsimp only
  repeat' first
    | with_reducible assumption
    | (simp only [↓good_mk]; with_reducible apply Mod.Good.all)
    | with_reducible apply Mod.set_good
    | with_reducible apply good_ite

theorem tenantFreeze_good {m : Mod} (h : m.Good) (t : _) (cause : _) : (tenantFreeze t cause m).Good := by
  unfold tenantFreeze
  try dsimp only
  repeat' first
    | with_reducible assumption
    | intro _
    | with_reducible apply Mod.set_good
    | with_reducible apply Mod.setTenant_good
    | with_reducible apply Mod.each_good
    | with_reducible apply Mod.setHart_good
    | with_reducible apply Mod.raise_good
    | with_reducible apply good_ite

theorem tenantUnfreeze_good {m : Mod} (h : m.Good) (t : _) : (tenantUnfreeze t m).Good := by
  unfold tenantUnfreeze
  try dsimp only
  repeat' first
    | with_reducible assumption
    | with_reducible apply Mod.endSave_good
    | with_reducible apply Mod.set_good
    | with_reducible apply Mod.identity_good
    | with_reducible apply Mod.raise_good
    | with_reducible apply good_ite

theorem tenantDestroy_good {m : Mod} (h : m.Good) (t : _) : (tenantDestroy t m).Good := by
  unfold tenantDestroy
  try dsimp only
  repeat' first
    | with_reducible assumption
    | intro _
    | (simp only [↓good_mk]; with_reducible apply Mod.Good.all)
    | with_reducible apply Mod.reownSlots_good
    | with_reducible apply Mod.each_good
    | with_reducible apply stopEngine_good
    | with_reducible apply Mod.safeBits_good
    | with_reducible apply Mod.endSave_good
    | with_reducible apply Mod.dropTbits_good
    | with_reducible apply Mod.setPub_good
    | with_reducible apply Mod.set_good
    | with_reducible apply Mod.wipe_good
    | with_reducible apply Mod.clearSubs_good
    | with_reducible apply Mod.startClearing_good
    | with_reducible apply Mod.raise_good
    | with_reducible apply Mod.tenantTotals_good
    | with_reducible apply good_ite

theorem illegalInstruction_good {m : Mod} (h : m.Good) (j : _) (word : _) : (illegalInstruction j word m).Good := by
  unfold illegalInstruction
  try dsimp only
  repeat' first
    | with_reducible assumption
    | intro _
    | with_reducible apply Mod.trap_good

theorem frozenGuestReturn_good {m : Mod} (h : m.Good) (j : _) (word : _) (tval : _) : (frozenGuestReturn j word tval m).Good := by
  unfold frozenGuestReturn
  try dsimp only
  repeat' first
    | with_reducible assumption
    | with_reducible apply Mod.trap_good
    | with_reducible apply Mod.setHart_good
    | split

theorem mramSyncRead_good {m : Mod} (h : m.Good) (j : _) : (mramSyncRead j m).Good := by
  unfold mramSyncRead
  try dsimp only
  repeat' first
    | with_reducible assumption
    | intro _
    | with_reducible apply Mod.setHart_good

end Sys2Proof.Machine
end

