-- ==== Sys2Proof/Laws/GoodCan.lean ====
section
/-!
SUPPORT. The operations and commands of Machine/Can.lean keep a module sound.
-/
set_option linter.unusedSimpArgs false

namespace Sys2Proof.Machine

theorem Mod.setCanChan_good {m : Mod} (h : m.Good) (n : _) (x : _) : (Mod.setCanChan m n x).Good := by
  unfold Mod.setCanChan
  try dsimp only
  repeat' first
    | with_reducible assumption
    | intro _
    | (simp only [↓good_mk]; with_reducible apply Mod.Good.all)

theorem Mod.setCanBuf_good {m : Mod} (h : m.Good) (i : _) (x : _) : (Mod.setCanBuf m i x).Good := by
  unfold Mod.setCanBuf
  try dsimp only
  repeat' first
    | with_reducible assumption
    | intro _
    | (simp only [↓good_mk]; with_reducible apply Mod.Good.all)

theorem Mod.sdoCut_good {m : Mod} (h : m.Good) : (Mod.sdoCut m).Good := by
  unfold Mod.sdoCut
  try dsimp only
  repeat' first
    | with_reducible assumption
    | intro _
    | (simp only [↓good_mk]; with_reducible apply Mod.Good.all)
    | with_reducible apply Mod.set_good
    | with_reducible apply Mod.raise_good
    | with_reducible apply Mod.setStage_good
    | with_reducible apply good_ite
    | split

theorem Mod.askBuf_good {m : Mod} (h : m.Good) (i : _) : (Mod.askBuf m i).Good := by
  unfold Mod.askBuf
  try dsimp only
  repeat' first
    | with_reducible assumption
    | intro _
    | with_reducible apply Mod.setCanBuf_good
    | with_reducible apply Mod.set_good

theorem Mod.refill_good {m : Mod} (h : m.Good) (n : _) : (Mod.refill m n).Good := by
  unfold Mod.refill
  try dsimp only
  repeat' first
    | with_reducible assumption
    | intro _
    | with_reducible apply Mod.each_good
    | with_reducible apply Mod.setCanChan_good
    | with_reducible apply Mod.set_good
    | with_reducible apply Mod.setOct_good
    | with_reducible apply Mod.askBuf_good
    | with_reducible apply good_ite
    | split

theorem Mod.startCan_good {m : Mod} (h : m.Good) (n : _) (who : _) (f : _) : (Mod.startCan m n who f).Good := by
  unfold Mod.startCan
  try dsimp only
  repeat' first
    | with_reducible assumption
    | intro _
    | with_reducible apply Mod.setCanChan_good
    | with_reducible apply Mod.emit_good

theorem Mod.loseWindow_good {m : Mod} (h : m.Good) (n : _) (j : _) : (Mod.loseWindow m n j).Good := by
  unfold Mod.loseWindow
  try dsimp only
  repeat' first
    | with_reducible assumption
    | intro _
    | with_reducible apply Mod.bump_good
    | with_reducible apply Mod.raise_good

theorem Mod.loseWaiting_good {m : Mod} (h : m.Good) (n : _) : (Mod.loseWaiting m n).Good := by
  unfold Mod.loseWaiting
  try dsimp only
  repeat' first
    | with_reducible assumption
    | intro _
    | with_reducible apply Mod.setCanChan_good
    | with_reducible apply Mod.loseWindow_good
    | with_reducible apply good_ite
    | split

theorem Mod.startBuf_good {m : Mod} (h : m.Good) (n : _) (now : _) : (Mod.startBuf m n now).Good := by
  unfold Mod.startBuf
  try dsimp only
  repeat' first
    | with_reducible assumption
    | intro _
    | with_reducible apply Mod.set_good
    | with_reducible apply Mod.startCan_good
    | with_reducible apply good_ite
    | split

theorem Mod.contend_good {m : Mod} (h : m.Good) (n : _) (now : _) : (Mod.contend m n now).Good := by
  unfold Mod.contend
  try dsimp only
  repeat' first
    | with_reducible assumption
    | intro _
    | with_reducible apply Mod.setCanChan_good
    | with_reducible apply Mod.startCan_good
    | with_reducible apply Mod.loseWaiting_good
    | with_reducible apply Mod.startBuf_good
    | with_reducible apply good_ite
    | split

theorem Mod.endBuf_good {m : Mod} (h : m.Good) (i : _) (st : _) : (Mod.endBuf m i st).Good := by
  unfold Mod.endBuf
  try dsimp only
  repeat' first
    | with_reducible assumption
    | intro _
    | with_reducible apply Mod.set_good
    | with_reducible apply Mod.raise_good
    | with_reducible apply good_ite

theorem Mod.errState_good {m : Mod} (h : m.Good) (n : _) : (Mod.errState m n).Good := by
  unfold Mod.errState
  try dsimp only
  repeat' first
    | with_reducible assumption
    | intro _
    | with_reducible apply Mod.set_good
    | with_reducible apply Mod.raise_good
    | with_reducible apply good_ite

theorem Mod.enterBusOff_good {m : Mod} (h : m.Good) (n : _) : (Mod.enterBusOff m n).Good := by
  unfold Mod.enterBusOff
  try dsimp only
  repeat' first
    | with_reducible assumption
    | intro _
    | with_reducible apply Mod.set_good
    | with_reducible apply Mod.bump_good
    | with_reducible apply Mod.raise_good
    | with_reducible apply Mod.each_good
    | with_reducible apply Mod.setCanChan_good
    | with_reducible apply Mod.loseWaiting_good
    | with_reducible apply Mod.sdoCut_good
    | with_reducible apply good_ite

theorem Mod.leaveBusOff_good {m : Mod} (h : m.Good) (n : _) : (Mod.leaveBusOff m n).Good := by
  unfold Mod.leaveBusOff
  try dsimp only
  repeat' first
    | with_reducible assumption
    | intro _
    | with_reducible apply Mod.set_good
    | with_reducible apply Mod.raise_good
    | with_reducible apply Mod.refill_good

theorem busoffAutoRecovery_good {m : Mod} (h : m.Good) (n : _) (now : _) : (busoffAutoRecovery n now m).Good := by
  unfold busoffAutoRecovery
  try dsimp only
  repeat' first
    | with_reducible assumption
    | intro _
    | with_reducible apply Mod.leaveBusOff_good
    | with_reducible apply Mod.contend_good
    | with_reducible apply good_ite

theorem canRecover_good {m : Mod} (h : m.Good) (path : _) (n : _) (v : _) (now : _) : (canRecover path n v now m).Good := by
  unfold canRecover
  try dsimp only
  repeat' first
    | with_reducible assumption
    | intro _
    | with_reducible apply Mod.report_good
    | with_reducible apply Mod.served_good
    | with_reducible apply Mod.leaveBusOff_good
    | with_reducible apply Mod.contend_good
    | with_reducible apply good_ite

theorem canModeWrite_good {m : Mod} (h : m.Good) (path : _) (n : _) (v : _) : (canModeWrite path n v m).Good := by
  unfold canModeWrite
  try dsimp only
  repeat' first
    | with_reducible assumption
    | intro _
    | with_reducible apply Mod.report_good
    | with_reducible apply Mod.served_good
    | with_reducible apply Mod.each_good
    | with_reducible apply Mod.set_good
    | with_reducible apply Mod.setCanChan_good
    | with_reducible apply Mod.setOct_good
    | with_reducible apply Mod.sdoCut_good
    | with_reducible apply good_ite

theorem canTxRequest_good {m : Mod} (h : m.Good) (path : _) (i : _) (now : _) (idle : _) : (canTxRequest path i now idle m).Good := by
  unfold canTxRequest
  try dsimp only
  repeat' first
    | with_reducible assumption
    | intro _
    | with_reducible apply Mod.report_good
    | with_reducible apply Mod.served_good
    | with_reducible apply Mod.setCanChan_good
    | with_reducible apply Mod.askBuf_good
    | with_reducible apply Mod.contend_good
    | with_reducible apply good_ite

theorem canTxAbort_good {m : Mod} (h : m.Good) (path : _) (i : _) : (canTxAbort path i m).Good := by
  unfold canTxAbort
  try dsimp only
  repeat' first
    | with_reducible assumption
    | intro _
    | with_reducible apply Mod.report_good
    | with_reducible apply Mod.served_good
    | with_reducible apply Mod.endBuf_good
    | with_reducible apply Mod.refill_good
    | with_reducible apply Mod.setCanBuf_good
    | with_reducible apply good_ite

theorem Mod.fifoSync_good {m : Mod} (h : m.Good) (n : _) : (Mod.fifoSync m n).Good := by
  unfold Mod.fifoSync
  try dsimp only
  repeat' first
    | with_reducible assumption
    | intro _
    | with_reducible apply Mod.setOct_good
    | with_reducible apply Mod.set_good

theorem canFifoRead_good {m : Mod} (h : m.Good) (path : _) (n : _) : (canFifoRead path n m).Good := by
  unfold canFifoRead
  try dsimp only
  repeat' first
    | with_reducible assumption
    | intro _
    | with_reducible apply Mod.report_good
    | with_reducible apply Mod.emit_good
    | with_reducible apply Mod.setCanChan_good
    | with_reducible apply Mod.fifoSync_good
    | with_reducible apply good_ite

theorem Mod.sendTunnel_good {m : Mod} (h : m.Good) (now : _) : (Mod.sendTunnel m now).Good := by
  unfold Mod.sendTunnel
  try dsimp only
  repeat' first
    | with_reducible assumption
    | intro _
    | (simp only [↓good_mk]; with_reducible apply Mod.Good.all)
    | with_reducible apply switchClassify_good
    | with_reducible apply Mod.bump_good
    | with_reducible apply good_ite

theorem tunnelWaitExpiry_good {m : Mod} (h : m.Good) (now : _) : (tunnelWaitExpiry now m).Good := by
  unfold tunnelWaitExpiry
  try dsimp only
  repeat' first
    | with_reducible assumption
    | intro _
    | with_reducible apply Mod.sendTunnel_good

theorem Mod.toChannel_good {m : Mod} (h : m.Good) (t : _) (now : _) (f : _) : (Mod.toChannel m t now f).Good := by
  unfold Mod.toChannel
  try dsimp only
  repeat' first
    | with_reducible assumption
    | intro _
    | with_reducible apply Mod.bump_good
    | with_reducible apply Mod.setCanChan_good
    | with_reducible apply Mod.refill_good
    | with_reducible apply Mod.contend_good
    | with_reducible apply good_ite

theorem Mod.toMailbox_good {m : Mod} (h : m.Good) (x : _) (t : _) (gen : _) (rec' : _) : (Mod.toMailbox m x t gen rec').Good := by
  unfold Mod.toMailbox
  try dsimp only
  repeat' first
    | with_reducible assumption
    | intro _
    | with_reducible apply Mod.bump_good
    | with_reducible apply mbPost_good
    | with_reducible apply Mod.poke_good
    | with_reducible apply good_ite
    | split

theorem Mod.routeOne_good {m : Mod} (h : m.Good) (src : _) (channel : _) (stamp : _) (now : _) (x : _) (f : _) : (Mod.routeOne m src channel stamp now x f).Good := by
  unfold Mod.routeOne
  try dsimp only
  repeat' first
    | with_reducible assumption
    | intro _
    | (simp only [↓good_mk]; with_reducible apply Mod.Good.all)
    | with_reducible apply Mod.bump_good
    | with_reducible apply Mod.toChannel_good
    | with_reducible apply Mod.toMailbox_good
    | with_reducible apply Mod.sendTunnel_good
    | with_reducible apply good_ite
    | split

theorem Mod.bridge_good {m : Mod} (h : m.Good) (src : _) (channel : _) (stamp : _) (now : _) (f : _) : (Mod.bridge m src channel stamp now f).Good := by
  unfold Mod.bridge
  try dsimp only
  repeat' first
    | with_reducible assumption
    | intro _
    | with_reducible apply Mod.bump_good
    | with_reducible apply Mod.each_good
    | with_reducible apply Mod.routeOne_good
    | with_reducible apply good_ite

theorem tunnelFrameRx_good {m : Mod} (h : m.Good) (bytes : _) (now : _) : (tunnelFrameRx bytes now m).Good := by
  unfold tunnelFrameRx
  try dsimp only
  repeat' first
    | with_reducible assumption
    | intro _
    | (simp only [↓good_mk]; with_reducible apply Mod.Good.all)
    | with_reducible apply Mod.bump_good
    | with_reducible apply Mod.raise_good
    | with_reducible apply Mod.set_good
    | with_reducible apply Mod.each_good
    | with_reducible apply Mod.bridge_good
    | with_reducible apply good_ite
    | split

theorem Mod.fifoPut_good {m : Mod} (h : m.Good) (n : _) (rec' : _) : (Mod.fifoPut m n rec').Good := by
  unfold Mod.fifoPut
  try dsimp only
  repeat' first
    | with_reducible assumption
    | intro _
    | with_reducible apply Mod.bump_good
    | with_reducible apply Mod.setCanChan_good
    | with_reducible apply Mod.raise_good
    | with_reducible apply Mod.fifoSync_good
    | with_reducible apply good_ite

theorem Mod.rxCountDown_good {m : Mod} (h : m.Good) (n : _) : (Mod.rxCountDown m n).Good := by
  unfold Mod.rxCountDown
  try dsimp only
  repeat' first
    | with_reducible assumption
    | intro _
    | with_reducible apply Mod.set_good
    | with_reducible apply Mod.errState_good
    | with_reducible refine Mod.draw_good_eq (by assumption) ?_
    | with_reducible apply Mod.draw_good
    | with_reducible apply good_ite

theorem Mod.dropRef_good {m : Mod} (h : m.Good) (n : _) (isRef : _) : (Mod.dropRef m n isRef).Good := by
  unfold Mod.dropRef
  try dsimp only
  repeat' first
    | with_reducible assumption
    | intro _
    | with_reducible apply Mod.setCanChan_good
    | with_reducible apply Mod.bump_good
    | with_reducible apply good_ite

theorem Mod.offerFrame_good {m : Mod} (h : m.Good) (n : _) (f : _) (sof : _) (now : _) : (Mod.offerFrame m n f sof now).Good := by
  unfold Mod.offerFrame
  try dsimp only
  repeat' first
    | with_reducible assumption
    | intro _
    | with_reducible apply canStations_good
    | with_reducible apply Mod.bridge_good
    | with_reducible apply Mod.fifoPut_good
    | with_reducible apply good_ite

theorem canFrameRx_good {m : Mod} (h : m.Good) (n : _) (f : _) (sof : _) (now : _) : (canFrameRx n f sof now m).Good := by
  unfold canFrameRx
  try dsimp only
  repeat' first
    | with_reducible assumption
    | intro _
    | with_reducible apply Mod.emit_good
    | with_reducible apply Mod.setCanChan_good
    | with_reducible apply Mod.bump_good
    | with_reducible apply Mod.rxCountDown_good
    | with_reducible apply Mod.dropRef_good
    | with_reducible apply Mod.offerFrame_good
    | with_reducible apply Mod.contend_good
    | with_reducible apply good_ite

theorem canRxError_good {m : Mod} (h : m.Good) (n : _) (by8 : _) (now : _) : (canRxError n by8 now m).Good := by
  unfold canRxError
  try dsimp only
  repeat' first
    | with_reducible assumption
    | intro _
    | with_reducible apply Mod.setCanChan_good
    | with_reducible apply Mod.bump_good
    | with_reducible apply Mod.errState_good
    | with_reducible apply Mod.emit_good
    | with_reducible apply Mod.contend_good
    | with_reducible apply good_ite

theorem canTxSuccess_good {m : Mod} (h : m.Good) (n : _) (now : _) : (canTxSuccess n now m).Good := by
  unfold canTxSuccess
  try dsimp only
  repeat' first
    | with_reducible assumption
    | intro _
    | with_reducible apply Mod.setCanChan_good
    | with_reducible apply Mod.bump_good
    | with_reducible apply Mod.set_good
    | with_reducible apply Mod.errState_good
    | with_reducible apply Mod.refill_good
    | with_reducible apply Mod.contend_good
    | with_reducible apply good_ite
    | split

theorem Mod.retryBuf_good {m : Mod} (h : m.Good) (n : _) (i : _) (past : _) (st : _) : (Mod.retryBuf m n i past st).Good := by
  unfold Mod.retryBuf
  try dsimp only
  repeat' first
    | with_reducible assumption
    | intro _
    | with_reducible apply Mod.endBuf_good
    | with_reducible apply Mod.refill_good
    | with_reducible apply Mod.set_good
    | with_reducible apply good_ite

theorem canArbLoss_good {m : Mod} (h : m.Good) (n : _) : (canArbLoss n m).Good := by
  unfold canArbLoss
  try dsimp only
  repeat' first
    | with_reducible assumption
    | intro _
    | with_reducible apply Mod.setCanChan_good
    | with_reducible apply Mod.setCanBuf_good
    | with_reducible apply Mod.retryBuf_good
    | with_reducible apply Mod.loseWindow_good
    | with_reducible apply good_ite
    | split

theorem canTxError_good {m : Mod} (h : m.Good) (n : _) (counts : _) (now : _) : (canTxError n counts now m).Good := by
  unfold canTxError
  try dsimp only
  repeat' first
    | with_reducible assumption
    | intro _
    | with_reducible apply Mod.setCanChan_good
    | with_reducible apply Mod.emit_good
    | with_reducible apply Mod.setCanBuf_good
    | with_reducible apply Mod.retryBuf_good
    | with_reducible apply Mod.loseWindow_good
    | with_reducible apply Mod.set_good
    | with_reducible apply Mod.enterBusOff_good
    | with_reducible apply Mod.errState_good
    | with_reducible apply Mod.contend_good
    | with_reducible apply good_ite
    | split

theorem ttCycleStart_good {m : Mod} (h : m.Good) (n : _) (now : _) : (ttCycleStart n now m).Good := by
  unfold ttCycleStart
  try dsimp only
  repeat' first
    | with_reducible assumption
    | with_reducible apply Mod.loseWaiting_good
    | with_reducible apply Mod.setCanChan_good
    | with_reducible apply Mod.set_good
    | with_reducible apply Mod.bump_good
    | with_reducible apply Mod.contend_good
    | with_reducible apply good_ite

theorem Mod.openExclusive_good {m : Mod} (h : m.Good) (n : _) (j : _) (stop : _) (now : _) (f : _) : (Mod.openExclusive m n j stop now f).Good := by
  unfold Mod.openExclusive
  try dsimp only
  repeat' first
    | with_reducible assumption
    | intro _
    | with_reducible apply Mod.loseWindow_good
    | with_reducible apply Mod.setCanChan_good
    | with_reducible apply Mod.contend_good
    | with_reducible apply good_ite

theorem ttWindowStart_good {m : Mod} (h : m.Good) (n : _) (j : _) (now : _) : (ttWindowStart n j now m).Good := by
  unfold ttWindowStart
  try dsimp only
  repeat' first
    | with_reducible assumption
    | intro _
    | with_reducible apply Mod.loseWaiting_good
    | with_reducible apply Mod.bump_good
    | with_reducible apply Mod.setCanChan_good
    | with_reducible apply Mod.contend_good
    | with_reducible apply Mod.openExclusive_good
    | with_reducible apply good_ite
    | split

end Sys2Proof.Machine
end

