-- ==== Sys2Proof/Laws/GoodClickerCore.lean ====
section
/-!
SUPPORT. The operations and commands of Machine/ClickerCore.lean keep a module sound.
-/
set_option linter.unusedSimpArgs false

namespace Sys2Proof.Machine

theorem Mod.setCk_good {m : Mod} (h : m.Good) (x : _) (s : _) : (Mod.setCk m x s).Good := by
  unfold Mod.setCk
  try dsimp only
  repeat' first
    | with_reducible assumption
    | intro _
    | (simp only [↓good_mk]; with_reducible apply Mod.Good.all)

theorem Mod.ckFlagRow_good {m : Mod} (h : m.Good) (x n i : Nat) : (m.ckFlagRow x n i).Good :=
  ⟨h.dict, Memory.wf_write _ _ h.mem, h.held⟩

theorem Mod.ckSync_good {m : Mod} (h : m.Good) (x : _) : (Mod.ckSync m x).Good := by
  unfold Mod.ckSync
  try dsimp only
  repeat' first
    | with_reducible assumption
    | intro _
    | with_reducible apply Mod.set_good
    | with_reducible apply Mod.poke_good

theorem Mod.ckCount_good {m : Mod} (h : m.Good) : (Mod.ckCount m).Good := by
  unfold Mod.ckCount
  try dsimp only
  repeat' first
    | with_reducible assumption
    | intro _
    | with_reducible apply Mod.set_good

theorem Mod.ckArm_good {m : Mod} (h : m.Good) (x : _) : (Mod.ckArm m x).Good := by
  unfold Mod.ckArm
  try dsimp only
  repeat' first
    | with_reducible assumption
    | intro _
    | with_reducible apply Mod.each_good
    | with_reducible apply Mod.set_good
    | with_reducible apply Mod.setCk_good
    | with_reducible apply Mod.ckCount_good
    | with_reducible apply Mod.poke_good
    | with_reducible apply Mod.ckSync_good

theorem Mod.ckEnable_good {m : Mod} (h : m.Good) (x : _) (on : _) : (Mod.ckEnable m x on).Good := by
  unfold Mod.ckEnable
  try dsimp only
  repeat' first
    | with_reducible assumption
    | intro _
    | with_reducible apply Mod.ckArm_good
    | with_reducible apply Mod.setCk_good
    | with_reducible apply Mod.set_good
    | with_reducible apply Mod.ckCount_good
    | with_reducible apply good_ite

theorem Mod.ckFinish_good {m : Mod} (h : m.Good) (x : _) (cause : _) : (Mod.ckFinish m x cause).Good := by
  unfold Mod.ckFinish
  try dsimp only
  repeat' first
    | with_reducible assumption
    | intro _
    | with_reducible apply Mod.set_good
    | with_reducible apply Mod.bump_good
    | with_reducible apply Mod.ckSync_good

theorem Mod.ckOverflow_good {m : Mod} (h : m.Good) (x : _) (cause : _) : (Mod.ckOverflow m x cause).Good := by
  unfold Mod.ckOverflow
  try dsimp only
  repeat' first
    | with_reducible assumption
    | intro _
    | with_reducible apply Mod.setCk_good
    | with_reducible apply Mod.bump_good
    | with_reducible apply Mod.ckSync_good
    | with_reducible apply Mod.ckFlagRow_good
    | with_reducible apply Mod.ckFinish_good
    | with_reducible apply Mod.raise_good
    | with_reducible apply good_ite

theorem Mod.ckResolve_good {m : Mod} (h : m.Good) (x : _) : (Mod.ckResolve m x).Good := by
  unfold Mod.ckResolve
  try dsimp only
  repeat' first
    | with_reducible assumption
    | intro _
    | with_reducible apply Mod.setCk_good
    | with_reducible apply Mod.set_good
    | with_reducible apply Mod.ckFlagRow_good
    | with_reducible apply Mod.raise_good
    | with_reducible apply Mod.ckFinish_good
    | with_reducible apply Mod.ckSync_good
    | with_reducible apply foldl_good_fst
    | with_reducible apply good_ite
    | split

theorem Mod.setTrig_good {m : Mod} (h : m.Good) (j : _) (now : _) (level : _) : (Mod.setTrig m j now level).Good := by
  unfold Mod.setTrig
  try dsimp only
  repeat' first
    | with_reducible assumption
    | intro _
    | with_reducible apply Mod.set_good
    | with_reducible apply Mod.bump_good
    | with_reducible apply Mod.emit_good
    | with_reducible apply good_ite

theorem Mod.trigFollow_good {m : Mod} (h : m.Good) (j : _) (now : _) : (Mod.trigFollow m j now).Good := by
  unfold Mod.trigFollow
  try dsimp only
  repeat' first
    | with_reducible assumption
    | intro _
    | with_reducible apply Mod.setTrig_good
    | with_reducible apply good_ite
    | split

theorem Mod.broadcast_good {m : Mod} (h : m.Good) (p : _) (but : _) : (Mod.broadcast m p but).Good := by
  unfold Mod.broadcast
  try dsimp only
  repeat' first
    | with_reducible assumption
    | intro _
    | with_reducible apply Mod.each_good
    | with_reducible apply Mod.sendOn_good

theorem Mod.sendXtrig_good {m : Mod} (h : m.Good) (x : _) (d : _) : (Mod.sendXtrig m x d).Good := by
  unfold Mod.sendXtrig
  try dsimp only
  repeat' first
    | with_reducible assumption
    | intro _
    | with_reducible apply Mod.broadcast_good
    | with_reducible refine Mod.route_good_eq (by assumption) ?_
    | with_reducible apply Mod.route_good
    | with_reducible apply good_ite

theorem Mod.detectIn_good {m : Mod} (h : m.Good) (now : _) (x1 : _) (x3 : _) (x4 : _) : (Mod.detectIn now x1 m x3 x4).Good := by
  induction x1 generalizing m x3 x4  with
  | zero => exact h
  | succ z ih =>
    unfold Mod.detectIn
    repeat' first
      | with_reducible assumption
      | intro _
      | simp only [↓good_mk]
      | with_reducible apply ih
      | with_reducible apply Mod.bump_good
      | with_reducible apply Mod.setCk_good
      | with_reducible apply Mod.each_good
      | with_reducible apply Mod.setTrig_good
      | with_reducible apply Mod.sendXtrig_good
      | with_reducible apply Mod.ckResolve_good
      | with_reducible apply good_ite

theorem Mod.detect_good {m : Mod} (h : m.Good) (now : _) (x : _) (d : _) : (Mod.detect m now x d).Good := by
  unfold Mod.detect
  try dsimp only
  repeat' first
    | with_reducible assumption
    | intro _
    | with_reducible apply Mod.detectIn_good

theorem Mod.offerTrigger_good {m : Mod} (h : m.Good) (now : _) (hit : _) (d : _) : (Mod.offerTrigger m now hit d).Good := by
  unfold Mod.offerTrigger
  try dsimp only
  repeat' first
    | with_reducible assumption
    | intro _
    | with_reducible apply Mod.each_good
    | with_reducible apply Mod.detect_good

theorem Mod.sampleGroups_good {m : Mod} (h : m.Good) : (Mod.sampleGroups m).Good := by
  unfold Mod.sampleGroups
  try dsimp only
  repeat' first
    | with_reducible assumption
    | intro _
    | (simp only [↓good_mk]; with_reducible apply Mod.Good.all)

theorem Mod.clickerVStart_good {m : Mod} (h : m.Good) (now : _) : (Mod.clickerVStart m now).Good := by
  unfold Mod.clickerVStart
  try dsimp only
  repeat' first
    | with_reducible assumption
    | intro _
    | (simp only [↓good_mk]; with_reducible apply Mod.Good.all)
    | with_reducible apply Mod.each_good
    | with_reducible apply Mod.detect_good
    | with_reducible apply Mod.trigFollow_good
    | with_reducible apply good_ite

theorem Mod.clickerStop_good {m : Mod} (h : m.Good) : (Mod.clickerStop m).Good := by
  unfold Mod.clickerStop
  try dsimp only
  repeat' first
    | with_reducible assumption
    | intro _
    | with_reducible apply Mod.each_good
    | with_reducible apply Mod.ckFinish_good

theorem Mod.clickerRestart_good {m : Mod} (h : m.Good) : (Mod.clickerRestart m).Good := by
  unfold Mod.clickerRestart
  try dsimp only
  repeat' first
    | with_reducible assumption
    | intro _
    | (simp only [↓good_mk]; with_reducible apply Mod.Good.all)
    | with_reducible apply Mod.each_good
    | with_reducible apply Mod.setCk_good
    | with_reducible apply Mod.ckSync_good

end Sys2Proof.Machine
end

