-- ==== Sys2Proof/Laws/GoodElement.lean ====
section
/-!
SUPPORT. The operations and commands of Machine/Element.lean keep a module sound.
-/
set_option linter.unusedSimpArgs false

namespace Sys2Proof.Machine

theorem Mod.setSlot_good {m : Mod} (h : m.Good) (e : _) (x : _) : (Mod.setSlot m e x).Good := by
  unfold Mod.setSlot
  try dsimp only
  repeat' first
    | with_reducible assumption
    | intro _
    | (simp only [↓good_mk]; with_reducible apply Mod.Good.all)

theorem Mod.writeSlot_good {m : Mod} (h : m.Good) (e : _) (st : _) : (Mod.writeSlot m e st).Good := by
  unfold Mod.writeSlot
  try dsimp only
  repeat' first
    | with_reducible assumption
    | intro _
    | with_reducible apply Mod.setSlot_good
    | with_reducible apply Mod.set_good
    | with_reducible apply Mod.bump_good
    | with_reducible apply Mod.raise_good
    | with_reducible apply good_ite

theorem evalSlot_good {m : Mod} (h : m.Good) (start : _) (e : _) : (evalSlot start m e).Good := by
  unfold evalSlot
  try dsimp only
  repeat' first
    | with_reducible assumption
    | intro _
    | with_reducible apply Mod.writeSlot_good
    | with_reducible apply good_ite

theorem Mod.resetNow_good {m : Mod} (h : m.Good) (e : _) : (Mod.resetNow m e).Good := by
  unfold Mod.resetNow
  try dsimp only
  repeat' first
    | with_reducible assumption
    | with_reducible apply Mod.setSlot_good
    | with_reducible apply Mod.set_good
    | with_reducible apply good_ite

theorem Mod.resetSlots_good {m : Mod} (h : m.Good) : (Mod.resetSlots m).Good := by
  unfold Mod.resetSlots
  try dsimp only
  repeat' first
    | with_reducible assumption
    | intro _
    | (simp only [↓good_mk]; with_reducible apply Mod.Good.all)
    | with_reducible apply Mod.each_good
    | with_reducible apply Mod.resetNow_good

theorem elementPhase_good {m : Mod} (h : m.Good) : (elementPhase m).Good := by
  unfold elementPhase
  try dsimp only
  repeat' first
    | with_reducible assumption
    | intro _
    | (simp only [↓good_mk]; with_reducible apply Mod.Good.all)
    | with_reducible apply Mod.each_good
    | with_reducible apply Mod.resetSlots_good
    | with_reducible apply evalSlot_good
    | with_reducible apply Mod.draw_good
    | with_reducible apply Mod.raiseTo_good
    | with_reducible apply good_ite

theorem opDelayExpiry_good {m : Mod} (h : m.Good) (e : _) : (opDelayExpiry e m).Good := by
  unfold opDelayExpiry
  try dsimp only
  repeat' first
    | with_reducible assumption
    | intro _
    | with_reducible apply Mod.writeSlot_good
    | with_reducible apply good_ite

theorem dropDelayExpiry_good {m : Mod} (h : m.Good) (e : _) : (dropDelayExpiry e m).Good := by
  unfold dropDelayExpiry
  try dsimp only
  repeat' first
    | with_reducible assumption
    | intro _
    | with_reducible apply Mod.writeSlot_good
    | with_reducible apply good_ite

theorem timerOperate_good {m : Mod} (h : m.Good) (e : _) : (timerOperate e m).Good := by
  unfold timerOperate
  try dsimp only
  repeat' first
    | with_reducible assumption
    | intro _
    | with_reducible apply Mod.writeSlot_good
    | with_reducible apply good_ite

theorem timerDefiniteReset_good {m : Mod} (h : m.Good) (e : _) : (timerDefiniteReset e m).Good := by
  unfold timerDefiniteReset
  try dsimp only
  repeat' first
    | with_reducible assumption
    | intro _
    | with_reducible apply Mod.setSlot_good
    | with_reducible apply Mod.set_good
    | with_reducible apply good_ite

theorem Mod.retableSlot_good {m : Mod} (h : m.Good) (e : _) : (Mod.retableSlot m e).Good := by
  unfold Mod.retableSlot
  try dsimp only
  repeat' first
    | with_reducible assumption
    | intro _
    | with_reducible apply Mod.setSlot_good

theorem Mod.restartSlot_good {m : Mod} (h : m.Good) (e : _) : (Mod.restartSlot m e).Good := by
  unfold Mod.restartSlot
  try dsimp only
  repeat' first
    | with_reducible assumption
    | (simp only [↓good_mk]; with_reducible apply Mod.Good.all)
    | with_reducible apply Mod.retableSlot_good

end Sys2Proof.Machine
end

