-- ==== Sys2Proof/Laws/GoodFilter.lean ====
section
/-!
SUPPORT. The operations and commands of Machine/Filter.lean keep a module sound.
-/
set_option linter.unusedSimpArgs false

namespace Sys2Proof.Machine

theorem Mod.setProfile_good {m : Mod} (h : m.Good) (p : _) (x : _) : (Mod.setProfile m p x).Good := by
  unfold Mod.setProfile
  try dsimp only
  repeat' first
    | with_reducible assumption
    | intro _
    | (simp only [↓good_mk]; with_reducible apply Mod.Good.all)

theorem Mod.setInactiveBank_good {m : Mod} (h : m.Good) (p : _) (b : _) : (Mod.setInactiveBank m p b).Good := by
  unfold Mod.setInactiveBank
  try dsimp only
  repeat' first
    | with_reducible assumption
    | intro _
    | with_reducible apply Mod.setProfile_good
    | with_reducible apply good_ite

theorem Mod.setChan_good {m : Mod} (h : m.Good) (c : _) (x : _) : (Mod.setChan m c x).Good := by
  unfold Mod.setChan
  try dsimp only
  repeat' first
    | with_reducible assumption
    | intro _
    | (simp only [↓good_mk]; with_reducible apply Mod.Good.all)

theorem chainChannel_good {m : Mod} (h : m.Good) (s : _) (c : _) : (chainChannel s c m).Good := by
  unfold chainChannel
  try dsimp only
  repeat' first
    | with_reducible assumption
    | intro _
    | with_reducible apply Mod.setChan_good
    | with_reducible apply Mod.set_good
    | with_reducible apply Mod.bump_good
    | with_reducible apply Mod.raise_good
    | with_reducible apply good_ite

theorem Mod.filterChain_good {m : Mod} (h : m.Good) : (Mod.filterChain m).Good := by
  unfold Mod.filterChain
  try dsimp only
  repeat' first
    | with_reducible assumption
    | intro _
    | with_reducible apply Mod.each_good
    | with_reducible apply chainChannel_good

theorem Mod.dropChannel_good {m : Mod} (h : m.Good) (c : _) : (Mod.dropChannel m c).Good := by
  unfold Mod.dropChannel
  try dsimp only
  repeat' first
    | with_reducible assumption
    | (simp only [↓good_mk]; with_reducible apply Mod.Good.all)
    | with_reducible apply Mod.setChan_good

theorem Mod.clearHistory_good {m : Mod} (h : m.Good) (c : _) (cause : _) (dc : _) : (Mod.clearHistory m c cause dc).Good := by
  unfold Mod.clearHistory
  try dsimp only
  repeat' first
    | with_reducible assumption
    | (simp only [↓good_mk]; with_reducible apply Mod.Good.all)
    | with_reducible apply Mod.setChan_good
    | with_reducible apply good_ite

theorem Mod.clearForStep_good {m : Mod} (h : m.Good) : (Mod.clearForStep m).Good := by
  unfold Mod.clearForStep
  try dsimp only
  repeat' first
    | with_reducible assumption
    | intro _
    | with_reducible apply Mod.each_good
    | with_reducible apply Mod.clearHistory_good

theorem Mod.flushCleared_good {m : Mod} (h : m.Good) : (Mod.flushCleared m).Good := by
  unfold Mod.flushCleared
  try dsimp only
  repeat' first
    | with_reducible assumption
    | intro _
    | (simp only [↓good_mk]; with_reducible apply Mod.Good.all)
    | with_reducible apply Mod.each_good
    | with_reducible apply Mod.raise_good

theorem Mod.profileCrcs_good {m : Mod} (h : m.Good) (p : _) : (Mod.profileCrcs m p).Good := by
  unfold Mod.profileCrcs
  try dsimp only
  repeat' first
    | with_reducible assumption
    | intro _
    | with_reducible apply Mod.set_good
    | with_reducible apply Mod.setOct_good

theorem Mod.swapProfile_good {m : Mod} (h : m.Good) (p : _) (kS : _) : (Mod.swapProfile m p kS).Good := by
  unfold Mod.swapProfile
  try dsimp only
  repeat' first
    | with_reducible assumption
    | intro _
    | with_reducible apply Mod.set_good
    | with_reducible apply Mod.profileCrcs_good
    | with_reducible apply Mod.setProfile_good
    | with_reducible apply Mod.raise_good

theorem Mod.endProfileSwap_good {m : Mod} (h : m.Good) (p : _) (refused : _) : (Mod.endProfileSwap m p refused).Good := by
  unfold Mod.endProfileSwap
  try dsimp only
  repeat' first
    | with_reducible assumption
    | intro _
    | with_reducible apply Mod.setProfile_good
    | with_reducible apply Mod.set_good
    | with_reducible apply Mod.raise_good
    | with_reducible apply good_ite

theorem Mod.loadProfile_good {m : Mod} (h : m.Good) (p : _) : (Mod.loadProfile m p).Good := by
  unfold Mod.loadProfile
  try dsimp only
  repeat' first
    | with_reducible assumption
    | intro _
    | with_reducible apply Mod.setProfile_good
    | with_reducible apply Mod.profileCrcs_good
    | with_reducible apply good_ite

theorem Mod.writeBank_good {m : Mod} (h : m.Good) (p : _) (b : _) : (Mod.writeBank m p b).Good := by
  unfold Mod.writeBank
  try dsimp only
  repeat' first
    | with_reducible assumption
    | intro _
    | with_reducible apply Mod.setInactiveBank_good
    | with_reducible apply Mod.setProfile_good
    | with_reducible apply Mod.profileCrcs_good
    | with_reducible apply Mod.set_good

theorem profileTapsWrite_good {m : Mod} (h : m.Good) (path : _) (p : _) (n : _) : (profileTapsWrite path p n m).Good := by
  unfold profileTapsWrite
  try dsimp only
  repeat' first
    | with_reducible assumption
    | intro _
    | with_reducible apply Mod.report_good
    | with_reducible apply Mod.writeBank_good
    | with_reducible apply good_ite

theorem profileCoeffsWrite_good {m : Mod} (h : m.Good) (path : _) (p : _) (words : _) : (profileCoeffsWrite path p words m).Good := by
  unfold profileCoeffsWrite
  try dsimp only
  repeat' first
    | with_reducible assumption
    | intro _
    | with_reducible apply Mod.report_good
    | with_reducible apply Mod.writeBank_good
    | with_reducible apply good_ite

theorem profileCheckWrite_good {m : Mod} (h : m.Good) (path : _) (p : _) (v : _) : (profileCheckWrite path p v m).Good := by
  unfold profileCheckWrite
  try dsimp only
  repeat' first
    | with_reducible assumption
    | intro _
    | with_reducible apply Mod.report_good
    | with_reducible apply Mod.setProfile_good
    | with_reducible apply good_ite

theorem profileCheckDone_good {m : Mod} (h : m.Good) (p : _) : (profileCheckDone p m).Good := by
  unfold profileCheckDone
  try dsimp only
  repeat' first
    | with_reducible assumption
    | intro _
    | with_reducible apply Mod.setProfile_good
    | with_reducible apply Mod.setInactiveBank_good
    | with_reducible apply Mod.set_good
    | with_reducible apply good_ite

theorem profileSwapNow_good {m : Mod} (h : m.Good) (path : _) (p : _) (v : _) : (profileSwapNow path p v m).Good := by
  unfold profileSwapNow
  try dsimp only
  repeat' first
    | with_reducible assumption
    | intro _
    | with_reducible apply Mod.report_good
    | with_reducible apply Mod.swapProfile_good
    | with_reducible apply good_ite

theorem profileStore_good {m : Mod} (h : m.Good) (path : _) (p : _) (v : _) : (profileStore path p v m).Good := by
  unfold profileStore
  try dsimp only
  repeat' first
    | with_reducible assumption
    | intro _
    | (simp only [↓good_mk]; with_reducible apply Mod.Good.all)
    | with_reducible apply Mod.report_good
    | with_reducible apply Mod.set_good
    | with_reducible apply good_ite

end Sys2Proof.Machine
end

