-- ==== Sys2Proof/Laws/GoodIngest.lean ====
section
/-!
SUPPORT. The operations and commands of Machine/Ingest.lean keep a module sound.
-/
set_option linter.unusedSimpArgs false

namespace Sys2Proof.Machine

theorem Mod.setStreamRt_good {m : Mod} (h : m.Good) (s : _) (x : _) : (Mod.setStreamRt m s x).Good := by
  unfold Mod.setStreamRt
  try dsimp only
  repeat' first
    | with_reducible assumption
    | intro _
    | (simp only [↓good_mk]; with_reducible apply Mod.Good.all)

theorem fileAsdu_good {m : Mod} (h : m.Good) (s : _) (port : _) (stamp : _) (a : _) : (fileAsdu s port stamp a m).Good := by
  unfold fileAsdu
  try dsimp only
  repeat' first
    | with_reducible assumption
    | (simp only [↓good_mk]; with_reducible apply Mod.Good.all)
    | with_reducible apply Mod.bump_good
    | with_reducible apply Mod.raise_good
    | with_reducible apply Mod.setOct_good
    | split

theorem streamFrame_good {m : Mod} (h : m.Good) (s : _) (port : _) (f : _) : (streamFrame s port f m).Good := by
  unfold streamFrame
  try dsimp only
  repeat' first
    | with_reducible assumption
    | intro _
    | (simp only [↓good_mk]; with_reducible apply Mod.Good.all)
    | with_reducible apply Mod.bump_good
    | with_reducible apply Mod.raise_good
    | with_reducible apply Mod.setStreamRt_good
    | with_reducible apply Mod.each_good
    | with_reducible apply fileAsdu_good
    | with_reducible apply good_ite
    | split

theorem ingestFrame_good {m : Mod} (h : m.Good) (f : _) (port : _) (overload : _) : (ingestFrame f port overload m).Good := by
  unfold ingestFrame
  try dsimp only
  repeat' first
    | with_reducible assumption
    | intro _
    | with_reducible apply Mod.bump_good
    | with_reducible apply streamFrame_good
    | with_reducible apply good_ite
    | split

theorem Mod.closeFiling_good {m : Mod} (h : m.Good) : (Mod.closeFiling m).Good := by
  unfold Mod.closeFiling
  try dsimp only
  repeat' first
    | with_reducible assumption
    | intro _
    | (simp only [↓good_mk]; with_reducible apply Mod.Good.all)
    | with_reducible apply good_ite

theorem deliverChannel_good {m : Mod} (h : m.Good) (s : _) (kf : _) (subs : _) (j : _) (c : _) : (deliverChannel s kf subs j c m).Good := by
  unfold deliverChannel
  try dsimp only
  repeat' first
    | with_reducible assumption
    | intro _
    | (simp only [↓good_mk]; with_reducible apply Mod.Good.all)
    | with_reducible apply Mod.set_good

theorem syncLostChange_good {m : Mod} (h : m.Good) (s : _) (subs : _) : (syncLostChange s subs m).Good := by
  unfold syncLostChange
  try dsimp only
  repeat' first
    | with_reducible assumption
    | intro _
    | with_reducible apply Mod.setStreamRt_good
    | with_reducible apply Mod.raise_good
    | with_reducible apply good_ite
    | split

theorem deliverStream_good {m : Mod} (h : m.Good) (s : _) : (deliverStream s m).Good := by
  unfold deliverStream
  try dsimp only
  repeat' first
    | with_reducible assumption
    | intro _
    | with_reducible apply Mod.setStreamRt_good
    | with_reducible apply Mod.bump_good
    | with_reducible apply Mod.each_good
    | with_reducible apply deliverChannel_good
    | with_reducible apply syncLostChange_good
    | with_reducible apply Mod.setBitAt_good
    | with_reducible apply good_ite

theorem Mod.deliverAll_good {m : Mod} (h : m.Good) : (Mod.deliverAll m).Good := by
  unfold Mod.deliverAll
  try dsimp only
  repeat' first
    | with_reducible assumption
    | intro _
    | (simp only [↓good_mk]; with_reducible apply Mod.Good.all)
    | with_reducible apply Mod.each_good
    | with_reducible apply deliverStream_good

theorem streamRunning_good {m : Mod} (h : m.Good) (s : _) : (streamRunning s m).Good := by
  unfold streamRunning
  try dsimp only
  repeat' first
    | with_reducible assumption
    | intro _
    | with_reducible apply Mod.set_good
    | with_reducible apply Mod.setBitAt_good
    | with_reducible apply Mod.raise_good
    | with_reducible apply good_ite

theorem streamLost_good {m : Mod} (h : m.Good) (s : _) : (streamLost s m).Good := by
  unfold streamLost
  try dsimp only
  repeat' first
    | with_reducible assumption
    | intro _
    | with_reducible apply Mod.set_good
    | with_reducible apply Mod.setBitAt_good
    | with_reducible apply Mod.raise_good
    | with_reducible apply good_ite

theorem substHoldExpiry_good {m : Mod} (h : m.Good) (c : _) : (substHoldExpiry c m).Good := by
  unfold substHoldExpiry
  try dsimp only
  repeat' first
    | with_reducible assumption
    | intro _
    | (simp only [↓good_mk]; with_reducible apply Mod.Good.all)
    | with_reducible apply good_ite
    | split

end Sys2Proof.Machine
end

