-- ==== Sys2Proof/Laws/GoodLast.lean ====
section
/-!
SUPPORT. The operations and commands of Machine/Last.lean keep a module sound.
-/
set_option linter.unusedSimpArgs false

namespace Sys2Proof.Machine

theorem Mod.setInactiveLast_good {m : Mod} (h : m.Good) (img : _) : (Mod.setInactiveLast m img).Good := by
  unfold Mod.setInactiveLast
  try dsimp only
  repeat' first
    | with_reducible assumption
    | intro _
    | (simp only [↓good_mk]; with_reducible apply Mod.Good.all)
    | with_reducible apply good_ite

theorem Mod.lastCrcs_good {m : Mod} (h : m.Good) : (Mod.lastCrcs m).Good := by
  unfold Mod.lastCrcs
  try dsimp only
  repeat' first
    | with_reducible assumption
    | intro _
    | with_reducible apply Mod.set_good

theorem Mod.loadStartLast_good {m : Mod} (h : m.Good) : (Mod.loadStartLast m).Good := by
  unfold Mod.loadStartLast
  try dsimp only
  repeat' first
    | with_reducible assumption
    | intro _
    | (simp only [↓good_mk]; with_reducible apply Mod.Good.all)
    | with_reducible apply Mod.set_good
    | with_reducible apply Mod.lastCrcs_good

theorem Mod.swapLast_good {m : Mod} (h : m.Good) (kS : _) : (Mod.swapLast m kS).Good := by
  unfold Mod.swapLast
  try dsimp only
  repeat' first
    | with_reducible assumption
    | intro _
    | (simp only [↓good_mk]; with_reducible apply Mod.Good.all)
    | with_reducible apply Mod.set_good
    | with_reducible apply Mod.raise_good
    | with_reducible apply Mod.lastCrcs_good

theorem Mod.endSwap_good {m : Mod} (h : m.Good) (refused : _) : (Mod.endSwap m refused).Good := by
  unfold Mod.endSwap
  try dsimp only
  repeat' first
    | with_reducible assumption
    | intro _
    | (simp only [↓good_mk]; with_reducible apply Mod.Good.all)
    | with_reducible apply Mod.set_good
    | with_reducible apply Mod.raise_good
    | with_reducible apply good_ite

theorem inactiveImageWrite_good {m : Mod} (h : m.Good) (p : _) (img : _) : (inactiveImageWrite p img m).Good := by
  unfold inactiveImageWrite
  try dsimp only
  repeat' first
    | with_reducible assumption
    | intro _
    | (simp only [↓good_mk]; with_reducible apply Mod.Good.all)
    | with_reducible apply Mod.report_good
    | with_reducible apply Mod.setInactiveLast_good
    | with_reducible apply Mod.set_good
    | with_reducible apply good_ite

theorem lastCheckWrite_good {m : Mod} (h : m.Good) (p : _) (v : _) : (lastCheckWrite p v m).Good := by
  unfold lastCheckWrite
  try dsimp only
  repeat' first
    | with_reducible assumption
    | intro _
    | (simp only [↓good_mk]; with_reducible apply Mod.Good.all)
    | with_reducible apply Mod.report_good
    | with_reducible apply good_ite

theorem lastStore_good {m : Mod} (h : m.Good) (p : _) (v : _) : (lastStore p v m).Good := by
  unfold lastStore
  try dsimp only
  repeat' first
    | with_reducible assumption
    | intro _
    | (simp only [↓good_mk]; with_reducible apply Mod.Good.all)
    | with_reducible apply Mod.report_good
    | with_reducible apply good_ite

theorem Mod.newRate_good {m : Mod} (h : m.Good) (v : _) : (Mod.newRate m v).Good := by
  unfold Mod.newRate
  try dsimp only
  repeat' first
    | with_reducible assumption
    | intro _
    | (simp only [↓good_mk]; with_reducible apply Mod.Good.all)
    | with_reducible apply Mod.set_good
    | with_reducible apply Mod.lastCrcs_good
    | with_reducible apply good_ite

theorem tickRateWrite_good {m : Mod} (h : m.Good) (p : _) (v : _) : (tickRateWrite p v m).Good := by
  unfold tickRateWrite
  try dsimp only
  repeat' first
    | with_reducible assumption
    | intro _
    | with_reducible apply Mod.report_good
    | with_reducible apply Mod.newRate_good
    | with_reducible refine Mod.stageAll_good_eq (by assumption) ?_
    | with_reducible apply Mod.stageAll_good
    | with_reducible apply good_ite

end Sys2Proof.Machine
end

