-- ==== Sys2Proof/Laws/GoodPhasor.lean ====
section
/-!
SUPPORT. The operations and commands of Machine/Phasor.lean keep a module sound.
-/
set_option linter.unusedSimpArgs false

namespace Sys2Proof.Machine

theorem Mod.setPhChan_good {m : Mod} (h : m.Good) (c : _) (x : _) : (Mod.setPhChan m c x).Good := by
  unfold Mod.setPhChan
  try dsimp only
  repeat' first
    | with_reducible assumption
    | intro _
    | (simp only [↓good_mk]; with_reducible apply Mod.Good.all)

theorem Mod.setGroup_good {m : Mod} (h : m.Good) (v : _) (x : _) : (Mod.setGroup m v x).Good := by
  unfold Mod.setGroup
  try dsimp only
  repeat' first
    | with_reducible assumption
    | intro _
    | (simp only [↓good_mk]; with_reducible apply Mod.Good.all)

theorem Mod.writePhasor_good {m : Mod} (h : m.Good) (c : _) (r : _) (ph : _) (h_ : _) (fresh : _) : (Mod.writePhasor m c r ph h_ fresh).Good := by
  unfold Mod.writePhasor
  try dsimp only
  repeat' first
    | with_reducible assumption
    | intro _
    | with_reducible apply Mod.setPhChan_good
    | with_reducible apply Mod.set_good

theorem phasorChannel_good {m : Mod} (h : m.Good) (c : _) : (phasorChannel c m).Good := by
  unfold phasorChannel
  try dsimp only
  repeat' first
    | with_reducible assumption
    | intro _
    | with_reducible apply Mod.writePhasor_good
    | with_reducible apply Mod.setPhChan_good
    | with_reducible apply good_ite

theorem Mod.phasors_good {m : Mod} (h : m.Good) : (Mod.phasors m).Good := by
  unfold Mod.phasors
  try dsimp only
  repeat' first
    | with_reducible assumption
    | intro _
    | with_reducible apply Mod.each_good
    | with_reducible apply phasorChannel_good

theorem Mod.sequences_good {m : Mod} (h : m.Good) : (Mod.sequences m).Good := by
  unfold Mod.sequences
  try dsimp only
  repeat' first
    | with_reducible assumption
    | intro _
    | (simp only [↓good_mk]; with_reducible apply Mod.Good.all)
    | with_reducible apply Mod.each_good
    | with_reducible apply Mod.set_good
    | with_reducible apply good_ite

theorem loopGroup_good {m : Mod} (h : m.Good) (old : _) (v : _) : (loopGroup old v m).Good := by
  unfold loopGroup
  try dsimp only
  repeat' first
    | with_reducible assumption
    | intro _
    | with_reducible apply Mod.setGroup_good
    | with_reducible apply Mod.setBitAt_good
    | with_reducible apply Mod.set_good
    | with_reducible apply good_ite

theorem Mod.loops_good {m : Mod} (h : m.Good) : (Mod.loops m).Good := by
  unfold Mod.loops
  try dsimp only
  repeat' first
    | with_reducible assumption
    | intro _
    | with_reducible apply Mod.each_good
    | with_reducible apply loopGroup_good

theorem Mod.writeFreq_good {m : Mod} (h : m.Good) (v : _) : (Mod.writeFreq m v).Good := by
  unfold Mod.writeFreq
  try dsimp only
  repeat' first
    | with_reducible assumption
    | (simp only [↓good_mk]; with_reducible apply Mod.Good.all)

theorem Mod.writeFreqs_good {m : Mod} (h : m.Good) : (Mod.writeFreqs m).Good := by
  unfold Mod.writeFreqs
  try dsimp only
  repeat' first
    | with_reducible assumption
    | intro _
    | (simp only [↓good_mk]; with_reducible apply Mod.Good.all)
    | with_reducible apply Mod.each_good
    | with_reducible apply Mod.writeFreq_good

theorem filterPhase_good {m : Mod} (h : m.Good) : (filterPhase m).Good := by
  unfold filterPhase
  try dsimp only
  repeat' first
    | with_reducible assumption
    | (simp only [↓good_mk]; with_reducible apply Mod.Good.all)
    | with_reducible apply Mod.writeFreqs_good
    | with_reducible apply Mod.flushCleared_good
    | with_reducible apply Mod.filterChain_good
    | with_reducible apply Mod.phasors_good
    | with_reducible apply Mod.sequences_good
    | with_reducible apply Mod.loops_good
    | with_reducible apply good_ite

theorem groupLocked_good {m : Mod} (h : m.Good) (v : _) : (groupLocked v m).Good := by
  unfold groupLocked
  try dsimp only
  repeat' first
    | with_reducible assumption
    | with_reducible apply Mod.set_good
    | with_reducible apply Mod.setGroup_good
    | with_reducible apply Mod.setBitAt_good
    | with_reducible apply Mod.writeFreq_good
    | with_reducible apply Mod.raise_good
    | with_reducible apply good_ite

theorem Mod.unlockBits_good {m : Mod} (h : m.Good) (v : _) : (Mod.unlockBits m v).Good := by
  unfold Mod.unlockBits
  try dsimp only
  repeat' first
    | with_reducible assumption
    | intro _
    | with_reducible apply Mod.setBitAt_good

theorem lockLost_good {m : Mod} (h : m.Good) (v : _) : (lockLost v m).Good := by
  unfold lockLost
  try dsimp only
  repeat' first
    | with_reducible assumption
    | with_reducible apply Mod.set_good
    | with_reducible apply Mod.setGroup_good
    | with_reducible apply Mod.unlockBits_good
    | with_reducible apply Mod.writeFreq_good
    | with_reducible apply Mod.bump_good
    | with_reducible apply Mod.raise_good
    | with_reducible apply good_ite

theorem signalLostHold_good {m : Mod} (h : m.Good) (v : _) : (signalLostHold v m).Good := by
  unfold signalLostHold
  try dsimp only
  repeat' first
    | with_reducible assumption
    | with_reducible apply Mod.set_good
    | with_reducible apply Mod.setGroup_good
    | with_reducible apply Mod.unlockBits_good
    | with_reducible apply Mod.writeFreq_good
    | with_reducible apply Mod.raise_good
    | with_reducible apply good_ite

theorem Mod.reacquire_good {m : Mod} (h : m.Good) (v : _) : (Mod.reacquire m v).Good := by
  unfold Mod.reacquire
  try dsimp only
  repeat' first
    | with_reducible assumption
    | with_reducible apply Mod.set_good
    | with_reducible apply Mod.setGroup_good
    | with_reducible apply Mod.writeFreq_good

theorem holdReacquire_good {m : Mod} (h : m.Good) (v : _) : (holdReacquire v m).Good := by
  unfold holdReacquire
  try dsimp only
  repeat' first
    | with_reducible assumption
    | intro _
    | with_reducible apply Mod.reacquire_good
    | with_reducible apply good_ite

theorem fallbackEntered_good {m : Mod} (h : m.Good) (v : _) : (fallbackEntered v m).Good := by
  unfold fallbackEntered
  try dsimp only
  repeat' first
    | with_reducible assumption
    | with_reducible apply Mod.set_good
    | with_reducible apply Mod.writeFreq_good
    | with_reducible apply Mod.raise_good
    | with_reducible apply good_ite

theorem fallbackReacquire_good {m : Mod} (h : m.Good) (v : _) : (fallbackReacquire v m).Good := by
  unfold fallbackReacquire
  try dsimp only
  repeat' first
    | with_reducible assumption
    | intro _
    | with_reducible apply Mod.reacquire_good
    | with_reducible apply good_ite

theorem freqLimitRun_good {m : Mod} (h : m.Good) (v : _) : (freqLimitRun v m).Good := by
  unfold freqLimitRun
  try dsimp only
  repeat' first
    | with_reducible assumption
    | intro _
    | with_reducible apply Mod.setGroup_good
    | with_reducible apply Mod.raise_good
    | with_reducible apply good_ite

theorem rocofBecomesValid_good {m : Mod} (h : m.Good) (v : _) : (rocofBecomesValid v m).Good := by
  unfold rocofBecomesValid
  try dsimp only
  repeat' first
    | with_reducible assumption
    | with_reducible apply Mod.setGroup_good
    | with_reducible apply Mod.setBitAt_good
    | with_reducible apply Mod.set_good
    | with_reducible apply Mod.writeFreq_good
    | with_reducible apply good_ite

theorem Mod.keepBefore_good {m : Mod} (h : m.Good) (v : _) : (Mod.keepBefore m v).Good := by
  unfold Mod.keepBefore
  try dsimp only
  repeat' first
    | with_reducible assumption
    | (simp only [↓good_mk]; with_reducible apply Mod.Good.all)
    | with_reducible apply good_ite

theorem Mod.enableGroup_good {m : Mod} (h : m.Good) (v : _) : (Mod.enableGroup m v).Good := by
  unfold Mod.enableGroup
  try dsimp only
  repeat' first
    | with_reducible assumption
    | with_reducible apply Mod.keepBefore_good
    | with_reducible apply Mod.set_good
    | with_reducible apply Mod.setGroup_good

theorem Mod.disableGroup_good {m : Mod} (h : m.Good) (v : _) : (Mod.disableGroup m v).Good := by
  unfold Mod.disableGroup
  try dsimp only
  repeat' first
    | with_reducible assumption
    | with_reducible apply Mod.keepBefore_good
    | with_reducible apply Mod.set_good
    | with_reducible apply Mod.setGroup_good
    | with_reducible apply Mod.unlockBits_good

end Sys2Proof.Machine
end

