-- ==== Sys2Proof/Laws/GoodPorts.lean ====
section
/-!
SUPPORT. The operations and commands of Machine/Ports.lean keep a module sound.
-/
set_option linter.unusedSimpArgs false

namespace Sys2Proof.Machine

theorem Mod.setPs_good {m : Mod} (h : m.Good) (p : _) (st : _) : (Mod.setPs m p st).Good := by
  unfold Mod.setPs
  try dsimp only
  repeat' first
    | with_reducible assumption
    | intro _
    | with_reducible apply Mod.set_good
    | with_reducible apply Mod.setPortUp_good

theorem Mod.leaveUp_good {m : Mod} (h : m.Good) (p : _) (st : _) : (Mod.leaveUp m p st).Good := by
  unfold Mod.leaveUp
  try dsimp only
  repeat' first
    | with_reducible assumption
    | intro _
    | with_reducible apply Mod.setPs_good
    | with_reducible apply Mod.flushPort_good
    | with_reducible apply Mod.macFlush_good
    | with_reducible apply good_ite

theorem Mod.wakeGroup_good {m : Mod} (h : m.Good) (j : _) (f : _) : (Mod.wakeGroup m j f).Good := by
  unfold Mod.wakeGroup
  try dsimp only
  repeat' first
    | with_reducible assumption
    | intro _
    | with_reducible apply Mod.set_good
    | with_reducible apply Mod.bump_good
    | with_reducible apply Mod.raise_good
    | with_reducible apply good_ite

theorem Mod.portOn_good {m : Mod} (h : m.Good) (p : _) : (Mod.portOn m p).Good := by
  unfold Mod.portOn
  try dsimp only
  repeat' first
    | with_reducible assumption
    | intro _
    | with_reducible apply Mod.setPs_good
    | with_reducible apply Mod.wakeGroup_good
    | with_reducible apply good_ite

theorem Mod.retrain_good {m : Mod} (h : m.Good) (l : _) : (Mod.retrain m l).Good := by
  unfold Mod.retrain
  try dsimp only
  repeat' first
    | with_reducible assumption
    | intro _
    | with_reducible apply Mod.set_good

theorem laneModeWrite_good {m : Mod} (h : m.Good) (path : _) (l : _) (v : _) : (laneModeWrite path l v m).Good := by
  unfold laneModeWrite
  try dsimp only
  repeat' first
    | with_reducible assumption
    | intro _
    | with_reducible apply Mod.report_good
    | with_reducible apply Mod.served_good
    | with_reducible apply Mod.each_good
    | with_reducible apply Mod.leaveUp_good
    | with_reducible apply Mod.setPort_good
    | with_reducible apply Mod.set_good
    | with_reducible apply Mod.retrain_good
    | with_reducible apply Mod.portOn_good
    | with_reducible apply good_ite

theorem lanePolarityWrite_good {m : Mod} (h : m.Good) (path : _) (l : _) (v : _) : (lanePolarityWrite path l v m).Good := by
  unfold lanePolarityWrite
  try dsimp only
  repeat' first
    | with_reducible assumption
    | intro _
    | with_reducible apply Mod.report_good
    | with_reducible apply Mod.served_good
    | with_reducible apply Mod.set_good
    | with_reducible apply Mod.retrain_good
    | with_reducible apply good_ite

theorem portEnableWrite_good {m : Mod} (h : m.Good) (path : _) (p : _) (v : _) : (portEnableWrite path p v m).Good := by
  unfold portEnableWrite
  try dsimp only
  repeat' first
    | with_reducible assumption
    | intro _
    | with_reducible apply Mod.report_good
    | with_reducible apply Mod.served_good
    | with_reducible apply Mod.set_good
    | with_reducible apply Mod.leaveUp_good
    | with_reducible apply Mod.portOn_good
    | with_reducible apply good_ite

theorem Mod.wakePort_good {m : Mod} (h : m.Good) (p : _) (f : _) : (Mod.wakePort m p f).Good := by
  unfold Mod.wakePort
  try dsimp only
  repeat' first
    | with_reducible assumption
    | intro _
    | with_reducible apply Mod.set_good
    | with_reducible apply Mod.setPs_good
    | with_reducible apply Mod.raise_good
    | with_reducible apply Mod.wakeGroup_good
    | with_reducible apply good_ite

theorem portDormantWrite_good {m : Mod} (h : m.Good) (path : _) (p : _) (v : _) : (portDormantWrite path p v m).Good := by
  unfold portDormantWrite
  try dsimp only
  repeat' first
    | with_reducible assumption
    | intro _
    | with_reducible apply Mod.report_good
    | with_reducible apply Mod.served_good
    | with_reducible apply Mod.set_good
    | with_reducible apply Mod.wakePort_good
    | with_reducible apply Mod.leaveUp_good
    | with_reducible apply good_ite

theorem Mod.equalise_good {m : Mod} (h : m.Good) (l : _) : (Mod.equalise m l).Good := by
  unfold Mod.equalise
  try dsimp only
  repeat' first
    | with_reducible assumption
    | intro _
    | simp only [↓good_mk]
    | with_reducible refine Mod.draw_good_eq (by assumption) ?_
    | with_reducible apply Mod.draw_good
    | with_reducible apply Mod.set_good
    | with_reducible apply Mod.setOct_good
    | with_reducible apply foldl_good_fst

theorem portLinkUp_good {m : Mod} (h : m.Good) (p : _) (bad : _) : (portLinkUp p bad m).Good := by
  unfold portLinkUp
  try dsimp only
  repeat' first
    | with_reducible assumption
    | intro _
    | with_reducible apply Mod.raise_good
    | with_reducible apply Mod.set_good
    | with_reducible apply Mod.equalise_good
    | with_reducible apply Mod.setPort_good
    | with_reducible apply Mod.setPs_good
    | with_reducible apply good_ite
    | split

theorem portLinkLoss_good {m : Mod} (h : m.Good) (p : _) (cause : _) : (portLinkLoss p cause m).Good := by
  unfold portLinkLoss
  try dsimp only
  repeat' first
    | with_reducible assumption
    | intro _
    | with_reducible apply Mod.setPort_good
    | with_reducible apply Mod.bump_good
    | with_reducible apply Mod.leaveUp_good
    | with_reducible apply Mod.raise_good
    | with_reducible apply good_ite

theorem laneCdrLoss_good {m : Mod} (h : m.Good) (l : _) : (laneCdrLoss l m).Good := by
  unfold laneCdrLoss
  try dsimp only
  repeat' first
    | with_reducible assumption
    | intro _
    | with_reducible apply Mod.set_good
    | with_reducible apply Mod.bump_good
    | with_reducible apply good_ite

theorem laneGroupGate_good {m : Mod} (h : m.Good) (j : _) : (laneGroupGate j m).Good := by
  unfold laneGroupGate
  try dsimp only
  repeat' first
    | with_reducible assumption
    | intro _
    | with_reducible apply Mod.set_good
    | with_reducible apply Mod.raise_good
    | with_reducible apply good_ite

theorem eyeMonitor_good {m : Mod} (h : m.Good) (l : _) (height : _) (width : _) : (eyeMonitor l height width m).Good := by
  unfold eyeMonitor
  try dsimp only
  repeat' first
    | with_reducible assumption
    | intro _
    | with_reducible apply Mod.set_good
    | with_reducible apply Mod.equalise_good
    | with_reducible apply Mod.raise_good
    | with_reducible apply good_ite

theorem pauseFrameRx_good {m : Mod} (h : m.Good) (p : _) (quanta : _) : (pauseFrameRx p quanta m).Good := by
  unfold pauseFrameRx
  try dsimp only
  repeat' first
    | with_reducible assumption
    | intro _
    | with_reducible apply Mod.bump_good
    | with_reducible apply Mod.setPort_good
    | with_reducible apply good_ite

theorem pauseExpiry_good {m : Mod} (h : m.Good) (p : _) : (pauseExpiry p m).Good := by
  unfold pauseExpiry
  try dsimp only
  repeat' first
    | with_reducible assumption
    | intro _
    | with_reducible apply Mod.setPort_good

theorem pauseXoffRepeat_good {m : Mod} (h : m.Good) (p : _) : (pauseXoffRepeat p m).Good := by
  unfold pauseXoffRepeat
  try dsimp only
  repeat' first
    | with_reducible assumption
    | intro _
    | with_reducible apply Mod.bump_good
    | with_reducible apply Mod.emit_good
    | with_reducible apply good_ite

theorem Mod.enterDup_good {m : Mod} (h : m.Good) (i : _) (e : _) : (Mod.enterDup m i e).Good := by
  unfold Mod.enterDup
  try dsimp only
  repeat' first
    | with_reducible assumption
    | intro _
    | with_reducible apply Mod.setDupTable_good
    | with_reducible apply Mod.bump_good
    | with_reducible apply good_ite

theorem dupEntryForget_good {m : Mod} (h : m.Good) (i : _) : (dupEntryForget i m).Good := by
  unfold dupEntryForget
  try dsimp only
  repeat' first
    | with_reducible assumption
    | intro _
    | with_reducible apply Mod.setDupTable_good

theorem Mod.admitCopy_good {m : Mod} (h : m.Good) (f : _) : (Mod.admitCopy m f).Good := by
  unfold Mod.admitCopy
  try dsimp only
  repeat' first
    | with_reducible assumption
    | intro _
    | (simp only [↓good_mk]; with_reducible apply Mod.Good.all)
    | with_reducible apply Mod.place_good
    | with_reducible apply Mod.swSync_good

theorem Mod.runFilters_good {m : Mod} (h : m.Good) (f : _) (good : _) : (Mod.runFilters m f good).Good := by
  unfold Mod.runFilters
  try dsimp only
  repeat' first
    | with_reducible assumption
    | intro _
    | with_reducible apply Mod.setPort_good
    | with_reducible apply Mod.each_good
    | with_reducible apply Mod.bump_good
    | with_reducible apply Mod.offerTrigger_good
    | with_reducible apply Mod.admitCopy_good
    | with_reducible apply Mod.wakePort_good
    | split

theorem Mod.rxBad_good {m : Mod} (h : m.Good) (p : _) : (Mod.rxBad m p).Good := by
  unfold Mod.rxBad
  try dsimp only
  repeat' first
    | with_reducible assumption
    | intro _
    | with_reducible apply Mod.badEnd_good
    | with_reducible apply Mod.endRx_good
    | with_reducible apply Mod.swSync_good
    | with_reducible apply good_ite
    | split

theorem Mod.rxGood_good {m : Mod} (h : m.Good) (f : _) : (Mod.rxGood m f).Good := by
  unfold Mod.rxGood
  try dsimp only
  repeat' first
    | with_reducible assumption
    | intro _
    | with_reducible apply Mod.each_good
    | with_reducible apply Mod.bump_good
    | with_reducible apply Mod.badEnd_good
    | with_reducible apply Mod.endRx_good
    | with_reducible apply Mod.dropReception_good
    | with_reducible apply Mod.goodEnd_good
    | with_reducible apply Mod.classify_good
    | with_reducible apply Mod.enterDup_good
    | with_reducible apply Mod.swSync_good
    | with_reducible apply good_ite
    | split

theorem frameReceived_good {m : Mod} (h : m.Good) (f : _) (fcs : _) : (frameReceived f fcs m).Good := by
  unfold frameReceived
  try dsimp only
  repeat' first
    | with_reducible assumption
    | intro _
    | with_reducible apply Mod.runFilters_good
    | with_reducible apply Mod.bump_good
    | with_reducible apply Mod.rxBad_good
    | with_reducible apply Mod.rxGood_good
    | with_reducible apply good_ite

end Sys2Proof.Machine
end

