-- ==== Sys2Proof/Laws/GoodTenantImage.lean ====
section
/-!
SUPPORT. The operations and commands of Machine/TenantImage.lean keep a module sound.
-/
set_option linter.unusedSimpArgs false

namespace Sys2Proof.Machine

theorem imageSave_good {m : Mod} (h : m.Good) (p : _) (v : _) : (imageSave p v m).Good := by
  unfold imageSave
  try dsimp only
  repeat' first
    | with_reducible assumption
    | intro _
    | (simp only [↓good_mk]; with_reducible apply Mod.Good.all)
    | with_reducible apply Mod.report_good
    | with_reducible apply Mod.set_good
    | with_reducible apply good_ite

theorem imageSegmentRead_good {m : Mod} (h : m.Good) (p : _) (n : _) : (imageSegmentRead p n m).Good := by
  unfold imageSegmentRead
  try dsimp only
  repeat' first
    | with_reducible assumption
    | intro _
    | (simp only [↓good_mk]; with_reducible apply Mod.Good.all)
    | with_reducible apply Mod.report_good
    | with_reducible apply Mod.emit_good
    | with_reducible apply Mod.set_good
    | with_reducible apply Mod.raise_good
    | with_reducible apply good_ite

theorem imageSegmentWrite_good {m : Mod} (h : m.Good) (p : _) (offset : _) (bytes : _) (last : _) : (imageSegmentWrite p offset bytes last m).Good := by
  unfold imageSegmentWrite
  try dsimp only
  repeat' first
    | with_reducible assumption
    | intro _
    | (simp only [↓good_mk]; with_reducible apply Mod.Good.all)
    | with_reducible apply Mod.report_good
    | with_reducible apply Mod.set_good
    | with_reducible apply Mod.wipe_good
    | with_reducible apply Mod.raise_good
    | with_reducible apply good_ite

end Sys2Proof.Machine
end

