-- ==== Sys2Proof/Laws/GoodCommitEnd.lean ====
section
/-!
SUPPORT. The operations and commands of Machine/CommitEnd.lean keep a module sound.
-/
set_option linter.unusedSimpArgs false

namespace Sys2Proof.Machine

theorem Mod.tenantOutcome_good {m : Mod} (h : m.Good) (c : _) (code : _) : (Mod.tenantOutcome m c code).Good := by
  unfold Mod.tenantOutcome
  try dsimp only
  repeat' first
    | with_reducible assumption
    | intro _
    | with_reducible apply Mod.setTenant_good
    | with_reducible apply Mod.identity_good
    | with_reducible apply good_ite

theorem Mod.swapsEnd_good {m : Mod} (h : m.Good) (id : _) (refused : _) : (Mod.swapsEnd m id refused).Good := by
  unfold Mod.swapsEnd
  try dsimp only
  repeat' first
    | with_reducible assumption
    | intro _
    | with_reducible apply Mod.endSwap_good
    | with_reducible apply Mod.each_good
    | with_reducible apply Mod.endProfileSwap_good
    | with_reducible apply good_ite

theorem Mod.closeCommit_good {m : Mod} (h : m.Good) (id : _) (st : _) (code : _) : (Mod.closeCommit m id st code).Good := by
  unfold Mod.closeCommit
  try dsimp only
  repeat' first
    | with_reducible assumption
    | intro _
    | with_reducible apply Mod.mapCommit_good

theorem Mod.restoreEnds_good {m : Mod} (h : m.Good) (c : _) : (Mod.restoreEnds m c).Good := by
  unfold Mod.restoreEnds
  try dsimp only
  repeat' first
    | with_reducible assumption
    | intro _
    | with_reducible apply Mod.set_good
    | with_reducible apply good_ite

theorem Mod.refuseCommit_good {m : Mod} (h : m.Good) (c : _) (code : _) (rank : _) : (Mod.refuseCommit m c code rank).Good := by
  unfold Mod.refuseCommit
  try dsimp only
  repeat' first
    | with_reducible assumption
    | intro _
    | with_reducible apply Mod.closeCommit_good
    | with_reducible apply Mod.raise_good
    | with_reducible apply Mod.swapsEnd_good
    | with_reducible apply Mod.restoreEnds_good
    | with_reducible apply Mod.each_good
    | with_reducible apply Mod.set_good
    | with_reducible apply Mod.tenantOutcome_good

theorem Mod.cancelCommit_good {m : Mod} (h : m.Good) (c : _) (code : _) (rank : _) : (Mod.cancelCommit m c code rank).Good := by
  unfold Mod.cancelCommit
  try dsimp only
  repeat' first
    | with_reducible assumption
    | intro _
    | with_reducible apply Mod.closeCommit_good
    | with_reducible apply Mod.raise_good
    | with_reducible apply Mod.swapsEnd_good
    | with_reducible apply Mod.restoreEnds_good
    | with_reducible apply Mod.each_good
    | with_reducible apply Mod.set_good
    | with_reducible apply Mod.tenantOutcome_good

theorem Mod.missCommit_good {m : Mod} (h : m.Good) (c : _) (cause : _) : (Mod.missCommit m c cause).Good := by
  unfold Mod.missCommit
  try dsimp only
  repeat' first
    | with_reducible assumption
    | intro _
    | with_reducible apply Mod.closeCommit_good
    | with_reducible apply Mod.bump_good
    | with_reducible apply Mod.raise_good
    | with_reducible apply Mod.swapsEnd_good
    | with_reducible apply Mod.restoreEnds_good
    | with_reducible apply Mod.each_good
    | with_reducible apply Mod.set_good
    | with_reducible apply Mod.tenantOutcome_good

theorem Mod.judgeCommits_good {m : Mod} (h : m.Good) (formed : _) (own : _) (ranks : _) : (Mod.judgeCommits m formed own ranks).Good := by
  unfold Mod.judgeCommits
  try dsimp only
  repeat' first
    | with_reducible assumption
    | intro _
    | with_reducible apply Mod.each_good
    | with_reducible apply Mod.mapCommit_good
    | with_reducible apply Mod.bump_good
    | with_reducible apply Mod.raise_good
    | with_reducible apply Mod.tenantOutcome_good
    | with_reducible apply good_ite

theorem Mod.missArmed_good {m : Mod} (h : m.Good) (cause : _) : (Mod.missArmed m cause).Good := by
  unfold Mod.missArmed
  try dsimp only
  repeat' first
    | with_reducible assumption
    | intro _
    | with_reducible apply Mod.each_good
    | with_reducible apply Mod.missCommit_good

theorem Mod.freshTick_good {m : Mod} (h : m.Good) : (Mod.freshTick m).Good := by
  unfold Mod.freshTick
  try dsimp only
  repeat' first
    | with_reducible assumption
    | intro _
    | (simp only [↓good_mk]; with_reducible apply Mod.Good.all)
    | with_reducible apply Mod.each_good
    | with_reducible apply Mod.clearHistory_good
    | with_reducible apply Mod.restartSlot_good

end Sys2Proof.Machine
end

