-- ==== Sys2Proof/Laws/GoodDigest.lean ====
section
/-!
SUPPORT. The operations and commands of Machine/Digest.lean keep a module sound.
-/
set_option linter.unusedSimpArgs false

namespace Sys2Proof.Machine

theorem Mod.stepDone_good {m : Mod} (h : m.Good) (n : _) : (Mod.stepDone m n).Good := by
  unfold Mod.stepDone
  try dsimp only
  repeat' first
    | with_reducible assumption
    | intro _
    | with_reducible refine Mod.draw_good_eq (by assumption) ?_
    | with_reducible apply Mod.draw_good
    | with_reducible apply Mod.setOct_good
    | with_reducible apply Mod.set_good
    | with_reducible apply good_ite

theorem Mod.joined_good {m : Mod} (h : m.Good) : (Mod.joined m).Good := by
  unfold Mod.joined
  try dsimp only
  repeat' first
    | with_reducible assumption
    | intro _
    | with_reducible apply Mod.stepDone_good
    | with_reducible apply Mod.raise_good
    | with_reducible apply good_ite

end Sys2Proof.Machine
end

