-- ==== Sys2Proof/Laws/GoodLace.lean ====
section
/-!
SUPPORT. The operations and commands of Machine/Lace.lean keep a module sound.
-/
set_option linter.unusedSimpArgs false

namespace Sys2Proof.Machine

theorem Mod.gates_good {m : Mod} (h : m.Good) : (Mod.gates m).Good := by
  unfold Mod.gates
  try dsimp only
  repeat' first
    | with_reducible assumption
    | intro _
    | with_reducible apply Mod.set_good

theorem Mod.setDrive_good {m : Mod} (h : m.Good) (d : _) : (Mod.setDrive m d).Good := by
  unfold Mod.setDrive
  try dsimp only
  repeat' first
    | with_reducible assumption
    | intro _
    | (simp only [↓good_mk]; with_reducible apply Mod.Good.all)
    | with_reducible apply Mod.emit_good
    | with_reducible apply good_ite

theorem Mod.followLines_good {m : Mod} (h : m.Good) : (Mod.followLines m).Good := by
  unfold Mod.followLines
  try dsimp only
  repeat' first
    | with_reducible assumption
    | intro _
    | with_reducible apply Mod.set_good
    | with_reducible apply Mod.gates_good
    | with_reducible apply good_ite

theorem Mod.releaseClaim_good {m : Mod} (h : m.Good) (cause : _) : (Mod.releaseClaim m cause).Good := by
  unfold Mod.releaseClaim
  try dsimp only
  repeat' first
    | with_reducible assumption
    | intro _
    | (simp only [↓good_mk]; with_reducible apply Mod.Good.all)
    | with_reducible apply Mod.setDrive_good
    | with_reducible apply Mod.set_good
    | with_reducible apply Mod.raise_good
    | with_reducible apply Mod.gates_good
    | with_reducible apply good_ite

theorem Mod.laceOff_good {m : Mod} (h : m.Good) : (Mod.laceOff m).Good := by
  unfold Mod.laceOff
  try dsimp only
  repeat' first
    | with_reducible assumption
    | intro _
    | with_reducible apply Mod.setDrive_good
    | with_reducible apply Mod.set_good
    | with_reducible apply Mod.gates_good

theorem Mod.laceAlive_good {m : Mod} (h : m.Good) : (Mod.laceAlive m).Good := by
  unfold Mod.laceAlive
  try dsimp only
  repeat' first
    | with_reducible assumption
    | intro _
    | (simp only [↓good_mk]; with_reducible apply Mod.Good.all)
    | with_reducible apply Mod.setDrive_good
    | with_reducible apply Mod.set_good
    | with_reducible apply Mod.gates_good
    | with_reducible apply good_ite

theorem Mod.setLine_good {m : Mod} (h : m.Good) (r : _) (st : _) : (Mod.setLine m r st).Good := by
  unfold Mod.setLine
  try dsimp only
  repeat' first
    | with_reducible assumption
    | intro _
    | with_reducible apply Mod.set_good

theorem Mod.claimContend_good {m : Mod} (h : m.Good) (r : _) : (Mod.claimContend m r).Good := by
  unfold Mod.claimContend
  try dsimp only
  repeat' first
    | with_reducible assumption
    | with_reducible apply Mod.bump_good
    | with_reducible apply Mod.raise_good
    | with_reducible apply Mod.releaseClaim_good
    | with_reducible apply Mod.followLines_good
    | with_reducible apply good_ite

theorem Mod.driveClaim_good {m : Mod} (h : m.Good) : (Mod.driveClaim m).Good := by
  unfold Mod.driveClaim
  try dsimp only
  repeat' first
    | with_reducible assumption
    | intro _
    | with_reducible apply Mod.setDrive_good
    | with_reducible apply Mod.set_good
    | with_reducible apply Mod.bump_good
    | with_reducible apply Mod.raise_good
    | with_reducible apply Mod.followLines_good
    | with_reducible apply Mod.each_good
    | with_reducible apply Mod.claimContend_good
    | with_reducible apply good_ite

theorem laceClaimDecoded_good {m : Mod} (h : m.Good) (r : _) : (laceClaimDecoded r m).Good := by
  unfold laceClaimDecoded
  try dsimp only
  repeat' first
    | with_reducible assumption
    | (simp only [↓good_mk]; with_reducible apply Mod.Good.all)
    | with_reducible apply Mod.setLine_good
    | with_reducible apply Mod.followLines_good
    | with_reducible apply Mod.claimContend_good
    | with_reducible apply Mod.gates_good
    | with_reducible apply good_ite

theorem laceAliveDecoded_good {m : Mod} (h : m.Good) (r : _) : (laceAliveDecoded r m).Good := by
  unfold laceAliveDecoded
  try dsimp only
  repeat' first
    | with_reducible assumption
    | intro _
    | with_reducible apply Mod.setLine_good
    | with_reducible apply Mod.followLines_good
    | with_reducible apply good_ite

theorem lacePatternLost_good {m : Mod} (h : m.Good) (r : _) : (lacePatternLost r m).Good := by
  unfold lacePatternLost
  try dsimp only
  repeat' first
    | with_reducible assumption
    | intro _
    | with_reducible apply Mod.setLine_good
    | with_reducible apply Mod.followLines_good
    | with_reducible apply good_ite

theorem laceDeadTimeout_good {m : Mod} (h : m.Good) (r : _) : (laceDeadTimeout r m).Good := by
  unfold laceDeadTimeout
  try dsimp only
  repeat' first
    | with_reducible assumption
    | intro _
    | with_reducible apply Mod.setLine_good
    | with_reducible apply Mod.followLines_good
    | with_reducible apply good_ite

theorem Mod.laceFault_good {m : Mod} (h : m.Good) (b : _) (r : _) : (Mod.laceFault m b r).Good := by
  unfold Mod.laceFault
  try dsimp only
  repeat' first
    | with_reducible assumption
    | intro _
    | (simp only [↓good_mk]; with_reducible apply Mod.Good.all)
    | with_reducible apply Mod.set_good
    | with_reducible apply Mod.raise_good
    | with_reducible apply Mod.followLines_good
    | with_reducible apply good_ite

theorem laceLoopbackFault_good {m : Mod} (h : m.Good) : (laceLoopbackFault m).Good := by
  unfold laceLoopbackFault
  try dsimp only
  repeat' first
    | with_reducible assumption
    | intro _
    | with_reducible apply Mod.laceFault_good
    | with_reducible apply good_ite

theorem laceViewFault_good {m : Mod} (h : m.Good) (r : _) : (laceViewFault r m).Good := by
  unfold laceViewFault
  try dsimp only
  repeat' first
    | with_reducible assumption
    | intro _
    | with_reducible apply Mod.laceFault_good
    | with_reducible apply good_ite

theorem laceFaultClear_good {m : Mod} (h : m.Good) : (laceFaultClear m).Good := by
  unfold laceFaultClear
  try dsimp only
  repeat' first
    | with_reducible assumption
    | intro _
    | with_reducible apply Mod.set_good
    | with_reducible apply Mod.followLines_good
    | with_reducible apply good_ite

theorem laceGeneratorTimeout_good {m : Mod} (h : m.Good) : (laceGeneratorTimeout m).Good := by
  unfold laceGeneratorTimeout
  try dsimp only
  repeat' first
    | with_reducible assumption
    | intro _
    | with_reducible apply Mod.laceOff_good

theorem foreignClaimAlarm_good {m : Mod} (h : m.Good) (r : _) : (foreignClaimAlarm r m).Good := by
  unfold foreignClaimAlarm
  try dsimp only
  repeat' first
    | with_reducible assumption
    | intro _
    | with_reducible apply Mod.raise_good
    | with_reducible apply good_ite

end Sys2Proof.Machine
end

