-- ==== Sys2Proof/Laws/GoodTime.lean ====
section
/-!
SUPPORT. The operations and commands of Machine/Time.lean keep a module sound.
-/
set_option linter.unusedSimpArgs false

namespace Sys2Proof.Machine

theorem Mod.setTimeSrc_good {m : Mod} (h : m.Good) (j : _) (x : _) : (Mod.setTimeSrc m j x).Good := by
  unfold Mod.setTimeSrc
  try dsimp only
  repeat' first
    | with_reducible assumption
    | intro _
    | (simp only [↓good_mk]; with_reducible apply Mod.Good.all)

theorem Mod.moveTime_good {m : Mod} (h : m.Good) (x : _) : (Mod.moveTime m x).Good := by
  unfold Mod.moveTime
  try dsimp only
  repeat' first
    | with_reducible assumption
    | intro _
    | (simp only [↓good_mk]; with_reducible apply Mod.Good.all)
    | with_reducible apply Mod.each_good
    | with_reducible apply Mod.set_good
    | with_reducible apply Mod.markTick_good
    | with_reducible apply good_ite

theorem Mod.stepApplied_good {m : Mod} (h : m.Good) (x : _) : (Mod.stepApplied m x).Good := by
  unfold Mod.stepApplied
  try dsimp only
  repeat' first
    | with_reducible assumption
    | intro _
    | (simp only [↓good_mk]; with_reducible apply Mod.Good.all)
    | with_reducible apply Mod.moveTime_good
    | with_reducible apply Mod.bump_good
    | with_reducible apply Mod.set_good
    | with_reducible apply Mod.setBitAt_good
    | with_reducible apply Mod.raise_good

theorem Mod.stepDropped_good {m : Mod} (h : m.Good) : (Mod.stepDropped m).Good := by
  unfold Mod.stepDropped
  try dsimp only
  repeat' first
    | with_reducible assumption
    | intro _
    | (simp only [↓good_mk]; with_reducible apply Mod.Good.all)

theorem Mod.cancelStep_good {m : Mod} (h : m.Good) : (Mod.cancelStep m).Good := by
  unfold Mod.cancelStep
  try dsimp only
  repeat' first
    | with_reducible assumption
    | intro _
    | (simp only [↓good_mk]; with_reducible apply Mod.Good.all)
    | with_reducible apply Mod.each_good
    | with_reducible apply Mod.sendCommit_good
    | with_reducible apply Mod.cancelCommit_good

theorem Mod.requestStep_good {m : Mod} (h : m.Good) (x : _) : (Mod.requestStep m x).Good := by
  unfold Mod.requestStep
  try dsimp only
  repeat' first
    | with_reducible assumption
    | intro _
    | with_reducible apply Mod.moveTime_good
    | with_reducible apply Mod.bump_good
    | with_reducible apply Mod.set_good
    | with_reducible apply Mod.raise_good
    | with_reducible apply Mod.proposeOwn_good
    | with_reducible apply good_ite

theorem Mod.servo_good {m : Mod} (h : m.Good) : (Mod.servo m).Good := by
  unfold Mod.servo
  try dsimp only
  repeat' first
    | with_reducible assumption
    | intro _
    | (simp only [↓good_mk]; with_reducible apply Mod.Good.all)
    | with_reducible apply Mod.requestStep_good
    | with_reducible apply good_ite

theorem Mod.select_good {m : Mod} (h : m.Good) (j : _) : (Mod.select m j).Good := by
  unfold Mod.select
  try dsimp only
  repeat' first
    | with_reducible assumption
    | intro _
    | with_reducible apply Mod.set_good

theorem Mod.enterLocked_good {m : Mod} (h : m.Good) : (Mod.enterLocked m).Good := by
  unfold Mod.enterLocked
  try dsimp only
  repeat' first
    | with_reducible assumption
    | intro _
    | (simp only [↓good_mk]; with_reducible apply Mod.Good.all)
    | with_reducible apply Mod.set_good
    | with_reducible apply Mod.raise_good

theorem Mod.enterHoldover_good {m : Mod} (h : m.Good) (j : _) : (Mod.enterHoldover m j).Good := by
  unfold Mod.enterHoldover
  try dsimp only
  repeat' first
    | with_reducible assumption
    | intro _
    | (simp only [↓good_mk]; with_reducible apply Mod.Good.all)
    | with_reducible apply Mod.servo_good
    | with_reducible apply Mod.set_good
    | with_reducible apply Mod.raise_good

theorem Mod.timeStep_good {m : Mod} (h : m.Good) : (Mod.timeStep m).Good := by
  unfold Mod.timeStep
  try dsimp only
  repeat' first
    | with_reducible assumption
    | intro _
    | (simp only [↓good_mk]; with_reducible apply Mod.Good.all)
    | with_reducible apply Mod.set_good
    | with_reducible apply Mod.select_good
    | with_reducible apply Mod.moveTime_good
    | with_reducible apply Mod.enterLocked_good
    | with_reducible apply Mod.cancelStep_good
    | with_reducible apply Mod.enterHoldover_good
    | with_reducible apply good_ite
    | split

theorem Mod.putTimeBits_good {m : Mod} (h : m.Good) (v : _) : (Mod.putTimeBits m v).Good := by
  unfold Mod.putTimeBits
  try dsimp only
  repeat' first
    | with_reducible assumption
    | intro _
    | with_reducible apply Mod.setBits_good

theorem Mod.noteTime_good {m : Mod} (h : m.Good) : (Mod.noteTime m).Good := by
  unfold Mod.noteTime
  try dsimp only
  repeat' first
    | with_reducible assumption
    | intro _
    | with_reducible apply Mod.putTimeBits_good
    | with_reducible apply Mod.proposeOwn_good
    | with_reducible apply good_ite

theorem Mod.enterFreerun_good {m : Mod} (h : m.Good) : (Mod.enterFreerun m).Good := by
  unfold Mod.enterFreerun
  try dsimp only
  repeat' first
    | with_reducible assumption
    | with_reducible apply Mod.set_good
    | with_reducible apply Mod.raise_good

theorem Mod.holdoverSpent_good {m : Mod} (h : m.Good) : (Mod.holdoverSpent m).Good := by
  unfold Mod.holdoverSpent
  try dsimp only
  repeat' first
    | with_reducible assumption
    | with_reducible apply Mod.enterFreerun_good
    | with_reducible apply good_ite

theorem Mod.judgeTime_good {m : Mod} (h : m.Good) : (Mod.judgeTime m).Good := by
  unfold Mod.judgeTime
  try dsimp only
  repeat' first
    | with_reducible assumption
    | with_reducible apply Mod.holdoverSpent_good
    | with_reducible apply Mod.timeStep_good
    | with_reducible apply Mod.servo_good
    | with_reducible apply Mod.noteTime_good
    | with_reducible apply good_ite

theorem Mod.syncSources_good {m : Mod} (h : m.Good) : (Mod.syncSources m).Good := by
  unfold Mod.syncSources
  try dsimp only
  repeat' first
    | with_reducible assumption
    | intro _
    | with_reducible apply Mod.each_good
    | with_reducible apply Mod.set_good
    | with_reducible apply Mod.setTimeSrc_good
    | with_reducible apply good_ite

theorem Mod.loseSource_good {m : Mod} (h : m.Good) (j : _) (cause : _) : (Mod.loseSource m j cause).Good := by
  unfold Mod.loseSource
  try dsimp only
  repeat' first
    | with_reducible assumption
    | intro _
    | with_reducible apply Mod.set_good
    | with_reducible apply Mod.setTimeSrc_good
    | with_reducible apply Mod.bump_good
    | with_reducible apply Mod.raise_good
    | with_reducible apply Mod.judgeTime_good
    | with_reducible apply good_ite

theorem Mod.badInput_good {m : Mod} (h : m.Good) (j : _) : (Mod.badInput m j).Good := by
  unfold Mod.badInput
  try dsimp only
  repeat' first
    | with_reducible assumption
    | with_reducible apply Mod.setTimeSrc_good
    | with_reducible apply good_ite

theorem Mod.measured_good {m : Mod} (h : m.Good) (j : _) (x : _) : (Mod.measured m j x).Good := by
  unfold Mod.measured
  try dsimp only
  repeat' first
    | with_reducible assumption
    | intro _
    | (simp only [↓good_mk]; with_reducible apply Mod.Good.all)
    | with_reducible apply Mod.syncSources_good
    | with_reducible apply Mod.set_good
    | with_reducible apply Mod.setTimeSrc_good
    | with_reducible apply Mod.raise_good
    | with_reducible apply Mod.cancelStep_good
    | with_reducible apply Mod.servo_good
    | with_reducible apply Mod.judgeTime_good
    | with_reducible apply good_ite

theorem sourceQualified_good {m : Mod} (h : m.Good) (j : _) : (sourceQualified j m).Good := by
  unfold sourceQualified
  try dsimp only
  repeat' first
    | with_reducible assumption
    | intro _
    | with_reducible apply Mod.loseSource_good
    | with_reducible apply Mod.set_good
    | with_reducible apply Mod.raise_good
    | with_reducible apply Mod.judgeTime_good
    | with_reducible apply good_ite

theorem irigFrameRx_good {m : Mod} (h : m.Good) (f : _) : (irigFrameRx f m).Good := by
  unfold irigFrameRx
  try dsimp only
  repeat' first
    | with_reducible assumption
    | (simp only [↓good_mk]; with_reducible apply Mod.Good.all)
    | with_reducible apply Mod.setTimeSrc_good
    | with_reducible apply Mod.badInput_good
    | with_reducible apply Mod.set_good
    | with_reducible apply Mod.measured_good
    | with_reducible apply good_ite

theorem irigFrameLoss_good {m : Mod} (h : m.Good) : (irigFrameLoss m).Good := by
  unfold irigFrameLoss
  try dsimp only
  repeat' first
    | with_reducible assumption
    | intro _
    | with_reducible apply Mod.setTimeSrc_good
    | with_reducible apply Mod.loseSource_good
    | with_reducible apply good_ite

theorem ppsInEdge_good {m : Mod} (h : m.Good) (i : _) (now : _) : (ppsInEdge i now m).Good := by
  unfold ppsInEdge
  try dsimp only
  repeat' first
    | with_reducible assumption
    | with_reducible apply Mod.setTimeSrc_good
    | with_reducible apply Mod.badInput_good
    | with_reducible apply Mod.set_good
    | with_reducible apply Mod.loseSource_good
    | with_reducible apply Mod.measured_good
    | split

theorem ppsLossTimeout_good {m : Mod} (h : m.Good) (i : _) : (ppsLossTimeout i m).Good := by
  unfold ppsLossTimeout
  try dsimp only
  repeat' first
    | with_reducible assumption
    | intro _
    | with_reducible apply Mod.setTimeSrc_good
    | with_reducible apply Mod.loseSource_good
    | with_reducible apply good_ite
    | split

theorem stepRetry_good {m : Mod} (h : m.Good) : (stepRetry m).Good := by
  unfold stepRetry
  try dsimp only
  repeat' first
    | with_reducible assumption
    | intro _
    | (simp only [↓good_mk]; with_reducible apply Mod.Good.all)
    | with_reducible apply Mod.judgeTime_good
    | with_reducible apply good_ite

theorem stepCaptureCheck_good {m : Mod} (h : m.Good) : (stepCaptureCheck m).Good := by
  unfold stepCaptureCheck
  try dsimp only
  repeat' first
    | with_reducible assumption
    | intro _
    | with_reducible apply Mod.each_good
    | with_reducible apply Mod.sendCommit_good
    | with_reducible apply Mod.cancelCommit_good
    | with_reducible apply Mod.raise_good
    | with_reducible apply Mod.stepDropped_good
    | with_reducible apply Mod.noteTime_good
    | with_reducible apply good_ite

theorem ref10mQualified_good {m : Mod} (h : m.Good) : (ref10mQualified m).Good := by
  unfold ref10mQualified
  try dsimp only
  repeat' first
    | with_reducible assumption
    | intro _
    | with_reducible apply Mod.set_good
    | with_reducible apply Mod.raise_good
    | with_reducible apply good_ite

theorem ref10mLoss_good {m : Mod} (h : m.Good) : (ref10mLoss m).Good := by
  unfold ref10mLoss
  try dsimp only
  repeat' first
    | with_reducible assumption
    | intro _
    | with_reducible apply Mod.set_good
    | with_reducible apply Mod.raise_good
    | with_reducible apply good_ite

theorem offsetExcursionTimeout_good {m : Mod} (h : m.Good) : (offsetExcursionTimeout m).Good := by
  unfold offsetExcursionTimeout
  try dsimp only
  repeat' first
    | with_reducible assumption
    | intro _
    | (simp only [↓good_mk]; with_reducible apply Mod.Good.all)
    | with_reducible apply Mod.set_good
    | with_reducible apply Mod.raise_good
    | with_reducible apply Mod.judgeTime_good
    | with_reducible apply good_ite

theorem holdoverLimitExpiry_good {m : Mod} (h : m.Good) : (holdoverLimitExpiry m).Good := by
  unfold holdoverLimitExpiry
  try dsimp only
  repeat' first
    | with_reducible assumption
    | with_reducible apply Mod.judgeTime_good
    | with_reducible apply Mod.enterFreerun_good
    | with_reducible apply good_ite

theorem todSetWrite_good {m : Mod} (h : m.Good) (path : _) (v : _) (now : _) : (todSetWrite path v now m).Good := by
  unfold todSetWrite
  try dsimp only
  repeat' first
    | with_reducible assumption
    | intro _
    | (simp only [↓good_mk]; with_reducible apply Mod.Good.all)
    | with_reducible apply Mod.report_good
    | with_reducible apply Mod.served_good
    | with_reducible apply Mod.moveTime_good
    | with_reducible apply good_ite

theorem leaderChange_good {m : Mod} (h : m.Good) (r : _) : (leaderChange r m).Good := by
  unfold leaderChange
  try dsimp only
  repeat' first
    | with_reducible assumption
    | intro _
    | (simp only [↓good_mk]; with_reducible apply Mod.Good.all)
    | with_reducible apply Mod.raise_good
    | with_reducible apply Mod.set_good
    | with_reducible apply Mod.judgeTime_good
    | with_reducible apply good_ite

theorem Mod.sendTransfer_good {m : Mod} (h : m.Good) (l : _) (followUp : _) (now : _) : (Mod.sendTransfer m l followUp now).Good := by
  unfold Mod.sendTransfer
  try dsimp only
  repeat' first
    | with_reducible assumption
    | with_reducible apply Mod.sendOn_good

theorem timeTransferSend_good {m : Mod} (h : m.Good) (now : _) : (timeTransferSend now m).Good := by
  unfold timeTransferSend
  try dsimp only
  repeat' first
    | with_reducible assumption
    | intro _
    | with_reducible apply Mod.each_good
    | with_reducible apply Mod.sendTransfer_good
    | with_reducible apply good_ite

theorem timeTransferRx_good {m : Mod} (h : m.Good) (l : _) (origin : _) (delay : _) (now : _) : (timeTransferRx l origin delay now m).Good := by
  unfold timeTransferRx
  try dsimp only
  repeat' first
    | with_reducible assumption
    | intro _
    | (simp only [↓good_mk]; with_reducible apply Mod.Good.all)
    | with_reducible apply Mod.set_good
    | with_reducible apply Mod.judgeTime_good
    | with_reducible apply good_ite

theorem timeTransferLoss_good {m : Mod} (h : m.Good) : (timeTransferLoss m).Good := by
  unfold timeTransferLoss
  try dsimp only
  repeat' first
    | with_reducible assumption
    | intro _
    | (simp only [↓good_mk]; with_reducible apply Mod.Good.all)
    | with_reducible apply Mod.servo_good
    | with_reducible apply good_ite

theorem followerDeviation_good {m : Mod} (h : m.Good) : (followerDeviation m).Good := by
  unfold followerDeviation
  try dsimp only
  repeat' first
    | with_reducible assumption
    | intro _
    | with_reducible apply Mod.raise_good
    | with_reducible apply good_ite
    | split

theorem Mod.setPtpPort_good {m : Mod} (h : m.Good) (p : _) (x : _) : (Mod.setPtpPort m p x).Good := by
  unfold Mod.setPtpPort
  try dsimp only
  repeat' first
    | with_reducible assumption
    | intro _
    | (simp only [↓good_mk]; with_reducible apply Mod.Good.all)

theorem Mod.bmca_good {m : Mod} (h : m.Good) (i : _) (expired : _) : (Mod.bmca m i expired).Good := by
  unfold Mod.bmca
  try dsimp only
  repeat' first
    | with_reducible assumption
    | intro _
    | with_reducible apply Mod.each_good
    | with_reducible apply Mod.set_good
    | with_reducible apply Mod.setOct_good
    | with_reducible apply foldl_good_fst
    | with_reducible apply good_ite
    | split

theorem Mod.ptpOffset_good {m : Mod} (h : m.Good) (i : _) (p : _) (t2 : _) (origin : _) (corr : _) : (Mod.ptpOffset m i p t2 origin corr).Good := by
  unfold Mod.ptpOffset
  try dsimp only
  repeat' first
    | with_reducible assumption
    | intro _
    | with_reducible apply Mod.measured_good
    | with_reducible apply good_ite
    | split

theorem ptpSyncRx_good {m : Mod} (h : m.Good) (x : _) : (ptpSyncRx x m).Good := by
  unfold ptpSyncRx
  try dsimp only
  repeat' first
    | with_reducible assumption
    | intro _
    | with_reducible apply Mod.setPtpPort_good
    | with_reducible apply Mod.ptpOffset_good
    | with_reducible apply good_ite
    | split

theorem ptpFollowUpRx_good {m : Mod} (h : m.Good) (x : _) : (ptpFollowUpRx x m).Good := by
  unfold ptpFollowUpRx
  try dsimp only
  repeat' first
    | with_reducible assumption
    | intro _
    | with_reducible apply Mod.setPtpPort_good
    | with_reducible apply Mod.ptpOffset_good
    | with_reducible apply good_ite
    | split

theorem Mod.takeUtc_good {m : Mod} (h : m.Good) (x : _) : (Mod.takeUtc m x).Good := by
  unfold Mod.takeUtc
  try dsimp only
  repeat' first
    | with_reducible assumption
    | intro _
    | (simp only [↓good_mk]; with_reducible apply Mod.Good.all)
    | with_reducible apply Mod.set_good
    | with_reducible apply good_ite

theorem ptpAnnounceRx_good {m : Mod} (h : m.Good) (x : _) : (ptpAnnounceRx x m).Good := by
  unfold ptpAnnounceRx
  try dsimp only
  repeat' first
    | with_reducible assumption
    | intro _
    | with_reducible apply Mod.setPtpPort_good
    | with_reducible apply Mod.bmca_good
    | with_reducible apply Mod.takeUtc_good
    | with_reducible apply Mod.loseSource_good
    | with_reducible apply Mod.noteTime_good
    | with_reducible apply good_ite
    | split

theorem ptpPdelayReqRx_good {m : Mod} (h : m.Good) (x : _) : (ptpPdelayReqRx x m).Good := by
  unfold ptpPdelayReqRx
  try dsimp only
  repeat' first
    | with_reducible assumption
    | intro _
    | with_reducible apply Mod.emit_good
    | with_reducible apply good_ite

theorem ptpPdelayRespRx_good {m : Mod} (h : m.Good) (p : _) (t1 : _) (t2 : _) (t3 : _) (t4 : _) (corr : _) : (ptpPdelayRespRx p t1 t2 t3 t4 corr m).Good := by
  unfold ptpPdelayRespRx
  try dsimp only
  repeat' first
    | with_reducible assumption
    | intro _
    | with_reducible apply Mod.set_good
    | with_reducible apply good_ite

theorem ptpManagementRx_good {m : Mod} (h : m.Good) (f : _) : (ptpManagementRx f m).Good := by
  unfold ptpManagementRx
  try dsimp only
  repeat' first
    | with_reducible assumption
    | intro _
    | (simp only [↓good_mk]; with_reducible apply Mod.Good.all)
    | with_reducible apply Mod.place_good
    | with_reducible apply Mod.swSync_good

theorem ptpMessageSend_good {m : Mod} (h : m.Good) (p : _) (kind : _) (now : _) : (ptpMessageSend p kind now m).Good := by
  unfold ptpMessageSend
  try dsimp only
  repeat' first
    | with_reducible assumption
    | intro _
    | with_reducible apply Mod.emit_good
    | with_reducible apply good_ite
    | split

theorem ptpAnnounceTimeout_good {m : Mod} (h : m.Good) (p : _) : (ptpAnnounceTimeout p m).Good := by
  unfold ptpAnnounceTimeout
  try dsimp only
  repeat' first
    | with_reducible assumption
    | intro _
    | with_reducible apply Mod.setPtpPort_good
    | with_reducible apply Mod.bmca_good
    | with_reducible apply Mod.loseSource_good
    | with_reducible apply good_ite
    | split

theorem ptpSyncMissed_good {m : Mod} (h : m.Good) (i : _) : (ptpSyncMissed i m).Good := by
  unfold ptpSyncMissed
  try dsimp only
  repeat' first
    | with_reducible assumption
    | intro _
    | with_reducible apply Mod.loseSource_good
    | with_reducible apply good_ite

theorem ppsOutEdge_good {m : Mod} (h : m.Good) (o : _) (now : _) : (ppsOutEdge o now m).Good := by
  unfold ppsOutEdge
  try dsimp only
  repeat' first
    | with_reducible assumption
    | intro _
    | with_reducible apply Mod.emit_good
    | with_reducible apply good_ite

theorem leapSecond_good {m : Mod} (h : m.Good) : (leapSecond m).Good := by
  unfold leapSecond
  try dsimp only
  repeat' first
    | with_reducible assumption
    | intro _
    | with_reducible apply Mod.set_good
    | with_reducible apply Mod.raise_good
    | with_reducible apply Mod.noteTime_good
    | with_reducible apply good_ite

end Sys2Proof.Machine
end

