-- ==== Sys2Proof/Laws/GoodClicker.lean ====
section
/-!
SUPPORT. The operations and commands of Machine/Clicker.lean keep a module sound.
-/
set_option linter.unusedSimpArgs false

namespace Sys2Proof.Machine

theorem Mod.writeRow_good {m : Mod} (h : m.Good) (now : _) (x : _) (c : _) (i : _) : (Mod.writeRow m now x c i).Good := by
  unfold Mod.writeRow
  try dsimp only
  repeat' first
    | with_reducible assumption
    | intro _
    | with_reducible apply Mod.ckOverflow_good
    | with_reducible apply Mod.setCk_good
    | with_reducible apply Mod.poke_good
    | with_reducible apply Mod.each_good
    | with_reducible apply Mod.bump_good
    | with_reducible apply Mod.detect_good
    | with_reducible apply Mod.ckResolve_good
    | with_reducible apply Mod.ckFinish_good
    | with_reducible apply Mod.raise_good
    | with_reducible apply good_ite
    | split

theorem clickerRowWrite_good {m : Mod} (h : m.Good) (now : _) : (clickerRowWrite now m).Good := by
  unfold clickerRowWrite
  try dsimp only
  repeat' first
    | with_reducible assumption
    | intro _
    | (simp only [↓good_mk]; with_reducible apply Mod.Good.all)
    | with_reducible apply Mod.bump_good
    | with_reducible apply Mod.ckOverflow_good
    | with_reducible apply Mod.each_good
    | with_reducible apply Mod.writeRow_good
    | with_reducible apply Mod.ckSync_good
    | with_reducible apply foldl_good_fst
    | with_reducible apply good_ite
    | split

theorem trigInputEdge_good {m : Mod} (h : m.Good) (j : _) (now : _) (level : _) : (trigInputEdge j now level m).Good := by
  unfold trigInputEdge
  try dsimp only
  repeat' first
    | with_reducible assumption
    | intro _
    | with_reducible apply Mod.set_good
    | with_reducible apply Mod.bump_good
    | with_reducible apply Mod.offerTrigger_good
    | with_reducible apply good_ite

theorem trigPulseEnd_good {m : Mod} (h : m.Good) (j : _) (now : _) : (trigPulseEnd j now m).Good := by
  unfold trigPulseEnd
  try dsimp only
  repeat' first
    | with_reducible assumption
    | intro _
    | with_reducible apply Mod.setTrig_good
    | with_reducible apply good_ite

theorem Mod.takeXtrig_good {m : Mod} (h : m.Good) (p : _) (now : _) : (Mod.takeXtrig m p now).Good := by
  unfold Mod.takeXtrig
  try dsimp only
  repeat' first
    | with_reducible assumption
    | intro _
    | with_reducible apply Mod.bump_good
    | with_reducible apply Mod.offerTrigger_good
    | with_reducible apply good_ite

theorem Mod.takeCross_good {m : Mod} (h : m.Good) (l : _) (p : _) (now : _) : (Mod.takeCross m l p now).Good := by
  unfold Mod.takeCross
  try dsimp only
  repeat' first
    | with_reducible assumption
    | with_reducible apply Mod.takeXtrig_good
    | with_reducible apply Mod.bump_good
    | with_reducible apply Mod.broadcast_good
    | with_reducible apply good_ite

theorem weltXtrigRx_good {m : Mod} (h : m.Good) (h_ : _) (p : _) (now : _) : (weltXtrigRx h_ p now m).Good := by
  unfold weltXtrigRx
  try dsimp only
  repeat' first
    | with_reducible assumption
    | intro _
    | with_reducible apply Mod.takeWhole_good
    | with_reducible apply Mod.takeCross_good

theorem Mod.ckCommand_good {m : Mod} (h : m.Good) (path : _) (x : _) (v : _) (may : _) (f : _) (hf : ∀ m, m.Good → (f m).Good) : (Mod.ckCommand m path x v may f).Good := by
  unfold Mod.ckCommand
  try dsimp only
  repeat' first
    | with_reducible assumption
    | intro _
    | with_reducible apply hf
    | with_reducible apply Mod.report_good
    | with_reducible apply Mod.served_good
    | with_reducible apply good_ite
    | split

theorem clickerForce_good {m : Mod} (h : m.Good) (path : _) (x : _) (v : _) (now : _) : (clickerForce path x v now m).Good := by
  unfold clickerForce
  try dsimp only
  repeat' first
    | with_reducible assumption
    | intro _
    | with_reducible apply Mod.ckCommand_good
    | with_reducible apply Mod.each_good
    | with_reducible apply Mod.detect_good

theorem clickerStop_good {m : Mod} (h : m.Good) (path : _) (x : _) (v : _) : (clickerStop path x v m).Good := by
  unfold clickerStop
  try dsimp only
  repeat' first
    | with_reducible assumption
    | intro _
    | with_reducible apply Mod.ckCommand_good
    | with_reducible apply Mod.ckFinish_good

theorem clickerDrain_good {m : Mod} (h : m.Good) (path : _) (x : _) (v : _) : (clickerDrain path x v m).Good := by
  unfold clickerDrain
  try dsimp only
  repeat' first
    | with_reducible assumption
    | intro _
    | with_reducible apply Mod.ckCommand_good
    | with_reducible apply Mod.set_good

theorem clickerRelease_good {m : Mod} (h : m.Good) (path : _) (x : _) (v : _) : (clickerRelease path x v m).Good := by
  unfold clickerRelease
  try dsimp only
  repeat' first
    | with_reducible assumption
    | intro _
    | with_reducible apply Mod.ckCommand_good
    | with_reducible apply Mod.ckArm_good

theorem clickerResend_good {m : Mod} (h : m.Good) (path : _) (x : _) (b : _) : (clickerResend path x b m).Good := by
  unfold clickerResend
  try dsimp only
  repeat' first
    | with_reducible assumption
    | intro _
    | with_reducible apply Mod.report_good
    | with_reducible apply Mod.ckCommand_good
    | with_reducible apply Mod.setCk_good
    | with_reducible apply good_ite

theorem Mod.sendDrain_good {m : Mod} (h : m.Good) (now : _) (x : _) (flags : _) (off : _) (total : _) (data : _) : (Mod.sendDrain m now x flags off total data).Good := by
  unfold Mod.sendDrain
  try dsimp only
  repeat' first
    | with_reducible assumption
    | intro _
    | with_reducible apply switchClassify_good

theorem Mod.drained_good {m : Mod} (h : m.Good) (x : _) : (Mod.drained m x).Good := by
  unfold Mod.drained
  try dsimp only
  repeat' first
    | with_reducible assumption
    | intro _
    | with_reducible apply Mod.set_good
    | with_reducible apply Mod.raise_good
    | with_reducible apply Mod.ckArm_good
    | with_reducible apply good_ite

theorem Mod.drainSlot_good {m : Mod} (h : m.Good) (now : _) (x : _) : (Mod.drainSlot m now x).Good := by
  unfold Mod.drainSlot
  try dsimp only
  repeat' first
    | with_reducible assumption
    | intro _
    | with_reducible apply Mod.setCk_good
    | with_reducible apply Mod.sendDrain_good
    | with_reducible apply Mod.bump_good
    | with_reducible apply Mod.drained_good
    | with_reducible apply good_ite
    | split

theorem drainFrameSend_good {m : Mod} (h : m.Good) (now : _) : (drainFrameSend now m).Good := by
  unfold drainFrameSend
  try dsimp only
  repeat' first
    | with_reducible assumption
    | intro _
    | (simp only [↓good_mk]; with_reducible apply Mod.Good.all)
    | with_reducible apply Mod.drainSlot_good
    | with_reducible apply good_ite
    | split

end Sys2Proof.Machine
end

