-- ==== Sys2Proof/Laws/GoodWelt.lean ====
section
/-!
SUPPORT. The operations and commands of Machine/Welt.lean keep a module sound.
-/
set_option linter.unusedSimpArgs false

namespace Sys2Proof.Machine

theorem Mod.routesInUse_good {m : Mod} (h : m.Good) : (Mod.routesInUse m).Good := by
  unfold Mod.routesInUse
  try dsimp only
  repeat' first
    | with_reducible assumption
    | intro _
    | with_reducible apply Mod.each_good
    | with_reducible apply Mod.set_good

theorem Mod.setLk_good {m : Mod} (h : m.Good) (l : _) (st : _) : (Mod.setLk m l st).Good := by
  unfold Mod.setLk
  try dsimp only
  repeat' first
    | with_reducible assumption
    | intro _
    | with_reducible apply Mod.set_good
    | with_reducible apply Mod.setPortUp_good
    | with_reducible apply Mod.routesInUse_good

theorem Mod.sayHello_good {m : Mod} (h : m.Good) (l : _) : (Mod.sayHello m l).Good := by
  unfold Mod.sayHello
  try dsimp only
  repeat' first
    | with_reducible assumption
    | with_reducible apply Mod.sendLocal_good
    | with_reducible apply Mod.emit_good
    | with_reducible apply good_ite

theorem Mod.helloAll_good {m : Mod} (h : m.Good) : (Mod.helloAll m).Good := by
  unfold Mod.helloAll
  try dsimp only
  repeat' first
    | with_reducible assumption
    | intro _
    | with_reducible apply Mod.each_good
    | with_reducible apply Mod.sayHello_good

theorem Mod.forgetVia_good {m : Mod} (h : m.Good) (l : _) : (Mod.forgetVia m l).Good := by
  unfold Mod.forgetVia
  try dsimp only
  repeat' first
    | with_reducible assumption
    | intro _
    | with_reducible apply Mod.each_good
    | with_reducible apply Mod.setLink_good

theorem Mod.clearLink_good {m : Mod} (h : m.Good) (l : _) (st : _) : (Mod.clearLink m l st).Good := by
  unfold Mod.clearLink
  try dsimp only
  repeat' first
    | with_reducible assumption
    | intro _
    | with_reducible apply Mod.forgetVia_good
    | with_reducible apply Mod.setLink_good
    | with_reducible apply Mod.setLk_good
    | with_reducible apply Mod.set_good
    | with_reducible apply Mod.bump_good
    | with_reducible apply Mod.each_good
    | with_reducible apply Mod.oweVia_good
    | with_reducible apply Mod.routeVia_good
    | with_reducible apply Mod.flushPort_good
    | with_reducible apply Mod.macFlush_good
    | split

theorem Mod.linkDown_good {m : Mod} (h : m.Good) (l : _) (cause : _) : (Mod.linkDown m l cause).Good := by
  unfold Mod.linkDown
  try dsimp only
  repeat' first
    | with_reducible assumption
    | intro _
    | with_reducible apply Mod.clearLink_good
    | with_reducible apply Mod.bump_good
    | with_reducible apply Mod.raise_good
    | with_reducible apply good_ite

theorem weltLanesWrite_good {m : Mod} (h : m.Good) (path : _) (l : _) (v : _) : (weltLanesWrite path l v m).Good := by
  unfold weltLanesWrite
  try dsimp only
  repeat' first
    | with_reducible assumption
    | intro _
    | with_reducible apply Mod.report_good
    | with_reducible apply Mod.served_good
    | with_reducible apply Mod.set_good
    | with_reducible apply Mod.clearLink_good
    | with_reducible apply Mod.setLk_good
    | with_reducible apply good_ite

theorem laneTrainLock_good {m : Mod} (h : m.Good) (l : _) : (laneTrainLock l m).Good := by
  unfold laneTrainLock
  try dsimp only
  repeat' first
    | with_reducible assumption
    | intro _
    | with_reducible apply Mod.setLk_good
    | with_reducible apply Mod.sayHello_good
    | with_reducible apply good_ite

theorem laneTrainTimeout_good {m : Mod} (h : m.Good) (l : _) : (laneTrainTimeout l m).Good := by
  unfold laneTrainTimeout
  try dsimp only
  repeat' first
    | with_reducible assumption
    | intro _
    | with_reducible apply Mod.bump_good
    | with_reducible apply good_ite

theorem weltHelloSend_good {m : Mod} (h : m.Good) (l : _) : (weltHelloSend l m).Good := by
  unfold weltHelloSend
  try dsimp only
  repeat' first
    | with_reducible assumption
    | intro _
    | with_reducible apply Mod.sayHello_good
    | with_reducible apply good_ite

theorem weltDownRetrain_good {m : Mod} (h : m.Good) (l : _) : (weltDownRetrain l m).Good := by
  unfold weltDownRetrain
  try dsimp only
  repeat' first
    | with_reducible assumption
    | intro _
    | with_reducible apply Mod.set_good
    | with_reducible apply Mod.setLk_good
    | with_reducible apply good_ite

theorem weltFlitDiscard_good {m : Mod} (h : m.Good) (l : _) (cause : _) : (weltFlitDiscard l cause m).Good := by
  unfold weltFlitDiscard
  try dsimp only
  repeat' first
    | with_reducible assumption
    | intro _
    | with_reducible apply Mod.bump_good
    | with_reducible apply Mod.discardFlit_good
    | with_reducible apply good_ite
    | split

theorem Mod.replay_good {m : Mod} (h : m.Good) (l : _) : (Mod.replay m l).Good := by
  unfold Mod.replay
  try dsimp only
  repeat' first
    | with_reducible assumption
    | intro _
    | with_reducible apply Mod.setLink_good
    | with_reducible apply Mod.bump_good
    | with_reducible apply Mod.linkDown_good
    | with_reducible apply Mod.each_good
    | with_reducible apply Mod.emit_good
    | with_reducible apply good_ite

theorem weltNakRx_good {m : Mod} (h : m.Good) (h_ : _) : (weltNakRx h_ m).Good := by
  unfold weltNakRx
  try dsimp only
  repeat' first
    | with_reducible assumption
    | with_reducible apply Mod.accept_good
    | with_reducible apply Mod.replay_good
    | with_reducible apply good_ite

theorem weltNakRepeat_good {m : Mod} (h : m.Good) (l : _) : (weltNakRepeat l m).Good := by
  unfold weltNakRepeat
  try dsimp only
  repeat' first
    | with_reducible assumption
    | with_reducible apply Mod.sayFiller_good
    | with_reducible apply good_ite

theorem weltReplayTimeout_good {m : Mod} (h : m.Good) (l : _) : (weltReplayTimeout l m).Good := by
  unfold weltReplayTimeout
  try dsimp only
  repeat' first
    | with_reducible assumption
    | intro _
    | with_reducible apply Mod.replay_good
    | with_reducible apply good_ite

theorem packetAgeExpiry_good {m : Mod} (h : m.Good) (l : _) (i : _) : (packetAgeExpiry l i m).Good := by
  unfold packetAgeExpiry
  try dsimp only
  repeat' first
    | with_reducible assumption
    | with_reducible apply Mod.setLink_good
    | with_reducible apply Mod.bump_good
    | with_reducible apply Mod.oweVia_good
    | with_reducible apply Mod.pump_good
    | split

theorem weltFrameRx_good {m : Mod} (h : m.Good) (h_ : _) (p : _) (sv : _) (goose : _) (ts : _) : (weltFrameRx h_ p sv goose ts m).Good := by
  unfold weltFrameRx
  try dsimp only
  repeat' first
    | with_reducible assumption
    | intro _
    | with_reducible apply Mod.takeWhole_good
    | with_reducible apply gooseStationRx_good
    | with_reducible apply switchClassify_good
    | split

theorem Mod.respond_good {m : Mod} (h : m.Good) (p : _) (st : _) (data : _) : (Mod.respond m p st data).Good := by
  unfold Mod.respond
  try dsimp only
  repeat' first
    | with_reducible assumption
    | intro _
    | with_reducible refine Mod.route_good_eq (by assumption) ?_
    | with_reducible apply Mod.route_good

theorem Mod.setTag_good {m : Mod} (h : m.Good) (t : _) (x : _) : (Mod.setTag m t x).Good := by
  unfold Mod.setTag
  try dsimp only
  repeat' first
    | with_reducible assumption
    | intro _
    | (simp only [↓good_mk]; with_reducible apply Mod.Good.all)
    | with_reducible apply Mod.set_good

theorem Mod.freeTag_good {m : Mod} (h : m.Good) (t : _) : (Mod.freeTag m t).Good := by
  unfold Mod.freeTag
  try dsimp only
  repeat' first
    | with_reducible assumption
    | intro _
    | with_reducible apply Mod.setTag_good

theorem Mod.leaveTag_good {m : Mod} (h : m.Good) (t : _) : (Mod.leaveTag m t).Good := by
  unfold Mod.leaveTag
  try dsimp only
  repeat' first
    | with_reducible assumption
    | intro _
    | with_reducible apply Mod.setTag_good
    | with_reducible apply Mod.freeTag_good
    | with_reducible apply good_ite

theorem Mod.acceptFetch_good {m : Mod} (h : m.Good) (a : _) (bs : _) : (Mod.acceptFetch m a bs).Good := by
  unfold Mod.acceptFetch
  try dsimp only
  repeat' first
    | with_reducible assumption
    | intro _
    | (simp only [↓good_mk]; with_reducible apply Mod.Good.all)
    | with_reducible apply good_ite
    | split

theorem Mod.setStall_good {m : Mod} (h : m.Good) (w : _) (x : _) : (Mod.setStall m w x).Good := by
  unfold Mod.setStall
  try dsimp only
  repeat' first
    | with_reducible assumption
    | with_reducible apply Mod.setHart_good
    | split

theorem Mod.masterFault_good {m : Mod} (h : m.Good) (w : _) (a : _) (store : _) : (Mod.masterFault m w a store).Good := by
  unfold Mod.masterFault
  try dsimp only
  repeat' first
    | with_reducible assumption
    | with_reducible apply Mod.setStall_good
    | with_reducible apply Mod.emit_good
    | with_reducible apply Mod.trap_good
    | split

theorem Mod.retry_good {m : Mod} (h : m.Good) (w : _) (a : _) (n : _) : (Mod.retry m w a n).Good := by
  unfold Mod.retry
  try dsimp only
  repeat' first
    | with_reducible assumption
    | with_reducible apply Mod.setStall_good
    | with_reducible apply Mod.emit_good

theorem Mod.reissue_good {m : Mod} (h : m.Good) (t : _) : (Mod.reissue m t).Good := by
  unfold Mod.reissue
  try dsimp only
  repeat' first
    | with_reducible assumption
    | with_reducible apply Mod.leaveTag_good
    | with_reducible apply Mod.masterFault_good
    | with_reducible apply Mod.setStall_good
    | with_reducible apply Mod.emit_good
    | with_reducible apply Mod.setHart_good
    | with_reducible apply Mod.acceptFetch_good
    | with_reducible apply Mod.retry_good
    | split

theorem Mod.abandon_good {m : Mod} (h : m.Good) (w : _) : (Mod.abandon m w).Good := by
  unfold Mod.abandon
  try dsimp only
  repeat' first
    | with_reducible assumption
    | intro _
    | with_reducible apply Mod.each_good
    | with_reducible apply Mod.setTag_good
    | with_reducible apply Mod.leaveTag_good
    | split

theorem Mod.newRead_good {m : Mod} (h : m.Good) (w : _) (a : _) (n : _) : (Mod.newRead m w a n).Good := by
  unfold Mod.newRead
  try dsimp only
  repeat' first
    | with_reducible assumption
    | with_reducible apply Mod.abandon_good
    | with_reducible apply Mod.bump_good
    | with_reducible apply Mod.masterFault_good
    | with_reducible apply Mod.retry_good
    | with_reducible apply Mod.setTag_good
    | with_reducible apply Mod.route_good
    | split

theorem remoteRead_good {m : Mod} (h : m.Good) (w : _) (a : _) (n : _) : (remoteRead w a n m).Good := by
  unfold remoteRead
  try dsimp only
  repeat' first
    | with_reducible assumption
    | with_reducible apply Mod.masterFault_good
    | with_reducible apply Mod.reissue_good
    | with_reducible apply Mod.newRead_good
    | split

theorem remoteReadReissue_good {m : Mod} (h : m.Good) (w : _) (a : _) (n : _) : (remoteReadReissue w a n m).Good := by
  unfold remoteReadReissue
  try dsimp only
  repeat' first
    | with_reducible assumption
    | with_reducible apply remoteRead_good

theorem Mod.post_good {m : Mod} (h : m.Good) (p : _) : (Mod.post m p).Good := by
  unfold Mod.post
  try dsimp only
  repeat' first
    | with_reducible assumption
    | with_reducible apply Mod.route_good
    | with_reducible apply Mod.bump_good
    | with_reducible apply good_ite

theorem remoteWrite_good {m : Mod} (h : m.Good) (w : _) (a : _) (bytes : _) (fence : _) : (remoteWrite w a bytes fence m).Good := by
  unfold remoteWrite
  try dsimp only
  repeat' first
    | with_reducible assumption
    | with_reducible apply Mod.masterFault_good
    | with_reducible apply Mod.post_good
    | split

theorem Mod.response_good {m : Mod} (h : m.Good) (p : _) (st : _) (data : _) : (Mod.response m p st data).Good := by
  unfold Mod.response
  try dsimp only
  repeat' first
    | with_reducible assumption
    | intro _
    | with_reducible apply Mod.setTag_good
    | with_reducible apply Mod.freeTag_good
    | with_reducible apply Mod.bump_good
    | with_reducible apply Mod.raise_good
    | with_reducible apply good_ite

theorem respTimeoutExpiry_good {m : Mod} (h : m.Good) (t : _) : (respTimeoutExpiry t m).Good := by
  unfold respTimeoutExpiry
  try dsimp only
  repeat' first
    | with_reducible assumption
    | intro _
    | with_reducible apply Mod.setTag_good
    | with_reducible apply Mod.bump_good
    | with_reducible apply good_ite

theorem holdTimeExpiry_good {m : Mod} (h : m.Good) (t : _) : (holdTimeExpiry t m).Good := by
  unfold holdTimeExpiry
  try dsimp only
  repeat' first
    | with_reducible assumption
    | intro _
    | with_reducible apply Mod.leaveTag_good
    | with_reducible apply Mod.bump_good
    | with_reducible apply good_ite

theorem quarantineExpiry_good {m : Mod} (h : m.Good) (t : _) : (quarantineExpiry t m).Good := by
  unfold quarantineExpiry
  try dsimp only
  repeat' first
    | with_reducible assumption
    | intro _
    | with_reducible apply Mod.freeTag_good
    | with_reducible apply good_ite

theorem Mod.checkTriadLink_good {m : Mod} (h : m.Good) (l : _) : (Mod.checkTriadLink m l).Good := by
  unfold Mod.checkTriadLink
  try dsimp only
  repeat' first
    | with_reducible assumption
    | intro _
    | with_reducible apply Mod.raise_good
    | with_reducible apply good_ite

theorem Mod.sayRate_good {m : Mod} (h : m.Good) (l : _) (op : _) (code : _) (nonce : _) : (Mod.sayRate m l op code nonce).Good := by
  unfold Mod.sayRate
  try dsimp only
  repeat' first
    | with_reducible assumption
    | with_reducible apply Mod.sendLocal_good

theorem Mod.propose_good {m : Mod} (h : m.Good) (l : _) (code : _) : (Mod.propose m l code).Good := by
  unfold Mod.propose
  try dsimp only
  repeat' first
    | with_reducible assumption
    | with_reducible apply Mod.draw_good
    | with_reducible apply Mod.setLink_good
    | with_reducible apply Mod.sayRate_good

theorem Mod.climbOn_good {m : Mod} (h : m.Good) (l : _) : (Mod.climbOn m l).Good := by
  unfold Mod.climbOn
  try dsimp only
  repeat' first
    | with_reducible assumption
    | intro _
    | with_reducible apply Mod.propose_good
    | with_reducible apply good_ite

theorem Mod.endBackoff_good {m : Mod} (h : m.Good) (l : _) (now : _) : (Mod.endBackoff m l now).Good := by
  unfold Mod.endBackoff
  try dsimp only
  repeat' first
    | with_reducible assumption
    | with_reducible apply Mod.setLink_good

theorem Mod.takeWindow_good {m : Mod} (h : m.Good) (l : _) (x2 : _) : (Mod.takeWindow m l x2).Good := by
  unfold Mod.takeWindow
  try dsimp only
  repeat' first
    | with_reducible assumption
    | with_reducible apply Mod.setLink_good
    | with_reducible apply Mod.set_good
    | split

theorem rateProposal_good {m : Mod} (h : m.Good) (l : _) (w : _) (now : _) : (rateProposal l w now m).Good := by
  unfold rateProposal
  try dsimp only
  repeat' first
    | with_reducible assumption
    | with_reducible apply Mod.endBackoff_good
    | with_reducible apply Mod.takeWindow_good
    | with_reducible apply Mod.climbOn_good
    | with_reducible apply Mod.propose_good
    | with_reducible apply good_ite

theorem Mod.quiesce_good {m : Mod} (h : m.Good) (l : _) (code : _) (nonce : _) : (Mod.quiesce m l code nonce).Good := by
  unfold Mod.quiesce
  try dsimp only
  repeat' first
    | with_reducible assumption
    | intro _
    | with_reducible apply Mod.setLink_good
    | with_reducible apply Mod.set_good

theorem Mod.answerReq_good {m : Mod} (h : m.Good) (l : _) (code : _) (nonce : _) : (Mod.answerReq m l code nonce).Good := by
  unfold Mod.answerReq
  try dsimp only
  repeat' first
    | with_reducible assumption
    | with_reducible apply Mod.setLink_good
    | with_reducible apply Mod.sayRate_good
    | with_reducible apply Mod.quiesce_good
    | with_reducible apply Mod.bump_good
    | with_reducible apply Mod.climbOn_good
    | with_reducible apply good_ite

theorem Mod.takeAck_good {m : Mod} (h : m.Good) (l : _) (nonce : _) : (Mod.takeAck m l nonce).Good := by
  unfold Mod.takeAck
  try dsimp only
  repeat' first
    | with_reducible assumption
    | with_reducible apply Mod.quiesce_good
    | with_reducible apply good_ite

theorem Mod.backOff_good {m : Mod} (h : m.Good) (l : _) (code : _) (now : _) : (Mod.backOff m l code now).Good := by
  unfold Mod.backOff
  try dsimp only
  repeat' first
    | with_reducible assumption
    | with_reducible apply Mod.setLink_good

theorem Mod.dropProposal_good {m : Mod} (h : m.Good) (l : _) (now : _) : (Mod.dropProposal m l now).Good := by
  unfold Mod.dropProposal
  try dsimp only
  repeat' first
    | with_reducible assumption
    | with_reducible apply Mod.setLink_good
    | with_reducible apply Mod.backOff_good
    | with_reducible apply Mod.bump_good
    | with_reducible apply good_ite

theorem rateProposalTimeout_good {m : Mod} (h : m.Good) (l : _) (now : _) : (rateProposalTimeout l now m).Good := by
  unfold rateProposalTimeout
  try dsimp only
  repeat' first
    | with_reducible assumption
    | with_reducible apply Mod.dropProposal_good

theorem Mod.maybeRetrain_good {m : Mod} (h : m.Good) (l : _) : (Mod.maybeRetrain m l).Good := by
  unfold Mod.maybeRetrain
  try dsimp only
  repeat' first
    | with_reducible assumption
    | intro _
    | with_reducible apply Mod.quiesce_good
    | with_reducible apply Mod.setLink_good
    | with_reducible apply good_ite

theorem quiesceDrained_good {m : Mod} (h : m.Good) (l : _) : (quiesceDrained l m).Good := by
  unfold quiesceDrained
  try dsimp only
  repeat' first
    | with_reducible assumption
    | with_reducible apply Mod.setLink_good
    | with_reducible apply Mod.sayRate_good
    | with_reducible apply Mod.maybeRetrain_good
    | with_reducible apply good_ite

theorem Mod.takeMark_good {m : Mod} (h : m.Good) (l : _) : (Mod.takeMark m l).Good := by
  unfold Mod.takeMark
  try dsimp only
  repeat' first
    | with_reducible assumption
    | with_reducible apply Mod.setLink_good
    | with_reducible apply Mod.maybeRetrain_good
    | with_reducible apply good_ite

theorem retrainLock_good {m : Mod} (h : m.Good) (l : _) : (retrainLock l m).Good := by
  unfold retrainLock
  try dsimp only
  repeat' first
    | with_reducible assumption
    | with_reducible apply Mod.setLink_good
    | with_reducible apply Mod.set_good
    | with_reducible apply Mod.setLk_good
    | with_reducible apply Mod.bump_good
    | with_reducible apply Mod.raise_good
    | with_reducible apply Mod.sayHello_good
    | with_reducible apply Mod.pump_good
    | with_reducible apply Mod.checkTriadLink_good
    | with_reducible apply Mod.climbOn_good
    | with_reducible apply good_ite

theorem retrainTimeout_good {m : Mod} (h : m.Good) (l : _) (now : _) : (retrainTimeout l now m).Good := by
  unfold retrainTimeout
  try dsimp only
  repeat' first
    | with_reducible assumption
    | with_reducible apply Mod.setLink_good
    | with_reducible apply Mod.backOff_good
    | with_reducible apply Mod.bump_good
    | with_reducible apply Mod.raise_good
    | with_reducible apply good_ite

theorem retrainFallbackTimeout_good {m : Mod} (h : m.Good) (l : _) : (retrainFallbackTimeout l m).Good := by
  unfold retrainFallbackTimeout
  try dsimp only
  repeat' first
    | with_reducible assumption
    | intro _
    | with_reducible apply Mod.linkDown_good
    | with_reducible apply good_ite

end Sys2Proof.Machine
end

