-- ==== Sys2Proof/Laws/GoodTriad.lean ====
section
/-!
SUPPORT. The operations and commands of Machine/Triad.lean keep a module sound.
-/
set_option linter.unusedSimpArgs false

namespace Sys2Proof.Machine

theorem Mod.setMstate_good {m : Mod} (h : m.Good) (st : _) : (Mod.setMstate m st).Good := by
  unfold Mod.setMstate
  try dsimp only
  repeat' first
    | with_reducible assumption
    | with_reducible apply Mod.set_good
    | with_reducible apply Mod.joined_good
    | with_reducible apply Mod.helloAll_good
    | with_reducible apply good_ite

theorem Mod.enterSeek_good {m : Mod} (h : m.Good) : (Mod.enterSeek m).Good := by
  unfold Mod.enterSeek
  try dsimp only
  repeat' first
    | with_reducible assumption
    | intro _
    | (simp only [↓good_mk]; with_reducible apply Mod.Good.all)
    | with_reducible apply Mod.setMstate_good
    | with_reducible apply Mod.laceAlive_good

theorem Mod.enterOut_good {m : Mod} (h : m.Good) (cause : _) : (Mod.enterOut m cause).Good := by
  unfold Mod.enterOut
  try dsimp only
  repeat' first
    | with_reducible assumption
    | intro _
    | with_reducible apply Mod.releaseClaim_good
    | with_reducible apply Mod.laceOff_good
    | with_reducible apply Mod.setMstate_good

theorem Mod.resyncFail_good {m : Mod} (h : m.Good) (cause : _) : (Mod.resyncFail m cause).Good := by
  unfold Mod.resyncFail
  try dsimp only
  repeat' first
    | with_reducible assumption
    | intro _
    | (simp only [↓good_mk]; with_reducible apply Mod.Good.all)
    | with_reducible apply Mod.bump_good
    | with_reducible apply Mod.raise_good
    | with_reducible apply Mod.enterOut_good
    | with_reducible apply Mod.enterSeek_good
    | with_reducible apply good_ite

theorem Mod.noteVote_good {m : Mod} (h : m.Good) : (Mod.noteVote m).Good := by
  unfold Mod.noteVote
  try dsimp only
  repeat' first
    | with_reducible assumption
    | (simp only [↓good_mk]; with_reducible apply Mod.Good.all)
    | with_reducible apply good_ite

theorem Mod.becomeMember_good {m : Mod} (h : m.Good) : (Mod.becomeMember m).Good := by
  unfold Mod.becomeMember
  try dsimp only
  repeat' first
    | with_reducible assumption
    | intro _
    | (simp only [↓good_mk]; with_reducible apply Mod.Good.all)
    | with_reducible apply Mod.set_good
    | with_reducible apply Mod.setMstate_good

theorem Mod.peerIs_good {m : Mod} (h : m.Good) (r : _) (st : _) : (Mod.peerIs m r st).Good := by
  unfold Mod.peerIs
  try dsimp only
  repeat' first
    | with_reducible assumption
    | intro _
    | (simp only [↓good_mk]; with_reducible apply Mod.Good.all)
    | with_reducible apply Mod.set_good
    | with_reducible apply good_ite

theorem Mod.haltTick_good {m : Mod} (h : m.Good) : (Mod.haltTick m).Good := by
  unfold Mod.haltTick
  try dsimp only
  repeat' first
    | with_reducible assumption
    | intro _
    | with_reducible apply Mod.each_good
    | with_reducible apply Mod.cancelCommit_good
    | with_reducible apply Mod.endSwap_good
    | with_reducible apply Mod.endProfileSwap_good
    | with_reducible apply Mod.missArmed_good
    | with_reducible apply clickerStop_good

theorem Mod.adoptTick_good {m : Mod} (h : m.Good) (k : _) (q : _) : (Mod.adoptTick m k q).Good := by
  unfold Mod.adoptTick
  try dsimp only
  repeat' first
    | with_reducible assumption
    | intro _
    | (simp only [↓good_mk]; with_reducible apply Mod.Good.all)
    | with_reducible apply Mod.markTick_good
    | with_reducible apply Mod.haltTick_good
    | with_reducible apply Mod.each_good
    | with_reducible apply Mod.setPort_good
    | with_reducible apply Mod.clickerRestart_good
    | with_reducible apply Mod.freshTick_good
    | with_reducible apply good_ite

theorem Mod.resyncStart_good {m : Mod} (h : m.Good) : (Mod.resyncStart m).Good := by
  unfold Mod.resyncStart
  try dsimp only
  repeat' first
    | with_reducible assumption
    | intro _
    | (simp only [↓good_mk]; with_reducible apply Mod.Good.all)
    | with_reducible apply Mod.adoptTick_good
    | with_reducible apply Mod.freshTick_good
    | with_reducible apply Mod.set_good
    | with_reducible apply Mod.raise_good
    | with_reducible apply Mod.setMstate_good
    | with_reducible apply good_ite
    | split

theorem rejoinWrite_good {m : Mod} (h : m.Good) (path : _) (v : _) : (rejoinWrite path v m).Good := by
  unfold rejoinWrite
  try dsimp only
  repeat' first
    | with_reducible assumption
    | intro _
    | (simp only [↓good_mk]; with_reducible apply Mod.Good.all)
    | with_reducible apply Mod.report_good
    | with_reducible apply Mod.served_good
    | with_reducible apply Mod.enterSeek_good
    | with_reducible apply good_ite

theorem Mod.rankConflict_good {m : Mod} (h : m.Good) (h_ : _) : (Mod.rankConflict m h_).Good := by
  unfold Mod.rankConflict
  try dsimp only
  repeat' first
    | with_reducible assumption
    | intro _
    | with_reducible apply Mod.raise_good
    | with_reducible apply Mod.setMstate_good
    | with_reducible apply good_ite

theorem Mod.triadHello_good {m : Mod} (h : m.Good) (h_ : _) (k : _) (q : _) : (Mod.triadHello m h_ k q).Good := by
  unfold Mod.triadHello
  try dsimp only
  repeat' first
    | with_reducible assumption
    | (simp only [↓good_mk]; with_reducible apply Mod.Good.all)
    | with_reducible apply Mod.rankConflict_good
    | with_reducible apply Mod.set_good
    | with_reducible apply Mod.peerIs_good
    | with_reducible apply Mod.resyncStart_good
    | with_reducible apply good_ite

theorem Mod.judgeTriadLink_good {m : Mod} (h : m.Good) (l : _) : (Mod.judgeTriadLink m l).Good := by
  unfold Mod.judgeTriadLink
  try dsimp only
  repeat' first
    | with_reducible assumption
    | with_reducible apply Mod.set_good
    | with_reducible apply Mod.setLink_good
    | with_reducible apply Mod.checkTriadLink_good
    | with_reducible apply Mod.climbOn_good
    | with_reducible apply good_ite

theorem Mod.peerFields_good {m : Mod} (h : m.Good) (l : _) (h_ : _) : (Mod.peerFields m l h_).Good := by
  unfold Mod.peerFields
  try dsimp only
  repeat' first
    | with_reducible assumption
    | with_reducible apply Mod.set_good
    | with_reducible apply Mod.setLink_good
    | with_reducible apply Mod.judgeTriadLink_good
    | with_reducible apply Mod.routesInUse_good

theorem Mod.linkActive_good {m : Mod} (h : m.Good) (l : _) (h_ : _) : (Mod.linkActive m l h_).Good := by
  unfold Mod.linkActive
  try dsimp only
  repeat' first
    | with_reducible assumption
    | intro _
    | with_reducible apply Mod.setLink_good
    | with_reducible apply Mod.setLk_good
    | with_reducible apply Mod.peerFields_good
    | with_reducible apply Mod.raise_good
    | with_reducible apply Mod.sayHello_good
    | with_reducible apply Mod.climbOn_good

theorem Mod.firstHello_good {m : Mod} (h : m.Good) (l : _) (x : _) (k : _) (q : _) : (Mod.firstHello m l x k q).Good := by
  unfold Mod.firstHello
  try dsimp only
  repeat' first
    | with_reducible assumption
    | with_reducible apply Mod.raise_good
    | with_reducible apply Mod.setLk_good
    | with_reducible apply Mod.linkActive_good
    | with_reducible apply Mod.triadHello_good
    | with_reducible apply good_ite

theorem Mod.nextHello_good {m : Mod} (h : m.Good) (l : _) (x : _) (k : _) (q : _) : (Mod.nextHello m l x k q).Good := by
  unfold Mod.nextHello
  try dsimp only
  repeat' first
    | with_reducible assumption
    | with_reducible apply Mod.linkDown_good
    | with_reducible apply Mod.peerFields_good
    | with_reducible apply Mod.climbOn_good
    | with_reducible apply Mod.triadHello_good
    | with_reducible apply good_ite

theorem weltHelloRx_good {m : Mod} (h : m.Good) (h_ : _) (x : _) (k : _) (q : _) : (weltHelloRx h_ x k q m).Good := by
  unfold weltHelloRx
  try dsimp only
  repeat' first
    | with_reducible assumption
    | intro _
    | with_reducible apply Mod.takeLocal_good
    | with_reducible apply Mod.nextHello_good
    | with_reducible apply Mod.firstHello_good
    | with_reducible apply good_ite

theorem Mod.sendTriad_good {m : Mod} (h : m.Good) (bytes : _) : (Mod.sendTriad m bytes).Good := by
  unfold Mod.sendTriad
  try dsimp only
  repeat' first
    | with_reducible assumption
    | intro _
    | with_reducible apply Mod.each_good
    | with_reducible apply Mod.sendOn_good
    | split

theorem Mod.openTick_good {m : Mod} (h : m.Good) : (Mod.openTick m).Good := by
  unfold Mod.openTick
  try dsimp only
  repeat' first
    | with_reducible assumption
    | intro _
    | with_reducible apply clearDropped_good
    | with_reducible apply Mod.closeFiling_good
    | with_reducible apply Mod.each_good
    | with_reducible apply formStation_good
    | with_reducible apply Mod.sendTriad_good
    | with_reducible apply good_ite

theorem formWaitExpiry_good {m : Mod} (h : m.Good) (r : _) (kForm : _) (k : _) (q : _) : (formWaitExpiry r kForm k q m).Good := by
  unfold formWaitExpiry
  try dsimp only
  repeat' first
    | with_reducible assumption
    | intro _
    | (simp only [↓good_mk]; with_reducible apply Mod.Good.all)
    | with_reducible apply Mod.emit_good
    | with_reducible apply Mod.adoptTick_good
    | with_reducible apply Mod.freshTick_good
    | with_reducible apply good_ite

theorem formationTick_good {m : Mod} (h : m.Good) : (formationTick m).Good := by
  unfold formationTick
  try dsimp only
  repeat' first
    | with_reducible assumption
    | with_reducible apply Mod.set_good
    | with_reducible apply Mod.freshTick_good
    | with_reducible apply Mod.peerIs_good
    | with_reducible apply Mod.raise_good
    | with_reducible apply Mod.openTick_good
    | with_reducible apply Mod.becomeMember_good
    | with_reducible apply Mod.noteVote_good
    | with_reducible apply good_ite

theorem resyncTimeout_good {m : Mod} (h : m.Good) (cause : _) : (resyncTimeout cause m).Good := by
  unfold resyncTimeout
  try dsimp only
  repeat' first
    | with_reducible assumption
    | intro _
    | with_reducible apply Mod.resyncFail_good
    | with_reducible apply good_ite

theorem shadowComplete_good {m : Mod} (h : m.Good) : (shadowComplete m).Good := by
  unfold shadowComplete
  try dsimp only
  repeat' first
    | with_reducible assumption
    | intro _
    | with_reducible apply Mod.set_good
    | with_reducible apply Mod.raise_good
    | with_reducible apply Mod.becomeMember_good
    | with_reducible apply good_ite

theorem dictWf_foldl {d : Table Val} (l : List (Nat × Val)) (h : dictWf d = true) :
    dictWf (l.foldl (fun (d : Table Val) (e : Nat × Val) => putVal d e.1 e.2) d) = true := by
  induction l generalizing d with
  | nil => exact h
  | cons e l ih => exact ih (dictWf_putVal e.1 e.2 h)

theorem Memory.wf_foldl {m : Memory} (l : List Host.Cell) (h : Memory.wf m = true) :
    Memory.wf (l.foldl (fun (t : Memory) (e : Host.Cell) => Memory.write t e.1 e.2) m) = true := by
  induction l generalizing m with
  | nil => exact h
  | cons e l ih => exact ih (Memory.wf_write e.1 e.2 h)

theorem Mod.adoptState_good {m : Mod} (h : m.Good) (c : Chain) : (m.adoptState c).Good :=
  ⟨dictWf_foldl _ (dictWf_filter _ h.dict), Memory.wf_foldl _ (Memory.wf_filter _ h.mem), h.held⟩

theorem Mod.adopt_good {m : Mod} (h : m.Good) (c : _) : (Mod.adopt m c).Good := by
  unfold Mod.adopt
  try dsimp only
  repeat' first
    | with_reducible assumption
    | intro _
    | with_reducible apply Mod.adoptState_good
    | with_reducible apply Mod.each_good
    | with_reducible apply Mod.set_good
    | with_reducible apply Mod.judgeTriadLink_good

theorem Mod.resyncComplete_good {m : Mod} (h : m.Good) (c : _) : (Mod.resyncComplete m c).Good := by
  unfold Mod.resyncComplete
  try dsimp only
  repeat' first
    | with_reducible assumption
    | intro _
    | (simp only [↓good_mk]; with_reducible apply Mod.Good.all)
    | with_reducible apply Mod.resyncFail_good
    | with_reducible apply Mod.adopt_good
    | with_reducible apply Mod.setMstate_good
    | with_reducible apply Mod.each_good
    | with_reducible apply Mod.identity_good
    | with_reducible apply good_ite

theorem Mod.takeFence_good {m : Mod} (h : m.Good) (p : _) (c : _) : (Mod.takeFence m p c).Good := by
  unfold Mod.takeFence
  try dsimp only
  repeat' first
    | with_reducible assumption
    | with_reducible apply Mod.set_good
    | with_reducible apply Mod.resyncComplete_good
    | split

theorem donorCopyComplete_good {m : Mod} (h : m.Good) (r : _) : (donorCopyComplete r m).Good := by
  unfold donorCopyComplete
  try dsimp only
  repeat' first
    | with_reducible assumption
    | intro _
    | with_reducible apply Mod.each_good
    | with_reducible apply Mod.post_good
    | with_reducible apply Mod.emit_good
    | with_reducible apply good_ite

theorem Mod.takeAgree_good {m : Mod} (h : m.Good) (l : _) (p : _) (records : _) : (Mod.takeAgree m l p records).Good := by
  unfold Mod.takeAgree
  try dsimp only
  repeat' first
    | with_reducible assumption
    | (simp only [↓good_mk]; with_reducible apply Mod.Good.all)
    | with_reducible apply Mod.peerIs_good
    | split

theorem Mod.takeVector_good {m : Mod} (h : m.Good) (l : _) (p : _) : (Mod.takeVector m l p).Good := by
  unfold Mod.takeVector
  try dsimp only
  repeat' first
    | with_reducible assumption
    | (simp only [↓good_mk]; with_reducible apply Mod.Good.all)
    | with_reducible apply Mod.peerIs_good
    | split

theorem Mod.fetch_good {m : Mod} (h : m.Good) (s : _) (r : _) (digest : _) (mask : _) : (Mod.fetch m s r digest mask).Good := by
  unfold Mod.fetch
  try dsimp only
  repeat' first
    | with_reducible assumption
    | (simp only [↓good_mk]; with_reducible apply Mod.Good.all)
    | with_reducible apply remoteRead_good
    | with_reducible apply Mod.bump_good
    | with_reducible apply good_ite

theorem Mod.agreeStream_good {m : Mod} (h : m.Good) (i : _) (s : _) : (Mod.agreeStream m i s).Good := by
  unfold Mod.agreeStream
  try dsimp only
  repeat' first
    | with_reducible assumption
    | intro _
    | (simp only [↓good_mk]; with_reducible apply Mod.Good.all)
    | with_reducible apply Mod.fetch_good
    | with_reducible apply Mod.bump_good
    | with_reducible apply good_ite
    | split

theorem Mod.agreeStation_good {m : Mod} (h : m.Good) (i : _) (r : _) : (Mod.agreeStation m i r).Good := by
  unfold Mod.agreeStation
  try dsimp only
  repeat' first
    | with_reducible assumption
    | intro _
    | with_reducible apply Mod.setStation_good
    | with_reducible apply good_ite
    | split

theorem agreeDeadline_good {m : Mod} (h : m.Good) : (agreeDeadline m).Good := by
  unfold agreeDeadline
  try dsimp only
  repeat' first
    | with_reducible assumption
    | intro _
    | (simp only [↓good_mk]; with_reducible apply Mod.Good.all)
    | with_reducible apply Mod.each_good
    | with_reducible apply Mod.bump_good
    | with_reducible apply Mod.agreeStream_good
    | with_reducible apply Mod.agreeStation_good
    | with_reducible apply good_ite

theorem fetchDeadline_good {m : Mod} (h : m.Good) : (fetchDeadline m).Good := by
  unfold fetchDeadline
  try dsimp only
  repeat' first
    | with_reducible assumption
    | intro _
    | (simp only [↓good_mk]; with_reducible apply Mod.Good.all)
    | with_reducible apply Mod.bump_good
    | with_reducible apply applyStations_good
    | with_reducible apply Mod.deliverAll_good
    | with_reducible apply Mod.sampleGroups_good
    | with_reducible apply good_ite

end Sys2Proof.Machine
end

