-- ==== Sys2Proof/Laws/GoodVote.lean ====
section
/-!
SUPPORT. The operations and commands of Machine/Vote.lean keep a module sound.
-/
set_option linter.unusedSimpArgs false

namespace Sys2Proof.Machine

theorem voteStart_good {m : Mod} (h : m.Good) (now : _) : (voteStart now m).Good := by
  unfold voteStart
  try dsimp only
  repeat' first
    | with_reducible assumption
    | (simp only [↓good_mk]; with_reducible apply Mod.Good.all)
    | with_reducible apply Mod.endPasses_good
    | with_reducible apply Mod.set_good
    | with_reducible apply Mod.sendTriad_good
    | with_reducible apply Mod.clickerVStart_good
    | with_reducible apply good_ite

theorem voteDeadline_good {m : Mod} (h : m.Good) (own : _) : (voteDeadline own m).Good := by
  unfold voteDeadline
  try dsimp only
  repeat' first
    | with_reducible assumption
    | intro _
    | (simp only [↓good_mk]; with_reducible apply Mod.Good.all)
    | with_reducible apply Mod.releaseClaim_good
    | with_reducible apply good_ite

theorem Mod.countHeld_good {m : Mod} (h : m.Good) : (Mod.countHeld m).Good := by
  unfold Mod.countHeld
  try dsimp only
  repeat' first
    | with_reducible assumption
    | intro _
    | (simp only [↓good_mk]; with_reducible apply Mod.Good.all)
    | with_reducible apply Mod.set_good
    | with_reducible apply Mod.raise_good
    | with_reducible apply Mod.bump_good
    | with_reducible apply good_ite

theorem Mod.countMinority_good {m : Mod} (h : m.Good) (r : _) : (Mod.countMinority m r).Good := by
  unfold Mod.countMinority
  try dsimp only
  repeat' first
    | with_reducible assumption
    | intro _
    | with_reducible apply Mod.raise_good
    | with_reducible apply Mod.bump_good
    | with_reducible apply Mod.set_good
    | with_reducible apply good_ite

theorem Mod.countAbsence_good {m : Mod} (h : m.Good) (r : _) : (Mod.countAbsence m r).Good := by
  unfold Mod.countAbsence
  try dsimp only
  repeat' first
    | with_reducible assumption
    | intro _
    | (simp only [↓good_mk]; with_reducible apply Mod.Good.all)
    | with_reducible apply Mod.set_good

theorem Mod.drivePublisher_good {m : Mod} (h : m.Good) : (Mod.drivePublisher m).Good := by
  unfold Mod.drivePublisher
  try dsimp only
  repeat' first
    | with_reducible assumption
    | intro _
    | with_reducible apply Mod.bump_good
    | with_reducible apply Mod.driveClaim_good
    | with_reducible apply Mod.releaseClaim_good
    | with_reducible apply good_ite

theorem Mod.choosePublisher_good {m : Mod} (h : m.Good) : (Mod.choosePublisher m).Good := by
  unfold Mod.choosePublisher
  try dsimp only
  repeat' first
    | with_reducible assumption
    | intro _
    | (simp only [↓good_mk]; with_reducible apply Mod.Good.all)
    | with_reducible apply Mod.set_good
    | with_reducible apply Mod.drivePublisher_good

theorem Mod.countLines_good {m : Mod} (h : m.Good) (c : _) : (Mod.countLines m c).Good := by
  unfold Mod.countLines
  try dsimp only
  repeat' first
    | with_reducible assumption
    | intro _
    | (simp only [↓good_mk]; with_reducible apply Mod.Good.all)

theorem Mod.holdEntry_good {m : Mod} (h : m.Good) (e : _) : (Mod.holdEntry m e).Good := by
  unfold Mod.holdEntry
  try dsimp only
  repeat' first
    | with_reducible assumption
    | intro _
    | (simp only [↓good_mk]; with_reducible apply Mod.Good.all)
    | with_reducible apply Mod.setSc0_good
    | with_reducible apply Mod.setPub_good
    | with_reducible apply good_ite
    | split

theorem Mod.dropStanding_good {m : Mod} (h : m.Good) : (Mod.dropStanding m).Good := by
  unfold Mod.dropStanding
  try dsimp only
  repeat' first
    | with_reducible assumption
    | intro _
    | with_reducible apply Mod.each_good
    | with_reducible apply Mod.setPub_good
    | with_reducible apply Mod.setSc0_good

theorem Mod.holdUpdate_good {m : Mod} (h : m.Good) : (Mod.holdUpdate m).Good := by
  unfold Mod.holdUpdate
  try dsimp only
  repeat' first
    | with_reducible assumption
    | intro _
    | (simp only [↓good_mk]; with_reducible apply Mod.Good.all)
    | with_reducible apply Mod.each_good
    | with_reducible apply Mod.holdEntry_good
    | with_reducible apply Mod.dropStanding_good
    | split

theorem Mod.shadowTick_good {m : Mod} (h : m.Good) : (Mod.shadowTick m).Good := by
  unfold Mod.shadowTick
  try dsimp only
  repeat' first
    | with_reducible assumption
    | intro _
    | (simp only [↓good_mk]; with_reducible apply Mod.Good.all)
    | with_reducible apply Mod.resyncFail_good
    | with_reducible apply good_ite
    | split

theorem Mod.memberEnd_good {m : Mod} (h : m.Good) : (Mod.memberEnd m).Good := by
  unfold Mod.memberEnd
  try dsimp only
  repeat' first
    | with_reducible assumption
    | intro _
    | with_reducible apply Mod.each_good
    | with_reducible apply Mod.countMinority_good
    | with_reducible apply Mod.countAbsence_good
    | with_reducible apply Mod.countHeld_good
    | with_reducible apply Mod.choosePublisher_good

theorem Mod.keepView_good {m : Mod} (h : m.Good) : (Mod.keepView m).Good := by
  unfold Mod.keepView
  try dsimp only
  repeat' first
    | with_reducible assumption
    | intro _
    | (simp only [↓good_mk]; with_reducible apply Mod.Good.all)

theorem Mod.judge_good {m : Mod} (h : m.Good) : (Mod.judge m).Good := by
  unfold Mod.judge
  try dsimp only
  repeat' first
    | with_reducible assumption
    | intro _
    | with_reducible apply Mod.judgeCommits_good
    | with_reducible apply good_ite

theorem Mod.endVote_good {m : Mod} (h : m.Good) (c : _) : (Mod.endVote m c).Good := by
  unfold Mod.endVote
  try dsimp only
  repeat' first
    | with_reducible assumption
    | intro _
    | with_reducible apply Mod.when_good
    | with_reducible apply Mod.countHeld_good
    | with_reducible apply Mod.memberEnd_good
    | with_reducible apply Mod.laceAlive_good
    | with_reducible apply Mod.countLines_good
    | with_reducible apply Mod.holdUpdate_good
    | with_reducible apply Mod.shadowTick_good
    | with_reducible apply Mod.judge_good

theorem vEnd_good {m : Mod} (h : m.Good) : (vEnd m).Good := by
  unfold vEnd
  try dsimp only
  repeat' first
    | with_reducible assumption
    | intro _
    | (simp only [↓good_mk]; with_reducible apply Mod.Good.all)
    | with_reducible apply Mod.endVote_good
    | with_reducible apply good_ite

theorem demotion_good {m : Mod} (h : m.Good) (r : _) : (demotion r m).Good := by
  unfold demotion
  try dsimp only
  repeat' first
    | with_reducible assumption
    | intro _
    | with_reducible apply Mod.releaseClaim_good
    | with_reducible apply Mod.setMstate_good
    | with_reducible apply Mod.raise_good
    | with_reducible apply Mod.missArmed_good
    | with_reducible apply Mod.set_good
    | with_reducible apply good_ite

theorem revertDelayElapsed_good {m : Mod} (h : m.Good) : (revertDelayElapsed m).Good := by
  unfold revertDelayElapsed
  try dsimp only
  repeat' first
    | with_reducible assumption
    | intro _
    | (simp only [↓good_mk]; with_reducible apply Mod.Good.all)
    | with_reducible apply Mod.set_good
    | with_reducible apply Mod.releaseClaim_good
    | with_reducible apply good_ite
    | split

theorem revertHoldoffEnd_good {m : Mod} (h : m.Good) : (revertHoldoffEnd m).Good := by
  unfold revertHoldoffEnd
  try dsimp only
  repeat' first
    | with_reducible assumption
    | intro _
    | (simp only [↓good_mk]; with_reducible apply Mod.Good.all)
    | with_reducible apply Mod.set_good
    | with_reducible apply Mod.drivePublisher_good
    | with_reducible apply good_ite
    | split

theorem Mod.injectLogic_good {m : Mod} (h : m.Good) (u : _) (x : _) (pub : _) (now : _) (bound : _) : (Mod.injectLogic m u x pub now bound).Good := by
  unfold Mod.injectLogic
  try dsimp only
  repeat' first
    | with_reducible assumption
    | with_reducible apply Mod.inject_good

theorem holdLimitReached_good {m : Mod} (h : m.Good) : (holdLimitReached m).Good := by
  unfold holdLimitReached
  try dsimp only
  repeat' first
    | with_reducible assumption
    | intro _
    | (simp only [↓good_mk]; with_reducible apply Mod.Good.all)
    | with_reducible apply Mod.raise_good
    | with_reducible apply Mod.each_good
    | with_reducible apply Mod.injectLogic_good
    | with_reducible apply good_ite

end Sys2Proof.Machine
end

