-- ==== Sys2Proof/Laws/GoodTick.lean ====
section
/-!
SUPPORT. The operations and commands of Machine/Tick.lean keep a module sound.
-/
set_option linter.unusedSimpArgs false

namespace Sys2Proof.Machine

theorem Mod.triadBits_good {m : Mod} (h : m.Good) : (Mod.triadBits m).Good := by
  unfold Mod.triadBits
  try dsimp only
  repeat' first
    | with_reducible assumption
    | intro _
    | with_reducible apply Mod.each_good
    | with_reducible apply Mod.setBitAt_good

theorem Mod.clearVote_good {m : Mod} (h : m.Good) : (Mod.clearVote m).Good := by
  unfold Mod.clearVote
  try dsimp only
  repeat' first
    | with_reducible assumption
    | intro _
    | (simp only [↓good_mk]; with_reducible apply Mod.Good.all)

theorem Mod.beginTick_good {m : Mod} (h : m.Good) : (Mod.beginTick m).Good := by
  unfold Mod.beginTick
  try dsimp only
  repeat' first
    | with_reducible assumption
    | intro _
    | with_reducible apply Mod.setBitAt_good
    | with_reducible apply Mod.clearVote_good
    | with_reducible apply Mod.noteTime_good
    | with_reducible apply Mod.sc0LoadCheck_good
    | with_reducible apply Mod.openTick_good
    | with_reducible apply good_ite

theorem Mod.advance_good {m : Mod} (h : m.Good) : (Mod.advance m).Good := by
  unfold Mod.advance
  try dsimp only
  repeat' first
    | with_reducible assumption
    | intro _
    | (simp only [↓good_mk]; with_reducible apply Mod.Good.all)

theorem Mod.takeJump_good {m : Mod} (h : m.Good) : (Mod.takeJump m).Good := by
  unfold Mod.takeJump
  try dsimp only
  repeat' first
    | with_reducible assumption
    | intro _
    | (simp only [↓good_mk]; with_reducible apply Mod.Good.all)
    | with_reducible apply Mod.moveTime_good
    | with_reducible apply good_ite
    | split

theorem Mod.endTick_good {m : Mod} (h : m.Good) : (Mod.endTick m).Good := by
  unfold Mod.endTick
  try dsimp only
  repeat' first
    | with_reducible assumption
    | with_reducible apply Mod.flushCleared_good
    | with_reducible apply Mod.clearForStep_good
    | with_reducible apply good_ite

theorem Mod.holdoverTime_good {m : Mod} (h : m.Good) : (Mod.holdoverTime m).Good := by
  unfold Mod.holdoverTime
  try dsimp only
  repeat' first
    | with_reducible assumption
    | intro _
    | with_reducible apply Mod.bump_good
    | with_reducible apply good_ite

theorem Mod.seekOn_good {m : Mod} (h : m.Good) : (Mod.seekOn m).Good := by
  unfold Mod.seekOn
  try dsimp only
  repeat' first
    | with_reducible assumption
    | intro _
    | (simp only [↓good_mk]; with_reducible apply Mod.Good.all)
    | with_reducible apply Mod.enterSeek_good
    | with_reducible apply good_ite

theorem tickStart_good {m : Mod} (h : m.Good) : (tickStart m).Good := by
  unfold tickStart
  try dsimp only
  repeat' first
    | with_reducible assumption
    | (simp only [↓good_mk]; with_reducible apply Mod.Good.all)
    | with_reducible apply Mod.beginTick_good
    | with_reducible apply Mod.endTick_good
    | with_reducible apply Mod.keepView_good
    | with_reducible apply Mod.advance_good
    | with_reducible apply Mod.takeJump_good
    | with_reducible apply Mod.holdoverTime_good
    | with_reducible apply Mod.triadBits_good
    | with_reducible apply Mod.seekOn_good
    | with_reducible apply good_ite

theorem Mod.startTick_good {m : Mod} (h : m.Good) (k : _) : (Mod.startTick m k).Good := by
  unfold Mod.startTick
  try dsimp only
  repeat' first
    | with_reducible assumption
    | (simp only [↓good_mk]; with_reducible apply Mod.Good.all)
    | with_reducible apply Mod.stepDone_good
    | with_reducible apply Mod.freshTick_good
    | with_reducible apply Mod.clickerRestart_good
    | with_reducible apply Mod.setMstate_good
    | with_reducible apply Mod.noteVote_good
    | with_reducible apply Mod.enterSeek_good
    | with_reducible apply Mod.beginTick_good
    | with_reducible apply good_ite

theorem firstTickStart_good {m : Mod} (h : m.Good) (taiS : _) : (firstTickStart taiS m).Good := by
  unfold firstTickStart
  try dsimp only
  repeat' first
    | with_reducible assumption
    | intro _
    | with_reducible apply Mod.startTick_good
    | with_reducible apply good_ite

theorem Mod.stopTick_good {m : Mod} (h : m.Good) : (Mod.stopTick m).Good := by
  unfold Mod.stopTick
  try dsimp only
  repeat' first
    | with_reducible assumption
    | with_reducible apply Mod.raise_good
    | with_reducible apply Mod.releaseClaim_good
    | with_reducible apply Mod.laceOff_good
    | with_reducible apply Mod.haltTick_good
    | with_reducible apply Mod.setMstate_good
    | with_reducible apply good_ite

theorem tickStop_good {m : Mod} (h : m.Good) (path : _) : (tickStop path m).Good := by
  unfold tickStop
  try dsimp only
  repeat' first
    | with_reducible assumption
    | intro _
    | (simp only [↓good_mk]; with_reducible apply Mod.Good.all)
    | with_reducible apply Mod.served_good
    | with_reducible apply Mod.set_good
    | with_reducible apply Mod.stopTick_good
    | with_reducible apply good_ite

theorem tickRunStart_good {m : Mod} (h : m.Good) (path : _) (now : _) : (tickRunStart path now m).Good := by
  unfold tickRunStart
  try dsimp only
  repeat' first
    | with_reducible assumption
    | intro _
    | with_reducible apply Mod.report_good
    | with_reducible apply Mod.served_good
    | with_reducible apply Mod.set_good
    | with_reducible apply Mod.startTick_good
    | with_reducible apply good_ite

end Sys2Proof.Machine
end

