-- ==== Sys2Proof/Laws/GoodApply.lean ====
section
/-!
SUPPORT. The operations and commands of Machine/Apply.lean keep a module sound.
-/
set_option linter.unusedSimpArgs false

namespace Sys2Proof.Machine

theorem Mod.countStreams_good {m : Mod} (h : m.Good) : (Mod.countStreams m).Good := by
  unfold Mod.countStreams
  try dsimp only
  repeat' first
    | with_reducible assumption
    | intro _
    | with_reducible apply Mod.set_good

theorem streamOn_good {m : Mod} (h : m.Good) (s : _) : (streamOn s m).Good := by
  unfold streamOn
  try dsimp only
  repeat' first
    | with_reducible assumption
    | intro _
    | (simp only [↓good_mk]; with_reducible apply Mod.Good.all)
    | with_reducible apply Mod.set_good
    | with_reducible apply Mod.clearSubs_good
    | with_reducible apply Mod.setStreamRt_good
    | with_reducible apply Mod.countStreams_good
    | with_reducible apply Mod.each_good
    | with_reducible apply Mod.clearHistory_good
    | with_reducible apply good_ite

theorem streamOff_good {m : Mod} (h : m.Good) (s : _) : (streamOff s m).Good := by
  unfold streamOff
  try dsimp only
  repeat' first
    | with_reducible assumption
    | intro _
    | (simp only [↓good_mk]; with_reducible apply Mod.Good.all)
    | with_reducible apply Mod.set_good
    | with_reducible apply Mod.setStreamRt_good
    | with_reducible apply Mod.setBitAt_good
    | with_reducible apply Mod.each_good
    | with_reducible apply Mod.dropChannel_good
    | with_reducible apply Mod.countStreams_good
    | with_reducible apply good_ite

theorem Mod.clearPhasor_good {m : Mod} (h : m.Good) (c : _) : (Mod.clearPhasor m c).Good := by
  unfold Mod.clearPhasor
  try dsimp only
  repeat' first
    | with_reducible assumption
    | intro _
    | with_reducible apply Mod.setPhChan_good

theorem Mod.keepDepths_good {m : Mod} (h : m.Good) (cs : _) (f : _) (hf : ∀ m, m.Good → (f m).Good) : (Mod.keepDepths m cs f).Good := by
  unfold Mod.keepDepths
  try dsimp only
  repeat' first
    | with_reducible assumption
    | intro _
    | with_reducible apply hf
    | with_reducible apply Mod.each_good
    | with_reducible apply Mod.clearHistory_good
    | with_reducible apply Mod.clearPhasor_good
    | with_reducible apply good_ite

theorem setShift_good {m : Mod} (h : m.Good) (c : _) (v : _) : (setShift c v m).Good := by
  unfold setShift
  try dsimp only
  repeat' first
    | with_reducible assumption
    | intro _
    | with_reducible apply Mod.set_good
    | with_reducible apply Mod.clearHistory_good
    | with_reducible apply good_ite

theorem setProfileRate_good {m : Mod} (h : m.Good) (p : _) (v : _) : (setProfileRate p v m).Good := by
  unfold setProfileRate
  try dsimp only
  repeat' first
    | with_reducible assumption
    | intro _
    | with_reducible apply Mod.set_good
    | with_reducible apply Mod.setProfile_good

theorem setTapsMax_good {m : Mod} (h : m.Good) (p : _) (v : _) : (setTapsMax p v m).Good := by
  unfold setTapsMax
  try dsimp only
  repeat' first
    | with_reducible assumption
    | intro _
    | with_reducible apply Mod.keepDepths_good
    | with_reducible apply Mod.set_good
    | with_reducible apply good_ite

theorem setPhEnable_good {m : Mod} (h : m.Good) (c : _) (v : _) : (setPhEnable c v m).Good := by
  unfold setPhEnable
  try dsimp only
  repeat' first
    | with_reducible assumption
    | intro _
    | with_reducible apply Mod.set_good
    | with_reducible apply Mod.clearPhasor_good
    | with_reducible apply good_ite

theorem setGroupEnable_good {m : Mod} (h : m.Good) (g : _) (v : _) : (setGroupEnable g v m).Good := by
  unfold setGroupEnable
  try dsimp only
  repeat' first
    | with_reducible assumption
    | intro _
    | with_reducible apply Mod.set_good
    | with_reducible apply Mod.enableGroup_good
    | with_reducible apply Mod.disableGroup_good
    | with_reducible apply good_ite

theorem putOnline_good {m : Mod} (h : m.Good) (block : _) (g : _) (i : _) (n : _) : (putOnline block g i n m).Good := by
  unfold putOnline
  try dsimp only
  repeat' first
    | with_reducible assumption
    | with_reducible apply Mod.setEngine_good

theorem setOnline_good {m : Mod} (h : m.Good) (block : _) (g : _) (i : _) (n : _) : (setOnline block g i n m).Good := by
  unfold setOnline
  try dsimp only
  repeat' first
    | with_reducible assumption
    | with_reducible apply putOnline_good
    | with_reducible apply Mod.raise_good

theorem restoreEngine_good {m : Mod} (h : m.Good) (bs : _) (d : _) : (restoreEngine bs d m).Good := by
  unfold restoreEngine
  try dsimp only
  repeat' first
    | with_reducible assumption
    | intro _
    | with_reducible apply Mod.set_good
    | with_reducible apply Mod.setEngine_good
    | with_reducible apply Mod.setBits_good
    | with_reducible apply Mod.setEngState_good

theorem restorePub_good {m : Mod} (h : m.Good) (t : _) (bs : _) (d : _) : (restorePub t bs d m).Good := by
  unfold restorePub
  try dsimp only
  repeat' first
    | with_reducible assumption
    | intro _
    | with_reducible apply Mod.setPub_good

theorem restoreSetting_good {m : Mod} (h : m.Good) (e : _) : (restoreSetting e m).Good := by
  unfold restoreSetting
  try dsimp only
  repeat' first
    | with_reducible assumption
    | intro _
    | with_reducible apply loadEngine_good
    | with_reducible apply putLogicImage_good
    | with_reducible apply Mod.keepDepths_good
    | with_reducible apply Mod.setVal_good
    | with_reducible apply setShift_good
    | with_reducible apply setPhEnable_good
    | with_reducible apply putOnline_good
    | split

theorem tenantRestore_good {m : Mod} (h : m.Good) : (tenantRestore m).Good := by
  unfold tenantRestore
  try dsimp only
  repeat' first
    | with_reducible assumption
    | intro _
    | (simp only [↓good_mk]; with_reducible apply Mod.Good.all)
    | with_reducible apply Mod.newTenant_good
    | with_reducible apply Mod.each_good
    | with_reducible apply restoreSetting_good
    | with_reducible apply Mod.poke_good
    | with_reducible apply Mod.set_good
    | with_reducible apply Mod.retableSlot_good
    | with_reducible apply restoreEngine_good
    | with_reducible apply restorePub_good
    | with_reducible apply Mod.setTenant_good
    | with_reducible apply Mod.identity_good
    | with_reducible apply Mod.raise_good
    | with_reducible apply foldl_good_fst
    | with_reducible apply good_ite

theorem setPtpEnable_good {m : Mod} (h : m.Good) (i : _) (v : _) : (setPtpEnable i v m).Good := by
  unfold setPtpEnable
  try dsimp only
  repeat' first
    | with_reducible assumption
    | intro _
    | with_reducible apply Mod.set_good
    | with_reducible apply Mod.each_good
    | with_reducible apply Mod.setPtpPort_good
    | with_reducible apply Mod.judgeTime_good
    | with_reducible apply Mod.syncSources_good

theorem Mod.countRoutes_good {m : Mod} (h : m.Good) : (Mod.countRoutes m).Good := by
  unfold Mod.countRoutes
  try dsimp only
  repeat' first
    | with_reducible assumption
    | intro _
    | with_reducible apply Mod.set_good

theorem Mod.putRw_good {m : Mod} (h : m.Good) (env : _) (o : _) (i : _) (v : _) : (Mod.putRw m env o i v).Good := by
  unfold Mod.putRw
  try dsimp only
  repeat' first
    | with_reducible assumption
    | intro _
    | (simp only [↓good_mk]; with_reducible apply Mod.Good.all)
    | with_reducible apply Mod.setVal_good
    | with_reducible apply Mod.judgeTime_good
    | with_reducible apply Mod.syncSources_good
    | with_reducible apply Mod.trigFollow_good
    | with_reducible apply Mod.routesInUse_good
    | with_reducible apply Mod.each_good
    | with_reducible apply Mod.judgeTriadLink_good
    | with_reducible apply Mod.sayHello_good
    | with_reducible apply Mod.countRoutes_good
    | with_reducible apply pauseCheck_good
    | split

theorem Mod.quietly_good {m : Mod} (h : m.Good) (f : _) (hf : ∀ m, m.Good → (f m).Good) : (Mod.quietly m f).1.Good := by
  unfold Mod.quietly
  try dsimp only
  repeat' first
    | with_reducible assumption
    | intro _
    | with_reducible apply hf
    | (simp only [↓good_mk]; with_reducible apply Mod.Good.all)

theorem Mod.quietly_good_eq {m m1 : Mod} {y1 : _} {f : _} (hf : ∀ m, m.Good → (f m).Good) (he : Mod.quietly m f = (m1, y1)) (h : m.Good) : m1.Good := by
  have := Mod.quietly_good h f hf
  rw [he] at this
  exact this

theorem ownRw_good {m : Mod} {env : Env} {path : Path} {o i : Nat} {v : Val} {f : Mod → Mod} (hf : ownRw env path o i v = some f) (h : m.Good) :
    (f m).Good := by
  unfold ownRw at hf
  dsimp only at hf
  split at hf <;> cases hf
  · split
    · exact tickStop_good h _
    · exact tickRunStart_good h _ _
  · exact inactiveImageWrite_good h _ _
  · exact profileTapsWrite_good h _ _ _
  · exact profileCoeffsWrite_good h _ _ _
  · exact imageSegmentWrite_good h _ _ _ _
  · exact laneModeWrite_good h _ _ _
  · exact lanePolarityWrite_good h _ _ _
  · exact portEnableWrite_good h _ _ _
  · exact portDormantWrite_good h _ _ _
  · exact canModeWrite_good h _ _ _
  · exact weltLanesWrite_good h _ _ _

theorem Mod.putEntry_good {m : Mod} (h : m.Good) (env : _) (port : _) (o : _) (i : _) (v : _) : (Mod.putEntry m env port o i v).Good := by
  unfold Mod.putEntry
  try dsimp only
  repeat' first
    | with_reducible assumption
    | intro _
    | with_reducible refine ownRw_good (by assumption) ?_
    | with_reducible apply Mod.newRate_good
    | with_reducible apply Mod.set_good
    | with_reducible apply Mod.swapLast_good
    | with_reducible apply streamOn_good
    | with_reducible apply streamOff_good
    | with_reducible apply Mod.keepDepths_good
    | with_reducible apply setShift_good
    | with_reducible apply setProfileRate_good
    | with_reducible apply setTapsMax_good
    | with_reducible apply Mod.swapProfile_good
    | with_reducible apply setPhEnable_good
    | with_reducible apply setGroupEnable_good
    | with_reducible apply putLogicImage_good
    | with_reducible apply Mod.quietly_good
    | with_reducible apply logicCheckWrite_good
    | with_reducible apply startEngine_good
    | with_reducible apply stopEngine_good
    | with_reducible apply stationEnable_good
    | with_reducible apply tenantCreate_good
    | with_reducible apply tenantDestroy_good
    | with_reducible apply tenantFreeze_good
    | with_reducible apply tenantUnfreeze_good
    | with_reducible apply resourceApply_good
    | with_reducible apply tenantRestore_good
    | with_reducible apply Mod.judgeTime_good
    | with_reducible apply setPtpEnable_good
    | with_reducible apply Mod.ckEnable_good
    | with_reducible apply setOnline_good
    | with_reducible apply Mod.putRw_good
    | split

theorem Mod.putStaged_good {m : Mod} (h : m.Good) (env : _) (port : _) (e : _) : (Mod.putStaged m env port e).Good := by
  unfold Mod.putStaged
  try dsimp only
  repeat' first
    | with_reducible assumption
    | intro _
    | with_reducible apply Mod.each_good
    | with_reducible apply Mod.putEntry_good

theorem Mod.settleSlots_good {m : Mod} (h : m.Good) (before : _) (slots : _) : (Mod.settleSlots m before slots).Good := by
  unfold Mod.settleSlots
  try dsimp only
  repeat' first
    | with_reducible assumption
    | intro _
    | with_reducible apply Mod.each_good
    | with_reducible apply Mod.retableSlot_good
    | with_reducible apply Mod.restartSlot_good
    | with_reducible apply Mod.setSlot_good
    | with_reducible apply Mod.set_good
    | with_reducible apply good_ite

theorem Mod.mixedCheck_good {m : Mod} (h : m.Good) : (Mod.mixedCheck m).Good := by
  unfold Mod.mixedCheck
  try dsimp only
  repeat' first
    | with_reducible assumption
    | intro _
    | with_reducible apply Mod.set_good

theorem Mod.putEntries_good {m : Mod} (h : m.Good) (env : _) (port : _) (es : _) : (Mod.putEntries m env port es).Good := by
  unfold Mod.putEntries
  try dsimp only
  repeat' first
    | with_reducible assumption
    | intro _
    | with_reducible apply Mod.each_good
    | with_reducible apply Mod.putStaged_good
    | with_reducible apply Mod.settleSlots_good
    | with_reducible apply Mod.set_good
    | with_reducible apply Mod.mixedCheck_good

end Sys2Proof.Machine
end

