-- ==== Sys2Proof/Laws/GoodBound.lean ====
section
/-!
SUPPORT. The operations and commands of Machine/Bound.lean keep a module sound.
-/
set_option linter.unusedSimpArgs false

namespace Sys2Proof.Machine

theorem Mod.showBounds_good {m : Mod} (h : m.Good) : (Mod.showBounds m).Good := by
  unfold Mod.showBounds
  try dsimp only
  repeat' first
    | with_reducible assumption
    | with_reducible apply Mod.set_good

end Sys2Proof.Machine
end

