-- ==== Sys2Proof/Laws/GoodCheck.lean ====
section
/-!
SUPPORT. The operations and commands of Machine/Check.lean keep a module sound.
-/
set_option linter.unusedSimpArgs false

namespace Sys2Proof.Machine

/-- A verdict whose report keeps a module sound. -/
def Verdict.Keeps (v : Verdict) : Prop := ∀ m : Mod, m.Good → (v.report m).Good

theorem keeps_code (c : Nat) : Verdict.Keeps { code := c } := fun _ h => h

theorem keeps_failIf {b : Bool} {c : Nat} {r : Mod → Mod} (hr : ∀ m, m.Good → (r m).Good) : (failIf b c r).Keeps := by
  unfold failIf
  split
  · exact fun m h => hr m h
  · exact fun _ h => h

theorem keeps_failIf_id {b : Bool} {c : Nat} : (failIf b c).Keeps := keeps_failIf fun _ h => h

theorem keeps_firstFail {l : List Verdict} (hl : ∀ v ∈ l, v.Keeps) : (firstFail l).Keeps := by
  induction l with
  | nil => exact fun _ h => h
  | cons v l ih =>
    unfold firstFail
    split
    · exact ih fun w hw => hl w (List.mem_cons_of_mem _ hw)
    · exact hl v List.mem_cons_self

theorem keeps_ite {p : Prop} [Decidable p] {a b : Verdict} (ha : a.Keeps) (hb : b.Keeps) : (if p then a else b).Keeps := by
  split
  · exact ha
  · exact hb

theorem Mod.allotVerdict_keeps (m : Mod) (t : Nat) : (m.allotVerdict t).Keeps :=
  keeps_failIf fun _ h => Mod.raise_good (Mod.set_good (Mod.set_good h _ _ _) _ _ _) _ _

theorem Mod.restoreVerdict_keeps (m : Mod) : m.restoreVerdict.Keeps :=
  keeps_failIf fun n h => by
    dsimp only
    refine Mod.raise_good (Mod.wipe_good (Mod.set_good ?_ _ _ _) _ _) _ _
    exact ⟨h.dict, h.mem, h.held⟩

theorem Mod.startVerdict_keeps (m : Mod) (path g : Nat) : (m.startVerdict path g).Keeps :=
  keeps_ite (fun _ h => Mod.raise_good h _ _) (keeps_failIf fun _ h => Mod.raise_good h _ _)

theorem Mod.entryVerdict_keeps (m : Mod) (env : Env) (path o i : Nat) (v : Val) : (m.entryVerdict env path o i v).Keeps := by
  unfold Mod.entryVerdict
  dsimp only
  refine keeps_ite (keeps_code _) (keeps_ite (keeps_code _) (keeps_ite (keeps_code _) ?_))
  split
  · exact keeps_failIf_id
  · exact keeps_failIf_id
  · exact Mod.startVerdict_keeps _ _ _
  · refine keeps_firstFail fun v hv => ?_
    simp only [List.mem_cons, List.not_mem_nil, or_false] at hv
    rcases hv with rfl | rfl
    · exact keeps_failIf_id
    · exact keeps_ite (Mod.allotVerdict_keeps _ _) (keeps_code _)
  · exact Mod.allotVerdict_keeps _ _
  · refine keeps_firstFail fun v hv => ?_
    simp only [List.mem_cons, List.not_mem_nil, or_false] at hv
    rcases hv with rfl | rfl
    · exact keeps_failIf_id
    · exact Mod.restoreVerdict_keeps _
  · split
    · exact keeps_code _
    · exact keeps_code _

theorem tryInstances_keeps (env : Env) (path : Nat) (port : Bool) (e : StageEntry) (l : List Nat) (m : Mod) :
    (tryInstances env path port e l m).1.Keeps := by
  induction l generalizing m with
  | nil => exact keeps_code _
  | cons i l ih =>
    unfold tryInstances
    dsimp only
    split
    · exact Mod.entryVerdict_keeps _ _ _ _ _ _
    · exact ih _

theorem tryEntries_keeps (env : Env) (path : Nat) (port : Bool) (l : List StageEntry) (m : Mod) : (tryEntries env path port l m).1.Keeps := by
  induction l generalizing m with
  | nil => exact keeps_code _
  | cons e l ih =>
    unfold tryEntries
    dsimp only
    split
    · exact tryInstances_keeps _ _ _ _ _ _
    · exact ih _

theorem Mod.slotsVerdict_keeps (m : Mod) (t : Option Nat) (l : List Nat) : (m.slotsVerdict t l).Keeps := by
  unfold Mod.slotsVerdict
  dsimp only
  split
  · exact keeps_code _
  · exact fun _ h => Mod.raise_good (Mod.set_good (Mod.set_good h _ _ _) _ _ _) _ _

theorem Mod.clickerVerdict_keeps (m : Mod) (es : List StageEntry) : (m.clickerVerdict es).Keeps := by
  unfold Mod.clickerVerdict
  dsimp only
  split
  · exact keeps_code _
  · exact fun _ h => Mod.raise_good (Mod.set_good h _ _ _) _ _

theorem Mod.afterVerdict_keeps (m : Mod) (t : Option Nat) (es : List StageEntry) : (m.afterVerdict t es).Keeps := by
  refine keeps_firstFail fun v hv => ?_
  simp only [List.mem_cons, List.not_mem_nil, or_false] at hv
  rcases hv with rfl | rfl | rfl | rfl | rfl | rfl | rfl | rfl | rfl
  · exact keeps_failIf_id
  · exact keeps_failIf_id
  · exact keeps_failIf_id
  · exact Mod.slotsVerdict_keeps _ _ _
  · exact keeps_failIf_id
  · exact Mod.clickerVerdict_keeps _ _
  · exact keeps_failIf_id
  · exact keeps_failIf_id
  · exact keeps_failIf_id

theorem Mod.commitVerdict_keeps (m : Mod) (env : Env) (c : Commit) : (m.commitVerdict env c).Keeps := by
  unfold Mod.commitVerdict
  dsimp only
  exact keeps_ite (keeps_code _) (keeps_ite (tryEntries_keeps _ _ _ _ _) (Mod.afterVerdict_keeps _ _ _))

theorem Mod.carryOut_good {m : Mod} (h : m.Good) (env : _) (c : _) : (Mod.carryOut m env c).Good := by
  unfold Mod.carryOut
  try dsimp only
  repeat' first
    | with_reducible assumption
    | intro _
    | with_reducible apply Mod.putEntries_good
    | with_reducible apply tenantFreeze_good
    | with_reducible apply Mod.stepApplied_good
    | with_reducible apply Mod.putTimeBits_good
    | with_reducible apply good_ite
    | split

theorem Mod.expected_good {m : Mod} (h : m.Good) (env : _) (c : _) : (Mod.expected m env c).Good := by
  unfold Mod.expected
  try dsimp only
  repeat' first
    | with_reducible assumption
    | intro _
    | with_reducible apply Mod.each_good
    | with_reducible apply Mod.carryOut_good

theorem Verdict.report_good {v : Verdict} {m : Mod} (hv : v.Keeps) (h : m.Good) : (v.report m).Good := hv m h

end Sys2Proof.Machine
end

