-- ==== Sys2Proof/Laws/GoodCommit.lean ====
section
/-!
SUPPORT. The operations and commands of Machine/Commit.lean keep a module sound.
-/
set_option linter.unusedSimpArgs false

namespace Sys2Proof.Machine

theorem Mod.chainDigest_good {m : Mod} (h : m.Good) (c : _) : (Mod.chainDigest m c).Good := by
  unfold Mod.chainDigest
  try dsimp only
  repeat' first
    | with_reducible assumption
    | intro _
    | with_reducible apply Mod.set_good
    | with_reducible apply good_ite

theorem Mod.lastRefused_good {m : Mod} (h : m.Good) : (Mod.lastRefused m).Good := by
  unfold Mod.lastRefused
  try dsimp only
  repeat' first
    | with_reducible assumption
    | intro _
    | with_reducible apply Mod.set_good
    | with_reducible apply Mod.raise_good
    | with_reducible apply good_ite

theorem Mod.profileRefused_good {m : Mod} (h : m.Good) (p : _) : (Mod.profileRefused m p).Good := by
  unfold Mod.profileRefused
  try dsimp only
  repeat' first
    | with_reducible assumption
    | intro _
    | with_reducible apply Mod.set_good
    | with_reducible apply Mod.raise_good
    | with_reducible apply good_ite

theorem Mod.swapsRefused_good {m : Mod} (h : m.Good) (es : _) : (Mod.swapsRefused m es).Good := by
  unfold Mod.swapsRefused
  try dsimp only
  repeat' first
    | with_reducible assumption
    | intro _
    | with_reducible apply Mod.when_good
    | with_reducible apply Mod.lastRefused_good
    | with_reducible apply Mod.each_good
    | with_reducible apply Mod.profileRefused_good

theorem Mod.swapsBarred_good_eq {m m1 : Mod} {a b : Bool} {es : List StageEntry} (he : m.swapsBarred a b es = some m1) (h : m.Good) :
    m1.Good := by
  unfold Mod.swapsBarred at he
  dsimp only at he
  split at he
  · cases he
  · cases he
    exact each_good (when_good h fun _ h => Mod.lastRefused_good h) fun _ _ h => Mod.profileRefused_good h _

theorem Mod.markSwaps_good {m : Mod} (h : m.Good) (c : _) : (Mod.markSwaps m c).Good := by
  unfold Mod.markSwaps
  try dsimp only
  repeat' first
    | with_reducible assumption
    | intro _
    | (simp only [↓good_mk]; with_reducible apply Mod.Good.all)
    | with_reducible apply Mod.when_good
    | with_reducible apply Mod.set_good
    | with_reducible apply Mod.each_good
    | with_reducible apply Mod.setProfile_good

theorem Mod.markAllots_good {m : Mod} (h : m.Good) (c : _) : (Mod.markAllots m c).Good := by
  unfold Mod.markAllots
  try dsimp only
  repeat' first
    | with_reducible assumption
    | intro _
    | with_reducible apply Mod.each_good
    | with_reducible apply Mod.set_good
    | with_reducible apply Mod.when_good

theorem Mod.stepEnded_good {m : Mod} (h : m.Good) (c : _) : (Mod.stepEnded m c).Good := by
  unfold Mod.stepEnded
  try dsimp only
  repeat' first
    | with_reducible assumption
    | intro _
    | with_reducible apply Mod.when_good
    | with_reducible apply Mod.stepDropped_good
    | with_reducible apply Mod.noteTime_good
    | with_reducible apply good_ite

theorem pass_report_good {m : Mod} (h : m.Good) : (pass.report m).Good := h

theorem Mod.commitVerdict_report_good {m : Mod} (h : m.Good) (n : Mod) (env : Env) (c : Commit) : ((n.commitVerdict env c).report m).Good :=
  Mod.commitVerdict_keeps n env c m h

theorem Mod.refuseBy_good {m : Mod} {v : Verdict} (h : m.Good) (hv : v.Keeps) (c : Commit) (code : Nat) : (m.refuseBy c v code).Good :=
  Mod.stepEnded_good (Mod.refuseCommit_good (hv _ h) _ _ _) _

theorem Mod.applyEntries_good {r : Mod × List Nat} (h : r.1.Good) (env : Env) (c : Commit) : (Mod.applyEntries r env c).1.Good :=
  Mod.chainDigest_good (Mod.carryOut_good h _ _) _

theorem Mod.swappedBy_good {m : Mod} (h : m.Good) (env : _) (later : _) : (Mod.swappedBy m env later).Good := by
  unfold Mod.swappedBy
  try dsimp only
  repeat' first
    | with_reducible assumption
    | intro _
    | with_reducible apply Mod.each_good
    | with_reducible apply Mod.set_good

theorem Mod.applyDue_good {r : Mod × List Nat} (h : r.1.Good) (env : Env) (later : List Commit) (c : Commit) :
    (Mod.applyDue env later r c).1.Good := by
  unfold Mod.applyDue
  dsimp only
  split
  · exact Mod.refuseBy_good h (Mod.commitVerdict_keeps _ _ _) _ _
  · exact Mod.applyEntries_good (Mod.mapCommit_good h _ _) _ _

theorem Mod.applyAll_good {env : Env} {l : List Commit} {r : Mod × List Nat} (h : r.1.Good) : (Mod.applyAll env l r).1.Good := by
  induction l generalizing r with
  | nil => exact h
  | cons c t ih => exact ih (Mod.applyDue_good h env t c)

theorem Mod.reportTick_good {m : Mod} (h : m.Good) (reset : _) : (Mod.reportTick m reset).Good := by
  unfold Mod.reportTick
  try dsimp only
  repeat' first
    | with_reducible assumption
    | intro _
    | with_reducible apply Mod.flushCleared_good
    | with_reducible apply Mod.raise_good
    | with_reducible apply good_ite
    | split

theorem Mod.tellDigest_good {m : Mod} (h : m.Good) (d : _) : (Mod.tellDigest m d).Good := by
  unfold Mod.tellDigest
  try dsimp only
  repeat' first
    | with_reducible assumption
    | with_reducible apply Mod.helloAll_good
    | with_reducible apply good_ite

theorem commitApply_good {m : Mod} (h : m.Good) (env : _) : (commitApply env m).Good := by
  unfold commitApply
  try dsimp only
  repeat' first
    | with_reducible assumption
    | with_reducible apply Mod.applyAll_good
    | with_reducible apply Mod.reportTick_good
    | with_reducible apply Mod.tellDigest_good
    | with_reducible apply Mod.openTick_good
    | with_reducible apply good_ite

theorem Mod.keepCommit_good {m : Mod} (h : m.Good) (c : _) : (Mod.keepCommit m c).Good := by
  unfold Mod.keepCommit
  try dsimp only
  repeat' first
    | with_reducible assumption
    | intro _
    | (simp only [↓good_mk]; with_reducible apply Mod.Good.all)

theorem Mod.proposeStopped_good {m : Mod} (h : m.Good) (env : _) (c : _) : (Mod.proposeStopped m env c).1.Good := by
  unfold Mod.proposeStopped
  try dsimp only
  repeat' first
    | with_reducible assumption
    | intro _
    | with_reducible apply Mod.commitVerdict_report_good
    | with_reducible apply Mod.applyEntries_good
    | with_reducible apply Mod.keepCommit_good
    | with_reducible apply Mod.refuseBy_good
    | with_reducible apply Mod.swapsRefused_good
    | with_reducible apply Mod.mapCommit_good
    | with_reducible apply Mod.reportTick_good
    | with_reducible apply Mod.tellDigest_good
    | with_reducible apply Mod.bump_good
    | with_reducible apply Mod.raise_good
    | with_reducible apply Mod.tenantOutcome_good
    | split

theorem Mod.proposeStopped_good_eq {m m1 : Mod} {y1 : _} {env : _} {c : _} (he : Mod.proposeStopped m env c = (m1, y1)) (h : m.Good) : m1.Good := by
  have := Mod.proposeStopped_good h env c
  rw [he] at this
  exact this

theorem Mod.proposeRunning_good {m : Mod} (h : m.Good) (env : _) (c : _) : (Mod.proposeRunning m env c).1.Good := by
  unfold Mod.proposeRunning
  try dsimp only
  repeat' first
    | with_reducible assumption
    | intro _
    | with_reducible apply Mod.commitVerdict_report_good
    | with_reducible apply Mod.keepCommit_good
    | with_reducible apply Mod.refuseBy_good
    | with_reducible apply Mod.swapsRefused_good
    | with_reducible apply Mod.takeUp_good
    | with_reducible apply Mod.markSwaps_good
    | with_reducible apply Mod.markAllots_good
    | split

theorem Mod.proposeRunning_good_eq {m m1 : Mod} {y1 : _} {env : _} {c : _} (he : Mod.proposeRunning m env c = (m1, y1)) (h : m.Good) : m1.Good := by
  have := Mod.proposeRunning_good h env c
  rw [he] at this
  exact this

theorem Mod.proposeEntries_good {m : Mod} (h : m.Good) (p : _) (env : _) (t : _) (es : _) : (Mod.proposeEntries m p env t es).1.Good := by
  unfold Mod.proposeEntries
  try dsimp only
  repeat' first
    | with_reducible assumption
    | intro _
    | (simp only [↓good_mk]; with_reducible apply Mod.Good.all)
    | with_reducible refine Mod.swapsBarred_good_eq (by assumption) ?_
    | with_reducible refine Mod.nextCommitId_good_eq (by assumption) ?_
    | with_reducible apply Mod.nextCommitId_good
    | with_reducible apply Mod.setStage_good
    | with_reducible apply Mod.set_good
    | with_reducible refine Mod.proposeStopped_good_eq (by assumption) ?_
    | with_reducible apply Mod.proposeStopped_good
    | with_reducible refine Mod.proposeRunning_good_eq (by assumption) ?_
    | with_reducible apply Mod.proposeRunning_good
    | with_reducible apply good_ite
    | split

theorem Mod.proposeEntries_good_eq {m m1 : Mod} {y1 : _} {p : _} {env : _} {t : _} {es : _} (he : Mod.proposeEntries m p env t es = (m1, y1)) (h : m.Good) : m1.Good := by
  have := Mod.proposeEntries_good h p env t es
  rw [he] at this
  exact this

theorem stageCommit_good {m : Mod} (h : m.Good) (p : _) (v : _) (env : _) : (stageCommit p v env m).Good := by
  unfold stageCommit
  try dsimp only
  repeat' first
    | with_reducible assumption
    | intro _
    | with_reducible apply Mod.report_good
    | with_reducible refine Verdict.report_good ?_ ?_
    | with_reducible apply Mod.commitVerdict_keeps
    | with_reducible refine Mod.proposeEntries_good_eq (by assumption) ?_
    | with_reducible apply Mod.proposeEntries_good
    | with_reducible apply good_ite

theorem stageDiscard_good {m : Mod} (h : m.Good) (p : _) (v : _) : (stageDiscard p v m).Good := by
  unfold stageDiscard
  try dsimp only
  repeat' first
    | with_reducible assumption
    | intro _
    | with_reducible apply Mod.report_good
    | with_reducible refine Verdict.report_good ?_ ?_
    | with_reducible apply Mod.commitVerdict_keeps
    | with_reducible apply Mod.setStage_good
    | with_reducible apply good_ite

theorem Mod.proposeWith_good {m : Mod} (h : m.Good) (p : _) (env : _) (es : _) (t : _) : (Mod.proposeWith m p env es t).Good := by
  unfold Mod.proposeWith
  try dsimp only
  repeat' first
    | with_reducible assumption
    | intro _
    | with_reducible apply Mod.report_good
    | with_reducible refine Verdict.report_good ?_ ?_
    | with_reducible apply Mod.commitVerdict_keeps
    | with_reducible refine Mod.proposeEntries_good_eq (by assumption) ?_
    | with_reducible apply Mod.proposeEntries_good
    | with_reducible apply good_ite

theorem Mod.cancelById_good {m : Mod} (h : m.Good) (id : _) : (Mod.cancelById m id).1.Good := by
  unfold Mod.cancelById
  try dsimp only
  repeat' first
    | with_reducible assumption
    | intro _
    | simp only [↓good_mk]
    | with_reducible apply Mod.sendCommit_good
    | with_reducible apply Mod.cancelCommit_good
    | with_reducible apply Mod.stepEnded_good
    | with_reducible apply good_ite
    | split

theorem Mod.cancelById_good_eq {m m1 : Mod} {y1 : _} {id : _} (he : Mod.cancelById m id = (m1, y1)) (h : m.Good) : m1.Good := by
  have := Mod.cancelById_good h id
  rw [he] at this
  exact this

theorem commitCancel_good {m : Mod} (h : m.Good) (p : _) (v : _) : (commitCancel p v m).Good := by
  unfold commitCancel
  try dsimp only
  repeat' first
    | with_reducible assumption
    | intro _
    | with_reducible refine Mod.cancelById_good_eq (by assumption) ?_
    | with_reducible apply Mod.cancelById_good
    | with_reducible apply Mod.report_good

theorem commitCancelRx_good {m : Mod} (h : m.Good) (rank : _) (id : _) (code : _) : (commitCancelRx rank id code m).Good := by
  unfold commitCancelRx
  try dsimp only
  repeat' first
    | with_reducible assumption
    | intro _
    | with_reducible apply Mod.cancelCommit_good
    | with_reducible apply Mod.stepEnded_good
    | with_reducible apply good_ite
    | split

theorem Mod.confirmIf_good {m : Mod} (h : m.Good) (id : _) : (Mod.confirmIf m id).Good := by
  unfold Mod.confirmIf
  try dsimp only
  repeat' first
    | with_reducible assumption
    | intro _
    | with_reducible apply Mod.mapCommit_good
    | with_reducible apply Mod.sendCommit_good
    | with_reducible apply good_ite
    | split

theorem commitAcceptRx_good {m : Mod} (h : m.Good) (rank : _) (id : _) : (commitAcceptRx rank id m).Good := by
  unfold commitAcceptRx
  try dsimp only
  repeat' first
    | with_reducible assumption
    | intro _
    | with_reducible apply Mod.mapCommit_good
    | with_reducible apply Mod.confirmIf_good

theorem commitRefuseRx_good {m : Mod} (h : m.Good) (rank : _) (id : _) (code : _) : (commitRefuseRx rank id code m).Good := by
  unfold commitRefuseRx
  try dsimp only
  repeat' first
    | with_reducible assumption
    | intro _
    | with_reducible apply Mod.when_good
    | with_reducible apply Mod.sendCommit_good
    | with_reducible apply Mod.refuseCommit_good
    | with_reducible apply Mod.stepEnded_good
    | with_reducible apply good_ite
    | split

theorem commitConfirmRx_good {m : Mod} (h : m.Good) (rank : _) (id : _) : (commitConfirmRx rank id m).Good := by
  unfold commitConfirmRx
  try dsimp only
  repeat' first
    | with_reducible assumption
    | intro _
    | with_reducible apply Mod.mapCommit_good

theorem Mod.takeProposal_good {m : Mod} (h : m.Good) (env : _) (sendTick : _) (c : _) : (Mod.takeProposal m env sendTick c).Good := by
  unfold Mod.takeProposal
  try dsimp only
  repeat' first
    | with_reducible assumption
    | intro _
    | with_reducible apply Mod.commitVerdict_report_good
    | with_reducible apply pass_report_good
    | with_reducible refine Mod.swapsBarred_good_eq (by assumption) ?_
    | with_reducible apply Mod.keepCommit_good
    | with_reducible apply Mod.refuseBy_good
    | with_reducible apply Mod.sendCommit_good
    | with_reducible apply Mod.swapsRefused_good
    | with_reducible apply Mod.set_good
    | with_reducible apply Mod.markSwaps_good
    | with_reducible apply Mod.markAllots_good
    | split

theorem Mod.takeCopy_good {m : Mod} (h : m.Good) (rank : _) (c : _) : (Mod.takeCopy m rank c).Good := by
  unfold Mod.takeCopy
  try dsimp only
  repeat' first
    | with_reducible assumption
    | intro _
    | with_reducible apply Mod.refuseCommit_good
    | with_reducible apply Mod.sendCommit_good
    | with_reducible apply Mod.mapCommit_good
    | with_reducible apply Mod.confirmIf_good
    | with_reducible apply Mod.keepCommit_good
    | with_reducible apply Mod.set_good
    | with_reducible apply good_ite
    | split

theorem commitProposeRx_good {m : Mod} (h : m.Good) (rank : _) (sendTick : _) (c : _) (off : _) (len : _) (env : _) : (commitProposeRx rank sendTick c off len env m).Good := by
  unfold commitProposeRx
  try dsimp only
  repeat' first
    | with_reducible assumption
    | intro _
    | (simp only [↓good_mk]; with_reducible apply Mod.Good.all)
    | with_reducible apply Mod.set_good
    | with_reducible apply Mod.takeCopy_good
    | with_reducible apply Mod.takeProposal_good
    | with_reducible apply good_ite

theorem commitAcceptDeadline_good {m : Mod} (h : m.Good) : (commitAcceptDeadline m).Good := by
  unfold commitAcceptDeadline
  try dsimp only
  repeat' first
    | with_reducible assumption
    | intro _
    | with_reducible apply Mod.each_good
    | with_reducible apply Mod.when_good
    | with_reducible apply Mod.sendCommit_good
    | with_reducible apply Mod.refuseCommit_good
    | with_reducible apply Mod.stepEnded_good

theorem commitArm_good {m : Mod} (h : m.Good) : (commitArm m).Good := by
  unfold commitArm
  try dsimp only
  repeat' first
    | with_reducible assumption
    | intro _
    | with_reducible apply Mod.each_good
    | with_reducible apply Mod.missCommit_good
    | with_reducible apply Mod.mapCommit_good
    | with_reducible apply Mod.cancelCommit_good
    | with_reducible apply Mod.stepEnded_good
    | with_reducible apply good_ite
    | split

end Sys2Proof.Machine
end

