-- ==== Sys2Proof/Laws/GoodPhysMem.lean ====
section
/-!
SUPPORT. The operations and commands of Machine/PhysMem.lean keep a module sound.
-/
set_option linter.unusedSimpArgs false

namespace Sys2Proof.Machine

theorem Mod.drawOctets_good {m : Mod} (h : m.Good) (x1 : _) : (Mod.drawOctets m x1).2.Good := by
  induction x1 generalizing m  with
  | zero => exact h
  | succ z ih =>
    unfold Mod.drawOctets
    repeat' first
      | with_reducible assumption
      | intro _
      | simp only [↓good_mk]
      | with_reducible apply ih
      | with_reducible refine Mod.draw_good_eq (by assumption) ?_
      | with_reducible apply Mod.draw_good

theorem Mod.drawOctets_good_eq {m m1 : Mod} {y1 : _} {x1 : _} (he : Mod.drawOctets m x1 = (y1, m1)) (h : m.Good) : m1.Good := by
  have := Mod.drawOctets_good h x1
  rw [he] at this
  exact this

theorem Mod.filedLoad_good (n : Nat) : ∀ {m : Mod} (_ : m.Good) (o : Nat), (m.filedLoad o n).2.Good := by
  induction n with
  | zero => intro m h o; exact h
  | succ n ih =>
    intro m h o
    unfold Mod.filedLoad
    dsimp only
    split
    · exact ih h _
    · exact ih (Mod.draw_good h 8) _

theorem Mod.loadOctets_good_eq {m m1 : Mod} {a n : Nat} {j : Option Nat} {bs : List Byte} (he : m.loadOctets a n j = some (bs, m1))
    (h : m.Good) : m1.Good := by
  unfold Mod.loadOctets at he
  dsimp only at he
  split at he
  · split at he
    · have := Mod.drawOctets_good h n
      simp only [Option.some.injEq] at he
      rw [he] at this
      exact this
    · cases he
  · split at he
    · split at he
      · have := Mod.filedLoad_good n h (a - 0x54000000)
        simp only [Option.some.injEq] at he
        rw [he] at this
        exact this
      · cases he
    · rw [Option.map_eq_some_iff] at he
      obtain ⟨_, _, he⟩ := he
      cases he
      exact h

end Sys2Proof.Machine
end

