-- ==== Sys2Proof/Laws/GoodKeys.lean ====
section
/-!
SUPPORT. The operations and commands of Machine/Keys.lean keep a module sound.
-/
set_option linter.unusedSimpArgs false

namespace Sys2Proof.Machine

theorem Mod.setKeySlot_good {m : Mod} (h : m.Good) (i : _) (x : _) : (Mod.setKeySlot m i x).Good := by
  unfold Mod.setKeySlot
  try dsimp only
  repeat' first
    | with_reducible assumption
    | intro _
    | (simp only [↓good_mk]; with_reducible apply Mod.Good.all)

theorem Mod.maskKey_good {m : Mod} (h : m.Good) (key : _) : (Mod.maskKey m key).2.Good := by
  unfold Mod.maskKey
  try dsimp only
  repeat' first
    | with_reducible assumption
    | intro _
    | with_reducible refine Mod.drawOctets_good_eq (by assumption) ?_
    | with_reducible apply Mod.drawOctets_good

theorem Mod.maskKey_good_eq {m m1 : Mod} {y1 : _} {key : _} (he : Mod.maskKey m key = (y1, m1)) (h : m.Good) : m1.Good := by
  have := Mod.maskKey_good h key
  rw [he] at this
  exact this

theorem Mod.warnKey_good {m : Mod} (h : m.Good) (i : _) : (Mod.warnKey m i).Good := by
  unfold Mod.warnKey
  try dsimp only
  repeat' first
    | with_reducible assumption
    | (simp only [↓good_mk]; with_reducible apply Mod.Good.all)
    | with_reducible apply Mod.raise_good
    | with_reducible apply good_ite

theorem Mod.setCeiling_good {m : Mod} (h : m.Good) (fp : _) (c : _) : (Mod.setCeiling m fp c).Good := by
  unfold Mod.setCeiling
  try dsimp only
  repeat' first
    | with_reducible assumption
    | intro _
    | (simp only [↓good_mk]; with_reducible apply Mod.Good.all)
    | with_reducible apply Mod.set_good

theorem Mod.loadKey_good {m : Mod} (h : m.Good) (i : _) (state : _) (key : _) : (Mod.loadKey m i state key).Good := by
  unfold Mod.loadKey
  try dsimp only
  repeat' first
    | with_reducible assumption
    | (simp only [↓good_mk]; with_reducible apply Mod.Good.all)
    | with_reducible apply Mod.maskKey_good
    | with_reducible apply Mod.setKeySlot_good
    | with_reducible apply Mod.setCeiling_good
    | with_reducible apply Mod.set_good
    | with_reducible apply Mod.raise_good
    | with_reducible apply Mod.warnKey_good
    | with_reducible apply good_ite

theorem Mod.keyCommand_good {m : Mod} (h : m.Good) (path : _) (mMode : _) (f : _) (hf : ∀ x0 m, m.Good → (f x0 m).2.Good) : (Mod.keyCommand m path mMode f).Good := by
  unfold Mod.keyCommand
  try dsimp only
  repeat' first
    | with_reducible assumption
    | intro _
    | with_reducible apply hf
    | (simp only [↓good_mk]; with_reducible apply Mod.Good.all)
    | with_reducible apply Mod.set_good
    | with_reducible apply Mod.report_good
    | with_reducible apply good_ite

theorem keyInstall_good {m : Mod} (h : m.Good) (path : _) (mMode : _) : (keyInstall path mMode m).Good := by
  unfold keyInstall
  try dsimp only
  repeat' first
    | with_reducible assumption
    | intro _
    | simp only [↓good_mk]
    | with_reducible apply Mod.keyCommand_good
    | with_reducible apply Mod.loadKey_good
    | with_reducible apply good_ite
    | split

theorem keyDerive_good {m : Mod} (h : m.Good) (path : _) (mMode : _) : (keyDerive path mMode m).Good := by
  unfold keyDerive
  try dsimp only
  repeat' first
    | with_reducible assumption
    | intro _
    | simp only [↓good_mk]
    | with_reducible apply Mod.keyCommand_good
    | with_reducible apply Mod.loadKey_good
    | with_reducible apply good_ite
    | split

theorem Mod.zeroSlot_good {m : Mod} (h : m.Good) (i : _) : (Mod.zeroSlot m i).Good := by
  unfold Mod.zeroSlot
  try dsimp only
  repeat' first
    | with_reducible assumption
    | intro _
    | (simp only [↓good_mk]; with_reducible apply Mod.Good.all)
    | with_reducible apply Mod.setKeySlot_good
    | with_reducible apply Mod.each_good
    | with_reducible apply Mod.set_good

theorem keyRemask_good {m : Mod} (h : m.Good) (i : _) : (keyRemask i m).Good := by
  unfold keyRemask
  try dsimp only
  repeat' first
    | with_reducible assumption
    | intro _
    | with_reducible refine Mod.drawOctets_good_eq (by assumption) ?_
    | with_reducible apply Mod.drawOctets_good
    | with_reducible apply Mod.setKeySlot_good
    | with_reducible apply good_ite

theorem Mod.nextInv_good {m : Mod} (h : m.Good) (i : _) : (Mod.nextInv m i).2.Good := by
  unfold Mod.nextInv
  try dsimp only
  repeat' first
    | with_reducible assumption
    | (simp only [↓good_mk]; with_reducible apply Mod.Good.all)
    | with_reducible apply Mod.bump_good
    | with_reducible apply Mod.raise_good
    | with_reducible apply Mod.setCeiling_good
    | with_reducible apply Mod.set_good
    | with_reducible apply Mod.warnKey_good
    | split

theorem Mod.nextInv_good_eq {m m1 : Mod} {y1 : _} {i : _} (he : Mod.nextInv m i = (y1, m1)) (h : m.Good) : m1.Good := by
  have := Mod.nextInv_good h i
  rw [he] at this
  exact this

theorem okHashWrite_good {m : Mod} (h : m.Good) (path : _) (mMode : _) (b : _) : (okHashWrite path mMode b m).Good := by
  unfold okHashWrite
  try dsimp only
  repeat' first
    | with_reducible assumption
    | intro _
    | (simp only [↓good_mk]; with_reducible apply Mod.Good.all)
    | with_reducible apply Mod.report_good
    | with_reducible apply good_ite

theorem minSvnSet_good {m : Mod} (h : m.Good) (path : _) (mMode : _) (v : _) : (minSvnSet path mMode v m).Good := by
  unfold minSvnSet
  try dsimp only
  repeat' first
    | with_reducible assumption
    | intro _
    | (simp only [↓good_mk]; with_reducible apply Mod.Good.all)
    | with_reducible apply Mod.report_good
    | with_reducible apply good_ite

theorem entropyHealthFail_good {m : Mod} (h : m.Good) (test : _) (now : _) : (entropyHealthFail test now m).Good := by
  unfold entropyHealthFail
  try dsimp only
  repeat' first
    | with_reducible assumption
    | intro _
    | (simp only [↓good_mk]; with_reducible apply Mod.Good.all)
    | with_reducible apply Mod.bump_good
    | with_reducible apply Mod.raise_good
    | with_reducible apply Mod.set_good
    | with_reducible apply good_ite

theorem drbgReseed_good {m : Mod} (h : m.Good) : (drbgReseed m).Good := by
  unfold drbgReseed
  try dsimp only
  repeat' first
    | with_reducible assumption
    | intro _
    | with_reducible apply Mod.bump_good
    | with_reducible apply good_ite

theorem debuggerAttach_good {m : Mod} (h : m.Good) : (debuggerAttach m).Good := by
  unfold debuggerAttach
  try dsimp only
  repeat' first
    | with_reducible assumption
    | intro _
    | (simp only [↓good_mk]; with_reducible apply Mod.Good.all)
    | with_reducible apply Mod.raise_good
    | with_reducible apply good_ite

end Sys2Proof.Machine
end

