-- ==== Sys2Proof/Laws/GoodRecorder.lean ====
section
/-!
SUPPORT. The operations and commands of Machine/Recorder.lean keep a module sound.
-/
set_option linter.unusedSimpArgs false

namespace Sys2Proof.Machine

theorem Mod.recSync_good {m : Mod} (h : m.Good) : (Mod.recSync m).Good := by
  unfold Mod.recSync
  try dsimp only
  repeat' first
    | with_reducible assumption
    | intro _
    | with_reducible apply Mod.set_good

theorem Mod.writeRecord_good {m : Mod} (h : m.Good) (e : _) : (Mod.writeRecord m e).Good := by
  unfold Mod.writeRecord
  try dsimp only
  repeat' first
    | with_reducible assumption
    | intro _
    | (simp only [↓good_mk]; with_reducible apply Mod.Good.all)
    | with_reducible apply Mod.poke_good
    | with_reducible apply Mod.set_good
    | with_reducible apply Mod.recSync_good

theorem Mod.opTime_good {m : Mod} (h : m.Good) (t : _) : (Mod.opTime m t).Good := by
  unfold Mod.opTime
  try dsimp only
  repeat' first
    | with_reducible assumption
    | intro _
    | with_reducible apply Mod.set_good
    | with_reducible apply good_ite

theorem Mod.setBucket_good {m : Mod} (h : m.Good) (code : _) (b : _) : (Mod.setBucket m code b).Good := by
  unfold Mod.setBucket
  try dsimp only
  repeat' first
    | with_reducible assumption
    | intro _
    | (simp only [↓good_mk]; with_reducible apply Mod.Good.all)

theorem Mod.submit_good {m : Mod} (h : m.Good) (e : _) : (Mod.submit m e).Good := by
  unfold Mod.submit
  try dsimp only
  repeat' first
    | with_reducible assumption
    | intro _
    | (simp only [↓good_mk]; with_reducible apply Mod.Good.all)
    | with_reducible apply Mod.writeRecord_good
    | with_reducible apply Mod.bump_good
    | with_reducible apply good_ite

theorem drainQueue_good {m : Mod} (h : m.Good) (x0 : _) : (drainQueue x0 m).Good := by
  induction x0 generalizing m  with
  | zero => exact h
  | succ z ih =>
    unfold drainQueue
    repeat' first
      | with_reducible assumption
      | intro _
      | (simp only [↓good_mk]; with_reducible apply Mod.Good.all)
      | with_reducible apply ih
      | with_reducible apply Mod.writeRecord_good
      | with_reducible apply good_ite
      | split
      | dsimp only

theorem Mod.suppress_good {m : Mod} (h : m.Good) (e : _) : (Mod.suppress m e).Good := by
  unfold Mod.suppress
  try dsimp only
  repeat' first
    | with_reducible assumption
    | with_reducible apply Mod.setBucket_good
    | with_reducible apply Mod.bump_good

theorem Mod.occur_good {m : Mod} (h : m.Good) (e : _) : (Mod.occur m e).Good := by
  unfold Mod.occur
  try dsimp only
  repeat' first
    | with_reducible assumption
    | with_reducible apply Mod.submit_good
    | with_reducible apply Mod.setBucket_good
    | with_reducible apply Mod.suppress_good
    | with_reducible apply good_ite

theorem eventRaised_good {m : Mod} (h : m.Good) (same : _) (t : _) : (eventRaised same t m).Good := by
  unfold eventRaised
  try dsimp only
  repeat' first
    | with_reducible assumption
    | intro _
    | (simp only [↓good_mk]; with_reducible apply Mod.Good.all)
    | with_reducible apply Mod.occur_good
    | with_reducible apply Mod.opTime_good
    | with_reducible apply good_ite
    | split

theorem codeTokenRefill_good {m : Mod} (h : m.Good) (code : _) (t : _) : (codeTokenRefill code t m).Good := by
  unfold codeTokenRefill
  try dsimp only
  repeat' first
    | with_reducible assumption
    | intro _
    | with_reducible apply Mod.setBucket_good
    | with_reducible apply Mod.opTime_good
    | with_reducible apply Mod.submit_good
    | with_reducible apply good_ite

theorem Mod.writeDrops_good {m : Mod} (h : m.Good) (t : _) : (Mod.writeDrops m t).Good := by
  unfold Mod.writeDrops
  try dsimp only
  repeat' first
    | with_reducible assumption
    | (simp only [↓good_mk]; with_reducible apply Mod.Good.all)
    | with_reducible apply Mod.setBucket_good
    | with_reducible apply Mod.writeRecord_good
    | with_reducible apply Mod.suppress_good
    | with_reducible apply good_ite

theorem globalTokenRefill_good {m : Mod} (h : m.Good) (t : _) : (globalTokenRefill t m).Good := by
  unfold globalTokenRefill
  try dsimp only
  repeat' first
    | with_reducible assumption
    | (simp only [↓good_mk]; with_reducible apply Mod.Good.all)
    | with_reducible apply Mod.writeDrops_good
    | with_reducible apply Mod.opTime_good
    | with_reducible apply drainQueue_good
    | with_reducible apply good_ite

theorem recorderScanDone_good {m : Mod} (h : m.Good) (t : _) : (recorderScanDone t m).Good := by
  unfold recorderScanDone
  try dsimp only
  repeat' first
    | with_reducible assumption
    | intro _
    | (simp only [↓good_mk]; with_reducible apply Mod.Good.all)
    | with_reducible apply Mod.set_good
    | with_reducible apply Mod.writeRecord_good
    | with_reducible apply drainQueue_good
    | with_reducible apply Mod.opTime_good
    | with_reducible apply good_ite

theorem opTimeCheckpoint_good {m : Mod} (h : m.Good) (t : _) : (opTimeCheckpoint t m).Good := by
  unfold opTimeCheckpoint
  try dsimp only
  repeat' first
    | with_reducible assumption
    | intro _
    | with_reducible apply Mod.submit_good
    | with_reducible apply Mod.opTime_good
    | with_reducible apply good_ite

theorem anchorWrite_good {m : Mod} (h : m.Good) (path : _) (v : _) (t : _) (now : _) : (anchorWrite path v t now m).Good := by
  unfold anchorWrite
  try dsimp only
  repeat' first
    | with_reducible assumption
    | intro _
    | with_reducible apply Mod.report_good
    | with_reducible apply Mod.served_good
    | with_reducible apply Mod.submit_good
    | with_reducible apply Mod.opTime_good
    | with_reducible apply good_ite

theorem swWrite_good {m : Mod} (h : m.Good) (path : _) (v : _) (t : _) : (swWrite path v t m).Good := by
  unfold swWrite
  try dsimp only
  repeat' first
    | with_reducible assumption
    | intro _
    | with_reducible apply Mod.report_good
    | with_reducible apply Mod.served_good
    | with_reducible apply Mod.occur_good
    | with_reducible apply Mod.opTime_good
    | with_reducible apply good_ite

end Sys2Proof.Machine
end

