-- ==== Sys2Proof/Laws/GoodPower.lean ====
section
/-!
SUPPORT. The operations and commands of Machine/Power.lean keep a module sound.
-/
set_option linter.unusedSimpArgs false

namespace Sys2Proof.Machine

theorem Mod.tearRecord_good {m : Mod} (h : m.Good) (torn : _) : (Mod.tearRecord m torn).Good := by
  unfold Mod.tearRecord
  try dsimp only
  repeat' first
    | with_reducible assumption
    | intro _
    | with_reducible apply Mod.poke_good
    | with_reducible apply good_ite
    | split

theorem Mod.tearMram_good {m : Mod} (h : m.Good) : (Mod.tearMram m).Good := by
  unfold Mod.tearMram
  try dsimp only
  repeat' first
    | with_reducible assumption
    | intro _
    | with_reducible apply Mod.each_good
    | with_reducible refine Mod.draw_good_eq (by assumption) ?_
    | with_reducible apply Mod.draw_good
    | with_reducible apply Mod.poke_good

theorem Mod.cleared_good {m : Mod} (h : m.Good) (cause : Nat) (hc : cause ≤ 7) : (m.cleared cause).Good :=
  ⟨rfl, Memory.wf_filter _ h.mem, hc⟩

theorem Mod.setXspi_good {m : Mod} (h : m.Good) (level : _) : (Mod.setXspi m level).Good := by
  unfold Mod.setXspi
  try dsimp only
  repeat' first
    | with_reducible assumption
    | (simp only [↓good_mk]; with_reducible apply Mod.Good.all)
    | with_reducible apply Mod.emit_good
    | with_reducible apply good_ite

theorem Mod.resetState_good {m : Mod} (h : m.Good) (cause torn : Nat) (hc : cause ≤ 7) : (m.resetState cause torn).Good := by
  have hm := Mod.cleared_good (Mod.setXspi_good (Mod.setDrive_good (Mod.tearMram_good (Mod.tearRecord_good h torn)) .off) false) cause hc
  unfold Mod.resetState
  dsimp only
  refine Mod.set_good ?_ _ _ _
  exact ⟨hm.dict, hm.mem, hm.held⟩

theorem resetAssert_good {m : Mod} (h : m.Good) (low : _) : (resetAssert low m).Good := by
  cases low
  · exact h
  · exact Mod.resetState_good h _ _ (by omega)

theorem Mod.newNonce_good {m : Mod} (h : m.Good) : (Mod.newNonce m).Good := by
  unfold Mod.newNonce
  try dsimp only
  repeat' first
    | with_reducible assumption
    | intro _
    | with_reducible refine Mod.drawOctets_good_eq (by assumption) ?_
    | with_reducible apply Mod.drawOctets_good
    | with_reducible apply Mod.setOct_good

theorem Mod.released_good {m : Mod} (h : m.Good) : m.released.Good := ⟨h.dict, h.mem, Nat.zero_le 7⟩

theorem Mod.startUp_good {m : Mod} (h : m.Good) (pos : _) (ref : _) : (Mod.startUp m pos ref).Good := by
  unfold Mod.startUp
  try dsimp only
  repeat' first
    | with_reducible assumption
    | intro _
    | (simp only [↓good_mk]; with_reducible apply Mod.Good.all)
    | with_reducible apply Mod.released_good
    | with_reducible apply Mod.set_good
    | with_reducible apply Mod.newNonce_good
    | with_reducible apply Mod.stepDone_good

theorem resetRelease_good {m : Mod} (h : m.Good) (pins : _) (ref : _) : (resetRelease pins ref m).Good := by
  unfold resetRelease
  try dsimp only
  repeat' first
    | with_reducible assumption
    | (simp only [↓good_mk]; with_reducible apply Mod.Good.all)
    | with_reducible apply Mod.startUp_good
    | with_reducible apply good_ite

theorem internalResetEnd_good {m : Mod} (h : m.Good) (pos : _) (ref : _) : (internalResetEnd pos ref m).Good := by
  unfold internalResetEnd
  try dsimp only
  repeat' first
    | with_reducible assumption
    | intro _
    | with_reducible apply Mod.startUp_good
    | with_reducible apply good_ite

theorem Mod.loadStoredEngine_good {m : Mod} (h : m.Good) (g : _) (img : _) : (Mod.loadStoredEngine m g img).Good := by
  unfold Mod.loadStoredEngine
  try dsimp only
  repeat' first
    | with_reducible assumption
    | intro _
    | with_reducible apply Mod.setEngine_good
    | with_reducible apply loadEngine_good
    | with_reducible apply Mod.set_good
    | with_reducible apply good_ite

theorem Mod.loadDefaults_good {m : Mod} (h : m.Good) : (Mod.loadDefaults m).Good := by
  unfold Mod.loadDefaults
  try dsimp only
  repeat' first
    | with_reducible assumption
    | intro _
    | with_reducible apply Mod.each_good
    | with_reducible apply Mod.loadStartLast_good
    | with_reducible apply Mod.showBounds_good
    | with_reducible apply Mod.loadProfile_good
    | with_reducible apply Mod.loadStoredEngine_good

theorem Mod.bootFrom_good {m : Mod} (h : m.Good) (copy : _) (causeA : _) (b : _) : (Mod.bootFrom m copy causeA b).Good := by
  unfold Mod.bootFrom
  try dsimp only
  repeat' first
    | with_reducible assumption
    | intro _
    | with_reducible apply Mod.set_good
    | with_reducible apply Mod.setOct_good
    | with_reducible apply Mod.raise_good
    | with_reducible apply Mod.poke_good
    | with_reducible apply Mod.emit_good
    | with_reducible apply Mod.stepDone_good
    | with_reducible apply Mod.loadDefaults_good

theorem secureBoot_good {m : Mod} (h : m.Good) (a : _) (b : _) : (secureBoot a b m).Good := by
  unfold secureBoot
  try dsimp only
  repeat' first
    | with_reducible assumption
    | (simp only [↓good_mk]; with_reducible apply Mod.Good.all)
    | with_reducible apply Mod.setXspi_good
    | with_reducible apply Mod.bootFrom_good
    | with_reducible apply Mod.set_good
    | with_reducible apply Mod.raise_good
    | with_reducible apply good_ite

theorem configDone_good {m : Mod} (h : m.Good) (path : _) (v : _) : (configDone path v m).Good := by
  unfold configDone
  try dsimp only
  repeat' first
    | with_reducible assumption
    | intro _
    | with_reducible apply Mod.report_good
    | with_reducible apply Mod.served_good
    | with_reducible apply Mod.stepDone_good
    | with_reducible apply good_ite

theorem lanesUpComplete_good {m : Mod} (h : m.Good) (elapsed : _) : (lanesUpComplete elapsed m).Good := by
  unfold lanesUpComplete
  try dsimp only
  repeat' first
    | with_reducible assumption
    | intro _
    | with_reducible apply Mod.stepDone_good
    | with_reducible apply good_ite

theorem sysclkLoss_good {m : Mod} (h : m.Good) : (sysclkLoss m).Good := by
  unfold sysclkLoss
  try dsimp only
  repeat' first
    | with_reducible assumption
    | intro _
    | with_reducible apply Mod.resetState_good
    | with_reducible apply good_ite
    | split
    | dsimp only
    | omega

theorem jtagReset_good {m : Mod} (h : m.Good) : (jtagReset m).Good := by
  unfold jtagReset
  try dsimp only
  repeat' first
    | with_reducible assumption
    | intro _
    | with_reducible apply Mod.resetState_good
    | with_reducible apply good_ite
    | split
    | dsimp only
    | omega

theorem swReset_good {m : Mod} (h : m.Good) (aperture : _) (path : _) (mMode : _) (v : _) (now : _) : (swReset aperture path mMode v now m).Good := by
  unfold swReset
  try dsimp only
  repeat' first
    | with_reducible apply Mod.resetState_good
    | with_reducible apply Mod.report_good
    | split
    | omega

theorem watchdogExpiry_good {m : Mod} (h : m.Good) (now : _) : (watchdogExpiry now m).Good := by
  unfold watchdogExpiry
  try dsimp only
  repeat' first
    | with_reducible assumption
    | intro _
    | with_reducible apply Mod.resetState_good
    | with_reducible apply good_ite
    | split
    | dsimp only
    | omega

theorem wdtKick_good {m : Mod} (h : m.Good) (path : _) (mMode : _) (v : _) (now : _) : (wdtKick path mMode v now m).Good := by
  unfold wdtKick
  try dsimp only
  repeat' first
    | with_reducible assumption
    | intro _
    | (simp only [↓good_mk]; with_reducible apply Mod.Good.all)
    | with_reducible apply Mod.report_good
    | with_reducible apply Mod.served_good
    | with_reducible apply good_ite

theorem Mod.eraseConfig_good {m : Mod} (h : m.Good) : m.eraseConfig.Good := ⟨h.dict, Memory.wf_filter _ h.mem, h.held⟩

theorem lifecycleChange_good {m : Mod} (h : m.Good) (path : _) (mMode : _) (jtag : _) (target : _) (t : _) : (lifecycleChange path mMode jtag target t m).Good := by
  cases jtag
  all_goals unfold lifecycleChange
  all_goals try dsimp only
  all_goals repeat' first
    | (simp only [↓good_mk]; with_reducible apply Mod.Good.all)
    | with_reducible apply Mod.report_good
    | with_reducible apply Mod.set_good
    | with_reducible apply Mod.raise_good
    | with_reducible apply Mod.newNonce_good
    | with_reducible apply Mod.eraseConfig_good
    | with_reducible apply Mod.occur_good
    | with_reducible apply Mod.resetState_good
    | with_reducible apply good_ite
    | omega

theorem Mod.avsSend_good {m : Mod} (h : m.Good) (mV : _) (fails : _) : (Mod.avsSend m mV fails).Good := by
  unfold Mod.avsSend
  try dsimp only
  repeat' first
    | with_reducible assumption
    | intro _
    | (simp only [↓good_mk]; with_reducible apply Mod.Good.all)
    | with_reducible apply Mod.bump_good
    | with_reducible apply Mod.set_good
    | with_reducible apply Mod.emit_good
    | with_reducible apply Mod.raise_good
    | with_reducible apply good_ite

theorem Mod.avsMove_good {m : Mod} (h : m.Good) (up : _) (fails : _) : (Mod.avsMove m up fails).Good := by
  unfold Mod.avsMove
  try dsimp only
  repeat' first
    | with_reducible assumption
    | intro _
    | (simp only [↓good_mk]; with_reducible apply Mod.Good.all)
    | with_reducible apply Mod.raise_good
    | with_reducible apply Mod.avsSend_good
    | with_reducible apply good_ite

theorem avsSample_good {m : Mod} (h : m.Good) (slack : _) (fails : _) : (avsSample slack fails m).Good := by
  unfold avsSample
  try dsimp only
  repeat' first
    | with_reducible assumption
    | intro _
    | (simp only [↓good_mk]; with_reducible apply Mod.Good.all)
    | with_reducible apply Mod.set_good
    | with_reducible apply Mod.raise_good
    | with_reducible apply Mod.avsMove_good
    | with_reducible apply good_ite

theorem avsbusRetry_good {m : Mod} (h : m.Good) (fails : _) : (avsbusRetry fails m).Good := by
  unfold avsbusRetry
  try dsimp only
  repeat' first
    | with_reducible assumption
    | intro _
    | with_reducible apply Mod.avsSend_good
    | with_reducible apply good_ite

theorem refclkLoss_good {m : Mod} (h : m.Good) (j : _) (present : _) : (refclkLoss j present m).Good := by
  unfold refclkLoss
  try dsimp only
  repeat' first
    | with_reducible assumption
    | intro _
    | with_reducible apply Mod.set_good
    | with_reducible apply Mod.raise_good
    | with_reducible apply Mod.each_good
    | with_reducible apply portLinkLoss_good
    | with_reducible apply Mod.linkDown_good
    | with_reducible apply good_ite

theorem Mod.thermalWarn_good {m : Mod} (h : m.Good) (sensor : _) (t : _) : (Mod.thermalWarn m sensor t).Good := by
  unfold Mod.thermalWarn
  try dsimp only
  repeat' first
    | with_reducible assumption
    | intro _
    | (simp only [↓good_mk]; with_reducible apply Mod.Good.all)
    | with_reducible apply Mod.raise_good
    | with_reducible apply good_ite

theorem thermalSample_good {m : Mod} (h : m.Good) (temps : _) : (thermalSample temps m).Good := by
  unfold thermalSample
  try dsimp only
  repeat' first
    | with_reducible assumption
    | intro _
    | (simp only [↓good_mk]; with_reducible apply Mod.Good.all)
    | with_reducible apply Mod.each_good
    | with_reducible apply Mod.set_good
    | with_reducible apply Mod.thermalWarn_good
    | with_reducible apply Mod.resetState_good
    | with_reducible apply good_ite
    | split
    | dsimp only
    | omega

end Sys2Proof.Machine
end

