-- ==== Sys2Proof/Laws/GoodReads.lean ====
section
/-!
SUPPORT. The operations and commands of Machine/Reads.lean keep a module sound.
-/
set_option linter.unusedSimpArgs false

namespace Sys2Proof.Machine

theorem Mod.readTakes_good {m : Mod} (h : m.Good) (o : _) (i : _) : (Mod.readTakes m o i).Good := by
  unfold Mod.readTakes
  try dsimp only
  repeat' first
    | with_reducible assumption
    | intro _
    | (simp only [↓good_mk]; with_reducible apply Mod.Good.all)
    | with_reducible apply Mod.setPort_good
    | with_reducible apply Mod.setOct_good
    | with_reducible apply Mod.setCanChan_good
    | with_reducible apply Mod.fifoSync_good
    | with_reducible apply Mod.set_good
    | with_reducible apply Mod.raise_good
    | with_reducible apply good_ite
    | split

end Sys2Proof.Machine
end

