-- ==== Sys2Proof/Laws/GoodRequests.lean ====
section
/-!
SUPPORT. The operations and commands of Machine/Requests.lean keep a module sound.
-/
set_option linter.unusedSimpArgs false

namespace Sys2Proof.Machine

theorem lastCheckDone_good {m : Mod} (h : m.Good) : (lastCheckDone m).Good := by
  unfold lastCheckDone
  try dsimp only
  repeat' first
    | with_reducible assumption
    | intro _
    | (simp only [↓good_mk]; with_reducible apply Mod.Good.all)
    | with_reducible apply Mod.set_good
    | with_reducible apply good_ite

theorem Mod.writeTarget_good {m : Mod} (h : m.Good) (p : _) (env : _) (o : _) (i : _) (t : _) : (Mod.writeTarget m p env o i t).Good := by
  unfold Mod.writeTarget
  try dsimp only
  repeat' first
    | with_reducible assumption
    | intro _
    | with_reducible apply Mod.report_good
    | with_reducible apply Mod.commitVerdict_report_good
    | with_reducible apply pass_report_good
    | with_reducible apply Mod.proposeWith_good
    | with_reducible apply good_ite

theorem lastSwapRequest_good {m : Mod} (h : m.Good) (p : _) (kS : _) (env : _) : (lastSwapRequest p kS env m).Good := by
  unfold lastSwapRequest
  try dsimp only
  repeat' first
    | with_reducible assumption
    | intro _
    | with_reducible apply Mod.writeTarget_good

theorem Mod.cancelSwap_good {m : Mod} (h : m.Good) (p : _) (v : _) (pending : _) (id : _) : (Mod.cancelSwap m p v pending id).Good := by
  unfold Mod.cancelSwap
  try dsimp only
  repeat' first
    | with_reducible assumption
    | intro _
    | with_reducible apply Mod.report_good
    | with_reducible apply Mod.commitVerdict_report_good
    | with_reducible apply pass_report_good
    | with_reducible refine Mod.cancelById_good_eq (by assumption) ?_
    | with_reducible apply Mod.cancelById_good
    | with_reducible apply good_ite

theorem lastSwapCancel_good {m : Mod} (h : m.Good) (p : _) (v : _) : (lastSwapCancel p v m).Good := by
  unfold lastSwapCancel
  try dsimp only
  repeat' first
    | with_reducible assumption
    | intro _
    | with_reducible apply Mod.cancelSwap_good

theorem profileSwapRequest_good {m : Mod} (h : m.Good) (path : _) (p : _) (kS : _) (env : _) : (profileSwapRequest path p kS env m).Good := by
  unfold profileSwapRequest
  try dsimp only
  repeat' first
    | with_reducible assumption
    | intro _
    | with_reducible apply Mod.report_good
    | with_reducible apply Mod.commitVerdict_report_good
    | with_reducible apply pass_report_good
    | with_reducible apply Mod.writeTarget_good
    | with_reducible apply good_ite

theorem profileSwapCancel_good {m : Mod} (h : m.Good) (path : _) (p : _) (v : _) : (profileSwapCancel path p v m).Good := by
  unfold profileSwapCancel
  try dsimp only
  repeat' first
    | with_reducible assumption
    | intro _
    | with_reducible apply Mod.report_good
    | with_reducible apply Mod.commitVerdict_report_good
    | with_reducible apply pass_report_good
    | with_reducible apply Mod.cancelSwap_good
    | with_reducible apply good_ite

theorem engineStartRequest_good {m : Mod} (h : m.Good) (p : _) (g : _) (kS : _) (env : _) : (engineStartRequest p g kS env m).Good := by
  unfold engineStartRequest
  try dsimp only
  repeat' first
    | with_reducible assumption
    | intro _
    | with_reducible apply Mod.raise_good
    | with_reducible apply Mod.report_good
    | with_reducible apply Mod.commitVerdict_report_good
    | with_reducible apply pass_report_good
    | with_reducible apply Mod.writeTarget_good
    | with_reducible apply good_ite

theorem engineStopRequest_good {m : Mod} (h : m.Good) (p : _) (g : _) (kT : _) (env : _) : (engineStopRequest p g kT env m).Good := by
  unfold engineStopRequest
  try dsimp only
  repeat' first
    | with_reducible assumption
    | intro _
    | with_reducible apply Mod.writeTarget_good

theorem createTickWrite_good {m : Mod} (h : m.Good) (p : _) (t : _) (k : _) (env : _) : (createTickWrite p t k env m).Good := by
  unfold createTickWrite
  try dsimp only
  repeat' first
    | with_reducible assumption
    | intro _
    | with_reducible apply Mod.writeTarget_good

theorem destroyTickWrite_good {m : Mod} (h : m.Good) (p : _) (t : _) (k : _) (env : _) : (destroyTickWrite p t k env m).Good := by
  unfold destroyTickWrite
  try dsimp only
  repeat' first
    | with_reducible assumption
    | intro _
    | with_reducible apply Mod.writeTarget_good

theorem freezeTickWrite_good {m : Mod} (h : m.Good) (p : _) (t : _) (k : _) (env : _) : (freezeTickWrite p t k env m).Good := by
  unfold freezeTickWrite
  try dsimp only
  repeat' first
    | with_reducible assumption
    | intro _
    | with_reducible apply Mod.writeTarget_good

theorem unfreezeTickWrite_good {m : Mod} (h : m.Good) (p : _) (t : _) (k : _) (env : _) : (unfreezeTickWrite p t k env m).Good := by
  unfold unfreezeTickWrite
  try dsimp only
  repeat' first
    | with_reducible assumption
    | intro _
    | with_reducible apply Mod.writeTarget_good

theorem resourceCommitTickWrite_good {m : Mod} (h : m.Good) (p : _) (t : _) (k : _) (env : _) : (resourceCommitTickWrite p t k env m).Good := by
  unfold resourceCommitTickWrite
  try dsimp only
  repeat' first
    | with_reducible assumption
    | intro _
    | with_reducible apply Mod.writeTarget_good

theorem restoreTickWrite_good {m : Mod} (h : m.Good) (p : _) (k : _) (env : _) : (restoreTickWrite p k env m).Good := by
  unfold restoreTickWrite
  try dsimp only
  repeat' first
    | with_reducible assumption
    | intro _
    | with_reducible apply Mod.writeTarget_good

theorem Mod.submitRefused_good {m : Mod} (h : m.Good) (t : _) (code : _) : (Mod.submitRefused m t code).Good := by
  unfold Mod.submitRefused
  try dsimp only
  repeat' first
    | with_reducible assumption
    | intro _
    | with_reducible apply Mod.setTenant_good
    | with_reducible apply Mod.identity_good

theorem Mod.submitOwn_good {m : Mod} (h : m.Good) (c : _) : (Mod.submitOwn m c).Good := by
  unfold Mod.submitOwn
  repeat' first
    | with_reducible assumption
    | intro _
    | extract_lets
    | (simp +zetaDelta only [good_mk]; with_reducible apply Mod.Good.all)
    | with_reducible apply Mod.commitVerdict_report_good
    | with_reducible refine Mod.proposeStopped_good_eq (by assumption) ?_
    | with_reducible apply Mod.proposeStopped_good
    | with_reducible apply Mod.tenantOutcome_good
    | with_reducible apply Mod.refuseCommit_good
    | with_reducible apply Mod.sendCommit_good
    | with_reducible apply Mod.expected_good
    | with_reducible apply Mod.report_good
    | with_reducible apply Mod.commitVerdict_report_good
    | with_reducible apply pass_report_good
    | with_reducible apply Mod.mapCommit_good
    | with_reducible apply Mod.confirmIf_good
    | with_reducible apply Mod.keepCommit_good
    | with_reducible apply Mod.refuseBy_good
    | with_reducible apply Mod.takeUp_good
    | with_reducible apply good_ite
    | split

theorem tenantDpSubmit_good {m : Mod} (h : m.Good) (t : _) : (tenantDpSubmit t m).Good := by
  unfold tenantDpSubmit
  try dsimp only
  repeat' first
    | with_reducible assumption
    | intro _
    | with_reducible apply Mod.when_good
    | with_reducible apply Mod.raise_good
    | with_reducible apply Mod.submitRefused_good
    | with_reducible apply Mod.setTenant_good
    | with_reducible apply Mod.submitOwn_good
    | with_reducible apply good_ite

end Sys2Proof.Machine
end

