-- ==== Sys2Proof/Laws/GoodSessions.lean ====
section
/-!
SUPPORT. The operations and commands of Machine/Sessions.lean keep a module sound.
-/
set_option linter.unusedSimpArgs false

namespace Sys2Proof.Machine

theorem Mod.setSessions_good {m : Mod} (h : m.Good) (t : _) : (Mod.setSessions m t).Good := by
  unfold Mod.setSessions
  try dsimp only
  repeat' first
    | with_reducible assumption
    | intro _
    | (simp only [↓good_mk]; with_reducible apply Mod.Good.all)
    | with_reducible apply Mod.set_good

theorem Mod.dropParts_good {m : Mod} (h : m.Good) (p : _) : (Mod.dropParts m p).Good := by
  unfold Mod.dropParts
  try dsimp only
  repeat' first
    | with_reducible assumption
    | intro _
    | (simp only [↓good_mk]; with_reducible apply Mod.Good.all)
    | with_reducible apply Mod.report_good
    | with_reducible apply Mod.commitVerdict_report_good
    | with_reducible apply pass_report_good
    | with_reducible apply Mod.raise_good
    | with_reducible apply good_ite
    | split

theorem Mod.closeSession_good {m : Mod} (h : m.Good) (n : _) (why : _) : (Mod.closeSession m n why).Good := by
  unfold Mod.closeSession
  try dsimp only
  repeat' first
    | with_reducible assumption
    | intro _
    | with_reducible apply Mod.dropParts_good
    | with_reducible apply Mod.setStage_good
    | with_reducible apply Mod.setSessions_good
    | with_reducible apply Mod.raise_good
    | with_reducible apply good_ite

theorem Mod.closeSessions_good {m : Mod} (h : m.Good) (why : _) : (Mod.closeSessions m why).Good := by
  unfold Mod.closeSessions
  try dsimp only
  repeat' first
    | with_reducible assumption
    | intro _
    | with_reducible apply Mod.each_good
    | with_reducible apply Mod.closeSession_good

theorem dtpIdleTimeout_good {m : Mod} (h : m.Good) (session : _) : (dtpIdleTimeout session m).Good := by
  unfold dtpIdleTimeout
  try dsimp only
  repeat' first
    | with_reducible assumption
    | intro _
    | with_reducible apply Mod.closeSession_good

theorem dtpSnapshotExpiry_good {m : Mod} (h : m.Good) (session : _) : (dtpSnapshotExpiry session m).Good := by
  unfold dtpSnapshotExpiry
  try dsimp only
  repeat' first
    | with_reducible assumption
    | intro _
    | with_reducible apply Mod.setSessions_good
    | with_reducible apply good_ite
    | split

theorem dtpKeySlotWrite_good {m : Mod} (h : m.Good) (p : _) (v : _) : (dtpKeySlotWrite p v m).Good := by
  unfold dtpKeySlotWrite
  try dsimp only
  repeat' first
    | with_reducible assumption
    | intro _
    | with_reducible apply Mod.report_good
    | with_reducible apply Mod.commitVerdict_report_good
    | with_reducible apply pass_report_good
    | with_reducible apply Mod.set_good
    | with_reducible apply Mod.closeSessions_good
    | with_reducible apply good_ite

theorem keyDestroy_good {m : Mod} (h : m.Good) (path : _) (mMode : _) : (keyDestroy path mMode m).Good := by
  unfold keyDestroy
  try dsimp only
  repeat' first
    | with_reducible assumption
    | intro _
    | simp only [↓good_mk]
    | with_reducible apply Mod.keyCommand_good
    | with_reducible apply Mod.zeroSlot_good
    | with_reducible apply Mod.raise_good
    | with_reducible apply Mod.closeSessions_good
    | with_reducible apply good_ite

end Sys2Proof.Machine
end

