-- ==== Sys2Proof/Laws/GoodDictionary.lean ====
section
/-!
SUPPORT. The operations and commands of Machine/Dictionary.lean keep a module sound.
-/
set_option linter.unusedSimpArgs false

namespace Sys2Proof.Machine

theorem macOpWrite_good {m : Mod} (h : m.Good) (p : _) (n : _) : (macOpWrite p n m).Good := by
  unfold macOpWrite
  try dsimp only
  repeat' first
    | with_reducible assumption
    | intro _
    | with_reducible apply macInsertOp_good
    | with_reducible apply macDeleteOp_good
    | with_reducible apply macLookupOp_good
    | with_reducible apply macDumpStart_good
    | with_reducible apply Mod.commitVerdict_report_good
    | with_reducible apply pass_report_good
    | with_reducible apply Mod.report_good
    | with_reducible apply good_ite
    | split

theorem routeOpWrite_good {m : Mod} (h : m.Good) (p : _) (n : _) : (routeOpWrite p n m).Good := by
  unfold routeOpWrite
  try dsimp only
  repeat' first
    | with_reducible assumption
    | intro _
    | with_reducible apply routeInsert_good
    | with_reducible apply routeDelete_good
    | with_reducible apply routeLookupOp_good
    | with_reducible apply Mod.commitVerdict_report_good
    | with_reducible apply pass_report_good
    | with_reducible apply Mod.report_good
    | with_reducible apply good_ite
    | split

theorem canCtrlWrite_good {m : Mod} (h : m.Good) (p : _) (i : _) (n : _) (env : _) : (canCtrlWrite p i n env m).Good := by
  unfold canCtrlWrite
  try dsimp only
  repeat' first
    | with_reducible assumption
    | intro _
    | with_reducible apply canTxRequest_good
    | with_reducible apply Mod.commitVerdict_report_good
    | with_reducible apply pass_report_good
    | with_reducible apply Mod.report_good
    | with_reducible apply canTxAbort_good
    | with_reducible apply good_ite

theorem keyCmdWrite_good {m : Mod} (h : m.Good) (p : _) (n : _) (env : _) : (keyCmdWrite p n env m).Good := by
  unfold keyCmdWrite
  try dsimp only
  repeat' first
    | with_reducible assumption
    | intro _
    | with_reducible apply keyInstall_good
    | with_reducible apply keyDerive_good
    | with_reducible apply keyDestroy_good
    | with_reducible apply Mod.commitVerdict_report_good
    | with_reducible apply pass_report_good
    | with_reducible apply Mod.report_good
    | with_reducible apply good_ite
    | split

theorem keyValueWrite_good {m : Mod} (h : m.Good) (p : _) (b : _) (env : _) : (keyValueWrite p b env m).Good := by
  unfold keyValueWrite
  try dsimp only
  repeat' first
    | with_reducible assumption
    | intro _
    | (simp only [↓good_mk]; with_reducible apply Mod.Good.all)
    | with_reducible apply Mod.commitVerdict_report_good
    | with_reducible apply pass_report_good
    | with_reducible apply Mod.report_good
    | with_reducible apply Mod.setTenant_good
    | with_reducible apply good_ite

theorem lcTokenWrite_good {m : Mod} (h : m.Good) (p : _) (b : _) (env : _) : (lcTokenWrite p b env m).Good := by
  unfold lcTokenWrite
  try dsimp only
  repeat' first
    | with_reducible assumption
    | intro _
    | (simp only [↓good_mk]; with_reducible apply Mod.Good.all)
    | with_reducible apply Mod.commitVerdict_report_good
    | with_reducible apply pass_report_good
    | with_reducible apply Mod.report_good
    | with_reducible apply good_ite

theorem Mod.writeRws_good {m : Mod} (h : m.Good) (p : _) (env : _) (e : _) : (Mod.writeRws m p env e).Good := by
  unfold Mod.writeRws
  try dsimp only
  repeat' first
    | with_reducible assumption
    | with_reducible apply Mod.stageAll_good
    | with_reducible apply Mod.report_good
    | with_reducible apply Mod.commitVerdict_report_good
    | with_reducible apply Mod.putEntries_good
    | with_reducible apply Mod.tellDigest_good
    | with_reducible apply good_ite

theorem commandOf_good {m : Mod} {p : Path} {env : Env} {o i : Nat} {v : Val} {f : Mod → Mod} (hf : commandOf p env o i v = some f)
    (h : m.Good) : (f m).Good := by
  unfold commandOf at hf
  dsimp only at hf
  split at hf
  · cases hf; with_reducible apply tickRateWrite_good; assumption
  · cases hf; with_reducible apply lastCheckWrite_good; assumption
  · cases hf; with_reducible apply lastSwapRequest_good; assumption
  · cases hf; with_reducible apply lastSwapCancel_good; assumption
  · cases hf; with_reducible apply lastStore_good; assumption
  · cases hf; with_reducible apply profileCheckWrite_good; assumption
  · cases hf; with_reducible apply profileSwapRequest_good; assumption
  · cases hf; with_reducible apply profileSwapCancel_good; assumption
  · cases hf; with_reducible apply profileSwapNow_good; assumption
  · cases hf; with_reducible apply profileStore_good; assumption
  · cases hf; with_reducible apply logicImageWrite_good; assumption
  · cases hf; with_reducible apply logicCheckWrite_good; assumption
  · cases hf; with_reducible apply engineStartRequest_good; assumption
  · cases hf; with_reducible apply engineStopRequest_good; assumption
  · cases hf; with_reducible apply logicStore_good; assumption
  · cases hf; with_reducible apply violClear_good; assumption
  · cases hf; with_reducible apply createTickWrite_good; assumption
  · cases hf; with_reducible apply destroyTickWrite_good; assumption
  · cases hf; with_reducible apply freezeTickWrite_good; assumption
  · cases hf; with_reducible apply unfreezeTickWrite_good; assumption
  · cases hf; with_reducible apply resourceCommitTickWrite_good; assumption
  · cases hf; with_reducible apply imageSave_good; assumption
  · cases hf; with_reducible apply restoreTickWrite_good; assumption
  · cases hf; with_reducible apply rejoinWrite_good; assumption
  · cases hf; with_reducible apply macFlushPort_good; assumption
  · cases hf; with_reducible apply macOpWrite_good; assumption
  · cases hf; with_reducible apply routeOpWrite_good; assumption
  · cases hf; with_reducible apply todSetWrite_good; assumption
  · cases hf; with_reducible apply clickerForce_good; assumption
  · cases hf; with_reducible apply clickerStop_good; assumption
  · cases hf; with_reducible apply clickerDrain_good; assumption
  · cases hf; with_reducible apply clickerRelease_good; assumption
  · cases hf; with_reducible apply clickerResend_good; assumption
  · cases hf; with_reducible apply canRecover_good; assumption
  · cases hf; with_reducible apply canCtrlWrite_good; assumption
  · cases hf; with_reducible apply stageCommit_good; assumption
  · cases hf; with_reducible apply stageDiscard_good; assumption
  · cases hf; with_reducible apply commitCancel_good; assumption
  · cases hf; with_reducible apply dtpKeySlotWrite_good; assumption
  · cases hf; with_reducible apply lifecycleChange_good; assumption
  · cases hf; with_reducible apply lcTokenWrite_good; assumption
  · cases hf; with_reducible apply okHashWrite_good; assumption
  · cases hf; with_reducible apply minSvnSet_good; assumption
  · cases hf; with_reducible apply keyValueWrite_good; assumption
  · cases hf; with_reducible apply keyCmdWrite_good; assumption
  · cases hf; with_reducible apply anchorWrite_good; assumption
  · cases hf; with_reducible apply swWrite_good; assumption
  · cases hf; with_reducible apply swReset_good; assumption
  · cases hf; with_reducible apply configDone_good; assumption
  · cases hf; with_reducible apply wdtKick_good; assumption
  · exact ownRw_good hf h

theorem Mod.writeOne_good {m : Mod} (h : m.Good) (p : _) (env : _) (r : _) (o : _) (i : _) (v : _) : (Mod.writeOne m p env r o i v).Good := by
  unfold Mod.writeOne
  try dsimp only
  repeat' first
    | with_reducible assumption
    | intro _
    | with_reducible refine commandOf_good (by assumption) ?_
    | with_reducible apply Mod.commitVerdict_report_good
    | with_reducible apply pass_report_good
    | with_reducible apply Mod.report_good
    | with_reducible refine Mod.stageAll_good_eq (by assumption) ?_
    | with_reducible apply Mod.stageAll_good
    | with_reducible apply Mod.rws_good
    | with_reducible apply Mod.writeRws_good
    | with_reducible apply Mod.putRw_good
    | with_reducible apply good_ite
    | split

theorem Mod.writeMany_good {m : Mod} (h : m.Good) (p : _) (env : _) (o : _) (sel : _) (l : _) (v : _) : (Mod.writeMany m p env o sel l v).Good := by
  unfold Mod.writeMany
  try dsimp only
  repeat' first
    | with_reducible assumption
    | intro _
    | with_reducible apply Mod.commitVerdict_report_good
    | with_reducible apply pass_report_good
    | with_reducible apply Mod.report_good
    | with_reducible apply Mod.proposeWith_good
    | with_reducible refine Mod.stageAll_good_eq (by assumption) ?_
    | with_reducible apply Mod.stageAll_good
    | with_reducible apply foldl_good_fst
    | with_reducible apply good_ite

theorem Mod.writeObject_good {m : Mod} (h : m.Good) (p : _) (env : _) (o : _) (sel : _) (bs : _) : (Mod.writeObject m p env o sel bs).Good := by
  unfold Mod.writeObject
  try dsimp only
  repeat' first
    | with_reducible assumption
    | intro _
    | with_reducible apply Mod.commitVerdict_report_good
    | with_reducible apply pass_report_good
    | with_reducible apply Mod.report_good
    | with_reducible apply Mod.writeMany_good
    | with_reducible apply Mod.writeOne_good
    | with_reducible apply good_ite
    | split

theorem dictionaryWrite_good {m : Mod} (h : m.Good) (p : _) (obj : _) (sel : _) (bytes : _) (env : _) : (dictionaryWrite p obj sel bytes env m).Good := by
  unfold dictionaryWrite
  try dsimp only
  repeat' first
    | with_reducible assumption
    | intro _
    | with_reducible apply Mod.writeObject_good

theorem Mod.writePart_good {m : Mod} (h : m.Good) (p : _) (env : _) (o : _) (sel : _) (off : _) (bs : _) (last : _) : (Mod.writePart m p env o sel off bs last).Good := by
  unfold Mod.writePart
  try dsimp only
  repeat' first
    | with_reducible assumption
    | intro _
    | (simp only [↓good_mk]; with_reducible apply Mod.Good.all)
    | with_reducible apply Mod.dropParts_good
    | with_reducible apply Mod.writeObject_good
    | with_reducible apply Mod.commitVerdict_report_good
    | with_reducible apply pass_report_good
    | with_reducible apply Mod.report_good
    | with_reducible apply good_ite

theorem Mod.setDp_good {m : Mod} (h : m.Good) (d : _) : (Mod.setDp m d).Good := by
  unfold Mod.setDp
  try dsimp only
  repeat' first
    | with_reducible assumption
    | intro _
    | with_reducible apply Mod.setTenant_good

theorem Mod.dpDone_good {m : Mod} (h : m.Good) : (Mod.dpDone m).Good := by
  unfold Mod.dpDone
  try dsimp only
  repeat' first
    | with_reducible assumption
    | intro _
    | with_reducible apply Mod.setDp_good

theorem dpWrite_good {m : Mod} (h : m.Good) (env : _) : (dpWrite env m).Good := by
  unfold dpWrite
  try dsimp only
  repeat' first
    | with_reducible assumption
    | intro _
    | with_reducible apply Mod.writePart_good
    | with_reducible apply Mod.dpDone_good
    | with_reducible apply good_ite

theorem dpRead_good {m : Mod} (h : m.Good) (env : _) : (dpRead env m).Good := by
  unfold dpRead
  try dsimp only
  repeat' first
    | with_reducible assumption
    | intro _
    | with_reducible apply Mod.commitVerdict_report_good
    | with_reducible apply pass_report_good
    | with_reducible apply Mod.report_good
    | with_reducible apply Mod.dpDone_good
    | with_reducible apply Mod.readTakes_good
    | with_reducible apply Mod.setDp_good
    | with_reducible apply Mod.emit_good
    | with_reducible apply good_ite

theorem dpCommit_good {m : Mod} (h : m.Good) (env : _) : (dpCommit env m).Good := by
  unfold dpCommit
  try dsimp only
  repeat' first
    | with_reducible assumption
    | intro _
    | with_reducible apply Mod.commitVerdict_report_good
    | with_reducible apply pass_report_good
    | with_reducible apply Mod.report_good
    | with_reducible apply Mod.dpDone_good
    | with_reducible apply stageCommit_good
    | with_reducible apply good_ite

end Sys2Proof.Machine
end

