-- ==== Sys2Proof/Laws/GoodDtp.lean ====
section
/-!
SUPPORT. The operations and commands of Machine/Dtp.lean keep a module sound.
-/
set_option linter.unusedSimpArgs false

namespace Sys2Proof.Machine

theorem Mod.dtpSend_good {m : Mod} (h : m.Good) (w : _) (bs : _) : (Mod.dtpSend m w bs).Good := by
  unfold Mod.dtpSend
  try dsimp only
  repeat' first
    | with_reducible assumption
    | intro _
    | with_reducible apply Mod.emit_good

theorem Mod.dtpAuthFail_good {m : Mod} (h : m.Good) : (Mod.dtpAuthFail m).Good := by
  unfold Mod.dtpAuthFail
  try dsimp only
  repeat' first
    | with_reducible assumption
    | intro _
    | with_reducible apply Mod.bump_good

theorem Mod.openSession_good {m : Mod} (h : m.Good) (w : _) (key : _) (q : _) : (Mod.openSession m w key q).Good := by
  unfold Mod.openSession
  try dsimp only
  repeat' first
    | with_reducible assumption
    | intro _
    | with_reducible apply Mod.dtpSend_good
    | with_reducible refine Mod.draw_good_eq (by assumption) ?_
    | with_reducible apply Mod.draw_good
    | with_reducible refine Mod.drawOctets_good_eq (by assumption) ?_
    | with_reducible apply Mod.drawOctets_good
    | with_reducible apply Mod.setSessions_good
    | with_reducible apply Mod.raise_good
    | with_reducible apply good_ite
    | split

theorem dtpHello_good {m : Mod} (h : m.Good) (addr : _) (udpPort : _) (datagram : _) : (dtpHello addr udpPort datagram m).Good := by
  unfold dtpHello
  try dsimp only
  repeat' first
    | with_reducible assumption
    | intro _
    | with_reducible apply Mod.dtpAuthFail_good
    | with_reducible apply Mod.raise_good
    | with_reducible apply Mod.openSession_good
    | with_reducible apply good_ite
    | split

theorem Mod.dtpServe_good {m : Mod} (h : m.Good) (w : _) (x : _) (q : _) (f : _) (hf : ∀ m, m.Good → (f m).1.Good) : (Mod.dtpServe m w x q f).Good := by
  unfold Mod.dtpServe
  try dsimp only
  repeat' first
    | with_reducible assumption
    | intro _
    | with_reducible apply hf
    | with_reducible apply Mod.setSessions_good
    | with_reducible apply Mod.dtpSend_good
    | with_reducible apply Mod.closeSession_good
    | with_reducible apply good_ite
    | split

theorem Mod.dtpRequest_good {m : Mod} (h : m.Good) (w : _) (datagram : _) (op : _) (f : _) (hf : ∀ x0 m, m.Good → (f x0 m).1.Good) : (Mod.dtpRequest m w datagram op f).Good := by
  unfold Mod.dtpRequest
  try dsimp only
  repeat' first
    | with_reducible assumption
    | intro _
    | with_reducible apply hf
    | with_reducible apply Mod.dtpAuthFail_good
    | with_reducible apply Mod.dtpSend_good
    | with_reducible apply Mod.bump_good
    | with_reducible apply Mod.dtpServe_good
    | with_reducible apply good_ite
    | split

theorem Mod.dtpDoRead_good {m : Mod} (h : m.Good) (env : _) (q : _) : (Mod.dtpDoRead m env q).1.Good := by
  unfold Mod.dtpDoRead
  try dsimp only
  repeat' first
    | with_reducible assumption
    | intro _
    | simp only [↓good_mk]
    | with_reducible apply Mod.commitVerdict_report_good
    | with_reducible apply pass_report_good
    | with_reducible apply Mod.report_good
    | with_reducible apply Mod.readTakes_good
    | with_reducible apply Mod.setSessions_good
    | with_reducible apply good_ite
    | split

theorem Mod.dtpDoRead_good_eq {m m1 : Mod} {y1 : _} {env : _} {q : _} (he : Mod.dtpDoRead m env q = (m1, y1)) (h : m.Good) : m1.Good := by
  have := Mod.dtpDoRead_good h env q
  rw [he] at this
  exact this

theorem dtpRead_good {m : Mod} (h : m.Good) (addr : _) (udpPort : _) (datagram : _) (env : _) : (dtpRead addr udpPort datagram env m).Good := by
  unfold dtpRead
  try dsimp only
  repeat' first
    | with_reducible assumption
    | intro _
    | with_reducible apply Mod.dtpRequest_good
    | with_reducible refine Mod.dtpDoRead_good_eq (by assumption) ?_
    | with_reducible apply Mod.dtpDoRead_good

theorem Mod.dtpDoWrite_good {m : Mod} (h : m.Good) (env : _) (q : _) : (Mod.dtpDoWrite m env q).1.Good := by
  unfold Mod.dtpDoWrite
  try dsimp only
  repeat' first
    | with_reducible assumption
    | intro _
    | with_reducible apply Mod.commitVerdict_report_good
    | with_reducible apply pass_report_good
    | with_reducible apply Mod.report_good
    | with_reducible apply Mod.writePart_good
    | with_reducible apply good_ite

theorem Mod.dtpDoWrite_good_eq {m m1 : Mod} {y1 : _} {env : _} {q : _} (he : Mod.dtpDoWrite m env q = (m1, y1)) (h : m.Good) : m1.Good := by
  have := Mod.dtpDoWrite_good h env q
  rw [he] at this
  exact this

theorem dtpWrite_good {m : Mod} (h : m.Good) (addr : _) (udpPort : _) (datagram : _) (env : _) : (dtpWrite addr udpPort datagram env m).Good := by
  unfold dtpWrite
  try dsimp only
  repeat' first
    | with_reducible assumption
    | intro _
    | with_reducible apply Mod.dtpRequest_good
    | with_reducible refine Mod.dtpDoWrite_good_eq (by assumption) ?_
    | with_reducible apply Mod.dtpDoWrite_good

theorem dtpClose_good {m : Mod} (h : m.Good) (addr : _) (udpPort : _) (datagram : _) : (dtpClose addr udpPort datagram m).Good := by
  unfold dtpClose
  try dsimp only
  repeat' first
    | with_reducible assumption
    | intro _
    | simp only [↓good_mk]
    | with_reducible apply Mod.dtpRequest_good
    | with_reducible apply Mod.closeSession_good

end Sys2Proof.Machine
end

