-- ==== Sys2Proof/Laws/GoodRings.lean ====
section
/-!
SUPPORT. The operations and commands of Machine/Rings.lean keep a module sound.
-/
set_option linter.unusedSimpArgs false

namespace Sys2Proof.Machine

theorem Mod.dmaFault_good {m : Mod} (h : m.Good) (t : _) (cause : _) (a : _) : (Mod.dmaFault m t cause a).Good := by
  unfold Mod.dmaFault
  try dsimp only
  repeat' first
    | with_reducible assumption
    | (simp only [↓good_mk]; with_reducible apply Mod.Good.all)

theorem Mod.dmaPoke_good {m : Mod} (h : m.Good) (a : _) (bs : _) : (Mod.dmaPoke m a bs).Good := by
  unfold Mod.dmaPoke
  try dsimp only
  repeat' first
    | with_reducible assumption
    | with_reducible apply Mod.poke_good
    | with_reducible apply Mod.masterWrote_good

theorem takeTx_good {m : Mod} (h : m.Good) (t : _) (now : _) (a : _) (d : _) : (takeTx t now a d m).Good := by
  unfold takeTx
  repeat' first
    | with_reducible assumption
    | extract_lets
    | with_reducible apply Mod.setTenant_good
    | with_reducible apply Mod.dmaFault_good
    | with_reducible apply switchClassify_good
    | with_reducible apply Mod.violation_good
    | split

theorem takeTxs_good {m : Mod} (h : m.Good) (t : _) (now : _) (x2 : _) : (takeTxs t now x2 m).Good := by
  induction x2 generalizing m  with
  | zero => exact h
  | succ z ih =>
    unfold takeTxs
    repeat' first
      | with_reducible assumption
      | with_reducible apply ih
      | with_reducible apply Mod.dmaFault_good
      | with_reducible apply takeTx_good
      | with_reducible apply good_ite
      | split

theorem txTailWrite_good {m : Mod} (h : m.Good) (t : _) (tail : _) (now : _) : (txTailWrite t tail now m).Good := by
  unfold txTailWrite
  try dsimp only
  repeat' first
    | with_reducible assumption
    | with_reducible apply takeTxs_good
    | with_reducible apply Mod.setTenant_good
    | with_reducible apply good_ite

theorem txDescriptorDone_good {m : Mod} (h : m.Good) (t : _) : (txDescriptorDone t m).Good := by
  unfold txDescriptorDone
  try dsimp only
  repeat' first
    | with_reducible assumption
    | with_reducible apply Mod.setTenant_good
    | with_reducible apply Mod.dmaFault_good
    | with_reducible apply Mod.identity_good
    | with_reducible apply Mod.dmaPoke_good
    | split

theorem rxFrameDelivery_good {m : Mod} (h : m.Good) (t : _) (frame : _) (ts : _) (cls : _) : (rxFrameDelivery t frame ts cls m).Good := by
  unfold rxFrameDelivery
  repeat' first
    | with_reducible assumption
    | extract_lets
    | with_reducible apply Mod.dmaFault_good
    | with_reducible apply Mod.dmaPoke_good
    | with_reducible apply Mod.setTenant_good
    | with_reducible apply Mod.identity_good
    | split

end Sys2Proof.Machine
end

