-- ==== Sys2Proof/Laws/GoodMemory.lean ====
section
/-!
SUPPORT. The operations and commands of Machine/Memory.lean keep a module sound.
-/
set_option linter.unusedSimpArgs false

namespace Sys2Proof.Machine

theorem Mod.vfStore_good {m : Mod} (h : m.Good) (env : _) (mMode : _) (t : _) (o : _) (n : _) (v : _) : (Mod.vfStore m env mMode t o n v).Good := by
  unfold Mod.vfStore
  try dsimp only
  repeat' first
    | with_reducible assumption
    | intro _
    | with_reducible apply Mod.setTenant_good
    | with_reducible apply pubCommit_good
    | with_reducible apply Mod.set_good
    | with_reducible apply vfIrqLatchClear_good
    | with_reducible apply mbInRelease_good
    | with_reducible apply mbOutPost_good
    | with_reducible apply txTailWrite_good
    | with_reducible apply mbPost_good
    | with_reducible apply mbRelease_good
    | with_reducible apply wdtKick_good
    | with_reducible apply swReset_good
    | with_reducible apply dpWrite_good
    | with_reducible apply dpRead_good
    | with_reducible apply dpCommit_good
    | with_reducible apply tenantDpSubmit_good
    | with_reducible apply good_ite
    | split

theorem Mod.apertureStore_good {m : Mod} (h : m.Good) (env : _) (mMode : _) (a : _) (n : _) (v : _) : (Mod.apertureStore m env mMode a n v).Good := by
  unfold Mod.apertureStore
  try dsimp only
  repeat' first
    | with_reducible assumption
    | intro _
    | with_reducible apply Mod.vfStore_good
    | with_reducible apply sc0Commit_good
    | with_reducible apply Mod.bump_good
    | with_reducible apply Mod.poke_good
    | with_reducible apply good_ite

theorem Mod.physWrite_good {m : Mod} (h : m.Good) (env : _) (j : _) (mMode : _) (a : _) (bytes : _) : (Mod.physWrite m env j mMode a bytes).Good := by
  unfold Mod.physWrite
  try dsimp only
  repeat' first
    | with_reducible assumption
    | intro _
    | with_reducible apply Mod.poke_good
    | with_reducible apply Mod.loseReservations_good
    | with_reducible apply Mod.masterWrote_good
    | with_reducible apply Mod.setHart_good
    | with_reducible apply Mod.apertureStore_good
    | with_reducible apply Mod.each_good
    | split

theorem Mod.setLoaded_good {m : Mod} (h : m.Good) (j : _) (bs : _) : (Mod.setLoaded m j bs).Good := by
  unfold Mod.setLoaded
  try dsimp only
  repeat' first
    | with_reducible assumption
    | intro _
    | with_reducible apply Mod.setHart_good

theorem Mod.coreLoad_good {m : Mod} (h : m.Good) (j : _) (a : _) (n : _) : (Mod.coreLoad m j a n).Good := by
  unfold Mod.coreLoad
  try dsimp only
  repeat' first
    | with_reducible assumption
    | intro _
    | with_reducible apply remoteRead_good
    | with_reducible apply mramSyncRead_good
    | with_reducible refine Mod.loadOctets_good_eq (by assumption) ?_
    | with_reducible apply Mod.setLoaded_good
    | with_reducible apply Mod.setTenant_good
    | with_reducible apply good_ite
    | split

theorem Mod.coreStore_good {m : Mod} (h : m.Good) (env : _) (j : _) (a : _) (bytes : _) : (Mod.coreStore m env j a bytes).Good := by
  unfold Mod.coreStore
  try dsimp only
  repeat' first
    | with_reducible assumption
    | intro _
    | with_reducible apply remoteWrite_good
    | with_reducible apply Mod.physWrite_good
    | with_reducible apply good_ite

theorem Mod.drainStores_good {m : Mod} (h : m.Good) (env : _) (j : _) (x3 : _) : (Mod.drainStores m env j x3).Good := by
  induction x3 generalizing m  with
  | zero => exact h
  | succ z ih =>
    unfold Mod.drainStores
    repeat' first
      | with_reducible assumption
      | with_reducible apply ih
      | with_reducible apply Mod.setHart_good
      | with_reducible apply Mod.coreStore_good
      | split

theorem Mod.drainAll_good {m : Mod} (h : m.Good) (env : _) (j : _) : (Mod.drainAll m env j).Good := by
  unfold Mod.drainAll
  try dsimp only
  repeat' first
    | with_reducible assumption
    | with_reducible apply Mod.drainStores_good

theorem Mod.drainSome_good {m : Mod} (h : m.Good) (env : _) : (Mod.drainSome m env).Good := by
  unfold Mod.drainSome
  try dsimp only
  repeat' first
    | with_reducible assumption
    | intro _
    | with_reducible apply Mod.each_good
    | with_reducible apply Mod.draw_good
    | with_reducible apply Mod.drainStores_good

theorem Mod.bufferStore_good {m : Mod} (h : m.Good) (env : _) (j : _) (a : _) (bytes : _) : (Mod.bufferStore m env j a bytes).Good := by
  unfold Mod.bufferStore
  try dsimp only
  repeat' first
    | with_reducible assumption
    | with_reducible apply Mod.drainStores_good
    | with_reducible apply Mod.setHart_good
    | with_reducible apply Mod.drainAll_good
    | with_reducible apply good_ite

theorem Mod.coreAct_good {m : Mod} (h : m.Good) (env : _) (j : _) (acc : _) (a : _) (n : _) (bytes : _) : (Mod.coreAct m env j acc a n bytes).Good := by
  unfold Mod.coreAct
  try dsimp only
  repeat' first
    | with_reducible assumption
    | with_reducible apply Mod.drainAll_good
    | with_reducible apply Mod.coreLoad_good
    | with_reducible apply Mod.bufferStore_good
    | with_reducible apply Mod.coreStore_good
    | with_reducible apply Mod.retireFetch_good
    | with_reducible apply Mod.setLoaded_good
    | with_reducible apply Mod.setHart_good
    | split

theorem Mod.cached_good {m : Mod} (h : m.Good) (j : _) (acc : _) (a : _) (n : _) : (Mod.cached m j acc a n).Good := by
  unfold Mod.cached
  try dsimp only
  repeat' first
    | with_reducible assumption
    | with_reducible apply Mod.fillLines_good
    | with_reducible apply good_ite

theorem coreMemoryAccess_good {m : Mod} (h : m.Good) (j : _) (acc : _) (a : _) (n : _) (bytes : _) (env : _) : (coreMemoryAccess j acc a n bytes env m).Good := by
  unfold coreMemoryAccess
  try dsimp only
  repeat' first
    | with_reducible assumption
    | with_reducible apply Mod.drainSome_good
    | with_reducible apply Mod.trap_good
    | with_reducible apply Mod.coreAct_good
    | with_reducible apply Mod.cached_good
    | split

theorem Mod.serveWrite_good {m : Mod} (h : m.Good) (e : _) : (Mod.serveWrite m e).Good := by
  unfold Mod.serveWrite
  try dsimp only
  repeat' first
    | with_reducible assumption
    | with_reducible apply Mod.physWrite_good
    | with_reducible apply Mod.bump_good
    | with_reducible apply Mod.raise_good
    | with_reducible apply good_ite

theorem Mod.serveRead_good {m : Mod} (h : m.Good) (e : _) : (Mod.serveRead m e).Good := by
  unfold Mod.serveRead
  try dsimp only
  repeat' first
    | with_reducible assumption
    | with_reducible apply Mod.bump_good
    | with_reducible apply Mod.raise_good
    | with_reducible apply Mod.respond_good
    | with_reducible refine Mod.loadOctets_good_eq (by assumption) ?_
    | split

theorem Mod.serve_good {m : Mod} (h : m.Good) (e : _) : (Mod.serve m e).Good := by
  unfold Mod.serve
  try dsimp only
  repeat' first
    | with_reducible assumption
    | with_reducible apply Mod.serveRead_good
    | with_reducible apply Mod.serveWrite_good
    | with_reducible apply Mod.takeFence_good
    | split

theorem serveLink_good {m : Mod} (h : m.Good) (l : _) (x1 : _) : (serveLink l x1 m).Good := by
  induction x1 generalizing m  with
  | zero => exact h
  | succ z ih =>
    unfold serveLink
    repeat' first
      | with_reducible assumption
      | with_reducible apply ih
      | with_reducible apply Mod.setLink_good
      | with_reducible apply Mod.owe_good
      | with_reducible apply Mod.serve_good
      | split
      | dsimp only

theorem Mod.serveW2_good {m : Mod} (h : m.Good) (l : _) : (Mod.serveW2 m l).Good := by
  unfold Mod.serveW2
  try dsimp only
  repeat' first
    | with_reducible assumption
    | with_reducible apply serveLink_good

theorem Mod.takeRequest_good {m : Mod} (h : m.Good) (l : _) (e : _) : (Mod.takeRequest m l e).1.Good := by
  unfold Mod.takeRequest
  try dsimp only
  repeat' first
    | with_reducible assumption
    | with_reducible apply Mod.setLink_good
    | with_reducible apply Mod.serveW2_good

theorem Mod.takeRequest_good_eq {m m1 : Mod} {y1 : _} {l : _} {e : _} (he : Mod.takeRequest m l e = (m1, y1)) (h : m.Good) : m1.Good := by
  have := Mod.takeRequest_good h l e
  rw [he] at this
  exact this

theorem weltRdReqRx_good {m : Mod} (h : m.Good) (h_ : _) (p : _) : (weltRdReqRx h_ p m).Good := by
  unfold weltRdReqRx
  try dsimp only
  repeat' first
    | with_reducible assumption
    | intro _
    | with_reducible apply Mod.takePacket_good
    | with_reducible apply Mod.takeRequest_good

theorem weltFenceRx_good {m : Mod} (h : m.Good) (h_ : _) (p : _) (c : _) : (weltFenceRx h_ p c m).Good := by
  unfold weltFenceRx
  try dsimp only
  repeat' first
    | with_reducible assumption
    | intro _
    | with_reducible apply Mod.takePacket_good
    | with_reducible apply Mod.takeRequest_good

theorem weltWrReqRx_good {m : Mod} (h : m.Good) (h_ : _) (p : _) (env : _) : (weltWrReqRx h_ p env m).Good := by
  unfold weltWrReqRx
  try dsimp only
  repeat' first
    | with_reducible assumption
    | intro _
    | with_reducible apply Mod.takePacket_good
    | with_reducible apply Mod.takeRequest_good

theorem weltIdleRx_good {m : Mod} (h : m.Good) (h_ : _) : (weltIdleRx h_ m).Good := by
  unfold weltIdleRx
  try dsimp only
  repeat' first
    | with_reducible assumption
    | with_reducible apply Mod.accept_good
    | with_reducible apply Mod.serveW2_good
    | with_reducible apply Mod.returnCredits_good
    | with_reducible apply good_ite

end Sys2Proof.Machine
end

