-- ==== Sys2Proof/Laws/GoodPublish.lean ====
section
/-!
SUPPORT. The operations and commands of Machine/Publish.lean keep a module sound.
-/
set_option linter.unusedSimpArgs false

namespace Sys2Proof.Machine

theorem guardTimeStart_good {m : Mod} (h : m.Good) (p : _) : (guardTimeStart p m).Good := by
  unfold guardTimeStart
  try dsimp only
  repeat' first
    | with_reducible assumption
    | intro _
    | with_reducible apply Mod.setPort_good
    | with_reducible apply good_ite

theorem Mod.dueFrame_good {m : Mod} (h : m.Good) (i : _) (f : _) : (Mod.dueFrame m i f).2.Good := by
  unfold Mod.dueFrame
  try dsimp only
  repeat' first
    | with_reducible assumption
    | intro _
    | simp only [↓good_mk]
    | with_reducible refine Mod.nextInv_good_eq (by assumption) ?_
    | with_reducible apply Mod.nextInv_good
    | with_reducible apply good_ite
    | split

theorem Mod.dueFrame_good_eq {m m1 : Mod} {y1 : _} {i : _} {f : _} (he : Mod.dueFrame m i f = (y1, m1)) (h : m.Good) : m1.Good := by
  have := Mod.dueFrame_good h i f
  rw [he] at this
  exact this

theorem Mod.publishEntry_good {m : Mod} (h : m.Good) (now : _) (e : _) (late : _) : (Mod.publishEntry m now e late).Good := by
  unfold Mod.publishEntry
  try dsimp only
  repeat' first
    | with_reducible assumption
    | with_reducible apply Mod.inject_good
    | with_reducible apply Mod.bump_good
    | with_reducible apply Mod.injectLogic_good
    | with_reducible apply Mod.dueFrame_good
    | split

theorem Mod.endGuards_good {m : Mod} (h : m.Good) : (Mod.endGuards m).Good := by
  unfold Mod.endGuards
  try dsimp only
  repeat' first
    | with_reducible assumption
    | intro _
    | with_reducible apply Mod.each_good
    | with_reducible apply Mod.setPort_good

theorem publishStart_good {m : Mod} (h : m.Good) (now : _) : (publishStart now m).Good := by
  unfold publishStart
  try dsimp only
  repeat' first
    | with_reducible assumption
    | intro _
    | (simp only [↓good_mk]; with_reducible apply Mod.Good.all)
    | with_reducible apply Mod.endGuards_good
    | with_reducible apply Mod.each_good
    | with_reducible apply Mod.publishEntry_good
    | with_reducible apply good_ite

theorem Mod.repeatSlot_good {m : Mod} (h : m.Good) (i : _) (now : _) : (Mod.repeatSlot m i now).Good := by
  unfold Mod.repeatSlot
  try dsimp only
  repeat' first
    | with_reducible assumption
    | intro _
    | with_reducible apply Mod.setPub_good
    | with_reducible apply Mod.dueFrame_good
    | with_reducible apply Mod.inject_good
    | with_reducible apply Mod.when_good
    | with_reducible apply Mod.bump_good
    | split

theorem Mod.repeatLogic_good {m : Mod} (h : m.Good) (u : _) (now : _) : (Mod.repeatLogic m u now).Good := by
  unfold Mod.repeatLogic
  try dsimp only
  repeat' first
    | with_reducible assumption
    | (simp only [↓good_mk]; with_reducible apply Mod.Good.all)
    | with_reducible apply Mod.injectLogic_good
    | split

theorem pubRetransmit_good {m : Mod} (h : m.Good) (i : _) (now : _) : (pubRetransmit i now m).Good := by
  unfold pubRetransmit
  try dsimp only
  repeat' first
    | with_reducible assumption
    | intro _
    | with_reducible apply Mod.repeatSlot_good
    | with_reducible apply Mod.repeatLogic_good
    | with_reducible apply good_ite

end Sys2Proof.Machine
end

