-- ==== Sys2Proof/Laws/GoodSdo.lean ====
section
/-!
SUPPORT. The operations and commands of Machine/Sdo.lean keep a module sound.
-/
set_option linter.unusedSimpArgs false

namespace Sys2Proof.Machine

theorem Mod.sdoReply_good {m : Mod} (h : m.Good) (at' : _) (r : _) : (Mod.sdoReply m at' r).Good := by
  unfold Mod.sdoReply
  try dsimp only
  repeat' first
    | with_reducible assumption
    | intro _
    | with_reducible apply Mod.emit_good

theorem Mod.sdoAbort_good {m : Mod} (h : m.Good) (at' : _) (obj : _) (code : _) : (Mod.sdoAbort m at' obj code).Good := by
  unfold Mod.sdoAbort
  try dsimp only
  repeat' first
    | with_reducible assumption
    | intro _
    | with_reducible apply Mod.commitVerdict_report_good
    | with_reducible apply pass_report_good
    | with_reducible apply Mod.report_good
    | with_reducible apply Mod.set_good
    | with_reducible apply Mod.sdoReply_good

theorem Mod.setSdo_good {m : Mod} (h : m.Good) (x : _) : (Mod.setSdo m x).Good := by
  unfold Mod.setSdo
  try dsimp only
  repeat' first
    | with_reducible assumption
    | intro _
    | (simp only [↓good_mk]; with_reducible apply Mod.Good.all)

theorem Mod.sdoFresh_good {m : Mod} (h : m.Good) : (Mod.sdoFresh m).Good := by
  unfold Mod.sdoFresh
  try dsimp only
  repeat' first
    | with_reducible assumption
    | intro _
    | with_reducible apply Mod.setSdo_good
    | with_reducible apply Mod.set_good
    | with_reducible apply Mod.raise_good
    | with_reducible apply good_ite
    | split

theorem Mod.sdoWrite_good {m : Mod} (h : m.Good) (env : _) (obj : _) (sel : _) (bs : _) (ok : _) : (Mod.sdoWrite m env obj sel bs ok).Good := by
  unfold Mod.sdoWrite
  try dsimp only
  repeat' first
    | with_reducible assumption
    | intro _
    | with_reducible apply Mod.setSdo_good
    | with_reducible apply Mod.writeObject_good
    | with_reducible apply Mod.sdoReply_good
    | with_reducible apply Mod.sdoAbort_good
    | with_reducible apply good_ite

theorem sdoInitiateDownload_good {m : Mod} (h : m.Good) (obj : _) (expedited : _) (size : _) (bytes : _) (env : _) : (sdoInitiateDownload obj expedited size bytes env m).Good := by
  unfold sdoInitiateDownload
  try dsimp only
  repeat' first
    | with_reducible assumption
    | intro _
    | with_reducible apply Mod.sdoFresh_good
    | with_reducible apply Mod.sdoWrite_good
    | with_reducible apply Mod.setSdo_good
    | with_reducible apply Mod.sdoReply_good
    | with_reducible apply good_ite

theorem sdoDownloadSegment_good {m : Mod} (h : m.Good) (toggle : _) (bytes : _) (last : _) (env : _) : (sdoDownloadSegment toggle bytes last env m).Good := by
  unfold sdoDownloadSegment
  try dsimp only
  repeat' first
    | with_reducible assumption
    | intro _
    | with_reducible apply Mod.sdoAbort_good
    | with_reducible apply Mod.setSdo_good
    | with_reducible apply Mod.sdoReply_good
    | with_reducible apply Mod.sdoWrite_good
    | with_reducible apply good_ite
    | split

theorem sdoInitiateUpload_good {m : Mod} (h : m.Good) (obj : _) (env : _) : (sdoInitiateUpload obj env m).Good := by
  unfold sdoInitiateUpload
  try dsimp only
  repeat' first
    | with_reducible assumption
    | intro _
    | with_reducible apply Mod.sdoFresh_good
    | with_reducible apply Mod.sdoAbort_good
    | with_reducible apply Mod.readTakes_good
    | with_reducible apply Mod.commitVerdict_report_good
    | with_reducible apply pass_report_good
    | with_reducible apply Mod.report_good
    | with_reducible apply Mod.sdoReply_good
    | with_reducible apply Mod.setSdo_good
    | with_reducible apply good_ite

theorem sdoUploadSegment_good {m : Mod} (h : m.Good) (toggle : _) : (sdoUploadSegment toggle m).Good := by
  unfold sdoUploadSegment
  try dsimp only
  repeat' first
    | with_reducible assumption
    | intro _
    | with_reducible apply Mod.sdoAbort_good
    | with_reducible apply Mod.setSdo_good
    | with_reducible apply Mod.sdoReply_good
    | with_reducible apply good_ite
    | split

theorem sdoAbortRx_good {m : Mod} (h : m.Good) (code : _) : (sdoAbortRx code m).Good := by
  unfold sdoAbortRx
  try dsimp only
  repeat' first
    | with_reducible assumption
    | intro _
    | with_reducible apply Mod.setSdo_good
    | with_reducible apply Mod.set_good
    | with_reducible apply good_ite

theorem sdoBlockRequest_good {m : Mod} (h : m.Good) (obj : _) : (sdoBlockRequest obj m).Good := by
  unfold sdoBlockRequest
  try dsimp only
  repeat' first
    | with_reducible assumption
    | intro _
    | with_reducible apply Mod.sdoAbort_good
    | with_reducible apply good_ite

theorem sdoTimeout_good {m : Mod} (h : m.Good) : (sdoTimeout m).Good := by
  unfold sdoTimeout
  try dsimp only
  repeat' first
    | with_reducible assumption
    | intro _
    | with_reducible apply Mod.setSdo_good
    | with_reducible apply Mod.sdoAbort_good
    | with_reducible apply good_ite
    | split

theorem Mod.nmtReset_good {m : Mod} (h : m.Good) (node : _) : (Mod.nmtReset m node).Good := by
  unfold Mod.nmtReset
  try dsimp only
  repeat' first
    | with_reducible assumption
    | intro _
    | with_reducible apply Mod.setStage_good
    | with_reducible apply Mod.sdoCut_good
    | with_reducible apply Mod.set_good
    | with_reducible apply good_ite

theorem nmtResetNode_good {m : Mod} (h : m.Good) (node : _) : (nmtResetNode node m).Good := by
  unfold nmtResetNode
  try dsimp only
  repeat' first
    | with_reducible assumption
    | intro _
    | with_reducible apply Mod.nmtReset_good

theorem nmtResetCommunication_good {m : Mod} (h : m.Good) (node : _) : (nmtResetCommunication node m).Good := by
  unfold nmtResetCommunication
  try dsimp only
  repeat' first
    | with_reducible assumption
    | intro _
    | with_reducible apply Mod.nmtReset_good

theorem nmtOtherCommand_good {m : Mod} (h : m.Good) (_cmd : _) (_node : _) : (nmtOtherCommand _cmd _node m).Good := by
  unfold nmtOtherCommand
  try dsimp only
  repeat' first
    | with_reducible assumption
    | (simp only [↓good_mk]; with_reducible apply Mod.Good.all)

end Sys2Proof.Machine
end

