-- ==== Sys2Proof/Laws/Received.lean ====
section
/-!
SUPPORT. What the receiver of a Welt link does with flits that come in order on a link that is up: one lemma for each of its three operations.
-/
namespace Sys2Proof.Machine

/-- A packet takes at least one flit. -/
theorem flitsOf_ne_zero (p : Packet) : flitsOf p ≠ 0 := by
  unfold flitsOf; split <;> omega

/-- Flits in order are accepted: what is left is `Mod.advanced`. -/
theorem accept_in_order {m : Mod} {h : FlitHdr} {n : Nat} (hn : n ≠ 0) (hu : m.lkUp h.l = true) (hs : h.seq = (m.link h.l).rxSeq) :
    m.accept h n = (m.advanced h n, true) := by
  simp [Mod.accept, hu, hs, hn, Mod.advanced]

/-- A link-local flit in order has its effect, and the link answers. -/
theorem takeLocal_hears {m : Mod} {h : FlitHdr} (f : Mod → Mod) (hu : m.Hears h) : m.takeLocal h f = (f (m.advanced h 1)).answered h.l := by
  simp [Mod.takeLocal, accept_in_order Nat.one_ne_zero hu.2.1 hu.2.2, Mod.answered]

/-- A packet in order is delivered where it is for this module, otherwise discarded with its credits due or forwarded; then the link answers. -/
theorem takePacket_takes {m : Mod} {h : FlitHdr} {p : Packet} (f : Mod → Mod × Bool) (hu : m.Takes h p) :
    m.takePacket h p f = ((if p.dst = (m.received h p).moduleId ∨ (p.dst = 255 ∧ p.ty = .xtrig) then
        (if (f (m.received h p)).2 then (f (m.received h p)).1.owe h.l p.vc (flitsOf p) else (f (m.received h p)).1)
      else if p.dst = 255 then ((m.received h p).bump 0x61300A).owe h.l p.vc (flitsOf p)
      else (m.received h p).forwardPacket p h.l)).answered h.l := by
  obtain ⟨_, a, b, c, d⟩ := hu
  simp only [Mod.takePacket, a, b, c, accept_in_order (flitsOf_ne_zero p) a d, Bool.not_true, if_false, Bool.false_eq_true]
  rfl

/-- A packet for this module that leaves the buffer as it is delivered. -/
theorem takeWhole_takes {m : Mod} {h : FlitHdr} {p : Packet} (f : Mod → Mod) (hu : m.Takes h p)
    (hd : p.dst = (m.received h p).moduleId ∨ (p.dst = 255 ∧ p.ty = .xtrig)) : m.takeWhole h p f = (f (m.received h p)).freed h p := by
  simp only [Mod.takeWhole, takePacket_takes _ hu, if_pos hd, if_true, Mod.freed]

end Sys2Proof.Machine
end

