-- ==== Sys2Proof/Laws/State.lean ====
section
/-!
SUPPORT. What the shared operations leave as it was, one lemma per field and operation, and what an object reads after it has been written.
-/
namespace Sys2Proof.Machine

/-! ## `Mod.setVal` changes `dict` alone -/

@[simp] theorem Mod.setVal_tick (m : Mod) (o : Nat) (v : Val) (i : Nat) : (m.setVal o v i).tick = m.tick := rfl
@[simp] theorem Mod.setVal_ingest (m : Mod) (o : Nat) (v : Val) (i : Nat) : (m.setVal o v i).ingest = m.ingest := rfl
@[simp] theorem Mod.setVal_filter (m : Mod) (o : Nat) (v : Val) (i : Nat) : (m.setVal o v i).filter = m.filter := rfl
@[simp] theorem Mod.setVal_phasor (m : Mod) (o : Nat) (v : Val) (i : Nat) : (m.setVal o v i).phasor = m.phasor := rfl
@[simp] theorem Mod.setVal_element (m : Mod) (o : Nat) (v : Val) (i : Nat) : (m.setVal o v i).element = m.element := rfl
@[simp] theorem Mod.setVal_logic (m : Mod) (o : Nat) (v : Val) (i : Nat) : (m.setVal o v i).logic = m.logic := rfl
@[simp] theorem Mod.setVal_ten (m : Mod) (o : Nat) (v : Val) (i : Nat) : (m.setVal o v i).ten = m.ten := rfl
@[simp] theorem Mod.setVal_triad (m : Mod) (o : Nat) (v : Val) (i : Nat) : (m.setVal o v i).triad = m.triad := rfl
@[simp] theorem Mod.setVal_welt (m : Mod) (o : Nat) (v : Val) (i : Nat) : (m.setVal o v i).welt = m.welt := rfl
@[simp] theorem Mod.setVal_sw (m : Mod) (o : Nat) (v : Val) (i : Nat) : (m.setVal o v i).sw = m.sw := rfl
@[simp] theorem Mod.setVal_time (m : Mod) (o : Nat) (v : Val) (i : Nat) : (m.setVal o v i).time = m.time := rfl
@[simp] theorem Mod.setVal_click (m : Mod) (o : Nat) (v : Val) (i : Nat) : (m.setVal o v i).click = m.click := rfl
@[simp] theorem Mod.setVal_can (m : Mod) (o : Nat) (v : Val) (i : Nat) : (m.setVal o v i).can = m.can := rfl
@[simp] theorem Mod.setVal_recorder (m : Mod) (o : Nat) (v : Val) (i : Nat) : (m.setVal o v i).recorder = m.recorder := rfl
@[simp] theorem Mod.setVal_power (m : Mod) (o : Nat) (v : Val) (i : Nat) : (m.setVal o v i).power = m.power := rfl
@[simp] theorem Mod.setVal_mem (m : Mod) (o : Nat) (v : Val) (i : Nat) : (m.setVal o v i).mem = m.mem := rfl
@[simp] theorem Mod.setVal_dic (m : Mod) (o : Nat) (v : Val) (i : Nat) : (m.setVal o v i).dic = m.dic := rfl
@[simp] theorem Mod.setVal_keys (m : Mod) (o : Nat) (v : Val) (i : Nat) : (m.setVal o v i).keys = m.keys := rfl
@[simp] theorem Mod.setVal_nv (m : Mod) (o : Nat) (v : Val) (i : Nat) : (m.setVal o v i).nv = m.nv := rfl
@[simp] theorem Mod.setVal_bits (m : Mod) (o : Nat) (v : Val) (i : Nat) : (m.setVal o v i).bits = m.bits := rfl
@[simp] theorem Mod.setVal_raised (m : Mod) (o : Nat) (v : Val) (i : Nat) : (m.setVal o v i).raised = m.raised := rfl
@[simp] theorem Mod.setVal_out (m : Mod) (o : Nat) (v : Val) (i : Nat) : (m.setVal o v i).out = m.out := rfl
@[simp] theorem Mod.setVal_freeCount (m : Mod) (o : Nat) (v : Val) (i : Nat) : (m.setVal o v i).freeCount = m.freeCount := rfl

/-! ## `Mod.set` changes `dict` alone -/

@[simp] theorem Mod.set_tick (m : Mod) (o n : Nat) (i : Nat) : (m.set o n i).tick = m.tick := rfl
@[simp] theorem Mod.set_ingest (m : Mod) (o n : Nat) (i : Nat) : (m.set o n i).ingest = m.ingest := rfl
@[simp] theorem Mod.set_filter (m : Mod) (o n : Nat) (i : Nat) : (m.set o n i).filter = m.filter := rfl
@[simp] theorem Mod.set_phasor (m : Mod) (o n : Nat) (i : Nat) : (m.set o n i).phasor = m.phasor := rfl
@[simp] theorem Mod.set_element (m : Mod) (o n : Nat) (i : Nat) : (m.set o n i).element = m.element := rfl
@[simp] theorem Mod.set_logic (m : Mod) (o n : Nat) (i : Nat) : (m.set o n i).logic = m.logic := rfl
@[simp] theorem Mod.set_ten (m : Mod) (o n : Nat) (i : Nat) : (m.set o n i).ten = m.ten := rfl
@[simp] theorem Mod.set_triad (m : Mod) (o n : Nat) (i : Nat) : (m.set o n i).triad = m.triad := rfl
@[simp] theorem Mod.set_welt (m : Mod) (o n : Nat) (i : Nat) : (m.set o n i).welt = m.welt := rfl
@[simp] theorem Mod.set_sw (m : Mod) (o n : Nat) (i : Nat) : (m.set o n i).sw = m.sw := rfl
@[simp] theorem Mod.set_time (m : Mod) (o n : Nat) (i : Nat) : (m.set o n i).time = m.time := rfl
@[simp] theorem Mod.set_click (m : Mod) (o n : Nat) (i : Nat) : (m.set o n i).click = m.click := rfl
@[simp] theorem Mod.set_can (m : Mod) (o n : Nat) (i : Nat) : (m.set o n i).can = m.can := rfl
@[simp] theorem Mod.set_recorder (m : Mod) (o n : Nat) (i : Nat) : (m.set o n i).recorder = m.recorder := rfl
@[simp] theorem Mod.set_power (m : Mod) (o n : Nat) (i : Nat) : (m.set o n i).power = m.power := rfl
@[simp] theorem Mod.set_mem (m : Mod) (o n : Nat) (i : Nat) : (m.set o n i).mem = m.mem := rfl
@[simp] theorem Mod.set_dic (m : Mod) (o n : Nat) (i : Nat) : (m.set o n i).dic = m.dic := rfl
@[simp] theorem Mod.set_keys (m : Mod) (o n : Nat) (i : Nat) : (m.set o n i).keys = m.keys := rfl
@[simp] theorem Mod.set_nv (m : Mod) (o n : Nat) (i : Nat) : (m.set o n i).nv = m.nv := rfl
@[simp] theorem Mod.set_bits (m : Mod) (o n : Nat) (i : Nat) : (m.set o n i).bits = m.bits := rfl
@[simp] theorem Mod.set_raised (m : Mod) (o n : Nat) (i : Nat) : (m.set o n i).raised = m.raised := rfl
@[simp] theorem Mod.set_out (m : Mod) (o n : Nat) (i : Nat) : (m.set o n i).out = m.out := rfl
@[simp] theorem Mod.set_freeCount (m : Mod) (o n : Nat) (i : Nat) : (m.set o n i).freeCount = m.freeCount := rfl

/-! ## `Mod.setOct` changes `dict` alone -/

@[simp] theorem Mod.setOct_tick (m : Mod) (o : Nat) (b : List Byte) (i : Nat) : (m.setOct o b i).tick = m.tick := rfl
@[simp] theorem Mod.setOct_ingest (m : Mod) (o : Nat) (b : List Byte) (i : Nat) : (m.setOct o b i).ingest = m.ingest := rfl
@[simp] theorem Mod.setOct_filter (m : Mod) (o : Nat) (b : List Byte) (i : Nat) : (m.setOct o b i).filter = m.filter := rfl
@[simp] theorem Mod.setOct_phasor (m : Mod) (o : Nat) (b : List Byte) (i : Nat) : (m.setOct o b i).phasor = m.phasor := rfl
@[simp] theorem Mod.setOct_element (m : Mod) (o : Nat) (b : List Byte) (i : Nat) : (m.setOct o b i).element = m.element := rfl
@[simp] theorem Mod.setOct_logic (m : Mod) (o : Nat) (b : List Byte) (i : Nat) : (m.setOct o b i).logic = m.logic := rfl
@[simp] theorem Mod.setOct_ten (m : Mod) (o : Nat) (b : List Byte) (i : Nat) : (m.setOct o b i).ten = m.ten := rfl
@[simp] theorem Mod.setOct_triad (m : Mod) (o : Nat) (b : List Byte) (i : Nat) : (m.setOct o b i).triad = m.triad := rfl
@[simp] theorem Mod.setOct_welt (m : Mod) (o : Nat) (b : List Byte) (i : Nat) : (m.setOct o b i).welt = m.welt := rfl
@[simp] theorem Mod.setOct_sw (m : Mod) (o : Nat) (b : List Byte) (i : Nat) : (m.setOct o b i).sw = m.sw := rfl
@[simp] theorem Mod.setOct_time (m : Mod) (o : Nat) (b : List Byte) (i : Nat) : (m.setOct o b i).time = m.time := rfl
@[simp] theorem Mod.setOct_click (m : Mod) (o : Nat) (b : List Byte) (i : Nat) : (m.setOct o b i).click = m.click := rfl
@[simp] theorem Mod.setOct_can (m : Mod) (o : Nat) (b : List Byte) (i : Nat) : (m.setOct o b i).can = m.can := rfl
@[simp] theorem Mod.setOct_recorder (m : Mod) (o : Nat) (b : List Byte) (i : Nat) : (m.setOct o b i).recorder = m.recorder := rfl
@[simp] theorem Mod.setOct_power (m : Mod) (o : Nat) (b : List Byte) (i : Nat) : (m.setOct o b i).power = m.power := rfl
@[simp] theorem Mod.setOct_mem (m : Mod) (o : Nat) (b : List Byte) (i : Nat) : (m.setOct o b i).mem = m.mem := rfl
@[simp] theorem Mod.setOct_dic (m : Mod) (o : Nat) (b : List Byte) (i : Nat) : (m.setOct o b i).dic = m.dic := rfl
@[simp] theorem Mod.setOct_keys (m : Mod) (o : Nat) (b : List Byte) (i : Nat) : (m.setOct o b i).keys = m.keys := rfl
@[simp] theorem Mod.setOct_nv (m : Mod) (o : Nat) (b : List Byte) (i : Nat) : (m.setOct o b i).nv = m.nv := rfl
@[simp] theorem Mod.setOct_bits (m : Mod) (o : Nat) (b : List Byte) (i : Nat) : (m.setOct o b i).bits = m.bits := rfl
@[simp] theorem Mod.setOct_raised (m : Mod) (o : Nat) (b : List Byte) (i : Nat) : (m.setOct o b i).raised = m.raised := rfl
@[simp] theorem Mod.setOct_out (m : Mod) (o : Nat) (b : List Byte) (i : Nat) : (m.setOct o b i).out = m.out := rfl
@[simp] theorem Mod.setOct_freeCount (m : Mod) (o : Nat) (b : List Byte) (i : Nat) : (m.setOct o b i).freeCount = m.freeCount := rfl

/-! ## `Mod.bump` changes `dict` alone -/

@[simp] theorem Mod.bump_tick (m : Mod) (o i n : Nat) : (m.bump o i n).tick = m.tick := rfl
@[simp] theorem Mod.bump_ingest (m : Mod) (o i n : Nat) : (m.bump o i n).ingest = m.ingest := rfl
@[simp] theorem Mod.bump_filter (m : Mod) (o i n : Nat) : (m.bump o i n).filter = m.filter := rfl
@[simp] theorem Mod.bump_phasor (m : Mod) (o i n : Nat) : (m.bump o i n).phasor = m.phasor := rfl
@[simp] theorem Mod.bump_element (m : Mod) (o i n : Nat) : (m.bump o i n).element = m.element := rfl
@[simp] theorem Mod.bump_logic (m : Mod) (o i n : Nat) : (m.bump o i n).logic = m.logic := rfl
@[simp] theorem Mod.bump_ten (m : Mod) (o i n : Nat) : (m.bump o i n).ten = m.ten := rfl
@[simp] theorem Mod.bump_triad (m : Mod) (o i n : Nat) : (m.bump o i n).triad = m.triad := rfl
@[simp] theorem Mod.bump_welt (m : Mod) (o i n : Nat) : (m.bump o i n).welt = m.welt := rfl
@[simp] theorem Mod.bump_sw (m : Mod) (o i n : Nat) : (m.bump o i n).sw = m.sw := rfl
@[simp] theorem Mod.bump_time (m : Mod) (o i n : Nat) : (m.bump o i n).time = m.time := rfl
@[simp] theorem Mod.bump_click (m : Mod) (o i n : Nat) : (m.bump o i n).click = m.click := rfl
@[simp] theorem Mod.bump_can (m : Mod) (o i n : Nat) : (m.bump o i n).can = m.can := rfl
@[simp] theorem Mod.bump_recorder (m : Mod) (o i n : Nat) : (m.bump o i n).recorder = m.recorder := rfl
@[simp] theorem Mod.bump_power (m : Mod) (o i n : Nat) : (m.bump o i n).power = m.power := rfl
@[simp] theorem Mod.bump_mem (m : Mod) (o i n : Nat) : (m.bump o i n).mem = m.mem := rfl
@[simp] theorem Mod.bump_dic (m : Mod) (o i n : Nat) : (m.bump o i n).dic = m.dic := rfl
@[simp] theorem Mod.bump_keys (m : Mod) (o i n : Nat) : (m.bump o i n).keys = m.keys := rfl
@[simp] theorem Mod.bump_nv (m : Mod) (o i n : Nat) : (m.bump o i n).nv = m.nv := rfl
@[simp] theorem Mod.bump_bits (m : Mod) (o i n : Nat) : (m.bump o i n).bits = m.bits := rfl
@[simp] theorem Mod.bump_raised (m : Mod) (o i n : Nat) : (m.bump o i n).raised = m.raised := rfl
@[simp] theorem Mod.bump_out (m : Mod) (o i n : Nat) : (m.bump o i n).out = m.out := rfl
@[simp] theorem Mod.bump_freeCount (m : Mod) (o i n : Nat) : (m.bump o i n).freeCount = m.freeCount := rfl

/-! ## `Mod.raiseTo` changes `dict` alone -/

@[simp] theorem Mod.raiseTo_tick (m : Mod) (o n i : Nat) : (m.raiseTo o n i).tick = m.tick := rfl
@[simp] theorem Mod.raiseTo_ingest (m : Mod) (o n i : Nat) : (m.raiseTo o n i).ingest = m.ingest := rfl
@[simp] theorem Mod.raiseTo_filter (m : Mod) (o n i : Nat) : (m.raiseTo o n i).filter = m.filter := rfl
@[simp] theorem Mod.raiseTo_phasor (m : Mod) (o n i : Nat) : (m.raiseTo o n i).phasor = m.phasor := rfl
@[simp] theorem Mod.raiseTo_element (m : Mod) (o n i : Nat) : (m.raiseTo o n i).element = m.element := rfl
@[simp] theorem Mod.raiseTo_logic (m : Mod) (o n i : Nat) : (m.raiseTo o n i).logic = m.logic := rfl
@[simp] theorem Mod.raiseTo_ten (m : Mod) (o n i : Nat) : (m.raiseTo o n i).ten = m.ten := rfl
@[simp] theorem Mod.raiseTo_triad (m : Mod) (o n i : Nat) : (m.raiseTo o n i).triad = m.triad := rfl
@[simp] theorem Mod.raiseTo_welt (m : Mod) (o n i : Nat) : (m.raiseTo o n i).welt = m.welt := rfl
@[simp] theorem Mod.raiseTo_sw (m : Mod) (o n i : Nat) : (m.raiseTo o n i).sw = m.sw := rfl
@[simp] theorem Mod.raiseTo_time (m : Mod) (o n i : Nat) : (m.raiseTo o n i).time = m.time := rfl
@[simp] theorem Mod.raiseTo_click (m : Mod) (o n i : Nat) : (m.raiseTo o n i).click = m.click := rfl
@[simp] theorem Mod.raiseTo_can (m : Mod) (o n i : Nat) : (m.raiseTo o n i).can = m.can := rfl
@[simp] theorem Mod.raiseTo_recorder (m : Mod) (o n i : Nat) : (m.raiseTo o n i).recorder = m.recorder := rfl
@[simp] theorem Mod.raiseTo_power (m : Mod) (o n i : Nat) : (m.raiseTo o n i).power = m.power := rfl
@[simp] theorem Mod.raiseTo_mem (m : Mod) (o n i : Nat) : (m.raiseTo o n i).mem = m.mem := rfl
@[simp] theorem Mod.raiseTo_dic (m : Mod) (o n i : Nat) : (m.raiseTo o n i).dic = m.dic := rfl
@[simp] theorem Mod.raiseTo_keys (m : Mod) (o n i : Nat) : (m.raiseTo o n i).keys = m.keys := rfl
@[simp] theorem Mod.raiseTo_nv (m : Mod) (o n i : Nat) : (m.raiseTo o n i).nv = m.nv := rfl
@[simp] theorem Mod.raiseTo_bits (m : Mod) (o n i : Nat) : (m.raiseTo o n i).bits = m.bits := rfl
@[simp] theorem Mod.raiseTo_raised (m : Mod) (o n i : Nat) : (m.raiseTo o n i).raised = m.raised := rfl
@[simp] theorem Mod.raiseTo_out (m : Mod) (o n i : Nat) : (m.raiseTo o n i).out = m.out := rfl
@[simp] theorem Mod.raiseTo_freeCount (m : Mod) (o n i : Nat) : (m.raiseTo o n i).freeCount = m.freeCount := rfl

/-! ## `Mod.clearSubs` changes `dict` alone -/

@[simp] theorem Mod.clearSubs_tick (m : Mod) (a b c i : Nat) : (m.clearSubs a b c i).tick = m.tick := rfl
@[simp] theorem Mod.clearSubs_ingest (m : Mod) (a b c i : Nat) : (m.clearSubs a b c i).ingest = m.ingest := rfl
@[simp] theorem Mod.clearSubs_filter (m : Mod) (a b c i : Nat) : (m.clearSubs a b c i).filter = m.filter := rfl
@[simp] theorem Mod.clearSubs_phasor (m : Mod) (a b c i : Nat) : (m.clearSubs a b c i).phasor = m.phasor := rfl
@[simp] theorem Mod.clearSubs_element (m : Mod) (a b c i : Nat) : (m.clearSubs a b c i).element = m.element := rfl
@[simp] theorem Mod.clearSubs_logic (m : Mod) (a b c i : Nat) : (m.clearSubs a b c i).logic = m.logic := rfl
@[simp] theorem Mod.clearSubs_ten (m : Mod) (a b c i : Nat) : (m.clearSubs a b c i).ten = m.ten := rfl
@[simp] theorem Mod.clearSubs_triad (m : Mod) (a b c i : Nat) : (m.clearSubs a b c i).triad = m.triad := rfl
@[simp] theorem Mod.clearSubs_welt (m : Mod) (a b c i : Nat) : (m.clearSubs a b c i).welt = m.welt := rfl
@[simp] theorem Mod.clearSubs_sw (m : Mod) (a b c i : Nat) : (m.clearSubs a b c i).sw = m.sw := rfl
@[simp] theorem Mod.clearSubs_time (m : Mod) (a b c i : Nat) : (m.clearSubs a b c i).time = m.time := rfl
@[simp] theorem Mod.clearSubs_click (m : Mod) (a b c i : Nat) : (m.clearSubs a b c i).click = m.click := rfl
@[simp] theorem Mod.clearSubs_can (m : Mod) (a b c i : Nat) : (m.clearSubs a b c i).can = m.can := rfl
@[simp] theorem Mod.clearSubs_recorder (m : Mod) (a b c i : Nat) : (m.clearSubs a b c i).recorder = m.recorder := rfl
@[simp] theorem Mod.clearSubs_power (m : Mod) (a b c i : Nat) : (m.clearSubs a b c i).power = m.power := rfl
@[simp] theorem Mod.clearSubs_mem (m : Mod) (a b c i : Nat) : (m.clearSubs a b c i).mem = m.mem := rfl
@[simp] theorem Mod.clearSubs_dic (m : Mod) (a b c i : Nat) : (m.clearSubs a b c i).dic = m.dic := rfl
@[simp] theorem Mod.clearSubs_keys (m : Mod) (a b c i : Nat) : (m.clearSubs a b c i).keys = m.keys := rfl
@[simp] theorem Mod.clearSubs_nv (m : Mod) (a b c i : Nat) : (m.clearSubs a b c i).nv = m.nv := rfl
@[simp] theorem Mod.clearSubs_bits (m : Mod) (a b c i : Nat) : (m.clearSubs a b c i).bits = m.bits := rfl
@[simp] theorem Mod.clearSubs_raised (m : Mod) (a b c i : Nat) : (m.clearSubs a b c i).raised = m.raised := rfl
@[simp] theorem Mod.clearSubs_out (m : Mod) (a b c i : Nat) : (m.clearSubs a b c i).out = m.out := rfl
@[simp] theorem Mod.clearSubs_freeCount (m : Mod) (a b c i : Nat) : (m.clearSubs a b c i).freeCount = m.freeCount := rfl

/-! ## `Mod.raise` changes `raised` alone -/

@[simp] theorem Mod.raise_dict (m : Mod) (c : Nat) (p : List Nat) : (m.raise c p).dict = m.dict := rfl
@[simp] theorem Mod.raise_tick (m : Mod) (c : Nat) (p : List Nat) : (m.raise c p).tick = m.tick := rfl
@[simp] theorem Mod.raise_ingest (m : Mod) (c : Nat) (p : List Nat) : (m.raise c p).ingest = m.ingest := rfl
@[simp] theorem Mod.raise_filter (m : Mod) (c : Nat) (p : List Nat) : (m.raise c p).filter = m.filter := rfl
@[simp] theorem Mod.raise_phasor (m : Mod) (c : Nat) (p : List Nat) : (m.raise c p).phasor = m.phasor := rfl
@[simp] theorem Mod.raise_element (m : Mod) (c : Nat) (p : List Nat) : (m.raise c p).element = m.element := rfl
@[simp] theorem Mod.raise_logic (m : Mod) (c : Nat) (p : List Nat) : (m.raise c p).logic = m.logic := rfl
@[simp] theorem Mod.raise_ten (m : Mod) (c : Nat) (p : List Nat) : (m.raise c p).ten = m.ten := rfl
@[simp] theorem Mod.raise_triad (m : Mod) (c : Nat) (p : List Nat) : (m.raise c p).triad = m.triad := rfl
@[simp] theorem Mod.raise_welt (m : Mod) (c : Nat) (p : List Nat) : (m.raise c p).welt = m.welt := rfl
@[simp] theorem Mod.raise_sw (m : Mod) (c : Nat) (p : List Nat) : (m.raise c p).sw = m.sw := rfl
@[simp] theorem Mod.raise_time (m : Mod) (c : Nat) (p : List Nat) : (m.raise c p).time = m.time := rfl
@[simp] theorem Mod.raise_click (m : Mod) (c : Nat) (p : List Nat) : (m.raise c p).click = m.click := rfl
@[simp] theorem Mod.raise_can (m : Mod) (c : Nat) (p : List Nat) : (m.raise c p).can = m.can := rfl
@[simp] theorem Mod.raise_recorder (m : Mod) (c : Nat) (p : List Nat) : (m.raise c p).recorder = m.recorder := rfl
@[simp] theorem Mod.raise_power (m : Mod) (c : Nat) (p : List Nat) : (m.raise c p).power = m.power := rfl
@[simp] theorem Mod.raise_mem (m : Mod) (c : Nat) (p : List Nat) : (m.raise c p).mem = m.mem := rfl
@[simp] theorem Mod.raise_dic (m : Mod) (c : Nat) (p : List Nat) : (m.raise c p).dic = m.dic := rfl
@[simp] theorem Mod.raise_keys (m : Mod) (c : Nat) (p : List Nat) : (m.raise c p).keys = m.keys := rfl
@[simp] theorem Mod.raise_nv (m : Mod) (c : Nat) (p : List Nat) : (m.raise c p).nv = m.nv := rfl
@[simp] theorem Mod.raise_bits (m : Mod) (c : Nat) (p : List Nat) : (m.raise c p).bits = m.bits := rfl
@[simp] theorem Mod.raise_out (m : Mod) (c : Nat) (p : List Nat) : (m.raise c p).out = m.out := rfl
@[simp] theorem Mod.raise_freeCount (m : Mod) (c : Nat) (p : List Nat) : (m.raise c p).freeCount = m.freeCount := rfl

/-! ## `Mod.emit` changes `out` alone -/

@[simp] theorem Mod.emit_dict (m : Mod) (x : Out) : (m.emit x).dict = m.dict := rfl
@[simp] theorem Mod.emit_tick (m : Mod) (x : Out) : (m.emit x).tick = m.tick := rfl
@[simp] theorem Mod.emit_ingest (m : Mod) (x : Out) : (m.emit x).ingest = m.ingest := rfl
@[simp] theorem Mod.emit_filter (m : Mod) (x : Out) : (m.emit x).filter = m.filter := rfl
@[simp] theorem Mod.emit_phasor (m : Mod) (x : Out) : (m.emit x).phasor = m.phasor := rfl
@[simp] theorem Mod.emit_element (m : Mod) (x : Out) : (m.emit x).element = m.element := rfl
@[simp] theorem Mod.emit_logic (m : Mod) (x : Out) : (m.emit x).logic = m.logic := rfl
@[simp] theorem Mod.emit_ten (m : Mod) (x : Out) : (m.emit x).ten = m.ten := rfl
@[simp] theorem Mod.emit_triad (m : Mod) (x : Out) : (m.emit x).triad = m.triad := rfl
@[simp] theorem Mod.emit_welt (m : Mod) (x : Out) : (m.emit x).welt = m.welt := rfl
@[simp] theorem Mod.emit_sw (m : Mod) (x : Out) : (m.emit x).sw = m.sw := rfl
@[simp] theorem Mod.emit_time (m : Mod) (x : Out) : (m.emit x).time = m.time := rfl
@[simp] theorem Mod.emit_click (m : Mod) (x : Out) : (m.emit x).click = m.click := rfl
@[simp] theorem Mod.emit_can (m : Mod) (x : Out) : (m.emit x).can = m.can := rfl
@[simp] theorem Mod.emit_recorder (m : Mod) (x : Out) : (m.emit x).recorder = m.recorder := rfl
@[simp] theorem Mod.emit_power (m : Mod) (x : Out) : (m.emit x).power = m.power := rfl
@[simp] theorem Mod.emit_mem (m : Mod) (x : Out) : (m.emit x).mem = m.mem := rfl
@[simp] theorem Mod.emit_dic (m : Mod) (x : Out) : (m.emit x).dic = m.dic := rfl
@[simp] theorem Mod.emit_keys (m : Mod) (x : Out) : (m.emit x).keys = m.keys := rfl
@[simp] theorem Mod.emit_nv (m : Mod) (x : Out) : (m.emit x).nv = m.nv := rfl
@[simp] theorem Mod.emit_bits (m : Mod) (x : Out) : (m.emit x).bits = m.bits := rfl
@[simp] theorem Mod.emit_raised (m : Mod) (x : Out) : (m.emit x).raised = m.raised := rfl
@[simp] theorem Mod.emit_freeCount (m : Mod) (x : Out) : (m.emit x).freeCount = m.freeCount := rfl

/-! ## `Mod.report` changes `dic` alone -/

@[simp] theorem Mod.report_dict (m : Mod) (p : Path) (c : Nat) : (m.report p c).dict = m.dict := rfl
@[simp] theorem Mod.report_tick (m : Mod) (p : Path) (c : Nat) : (m.report p c).tick = m.tick := rfl
@[simp] theorem Mod.report_ingest (m : Mod) (p : Path) (c : Nat) : (m.report p c).ingest = m.ingest := rfl
@[simp] theorem Mod.report_filter (m : Mod) (p : Path) (c : Nat) : (m.report p c).filter = m.filter := rfl
@[simp] theorem Mod.report_phasor (m : Mod) (p : Path) (c : Nat) : (m.report p c).phasor = m.phasor := rfl
@[simp] theorem Mod.report_element (m : Mod) (p : Path) (c : Nat) : (m.report p c).element = m.element := rfl
@[simp] theorem Mod.report_logic (m : Mod) (p : Path) (c : Nat) : (m.report p c).logic = m.logic := rfl
@[simp] theorem Mod.report_ten (m : Mod) (p : Path) (c : Nat) : (m.report p c).ten = m.ten := rfl
@[simp] theorem Mod.report_triad (m : Mod) (p : Path) (c : Nat) : (m.report p c).triad = m.triad := rfl
@[simp] theorem Mod.report_welt (m : Mod) (p : Path) (c : Nat) : (m.report p c).welt = m.welt := rfl
@[simp] theorem Mod.report_sw (m : Mod) (p : Path) (c : Nat) : (m.report p c).sw = m.sw := rfl
@[simp] theorem Mod.report_time (m : Mod) (p : Path) (c : Nat) : (m.report p c).time = m.time := rfl
@[simp] theorem Mod.report_click (m : Mod) (p : Path) (c : Nat) : (m.report p c).click = m.click := rfl
@[simp] theorem Mod.report_can (m : Mod) (p : Path) (c : Nat) : (m.report p c).can = m.can := rfl
@[simp] theorem Mod.report_recorder (m : Mod) (p : Path) (c : Nat) : (m.report p c).recorder = m.recorder := rfl
@[simp] theorem Mod.report_power (m : Mod) (p : Path) (c : Nat) : (m.report p c).power = m.power := rfl
@[simp] theorem Mod.report_mem (m : Mod) (p : Path) (c : Nat) : (m.report p c).mem = m.mem := rfl
@[simp] theorem Mod.report_keys (m : Mod) (p : Path) (c : Nat) : (m.report p c).keys = m.keys := rfl
@[simp] theorem Mod.report_nv (m : Mod) (p : Path) (c : Nat) : (m.report p c).nv = m.nv := rfl
@[simp] theorem Mod.report_bits (m : Mod) (p : Path) (c : Nat) : (m.report p c).bits = m.bits := rfl
@[simp] theorem Mod.report_raised (m : Mod) (p : Path) (c : Nat) : (m.report p c).raised = m.raised := rfl
@[simp] theorem Mod.report_out (m : Mod) (p : Path) (c : Nat) : (m.report p c).out = m.out := rfl
@[simp] theorem Mod.report_freeCount (m : Mod) (p : Path) (c : Nat) : (m.report p c).freeCount = m.freeCount := rfl

/-! ## `Mod.setStage` changes `dic` alone -/

@[simp] theorem Mod.setStage_dict (m : Mod) (p : Path) (st : List StageEntry) : (m.setStage p st).dict = m.dict := rfl
@[simp] theorem Mod.setStage_tick (m : Mod) (p : Path) (st : List StageEntry) : (m.setStage p st).tick = m.tick := rfl
@[simp] theorem Mod.setStage_ingest (m : Mod) (p : Path) (st : List StageEntry) : (m.setStage p st).ingest = m.ingest := rfl
@[simp] theorem Mod.setStage_filter (m : Mod) (p : Path) (st : List StageEntry) : (m.setStage p st).filter = m.filter := rfl
@[simp] theorem Mod.setStage_phasor (m : Mod) (p : Path) (st : List StageEntry) : (m.setStage p st).phasor = m.phasor := rfl
@[simp] theorem Mod.setStage_element (m : Mod) (p : Path) (st : List StageEntry) : (m.setStage p st).element = m.element := rfl
@[simp] theorem Mod.setStage_logic (m : Mod) (p : Path) (st : List StageEntry) : (m.setStage p st).logic = m.logic := rfl
@[simp] theorem Mod.setStage_ten (m : Mod) (p : Path) (st : List StageEntry) : (m.setStage p st).ten = m.ten := rfl
@[simp] theorem Mod.setStage_triad (m : Mod) (p : Path) (st : List StageEntry) : (m.setStage p st).triad = m.triad := rfl
@[simp] theorem Mod.setStage_welt (m : Mod) (p : Path) (st : List StageEntry) : (m.setStage p st).welt = m.welt := rfl
@[simp] theorem Mod.setStage_sw (m : Mod) (p : Path) (st : List StageEntry) : (m.setStage p st).sw = m.sw := rfl
@[simp] theorem Mod.setStage_time (m : Mod) (p : Path) (st : List StageEntry) : (m.setStage p st).time = m.time := rfl
@[simp] theorem Mod.setStage_click (m : Mod) (p : Path) (st : List StageEntry) : (m.setStage p st).click = m.click := rfl
@[simp] theorem Mod.setStage_can (m : Mod) (p : Path) (st : List StageEntry) : (m.setStage p st).can = m.can := rfl
@[simp] theorem Mod.setStage_recorder (m : Mod) (p : Path) (st : List StageEntry) : (m.setStage p st).recorder = m.recorder := rfl
@[simp] theorem Mod.setStage_power (m : Mod) (p : Path) (st : List StageEntry) : (m.setStage p st).power = m.power := rfl
@[simp] theorem Mod.setStage_mem (m : Mod) (p : Path) (st : List StageEntry) : (m.setStage p st).mem = m.mem := rfl
@[simp] theorem Mod.setStage_keys (m : Mod) (p : Path) (st : List StageEntry) : (m.setStage p st).keys = m.keys := rfl
@[simp] theorem Mod.setStage_nv (m : Mod) (p : Path) (st : List StageEntry) : (m.setStage p st).nv = m.nv := rfl
@[simp] theorem Mod.setStage_bits (m : Mod) (p : Path) (st : List StageEntry) : (m.setStage p st).bits = m.bits := rfl
@[simp] theorem Mod.setStage_raised (m : Mod) (p : Path) (st : List StageEntry) : (m.setStage p st).raised = m.raised := rfl
@[simp] theorem Mod.setStage_out (m : Mod) (p : Path) (st : List StageEntry) : (m.setStage p st).out = m.out := rfl
@[simp] theorem Mod.setStage_freeCount (m : Mod) (p : Path) (st : List StageEntry) : (m.setStage p st).freeCount = m.freeCount := rfl

/-! ## What is written and read -/

@[simp] theorem Mod.raise_raised (m : Mod) (c : Nat) (p : List Nat) : (m.raise c p).raised = m.raised ++ [{ code := c, payload := p }] := rfl
@[simp] theorem Mod.emit_out (m : Mod) (x : Out) : (m.emit x).out = m.out ++ [x] := rfl

@[simp] theorem Mod.raise_num (m : Mod) (c : Nat) (p : List Nat) (o i : Nat) : (m.raise c p).num o i = m.num o i := rfl
@[simp] theorem Mod.emit_num (m : Mod) (x : Out) (o i : Nat) : (m.emit x).num o i = m.num o i := rfl
@[simp] theorem Mod.report_num (m : Mod) (p : Path) (c o i : Nat) : (m.report p c).num o i = m.num o i := rfl
@[simp] theorem Mod.setStage_num (m : Mod) (p : Path) (st : List StageEntry) (o i : Nat) : (m.setStage p st).num o i = m.num o i := rfl
@[simp] theorem Mod.raise_oct (m : Mod) (c : Nat) (p : List Nat) (o i : Nat) : (m.raise c p).oct o i = m.oct o i := rfl
@[simp] theorem Mod.emit_oct (m : Mod) (x : Out) (o i : Nat) : (m.emit x).oct o i = m.oct o i := rfl
@[simp] theorem Mod.report_oct (m : Mod) (p : Path) (c o i : Nat) : (m.report p c).oct o i = m.oct o i := rfl

/-- Places of the store differ where the objects or the instances do, an instance being below 65,536. -/
theorem objKey_ne {o i p j : Nat} (hi : i < 65536) (hj : j < 65536) (h : o ≠ p ∨ i ≠ j) : objKey o i ≠ objKey p j := by
  unfold objKey
  omega

/-- An object reads what was written to it. -/
theorem Mod.val_setVal {m : Mod} (h : dictWf m.dict = true) (o : Nat) (v : Val) (i : Nat) : (m.setVal o v i).val o i = v :=
  find?_putVal (objKey o i) v h

/-- A write leaves every other place of the store as it was. -/
theorem Mod.val_setVal_ne {m : Mod} (h : dictWf m.dict = true) {o i p j : Nat} (v : Val) (hk : objKey p j ≠ objKey o i) :
    (m.setVal o v i).val p j = m.val p j := by
  simp only [Mod.val, Mod.setVal, find?_putVal_ne v hk h]

/-- An object holds the number that was written to it. -/
theorem Mod.num_set {m : Mod} (h : dictWf m.dict = true) (o n i : Nat) : (m.set o n i).num o i = n := by
  simp only [Mod.num, Mod.set, Mod.val_setVal h]

/-- A number written leaves every other object's number as it was. -/
theorem Mod.num_set_ne {m : Mod} (h : dictWf m.dict = true) {o i p j : Nat} (n : Nat) (hk : objKey p j ≠ objKey o i) :
    (m.set o n i).num p j = m.num p j := by
  simp only [Mod.num, Mod.set, Mod.val_setVal_ne h _ hk]

/-- A number written leaves every other object's octets as they were. -/
theorem Mod.oct_set_ne {m : Mod} (h : dictWf m.dict = true) {o i p j : Nat} (n : Nat) (hk : objKey p j ≠ objKey o i) :
    (m.set o n i).oct p j = m.oct p j := by
  simp only [Mod.oct, Mod.set, Mod.val_setVal_ne h _ hk]

/-- Octets written leave every other object's number as it was. -/
theorem Mod.num_setOct_ne {m : Mod} (h : dictWf m.dict = true) {o i p j : Nat} (b : List Byte) (hk : objKey p j ≠ objKey o i) :
    (m.setOct o b i).num p j = m.num p j := by
  simp only [Mod.num, Mod.setOct, Mod.val_setVal_ne h _ hk]

/-- An object holds the octets that were written to it. -/
theorem Mod.oct_setOct {m : Mod} (h : dictWf m.dict = true) (o : Nat) (b : List Byte) (i : Nat) : (m.setOct o b i).oct o i = b := by
  simp only [Mod.oct, Mod.setOct, Mod.val_setVal h]

/-- A counter stops at the largest number of its type. -/
theorem Mod.num_bump {m : Mod} (h : dictWf m.dict = true) (o i n : Nat) : (m.bump o i n).num o i = min (m.num o i + n) (objMax o) :=
  Mod.num_set h o _ i

/-- The last code of a path is the one reported. -/
theorem Mod.lastAbort_report {m : Mod} (h : Table.wf 0 m.dic.lastAbort = true) (p : Path) (c : Nat) : (m.report p c).lastAbort p = c :=
  Table.get_set _ _ h

/-! ## Held in reset, and the gate of the dictionary -/

/-- A command does nothing to a module held in reset. -/
theorem Mod.awake_held {m : Mod} (h : m.power.held ≠ 0) (f : Mod → Mod) : m.awake f = m := if_pos h

/-- A module that runs takes the effect. -/
theorem Mod.awake_runs {m : Mod} (h : m.power.held = 0) (f : Mod → Mod) : m.awake f = f m := if_neg (by omega)

/-- An access on a path other than a tenant's takes the effect once start-up is over. -/
theorem Mod.gate_runs {m : Mod} {p : Path} (h : m.power.held = 0) (hp : isTenantPath p = false) (hc : m.configured = true) (f : Mod → Mod) :
    m.gate p f = f m := by
  simp [Mod.gate, Mod.access, h, hp, hc]

/-- An access on a path other than a tenant's takes the effect. -/
theorem Mod.access_runs {m : Mod} {p : Path} (h : m.power.held = 0) (hp : isTenantPath p = false) (f : Mod → Mod) : m.access p f = f m := by
  simp [Mod.access, h, hp]

/-- A tenant has no access by name: it is refused with 0x0601_0000. -/
theorem Mod.access_tenant {m : Mod} {p : Path} (h : m.power.held = 0) (hp : isTenantPath p = true) (f : Mod → Mod) :
    m.access p f = m.report p abAccess := by
  simp [Mod.access, h, hp]

/-- Before step 6 of start-up completes a write is refused with 0x0800_0022. -/
theorem Mod.gate_early {m : Mod} {p : Path} (h : m.power.held = 0) (hp : isTenantPath p = false) (hc : m.configured = false) (f : Mod → Mod) :
    m.gate p f = m.report p abState := by
  simp [Mod.gate, Mod.access, h, hp, hc]

end Sys2Proof.Machine
end

