-- ==== Sys2Proof/WellFormed.lean ====
section
/-!
DEFINITION. Well-formed commands: every operand that names a block of the module names one that exists. A write to the dictionary may name any object
and any instance, since a selector that does not exist is refused by the dictionary itself (R449).
-/
namespace Sys2Proof

/-- Whether a path exists: 8 DTP sessions and 64 tenants (R205, R452, R469). -/
def pathOk : Path → Bool
  | .supervisor | .sdo => true
  | .dtp n => decide (1 ≤ n ∧ n ≤ 8)
  | .tenant t => decide (1 ≤ t ∧ t ≤ 64)

/-- Whether a tenant exists (R205). -/
def tenantOk (t : Nat) : Bool := decide (1 ≤ t ∧ t ≤ 64)

/-- Whether a rank exists (R234). -/
def rankOk (r : Nat) : Bool := decide (1 ≤ r ∧ r ≤ 3)

/-- Whether a DTP session exists (R469). -/
def sessionOk (n : Nat) : Bool := decide (1 ≤ n ∧ n ≤ 8)

/-- Whether the header fields of a flit fit their bits, on a link that exists (R278). -/
def flitOk (h : FlitHdr) : Bool :=
  decide (h.l < 24) && decide (h.seq < 4096) && decide (h.ack < 4096) && decide (h.cvc < 4) && decide (h.ccnt < 64)

/-- Whether a packet has a length that R280 gives its type, and a read or write crosses no 4 KiB boundary. -/
def lengthOk (p : Packet) : Bool :=
  match p.ty with
  | .frame => decide (1 ≤ p.data.length ∧ p.data.length ≤ 9216)
  | .rdReq => decide (4 ≤ p.len ∧ p.len ≤ 2048 ∧ p.len % 4 = 0 ∧ p.offset % 4096 + p.len ≤ 4096)
  | .wrReq => decide (4 ≤ p.data.length ∧ p.data.length ≤ 4096 ∧ p.data.length % 4 = 0 ∧ p.offset % 4096 + p.data.length ≤ 4096)
  | .rdRsp => decide (4 ≤ p.data.length ∧ p.data.length ≤ 2048 ∧ p.data.length % 4 = 0)
  | .fence | .rdErr | .xtrig => true

/-- Whether a received packet is of the type that its command takes and its fields fit their bits (R278-R280). -/
def packetOk (ty : PktType) (h : FlitHdr) (p : Packet) : Bool :=
  flitOk h && p.ty == ty && lengthOk p && decide (p.vc < 4 ∧ p.dst < 256 ∧ p.src < 256 ∧ p.hops < 16) &&
    decide (p.tagGen < 4096 ∧ p.offset < 2 ^ 36 ∧ p.fenceId < 2 ^ 32 ∧ p.status < 256 ∧ p.tick < 2 ^ 32)

/-- Whether a command is well formed. -/
def wellFormed (i : Instr) : Bool :=
  match i with
  | .tickStart => true
  | .firstTickStart _ => true
  | .tickStop path => pathOk path
  | .tickRunStart path _ => pathOk path
  | .tickRateWrite path _ => pathOk path
  | .inactiveImageWrite path _ => pathOk path
  | .lastCheck path _ => pathOk path
  | .lastCheckDone => true
  | .lastSwapRequest path _ _ => pathOk path
  | .lastSwapCancel path _ => pathOk path
  | .lastStore path _ => pathOk path
  | .filterPhase => true
  | .elementPhase => true
  | .logicPassL1 => true
  | .logicPassL2 => true
  | .windowEntry w _ => decide (w < 256)
  | .windowExit w => decide (w < 256)
  | .phaseTEnd => true
  | .voteStart _ => true
  | .voteDeadline _ => true
  | .vEnd => true
  | .publishStart _ => true
  | .guardTimeStart p => decide (p < 768)
  | .ingestFrameArrival _ _ _ => true
  | .streamRunning strm => decide (strm < 2048)
  | .streamLost strm => decide (strm < 2048)
  | .substHoldExpiry c => decide (c < 16384)
  | .profileTapsWrite path _ _ => pathOk path
  | .profileCoeffsWrite path _ _ => pathOk path
  | .profileCheck path _ _ => pathOk path
  | .profileCheckDone p => decide (p < 64)
  | .profileSwapRequest path _ _ _ => pathOk path
  | .profileSwapCancel path _ _ => pathOk path
  | .profileSwapNow path _ _ => pathOk path
  | .profileStore path _ _ => pathOk path
  | .groupLocked v => decide (v < 256)
  | .lockLost v => decide (v < 256)
  | .signalLostHold v => decide (v < 256)
  | .holdReacquire v => decide (v < 256)
  | .fallbackEntered v => decide (v < 256)
  | .fallbackReacquire v => decide (v < 256)
  | .freqLimitRun v => decide (v < 256)
  | .rocofValid v => decide (v < 256)
  | .opDelayExpiry e => decide (e < 4096)
  | .dropDelayExpiry e => decide (e < 4096)
  | .timerOperate e => decide (e < 4096)
  | .timerDefiniteResetExpiry e => decide (e < 4096)
  | .lgLd g a => decide (g < 16) && decide (a < 1048576)
  | .lgLdn g a => decide (g < 16) && decide (a < 1048576)
  | .lgAnd g a => decide (g < 16) && decide (a < 1048576)
  | .lgAndn g a => decide (g < 16) && decide (a < 1048576)
  | .lgOr g a => decide (g < 16) && decide (a < 1048576)
  | .lgOrn g a => decide (g < 16) && decide (a < 1048576)
  | .lgXor g a => decide (g < 16) && decide (a < 1048576)
  | .lgXorn g a => decide (g < 16) && decide (a < 1048576)
  | .lgSt g a => decide (g < 16) && decide (a < 1048576)
  | .lgStn g a => decide (g < 16) && decide (a < 1048576)
  | .lgSet g a => decide (g < 16) && decide (a < 1048576)
  | .lgRst g a => decide (g < 16) && decide (a < 1048576)
  | .lgJmp g _ => decide (g < 16)
  | .lgJmpc g _ => decide (g < 16)
  | .lgJmpn g _ => decide (g < 16)
  | .lgAndb g => decide (g < 16)
  | .lgOrb g => decide (g < 16)
  | .lgBcl g => decide (g < 16)
  | .lgNot g => decide (g < 16)
  | .lgCall g _ => decide (g < 16)
  | .lgRet g => decide (g < 16)
  | .lgRedge g a => decide (g < 16) && decide (a < 1048576)
  | .lgFedge g a => decide (g < 16) && decide (a < 1048576)
  | .lgTon g _ => decide (g < 16)
  | .lgTof g _ => decide (g < 16)
  | .lgTp g _ => decide (g < 16)
  | .lgLdtq g _ => decide (g < 16)
  | .lgCtu g _ => decide (g < 16)
  | .lgCtd g _ => decide (g < 16)
  | .lgCrst g _ => decide (g < 16)
  | .lgLdcq g _ => decide (g < 16)
  | .lgLdw g _ => decide (g < 16)
  | .lgLdk g _ => decide (g < 16)
  | .lgLdi g _ => decide (g < 16)
  | .lgStw g _ => decide (g < 16)
  | .lgMov g _ _ => decide (g < 16)
  | .lgLdtv g _ => decide (g < 16)
  | .lgLdcv g _ => decide (g < 16)
  | .lgCeq g _ => decide (g < 16)
  | .lgCne g _ => decide (g < 16)
  | .lgCgt g _ => decide (g < 16)
  | .lgCge g _ => decide (g < 16)
  | .lgClt g _ => decide (g < 16)
  | .lgCle g _ => decide (g < 16)
  | .lgEnd g => decide (g < 16)
  | .passOverrun g => decide (g < 16)
  | .logicImageWrite path _ _ => pathOk path
  | .logicCheck path _ _ => pathOk path
  | .logicCheckDone g => decide (g < 16)
  | .engineStartRequest path _ _ _ => pathOk path
  | .engineStopRequest path _ _ _ => pathOk path
  | .logicStore path _ _ => pathOk path
  | .engineAutostart g => decide (g < 16)
  | .gooseStationRx _ _ => true
  | .stationDropout r => decide (r < 2048)
  | .coreMemoryAccess hart _ _ n _ _ => decide (hart < 68) && [1, 2, 4, 8, 64].contains n
  | .frozenGuestReturn hart w _ => decide (hart < 68) && (w == 0x10200073 || w == 0x30200073)
  | .mramSyncRead hart => decide (hart < 68)
  | .pubCommit t u _ => tenantOk t && decide (u < 32)
  | .pubCopyDone t u => tenantOk t && decide (u < 32)
  | .pubRetransmit i _ => decide (i < 2304)
  | .sc0Commit b _ => decide (b < 256)
  | .sc0CopyDone b => decide (b < 256)
  | .txTailWrite t _ => tenantOk t
  | .txDescriptorDone t => tenantOk t
  | .rxFrameDelivery t f _ => tenantOk t && decide (f.cls < 8)
  | .tenantDpSubmit t => tenantOk t
  | .mbOutPost t slot _ => tenantOk t && decide (slot < 16)
  | .mbInRelease t slot _ => tenantOk t && decide (slot < 16)
  | .mbPost t slot _ => tenantOk t && decide (slot < 16)
  | .mbRelease t slot _ => tenantOk t && decide (slot < 16)
  | .vfIrqLatchClear t _ => decide (t < 65)
  | .violClear path _ _ => pathOk path
  | .createTickWrite path _ _ _ => pathOk path
  | .destroyTickWrite path _ _ _ => pathOk path
  | .freezeTickWrite path _ _ _ => pathOk path
  | .unfreezeTickWrite path _ _ _ => pathOk path
  | .resourceCommitTickWrite path _ _ _ => pathOk path
  | .restoreTickWrite path _ _ => pathOk path
  | .sramClearDone => true
  | .imageSave path _ => pathOk path
  | .imageSegmentRead path _ => pathOk path
  | .imageSegmentWrite path _ _ _ => pathOk path
  | .agreeRx x => packetOk .frame x.h x.p && x.p.vc == 0
  | .agreeDeadline => true
  | .fetchDeadline => true
  | .vectorRx x => packetOk .frame x.h x.p && x.p.vc == 0
  | .demotion r => rankOk r
  | .holdLimitReached => true
  | .revertDelayElapsed => true
  | .revertHoldoffEnd => true
  | .laceClaimDecoded r => rankOk r
  | .laceAliveDecoded r => rankOk r
  | .lacePatternLost r => rankOk r
  | .laceDeadTimeout r => rankOk r
  | .laceLoopbackFault => true
  | .laceViewFault r => rankOk r
  | .laceFaultClear => true
  | .laceGeneratorTimeout => true
  | .foreignClaimAlarm r => rankOk r
  | .formWaitExpiry r _ _ _ => rankOk r
  | .formationTick => true
  | .resyncTimeout _ => true
  | .shadowComplete => true
  | .rejoinWrite path _ => pathOk path
  | .weltLanesWrite path _ _ => pathOk path
  | .laneTrainLock l => decide (l < 24)
  | .laneTrainTimeout l => decide (l < 24)
  | .weltHelloRx h _ => flitOk h
  | .weltHelloSend l => decide (l < 24)
  | .weltHelloTimeout l => decide (l < 24)
  | .weltLockLoss l => decide (l < 24)
  | .weltDownRetrain l => decide (l < 24)
  | .weltIdleRx h => flitOk h
  | .weltFlitDiscard l _ => decide (l < 24)
  | .weltNakRx h => flitOk h
  | .weltNakRepeat l => decide (l < 24)
  | .weltReplayTimeout l => decide (l < 24)
  | .weltFrameRx h p _ _ _ => packetOk .frame h p
  | .packetAgeExpiry l _ => decide (l < 24)
  | .weltRdReqRx h p => packetOk .rdReq h p
  | .weltWrReqRx h p _ => packetOk .wrReq h p
  | .weltFenceRx h p _ => packetOk .fence h p
  | .weltRdRspRx h p => packetOk .rdRsp h p
  | .weltRdErrRx h p => packetOk .rdErr h p
  | .weltXtrigRx h p _ => packetOk .xtrig h p
  | .remoteRead _ _ _ => true
  | .remoteReadReissue _ _ _ => true
  | .remoteWrite _ _ _ _ => true
  | .respTimeoutExpiry t => decide (t < 1024)
  | .holdTimeExpiry t => decide (t < 1024)
  | .quarantineExpiry t => decide (t < 1024)
  | .rateProposal l _ _ => decide (l < 24)
  | .rateReqRx h _ _ util => flitOk h && decide (util < 256)
  | .rateAckRx h _ => flitOk h
  | .rateNakRx h => flitOk h.it
  | .rateMarkRx h => flitOk h
  | .rateProposalTimeout l => decide (l.it < 24)
  | .quiesceDrained l => decide (l < 24)
  | .retrainLock l => decide (l < 24)
  | .retrainTimeout l => decide (l.it < 24)
  | .retrainFallbackTimeout l => decide (l < 24)
  | .switchClassify _ => true
  | .egressSchedule p _ _ => decide (p < 867)
  | .queuePromotion p c _ => decide (p < 867) && decide (c < 8)
  | .macSweep => true
  | .macFlushPort path _ => pathOk path
  | .macInsert path => pathOk path
  | .macDelete path => pathOk path
  | .macLookup path => pathOk path
  | .macDumpStart path => pathOk path
  | .macDumpNext path => pathOk path
  | .routeInsert path => pathOk path
  | .routeDelete path => pathOk path
  | .routeLookupOp path => pathOk path
  | .laneModeWrite path _ _ => pathOk path
  | .lanePolarityWrite path _ _ => pathOk path
  | .portEnableWrite path _ _ => pathOk path
  | .portDormantWrite path _ _ => pathOk path
  | .portLinkUp p _ => decide (p < 768)
  | .portLinkLoss p _ => decide (p < 768)
  | .laneCdrLoss l => decide (l < 192)
  | .frameReceived _ _ => true
  | .pauseFrameRx p _ => decide (p < 768)
  | .pauseExpiry p => decide (p < 768)
  | .pauseXoffRepeat p => decide (p < 768)
  | .dupEntryForget _ => true
  | .laneGroupGate j => decide (j < 12)
  | .eyeMonitor l _ _ => decide (l < 192)
  | .ptpSyncRx _ => true
  | .ptpFollowUpRx _ => true
  | .ptpAnnounceRx _ => true
  | .ptpPdelayReqRx _ => true
  | .ptpPdelayRespRx p _ _ _ _ _ => decide (p < 768)
  | .ptpManagementRx _ => true
  | .ptpMessageSend p _ _ => decide (p < 768)
  | .ptpAnnounceTimeout p => decide (p < 768)
  | .ptpSyncMissed i => decide (i < 2)
  | .irigFrameRx _ => true
  | .irigFrameLoss => true
  | .ppsInEdge i _ => decide (i < 2)
  | .ppsLossTimeout i => decide (i < 2)
  | .sourceQualified j => decide (j < 4)
  | .stepRetry => true
  | .stepCaptureCheck => true
  | .ref10mQualified => true
  | .ref10mLoss => true
  | .offsetExcursionTimeout => true
  | .holdoverLimitExpiry => true
  | .todSetWrite path _ _ => pathOk path
  | .leaderChange r => rankOk r
  | .timeTransferSend _ => true
  | .timeTransferRx l _ _ _ => decide (l < 24)
  | .timeTransferLoss => true
  | .followerDeviation => true
  | .ppsOutEdge o _ => decide (o < 2)
  | .leapSecond => true
  | .clickerRowWrite _ => true
  | .trigInputEdge j _ _ => decide (j < 32)
  | .clickerForce path _ _ _ => pathOk path
  | .clickerStop path _ _ => pathOk path
  | .clickerDrain path _ _ => pathOk path
  | .clickerRelease path _ _ => pathOk path
  | .clickerResend path _ _ => pathOk path
  | .drainFrameSend _ => true
  | .trigPulseEnd j _ => decide (j < 32)
  | .canFrameRx n _ _ _ => decide (n < 192)
  | .canTxSuccess n _ => decide (n < 192)
  | .canArbLoss n => decide (n < 192)
  | .canTxError n _ _ => decide (n < 192)
  | .busoffAutoRecovery n _ => decide (n < 192)
  | .canRecover path _ _ _ => pathOk path
  | .canModeWrite path _ _ => pathOk path
  | .canTxRequest path _ _ _ => pathOk path
  | .canTxAbort path _ => pathOk path
  | .canFifoRead path _ => pathOk path
  | .ttCycleStart n _ => decide (n < 8)
  | .ttWindowStart n j _ => decide (n < 8) && decide (j < 64)
  | .tunnelWaitExpiry _ => true
  | .tunnelFrameRx _ _ => true
  | .dictionaryWrite path _ _ _ _ => pathOk path
  | .stageCommit path _ _ => pathOk path
  | .stageDiscard path _ => pathOk path
  | .commitCancel path _ => pathOk path
  | .commitProposeRx rank _ _ _ _ _ => rankOk rank
  | .commitAcceptRx rank _ => rankOk rank
  | .commitRefuseRx rank _ _ => rankOk rank
  | .commitConfirmRx rank _ => rankOk rank
  | .commitCancelRx rank _ _ => rankOk rank
  | .commitAcceptDeadline => true
  | .commitArm => true
  | .commitApply _ => true
  | .dpWrite _ => true
  | .dpRead _ => true
  | .dpCommit _ => true
  | .sdoInitiateDownload _ _ _ _ _ => true
  | .sdoDownloadSegment _ _ _ _ => true
  | .sdoInitiateUpload _ _ => true
  | .sdoUploadSegment _ => true
  | .sdoAbortRx _ => true
  | .sdoBlockRequest _ => true
  | .sdoTimeout => true
  | .nmtResetNode _ => true
  | .nmtResetCommunication _ => true
  | .nmtOtherCommand _ _ => true
  | .dtpHello _ _ _ => true
  | .dtpRead _ _ _ _ => true
  | .dtpWrite _ _ _ _ => true
  | .dtpClose _ _ _ => true
  | .dtpIdleTimeout session => sessionOk session
  | .dtpSnapshotExpiry session => sessionOk session
  | .dtpKeySlotWrite path _ => pathOk path
  | .lifecycleChange path _ _ _ _ => pathOk path
  | .okHashWrite path _ _ => pathOk path
  | .minSvnSet path _ _ => pathOk path
  | .keyInstall path _ => pathOk path
  | .keyDerive path _ => pathOk path
  | .keyDestroy path _ => pathOk path
  | .keyRemask i => decide (i < 512)
  | .entropyHealthFail _ _ => true
  | .drbgReseed => true
  | .debuggerAttach => true
  | .eventRaised _ _ => true
  | .recorderScanDone _ => true
  | .opTimeCheckpoint _ => true
  | .anchorWrite path _ _ _ => pathOk path
  | .codeTokenRefill _ _ => true
  | .globalTokenRefill _ => true
  | .swWrite path _ _ => pathOk path
  | .resetAssert low => low.all (fun torn => decide (torn < 3))
  | .resetRelease pins ref => decide (pins.pos < 4) && decide (ref < 4096)
  | .internalResetEnd pos ref => decide (pos < 4) && decide (ref < 4096)
  | .secureBoot _ _ => true
  | .configDone path _ => pathOk path
  | .lanesUpComplete _ => true
  | .avsSample _ _ => true
  | .avsbusRetry _ => true
  | .sysclkLoss => true
  | .refclkLoss j _ => decide (j < 12)
  | .thermalSample temps => temps.length == 16
  | .watchdogExpiry _ => true
  | .wdtKick path _ _ _ => pathOk path
  | .swReset _ path _ _ => pathOk path
  | .jtagReset => true
  | .canRxError n _ _ => decide (n < 192)
  | .donorCopyComplete r => rankOk r
  | .illegalInstruction hart _ => decide (hart < 68)

end Sys2Proof
end

