-- ==== Sys2Proof/Tests/Slice0.lean ====
section
/-!
SUPPORT. Tests of single commands, an ill-formed term for each check of `wellFormed`, and for every obligation with hypotheses a concrete state and
operands that meet the hypotheses of each of its clauses together (`witness_` and its name).
-/
open Sys2Proof Sys2Proof.Machine
namespace Sys2Proof.Tests
set_option Elab.async false

/-! ## States that the tests and the witnesses start from -/

/-- A running module out of start-up. -/
def w0 : State := { mod := { dict := [(objKey 0x203001 0, .num 11)], power := { held := 0 }, tick := { running := true, k := 1000 } } }
/-- The same with objects set (object, instance, number) and a change. -/
def w (d : List (Nat × Nat × Nat)) (f : Mod → Mod := id) : State :=
  { mod := f (d.foldl (fun m e => m.set e.1 e.2.2 e.2.1) w0.mod) }
/-- A module whose engine 0 is about to execute one instruction. -/
def lg (word : Nat) (r : PassSt := {}) (f : EngineSt → EngineSt := id) : State :=
  w [] (fun m => { m with
    tick := { m.tick with bankA := List.replicate 0x60 0 ++ [100] }
    logic := { m.logic with engines := [(0, f { image := List.replicate 12 0 ++ [1] ++ List.replicate 6163 0 ++ toLE 4 word, run := { r with pass := 1 } })] } })
/-- The octets of a logic image of one END instruction, without its CRC. -/
def logicBody : List Byte := [0x4C, 0x4F, 0x47, 0x43, 1, 0, 0, 0xFF] ++ toLE 4 6200 ++ toLE 4 65537 ++ [0xFF, 1, 0, 0] ++ List.replicate 12 0 ++ List.replicate 6148 0 ++ toLE 4 0x40000 ++ toLE 4 1 ++ toLE 4 0 ++ toLE 4 (0x3F * 2 ^ 26)
/-- The image. -/
def goodLogic : List Byte := logicBody ++ toLE 4 (crc32 logicBody)
/-- A module that saves the image of tenant 5, frozen with kind ALL. -/
def saving : State := w [(0x510001, 5, 2), (0x510006, 5, 1), (0x51000D, 5, 1), (0x515001, 0, 5), (0x515003, 0, 1)] ({ · with ten.saving := 5 })
/-- An image of tenant 1 for a module at its defaults, without a key: header and CRC. -/
def loadBody : List Byte := [0x54, 0x49, 0x4D, 0x47, 0, 0, 1, 1] ++ toLE 4 0x64 ++ [0, 0, 0xB0, BitVec.ofNat 8 (w0.mod.num 0x200001)] ++ List.replicate 10 0 ++
  [BitVec.ofNat 8 w0.mod.delay, 0, 0xFF, 0xFF] ++ List.replicate 66 0
/-- The image. -/
def loadImage : List Byte := loadBody ++ toLE 4 (crc32 loadBody)
/-- A module of rank 1 with a triad link to the module of rank 2, at a stage of its tick. -/
def linked (stage : Nat) : Mod := (w [(0x600001, 0, 1), (0x611004, 0, 3), (0x611009, 0, 1)] ({ · with triad.stage := stage })).mod
/-- A triad message of a type from rank 2 for tick 1,000. -/
def triadPacket (type : Nat) : Packet := { vc := 0, flags := 2, data := triadBytes type { rank := 2, tick := 1000 } [] }
/-- The octets of a valid record of SEQ 0. -/
def oldRecord : List Byte := List.replicate 0x78 0 ++ toLE 4 (crc32 (List.replicate 0x78 0)) ++ [0, 0, 0x5A, 0x5A]
/-- A module that restarts with that record in its area. -/
def recorded : State := w [] (·.poke 0x60000000 oldRecord)

/-! ## Single commands, after the worked examples of the manual -/

/-- The octets of the manual's check string, "123456789". -/
theorem test_crc : crc32 [0x31, 0x32, 0x33, 0x34, 0x35, 0x36, 0x37, 0x38, 0x39] = 0xCBF43926 := by decide +kernel

/-- The working sample of 14,200 A with SHIFT 3 (worked coefficient load). -/
theorem test_working_sample : toWork 3 0x00D8ACC0 = (1775000, false) := by decide +kernel

/-- In tick q 1,205 the sample counters 1,202 and 1,203 name the ticks q 1,202 and q 1,203 (worked example of bay 47). -/
theorem test_filing_ticks :
    (w [] ({ · with tick.q := 1205, tick.marks := [(990, 1195, 0)] })).mod.filingTick 1202 = some 997 ∧
    (w [] ({ · with tick.q := 1205, tick.marks := [(990, 1195, 0)] })).mod.filingTick 1203 = some 998 := by decide +kernel

/-- The program of the worked example of bay 47, as the manual spells its words. -/
def bay47 : List Nat :=
  [0x04002F01, 0x14002F81, 0x14002F91, 0x14002FC1, 0x14002FD1, 0x2404C000, 0x8400000D, 0x24030112,
   0x0404C000, 0x0C002FE0, 0x8000000C, 0x24030140, 0x040117C3, 0x100117C2, 0x40000000, 0x040117C0,
   0x100117C1, 0x44000000, 0x040117C1, 0x100117C0, 0x48000000, 0x48000000, 0x10030140, 0x1004C000,
   0x24030113, 0x04090010, 0x3004C002, 0x0404C002, 0x24030115, 0x04030112, 0x24038040, 0xFC000000,
   0x0408485F, 0x2C04C002, 0x54000000]
/-- Its image without the CRC: two sections from 0 and 32, timers 12 and 13, two ownership entries of 4 and 2 words. -/
def bay47Body : List Byte :=
  [0x4C, 0x4F, 0x47, 0x43, 1, 0, 0, 0xFF] ++ toLE 4 6368 ++ toLE 2 35 ++ toLE 2 2 ++ [1, 2, 0, 0] ++ List.replicate 12 0 ++
  toLE 4 0 ++ toLE 4 32 ++ List.replicate 48 0 ++ toLE 4 720 ++ toLE 4 480 ++ List.replicate 6088 0 ++
  toLE 4 0x30100 ++ toLE 4 4 ++ toLE 4 0x38040 ++ toLE 4 2 ++ List.replicate 24 0 ++ (bay47.map (toLE 4)).flatten

set_option maxRecDepth 100000 in
/-- Engine 3 finds nothing wrong with it. -/
theorem test_bay47_checks : logicCheck 3 (bay47Body ++ toLE 4 (crc32 bay47Body)) [] false % 8192 = 0 := by decide +kernel

/-- Its first and its last words: LD 0x02F01, TOF 13, RET. -/
theorem test_bay47_words : lgOp 0x04002F01 = 1 ∧ lgArg 0x04002F01 = 0x02F01 ∧ lgOp 0x8400000D = 0x21 ∧ lgArg 0x8400000D = 13 ∧ lgOp 0x54000000 = 0x15 := by
  decide

/-- TON 12, started at 1,211 with PT 720, sets Q in tick 1,931 and not before; TOF 13 gives Q at once. -/
theorem test_timers : (timerTon 1930 720 true (timerTon 1211 720 true {})).q = false ∧ (timerTon 1931 720 true (timerTon 1211 720 true {})).q = true ∧
    (timerTof 1211 480 true {}).q = true ∧ (timerTof 1690 480 false (timerTof 1211 480 true {})).q = true := by
  decide

/-- Defaults that the manual's tables give, read at reset. -/
theorem test_defaults : State.reset.mod.num 0x441001 3072 = 1 ∧ State.reset.mod.num 0x441002 3072 = 3 ∧ State.reset.mod.num 0x441004 3072 = 2000 := by
  decide +kernel

/-- An empty queue leaves the module as it is. -/
theorem test_idle : step State.reset = .next State.reset := rfl

/-! ## Ill-formed commands -/

/-- Whether none of a list of commands is well formed. -/
def allIllFormed (l : List Instr) : Bool := l.all (fun i => !wellFormed i)
/-- A path of a session or a tenant that does not exist is none. -/
theorem test_paths : pathOk (.tenant 0) = false ∧ pathOk (.tenant 65) = false ∧ pathOk (.tenant 64) = true ∧ pathOk (.dtp 9) = false ∧ pathOk (.dtp 8) = true := by decide
theorem test_ill_formed_1 : allIllFormed [
    .tickStop (.tenant 65), .tickRunStart (.tenant 65) 0, .tickRateWrite (.tenant 65) 0, .inactiveImageWrite (.tenant 65) [],
    .lastCheck (.tenant 65) 0, .lastSwapRequest (.tenant 65) 0 {}, .lastSwapCancel (.tenant 65) 0, .lastStore (.tenant 65) 0,
    .windowEntry 256 true, .windowExit 256, .guardTimeStart 768, .streamRunning 2048,
    .streamLost 2048, .substHoldExpiry 16384, .profileTapsWrite (.tenant 65) 0 0, .profileCoeffsWrite (.tenant 65) 0 [],
    .profileCheck (.tenant 65) 0 0, .profileCheckDone 64, .profileSwapRequest (.tenant 65) 0 0 {}, .profileSwapCancel (.tenant 65) 0 0,
    .profileSwapNow (.tenant 65) 0 0, .profileStore (.tenant 65) 0 0, .groupLocked 256, .lockLost 256,
    .signalLostHold 256, .holdReacquire 256, .fallbackEntered 256, .fallbackReacquire 256,
    .freqLimitRun 256, .rocofValid 256, .opDelayExpiry 4096, .dropDelayExpiry 4096,
    .timerOperate 4096, .timerDefiniteResetExpiry 4096, .lgLd 16 0, .lgLd 0 1048576,
    .lgLdn 16 0, .lgLdn 0 1048576, .lgAnd 16 0, .lgAnd 0 1048576] = true := by decide +kernel
theorem test_ill_formed_2 : allIllFormed [
    .lgAndn 16 0, .lgAndn 0 1048576, .lgOr 16 0, .lgOr 0 1048576,
    .lgOrn 16 0, .lgOrn 0 1048576, .lgXor 16 0, .lgXor 0 1048576,
    .lgXorn 16 0, .lgXorn 0 1048576, .lgSt 16 0, .lgSt 0 1048576,
    .lgStn 16 0, .lgStn 0 1048576, .lgSet 16 0, .lgSet 0 1048576,
    .lgRst 16 0, .lgRst 0 1048576, .lgJmp 16 0, .lgJmpc 16 0,
    .lgJmpn 16 0, .lgAndb 16, .lgOrb 16, .lgBcl 16,
    .lgNot 16, .lgCall 16 0, .lgRet 16, .lgRedge 16 0,
    .lgRedge 0 1048576, .lgFedge 16 0, .lgFedge 0 1048576, .lgTon 16 0,
    .lgTof 16 0, .lgTp 16 0, .lgLdtq 16 0, .lgCtu 16 0,
    .lgCtd 16 0, .lgCrst 16 0, .lgLdcq 16 0, .lgLdw 16 0] = true := by decide +kernel
theorem test_ill_formed_3 : allIllFormed [
    .lgLdk 16 0, .lgLdi 16 0, .lgStw 16 0, .lgMov 16 0 0,
    .lgLdtv 16 0, .lgLdcv 16 0, .lgCeq 16 0, .lgCne 16 0,
    .lgCgt 16 0, .lgCge 16 0, .lgClt 16 0, .lgCle 16 0,
    .lgEnd 16, .passOverrun 16, .logicImageWrite (.tenant 65) 0 [], .logicCheck (.tenant 65) 0 0,
    .logicCheckDone 16, .engineStartRequest (.tenant 65) 0 0 {}, .engineStopRequest (.tenant 65) 0 0 {}, .logicStore (.tenant 65) 0 0,
    .engineAutostart 16, .stationDropout 2048, .coreMemoryAccess 68 .load 0 1 [] {}, .coreMemoryAccess 0 .load 0 3 [] {},
    .frozenGuestReturn 68 0x10200073 true, .frozenGuestReturn 0 0 true, .mramSyncRead 68, .pubCommit 65 0 0,
    .pubCommit 1 32 0, .pubCopyDone 65 0, .pubCopyDone 1 32, .pubRetransmit 2304 0,
    .sc0Commit 256 0, .sc0CopyDone 256, .txTailWrite 65 ⟨0, 0⟩, .txDescriptorDone 65,
    .rxFrameDelivery 65 {} 0, .rxFrameDelivery 1 { cls := 8 } 0, .tenantDpSubmit 65, .mbOutPost 65 0 0] = true := by decide +kernel
theorem test_ill_formed_4 : allIllFormed [
    .mbOutPost 1 16 0, .mbInRelease 65 0 0, .mbInRelease 1 16 0, .mbPost 65 0 0,
    .mbPost 1 16 0, .mbRelease 65 0 0, .mbRelease 1 16 0, .vfIrqLatchClear 65 0,
    .violClear (.tenant 65) 0 0, .createTickWrite (.tenant 65) 0 0 {}, .destroyTickWrite (.tenant 65) 0 0 {}, .freezeTickWrite (.tenant 65) 0 0 {},
    .unfreezeTickWrite (.tenant 65) 0 0 {}, .resourceCommitTickWrite (.tenant 65) 0 0 {}, .restoreTickWrite (.tenant 65) 0 {}, .imageSave (.tenant 65) 0,
    .imageSegmentRead (.tenant 65) 0, .imageSegmentWrite (.tenant 65) 0 [] true, .agreeRx { h := { l := 24 }, p := { vc := 0, data := [1] } }, .agreeRx { h := { seq := 4096 }, p := { vc := 0, data := [1] } },
    .agreeRx { h := { ack := 4096 }, p := { vc := 0, data := [1] } }, .agreeRx { h := { cvc := 4 }, p := { vc := 0, data := [1] } }, .agreeRx { h := { ccnt := 64 }, p := { vc := 0, data := [1] } }, .agreeRx { p := { ty := .fence, vc := 2 } },
    .agreeRx { p := { vc := 0, data := [] } }, .agreeRx { p := { vc := 0, data := List.replicate 9217 0 } }, .agreeRx { p := { vc := 4, data := [1] } }, .agreeRx { p := { vc := 0, data := [1], dst := 256 } },
    .agreeRx { p := { vc := 0, data := [1], src := 256 } }, .agreeRx { p := { vc := 0, data := [1], hops := 16 } }, .agreeRx { p := { vc := 0, data := [1], tagGen := 4096 } }, .agreeRx { p := { vc := 0, data := [1], offset := 2 ^ 36 } },
    .agreeRx { p := { vc := 0, data := [1], fenceId := 2 ^ 32 } }, .agreeRx { p := { vc := 0, data := [1], status := 256 } }, .agreeRx { p := { vc := 0, data := [1], tick := 2 ^ 32 } }, .agreeRx { p := { vc := 1, data := [1] } },
    .vectorRx { h := { l := 24 }, p := { vc := 0, data := [1] } }, .vectorRx { h := { seq := 4096 }, p := { vc := 0, data := [1] } }, .vectorRx { h := { ack := 4096 }, p := { vc := 0, data := [1] } }, .vectorRx { h := { cvc := 4 }, p := { vc := 0, data := [1] } }] = true := by decide +kernel
theorem test_ill_formed_5 : allIllFormed [
    .vectorRx { h := { ccnt := 64 }, p := { vc := 0, data := [1] } }, .vectorRx { p := { ty := .fence, vc := 2 } }, .vectorRx { p := { vc := 0, data := [] } }, .vectorRx { p := { vc := 0, data := List.replicate 9217 0 } },
    .vectorRx { p := { vc := 4, data := [1] } }, .vectorRx { p := { vc := 0, data := [1], dst := 256 } }, .vectorRx { p := { vc := 0, data := [1], src := 256 } }, .vectorRx { p := { vc := 0, data := [1], hops := 16 } },
    .vectorRx { p := { vc := 0, data := [1], tagGen := 4096 } }, .vectorRx { p := { vc := 0, data := [1], offset := 2 ^ 36 } }, .vectorRx { p := { vc := 0, data := [1], fenceId := 2 ^ 32 } }, .vectorRx { p := { vc := 0, data := [1], status := 256 } },
    .vectorRx { p := { vc := 0, data := [1], tick := 2 ^ 32 } }, .vectorRx { p := { vc := 1, data := [1] } }, .demotion 0, .laceClaimDecoded 0,
    .laceAliveDecoded 0, .lacePatternLost 0, .laceDeadTimeout 0, .laceViewFault 0,
    .foreignClaimAlarm 0, .formWaitExpiry 0 0 0 0, .rejoinWrite (.tenant 65) 0, .weltLanesWrite (.tenant 65) 0 0,
    .laneTrainLock 24, .laneTrainTimeout 24, .weltHelloRx { l := 24 } {}, .weltHelloRx { seq := 4096 } {},
    .weltHelloRx { ack := 4096 } {}, .weltHelloRx { cvc := 4 } {}, .weltHelloRx { ccnt := 64 } {}, .weltHelloSend 24,
    .weltHelloTimeout 24, .weltLockLoss 24, .weltDownRetrain 24, .weltIdleRx { l := 24 },
    .weltIdleRx { seq := 4096 }, .weltIdleRx { ack := 4096 }, .weltIdleRx { cvc := 4 }, .weltIdleRx { ccnt := 64 }] = true := by decide +kernel
theorem test_ill_formed_6 : allIllFormed [
    .weltFlitDiscard 24 .crc, .weltNakRx { l := 24 }, .weltNakRx { seq := 4096 }, .weltNakRx { ack := 4096 },
    .weltNakRx { cvc := 4 }, .weltNakRx { ccnt := 64 }, .weltNakRepeat 24, .weltReplayTimeout 24,
    .weltFrameRx { l := 24 } { vc := 0, data := [1] } none none 0, .weltFrameRx { seq := 4096 } { vc := 0, data := [1] } none none 0, .weltFrameRx { ack := 4096 } { vc := 0, data := [1] } none none 0, .weltFrameRx { cvc := 4 } { vc := 0, data := [1] } none none 0,
    .weltFrameRx { ccnt := 64 } { vc := 0, data := [1] } none none 0, .weltFrameRx {} { ty := .fence, vc := 2 } none none 0, .weltFrameRx {} { vc := 0, data := [] } none none 0, .weltFrameRx {} { vc := 0, data := List.replicate 9217 0 } none none 0,
    .weltFrameRx {} { vc := 4, data := [1] } none none 0, .weltFrameRx {} { vc := 0, data := [1], dst := 256 } none none 0, .weltFrameRx {} { vc := 0, data := [1], src := 256 } none none 0, .weltFrameRx {} { vc := 0, data := [1], hops := 16 } none none 0,
    .weltFrameRx {} { vc := 0, data := [1], tagGen := 4096 } none none 0, .weltFrameRx {} { vc := 0, data := [1], offset := 2 ^ 36 } none none 0, .weltFrameRx {} { vc := 0, data := [1], fenceId := 2 ^ 32 } none none 0, .weltFrameRx {} { vc := 0, data := [1], status := 256 } none none 0,
    .weltFrameRx {} { vc := 0, data := [1], tick := 2 ^ 32 } none none 0, .packetAgeExpiry 24 0, .weltRdReqRx { l := 24 } { ty := .rdReq, vc := 2, len := 4 }, .weltRdReqRx { seq := 4096 } { ty := .rdReq, vc := 2, len := 4 },
    .weltRdReqRx { ack := 4096 } { ty := .rdReq, vc := 2, len := 4 }, .weltRdReqRx { cvc := 4 } { ty := .rdReq, vc := 2, len := 4 }, .weltRdReqRx { ccnt := 64 } { ty := .rdReq, vc := 2, len := 4 }, .weltRdReqRx {} { ty := .fence, vc := 2 },
    .weltRdReqRx {} { ty := .rdReq, vc := 2, len := 0 }, .weltRdReqRx {} { ty := .rdReq, vc := 2, len := 2052 }, .weltRdReqRx {} { ty := .rdReq, vc := 2, len := 6 }, .weltRdReqRx {} { ty := .rdReq, vc := 2, len := 8, offset := 4092 },
    .weltRdReqRx {} { ty := .rdReq, vc := 4, len := 4 }, .weltRdReqRx {} { ty := .rdReq, vc := 2, len := 4, dst := 256 }, .weltRdReqRx {} { ty := .rdReq, vc := 2, len := 4, src := 256 }, .weltRdReqRx {} { ty := .rdReq, vc := 2, len := 4, hops := 16 }] = true := by decide +kernel
theorem test_ill_formed_7 : allIllFormed [
    .weltRdReqRx {} { ty := .rdReq, vc := 2, len := 4, tagGen := 4096 }, .weltRdReqRx {} { ty := .rdReq, vc := 2, len := 4, offset := 2 ^ 36 }, .weltRdReqRx {} { ty := .rdReq, vc := 2, len := 4, fenceId := 2 ^ 32 }, .weltRdReqRx {} { ty := .rdReq, vc := 2, len := 4, status := 256 },
    .weltRdReqRx {} { ty := .rdReq, vc := 2, len := 4, tick := 2 ^ 32 }, .weltWrReqRx { l := 24 } { ty := .wrReq, vc := 2, data := [1, 2, 3, 4] } {}, .weltWrReqRx { seq := 4096 } { ty := .wrReq, vc := 2, data := [1, 2, 3, 4] } {}, .weltWrReqRx { ack := 4096 } { ty := .wrReq, vc := 2, data := [1, 2, 3, 4] } {},
    .weltWrReqRx { cvc := 4 } { ty := .wrReq, vc := 2, data := [1, 2, 3, 4] } {}, .weltWrReqRx { ccnt := 64 } { ty := .wrReq, vc := 2, data := [1, 2, 3, 4] } {}, .weltWrReqRx {} { ty := .fence, vc := 2 } {}, .weltWrReqRx {} { ty := .wrReq, vc := 2, data := [] } {},
    .weltWrReqRx {} { ty := .wrReq, vc := 2, data := List.replicate 4100 0 } {}, .weltWrReqRx {} { ty := .wrReq, vc := 2, data := [1, 2, 3, 4, 5] } {}, .weltWrReqRx {} { ty := .wrReq, vc := 2, data := List.replicate 8 0, offset := 4092 } {}, .weltWrReqRx {} { ty := .wrReq, vc := 4, data := [1, 2, 3, 4] } {},
    .weltWrReqRx {} { ty := .wrReq, vc := 2, data := [1, 2, 3, 4], dst := 256 } {}, .weltWrReqRx {} { ty := .wrReq, vc := 2, data := [1, 2, 3, 4], src := 256 } {}, .weltWrReqRx {} { ty := .wrReq, vc := 2, data := [1, 2, 3, 4], hops := 16 } {}, .weltWrReqRx {} { ty := .wrReq, vc := 2, data := [1, 2, 3, 4], tagGen := 4096 } {},
    .weltWrReqRx {} { ty := .wrReq, vc := 2, data := [1, 2, 3, 4], offset := 2 ^ 36 } {}, .weltWrReqRx {} { ty := .wrReq, vc := 2, data := [1, 2, 3, 4], fenceId := 2 ^ 32 } {}, .weltWrReqRx {} { ty := .wrReq, vc := 2, data := [1, 2, 3, 4], status := 256 } {}, .weltWrReqRx {} { ty := .wrReq, vc := 2, data := [1, 2, 3, 4], tick := 2 ^ 32 } {},
    .weltFenceRx { l := 24 } { ty := .fence, vc := 2 } none, .weltFenceRx { seq := 4096 } { ty := .fence, vc := 2 } none, .weltFenceRx { ack := 4096 } { ty := .fence, vc := 2 } none, .weltFenceRx { cvc := 4 } { ty := .fence, vc := 2 } none,
    .weltFenceRx { ccnt := 64 } { ty := .fence, vc := 2 } none, .weltFenceRx {} { ty := .xtrig } none, .weltFenceRx {} { ty := .fence, vc := 4 } none, .weltFenceRx {} { ty := .fence, vc := 2, dst := 256 } none,
    .weltFenceRx {} { ty := .fence, vc := 2, src := 256 } none, .weltFenceRx {} { ty := .fence, vc := 2, hops := 16 } none, .weltFenceRx {} { ty := .fence, vc := 2, tagGen := 4096 } none, .weltFenceRx {} { ty := .fence, vc := 2, offset := 2 ^ 36 } none,
    .weltFenceRx {} { ty := .fence, vc := 2, fenceId := 2 ^ 32 } none, .weltFenceRx {} { ty := .fence, vc := 2, status := 256 } none, .weltFenceRx {} { ty := .fence, vc := 2, tick := 2 ^ 32 } none, .weltRdRspRx { l := 24 } { ty := .rdRsp, vc := 3, data := [1, 2, 3, 4] }] = true := by decide +kernel
theorem test_ill_formed_8 : allIllFormed [
    .weltRdRspRx { seq := 4096 } { ty := .rdRsp, vc := 3, data := [1, 2, 3, 4] }, .weltRdRspRx { ack := 4096 } { ty := .rdRsp, vc := 3, data := [1, 2, 3, 4] }, .weltRdRspRx { cvc := 4 } { ty := .rdRsp, vc := 3, data := [1, 2, 3, 4] }, .weltRdRspRx { ccnt := 64 } { ty := .rdRsp, vc := 3, data := [1, 2, 3, 4] },
    .weltRdRspRx {} { ty := .fence, vc := 2 }, .weltRdRspRx {} { ty := .rdRsp, vc := 3, data := [] }, .weltRdRspRx {} { ty := .rdRsp, vc := 3, data := List.replicate 2052 0 }, .weltRdRspRx {} { ty := .rdRsp, vc := 3, data := [1, 2, 3, 4, 5] },
    .weltRdRspRx {} { ty := .rdRsp, vc := 4, data := [1, 2, 3, 4] }, .weltRdRspRx {} { ty := .rdRsp, vc := 3, data := [1, 2, 3, 4], dst := 256 }, .weltRdRspRx {} { ty := .rdRsp, vc := 3, data := [1, 2, 3, 4], src := 256 }, .weltRdRspRx {} { ty := .rdRsp, vc := 3, data := [1, 2, 3, 4], hops := 16 },
    .weltRdRspRx {} { ty := .rdRsp, vc := 3, data := [1, 2, 3, 4], tagGen := 4096 }, .weltRdRspRx {} { ty := .rdRsp, vc := 3, data := [1, 2, 3, 4], offset := 2 ^ 36 }, .weltRdRspRx {} { ty := .rdRsp, vc := 3, data := [1, 2, 3, 4], fenceId := 2 ^ 32 }, .weltRdRspRx {} { ty := .rdRsp, vc := 3, data := [1, 2, 3, 4], status := 256 },
    .weltRdRspRx {} { ty := .rdRsp, vc := 3, data := [1, 2, 3, 4], tick := 2 ^ 32 }, .weltRdErrRx { l := 24 } { ty := .rdErr, vc := 3 }, .weltRdErrRx { seq := 4096 } { ty := .rdErr, vc := 3 }, .weltRdErrRx { ack := 4096 } { ty := .rdErr, vc := 3 },
    .weltRdErrRx { cvc := 4 } { ty := .rdErr, vc := 3 }, .weltRdErrRx { ccnt := 64 } { ty := .rdErr, vc := 3 }, .weltRdErrRx {} { ty := .fence, vc := 2 }, .weltRdErrRx {} { ty := .rdErr, vc := 4 },
    .weltRdErrRx {} { ty := .rdErr, vc := 3, dst := 256 }, .weltRdErrRx {} { ty := .rdErr, vc := 3, src := 256 }, .weltRdErrRx {} { ty := .rdErr, vc := 3, hops := 16 }, .weltRdErrRx {} { ty := .rdErr, vc := 3, tagGen := 4096 },
    .weltRdErrRx {} { ty := .rdErr, vc := 3, offset := 2 ^ 36 }, .weltRdErrRx {} { ty := .rdErr, vc := 3, fenceId := 2 ^ 32 }, .weltRdErrRx {} { ty := .rdErr, vc := 3, status := 256 }, .weltRdErrRx {} { ty := .rdErr, vc := 3, tick := 2 ^ 32 },
    .weltXtrigRx { l := 24 } { ty := .xtrig, vc := 0 } 0, .weltXtrigRx { seq := 4096 } { ty := .xtrig, vc := 0 } 0, .weltXtrigRx { ack := 4096 } { ty := .xtrig, vc := 0 } 0, .weltXtrigRx { cvc := 4 } { ty := .xtrig, vc := 0 } 0,
    .weltXtrigRx { ccnt := 64 } { ty := .xtrig, vc := 0 } 0, .weltXtrigRx {} { ty := .fence, vc := 2 } 0, .weltXtrigRx {} { ty := .xtrig, vc := 4 } 0, .weltXtrigRx {} { ty := .xtrig, vc := 0, dst := 256 } 0] = true := by decide +kernel
theorem test_ill_formed_9 : allIllFormed [
    .weltXtrigRx {} { ty := .xtrig, vc := 0, src := 256 } 0, .weltXtrigRx {} { ty := .xtrig, vc := 0, hops := 16 } 0, .weltXtrigRx {} { ty := .xtrig, vc := 0, tagGen := 4096 } 0, .weltXtrigRx {} { ty := .xtrig, vc := 0, offset := 2 ^ 36 } 0,
    .weltXtrigRx {} { ty := .xtrig, vc := 0, fenceId := 2 ^ 32 } 0, .weltXtrigRx {} { ty := .xtrig, vc := 0, status := 256 } 0, .weltXtrigRx {} { ty := .xtrig, vc := 0, tick := 2 ^ 32 } 0, .respTimeoutExpiry 1024,
    .holdTimeExpiry 1024, .quarantineExpiry 1024, .rateProposal 24 .waited 0, .rateReqRx { l := 24 } 0 0 0,
    .rateReqRx { seq := 4096 } 0 0 0, .rateReqRx { ack := 4096 } 0 0 0, .rateReqRx { cvc := 4 } 0 0 0, .rateReqRx { ccnt := 64 } 0 0 0,
    .rateReqRx {} 0 0 256, .rateAckRx { l := 24 } 0, .rateAckRx { seq := 4096 } 0, .rateAckRx { ack := 4096 } 0,
    .rateAckRx { cvc := 4 } 0, .rateAckRx { ccnt := 64 } 0, .rateNakRx ⟨{ l := 24 }, 0⟩, .rateNakRx ⟨{ seq := 4096 }, 0⟩,
    .rateNakRx ⟨{ ack := 4096 }, 0⟩, .rateNakRx ⟨{ cvc := 4 }, 0⟩, .rateNakRx ⟨{ ccnt := 64 }, 0⟩, .rateMarkRx { l := 24 },
    .rateMarkRx { seq := 4096 }, .rateMarkRx { ack := 4096 }, .rateMarkRx { cvc := 4 }, .rateMarkRx { ccnt := 64 },
    .rateProposalTimeout ⟨24, 0⟩, .quiesceDrained 24, .retrainLock 24, .retrainTimeout ⟨24, 0⟩,
    .retrainFallbackTimeout 24, .egressSchedule 867 0 none, .queuePromotion 867 0 0, .queuePromotion 0 8 0] = true := by decide +kernel
theorem test_ill_formed_10 : allIllFormed [
    .macFlushPort (.tenant 65) 0, .macInsert (.tenant 65), .macDelete (.tenant 65), .macLookup (.tenant 65),
    .macDumpStart (.tenant 65), .macDumpNext (.tenant 65), .routeInsert (.tenant 65), .routeDelete (.tenant 65),
    .routeLookupOp (.tenant 65), .laneModeWrite (.tenant 65) 0 0, .lanePolarityWrite (.tenant 65) 0 0, .portEnableWrite (.tenant 65) 0 0,
    .portDormantWrite (.tenant 65) 0 0, .portLinkUp 768 none, .portLinkLoss 768 0, .laneCdrLoss 192,
    .pauseFrameRx 768 0, .pauseExpiry 768, .pauseXoffRepeat 768, .laneGroupGate 12,
    .eyeMonitor 192 0 0, .ptpPdelayRespRx 768 0 0 0 0 0, .ptpMessageSend 768 .sync 0, .ptpAnnounceTimeout 768,
    .ptpSyncMissed 2, .ppsInEdge 2 0, .ppsLossTimeout 2, .sourceQualified 4,
    .todSetWrite (.tenant 65) 0 0, .leaderChange 0, .timeTransferRx 24 0 0 0, .ppsOutEdge 2 0,
    .trigInputEdge 32 0 true, .clickerForce (.tenant 65) 0 0 0, .clickerStop (.tenant 65) 0 0, .clickerDrain (.tenant 65) 0 0,
    .clickerRelease (.tenant 65) 0 0, .clickerResend (.tenant 65) 0 [], .trigPulseEnd 32 0, .canFrameRx 192 {} 0 0] = true := by decide +kernel
theorem test_ill_formed_11 : allIllFormed [
    .canTxSuccess 192 0, .canArbLoss 192, .canTxError 192 true 0, .busoffAutoRecovery 192 0,
    .canRecover (.tenant 65) 0 0 0, .canModeWrite (.tenant 65) 0 0, .canTxRequest (.tenant 65) 0 0 true, .canTxAbort (.tenant 65) 0,
    .canFifoRead (.tenant 65) 0, .ttCycleStart 8 0, .ttWindowStart 8 0 0, .ttWindowStart 1 64 0,
    .dictionaryWrite (.tenant 65) 0 0 [] {}, .stageCommit (.tenant 65) 0 {}, .stageDiscard (.tenant 65) 0, .commitCancel (.tenant 65) 0,
    .commitProposeRx 0 0 {} 0 0 {}, .commitAcceptRx 0 0, .commitRefuseRx 0 0 0, .commitConfirmRx 0 0,
    .commitCancelRx 0 0 0, .dtpIdleTimeout 9, .dtpSnapshotExpiry 9, .dtpKeySlotWrite (.tenant 65) 0,
    .lifecycleChange (.tenant 65) true none 0 0, .okHashWrite (.tenant 65) true [], .minSvnSet (.tenant 65) true 0, .keyInstall (.tenant 65) true,
    .keyDerive (.tenant 65) true, .keyDestroy (.tenant 65) true, .keyRemask 512, .anchorWrite (.tenant 65) 0 0 0,
    .swWrite (.tenant 65) 0 0, .resetAssert (some 3), .resetRelease { pos := 4 } 0, .resetRelease {} 4096,
    .internalResetEnd 4 0, .internalResetEnd 0 4096, .configDone (.tenant 65) 0, .refclkLoss 12 true] = true := by decide +kernel
theorem test_ill_formed_12 : allIllFormed [
    .thermalSample [], .wdtKick (.tenant 65) true 0 0, .swReset true (.tenant 65) true ⟨0, 0⟩, .canRxError 192 true 0,
    .donorCopyComplete 0, .illegalInstruction 68 0] = true := by decide +kernel

/-! ## Witnesses that name a free value: a tag, a digest of the settings, a signature -/

/-- A request that begins with `pre` and ends with a 32-octet tag parses to its parts. -/
theorem dtpParse_append (pre tag : List Byte) (n op session seq : Nat) (body : List Byte) (ht : tag.length = 32) (hp : pre.length = n + 12)
    (hn : n ≤ 1440) (h0 : slice pre 0 1 = [1]) (h8 : beNat (slice pre 8 2) = n) (h1 : beNat (slice pre 1 1) = op)
    (h2 : beNat (slice pre 2 2) = session) (h4 : beNat (slice pre 4 4) = seq) (hb : slice pre 12 n = body) :
    dtpParse (pre ++ tag) = some { op := op, session := session, seq := seq, body := body, signed := pre, tag := tag } := by
  have e : ∀ a k, a + k ≤ n + 12 → slice (pre ++ tag) a k = slice pre a k := by
    intro a k h
    have : ((pre ++ tag).drop a).take k = (pre.drop a).take k := by
      rw [List.drop_append_of_le_length (by omega), List.take_append_of_le_length (by rw [List.length_drop]; omega)]
    unfold slice
    rw [this]
  unfold dtpParse
  rw [e 8 2 (by omega), e 0 1 (by omega), e 1 1 (by omega), e 2 2 (by omega), e 4 4 (by omega), h8]
  dsimp only
  rw [e 12 n (by omega), h0, h1, h2, h4, hb, if_neg (by simp; omega), ← hp, List.take_left, List.drop_left]

theorem slice_length (bs : List Byte) (n : Nat) : (slice bs 0 n).length = n := by
  unfold slice
  rw [List.length_append, List.length_replicate, List.length_take]
  omega

/-- A module that serves DTP, with session 3 open. -/
def dtpOn : State := w [(0x1F3001, 0, 1), (0x1F3002, 0, 511), (0x642002, 511, 3)] ({ · with
  keys.slots := [(511, { shareA := [1], shareB := [2] })], dic.sessions := [(3, { key := [7] })] })
/-- The octets of a request of session 3 or of HELLO before its tag. -/
def dtpPre (op session seq : Byte) (n : Nat) : List Byte := [1, op, 0, session, 0, 0, 0, seq, 0, BitVec.ofNat 8 n, 0, 0] ++ List.replicate n 0

theorem witness_hello : ∃ d q, dtpOn.mod.Runs ∧ dtpOn.mod.on 0x1F3001 = true ∧ dtpParse d = some q ∧ q.op = 1 ∧ q.body.length = 18 ∧ q.session = 0 ∧
    dtpOn.mod.num 0x1F3002 < 512 ∧ dtpOn.mod.num 0x642002 (dtpOn.mod.num 0x1F3002) = 3 ∧ dtpOn.mod.keyBytes (dtpOn.mod.num 0x1F3002) ≠ [] ∧
    q.tag = slice (Config.hmac (dtpOn.mod.keyBytes (dtpOn.mod.num 0x1F3002)) q.signed) 0 32 :=
  ⟨_, _, by decide +kernel, by decide +kernel,
    dtpParse_append (dtpPre 1 0 5 18) (slice (Config.hmac (dtpOn.mod.keyBytes (dtpOn.mod.num 0x1F3002)) (dtpPre 1 0 5 18)) 0 32) 18 1 0 5 (List.replicate 18 0)
      (slice_length _ _) (by decide +kernel) (by decide) (by decide +kernel) (by decide +kernel) (by decide +kernel) (by decide +kernel)
      (by decide +kernel) (by decide +kernel),
    rfl, rfl, rfl, by decide +kernel, by decide +kernel, by decide +kernel, rfl⟩

theorem witness_session_tag (op : Byte) : ∃ d q, dtpOn.mod.Runs ∧ dtpOn.mod.on 0x1F3001 = true ∧ dtpParse d = some q ∧ q.op = op.toNat ∧
    dtpOn.mod.session? q.session = some { key := [7] } ∧ q.tag = slice (Config.hmac [7] q.signed) 0 32 ∧ q.seq = ({ key := [7] } : Session).seq + 1 :=
  ⟨_, _, by decide +kernel, by decide +kernel,
    dtpParse_append (dtpPre op 3 1 0) (slice (Config.hmac [7] (dtpPre op 3 1 0)) 0 32) 0 op.toNat 3 1 []
      (slice_length _ _) rfl (by decide) rfl rfl (by show 0 * 256 + op.toNat = op.toNat; omega) rfl rfl rfl,
    rfl, rfl, rfl, rfl⟩

theorem witness_wrong_tag : ∃ d q, dtpOn.mod.Runs ∧ dtpOn.mod.on 0x1F3001 = true ∧ dtpParse d = some q ∧ q.op = 4 ∧
    dtpOn.mod.session? q.session = some { key := [7] } ∧ q.tag ≠ slice (Config.hmac [7] q.signed) 0 32 := by
  have h : ∃ t : List Byte, t.length = 32 ∧ t ≠ slice (Config.hmac [7] (dtpPre 4 3 1 0)) 0 32 := by
    by_cases e : List.replicate 32 (0 : Byte) = slice (Config.hmac [7] (dtpPre 4 3 1 0)) 0 32
    · exact ⟨List.replicate 32 1, rfl, fun h => absurd (h.trans e.symm) (by decide)⟩
    · exact ⟨_, rfl, e⟩
  obtain ⟨t, ht, hne⟩ := h
  exact ⟨_, _, by decide +kernel, by decide +kernel,
    dtpParse_append (dtpPre 4 3 1 0) t 0 4 3 1 [] ht rfl (by decide) rfl rfl rfl rfl rfl rfl, rfl, rfl, hne⟩

theorem configDigest_triad (m : Mod) (t : TriadSt) : ({ m with triad := t } : Mod).configDigest = m.configDigest := by
  unfold Mod.configDigest
  rfl

theorem settingsDigest_seek (m : Mod) (t : TriadSt) (h : m.mstate = msSeek) : ({ m with triad := t } : Mod).settingsDigest = m.configDigest := by
  have h' : ({ m with triad := t } : Mod).mstate = msSeek := h
  have : ({ m with triad := t } : Mod).digestChained = false := by
    unfold Mod.digestChained
    rw [h']; decide
  unfold Mod.settingsDigest
  rw [if_neg (by rw [this]; decide)]
  exact configDigest_triad m t

/-- A module in SEEK. -/
def seeking : Mod := (w [(0x600001, 0, 1), (0x600002, 0, 1), (0x600008, 0, 3)]).mod
/-- The same once it has waited, with a peer of the same settings. -/
def seekers : State := { mod := { seeking with triad := { seekTicks := 3, peers := [(2, { mstate := msSeek, digest := seeking.configDigest })] } } }

theorem witness_seek : seekers.mod.Runs ∧ seekers.mod.mstate = msSeek ∧ seekers.mod.num 0x600008 ≤ seekers.mod.triad.seekTicks ∧
    seekers.mod.triad.kForm = none ∧ (Table.get seekers.mod.triad.peers {} 2).mstate = msSeek ∧
    (Table.get seekers.mod.triad.peers {} 2).digest = seekers.mod.settingsDigest ∧ seekers.mod.rank < 2 ∧
    (∀ x, x = 1 ∨ x = 2 ∨ x = 3 → x = seekers.mod.rank ∨ seekers.mod.num 0x600102 x ≠ msMember) :=
  ⟨by decide +kernel, by decide +kernel, by decide +kernel, by decide +kernel, by decide +kernel,
    (settingsDigest_seek seeking _ (by decide +kernel)).symm, by decide +kernel, by intro x h; rcases h with rfl | rfl | rfl <;> decide +kernel⟩

/-- A boot copy of one word, for a module that accepts the vendor's key. -/
def bootCopy : List Byte := [0x4B, 0x42, 0x4F, 0x54, 1, 0, 0, 0, 4, 0, 0, 0] ++ List.replicate 12 0 ++ List.replicate 32 0x41 ++ List.replicate 4044 0
/-- A module at step 4 of start-up, its vendor key hash fused. -/
def booting : State := w [(0x203001, 0, 4)] ({ · with nv.fuses.groups := [255, 0, 0, 0, 0], nv.fuses.vkHash := Config.sha384 (slice bootCopy 0x100 97) })

/-- No signature evaluates in Lean: a copy is accepted where the one free check holds. -/
theorem witness_boot (h : Config.ecdsaOk (slice bootCopy 0x100 97) (slice bootCopy 0x180 96) (bootCopy.take 0x180 ++ slice bootCopy 0x1000 4) = true) :
    booting.mod.num 0x203001 = 4 ∧ booting.mod.power.halted = false ∧ booting.mod.copyCause (some bootCopy) = 0 := by
  refine ⟨by decide +kernel, by decide +kernel, ?_⟩
  have hk : booting.mod.bootKey = some (0, Config.sha384 (slice bootCopy 0x100 97)) := rfl
  have hl : field bootCopy 8 4 = 4 := by decide +kernel
  unfold Mod.copyCause
  simp only [hk, hl]
  rw [if_neg (by decide +kernel), if_neg (fun e => e rfl), if_neg (by rw [h]; decide), if_neg (by decide +kernel), if_neg (by decide +kernel),
    if_neg (by decide +kernel)]

/-- The same of the second copy, the first one unread. -/
theorem witness_second_copy
    (h : Config.ecdsaOk (slice bootCopy 0x100 97) (slice bootCopy 0x180 96) (bootCopy.take 0x180 ++ slice bootCopy 0x1000 4) = true) :
    booting.mod.num 0x203001 = 4 ∧ booting.mod.power.halted = false ∧ booting.mod.copyCause none ≠ 0 ∧ booting.mod.copyCause (some bootCopy) = 0 :=
  ⟨by decide +kernel, by decide +kernel, by decide +kernel, (witness_boot h).2.2⟩

/-- The words that a pass loads stand over well-formed words of the engine. -/
theorem witness_pass_words : ∃ (m : Mod) (g r : Nat), Table.wf 0 (m.engine g).words = true ∧ (r < 0xF00 ∨ 0xF03 < r) := ⟨w0.mod, 0, 0, by decide +kernel⟩

/-- A state image has octets. -/
theorem tenantImage_pos (m : Mod) (t : Nat) : 0 < (m.tenantImage t).length := by
  unfold Mod.tenantImage Mod.stateImage
  simp [toLE]

/-! ## Witnesses of the obligations -/

theorem witness_QueueKept :
    ∃ (c : Instr) (s t : State), (exec c s = .next t) :=
  ⟨.tickStop .supervisor, State.reset, State.reset, rfl⟩

theorem witness_StepKeepsGood :
    ∃ (s t : State), (s.Good) ∧ (step s = .next t) :=
  ⟨State.reset, State.reset, ⟨by decide +kernel, by decide +kernel, by decide +kernel⟩, rfl⟩

theorem witness_HeldInReset :
    ∃ (c : Instr) (s : State), (s.mod.power.held ≠ 0) ∧ (actsInReset c = false) :=
  ⟨.tickStart, (w [] ({ · with power.held := 1 })), by decide +kernel⟩

theorem witness_WritesBeforeStepSix :
    ∃ (c : Instr) (p : Path) (s : State), (gatedPath c = some p) ∧ (s.mod.Reaches p) ∧ (s.mod.configured = false) :=
  ⟨.tickStop .supervisor, .supervisor, (w [(0x203001, 0, 6)]), by decide +kernel⟩

theorem witness_TenantsHaveNoAccessByName :
    ∃ (c : Instr) (t : Nat) (s : State), (gatedPath c = some (.tenant t) ∨ earlyPath c = some (.tenant t)) ∧ (s.mod.Runs) :=
  ⟨.keyInstall (.tenant 64) true, 64, w0, by decide +kernel⟩

theorem witness_TickStartsAndStops :
    (∃ (s : State), (s.mod.Runs) ∧ (s.mod.inPhase .P = true) ∧ (s.mod.tick.stopPending = false)) ∧
    (∃ (s : State), (s.mod.Runs) ∧ (s.mod.inPhase .P = true) ∧ (s.mod.tick.stopPending = true)) ∧
    (∃ (s : State), (s.mod.inPhase .P = false)) ∧
    (∃ (s : State), (s.mod.Runs) ∧ (s.mod.tick.running = false) ∧ (s.mod.on 0x200003 = true) ∧ (s.mod.num 0x203001 = 8) ∧ (s.mod.heldTod = true)) ∧
    (∃ (s : State) (p : Path), (s.mod.Serves p) ∧ (s.mod.tick.running = true)) ∧
    (∃ (s : State) (p : Path), (s.mod.Serves p) ∧ (lastRate s.mod.activeLast = s.mod.num 0x200001) ∧ (s.mod.on 0x200003 = false) ∧ (8 < s.mod.num 0x203001) ∧ (s.mod.Good)) ∧
    (∃ (s : State) (p : Path), (s.mod.Serves p) ∧ (lastRate s.mod.activeLast ≠ s.mod.num 0x200001)) :=
  ⟨⟨(w [] ({ · with tick.phase := .P, tick.stopPending := false })), by decide +kernel⟩,
    ⟨(w [] ({ · with tick.phase := .P, tick.stopPending := true })), by decide +kernel⟩,
    ⟨w0, by decide +kernel⟩,
    ⟨(w [(0x200003, 0, 1), (0x203001, 0, 8)] ({ · with tick.running := false, time.todSet := true })), by decide +kernel⟩,
    ⟨(w [] ({ · with tick.running := true })), .supervisor, by decide +kernel⟩,
    ⟨(w [(0x200003, 0, 0), (0x203001, 0, 9)]), .supervisor, by and_intros <;> first | decide +kernel | exact ⟨by decide +kernel, by decide +kernel, by decide +kernel⟩⟩,
    ⟨(w [(0x200001, 0, 1)]), .supervisor, by decide +kernel⟩⟩

theorem witness_LastIsLoadedAndChecked :
    (∃ (s : State) (p : Path) (img : List Byte), (s.mod.Serves p) ∧ (s.mod.swapPending = false) ∧ (img.length ≤ 12516)) ∧
    (∃ (s : State) (p : Path), (s.mod.Serves p) ∧ (s.mod.swapPending = true)) ∧
    (∃ (s : State) (p : Path), (s.mod.Serves p)) ∧
    (∃ (s : State) (p : Path) (v : Nat), (s.mod.Serves p) ∧ (v ≠ 1)) ∧
    (∃ (s : State), (s.mod.Runs) ∧ (s.mod.Good) ∧ (s.mod.tick.checkPending = true)) ∧
    (∃ (s : State) (p : Path), (s.mod.Serves p)) ∧
    (∃ (s : State) (p : Path) (v : Nat), (s.mod.Serves p) ∧ (v ≤ 1) ∧ (s.mod.stopped = true)) ∧
    (∃ (s : State) (p : Path) (v : Nat), (s.mod.Serves p) ∧ (v ≤ 1) ∧ (s.mod.stopped = false) ∧ (s.mod.isMember = false)) :=
  ⟨⟨w0, .supervisor, [], by decide +kernel⟩,
    ⟨(w [(0x202006, 0, 1)]), .supervisor, by decide +kernel⟩,
    ⟨w0, .supervisor, by decide +kernel⟩,
    ⟨w0, .supervisor, 0, by decide +kernel⟩,
    ⟨(w [] ({ · with tick.checkPending := true })), by decide +kernel, ⟨by decide +kernel, by decide +kernel, by decide +kernel⟩, by decide +kernel⟩,
    ⟨w0, .supervisor, by decide +kernel⟩,
    ⟨(w [] ({ · with tick.running := false })), .supervisor, 0, by decide +kernel⟩,
    ⟨w0, .supervisor, 0, by decide +kernel⟩⟩

theorem witness_WorkingSamples :
    (∃ (shift v : Nat), (shift ≤ 8) ∧ (v < 2 ^ 32)) ∧
    (∃ (c : Nat), (c < 16384)) ∧
    (∃ (r : ObjRow) (v : Nat), (objRow? 0x441002 = some r) ∧ (v < 256)) ∧
    (∃ (depth n bank : Nat), (0 < depth) ∧ (0 < n) ∧ (bank ≤ 1)) :=
  ⟨⟨0, 0, by decide +kernel⟩,
    ⟨0, by decide +kernel⟩,
    ⟨_, 8, (Option.some_get (by decide +kernel)).symm, by decide⟩,
    ⟨1, 1, 0, by decide +kernel⟩⟩

theorem witness_KeyFingerprints :
    ∃ (m : Mod) (i : Nat), (m.Good) ∧ (i < 512) :=
  ⟨w0.mod, 0, ⟨by decide +kernel, by decide +kernel, by decide +kernel⟩, by decide +kernel⟩

theorem witness_TargetWritesPropose :
    (∃ (s : State) (p : Path) (t : Nat), (s.mod.Joins p 0x202005 0 t)) ∧
    (∃ (s : State) (p : Path) (i t : Nat), (4 ≤ i) ∧ (s.mod.Joins p 0x44200C i t)) ∧
    (∃ (s : State) (p : Path) (i t : Nat), (s.mod.Joins p 0x581005 i t) ∧ (p = .supervisor ∨ s.mod.engState i ≠ enFaulted)) ∧
    (∃ (s : State) (p : Path) (i t : Nat), (s.mod.Joins p 0x581007 i t)) ∧
    (∃ (s : State) (p : Path) (i t : Nat), (s.mod.Joins p 0x510003 i t)) ∧
    (∃ (s : State) (p : Path) (i t : Nat), (s.mod.Joins p 0x510004 i t)) ∧
    (∃ (s : State) (p : Path) (i t : Nat), (s.mod.Joins p 0x510005 i t)) ∧
    (∃ (s : State) (p : Path) (i t : Nat), (s.mod.Joins p 0x510007 i t)) ∧
    (∃ (s : State) (p : Path) (i t : Nat), (s.mod.Joins p 0x511010 i t)) ∧
    (∃ (s : State) (p : Path) (t : Nat), (s.mod.Joins p 0x515005 0 t)) :=
  ⟨⟨w0, .supervisor, 2000, (by unfold Mod.Joins; decide +kernel)⟩,
    ⟨w0, .supervisor, 4, 2000, by decide +kernel, (by unfold Mod.Joins; decide +kernel)⟩,
    ⟨w0, .supervisor, 15, 2000, (by unfold Mod.Joins; decide +kernel), by decide +kernel⟩,
    ⟨w0, .supervisor, 0, 2000, (by unfold Mod.Joins; decide +kernel)⟩,
    ⟨w0, .supervisor, 1, 2000, (by unfold Mod.Joins; decide +kernel)⟩,
    ⟨w0, .supervisor, 64, 2000, (by unfold Mod.Joins; decide +kernel)⟩,
    ⟨w0, .supervisor, 1, 2000, (by unfold Mod.Joins; decide +kernel)⟩,
    ⟨w0, .supervisor, 1, 2000, (by unfold Mod.Joins; decide +kernel)⟩,
    ⟨w0, .supervisor, 1, 2000, (by unfold Mod.Joins; decide +kernel)⟩,
    ⟨w0, .supervisor, 2000, (by unfold Mod.Joins; decide +kernel)⟩⟩

theorem witness_ProposalsAreBarred :
    (∃ (s : State) (p : Path) (t : Nat), (s.mod.Serves p) ∧ (t < 2 ^ 48) ∧ (s.mod.stage p = [])) ∧
    (∃ (s : State) (p : Path) (t : Nat), (s.mod.Serves p) ∧ (t < 2 ^ 48) ∧ (s.mod.stage p ≠ []) ∧ (s.mod.stopped = false) ∧ (s.mod.isMember = false) ∧ (s.mod.mstate ≠ msStandalone)) ∧
    (∃ (s : State) (p : Path) (t : Nat), (s.mod.Serves p) ∧ (t < 2 ^ 48) ∧ (s.mod.stage p ≠ []) ∧ (s.mod.stopped = false) ∧ (s.mod.isMember = true ∨ s.mod.mstate = msStandalone) ∧ (swapsLast (s.mod.stage p) = false) ∧ (swapsProfiles (s.mod.stage p) = []) ∧ (t ≠ 0) ∧ (t < s.mod.k + 48 ∨ s.mod.k + 2 ^ 24 < t)) ∧
    (∃ (s : State) (p : Path) (t : Nat), (s.mod.Serves p) ∧ (t < 2 ^ 48) ∧ (s.mod.stage p ≠ []) ∧ (s.mod.stopped = false) ∧ (s.mod.isMember = true ∨ s.mod.mstate = msStandalone) ∧ (s.mod.k + 48 ≤ t) ∧ (t ≤ s.mod.k + 2 ^ 24) ∧ (64 ≤ s.mod.pendingCommits.length)) :=
  ⟨⟨w0, .supervisor, 0, by decide +kernel⟩,
    ⟨(w [(0x600002, 0, 0)] ({ · with dic.stages := [(pathNo .supervisor, [{ obj := 0x481010, sel := 0, val := .num 5 }])] })), .supervisor, 2000, by decide +kernel⟩,
    ⟨(w [(0x600002, 0, 4)] ({ · with dic.stages := [(pathNo .supervisor, [{ obj := 0x481010, sel := 0, val := .num 5 }])] })), .supervisor, 1047, by decide +kernel⟩,
    ⟨(w [(0x600002, 0, 6)] ({ · with dic.stages := [(pathNo .supervisor, [{ obj := 0x481010, sel := 0, val := .num 5 }])], dic.held := List.replicate 64 {} })), .supervisor, 1048, by decide +kernel⟩⟩

theorem witness_ProposalsAreTakenUp :
    (∃ (s : State) (p : Path) (t : Nat) (env : Env), (s.mod.Serves p) ∧ (0 < t) ∧ (t < 2 ^ 48) ∧ (s.mod.stage p ≠ []) ∧ (s.mod.stopped = false) ∧ (s.mod.isMember = true ∨ s.mod.mstate = msStandalone) ∧ (swapsLast (s.mod.stage p) = false) ∧ (swapsProfiles (s.mod.stage p) = []) ∧ (s.mod.k + 48 ≤ t) ∧ (t ≤ s.mod.k + 2 ^ 24) ∧ (s.mod.pendingCommits.length < 64) ∧ (((((s.mod.identified p).expected env (s.mod.proposal p t (s.mod.stage p))).commitVerdict env (s.mod.proposal p t (s.mod.stage p))).code = 0))) ∧
    (∃ (s : State) (p : Path) (t : Nat) (env : Env), (s.mod.Serves p) ∧ (0 < t) ∧ (t < 2 ^ 48) ∧ (s.mod.stage p ≠ []) ∧ (s.mod.stopped = true) ∧ (swapsLast (s.mod.stage p) = false) ∧ (swapsProfiles (s.mod.stage p) = []) ∧ ((((s.mod.identified p).commitVerdict env (s.mod.proposal p t (s.mod.stage p))).code = 0))) :=
  ⟨⟨(w [(0x600002, 0, 6)] ({ · with dic.stages := [(pathNo .supervisor, [{ obj := 0x481010, sel := 0, val := .num 5 }])] })), .supervisor, 1048, {}, by and_intros <;> decide +kernel⟩,
    ⟨(w [] ({ · with dic.stages := [(pathNo .supervisor, [{ obj := 0x481010, sel := 0, val := .num 5 }])], tick.running := false })), .supervisor, 1, {}, by and_intros <;> decide +kernel⟩⟩

theorem witness_CommitsAreCancelled :
    (∃ (s : State) (p : Path), (s.mod.Serves p)) ∧
    (∃ (s : State) (p : Path) (v : Nat), (s.mod.Serves p) ∧ (v ≠ 1)) ∧
    (∃ (s : State) (p : Path) (id : Nat) (c : Commit), (s.mod.Serves p) ∧ (s.mod.commit? id = some c) ∧ (c.state = .proposed ∨ c.state = .confirmed) ∧ (s.mod.k + 16 < c.target)) ∧
    (∃ (s : State) (p : Path) (id : Nat), (s.mod.Serves p) ∧ ((∀ c, s.mod.commit? id = some c → c.target ≤ s.mod.k + 16 ∨ (c.state ≠ .proposed ∧ c.state ≠ .confirmed)))) ∧
    (∃ (s : State) (id : Nat) (c : Commit), (s.mod.Runs) ∧ (s.mod.commit? id = some c) ∧ (c.state = .proposed ∨ c.state = .confirmed) ∧ (s.mod.k + 8 < c.target)) ∧
    (∃ (s : State) (id : Nat) (c : Commit), (s.mod.commit? id = some c) ∧ (c.target ≤ s.mod.k + 8)) :=
  ⟨⟨w0, .supervisor, by decide +kernel⟩,
    ⟨w0, .supervisor, 0, by decide +kernel⟩,
    ⟨(w [] ({ · with dic.held := [{ target := 1017 }] })), .supervisor, 0, { target := 1017 }, by decide +kernel⟩,
    ⟨w0, .supervisor, 0, by decide +kernel⟩,
    ⟨(w [] ({ · with dic.held := [{ target := 1009 }] })), 0, { target := 1009 }, by decide +kernel⟩,
    ⟨(w [] ({ · with dic.held := [{ target := 1008 }] })), 0, { target := 1008 }, by decide +kernel⟩⟩

theorem witness_MembersAnswer :
    (∃ (s : State), (s.mod.Runs)) ∧
    (∃ (m : Mod) (id : Nat) (c : Commit), (m.commit? id = some c) ∧ (c.own = true) ∧ (c.state = .proposed) ∧ (c.kind ≠ 2) ∧ (c.members.all c.accepted.contains = true) ∧ (m.k + 32 < c.target)) ∧
    (∃ (s : State), (s.mod.Runs)) ∧
    (∃ (s : State) (id : Nat) (c : Commit), (s.mod.Runs) ∧ (s.mod.commit? id = some c) ∧ (c.state = .proposed) ∧ (c.own = true) ∧ (c.kind ≠ 2)) ∧
    (∃ (s : State) (id : Nat) (c : Commit), (s.mod.Runs) ∧ (s.mod.commit? id = some c) ∧ (c.state = .proposed) ∧ (c.own = false)) ∧
    (∃ (s : State) (off len : Nat) (c : Commit), (s.mod.Runs) ∧ (s.mod.isMember = true) ∧ (covered c.recordLen ((off, len) :: Table.get s.mod.dic.frags [] c.id) = false)) ∧
    (∃ (s : State) (off len : Nat) (c : Commit), (s.mod.Runs) ∧ (s.mod.isMember = true) ∧ (covered c.recordLen ((off, len) :: Table.get s.mod.dic.frags [] c.id) = true) ∧ (c.kind ≠ 2) ∧ (s.mod.commit? c.id = none)) :=
  ⟨⟨w0, by decide +kernel⟩,
    ⟨(w [] ({ · with dic.held := [{ target := 1033 }] })).mod, 0, { target := 1033 }, by decide +kernel⟩,
    ⟨w0, by decide +kernel⟩,
    ⟨(w [] ({ · with dic.held := [{ target := 1033 }] })), 0, { target := 1033 }, by decide +kernel⟩,
    ⟨(w [] ({ · with dic.held := [{ target := 1033, own := false }] })), 0, { target := 1033, own := false }, by decide +kernel⟩,
    ⟨(w [(0x600002, 0, 4)]), 0, 0, {}, by decide +kernel⟩,
    ⟨(w [(0x600002, 0, 4)]), 0, 9176, {}, by decide +kernel⟩⟩

theorem witness_CommitsFollowTheSchedule :
    (∃ (s : State) (c : Commit), (s.mod.Runs) ∧ (c.kind ≠ 2) ∧ (s.mod.dic.held.filter (fun c => c.state == .proposed && (c.own || c.kind == 2) && decide (c.target ≤ s.mod.k + 32)) = [c])) ∧
    (∃ (s : State) (c : Commit), (s.mod.Runs) ∧ (s.mod.stopped = false) ∧ (s.mod.k ≤ c.target) ∧ (c.state = .confirmed) ∧ (s.mod.dic.held.filter (fun c => (c.state == .proposed || c.state == .confirmed || c.state == .armed) && decide (c.target ≤ s.mod.k + 8)) = [c])) ∧
    (∃ (s : State) (c : Commit), (s.mod.Runs) ∧ (s.mod.stopped = false) ∧ (s.mod.k ≤ c.target) ∧ (c.state = .proposed) ∧ (s.mod.originMember c = true) ∧ (s.mod.dic.held.filter (fun c => (c.state == .proposed || c.state == .confirmed || c.state == .armed) && decide (c.target ≤ s.mod.k + 8)) = [c])) ∧
    (∃ (s : State) (l : List Commit), (s.mod.Runs) ∧ (s.mod.inPhase .I = true) ∧ (s.mod.triad.stage = 0) ∧ (s.mod.dueCommits.mergeSort commitLe = l) ∧ (l ≠ [])) ∧
    (∃ (env : Env) (m : Mod) (c : Commit) (l : List Commit), (((m.swappedBy env l).commitVerdict env c).code = 0)) ∧
    (∃ (env : Env) (m : Mod) (c : Commit) (l : List Commit), (((m.swappedBy env l).commitVerdict env c).code ≠ 0)) ∧
    (∃ (s : State), (s.mod.inPhase .I = false ∨ s.mod.triad.stage ≠ 0 ∨ s.mod.dueCommits = [])) :=
  ⟨⟨(w [] ({ · with dic.held := [{ target := 1032 }] })), { target := 1032 }, by decide +kernel⟩,
    ⟨(w [] ({ · with dic.held := [{ target := 1008, state := .confirmed }] })), { target := 1008, state := .confirmed }, by decide +kernel⟩,
    ⟨(w [(0x600002, 0, 4)] ({ · with dic.held := [{ target := 1008 }] })), { target := 1008 }, by decide +kernel⟩,
    ⟨(w [] ({ · with dic.held := [{ target := 1000, state := .armed }], tick.phase := .I })), [{ target := 1000, state := .armed }], by decide +kernel⟩,
    ⟨{}, w0.mod, {}, [], by decide +kernel⟩,
    ⟨{}, w0.mod, { entries := [{ obj := 0x202005, val := .num 1 }] }, [], by decide +kernel⟩,
    ⟨w0, by decide +kernel⟩⟩

theorem witness_FramesAreFiled :
    (∃ (s : State), (s.mod.Runs)) ∧
    (∃ (s : State) (f : SvFrame), (s.mod.Runs) ∧ (svOutside f (s.mod.num 0x400005) = true ∨ f.asdus = [] ∨ f.asdus.any asduMalformed = true)) ∧
    (∃ (s : State) (f : SvFrame), (s.mod.Runs) ∧ (svOutside f (s.mod.num 0x400005) = false) ∧ (f.asdus ≠ []) ∧ (f.asdus.any asduMalformed = false) ∧ (s.mod.streamOf f = none)) ∧
    (∃ (s : State) (f : SvFrame) (strm n kf : Nat) (a : Asdu), (s.mod.Runs) ∧ (svOutside f (s.mod.num 0x400005) = false) ∧ (f.asdus = [a]) ∧ (asduMalformed a = false) ∧ (s.mod.streamOf f = some strm) ∧ (s.mod.num 0x401008 strm = 1) ∧ (a.svID = some (s.mod.oct 0x401005 strm)) ∧ (a.confRev = some (s.mod.num 0x401006 strm)) ∧ (a.seqLen = some (8 * s.mod.num 0x401009 strm)) ∧ (a.smpCnt = some n) ∧ (n < s.mod.streamRate strm) ∧ (f.sim = s.mod.on 0x40100E strm) ∧ (s.mod.num 0x401010 strm = 0) ∧ (f.auth ≠ .hmac) ∧ (f.auth ≠ .encrypted) ∧ (s.mod.tick.running = true) ∧ (s.mod.on 0x401007 strm = false) ∧ (s.mod.filingTick n = some kf) ∧ (s.mod.k < kf + s.mod.delay) ∧ (kf ≤ s.mod.k + 8) ∧ (Table.find? s.mod.ingest.filings (filingKey strm kf 0) = none) ∧ (a.gmIdentity = none) ∧ (s.mod.Good)) :=
  ⟨⟨w0, by decide +kernel⟩,
    ⟨w0, {}, by decide +kernel⟩,
    ⟨w0, { asdus := [{ svID := some [], smpCnt := some 7, confRev := some 1, smpSynch := some 2, seqLen := some 64 }] }, by decide +kernel⟩,
    ⟨(w [(0x401001, 0, 1)] (fun m => m.setOct 0x401002 [1, 0x0C, 0xCD, 4, 0, 1])), { appid := 16384, dstMac := [1, 0x0C, 0xCD, 4, 0, 1], asdus := [{ svID := some [], smpCnt := some 7, confRev := some 1, smpSynch := some 2, seqLen := some 64 }] }, 0, 7, 1007, { svID := some [], smpCnt := some 7, confRev := some 1, smpSynch := some 2, seqLen := some 64 }, by and_intros <;> first | decide +kernel | exact ⟨by decide +kernel, by decide +kernel, by decide +kernel⟩⟩⟩

theorem witness_StreamStates :
    (∃ (s : State) (x : Nat), (s.mod.Runs) ∧ (s.mod.num 0x401015 x = 1 ∨ s.mod.num 0x401015 x = 3) ∧ (3 ≤ (s.mod.streamRt x).present)) ∧
    (∃ (s : State) (x : Nat), (s.mod.Runs) ∧ (s.mod.num 0x401015 x = 2) ∧ (s.mod.num 0x401014 x ≤ (s.mod.streamRt x).absent)) ∧
    (∃ (s : State) (x : Nat), ((s.mod.streamRt x).present < 3 ∨ s.mod.num 0x401015 x = 0 ∨ s.mod.num 0x401015 x = 2)) ∧
    (∃ (s : State) (x : Nat), ((s.mod.streamRt x).absent < s.mod.num 0x401014 x ∨ s.mod.num 0x401015 x ≠ 2)) ∧
    (∃ (s : State) (c : Nat) (d : Delivered), (s.mod.Runs) ∧ (Table.find? s.mod.ingest.deliv c = some d) ∧ (s.mod.num 0x402003 c = 0) ∧ ((Table.get s.mod.ingest.held {} c).valid = true) ∧ (s.mod.num 0x402004 c < d.kf - (Table.get s.mod.ingest.held {} c).kg)) :=
  ⟨⟨(w [(0x401015, 0, 1)] ({ · with ingest.streams := [(0, { present := 3 })] })), 0, by decide +kernel⟩,
    ⟨(w [(0x401015, 0, 2)] ({ · with ingest.streams := [(0, { absent := 1000000 })] })), 0, by decide +kernel⟩,
    ⟨w0, 0, by decide +kernel⟩,
    ⟨w0, 0, by decide +kernel⟩,
    ⟨(w [] ({ · with ingest.deliv := [(0, { kf := 1000 })], ingest.held := [(0, { valid := true, kg := 10 })] })), 0, { kf := 1000 }, by decide +kernel⟩⟩

theorem witness_ProfilesAreLoadedAndChecked :
    (∃ (s : State) (p : Path) (i : Nat), (s.mod.Serves p) ∧ (4 ≤ i) ∧ (i < 64) ∧ (s.mod.profileSwapPending i = false)) ∧
    (∃ (s : State) (p : Path) (i : Nat) (w : List Byte), (s.mod.Serves p) ∧ (4 ≤ i) ∧ (i < 64) ∧ (w.length ≤ 576) ∧ (s.mod.profileSwapPending i = false)) ∧
    (∃ (s : State) (p : Path) (i : Nat), (s.mod.Serves p) ∧ (4 ≤ i) ∧ (i < 64) ∧ (s.mod.profileSwapPending i = true)) ∧
    (∃ (s : State) (p : Path) (i : Nat), (s.mod.Serves p) ∧ (i < 4)) ∧
    (∃ (s : State) (p : Path) (i : Nat), (s.mod.Serves p) ∧ (4 ≤ i) ∧ (i < 64)) ∧
    (∃ (s : State) (i : Nat), (s.mod.Runs) ∧ (s.mod.Good) ∧ ((s.mod.profile i).checkPending = true)) ∧
    (∃ (s : State) (p : Path) (i : Nat), (s.mod.Serves p) ∧ (4 ≤ i) ∧ (i < 64) ∧ (s.mod.stopped = true) ∧ (bit (s.mod.num 0x44200B i) 31 = true)) ∧
    (∃ (s : State) (p : Path) (i : Nat), (s.mod.Serves p) ∧ (4 ≤ i) ∧ (i < 64) ∧ (s.mod.stopped = false)) ∧
    (∃ (s : State) (p : Path) (i : Nat), (s.mod.Serves p) ∧ (4 ≤ i) ∧ (i < 64)) :=
  ⟨⟨w0, .supervisor, 4, by decide +kernel⟩,
    ⟨w0, .supervisor, 4, [], by decide +kernel⟩,
    ⟨(w [(0x44200D, 4, 1)]), .supervisor, 4, by decide +kernel⟩,
    ⟨w0, .supervisor, 0, by decide +kernel⟩,
    ⟨w0, .supervisor, 4, by decide +kernel⟩,
    ⟨(w [] ({ · with filter.profiles := [(0, { checkPending := true })] })), 0, by decide +kernel, ⟨by decide +kernel, by decide +kernel, by decide +kernel⟩, by decide +kernel⟩,
    ⟨(w [(0x44200B, 4, 2147483648)] ({ · with tick.running := false })), .supervisor, 4, by decide +kernel⟩,
    ⟨w0, .supervisor, 4, by decide +kernel⟩,
    ⟨w0, .supervisor, 4, by decide +kernel⟩⟩

theorem witness_SwapsAreCancelled :
    (∃ (s : State) (p : Path) (c : Commit), (s.mod.Serves p) ∧ (s.mod.swapPending = true) ∧ (s.mod.commit? s.mod.tick.swapCommit = some c) ∧ (c.state = .proposed ∨ c.state = .confirmed) ∧ (s.mod.k + 16 < c.target)) ∧
    (∃ (s : State) (p : Path), (s.mod.Serves p) ∧ (s.mod.swapPending = false)) ∧
    (∃ (s : State) (p : Path) (i : Nat) (c : Commit), (s.mod.Serves p) ∧ (4 ≤ i) ∧ (i < 64) ∧ (s.mod.profileSwapPending i = true) ∧ (s.mod.commit? (s.mod.profile i).swapCommit = some c) ∧ (c.state = .proposed ∨ c.state = .confirmed) ∧ (s.mod.k + 16 < c.target)) ∧
    (∃ (s : State) (p : Path) (i : Nat), (s.mod.Serves p) ∧ (4 ≤ i) ∧ (i < 64) ∧ (s.mod.profileSwapPending i = false)) :=
  ⟨⟨(w [(0x202006, 0, 1)] ({ · with dic.held := [{ target := 1017 }] })), .supervisor, { target := 1017 }, by decide +kernel⟩,
    ⟨w0, .supervisor, by decide +kernel⟩,
    ⟨(w [(0x44200D, 4, 1)] ({ · with dic.held := [{ target := 1017 }] })), .supervisor, 4, { target := 1017 }, by decide +kernel⟩,
    ⟨w0, .supervisor, 4, by decide +kernel⟩⟩

theorem witness_GroupStates :
    (∃ (s : State) (v : Nat), (s.mod.Runs) ∧ (s.mod.inPhase .F = true) ∧ (s.mod.num 0x45200A v = 1) ∧ (48 ≤ (s.mod.group v).lockRun) ∧ (s.mod.Good)) ∧
    (∃ (s : State) (v : Nat), (s.mod.Runs) ∧ (s.mod.inPhase .F = true) ∧ (s.mod.num 0x45200A v = 2) ∧ (8 ≤ (s.mod.group v).errRun) ∧ (s.mod.Good)) ∧
    (∃ (s : State) (v : Nat), (s.mod.Runs) ∧ (s.mod.inPhase .F = true) ∧ (s.mod.num 0x45200A v = 1 ∨ s.mod.num 0x45200A v = 2) ∧ (s.mod.num 0x452006 v ≤ (s.mod.group v).absentRun) ∧ (s.mod.Good)) ∧
    (∃ (s : State) (v : Nat), (s.mod.Runs) ∧ (s.mod.inPhase .F = true) ∧ (s.mod.num 0x45200A v = 3) ∧ (3 ≤ (s.mod.group v).presentRun)) ∧
    (∃ (s : State) (v : Nat), (s.mod.Runs) ∧ (s.mod.inPhase .F = true) ∧ (s.mod.num 0x45200A v = 3) ∧ (s.mod.num 0x452007 v ≤ (s.mod.group v).holdTicks) ∧ ((s.mod.group v).presentRun < 3)) ∧
    (∃ (s : State) (v : Nat), (s.mod.Runs) ∧ (s.mod.inPhase .F = true) ∧ (s.mod.num 0x45200A v = 4) ∧ (3 ≤ (s.mod.group v).presentRun)) ∧
    (∃ (s : State) (v : Nat), (s.mod.Runs) ∧ (s.mod.inPhase .F = true) ∧ ((s.mod.group v).limitRun = 48)) ∧
    (∃ (s : State) (v : Nat), (s.mod.Runs) ∧ (s.mod.inPhase .F = true) ∧ (s.mod.num 0x45200A v = 2) ∧ (s.mod.num 0x452009 v + 1 ≤ (s.mod.group v).lockedTicks) ∧ ((s.mod.group v).rocofValid = false) ∧ (s.mod.Good)) :=
  ⟨⟨(w [(0x45200A, 0, 1)] ({ · with tick.phase := .F, phasor.groups := [(0, { lockRun := 48 })] })), 0, by and_intros <;> first | decide +kernel | exact ⟨by decide +kernel, by decide +kernel, by decide +kernel⟩⟩,
    ⟨(w [(0x45200A, 0, 2)] ({ · with tick.phase := .F, phasor.groups := [(0, { errRun := 8 })] })), 0, by and_intros <;> first | decide +kernel | exact ⟨by decide +kernel, by decide +kernel, by decide +kernel⟩⟩,
    ⟨(w [(0x45200A, 0, 1)] ({ · with tick.phase := .F, phasor.groups := [(0, { absentRun := 1000000 })] })), 0, by and_intros <;> first | decide +kernel | exact ⟨by decide +kernel, by decide +kernel, by decide +kernel⟩⟩,
    ⟨(w [(0x45200A, 0, 3)] ({ · with tick.phase := .F, phasor.groups := [(0, { presentRun := 3 })] })), 0, by decide +kernel⟩,
    ⟨(w [(0x45200A, 0, 3)] ({ · with tick.phase := .F, phasor.groups := [(0, { holdTicks := 1000000 })] })), 0, by decide +kernel⟩,
    ⟨(w [(0x45200A, 0, 4)] ({ · with tick.phase := .F, phasor.groups := [(0, { presentRun := 3 })] })), 0, by decide +kernel⟩,
    ⟨(w [] ({ · with tick.phase := .F, phasor.groups := [(0, { limitRun := 48 })] })), 0, by decide +kernel⟩,
    ⟨(w [(0x45200A, 0, 2)] ({ · with tick.phase := .F, phasor.groups := [(0, { lockedTicks := 1000000, rocofValid := false })] })), 0, by and_intros <;> first | decide +kernel | exact ⟨by decide +kernel, by decide +kernel, by decide +kernel⟩⟩⟩

theorem witness_PhasesAndSlots :
    (∃ (s : State), (s.mod.Runs) ∧ (s.mod.inPhase .I = true) ∧ (s.mod.triad.stage = 2)) ∧
    (∃ (s : State), (s.mod.inPhase .I = false ∨ s.mod.triad.stage ≠ 2)) ∧
    (∃ (s : State), (s.mod.inPhase .F = false)) ∧
    (∃ (s : State), (s.mod.Runs) ∧ (s.mod.inPhase .F = true)) ∧
    (∃ (s : State) (e : Nat), (s.mod.Runs) ∧ (s.mod.slotWritable e = true) ∧ (s.mod.slotType e ≠ 8) ∧ (bit (s.mod.slot e).out 0 = true) ∧ (s.mod.num 0x481010 e < (s.mod.slot e).up) ∧ (bit (s.mod.slot e).out 1 = false)) ∧
    (∃ (s : State) (e : Nat), (s.mod.Runs) ∧ (s.mod.slotWritable e = true) ∧ (bit (s.mod.slot e).out 1 = true) ∧ ((s.mod.slot e).opRaw = false) ∧ (s.mod.num 0x481011 e < (s.mod.slot e).dn)) ∧
    (∃ (s : State) (e : Nat), (s.mod.Runs) ∧ (s.mod.slotWritable e = true) ∧ (s.mod.slotType e = 8) ∧ ((s.mod.slot e).running = true) ∧ (bit (s.mod.slot e).out 0 = true) ∧ (bit (s.mod.slot e).out 1 = false) ∧ (ticksOf s.mod.hz (s.mod.sett e 3) + 1 ≤ (s.mod.slot e).nRun) ∧ (modeCurve (s.mod.slotMode e) = 0 ∨ 2 ^ 32 ≤ (s.mod.slot e).acc)) ∧
    (∃ (s : State) (e : Nat), (s.mod.Runs) ∧ (s.mod.slotWritable e = true) ∧ (s.mod.slotType e = 8) ∧ (modeReset (s.mod.slotMode e) = 1) ∧ ((s.mod.slot e).running = false) ∧ (ticksOf s.mod.hz (s.mod.sett e 4) < (s.mod.slot e).offRun)) :=
  ⟨⟨(w [] ({ · with tick.phase := .I, triad.stage := 2 })), by decide +kernel⟩,
    ⟨w0, by decide +kernel⟩,
    ⟨w0, by decide +kernel⟩,
    ⟨(w [] ({ · with tick.phase := .F })), by decide +kernel⟩,
    ⟨(w [(0x481001, 0, 1)] ({ · with tick.phase := .E, element.slots := [(0, { out := 1, up := 1000000 })] })), 0, by decide +kernel⟩,
    ⟨(w [(0x481001, 0, 1)] ({ · with tick.phase := .E, element.slots := [(0, { out := 2, opRaw := false, dn := 1000000 })] })), 0, by decide +kernel⟩,
    ⟨(w [(0x481001, 0, 8)] ({ · with tick.phase := .E, element.slots := [(0, { running := true, out := 1, nRun := 1000000 })] })), 0, by decide +kernel⟩,
    ⟨(w [(0x481001, 0, 8), (0x481002, 0, 64)] ({ · with tick.phase := .E, element.slots := [(0, { offRun := 1000000 })] })), 0, by decide +kernel⟩⟩

theorem witness_LogicLoadsBits :
    (∃ (s : State) (g a : Nat), (s.mod.At g 0x1 a)) ∧
    (∃ (s : State) (g a : Nat), (s.mod.At g 0x2 a)) ∧
    (∃ (s : State) (g a : Nat), (s.mod.At g 0x3 a)) ∧
    (∃ (s : State) (g a : Nat), (s.mod.At g 0x4 a)) ∧
    (∃ (s : State) (g a : Nat), (s.mod.At g 0x5 a)) ∧
    (∃ (s : State) (g a : Nat), (s.mod.At g 0x6 a)) ∧
    (∃ (s : State) (g a : Nat), (s.mod.At g 0x7 a)) ∧
    (∃ (s : State) (g a : Nat), (s.mod.At g 0x8 a)) ∧
    (∃ (s : State) (g a v : Nat), (Table.find? (s.mod.engine g).run.writes a = some v)) ∧
    (∃ (s : State) (g a : Nat), (s.mod.atInstr g 0x1 a = false)) :=
  ⟨⟨(lg 0x4000000), 0, 0, by decide +kernel⟩,
    ⟨(lg 0x8000000), 0, 0, by decide +kernel⟩,
    ⟨(lg 0xC000000), 0, 0, by decide +kernel⟩,
    ⟨(lg 0x10000000), 0, 0, by decide +kernel⟩,
    ⟨(lg 0x14000000), 0, 0, by decide +kernel⟩,
    ⟨(lg 0x18000000), 0, 0, by decide +kernel⟩,
    ⟨(lg 0x1C000000), 0, 0, by decide +kernel⟩,
    ⟨(lg 0x20000000), 0, 0, by decide +kernel⟩,
    ⟨(lg 0 { writes := [(7, 1)] }), 0, 7, 1, by decide +kernel⟩,
    ⟨w0, 0, 0, by decide +kernel⟩⟩

theorem witness_LogicWritesBits :
    (∃ (s : State) (g a : Nat), (s.mod.At g 0x09 a)) ∧
    (∃ (s : State) (g a : Nat), (s.mod.At g 0x0A a)) ∧
    (∃ (s : State) (g a : Nat), (s.mod.At g 0x0B a) ∧ ((s.mod.engine g).run.a = true)) ∧
    (∃ (s : State) (g a : Nat), (s.mod.At g 0x0B a) ∧ ((s.mod.engine g).run.a = false)) ∧
    (∃ (s : State) (g a : Nat), (s.mod.At g 0x0C a) ∧ ((s.mod.engine g).run.a = true)) ∧
    (∃ (s : State) (g a : Nat), (s.mod.At g 0x0C a) ∧ ((s.mod.engine g).run.a = false)) ∧
    (∃ (s : State) (g a : Nat), (s.mod.At g 0x18 a)) ∧
    (∃ (s : State) (g a : Nat), (s.mod.At g 0x19 a)) :=
  ⟨⟨(lg 0x24000000), 0, 0, by decide +kernel⟩,
    ⟨(lg 0x28000000), 0, 0, by decide +kernel⟩,
    ⟨(lg 0x2C000000 { a := true }), 0, 0, by decide +kernel⟩,
    ⟨(lg 0x2C000000 { a := false }), 0, 0, by decide +kernel⟩,
    ⟨(lg 0x30000000 { a := true }), 0, 0, by decide +kernel⟩,
    ⟨(lg 0x30000000 { a := false }), 0, 0, by decide +kernel⟩,
    ⟨(lg 0x60000000), 0, 0, by decide +kernel⟩,
    ⟨(lg 0x64000000), 0, 0, by decide +kernel⟩⟩

theorem witness_LogicControls :
    (∃ (s : State) (g i : Nat), (s.mod.At g 0x0D i)) ∧
    (∃ (s : State) (g i : Nat), (s.mod.At g 0x0E i) ∧ ((s.mod.engine g).run.a = true)) ∧
    (∃ (s : State) (g i : Nat), (s.mod.At g 0x0E i) ∧ ((s.mod.engine g).run.a = false)) ∧
    (∃ (s : State) (g i : Nat), (s.mod.At g 0x0F i) ∧ ((s.mod.engine g).run.a = false)) ∧
    (∃ (s : State) (g i : Nat), (s.mod.At g 0x0F i) ∧ ((s.mod.engine g).run.a = true)) ∧
    (∃ (s : State) (g : Nat), (s.mod.At g 0x10 0)) ∧
    (∃ (s : State) (g : Nat), (s.mod.At g 0x11 0)) ∧
    (∃ (s : State) (g : Nat) (sv : Bool) (l : List (Bool × Bool)), (s.mod.At g 0x12 0) ∧ ((s.mod.engine g).run.branches = (sv, true) :: l)) ∧
    (∃ (s : State) (g : Nat) (sv : Bool) (l : List (Bool × Bool)), (s.mod.At g 0x12 0) ∧ ((s.mod.engine g).run.branches = (sv, false) :: l)) ∧
    (∃ (s : State) (g : Nat), (s.mod.At g 0x13 0)) ∧
    (∃ (s : State) (g sect : Nat), (s.mod.At g 0x14 sect)) ∧
    (∃ (s : State) (g r : Nat) (l : List Nat), (s.mod.At g 0x15 0) ∧ ((s.mod.engine g).run.calls = r :: l)) ∧
    (∃ (s : State) (g : Nat), (s.mod.At g 0x15 0) ∧ ((s.mod.engine g).run.calls = [])) ∧
    (∃ (s : State) (g : Nat), (s.mod.At g 0x3F 0)) :=
  ⟨⟨(lg 0x34000000), 0, 0, by decide +kernel⟩,
    ⟨(lg 0x38000000 { a := true }), 0, 0, by decide +kernel⟩,
    ⟨(lg 0x38000000 { a := false }), 0, 0, by decide +kernel⟩,
    ⟨(lg 0x3C000000 { a := false }), 0, 0, by decide +kernel⟩,
    ⟨(lg 0x3C000000 { a := true }), 0, 0, by decide +kernel⟩,
    ⟨(lg 0x40000000), 0, by decide +kernel⟩,
    ⟨(lg 0x44000000), 0, by decide +kernel⟩,
    ⟨(lg 0x48000000 { branches := [(true, true)] }), 0, true, [], by decide +kernel⟩,
    ⟨(lg 0x48000000 { branches := [(true, false)] }), 0, true, [], by decide +kernel⟩,
    ⟨(lg 0x4C000000), 0, by decide +kernel⟩,
    ⟨(lg 0x50000000), 0, 0, by decide +kernel⟩,
    ⟨(lg 0x54000000 { calls := [5] }), 0, 5, [], by decide +kernel⟩,
    ⟨(lg 0x54000000), 0, by decide +kernel⟩,
    ⟨(lg 0xFC000000), 0, by decide +kernel⟩⟩

theorem witness_LogicTimersAndCounters :
    (∃ (s : State) (g t : Nat), (s.mod.At g 0x20 t) ∧ ((s.mod.engine g).run.a = true) ∧ ((s.mod.timer g t).run = true)) ∧
    (∃ (s : State) (g t : Nat), (s.mod.At g 0x20 t) ∧ ((s.mod.engine g).run.a = true) ∧ ((s.mod.timer g t).run = false)) ∧
    (∃ (s : State) (g t : Nat), (s.mod.At g 0x20 t) ∧ ((s.mod.engine g).run.a = false)) ∧
    (∃ (s : State) (g t : Nat), (s.mod.At g 0x21 t) ∧ ((s.mod.engine g).run.a = true)) ∧
    (∃ (s : State) (g t : Nat), (s.mod.At g 0x21 t) ∧ ((s.mod.engine g).run.a = false) ∧ ((s.mod.timer g t).run = true) ∧ (s.mod.preset g t ≤ s.mod.k - (s.mod.timer g t).k0)) ∧
    (∃ (s : State) (g t : Nat), (s.mod.At g 0x21 t) ∧ ((s.mod.engine g).run.a = false) ∧ ((s.mod.timer g t).run = true) ∧ (s.mod.k - (s.mod.timer g t).k0 < s.mod.preset g t)) ∧
    (∃ (s : State) (g t : Nat), (s.mod.At g 0x21 t) ∧ ((s.mod.engine g).run.a = false) ∧ ((s.mod.timer g t).run = false) ∧ ((s.mod.timer g t).q = true) ∧ (0 < s.mod.preset g t)) ∧
    (∃ (s : State) (g t : Nat), (s.mod.At g 0x22 t) ∧ ((s.mod.engine g).run.a = true) ∧ ((s.mod.timer g t).last = false) ∧ ((s.mod.timer g t).run = false) ∧ (0 < s.mod.preset g t)) ∧
    (∃ (s : State) (g t : Nat), (s.mod.At g 0x22 t) ∧ ((s.mod.timer g t).run = true) ∧ (s.mod.preset g t ≤ s.mod.k - (s.mod.timer g t).k0)) ∧
    (∃ (s : State) (g t : Nat), (s.mod.At g 0x22 t) ∧ ((s.mod.timer g t).run = true) ∧ (s.mod.k - (s.mod.timer g t).k0 < s.mod.preset g t)) ∧
    (∃ (s : State) (g t : Nat), (s.mod.At g 0x24 t)) ∧
    (∃ (s : State) (g t : Nat), (s.mod.At g 0x35 t) ∧ ((s.mod.timer g t).run = true)) ∧
    (∃ (s : State) (g t : Nat), (s.mod.At g 0x35 t) ∧ ((s.mod.timer g t).run = false)) ∧
    (∃ (s : State) (g c : Nat), (s.mod.At g 0x28 c) ∧ ((s.mod.engine g).run.a = true) ∧ ((s.mod.counter g c).edge = false)) ∧
    (∃ (s : State) (g c : Nat), (s.mod.At g 0x28 c) ∧ ((s.mod.engine g).run.a = false ∨ (s.mod.counter g c).edge = true)) ∧
    (∃ (s : State) (g c : Nat), (s.mod.At g 0x29 c) ∧ ((s.mod.engine g).run.a = true) ∧ ((s.mod.counter g c).edge = false)) ∧
    (∃ (s : State) (g c : Nat), (s.mod.At g 0x29 c) ∧ ((s.mod.engine g).run.a = false ∨ (s.mod.counter g c).edge = true)) ∧
    (∃ (s : State) (g c : Nat), (s.mod.At g 0x2A c) ∧ ((s.mod.engine g).run.a = true)) ∧
    (∃ (s : State) (g c : Nat), (s.mod.At g 0x2B c)) ∧
    (∃ (s : State) (g c : Nat), (s.mod.At g 0x36 c)) :=
  ⟨⟨(lg 0x80000000 { a := true } ({ · with timers := [(0, { run := true })] })), 0, 0, by decide +kernel⟩,
    ⟨(lg 0x80000000 { a := true } ({ · with timers := [(0, { run := false })] })), 0, 0, by decide +kernel⟩,
    ⟨(lg 0x80000000 { a := false }), 0, 0, by decide +kernel⟩,
    ⟨(lg 0x84000000 { a := true }), 0, 0, by decide +kernel⟩,
    ⟨(lg 0x84000000 { a := false } ({ · with presets := [(0, 0)], timers := [(0, { run := true })] })), 0, 0, by decide +kernel⟩,
    ⟨(lg 0x84000000 { a := false } ({ · with presets := [(0, 5000)], timers := [(0, { run := true })] })), 0, 0, by decide +kernel⟩,
    ⟨(lg 0x84000000 { a := false } ({ · with presets := [(0, 5000)], timers := [(0, { run := false, q := true })] })), 0, 0, by decide +kernel⟩,
    ⟨(lg 0x88000000 { a := true } ({ · with presets := [(0, 5000)], timers := [(0, { last := false, run := false })] })), 0, 0, by decide +kernel⟩,
    ⟨(lg 0x88000000 {} ({ · with presets := [(0, 0)], timers := [(0, { run := true })] })), 0, 0, by decide +kernel⟩,
    ⟨(lg 0x88000000 {} ({ · with presets := [(0, 5000)], timers := [(0, { run := true })] })), 0, 0, by decide +kernel⟩,
    ⟨(lg 0x90000000), 0, 0, by decide +kernel⟩,
    ⟨(lg 0xD4000000 {} ({ · with timers := [(0, { run := true })] })), 0, 0, by decide +kernel⟩,
    ⟨(lg 0xD4000000 {} ({ · with timers := [(0, { run := false })] })), 0, 0, by decide +kernel⟩,
    ⟨(lg 0xA0000000 { a := true } ({ · with counters := [(0, { edge := false })] })), 0, 0, by decide +kernel⟩,
    ⟨(lg 0xA0000000 { a := false }), 0, 0, by decide +kernel⟩,
    ⟨(lg 0xA4000000 { a := true } ({ · with counters := [(0, { edge := false })] })), 0, 0, by decide +kernel⟩,
    ⟨(lg 0xA4000000 { a := false }), 0, 0, by decide +kernel⟩,
    ⟨(lg 0xA8000000 { a := true }), 0, 0, by decide +kernel⟩,
    ⟨(lg 0xAC000000), 0, 0, by decide +kernel⟩,
    ⟨(lg 0xD8000000), 0, 0, by decide +kernel⟩⟩

theorem witness_LogicWords :
    (∃ (s : State) (g r : Nat), (s.mod.At g 0x30 r)) ∧
    (∃ (s : State) (g c : Nat), (s.mod.At g 0x31 c)) ∧
    (∃ (s : State) (g i : Nat), (s.mod.At g 0x32 i)) ∧
    (∃ (s : State) (g r : Nat), (s.mod.At g 0x33 r) ∧ (r < 0xF00)) ∧
    (∃ (s : State) (g r : Nat), (s.mod.At g 0x33 r) ∧ (0xF00 ≤ r)) ∧
    (∃ (s : State) (g src dst : Nat), (s.mod.At g 0x34 (src * 4096 + dst)) ∧ (dst < 0xF00)) ∧
    (∃ (s : State) (g src dst : Nat), (s.mod.At g 0x34 (src * 4096 + dst)) ∧ (0xF00 ≤ dst)) ∧
    (∃ (s : State) (g r : Nat), (s.mod.At g 0x38 r)) ∧
    (∃ (s : State) (g r : Nat), (s.mod.At g 0x39 r)) ∧
    (∃ (s : State) (g r : Nat), (s.mod.At g 0x3A r)) ∧
    (∃ (s : State) (g r : Nat), (s.mod.At g 0x3B r)) ∧
    (∃ (s : State) (g r : Nat), (s.mod.At g 0x3C r)) ∧
    (∃ (s : State) (g r : Nat), (s.mod.At g 0x3D r)) :=
  ⟨⟨(lg 0xC0000000), 0, 0, by decide +kernel⟩,
    ⟨(lg 0xC4000000), 0, 0, by decide +kernel⟩,
    ⟨(lg 0xC8000000), 0, 0, by decide +kernel⟩,
    ⟨(lg 0xCC000000), 0, 0, by decide +kernel⟩,
    ⟨(lg 0xCC000F00), 0, 3840, by decide +kernel⟩,
    ⟨(lg 0xD0000000), 0, 0, 0, by decide +kernel⟩,
    ⟨(lg 0xD0000F00), 0, 0, 3840, by decide +kernel⟩,
    ⟨(lg 0xE0000000), 0, 0, by decide +kernel⟩,
    ⟨(lg 0xE4000000), 0, 0, by decide +kernel⟩,
    ⟨(lg 0xE8000000), 0, 0, by decide +kernel⟩,
    ⟨(lg 0xEC000000), 0, 0, by decide +kernel⟩,
    ⟨(lg 0xF0000000), 0, 0, by decide +kernel⟩,
    ⟨(lg 0xF4000000), 0, 0, by decide +kernel⟩⟩

theorem witness_LogicPasses :
    (∃ (s : State) (m : Mod), (s.mod.Runs) ∧ (s.mod.inPhase .E = true) ∧ (m = s.mod.each (List.range 16) (fun m g => l1Engine g m))) ∧
    (∃ (s : State), (s.mod.Runs) ∧ (s.mod.inPhase .L2 = true) ∧ (s.mod.logic.l2 = false)) ∧
    (∃ (s : State), (s.mod.inPhase .E = false)) ∧
    (∃ (s : State), (s.mod.inPhase .L2 = false ∨ s.mod.logic.l2 = true)) ∧
    (∃ (m : Mod) (pass g : Nat), (m.engState g = enRunning) ∧ (m.engineFrozen g = false) ∧ (m.passRuns g pass = true) ∧ ((m.engine g).errDue = false)) ∧
    (∃ (s : State) (g : Nat), (s.mod.Runs) ∧ ((s.mod.engine g).run.pass ≠ 0) ∧ (s.mod.budget g (s.mod.engine g).run.pass ≤ (s.mod.engine g).run.used)) ∧
    (∃ (m : Mod), ((∀ g, g < 16 → (m.engine g).run.pass = 0))) ∧
    (∃ (m : Mod) (g : Nat), (g < 16) ∧ ((m.engine g).run.pass ≠ 0) ∧ ((∀ h, h < g → (m.engine h).run.pass = 0))) ∧
    (∃ (s : State) (g : Nat), ((s.mod.engine g).run.pass = 0 ∨ (s.mod.engine g).run.used < s.mod.budget g (s.mod.engine g).run.pass)) ∧
    (∃ (s : State) (g : Nat), (s.mod.Runs) ∧ (s.mod.on 0x58100D g = true) ∧ (s.mod.engState g = enStopped) ∧ (s.mod.tick.running = true) ∧ (s.mod.triad.firstVote = some s.mod.k) ∧ (phaseCode s.mod.tick.phase < 3) ∧ (ownsClash (s.mod.engine g).own (s.mod.othersOwn g) = false) ∧ (s.mod.on 0x581006 g = false) ∧ (s.mod.Good)) ∧
    (∃ (s : State) (g : Nat), (s.mod.on 0x58100D g = false ∨ s.mod.engState g ≠ enStopped ∨ s.mod.triad.firstVote ≠ some s.mod.k ∨ 3 ≤ phaseCode s.mod.tick.phase)) :=
  ⟨⟨(w [] ({ · with tick.phase := .E })), _, by decide +kernel, by decide +kernel, rfl⟩,
    ⟨(w [] ({ · with tick.phase := .L2, logic.l2 := false })), by decide +kernel⟩,
    ⟨w0, by decide +kernel⟩,
    ⟨w0, by decide +kernel⟩,
    ⟨(w [(0x581001, 0, 2)] ({ · with tick.bankA := List.replicate 0x60 0 ++ [100] })).mod, 1, 0, by decide +kernel⟩,
    ⟨(w [] ({ · with logic.engines := [(0, { run := { pass := 1, used := 1000 } })] })), 0, by decide +kernel⟩,
    ⟨w0.mod, by decide +kernel⟩,
    ⟨(w [] ({ · with logic.engines := [(3, { run := { pass := 1 } })] })).mod, 3, by decide, by decide +kernel, by decide +kernel⟩,
    ⟨w0, 0, by decide +kernel⟩,
    ⟨(w [(0x581001, 0, 1), (0x581006, 0, 0), (0x58100D, 0, 1)] ({ · with tick.phase := .I, triad.firstVote := some 1000 })), 0, by and_intros <;> first | decide +kernel | exact ⟨by decide +kernel, by decide +kernel, by decide +kernel⟩⟩,
    ⟨(w [(0x58100D, 0, 0)]), 0, by decide +kernel⟩⟩

set_option maxRecDepth 100000 in
theorem witness_LogicImages :
    (∃ (s : State) (p : Path) (g : Nat) (img : List Byte), (s.mod.Serves p) ∧ (g < 16) ∧ (img.length ≤ 165412) ∧ (s.mod.isMember = false ∨ s.mod.stopped = true) ∧ (s.mod.engState g ≠ enRunning)) ∧
    (∃ (s : State) (p : Path) (g : Nat) (img : List Byte), (s.mod.Serves p) ∧ (g < 16) ∧ (img.length ≤ 165412) ∧ (s.mod.isMember = false ∨ s.mod.stopped = true) ∧ (s.mod.engState g = enRunning)) ∧
    (∃ (s : State) (p : Path) (g : Nat), (s.mod.Serves p) ∧ (g < 16)) ∧
    (∃ (s : State) (g : Nat), (s.mod.Runs) ∧ ((s.mod.engine g).checkPending = true) ∧ ((logicCheck g (s.mod.engine g).image (s.mod.loadedOwn g) (s.mod.engine g).viaPort) % 8192 ≠ 0)) ∧
    (∃ (s : State) (g : Nat), (s.mod.Runs) ∧ ((s.mod.engine g).checkPending = true) ∧ ((logicCheck g (s.mod.engine g).image (s.mod.loadedOwn g) (s.mod.engine g).viaPort) % 8192 = 0) ∧ ((((s.mod.setEngine g { s.mod.engine g with checkPending := false }).set 0x581004 ((logicCheck g (s.mod.engine g).image (s.mod.loadedOwn g) (s.mod.engine g).viaPort) + 2 ^ 31) g).set 0x581010 (field (s.mod.engine g).image ((s.mod.engine g).image.length - 4) 4) g).engState g = enUnloaded)) ∧
    (∃ (s : State) (p : Path) (g : Nat), (s.mod.Serves p) ∧ (g < 16) ∧ (bit (s.mod.num 0x581004 g) 31 = true)) ∧
    (∃ (s : State) (p : Path) (g : Nat), (s.mod.Serves p) ∧ (g < 16) ∧ (bit (s.mod.num 0x581004 g) 31 = false)) :=
  ⟨⟨w0, .supervisor, 0, [], by decide +kernel⟩,
    ⟨(w [(0x581001, 0, 2)]), .supervisor, 0, [], by decide +kernel⟩,
    ⟨w0, .supervisor, 0, by decide +kernel⟩,
    ⟨(w [] ({ · with logic.engines := [(0, { checkPending := true })] })), 0, by decide +kernel⟩,
    ⟨(w [] ({ · with logic.engines := [(0, { image := goodLogic, checkPending := true })] })), 0, by decide +kernel⟩,
    ⟨(w [(0x581004, 0, 2147483648)]), .supervisor, 0, by decide +kernel⟩,
    ⟨w0, .supervisor, 0, by decide +kernel⟩⟩

theorem witness_WindowsSwitchTenants :
    (∃ (s : State) (w : Nat), (s.mod.Runs) ∧ (s.mod.Good) ∧ (s.mod.inPhase .T = true ∨ (s.mod.inPhase .L1 = true ∧ ∀ g, g < 16 → (s.mod.engine g).run.pass = 0)) ∧ (w < 256) ∧ ((lastWin s.mod.activeLast w).en = true) ∧ (s.mod.k % 2 ^ (lastWin s.mod.activeLast w).div = (lastWin s.mod.activeLast w).offset) ∧ (s.mod.tnState (lastWin s.mod.activeLast w).tenant = tnRunning) ∧ ((s.mod.hart (lastWin s.mod.activeLast w).core).winTenant = 0) ∧ ((lastWin s.mod.activeLast w).tenant ≠ 0)) ∧
    (∃ (s : State) (w : Nat), (s.mod.tnState (lastWin s.mod.activeLast w).tenant ≠ tnRunning)) ∧
    (∃ (s : State) (w : Nat), (s.mod.Runs) ∧ (s.mod.Good) ∧ ((s.mod.hart ((lastWin s.mod.activeLast w).core)).winTenant ≠ 0) ∧ ((s.mod.hart ((lastWin s.mod.activeLast w).core)).winIndex = w)) ∧
    (∃ (s : State), (s.mod.Runs) ∧ (s.mod.inPhase .T = true)) ∧
    (∃ (s : State), (s.mod.inPhase .L1 = false) ∧ (s.mod.inPhase .T = false)) :=
  ⟨⟨(w [(0x510001, 3, 1)] ({ · with tick.phase := .T, tick.bankA := List.replicate 0xE0 0 ++ toLE 4 (2 ^ 31 + 3 * 2 ^ 14) })), 0, by and_intros <;> first | decide +kernel | exact ⟨by decide +kernel, by decide +kernel, by decide +kernel⟩⟩,
    ⟨w0, 0, by decide +kernel⟩,
    ⟨(w [] ({ · with ten.harts := [(0, { winTenant := 3 })] })), 0, by and_intros <;> first | decide +kernel | exact ⟨by decide +kernel, by decide +kernel, by decide +kernel⟩⟩,
    ⟨(w [] ({ · with tick.phase := .T })), by decide +kernel⟩,
    ⟨w0, by decide +kernel⟩⟩

theorem witness_RingsMoveFrames :
    (∃ (s : State) (t : Nat), (s.mod.Runs) ∧ (s.mod.tnState t ≠ tnEmpty)) ∧
    (∃ (m : Mod) (t : Nat) (d : List Byte), ((m.tenant t).tx.size ≠ 0) ∧ ((m.tenant t).tx.head ≠ (m.tenant t).tx.tail % (m.tenant t).tx.size) ∧ (m.violLimited t = false) ∧ (m.tnState t = tnRunning) ∧ (m.dmaRead t ((m.tenant t).tx.base + 16 * (m.tenant t).tx.head) 16 = some d)) ∧
    (∃ (m : Mod) (t : Nat), ((m.tenant t).tx.size = 0 ∨ (m.tenant t).tx.head = (m.tenant t).tx.tail % (m.tenant t).tx.size ∨ m.tnState t ≠ tnRunning)) ∧
    (∃ (m : Mod) (t : Nat) (d f : List Byte), ((m.setTenant t { m.tenant t with tx := { (m.tenant t).tx with head := ((m.tenant t).tx.head + 1) % (m.tenant t).tx.size } }).dmaRead t (field d 0 8) (field d 8 2) = some f)) ∧
    (∃ (m : Mod) (t : Nat) (d : List Byte), ((m.setTenant t { m.tenant t with tx := { (m.tenant t).tx with head := ((m.tenant t).tx.head + 1) % (m.tenant t).tx.size } }).dmaRead t (field d 0 8) (field d 8 2) = none)) ∧
    (∃ (s : State) (t a pa : Nat) (ok : Bool) (l : List (Nat × Bool)), (s.mod.Runs) ∧ ((s.mod.tenant t).txTaken = (a, ok) :: l) ∧ ((s.mod.setTenant t { s.mod.tenant t with txTaken := l }).dmaDest t (a + 10) 1 = some pa)) ∧
    (∃ (s : State) (t pa fa : Nat) (f : List Byte), (s.mod.Runs) ∧ (s.mod.tnState t ≠ tnEmpty) ∧ ((s.mod.tenant t).rx.size ≠ 0) ∧ ((s.mod.tenant t).rx.head ≠ (s.mod.tenant t).rx.tail % (s.mod.tenant t).rx.size) ∧ (s.mod.dmaDest t ((s.mod.tenant t).rx.base + 16 * (s.mod.tenant t).rx.head) 16 = some pa) ∧ (s.mod.dmaDest t (leNat (Memory.readN s.mod.mem pa 8)) f.length = some fa)) ∧
    (∃ (s : State) (t : Nat), ((s.mod.tenant t).rx.size = 0 ∨ (s.mod.tenant t).rx.head = (s.mod.tenant t).rx.tail % (s.mod.tenant t).rx.size)) :=
  ⟨⟨(w [(0x510001, 0, 1)]), 0, by decide +kernel⟩,
    ⟨(w [(0x510001, 1, 1), (0x511102, 1, 0x40000)] ({ · with ten.tenants := [(1, { tx := { size := 4, tail := 3 } })] })).mod, 1, List.replicate 16 0, by decide +kernel⟩,
    ⟨w0.mod, 0, by decide +kernel⟩,
    ⟨(w [(0x510001, 1, 1), (0x511102, 1, 0x40000)] ({ · with ten.tenants := [(1, { tx := { size := 4, tail := 3 } })] })).mod, 1, List.replicate 8 0 ++ [4], List.replicate 4 0, by decide +kernel⟩,
    ⟨w0.mod, 0, [], by decide +kernel⟩,
    ⟨(w [(0x510001, 1, 1), (0x511102, 1, 0x40000)] ({ · with ten.tenants := [(1, { txTaken := [(4, true)] })] })), 1, 4, 0x1002000E, true, [], by decide +kernel⟩,
    ⟨(w [(0x510001, 1, 1), (0x511102, 1, 0x40000)] ({ · with ten.tenants := [(1, { rx := { size := 4, tail := 3 } })] })), 1, 0x10020000, 0x10020000, [1], by decide +kernel⟩,
    ⟨w0, 0, by decide +kernel⟩⟩

theorem witness_SlotsAndMailboxes :
    (∃ (s : State) (t u data : Nat), (s.mod.Runs) ∧ (s.mod.tnState t = tnRunning) ∧ (u < s.mod.num 0x511108 t) ∧ ((s.mod.pub (pubInst t u)).busy = false) ∧ (bitsOf data 63 32 = s.mod.num 0x513005 (pubInst t u)) ∧ (60 ≤ data % 2 ^ 16) ∧ (data % 2 ^ 16 ≤ 1514) ∧ (data % 2 ^ 16 + 4 ≤ s.mod.num 0x51300B (pubInst t u))) ∧
    (∃ (s : State) (t u : Nat), (s.mod.Runs) ∧ (s.mod.tnState t = tnRunning) ∧ (u < s.mod.num 0x511108 t) ∧ ((s.mod.pub (pubInst t u)).busy = true)) ∧
    (∃ (s : State) (t u data : Nat), (s.mod.Runs) ∧ (s.mod.tnState t = tnRunning) ∧ (u < s.mod.num 0x511108 t) ∧ ((s.mod.pub (pubInst t u)).busy = false) ∧ (bitsOf data 63 32 ≠ s.mod.num 0x513005 (pubInst t u))) ∧
    (∃ (s : State) (t u : Nat), (s.mod.Runs) ∧ ((s.mod.pub (pubInst t u)).busy = true) ∧ (s.mod.slotCheck t u (Memory.readN s.mod.mem (vfAt t + 0x10000 + 0x800 * u) (s.mod.pub (pubInst t u)).copyLen) = 0) ∧ (Table.find? (s.mod.pub (pubInst t u)).standing (s.mod.pub (pubInst t u)).copyTick = none)) ∧
    (∃ (s : State) (t u : Nat), (s.mod.Runs) ∧ ((s.mod.pub (pubInst t u)).busy = true) ∧ (s.mod.slotCheck t u (Memory.readN s.mod.mem (vfAt t + 0x10000 + 0x800 * u) (s.mod.pub (pubInst t u)).copyLen) ≠ 0)) ∧
    (∃ (s : State) (b data : Nat), (s.mod.Runs) ∧ (b < 256) ∧ (nextTickLow s.mod.k (bitsOf data 63 32) ≠ s.mod.k ∨ s.mod.inVP = false) ∧ (nextTickLow s.mod.k (bitsOf data 63 32) ≤ s.mod.k + 2 ^ 20) ∧ (data % 2 ^ 16 + 4 ≤ s.mod.num 0x516001 b) ∧ (60 ≤ data % 2 ^ 16) ∧ (data % 2 ^ 16 ≤ 1514)) ∧
    (∃ (s : State) (b data : Nat), (s.mod.Runs) ∧ (b < 256) ∧ (nextTickLow s.mod.k (bitsOf data 63 32) = s.mod.k) ∧ (s.mod.inVP = true)) ∧
    (∃ (s : State) (b : Nat), (s.mod.Runs) ∧ ((s.mod.sc0 b).busy = true)) ∧
    (∃ (s : State) (t i : Nat), (s.mod.Runs) ∧ (0 < t) ∧ (t ≤ 64) ∧ (s.mod.tnState t ≠ tnEmpty) ∧ (i < 16) ∧ (bit (s.mod.tenant t).mbOut i = false)) ∧
    (∃ (s : State) (t i : Nat), (s.mod.Runs) ∧ (0 < t) ∧ (t ≤ 64) ∧ (s.mod.tnState t ≠ tnEmpty) ∧ (i < 16) ∧ (bit (s.mod.tenant t).mbIn i = false)) ∧
    (∃ (s : State) (t i : Nat), (s.mod.Runs) ∧ (0 < t) ∧ (t ≤ 64) ∧ (s.mod.tnState t ≠ tnEmpty) ∧ (i < 16) ∧ (bit (s.mod.tenant t).mbOut i = true)) ∧
    (∃ (s : State) (t i : Nat), (s.mod.Runs) ∧ (0 < t) ∧ (t ≤ 64) ∧ (s.mod.tnState t ≠ tnEmpty) ∧ (i < 16) ∧ (bit (s.mod.tenant t).mbIn i = true)) ∧
    (∃ (s : State) (t i : Nat), (s.mod.Runs) ∧ (0 < t) ∧ (t ≤ 64) ∧ (s.mod.tnState t ≠ tnEmpty) ∧ (i < 16)) ∧
    (∃ (s : State) (t i : Nat), (s.mod.Runs) ∧ (0 < t) ∧ (t ≤ 64) ∧ (s.mod.tnState t ≠ tnEmpty) ∧ (i < 16)) ∧
    (∃ (s : State) (t i gen : Nat), (s.mod.Runs) ∧ (0 < t) ∧ (t ≤ 64) ∧ (i < 16) ∧ (gen ≠ s.mod.num 0x510002 t)) ∧
    (∃ (s : State), (s.mod.Runs)) :=
  ⟨⟨(w [(0x510001, 1, 1), (0x511108, 1, 1)]), 1, 0, 60, by decide +kernel⟩,
    ⟨(w [(0x510001, 1, 1), (0x511108, 1, 1)] ({ · with ten.pubs := [(0, { busy := true })] })), 1, 0, by decide +kernel⟩,
    ⟨(w [(0x510001, 1, 1), (0x511108, 1, 1)]), 1, 0, 2 ^ 32 + 60, by decide +kernel⟩,
    ⟨(w [(0x513004, 0, 0)] (fun m => (((({ m with ten.pubs := [(0, { busy := true })] }).setOct 0x512001 (List.replicate 6 0) 1).setOct 0x512002 [0, 0] 1).setOct 0x512003 [0, 0] 1).setOct 0x513001 (List.replicate 6 0))), 1, 0, by decide +kernel⟩,
    ⟨(w [] ({ · with ten.pubs := [(0, { busy := true })] })), 1, 0, by decide +kernel⟩,
    ⟨w0, 255, 1001 * 2 ^ 32 + 60, by decide +kernel⟩,
    ⟨(w [] ({ · with tick.phase := .V })), 255, 1000 * 2 ^ 32 + 60, by decide +kernel⟩,
    ⟨(w [] ({ · with ten.sc0 := [(0, { busy := true })] })), 0, by decide +kernel⟩,
    ⟨(w [(0x510001, 1, 1)]), 1, 0, by decide +kernel⟩,
    ⟨(w [(0x510001, 1, 1)]), 1, 0, by decide +kernel⟩,
    ⟨(w [(0x510001, 1, 1)] ({ · with ten.tenants := [(1, { mbOut := 1 })] })), 1, 0, by decide +kernel⟩,
    ⟨(w [(0x510001, 1, 1)] ({ · with ten.tenants := [(1, { mbIn := 1 })] })), 1, 0, by decide +kernel⟩,
    ⟨(w [(0x510001, 1, 1)]), 1, 0, by decide +kernel⟩,
    ⟨(w [(0x510001, 1, 1)]), 1, 0, by decide +kernel⟩,
    ⟨(w [(0x510001, 64, 1)]), 64, 15, 9, by decide +kernel⟩,
    ⟨w0, by decide +kernel⟩⟩

theorem witness_TenantsAndHarts :
    (∃ (s : State) (p : Path) (t : Nat), (s.mod.Serves p) ∧ (0 < t) ∧ (t ≤ 64)) ∧
    (∃ (s : State) (b n : Nat) (l : List (Nat × Nat)), (s.mod.Runs) ∧ (s.mod.ten.clearing = (b, n) :: l)) ∧
    (∃ (s : State), (s.mod.Runs)) ∧
    (∃ (s : State) (j w : Nat) (mode : HartMode), (s.mod.Runs) ∧ ((s.mod.hart j).returnMode w = some mode) ∧ (isGuest mode = true) ∧ (s.mod.tnState (vmidOf (s.mod.hart j).hgatp) = tnFrozen)) ∧
    (∃ (s : State) (j w : Nat) (mode : HartMode), (s.mod.Runs) ∧ ((s.mod.hart j).returnMode w = some mode) ∧ (isGuest mode = false ∨ s.mod.tnState (vmidOf (s.mod.hart j).hgatp) ≠ tnFrozen)) ∧
    (∃ (s : State) (j w : Nat), (s.mod.Runs) ∧ ((s.mod.hart j).returnMode w = none)) ∧
    (∃ (h : HartSt), (Table.wf 0 h.csr = true)) ∧
    (∃ (s : State), (s.mod.Runs)) :=
  ⟨⟨w0, .supervisor, 1, by decide +kernel⟩,
    ⟨(w [] ({ · with ten.clearing := [(4096, 64)] })), 4096, 64, [], by decide +kernel⟩,
    ⟨w0, by decide +kernel⟩,
    ⟨(w [(0x510001, 3, 2)] ({ · with ten.harts := [(67, { mode := .vs, hgatp := 3 * 2 ^ 44 })] })), 67, 0x10200073, .vu, by decide +kernel⟩,
    ⟨(w [] ({ · with ten.harts := [(67, { mode := .hs })] })), 67, 0x10200073, .u, by decide +kernel⟩,
    ⟨(w [] ({ · with ten.harts := [(67, { mode := .u })] })), 67, 0x10200073, by decide +kernel⟩,
    ⟨{}, by decide +kernel⟩,
    ⟨w0, by decide +kernel⟩⟩

theorem witness_TenantsSubmit :
    (∃ (s : State) (t : Nat) (v : Val), (s.mod.Runs) ∧ (0 < t) ∧ (t ≤ 64) ∧ (s.mod.tnState t ≠ tnEmpty) ∧ (bit (s.mod.tenant t).dp.status 31 = false) ∧ (s.mod.portValue t = (0, v)) ∧ (s.mod.submitBar (s.mod.tenant t).dp.tick = 0)) ∧
    (∃ (s : State) (t : Nat) (v : Val), (s.mod.Runs) ∧ (0 < t) ∧ (t ≤ 64) ∧ (s.mod.tnState t ≠ tnEmpty) ∧ (bit (s.mod.tenant t).dp.status 31 = false) ∧ (s.mod.portValue t = (0, v)) ∧ (s.mod.submitBar (s.mod.tenant t).dp.tick ≠ 0)) ∧
    (∃ (s : State) (t : Nat), (bit (s.mod.tenant t).dp.status 31 = true)) :=
  ⟨⟨(w [(0x510001, 1, 1), (0x600002, 0, 6), (0x511107, 1, 1)] ({ · with ten.tenants := [(1, { dp := { addr := 0x5810 * 2 ^ 16 + 0x0D * 256, data := [1], len := 1, tick := 1048 } })] })), 1, .num 1, by decide +kernel⟩,
    ⟨(w [(0x510001, 1, 1), (0x600002, 0, 6), (0x511107, 1, 1)] ({ · with ten.tenants := [(1, { dp := { addr := 0x5810 * 2 ^ 16 + 0x0D * 256, data := [1], len := 1, tick := 1 } })] })), 1, .num 1, by decide +kernel⟩,
    ⟨(w [] ({ · with ten.tenants := [(64, { dp := { status := 2 ^ 31 } })] })), 64, by decide +kernel⟩⟩

theorem witness_TenantImages :
    (∃ (s : State) (p : Path), (s.mod.Serves p) ∧ (s.mod.frozenAll (s.mod.num 0x515001) = true) ∧ (s.mod.num 0x515003 < 2)) ∧
    (∃ (s : State) (p : Path), (s.mod.Serves p) ∧ (s.mod.frozenAll (s.mod.num 0x515001) = false)) ∧
    (∃ (s : State) (p : Path) (v : Nat), (s.mod.Serves p) ∧ (v ≠ 1)) ∧
    (∃ (s : State) (p : Path) (n : Nat), (s.mod.Reaches p) ∧ (s.mod.num 0x515003 = 1) ∧ (s.mod.frozenAll s.mod.ten.saving = true) ∧ (s.mod.ten.readPos + n < (s.mod.tenantImage s.mod.ten.saving).length)) ∧
    (∃ (s : State) (p : Path) (n : Nat), (s.mod.Reaches p) ∧ (s.mod.num 0x515003 = 1) ∧ (s.mod.frozenAll s.mod.ten.saving = true) ∧ ((s.mod.tenantImage s.mod.ten.saving).length ≤ s.mod.ten.readPos + n)) ∧
    (∃ (s : State) (p : Path), (s.mod.Reaches p) ∧ (s.mod.num 0x515003 ≠ 1)) ∧
    (∃ (s : State) (p : Path), (s.mod.Serves p) ∧ (0 < (s.mod.ten.loadBuf.length))) ∧
    (∃ (s : State) (p : Path), (s.mod.Serves p)) ∧
    (∃ (s : State) (p : Path) (off : Nat) (bs : List Byte), (s.mod.Serves p) ∧ (off = 0 ∨ off = s.mod.ten.loadBuf.length) ∧ (bit ((((({ s.mod with ten := { s.mod.ten with loadBuf := ((if off = 0 then bs else s.mod.ten.loadBuf ++ bs)) } } : Mod).set 0x515003 2).report p 0)).restoreCheck p ((if off = 0 then bs else s.mod.ten.loadBuf ++ bs))) 31 = true)) ∧
    (∃ (s : State) (p : Path) (off : Nat) (bs : List Byte), (s.mod.Serves p) ∧ (off = 0 ∨ off = s.mod.ten.loadBuf.length) ∧ (bit ((((({ s.mod with ten := { s.mod.ten with loadBuf := ((if off = 0 then bs else s.mod.ten.loadBuf ++ bs)) } } : Mod).set 0x515003 2).report p 0)).restoreCheck p ((if off = 0 then bs else s.mod.ten.loadBuf ++ bs))) 31 = false)) ∧
    (∃ (s : State) (p : Path) (off : Nat), (s.mod.Serves p) ∧ (0 < off) ∧ (off ≠ s.mod.ten.loadBuf.length)) :=
  ⟨⟨(w [(0x510001, 5, 2), (0x510006, 5, 1), (0x51000D, 5, 1), (0x515001, 0, 5)]), .supervisor, by decide +kernel⟩,
    ⟨w0, .supervisor, by decide +kernel⟩,
    ⟨w0, .supervisor, 0, by decide +kernel⟩,
    ⟨saving, .supervisor, 0, by decide +kernel, by decide +kernel, by decide +kernel, (by have h := tenantImage_pos saving.mod saving.mod.ten.saving; have e : saving.mod.ten.readPos = 0 := rfl; omega)⟩,
    ⟨saving, .supervisor, (saving.mod.tenantImage saving.mod.ten.saving).length, by decide +kernel, by decide +kernel, by decide +kernel, (by omega)⟩,
    ⟨w0, .supervisor, by decide +kernel⟩,
    ⟨(w [] ({ · with ten.loadBuf := [1] })), .supervisor, by decide +kernel⟩,
    ⟨w0, .supervisor, by decide +kernel⟩,
    ⟨(w [(0x511002, 1, 0), (0x511003, 1, 0), (0x511004, 1, 0), (0x511005, 1, 0), (0x511006, 1, 0), (0x511007, 1, 0), (0x511008, 1, 0), (0x511009, 1, 0), (0x51100A, 1, 0)]), .supervisor, 0, loadImage, by decide +kernel⟩,
    ⟨w0, .supervisor, 0, (List.replicate 28 0 ++ [255, 255] ++ List.replicate 70 0), by decide +kernel⟩,
    ⟨w0, .supervisor, 1, by decide +kernel⟩⟩

theorem witness_CoreAccesses :
    (∃ (s : State) (j a n : Nat) (bs : List Byte) (env : Env), (s.mod.coreRuns j .store a n = true) ∧ ((s.mod.drainSome env).coreTrap j .store a n = none) ∧ (regionOf a = .tenantSram ∨ regionOf a = .supSram ∨ regionOf a = .clicker) ∧ (((s.mod.drainSome env).hart j).stores.length + (storeEntries a (slice bs 0 n)).length ≤ 8)) ∧
    (∃ (m : Mod) (j a : Nat) (bs : List Byte), (m.Good) ∧ ((m.hart j).stores = [(a, bs)]) ∧ (regionOf a = .tenantSram ∨ regionOf a = .supSram ∨ regionOf a = .clicker) ∧ (inRegion (regionOf a) a bs.length = true)) ∧
    (∃ (s : State) (j a n : Nat) (env : Env), (s.mod.coreRuns j .load a n = true) ∧ ((s.mod.drainSome env).coreTrap j .load a n = none) ∧ (regionOf a = .tenantSram ∨ regionOf a = .supSram ∨ regionOf a = .clicker) ∧ (inRegion (regionOf a) a n = true)) ∧
    (∃ (h : HartSt), (h.stores = [])) ∧
    (∃ (h : HartSt) (a : Nat) (bs new : List Byte), (h.stores = [(a, new)]) ∧ (new.length = bs.length)) ∧
    (∃ (s : State) (j a n : Nat) (env : Env), (s.mod.coreRuns j .sc a n = true) ∧ ((s.mod.drainSome env).coreTrap j .sc a n = none) ∧ (((s.mod.drainSome env).hart j).stores = []) ∧ (((s.mod.drainSome env).hart j).reserved ≠ some a) ∧ (regionOf a ≠ .device)) ∧
    (∃ (s : State) (j a n cause : Nat) (hs : Bool) (acc : CoreAccess) (env : Env), (s.mod.coreRuns j acc a n = true) ∧ (s.mod.coreTrap j acc a n = some (cause, hs)) ∧ ((s.mod.drainSome env).coreTrap j acc a n = some (cause, hs))) ∧
    (∃ (m : Mod), ((∀ e, e ∈ m.ten.harts → e.2.stores = []))) ∧
    (∃ (s : State) (j a n : Nat) (acc : CoreAccess), (s.mod.coreRuns j acc a n = true) ∧ (s.mod.coreTrap j acc a n = none) ∧ (accStores acc = true) ∧ (regionOf a = .device)) :=
  ⟨⟨w0, 67, 0x127FFFF8, 8, [], {}, by decide +kernel⟩,
    ⟨(w [] ({ · with ten.harts := [(0, { stores := [(0x10020000, [1])] })] })).mod, 0, 0x10020000, [1], by and_intros <;> first | decide +kernel | exact ⟨by decide +kernel, by decide +kernel, by decide +kernel⟩⟩,
    ⟨w0, 67, 0x10000000, 8, {}, by decide +kernel⟩,
    ⟨{}, by decide +kernel⟩,
    ⟨{ stores := [(8, [1])] }, 8, [2], [1], by decide +kernel⟩,
    ⟨w0, 0, 0x20000000, 8, {}, by decide +kernel⟩,
    ⟨w0, 0, 0x70000000, 8, 5, false, .load, {}, by decide +kernel⟩,
    ⟨w0.mod, by decide +kernel⟩,
    ⟨w0, 0, 0x53FFFFFC, 4, .store, by decide +kernel⟩⟩

theorem witness_MemberStates :
    (∃ (s : State) (p : Path), (s.mod.Serves p) ∧ (s.mod.Good) ∧ (s.mod.mstate = msOut ∨ s.mod.mstate = msConflict) ∧ (s.mod.stopped = false) ∧ (s.mod.rank ≠ 0)) ∧
    (∃ (s : State), (s.mod.Runs) ∧ (s.mod.mstate = msSeek) ∧ (s.mod.triad.kForm = some s.mod.tick.k) ∧ (s.mod.inPhase .I = true) ∧ (s.mod.triad.stage = 0)) ∧
    (∃ (s : State), (s.mod.mstate ≠ msSeek ∨ s.mod.triad.kForm ≠ some s.mod.tick.k)) ∧
    (∃ (m : Mod), (m.Good)) ∧
    (∃ (s : State), (s.mod.Runs) ∧ (s.mod.Good) ∧ (s.mod.mstate = msResync) ∧ (s.mod.triad.attempts < 2)) ∧
    (∃ (s : State), (s.mod.Runs) ∧ (s.mod.Good) ∧ (s.mod.mstate = msResync) ∧ (2 ≤ s.mod.triad.attempts)) ∧
    (∃ (s : State), (s.mod.Runs) ∧ (s.mod.mstate ≠ msResync)) ∧
    (∃ (s : State), (s.mod.Runs) ∧ (s.mod.Good) ∧ (s.mod.mstate = msShadow) ∧ (48 ≤ s.mod.triad.shadowRun)) ∧
    (∃ (s : State) (r : Nat) (m : Mod), (s.mod.Runs) ∧ (s.mod.mstate = msMember) ∧ (r ≠ s.mod.rank) ∧ (s.mod.num 0x600102 r = msResync) ∧ (m = (s.mod.each s.mod.sramBlocks (fun m a => m.post { ty := .wrReq, vc := 2, dst := s.mod.num 0x600101 r, src := m.moduleId, len := 4096, offset := a, data := Memory.readN m.mem a 4096 })))) :=
  ⟨⟨(w [(0x600001, 0, 1), (0x600002, 0, 0)]), .supervisor, by and_intros <;> first | decide +kernel | exact ⟨by decide +kernel, by decide +kernel, by decide +kernel⟩⟩,
    ⟨(w [(0x600002, 0, 1)] ({ · with triad.kForm := some 1000, tick.phase := .I })), by decide +kernel⟩,
    ⟨w0, by decide +kernel⟩,
    ⟨w0.mod, ⟨by decide +kernel, by decide +kernel, by decide +kernel⟩⟩,
    ⟨(w [(0x600002, 0, 2)]), by and_intros <;> first | decide +kernel | exact ⟨by decide +kernel, by decide +kernel, by decide +kernel⟩⟩,
    ⟨(w [(0x600002, 0, 2)] ({ · with triad.attempts := 2 })), by and_intros <;> first | decide +kernel | exact ⟨by decide +kernel, by decide +kernel, by decide +kernel⟩⟩,
    ⟨w0, by decide +kernel⟩,
    ⟨(w [(0x600002, 0, 3)] ({ · with triad.shadowRun := 48 })), by and_intros <;> first | decide +kernel | exact ⟨by decide +kernel, by decide +kernel, by decide +kernel⟩⟩,
    ⟨(w [(0x600001, 0, 1), (0x600002, 0, 4), (0x600102, 0, 2)]), 0, (w [(0x600001, 0, 1), (0x600002, 0, 4), (0x600102, 0, 2)]).mod, by decide +kernel⟩⟩

theorem witness_PeersAreHeard :
    (∃ (s : State) (h : FlitHdr) (x : Hello), (s.mod.Runs) ∧ (s.mod.lkState h.l = lkHello ∨ s.mod.lkState h.l = lkFault) ∧ (s.mod.moduleId ≠ 0) ∧ (s.mod.helloFault h.l x = 0)) ∧
    (∃ (m : Mod) (l : Nat), (m.Good) ∧ (l < 24)) ∧
    (∃ (s : State) (h : FlitHdr) (x : Hello), (s.mod.Runs) ∧ (s.mod.lkState h.l = lkHello) ∧ (s.mod.moduleId ≠ 0) ∧ (s.mod.helloFault h.l x ≠ 0)) ∧
    (∃ (s : State) (h : FlitHdr) (x : Hello), (s.mod.Hears h) ∧ (x.moduleId ≠ (s.mod.advanced h 1).num 0x611006 h.l)) ∧
    (∃ (s : State) (h : FlitHdr) (x : Hello), (s.mod.Hears h) ∧ (x.moduleId = (s.mod.advanced h 1).num 0x611006 h.l)) ∧
    (∃ (s : State) (h : FlitHdr) (p : Packet), (s.mod.Takes h p) ∧ (p.dst = (s.mod.received h p).moduleId)) ∧
    (∃ (m : Mod) (l : Nat), ((m.link l).w2 = [])) ∧
    (∃ (e : W2Entry), (e.pkt.ty = .fence)) ∧
    (∃ (s : State) (h : FlitHdr) (p : Packet), (s.mod.Takes h p) ∧ (p.dst = (s.mod.received h p).moduleId)) ∧
    (∃ (m : Mod) (l ty : Nat) (p : Packet) (x : TriadHdr × List Byte), (m.triadMsg l ty p = some x)) ∧
    (∃ (m : Mod) (l : Nat) (p : Packet) (h : TriadHdr) (b : List Byte), (m.Good) ∧ (m.triadMsg l 1 p = some (h, b)) ∧ (m.triad.stage = 0)) ∧
    (∃ (m : Mod) (l : Nat) (p : Packet), (m.triadMsg l 1 p = none ∨ m.triad.stage ≠ 0)) ∧
    (∃ (m : Mod) (l : Nat) (p : Packet) (h : TriadHdr) (b : List Byte), (m.Good) ∧ (m.triadMsg l 2 p = some (h, b)) ∧ (m.triad.stage < 4)) ∧
    (∃ (m : Mod) (l : Nat) (p : Packet), (m.triadMsg l 2 p = none ∨ 4 ≤ m.triad.stage)) ∧
    (∃ (ty : Nat) (h : TriadHdr) (b : List Byte), (ty < 256) ∧ (h.rank < 256) ∧ (h.moduleId < 256) ∧ (h.mstate < 256) ∧ (h.tick < 2 ^ 64) ∧ (h.digest < 2 ^ 32) ∧ (h.status < 2 ^ 32) ∧ (h.laceView < 2 ^ 16) ∧ (h.voteView < 2 ^ 16) ∧ (b.length < 65500)) :=
  ⟨⟨(w [(0x610001, 0, 1), (0x611001, 0, 2), (0x611004, 0, 2)]), {}, { moduleId := 254, lanes := 2 }, by decide +kernel⟩,
    ⟨w0.mod, 0, ⟨by decide +kernel, by decide +kernel, by decide +kernel⟩, by decide +kernel⟩,
    ⟨(w [(0x610001, 0, 1), (0x611004, 0, 2)]), {}, {}, by decide +kernel⟩,
    ⟨(w [(0x610001, 0, 1), (0x611004, 0, 3)]), {}, { moduleId := 2 }, by decide +kernel⟩,
    ⟨(w [(0x610001, 0, 1), (0x611004, 0, 3)]), {}, {}, by decide +kernel⟩,
    ⟨(w [(0x610001, 0, 1), (0x611004, 0, 3)]), {}, { ty := .fence, vc := 2, dst := 1 }, by decide +kernel⟩,
    ⟨w0.mod, 0, by decide +kernel⟩,
    ⟨{ pkt := { ty := .fence, vc := 2 } }, by decide +kernel⟩,
    ⟨(w [(0x610001, 0, 1), (0x611004, 0, 3)]), {}, { vc := 0, dst := 1 }, by decide +kernel⟩,
    ⟨linked 0, 0, 1, triadPacket 1, ({ rank := 2, tick := 1000 }, []), by decide +kernel⟩,
    ⟨linked 0, 0, triadPacket 1, { rank := 2, tick := 1000 }, [], ⟨by decide +kernel, by decide +kernel, by decide +kernel⟩, by decide +kernel, by decide +kernel⟩,
    ⟨w0.mod, 0, {}, by decide +kernel⟩,
    ⟨linked 3, 0, triadPacket 2, { rank := 2, tick := 1000 }, [], ⟨by decide +kernel, by decide +kernel, by decide +kernel⟩, by decide +kernel, by decide +kernel⟩,
    ⟨w0.mod, 0, {}, by decide +kernel⟩,
    ⟨0, {}, [], by decide +kernel⟩⟩

theorem witness_AgreementPerTick :
    (∃ (s : State) (m : Mod), (s.mod.Runs) ∧ (s.mod.triad.stage = 0) ∧ (s.mod.tick.phase = .I) ∧ (s.mod.tick.running = true) ∧ (m = s.mod.each ((if s.mod.inTriad then s.mod.otherMembers.filter (fun r => (Table.find? s.mod.triad.agrees r).isNone) else [])) (fun m _ => m.bump 0x603004))) ∧
    (∃ (m : Mod) (i s : Nat), (m.outcome AgreeMsg.digests (Table.get m.ingest.closed {} s).digest i = .own)) ∧
    (∃ (m : Mod) (i s : Nat), (m.outcome AgreeMsg.digests (Table.get m.ingest.closed {} s).digest i = .no)) ∧
    (∃ (s : State), (s.mod.Runs) ∧ (s.mod.triad.stage = 1)) ∧
    (∃ (s : State), (s.mod.triad.stage ≠ 0)) ∧
    (∃ (s : State), (s.mod.triad.stage ≠ 1)) :=
  ⟨⟨(w [] ({ · with triad.stage := 0, tick.phase := .I, tick.running := true })), (w [] ({ · with triad.stage := 0, tick.phase := .I, tick.running := true })).mod, by decide +kernel⟩,
    ⟨(w [(0x600002, 0, 6)]).mod, 0, 0, by decide +kernel⟩,
    ⟨w0.mod, 0, 0, by decide +kernel⟩,
    ⟨(w [] ({ · with triad.stage := 1 })), by decide +kernel⟩,
    ⟨(w [] ({ · with triad.stage := 1 })), by decide +kernel⟩,
    ⟨w0, by decide +kernel⟩⟩

theorem witness_TheVote :
    (∃ (s : State), (s.mod.Runs) ∧ (s.mod.inPhase .L2 = true) ∧ (s.mod.logic.l2 = true) ∧ (s.mod.triad.stage = 2)) ∧
    (∃ (s : State), (s.mod.inPhase .L2 = false ∨ s.mod.logic.l2 = false ∨ s.mod.triad.stage ≠ 2)) ∧
    (∃ (s : State), (s.mod.Runs) ∧ (s.mod.triad.stage = 3) ∧ (majorityOf (s.mod.presentVectors true) = some s.mod.triad.own)) ∧
    (∃ (s : State) (own : Bool) (v : VoteVec), (s.mod.Runs) ∧ (s.mod.mstate = msMember) ∧ (s.mod.triad.stage = 3) ∧ (majorityOf (s.mod.presentVectors own) = some v) ∧ (own = false ∨ v ≠ s.mod.triad.own)) ∧
    (∃ (s : State), (s.mod.Runs) ∧ (s.mod.triad.stage = 4)) ∧
    (∃ (s : State), (s.mod.triad.stage ≠ 4)) ∧
    (∃ (s : State), (s.mod.Runs) ∧ (s.mod.mstate = msMember) ∧ (1 ≤ (s.mod.rank)) ∧ ((s.mod.rank) ≤ 3) ∧ (3 ≤ s.mod.num 0x602102 (s.mod.rank))) ∧
    (∃ (s : State) (r : Nat), (s.mod.Runs) ∧ (s.mod.mstate = msMember) ∧ (r ≠ s.mod.rank) ∧ (1 ≤ r) ∧ (r ≤ 3) ∧ (3 ≤ s.mod.num 0x602102 r ∨ 16 ≤ s.mod.num 0x602101 r)) ∧
    (∃ (s : State) (r : Nat), (s.mod.Runs) ∧ (r ≠ s.mod.rank) ∧ (s.mod.num 0x602102 r < 3) ∧ (s.mod.num 0x602101 r < 16)) ∧
    (∃ (s : State) (l : Nat) (rs : List Nat), (s.mod.Runs) ∧ (maskRanks s.mod.triad.eligible = l :: rs) ∧ (s.mod.triad.stage = 5) ∧ (s.mod.mstate = msMember) ∧ (s.mod.num 0x602003 = 1) ∧ (s.mod.num 0x602006 ∈ rs) ∧ (l < s.mod.num 0x602006) ∧ (s.mod.num 0x602004 ≤ Table.get s.mod.triad.hold.runs 0 l)) ∧
    (∃ (s : State) (l : Nat) (rs : List Nat), (s.mod.Runs) ∧ (s.mod.triad.hold.holdoffOn = true) ∧ (s.mod.triad.hold.holdoffLeft = 0) ∧ (s.mod.triad.stage = 5) ∧ (s.mod.mstate = msMember) ∧ (maskRanks s.mod.triad.eligible = l :: rs) ∧ (s.mod.num 0x602006 = 0)) ∧
    (∃ (s : State) (slots : Table LogicPub), (s.mod.Runs) ∧ (s.mod.num 0x602002 ≤ s.mod.num 0x602007) ∧ (s.mod.triad.hold.safe = false) ∧ (s.mod.triad.lastPub = true) ∧ (slots = s.mod.triad.hold.slots.map (fun e => (e.1, { bits := memberBitsOf s.mod.safeTable e.1, stNum := e.2.stNum + 1, sq := 0, chg := some s.mod.k, fresh := true })))) ∧
    (∃ (s : State), (s.mod.num 0x602007 < s.mod.num 0x602002 ∨ s.mod.triad.hold.safe = true ∨ s.mod.triad.lastPub = false)) :=
  ⟨⟨(w [] ({ · with tick.phase := .L2, logic.l2 := true, triad.stage := 2 })), by decide +kernel⟩,
    ⟨w0, by decide +kernel⟩,
    ⟨(w [(0x600001, 0, 1), (0x600002, 0, 4), (0x600102, 2, 4)] ({ · with triad.stage := 3, triad.vectors := [(2, { hdr := { rank := 2, tick := 1000, mstate := 4 } })] })), by decide +kernel⟩,
    ⟨(w [(0x600001, 0, 1), (0x600002, 0, 4), (0x600102, 2, 4), (0x600102, 3, 4)] ({ · with triad.stage := 3, triad.vectors := [(2, { hdr := { rank := 2, tick := 1000, mstate := 4 } }), (3, { hdr := { rank := 3, tick := 1000, mstate := 4 } })], triad.own := { digest := 9 } })), true, {}, by decide +kernel⟩,
    ⟨(w [] ({ · with triad.stage := 4 })), by decide +kernel⟩,
    ⟨w0, by decide +kernel⟩,
    ⟨(w [(0x600001, 0, 1), (0x600002, 0, 4), (0x602102, 1, 3)]), by decide +kernel⟩,
    ⟨(w [(0x600001, 0, 1), (0x600002, 0, 4), (0x602102, 2, 3)]), 2, by decide +kernel⟩,
    ⟨(w [(0x600001, 0, 1)]), 0, by decide +kernel⟩,
    ⟨(w [(0x600002, 0, 4), (0x602003, 0, 1), (0x602006, 0, 3)] ({ · with triad.stage := 5, triad.eligible := 5, triad.hold.runs := [(1, 1000000000)] })), 1, [3], by decide +kernel⟩,
    ⟨(w [(0x600002, 0, 4)] ({ · with triad.hold.holdoffOn := true, triad.stage := 5, triad.eligible := 4 })), 3, [], by decide +kernel⟩,
    ⟨(w [(0x602007, 0, 9600)] ({ · with triad.lastPub := true })), {}, by decide +kernel⟩,
    ⟨w0, by decide +kernel⟩⟩

theorem witness_LaceLines :
    (∃ (s : State), (s.mod.Runs) ∧ (s.mod.Good) ∧ (1 ≤ (s.mod.rank)) ∧ ((s.mod.rank) ≤ 3)) ∧
    (∃ (s : State) (r : Nat), (s.mod.Runs) ∧ (1 ≤ r) ∧ (r ≤ 3) ∧ (r ≠ (s.mod.set (0x601001 + r) 2).rank) ∧ (s.mod.triad.drive ≠ .claim)) ∧
    (∃ (s : State) (r : Nat), (s.mod.Runs) ∧ (s.mod.Good) ∧ (1 ≤ r) ∧ (r ≤ 3) ∧ (r ≠ s.mod.rank) ∧ (s.mod.triad.drive = .claim)) ∧
    (∃ (m : Mod), (m.Good) ∧ (m.triad.drive = .claim)) ∧
    (∃ (s : State) (r : Nat), (s.mod.Runs) ∧ (1 ≤ r) ∧ (r ≤ 3)) ∧
    (∃ (s : State) (r : Nat), (s.mod.Runs) ∧ (1 ≤ r) ∧ (r ≤ 3) ∧ (s.mod.line r = 1 ∨ s.mod.line r = 2)) ∧
    (∃ (s : State) (r : Nat), (s.mod.line r ≠ 1) ∧ (s.mod.line r ≠ 2)) ∧
    (∃ (s : State) (r : Nat), (s.mod.Runs) ∧ (1 ≤ r) ∧ (r ≤ 3) ∧ (s.mod.line r = 3)) ∧
    (∃ (s : State) (r : Nat), (s.mod.line r ≠ 3)) ∧
    (∃ (m : Mod) (r : Nat), (m.Good) ∧ (1 ≤ r) ∧ (r ≤ 3)) ∧
    (∃ (m : Mod), (m.Good) ∧ (1 ≤ m.rank) ∧ (m.rank ≤ 3)) ∧
    (∃ (s : State), (s.mod.Runs) ∧ (s.mod.rank ≠ 0)) ∧
    (∃ (s : State) (r : Nat), (s.mod.Runs) ∧ (1 ≤ r) ∧ (r ≤ 3) ∧ (8 ≤ Table.get s.mod.triad.viewRun 0 r)) ∧
    (∃ (m : Mod), (m.Good)) ∧
    (∃ (s : State), (s.mod.Runs) ∧ (4800 ≤ s.mod.triad.faultFree)) ∧
    (∃ (s : State), (s.mod.triad.faultFree < 4800)) ∧
    (∃ (s : State), (s.mod.Runs) ∧ (s.mod.Good)) ∧
    (∃ (s : State) (r : Nat), (s.mod.Runs) ∧ (1 ≤ r) ∧ (r ≤ 3) ∧ (s.mod.mstate = msMember) ∧ (Table.get s.mod.triad.foreignRun 0 r = 8)) :=
  ⟨⟨(w [(0x600001, 0, 1)]), by and_intros <;> first | decide +kernel | exact ⟨by decide +kernel, by decide +kernel, by decide +kernel⟩⟩,
    ⟨w0, 1, by decide +kernel⟩,
    ⟨(w [(0x600001, 0, 1)] ({ · with triad.drive := .claim })), 2, by and_intros <;> first | decide +kernel | exact ⟨by decide +kernel, by decide +kernel, by decide +kernel⟩⟩,
    ⟨(w [] ({ · with triad.drive := .claim })).mod, ⟨by decide +kernel, by decide +kernel, by decide +kernel⟩, by decide +kernel⟩,
    ⟨w0, 1, by decide +kernel⟩,
    ⟨(w [(0x601002, 0, 1)]), 1, by decide +kernel⟩,
    ⟨w0, 0, by decide +kernel⟩,
    ⟨(w [(0x601002, 0, 3)]), 1, by decide +kernel⟩,
    ⟨w0, 0, by decide +kernel⟩,
    ⟨w0.mod, 1, ⟨by decide +kernel, by decide +kernel, by decide +kernel⟩, by decide +kernel, by decide +kernel⟩,
    ⟨(w [(0x600001, 0, 3)]).mod, ⟨by decide +kernel, by decide +kernel, by decide +kernel⟩, by decide +kernel, by decide +kernel⟩,
    ⟨(w [(0x600001, 0, 1)]), by decide +kernel⟩,
    ⟨(w [] ({ · with triad.viewRun := [(1, 8)] })), 1, by decide +kernel⟩,
    ⟨w0.mod, ⟨by decide +kernel, by decide +kernel, by decide +kernel⟩⟩,
    ⟨(w [] ({ · with triad.faultFree := 4800 })), by decide +kernel⟩,
    ⟨w0, by decide +kernel⟩,
    ⟨w0, by decide +kernel, ⟨by decide +kernel, by decide +kernel, by decide +kernel⟩⟩,
    ⟨(w [(0x600002, 0, 4)] ({ · with triad.foreignRun := [(1, 8)] })), 1, by decide +kernel⟩⟩

theorem witness_Publication :
    (∃ (s : State) (p : Nat), (s.mod.Runs) ∧ (s.mod.tick.running = true) ∧ ((lastPubs s.mod.activeLast).any (fun e => (s.mod.entryPorts e).contains p) = true)) ∧
    (∃ (s : State) (p : Nat), ((lastPubs s.mod.activeLast).any (fun e => (s.mod.entryPorts e).contains p) = false)) ∧
    (∃ (s : State), (s.mod.Runs) ∧ (s.mod.inPhase .V = true) ∧ (s.mod.triad.stage = 5) ∧ (s.mod.onSchedule = true)) ∧
    (∃ (s : State), (s.mod.inPhase .V = false ∨ s.mod.triad.stage ≠ 5)) ∧
    (∃ (m : Mod) (e : Nat), (pubKind e = 2) ∧ ((m.sc0 (pubObject e)).frame ≠ []) ∧ ((m.sc0 (pubObject e)).frameTick = m.k) ∧ (m.triad.gateAtP = true)) ∧
    (∃ (m : Mod) (e : Nat), (pubKind e = 2) ∧ (m.triad.gateAtP = false)) ∧
    (∃ (s : State) (u : Nat) (x : LogicPub), (s.mod.Runs) ∧ (s.mod.tick.running = true) ∧ (s.mod.onSchedule = true) ∧ (Table.find? s.mod.triad.hold.slots u = some x) ∧ (x.fresh = false)) ∧
    (∃ (s : State) (u : Nat) (x : LogicPub), (s.mod.Runs) ∧ (s.mod.tick.running = true) ∧ (s.mod.onSchedule = true) ∧ (Table.find? s.mod.triad.hold.slots u = some x) ∧ (x.fresh = true)) ∧
    (∃ (s : State) (i : Nat), (s.mod.Runs) ∧ (s.mod.tick.running = true) ∧ (s.mod.onSchedule = true) ∧ (i < 2048) ∧ (s.mod.tnState (i / 32 + 1) = tnRunning) ∧ ((s.mod.pub i).interval ≠ 0) ∧ ((s.mod.pub i).frame ≠ []) ∧ ((s.mod.pub i).due ≤ s.mod.k) ∧ (s.mod.num 0x513009 i = 0xFFFF) ∧ (s.mod.triad.hold.safe = false)) ∧
    (∃ (s : State) (i : Nat), (s.mod.tick.running = false ∨ (i < 2048 ∧ (s.mod.k < (s.mod.pub i).due ∨ s.mod.tnState (i / 32 + 1) ≠ tnRunning)))) :=
  ⟨⟨(w [(0x320002, 0, 2), (0x390006, 1, 0)] (fun m => (({ m with tick.bankA := List.replicate 12 0 ++ [1, 0] ++ List.replicate 0x10D2 0 ++ toLE 4 (2 * 2 ^ 28), ten.sc0 := [(0, { frame := List.replicate 60 255 })] }).setOct 0x390001 (1 :: List.replicate 108 0) 1).setOct 0x392001 [0, 0])), 0, by decide +kernel⟩,
    ⟨w0, 0, by decide +kernel⟩,
    ⟨(w [(0x600002, 0, 3)] ({ · with triad.stage := 5, tick.phase := .V })), by decide +kernel⟩,
    ⟨w0, by decide +kernel⟩,
    ⟨(w [] ({ · with ten.sc0 := [(0, { frame := [1], frameTick := 1000 })], triad.gateAtP := true })).mod, 2 ^ 29, by decide +kernel⟩,
    ⟨w0.mod, 2 ^ 29, by decide +kernel⟩,
    ⟨(w [(0x600002, 0, 4)] ({ · with triad.hold.slots := [(5, {})] })), 5, {}, by decide +kernel⟩,
    ⟨(w [(0x600002, 0, 4)] ({ · with triad.hold.slots := [(5, { fresh := true })] })), 5, { fresh := true }, by decide +kernel⟩,
    ⟨(w [(0x600001, 0, 1), (0x600002, 0, 4), (0x510001, 64, 1), (0x601002, 0, 2), (0x513009, 2047, 0xFFFF)] ({ · with triad.drive := .claim, ten.pubs := [(2047, { interval := 1, frame := [1] })] })), 2047, by decide +kernel⟩,
    ⟨(w [] ({ · with tick.running := false })), 0, by decide +kernel⟩⟩

theorem witness_WeltLinks :
    (∃ (s : State) (p : Path) (l : Nat), (s.mod.Serves p) ∧ (l ≤ 23) ∧ (l % 2 = 0) ∧ (s.mod.num 0x611001 (l + 1) = 0)) ∧
    (∃ (s : State) (p : Path) (l : Nat), (s.mod.Serves p) ∧ (l ≤ 23)) ∧
    (∃ (s : State) (p : Path) (l : Nat), (s.mod.Serves p) ∧ (l ≤ 23) ∧ (l % 2 = 1 ∨ s.mod.num 0x611001 (l + 1) ≠ 0)) ∧
    (∃ (s : State) (l : Nat), (s.mod.Runs) ∧ (s.mod.lkState l = lkTrain)) ∧
    (∃ (s : State) (l : Nat), (s.mod.lkState l ≠ lkTrain)) ∧
    (∃ (s : State) (l : Nat), (s.mod.Runs) ∧ (s.mod.lkState l = lkHello ∨ s.mod.lkUp l = true)) ∧
    (∃ (s : State) (l : Nat), (s.mod.Runs) ∧ (s.mod.lkUp l = true)) ∧
    (∃ (s : State) (l : Nat), (s.mod.lkUp l = false)) ∧
    (∃ (s : State) (l : Nat), (s.mod.Runs) ∧ (s.mod.lkState l = lkDown)) ∧
    (∃ (s : State) (h : FlitHdr), (s.mod.Hears h)) ∧
    (∃ (s : State) (h : FlitHdr), (s.mod.lkUp h.l = false)) ∧
    (∃ (s : State) (h : FlitHdr), (s.mod.Runs) ∧ (s.mod.lkUp h.l = true) ∧ (h.seq ≠ (s.mod.link h.l).rxSeq)) ∧
    (∃ (s : State) (l : Nat), (s.mod.Runs) ∧ (s.mod.lkUp l = true) ∧ ((s.mod.link l).nak = false)) ∧
    (∃ (s : State) (l : Nat), (s.mod.Runs) ∧ (s.mod.lkUp l = true) ∧ ((s.mod.link l).nak = true)) ∧
    (∃ (s : State) (h : FlitHdr), (s.mod.Hears h)) ∧
    (∃ (s : State) (l : Nat), (s.mod.Runs) ∧ (s.mod.lkUp l = true) ∧ ((s.mod.link l).replay ≠ []) ∧ ((s.mod.link l).replays < 15)) ∧
    (∃ (s : State) (l : Nat), (s.mod.Runs) ∧ (s.mod.lkUp l = true) ∧ ((s.mod.link l).replay ≠ []) ∧ (15 ≤ (s.mod.link l).replays)) ∧
    (∃ (s : State) (l i : Nat) (w : Queued), (s.mod.Runs) ∧ ((s.mod.link l).waiting[i]? = some w)) :=
  ⟨⟨(w [(0x611001, 1, 0)]), .supervisor, 0, by decide +kernel⟩,
    ⟨w0, .supervisor, 0, by decide +kernel⟩,
    ⟨w0, .supervisor, 23, by decide +kernel⟩,
    ⟨(w [(0x611004, 0, 1)]), 0, by decide +kernel⟩,
    ⟨w0, 0, by decide +kernel⟩,
    ⟨(w [(0x611004, 0, 2)]), 0, by decide +kernel⟩,
    ⟨(w [(0x611004, 0, 3)]), 0, by decide +kernel⟩,
    ⟨w0, 0, by decide +kernel⟩,
    ⟨(w [(0x611004, 0, 4)]), 0, by decide +kernel⟩,
    ⟨(w [(0x610001, 0, 1), (0x611004, 0, 3)]), {}, by decide +kernel⟩,
    ⟨w0, {}, by decide +kernel⟩,
    ⟨(w [(0x610001, 0, 1), (0x611004, 0, 3)]), { seq := 1 }, by decide +kernel⟩,
    ⟨(w [(0x611004, 0, 3)] ({ · with welt.links := [(0, { nak := false })] })), 0, by decide +kernel⟩,
    ⟨(w [(0x611004, 0, 3)] ({ · with welt.links := [(0, { nak := true })] })), 0, by decide +kernel⟩,
    ⟨(w [(0x611004, 23, 3)]), { l := 23 }, by decide +kernel⟩,
    ⟨(w [(0x610001, 0, 1), (0x611004, 0, 3)] ({ · with welt.links := [(0, { replay := [{}], replays := 14 })] })), 0, by decide +kernel⟩,
    ⟨(w [(0x610001, 0, 1), (0x611004, 0, 3)] ({ · with welt.links := [(0, { replay := [{}], replays := 15 })] })), 0, by decide +kernel⟩,
    ⟨(w [] ({ · with welt.links := [(0, { waiting := [{}] })] })), 0, 0, {}, by decide +kernel⟩⟩

theorem witness_WeltBridge :
    (∃ (s : State) (h : FlitHdr) (p : Packet), (s.mod.Takes h p) ∧ (p.dst = (s.mod.received h p).moduleId) ∧ (bit p.flags 2 = true)) ∧
    (∃ (s : State) (h : FlitHdr) (p : Packet), (s.mod.Takes h p) ∧ (p.dst = (s.mod.received h p).moduleId) ∧ (bit p.flags 2 = false) ∧ (bit p.flags 1 = false) ∧ (p.vc ≠ 0)) ∧
    (∃ (s : State) (h : FlitHdr) (p : Packet), (s.mod.Takes h p) ∧ (p.dst ≠ (s.mod.received h p).moduleId) ∧ (p.dst ≠ 255)) ∧
    (∃ (s : State) (h : FlitHdr) (p : Packet), (s.mod.Takes h p) ∧ (p.dst = (s.mod.received h p).moduleId)) ∧
    (∃ (s : State) (h : FlitHdr) (p : Packet), (s.mod.Takes h p) ∧ (p.dst = (s.mod.received h p).moduleId) ∧ (regionOf p.offset ≠ .device ∨ s.mod.writeGranted p.src p.offset = false)) ∧
    (∃ (m n : Mod) (e : W2Entry) (bs : List Byte), (e.pkt.ty = .rdReq) ∧ (e.granted = true) ∧ (m.loadOctets e.pkt.offset e.pkt.len none = some (bs, n))) ∧
    (∃ (e : W2Entry), (e.pkt.ty = .rdReq) ∧ (e.granted = false)) ∧
    (∃ (e : W2Entry), (e.pkt.ty = .wrReq)) ∧
    (∃ (s : State) (w : Master) (a n t : Nat), (s.mod.Runs) ∧ (s.mod.mayUse w a n = true) ∧ (s.mod.logged w a n = none) ∧ ((s.mod.abandon w).routeLink ({ ty := .rdReq, vc := 2, dst := (remoteOf a).1, src := (s.mod.abandon w).moduleId, len := n, offset := (remoteOf a).2 } : Packet) ≠ none) ∧ ((if w = .fetch then (List.range 256).map (· + 768) else List.range 768).find? (fun t => ((s.mod.abandon w).tag t).state == .free) = some t) ∧ (n + (s.mod.abandon w).spaceUsed (w == .fetch) ≤ (if w = .fetch then 131072 else 393216)) ∧ (((s.mod.abandon w).tagsOf w).length < masterLimit w)) ∧
    (∃ (s : State) (w : Master) (a n : Nat), (s.mod.Runs) ∧ (s.mod.mayUse w a n = true) ∧ (s.mod.logged w a n = none)) ∧
    (∃ (s : State) (w : Master) (a n : Nat), (s.mod.Runs) ∧ (s.mod.mayUse w a n = false)) ∧
    (∃ (m : Mod) (j a n : Nat), (m.mayUse (.hart j) a n = true)) ∧
    (∃ (s : State) (w : Master) (a n t : Nat), (s.mod.Runs) ∧ (s.mod.mayUse w a n = true) ∧ (s.mod.logged w a n = some t) ∧ ((s.mod.tag t).state = .waiting)) ∧
    (∃ (s : State) (w : Master) (a n t j : Nat), (s.mod.Runs) ∧ (s.mod.mayUse w a n = true) ∧ (s.mod.logged w a n = some t) ∧ ((s.mod.tag t).state = .held) ∧ ((s.mod.tag t).status = 0) ∧ ((s.mod.tag t).master = .hart j)) ∧
    (∃ (s : State) (w : Master) (a n t : Nat), (s.mod.Runs) ∧ (s.mod.mayUse w a n = true) ∧ (s.mod.logged w a n = some t) ∧ ((s.mod.tag t).state = .held) ∧ ((s.mod.tag t).status ≠ 0)) ∧
    (∃ (s : State) (w : Master) (a : Nat) (bs : List Byte), (s.mod.Runs) ∧ (s.mod.mayUse w a bs.length = true) ∧ (s.mod.bridgeTakes ({ ty := .wrReq, vc := 2, dst := (remoteOf a).1, src := s.mod.moduleId, len := bs.length, offset := (remoteOf a).2, data := bs } : Packet) = true)) ∧
    (∃ (s : State) (w : Master) (a : Nat) (bs : List Byte), (s.mod.Runs) ∧ (s.mod.mayUse w a bs.length = false)) ∧
    (∃ (s : State) (h : FlitHdr) (p : Packet), (s.mod.Takes h p) ∧ (p.dst = (s.mod.received h p).moduleId) ∧ (((s.mod.received h p).tag (p.tagGen % 1024)).state = .waiting) ∧ (((s.mod.received h p).tag (p.tagGen % 1024)).gen = p.tagGen / 1024 % 4)) ∧
    (∃ (s : State) (h : FlitHdr) (p : Packet), (s.mod.Takes h p) ∧ (p.dst = (s.mod.received h p).moduleId) ∧ (((s.mod.received h p).tag (p.tagGen % 1024)).gen ≠ p.tagGen / 1024 % 4)) ∧
    (∃ (s : State) (t : Nat), (s.mod.Runs) ∧ ((s.mod.tag t).state = .waiting)) ∧
    (∃ (s : State) (t : Nat), (s.mod.Runs) ∧ ((s.mod.tag t).state = .held)) ∧
    (∃ (s : State) (t : Nat), (s.mod.Runs) ∧ ((s.mod.tag t).state = .quarantine)) :=
  ⟨⟨(w [(0x610001, 0, 1), (0x611004, 0, 3)]), {}, { dst := 1, flags := 4 }, by decide +kernel, by decide +kernel, by decide +kernel⟩,
    ⟨(w [(0x610001, 0, 1), (0x611004, 0, 3)]), {}, { dst := 1 }, by and_intros <;> decide +kernel⟩,
    ⟨(w [(0x610001, 0, 1), (0x611004, 0, 3)]), {}, { ty := .rdReq, vc := 2, dst := 2, offset := 0x60000000, len := 4 }, by decide +kernel⟩,
    ⟨(w [(0x610001, 0, 1), (0x611004, 0, 3)]), {}, { ty := .rdReq, vc := 2, dst := 1, offset := 0x60000000, len := 4 }, by decide +kernel⟩,
    ⟨(w [(0x610001, 0, 1), (0x611004, 0, 3)]), {}, { ty := .wrReq, vc := 2, dst := 1, offset := 0x60000000, len := 4 }, by decide +kernel, by decide +kernel, by decide +kernel⟩,
    ⟨w0.mod, _, { pkt := { ty := .rdReq, vc := 2, offset := 0x20000000, len := 4 }, granted := true }, _, rfl, rfl, (Option.some_get (by decide +kernel)).symm⟩,
    ⟨{ pkt := { ty := .rdReq, vc := 2 } }, by decide +kernel⟩,
    ⟨{ pkt := { ty := .wrReq, vc := 2 } }, by decide +kernel⟩,
    ⟨(w [(0x610001, 0, 1), (0x611004, 0, 3), (0x611006, 0, 2)]), .hart 5, 0x802000000000, 8, 0, by decide +kernel⟩,
    ⟨(w [(0x610001, 0, 1)]), .hart 5, 0x802000000000, 8, by decide +kernel⟩,
    ⟨w0, .fetch, 0, 0, by decide +kernel⟩,
    ⟨(w [(0x610001, 0, 1)]).mod, 5, 0x802000000000, 8, by decide +kernel⟩,
    ⟨(w [(0x610001, 0, 1)] ({ · with welt.tags := [(0, { state := .waiting, master := .hart 5, addr := 0x802000000000, len := 8 })] })), .hart 5, 0x802000000000, 8, 0, by decide +kernel⟩,
    ⟨(w [(0x610001, 0, 1)] ({ · with welt.tags := [(0, { state := .held, master := .hart 5, addr := 0x802000000000, len := 8 })] })), .hart 5, 0x802000000000, 8, 0, 5, by decide +kernel⟩,
    ⟨(w [(0x610001, 0, 1)] ({ · with welt.tags := [(0, { state := .held, status := 1, master := .hart 5, addr := 0x802000000000, len := 8 })] })), .hart 5, 0x802000000000, 8, 0, by decide +kernel⟩,
    ⟨(w [(0x610001, 0, 1), (0x611001, 0, 2), (0x611004, 0, 3), (0x611006, 0, 2)]), .fetch, 2 ^ 47 + 2 * 2 ^ 36 + 8, [1], by decide +kernel, by decide +kernel, by decide +kernel⟩,
    ⟨w0, .fetch, 0, [], by decide +kernel⟩,
    ⟨(w [(0x610001, 0, 1), (0x611004, 0, 3)] ({ · with welt.tags := [(0, { state := .waiting, gen := 1 })] })), {}, { ty := .rdRsp, vc := 3, dst := 1, tagGen := 1024 }, by and_intros <;> decide +kernel⟩,
    ⟨(w [(0x610001, 0, 1), (0x611004, 0, 3)]), {}, { ty := .rdRsp, vc := 3, dst := 1, tagGen := 1024 }, by decide +kernel, by decide +kernel, by decide +kernel⟩,
    ⟨(w [] ({ · with welt.tags := [(0, { state := .waiting })] })), 0, by decide +kernel⟩,
    ⟨(w [] ({ · with welt.tags := [(0, { state := .held })] })), 0, by decide +kernel⟩,
    ⟨(w [] ({ · with welt.tags := [(0, { state := .quarantine })] })), 0, by decide +kernel⟩⟩

theorem witness_WeltRates :
    (∃ (s : State) (l now : Nat) (w : UtilWindow), (s.mod.Runs) ∧ (s.mod.lkUp l = true) ∧ ((((s.mod.endBackoff l now).takeWindow l w).climbOn l).lkState l = lkActive) ∧ (((((s.mod.endBackoff l now).takeWindow l w).climbOn l).link l).hs = .idle) ∧ ((((s.mod.endBackoff l now).takeWindow l w).climbOn l).num 0x610002 ≠ 0) ∧ ((((s.mod.endBackoff l now).takeWindow l w).climbOn l).triadLink l = false) ∧ (asksUp w = true) ∧ ((((s.mod.endBackoff l now).takeWindow l w).climbOn l).num 0x611002 l < (((s.mod.endBackoff l now).takeWindow l w).climbOn l).num 0x611005 l) ∧ (((((s.mod.endBackoff l now).takeWindow l w).climbOn l).link l).noUp = none)) ∧
    (∃ (s : State) (l now : Nat) (w : UtilWindow), (s.mod.Runs) ∧ (s.mod.lkUp l = true) ∧ ((((s.mod.endBackoff l now).takeWindow l w).climbOn l).lkState l = lkActive) ∧ (((((s.mod.endBackoff l now).takeWindow l w).climbOn l).link l).hs = .idle) ∧ ((((s.mod.endBackoff l now).takeWindow l w).climbOn l).num 0x610002 ≠ 0) ∧ ((((s.mod.endBackoff l now).takeWindow l w).climbOn l).triadLink l = false) ∧ (asksUp w = false) ∧ ((((s.mod.endBackoff l now).takeWindow l w).climbOn l).num 0x611005 l < (((s.mod.endBackoff l now).takeWindow l w).climbOn l).num 0x611003 l) ∧ (((((s.mod.endBackoff l now).takeWindow l w).climbOn l).link l).noDown = none) ∧ (((((s.mod.endBackoff l now).takeWindow l w).climbOn l).link l).calm ((((s.mod.endBackoff l now).takeWindow l w).climbOn l).num 0x611005 l + 1) = true)) ∧
    (∃ (s : State) (l now : Nat) (w : UtilWindow), (s.mod.Runs) ∧ (s.mod.lkUp l = true) ∧ ((((s.mod.endBackoff l now).takeWindow l w).climbOn l).lkState l ≠ lkActive ∨ ((((s.mod.endBackoff l now).takeWindow l w).climbOn l).link l).hs ≠ .idle ∨ (((s.mod.endBackoff l now).takeWindow l w).climbOn l).num 0x610002 = 0 ∨ (((s.mod.endBackoff l now).takeWindow l w).climbOn l).triadLink l = true)) ∧
    (∃ (m : Mod) (l : Nat), (m.Good) ∧ (l < 24)) ∧
    (∃ (s : State) (h : FlitHdr) (code : Nat), (s.mod.Hears h) ∧ ((s.mod.advanced h 1).lkState h.l = lkActive) ∧ (((s.mod.advanced h 1).link h.l).hs = .idle) ∧ ((code < (s.mod.advanced h 1).num 0x611005 h.l ∧ (s.mod.advanced h 1).num 0x611002 h.l ≤ code) ∨ ((s.mod.advanced h 1).num 0x611005 h.l < code ∧ code ≤ 2 ∧ (s.mod.advanced h 1).triadLink h.l = false ∧ ((s.mod.advanced h 1).link h.l).calm code = true))) ∧
    (∃ (s : State) (h : FlitHdr) (code : Nat), (s.mod.Hears h) ∧ ((s.mod.advanced h 1).lkState h.l = lkActive) ∧ (((s.mod.advanced h 1).link h.l).hs = .idle) ∧ ((code < (s.mod.advanced h 1).num 0x611005 h.l ∧ code < (s.mod.advanced h 1).num 0x611002 h.l) ∨ ((s.mod.advanced h 1).num 0x611005 h.l ≤ code ∧ (((s.mod.advanced h 1).link h.l).calm code = false ∨ (s.mod.advanced h 1).triadLink h.l = true ∨ code = (s.mod.advanced h 1).num 0x611005 h.l ∨ 2 < code)))) ∧
    (∃ (s : State) (h : FlitHdr) (nonce : Nat), (s.mod.Hears h) ∧ (((s.mod.advanced h 1).link h.l).hs = .proposed) ∧ (((s.mod.advanced h 1).link h.l).hsNonce = nonce)) ∧
    (∃ (s : State) (h : FlitHdr) (nonce : Nat), (s.mod.Hears h) ∧ (((s.mod.advanced h 1).link h.l).hsNonce ≠ nonce)) ∧
    (∃ (s : State) (h : FlitHdr), (s.mod.Hears h)) ∧
    (∃ (s : State), (s.mod.Runs)) ∧
    (∃ (s : State) (l : Nat), (s.mod.Runs) ∧ ((s.mod.link l).hs = .quiesce) ∧ ((s.mod.link l).replay = []) ∧ ((s.mod.link l).markSent = false)) ∧
    (∃ (s : State) (h : FlitHdr), (s.mod.Hears h) ∧ (((s.mod.advanced h 1).link h.l).hs = .quiesce)) ∧
    (∃ (m : Mod) (l : Nat), ((m.link l).hs = .quiesce) ∧ ((m.link l).markSent = true) ∧ ((m.link l).markSeen = true)) ∧
    (∃ (m : Mod) (l : Nat), ((m.link l).markSent = false ∨ (m.link l).markSeen = false)) ∧
    (∃ (s : State) (l : Nat), (s.mod.Runs) ∧ ((s.mod.link l).hs = .retrain)) ∧
    (∃ (s : State) (l : Nat), (s.mod.Runs) ∧ ((s.mod.link l).hs = .fallback)) ∧
    (∃ (s : State) (l : Nat), (s.mod.Runs) ∧ ((s.mod.link l).hs = .retrain)) ∧
    (∃ (s : State) (l : Nat), (s.mod.Runs) ∧ ((s.mod.link l).hs = .fallback)) :=
  ⟨⟨(w [(0x610001, 0, 1), (0x611004, 0, 3), (0x610002, 0, 1), (0x611005, 0, 1)]), 0, 0, .waited, by decide +kernel⟩,
    ⟨(w [(0x610001, 0, 1), (0x611004, 0, 3), (0x610002, 0, 1), (0x611005, 0, 0), (0x611003, 0, 2)] ({ · with welt.links := [(0, { utils := List.replicate 9 0 })] })), 0, 0, .tenMs 0, by decide +kernel⟩,
    ⟨(w [(0x610001, 0, 1), (0x611004, 0, 3), (0x610002, 0, 0)]), 0, 0, .waited, by decide +kernel⟩,
    ⟨w0.mod, 0, ⟨by decide +kernel, by decide +kernel, by decide +kernel⟩, by decide +kernel⟩,
    ⟨(w [(0x610001, 0, 1), (0x611004, 0, 3), (0x611005, 0, 1)]), {}, 0, by decide +kernel⟩,
    ⟨(w [(0x610001, 0, 1), (0x611004, 0, 3)]), {}, 2, by decide +kernel⟩,
    ⟨(w [(0x610001, 0, 1), (0x611004, 0, 3)] ({ · with welt.links := [(0, { hs := .proposed })] })), {}, 0, by decide +kernel⟩,
    ⟨(w [(0x610001, 0, 1), (0x611004, 0, 3)]), {}, 1, by decide +kernel⟩,
    ⟨(w [(0x610001, 0, 1), (0x611004, 0, 3)]), {}, by decide +kernel⟩,
    ⟨w0, by decide +kernel⟩,
    ⟨(w [] ({ · with welt.links := [(0, { hs := .quiesce, markSent := false })] })), 0, by decide +kernel⟩,
    ⟨(w [(0x611004, 0, 6)] ({ · with welt.links := [(0, { hs := .quiesce })] })), {}, by decide +kernel⟩,
    ⟨(w [] ({ · with welt.links := [(0, { hs := .quiesce, markSent := true, markSeen := true })] })).mod, 0, by decide +kernel⟩,
    ⟨w0.mod, 0, by decide +kernel⟩,
    ⟨(w [] ({ · with welt.links := [(0, { hs := .retrain })] })), 0, by decide +kernel⟩,
    ⟨(w [] ({ · with welt.links := [(0, { hs := .fallback })] })), 0, by decide +kernel⟩,
    ⟨(w [] ({ · with welt.links := [(0, { hs := .retrain })] })), 0, by decide +kernel⟩,
    ⟨(w [] ({ · with welt.links := [(0, { hs := .fallback })] })), 0, by decide +kernel⟩⟩

theorem witness_SwitchForwards :
    (∃ (s : State) (f : SwFrame), (s.mod.Runs) ∧ (s.mod.upIn f.port = true) ∧ (60 ≤ f.bytes.length) ∧ (f.port < 768) ∧ (isMacControl f.bytes = false)) ∧
    (∃ (s : State) (f : SwFrame), (s.mod.Runs) ∧ (s.mod.upIn f.port = true) ∧ (768 ≤ f.port)) ∧
    (∃ (s : State) (f : SwFrame), (s.mod.upIn f.port = false ∨ (f.port < 768 ∧ (f.bytes.length < 60 ∨ isMacControl f.bytes = true)))) ∧
    (∃ (s : State) (p : Nat) (c : Copy), (s.mod.Runs) ∧ (s.mod.upOut p = true) ∧ ((s.mod.port p).sending = some c) ∧ (c.whole = true)) ∧
    (∃ (s : State) (p : Nat), (s.mod.upOut p = false)) ∧
    (∃ (m : Mod) (p : Nat) (c : Copy), ((m.port p).q.find? (fun c => c.pub = 1 ∧ c.whole) = some c)) ∧
    (∃ (m : Mod) (p : Nat) (c : Copy), ((m.port p).q.find? (fun c => c.pub = 1 ∧ c.whole) = none) ∧ ((m.port p).head 0 = some c)) ∧
    (∃ (m : Mod) (p : Nat), ((m.port p).q.find? (fun c => c.pub = 1 ∧ c.whole) = none) ∧ ((m.port p).head 0 = none) ∧ ((m.port p).guard = true ∨ (m.port p).paused = true)) ∧
    (∃ (s : State) (p c now : Nat) (y : Copy), (s.mod.Runs) ∧ (3 ≤ c) ∧ (c ≤ 7) ∧ ((s.mod.port p).q.find? (fun y => y.cls = c) = some y) ∧ (s.mod.num 0x300202 c ≠ 0) ∧ (1000 * s.mod.num 0x300202 c < now - y.since)) ∧
    (∃ (s : State) (c : Nat), (c < 3 ∨ 7 < c ∨ s.mod.num 0x300202 c = 0)) ∧
    (∃ (s : State) (f : SwFrame), (s.mod.Runs) ∧ (f.port ≤ 767) ∧ (s.mod.num 0x320002 f.port = psUp) ∧ (frameLen f.bytes < 64)) ∧
    (∃ (s : State) (f : SwFrame), (s.mod.Runs) ∧ (f.port ≤ 767) ∧ (s.mod.num 0x320002 f.port = psUp) ∧ (64 ≤ frameLen f.bytes) ∧ (s.mod.num 0x320005 f.port < frameLen f.bytes)) ∧
    (∃ (s : State) (f : SwFrame), (s.mod.Runs) ∧ (f.port ≤ 767) ∧ (s.mod.num 0x320002 f.port = psUp) ∧ (64 ≤ frameLen f.bytes) ∧ (frameLen f.bytes ≤ s.mod.num 0x320005 f.port)) ∧
    (∃ (s : State) (f : SwFrame), (s.mod.Runs) ∧ (f.port ≤ 767) ∧ (s.mod.num 0x320002 f.port = psUp) ∧ (64 ≤ frameLen f.bytes) ∧ (frameLen f.bytes ≤ s.mod.num 0x320005 f.port) ∧ (isMacControl f.bytes = false)) ∧
    (∃ (s : State) (f : SwFrame), (s.mod.num 0x320002 f.port ≠ psUp) ∧ (s.mod.num 0x320002 f.port ≠ psDormant)) :=
  ⟨⟨(w [(0x320002, 767, 2)] (fun m => m.setOct 0x390001 (List.replicate 109 255) 1)), { port := 767, bytes := List.replicate 60 0 }, by decide +kernel⟩,
    ⟨(w [(0x301003, 864, 1)]), { port := 864, bytes := List.replicate 60 0 }, by decide +kernel⟩,
    ⟨w0, {}, by decide +kernel⟩,
    ⟨(w [(0x320002, 767, 2)] ({ · with sw.ports := [(767, { sending := some {} })] })), 767, {}, by decide +kernel⟩,
    ⟨w0, 0, by decide +kernel⟩,
    ⟨(w [] ({ · with sw.ports := [(767, { q := [{ pub := 1 }] })] })).mod, 767, { pub := 1 }, by decide +kernel⟩,
    ⟨(w [] ({ · with sw.ports := [(767, { q := [{}] })] })).mod, 767, {}, by decide +kernel⟩,
    ⟨(w [] ({ · with sw.ports := [(767, { guard := true })] })).mod, 767, by decide +kernel⟩,
    ⟨(w [(0x300202, 3, 1)] ({ · with sw.ports := [(767, { q := [{ cls := 3 }] })] })), 767, 3, 1001, { cls := 3 }, by decide +kernel⟩,
    ⟨w0, 0, by decide +kernel⟩,
    ⟨(w [(0x320002, 767, 2)]), { port := 767, bytes := List.replicate 59 0 }, by decide +kernel⟩,
    ⟨(w [(0x320002, 767, 2)]), { port := 767, bytes := List.replicate 1519 0 }, by decide +kernel⟩,
    ⟨(w [(0x320002, 767, 2)]), { port := 767, bytes := List.replicate 1518 0 }, by decide +kernel⟩,
    ⟨(w [(0x320002, 767, 2)]), { port := 767, bytes := List.replicate 60 0 }, by decide +kernel⟩,
    ⟨w0, {}, by decide +kernel⟩⟩

theorem witness_ForwardingTables :
    (∃ (s : State), (s.mod.Runs)) ∧
    (∃ (s : State) (p : Path) (n : Nat), (s.mod.Serves p) ∧ (portExists n = true)) ∧
    (∃ (s : State) (p : Path) (n : Nat), (s.mod.Serves p) ∧ (portExists n = false)) ∧
    (∃ (s : State) (p : Path), (s.mod.Serves p) ∧ (p ≠ .supervisor)) ∧
    (∃ (s : State) (m : Mod), (s.mod.Serves .supervisor) ∧ ((s.mod.num 0x381001) ≤ 4095) ∧ ((s.mod.oct 0x381002).length = 6) ∧ (bit (s.mod.num 0x381003) 15 = false) ∧ (portExists (s.mod.num 0x381003) = true) ∧ (s.mod.macFind (s.mod.num 0x381001) (s.mod.oct 0x381002) = none) ∧ (s.mod.macInsert ({ mac := (s.mod.oct 0x381002), context := (s.mod.num 0x381001), dest := (s.mod.num 0x381003), static := true, hit := false, tick := s.mod.k % 2 ^ 32 } : MacEntry) = (m, true))) ∧
    (∃ (s : State) (m : Mod), (s.mod.Serves .supervisor) ∧ ((s.mod.num 0x381001) ≤ 4095) ∧ ((s.mod.oct 0x381002).length = 6) ∧ (bit (s.mod.num 0x381003) 15 = false) ∧ (portExists (s.mod.num 0x381003) = true) ∧ (s.mod.macFind (s.mod.num 0x381001) (s.mod.oct 0x381002) = none) ∧ (s.mod.macInsert ({ mac := (s.mod.oct 0x381002), context := (s.mod.num 0x381001), dest := (s.mod.num 0x381003), static := true, hit := false, tick := s.mod.k % 2 ^ 32 } : MacEntry) = (m, false))) ∧
    (∃ (s : State), (s.mod.Serves .supervisor) ∧ (4095 < s.mod.num 0x381001 ∨ (s.mod.oct 0x381002).length ≠ 6)) ∧
    (∃ (s : State) (b : Nat) (e : MacEntry), (s.mod.Serves .supervisor) ∧ (s.mod.macFind (s.mod.num 0x381001) (s.mod.oct 0x381002) = some (b, e))) ∧
    (∃ (s : State), (s.mod.Serves .supervisor) ∧ (s.mod.macFind (s.mod.num 0x381001) (s.mod.oct 0x381002) = none)) ∧
    (∃ (s : State), (s.mod.Serves .supervisor)) ∧
    (∃ (s : State) (p : Path) (l : List (List Byte)) (x : List Byte), (s.mod.Reaches p) ∧ (s.mod.sw.dump = x :: l)) ∧
    (∃ (s : State) (b0 b1 b : Nat), (s.mod.Serves .supervisor) ∧ ((s.mod.num 0x3A1001) = 4 ∨ (s.mod.num 0x3A1001) = 6) ∧ ((s.mod.oct 0x3A1002).length = famLen (s.mod.num 0x3A1001)) ∧ ((s.mod.num 0x3A1003) ≤ 8 * famLen (s.mod.num 0x3A1001)) ∧ (s.mod.routeFind (s.mod.num 0x3A1001) (s.mod.num 0x3A1003) (s.mod.oct 0x3A1002) = none) ∧ (routeBuckets (routeKey (s.mod.num 0x3A1001) (s.mod.num 0x3A1003) (s.mod.oct 0x3A1002)) = (b0, b1)) ∧ (insertBucket (s.mod.unitsAt b0) (s.mod.unitsAt b1) (s.mod.unitsAt routeOverflow) ({ family := (s.mod.num 0x3A1001), len := (s.mod.num 0x3A1003), pfx := maskTo (s.mod.num 0x3A1003) (s.mod.oct 0x3A1002), hop := s.mod.num 0x3A1004 } : Route).units 4 256 b0 b1 routeOverflow = some b)) ∧
    (∃ (s : State) (b0 b1 : Nat), (s.mod.Serves .supervisor) ∧ ((s.mod.num 0x3A1001) = 4 ∨ (s.mod.num 0x3A1001) = 6) ∧ ((s.mod.oct 0x3A1002).length = famLen (s.mod.num 0x3A1001)) ∧ ((s.mod.num 0x3A1003) ≤ 8 * famLen (s.mod.num 0x3A1001)) ∧ (s.mod.routeFind (s.mod.num 0x3A1001) (s.mod.num 0x3A1003) (s.mod.oct 0x3A1002) = none) ∧ (routeBuckets (routeKey (s.mod.num 0x3A1001) (s.mod.num 0x3A1003) (s.mod.oct 0x3A1002)) = (b0, b1)) ∧ (insertBucket (s.mod.unitsAt b0) (s.mod.unitsAt b1) (s.mod.unitsAt routeOverflow) ({ family := (s.mod.num 0x3A1001), len := (s.mod.num 0x3A1003), pfx := maskTo (s.mod.num 0x3A1003) (s.mod.oct 0x3A1002), hop := s.mod.num 0x3A1004 } : Route).units 4 256 b0 b1 routeOverflow = none)) ∧
    (∃ (s : State) (b : Nat) (r : Route), (s.mod.Serves .supervisor) ∧ ((s.mod.num 0x3A1001) = 4 ∨ (s.mod.num 0x3A1001) = 6) ∧ ((s.mod.oct 0x3A1002).length = famLen (s.mod.num 0x3A1001)) ∧ ((s.mod.num 0x3A1003) ≤ 8 * famLen (s.mod.num 0x3A1001)) ∧ (s.mod.routeFind (s.mod.num 0x3A1001) (s.mod.num 0x3A1003) (s.mod.oct 0x3A1002) = some (b, r))) ∧
    (∃ (s : State), (s.mod.Serves .supervisor) ∧ (s.mod.num 0x3A1001 ≠ 4) ∧ (s.mod.num 0x3A1001 ≠ 6)) :=
  ⟨⟨w0, by decide +kernel⟩,
    ⟨w0, .supervisor, 0, by decide +kernel⟩,
    ⟨w0, .supervisor, 867, by decide +kernel⟩,
    ⟨w0, .sdo, by decide +kernel⟩,
    ⟨w0, (w0.mod.macInsert { mac := List.replicate 6 0, static := true, tick := 1000 }).1, by and_intros <;> decide +kernel⟩,
    ⟨(w [] (fun m => ((m.setMacAt (macBuckets (macKey 0 (List.replicate 6 0))).1 (List.replicate 4 {})).setMacAt (macBuckets (macKey 0 (List.replicate 6 0))).2 (List.replicate 4 {})).setMacAt macOverflow (List.replicate 256 {}))), (w [] (fun m => ((m.setMacAt (macBuckets (macKey 0 (List.replicate 6 0))).1 (List.replicate 4 {})).setMacAt (macBuckets (macKey 0 (List.replicate 6 0))).2 (List.replicate 4 {})).setMacAt macOverflow (List.replicate 256 {}))).mod, by and_intros <;> decide +kernel⟩,
    ⟨(w [(0x381001, 0, 4096)]), by decide +kernel⟩,
    ⟨(w [] (fun m => m.setMacAt macOverflow [{ mac := List.replicate 6 0 }])), macOverflow, { mac := List.replicate 6 0 }, by decide +kernel⟩,
    ⟨w0, by decide +kernel⟩,
    ⟨w0, by decide +kernel⟩,
    ⟨(w [] ({ · with sw.dump := [[1]] })), .supervisor, [], [1], by decide +kernel⟩,
    ⟨(w [(0x3A1001, 0, 4)] (fun m => m.setOct 0x3A1002 (List.replicate 4 0))), (routeBuckets (routeKey 4 0 (List.replicate 4 0))).1, (routeBuckets (routeKey 4 0 (List.replicate 4 0))).2, (routeBuckets (routeKey 4 0 (List.replicate 4 0))).1, by decide +kernel⟩,
    ⟨(w [(0x3A1001, 0, 4)] (fun m => (((m.setOct 0x3A1002 (List.replicate 4 0)).setRoutesAt (routeBuckets (routeKey 4 0 (List.replicate 4 0))).1 (List.replicate 4 { pfx := [1] })).setRoutesAt (routeBuckets (routeKey 4 0 (List.replicate 4 0))).2 (List.replicate 4 { pfx := [1] })).setRoutesAt routeOverflow (List.replicate 256 { pfx := [1] }))), (routeBuckets (routeKey 4 0 (List.replicate 4 0))).1, (routeBuckets (routeKey 4 0 (List.replicate 4 0))).2, by decide +kernel⟩,
    ⟨(w [(0x3A1001, 0, 4)] (fun m => (m.setOct 0x3A1002 (List.replicate 4 0)).setRoutesAt routeOverflow [{ pfx := List.replicate 4 0 }])), routeOverflow, { pfx := List.replicate 4 0 }, by decide +kernel⟩,
    ⟨(w [(0x3A1001, 0, 5)]), by decide +kernel⟩⟩

theorem witness_PortsAndStations :
    (∃ (s : State) (p : Path) (l v : Nat) (m : Mod), (s.mod.Serves p) ∧ (l ≤ 191) ∧ (v ≤ 7) ∧ (m = s.mod.each (lanePorts l) (fun m q => (m.leaveUp q psDisabled).setPort q { (m.leaveUp q psDisabled).port q with link := false }))) ∧
    (∃ (s : State) (p : Path) (l : Nat), (s.mod.Serves p) ∧ (191 < l)) ∧
    (∃ (s : State) (p : Path) (l : Nat), (s.mod.Serves p) ∧ (l ≤ 191)) ∧
    (∃ (s : State) (p : Path) (q : Nat), (s.mod.Serves p) ∧ (q ≤ 767)) ∧
    (∃ (s : State) (p : Path) (q : Nat), (s.mod.Serves p) ∧ (q ≤ 767) ∧ (s.mod.num 0x320002 q = psUp)) ∧
    (∃ (s : State) (p : Path) (q : Nat), (s.mod.Serves p) ∧ (q ≤ 767) ∧ (s.mod.num 0x320002 q = psDormant)) ∧
    (∃ (s : State) (q : Nat), (s.mod.Runs) ∧ (s.mod.Good) ∧ (q ≤ 767) ∧ (s.mod.provided q = true) ∧ (s.mod.num 0x320002 q = psDown) ∧ (s.mod.num 0x310005 (q / 4) ≠ 0)) ∧
    (∃ (s : State) (q : Nat), (s.mod.Runs) ∧ (q ≤ 767) ∧ (s.mod.provided q = true) ∧ (s.mod.num 0x320002 q = psDown)) ∧
    (∃ (s : State) (q : Nat), (s.mod.Runs) ∧ (q ≤ 767) ∧ (s.mod.num 0x320002 q = psUp) ∧ ((s.mod.port q).link = true)) ∧
    (∃ (s : State) (q : Nat), (s.mod.Runs) ∧ (q ≤ 767) ∧ (s.mod.num 0x320002 q = psDormant) ∧ ((s.mod.port q).link = true)) ∧
    (∃ (s : State) (l : Nat), (s.mod.Runs) ∧ (l ≤ 191) ∧ (s.mod.num 0x310005 l ≠ 0)) ∧
    (∃ (s : State) (j : Nat), (s.mod.Runs) ∧ (j ≤ 11) ∧ (s.mod.num 0x350002 j ≠ 1) ∧ (s.mod.groupIdle j = true)) ∧
    (∃ (s : State) (l : Nat), (s.mod.Runs) ∧ (s.mod.Good) ∧ (l ≤ 191) ∧ (s.mod.num 0x310005 l ≠ 0) ∧ (s.mod.num 0x310006 l = 1)) ∧
    (∃ (s : State) (q : Nat), (s.mod.Runs) ∧ (q ≤ 767) ∧ (s.mod.num 0x320002 q = psUp) ∧ (((s.mod.bump 0x320020 q).bump 0x320024 q).num 0x320006 q ≠ 1) ∧ (((s.mod.bump 0x320020 q).bump 0x320024 q).num 0x320008 q = 1)) ∧
    (∃ (s : State), (s.mod.Runs)) ∧
    (∃ (s : State) (q : Nat), (s.mod.Runs) ∧ ((s.mod.port q).xoff = true) ∧ (s.mod.num 0x32000A q ≤ s.mod.occupancy q) ∧ (s.mod.num 0x320007 q = 1) ∧ (s.mod.num 0x320006 q = 0)) ∧
    (∃ (s : State) (q : Nat), ((s.mod.port q).xoff = false)) ∧
    (∃ (s : State), (s.mod.Runs)) ∧
    (∃ (s : State) (f : GooseFrame), (s.mod.Runs) ∧ (s.mod.stationsOn.filter (s.mod.gooseMatches f) = [])) ∧
    (∃ (s : State) (f : GooseFrame) (rs : List Nat), (s.mod.Runs) ∧ (s.mod.stationsOn.filter (s.mod.gooseMatches f) = rs) ∧ (rs ≠ [])) ∧
    (∃ (s : State) (r : Nat), (s.mod.Runs) ∧ (s.mod.num 0x5A000E r = stPresent) ∧ ((s.mod.station r).agreed.invalid = true) ∧ (s.mod.logic.imaged = true)) ∧
    (∃ (s : State) (r : Nat), (s.mod.num 0x5A000E r ≠ stPresent)) :=
  ⟨⟨w0, .supervisor, 0, 0, w0.mod, by decide +kernel⟩,
    ⟨w0, .supervisor, 192, by decide +kernel⟩,
    ⟨w0, .supervisor, 0, by decide +kernel⟩,
    ⟨w0, .supervisor, 0, by decide +kernel⟩,
    ⟨(w [(0x320002, 767, 2), (0x310001, 191, 7), (0x310005, 191, 1)]), .supervisor, 767, by decide +kernel⟩,
    ⟨(w [(0x320002, 767, 3), (0x310001, 191, 7), (0x310005, 191, 1)]), .supervisor, 767, by decide +kernel⟩,
    ⟨(w [(0x310001, 191, 7), (0x310005, 191, 1), (0x320002, 764, 1)]), 764, by and_intros <;> first | decide +kernel | exact ⟨by decide +kernel, by decide +kernel, by decide +kernel⟩⟩,
    ⟨(w [(0x310001, 191, 7), (0x310005, 191, 1), (0x320002, 764, 1)]), 764, by decide +kernel⟩,
    ⟨(w [(0x310001, 191, 7), (0x310005, 191, 1), (0x320002, 764, 2)] ({ · with sw.ports := [(764, { link := true })] })), 764, by decide +kernel⟩,
    ⟨(w [(0x310001, 191, 7), (0x310005, 191, 1), (0x320002, 764, 3)] ({ · with sw.ports := [(764, { link := true })] })), 764, by decide +kernel⟩,
    ⟨(w [(0x310005, 0, 1)]), 0, by decide +kernel⟩,
    ⟨w0, 0, by decide +kernel⟩,
    ⟨(w [(0x310005, 0, 1), (0x310006, 0, 1)]), 0, by and_intros <;> first | decide +kernel | exact ⟨by decide +kernel, by decide +kernel, by decide +kernel⟩⟩,
    ⟨(w [(0x320002, 767, 2), (0x320008, 767, 1)]), 767, by decide +kernel⟩,
    ⟨w0, by decide +kernel⟩,
    ⟨(w [(0x320007, 0, 1), (0x32000A, 0, 0)] ({ · with sw.ports := [(0, { xoff := true })] })), 0, by decide +kernel⟩,
    ⟨w0, 0, by decide +kernel⟩,
    ⟨w0, by decide +kernel⟩,
    ⟨w0, {}, by decide +kernel⟩,
    ⟨(w [(0x5A0001, 0, 1), (0x5A0003, 0, 0), (0x5A0005, 0, 0)] (fun m => (m.setOct 0x5A0002 (List.replicate 6 0)).setOct 0x5A0004 [65])), { dstMac := List.replicate 6 0, goCBRef := [65] }, [0], by decide +kernel⟩,
    ⟨(w [(0x5A000E, 2047, 2)] ({ · with logic.imaged := true, logic.stations := [(2047, { agreed := { invalid := true } })] })), 2047, by decide +kernel⟩,
    ⟨w0, 0, by decide +kernel⟩⟩

theorem witness_TheTimeBase :
    (∃ (s : State) (j : Nat), (s.mod.Runs) ∧ (s.mod.qstate j = qsQualifying) ∧ ((s.mod.timeSrc j).offsets ≠ []) ∧ (s.mod.isTod j = true) ∧ ((∀ x ∈ (s.mod.timeSrc j).offsets, ((x * (s.mod.timeSrc j).offsets.length - (s.mod.timeSrc j).offsets.sum).natAbs : Int) ≤ 1000 * (s.mod.timeSrc j).offsets.length))) ∧
    (∃ (s : State) (j : Nat), (s.mod.qstate j ≠ qsQualifying)) ∧
    (∃ (s : State), (s.mod.Runs) ∧ (s.mod.num 0x3C2001 = 1)) ∧
    (∃ (s : State) (f : IrigFrame) (l : Nat), (s.mod.Runs) ∧ (s.mod.num 0x3C2001 = 1) ∧ (s.mod.num 0x3C2002 ≠ 1) ∧ (f.good = true) ∧ ((s.mod.timeSrc 2).last = some l) ∧ (s.mod.irigSecond f = l + 1)) ∧
    (∃ (s : State), (s.mod.num 0x3C2001 ≠ 1)) ∧
    (∃ (s : State) (i now j l : Nat), (s.mod.Runs) ∧ (s.mod.ppsSource i = some j) ∧ ((s.mod.timeSrc j).last = some l) ∧ (l + 999999000 ≤ now) ∧ (now ≤ l + 1000001000) ∧ ((((s.mod.tb now : Int) - s.mod.int 32 (0x3C2005 + i)) % 1000000000) ≤ 400000000)) ∧
    (∃ (s : State) (i j : Nat), (s.mod.Runs) ∧ (s.mod.ppsSource i = some j)) ∧
    (∃ (s : State) (i : Nat), (s.mod.ppsSource i = none)) ∧
    (∃ (s : State), (s.mod.Runs) ∧ (s.mod.time.stepHold = true)) ∧
    (∃ (s : State), (s.mod.time.stepHold = false)) ∧
    (∃ (s : State) (c : Commit), (s.mod.Runs) ∧ (s.mod.capturing = true) ∧ (s.mod.mstate = msMember) ∧ (s.mod.stepCommits.filter (fun c => (c.state == .proposed || c.state == .confirmed) && c.target == s.mod.k + 48) = [c])) ∧
    (∃ (s : State), (s.mod.capturing = false)) ∧
    (∃ (s : State), (s.mod.Runs) ∧ (s.mod.num 0x3C2007 = 0)) ∧
    (∃ (s : State), (s.mod.Runs) ∧ (s.mod.num 0x3C2007 = 2)) ∧
    (∃ (s : State), (s.mod.Runs) ∧ (s.mod.timeState = tsLocked) ∧ (1000 < (s.mod.int 64 0x3C0003).natAbs)) ∧
    (∃ (s : State), ((s.mod.int 64 0x3C0003).natAbs ≤ 1000)) ∧
    (∃ (s : State), (s.mod.Runs) ∧ (s.mod.timeState = tsHoldover)) ∧
    (∃ (s : State), (s.mod.timeState ≠ tsHoldover)) ∧
    (∃ (s : State) (p : Path), (s.mod.Serves p) ∧ (s.mod.timeState = tsFreerun) ∧ (s.mod.time.everLocked = false) ∧ (s.mod.isMember = false) ∧ (s.mod.tick.running = true)) ∧
    (∃ (s : State) (p : Path), (s.mod.Serves p) ∧ (s.mod.timeState ≠ tsFreerun ∨ s.mod.time.everLocked = true ∨ s.mod.isMember = true)) ∧
    (∃ (s : State), (s.mod.Runs) ∧ (s.mod.num 0x3C000A = 1)) ∧
    (∃ (s : State), (s.mod.Runs) ∧ (s.mod.num 0x3C000A = 2)) ∧
    (∃ (s : State), (s.mod.num 0x3C000A = 0)) ∧
    (∃ (s : State) (o now : Nat), (s.mod.Runs) ∧ (o ≤ 1) ∧ (((s.mod.tb now : Int) - s.mod.int 32 0x3C3002 o) % 1000000000 = 0) ∧ (s.mod.num 0x3C3001 o = 1)) ∧
    (∃ (s : State) (o : Nat), (s.mod.num 0x3C3001 o = 0)) :=
  ⟨⟨(w [(0x3C1003, 1, 2)] ({ · with time.srcs := [(1, { offsets := [5, 5] })] })), 1, by decide +kernel⟩,
    ⟨w0, 0, by decide +kernel⟩,
    ⟨(w [(0x3C2001, 0, 1)]), by decide +kernel⟩,
    ⟨(w [(0x3C2001, 0, 1)] (fun m => { m with time.srcs := [(2, { last := some (m.irigSecond {} - 1).toNat })] })), {}, ((w [(0x3C2001, 0, 1)]).mod.irigSecond {} - 1).toNat, by decide +kernel⟩,
    ⟨w0, by decide +kernel⟩,
    ⟨(w [] ({ · with time.srcs := [(3, { last := some 0 })] })), 0, 1000000000, 3, 0, by decide +kernel⟩,
    ⟨w0, 0, 3, by decide +kernel⟩,
    ⟨w0, 1, by decide +kernel⟩,
    ⟨(w [] ({ · with time.stepHold := true })), by decide +kernel⟩,
    ⟨(w [] ({ · with time.stepHold := false })), by decide +kernel⟩,
    ⟨(w [(0x4C2001, 0, 2), (0x600002, 0, 4)] ({ · with dic.held := [{ target := 1048, step := some 5 }] })), { target := 1048, step := some 5 }, by decide +kernel⟩,
    ⟨w0, by decide +kernel⟩,
    ⟨(w [(0x3C2007, 0, 0)]), by decide +kernel⟩,
    ⟨(w [(0x3C2007, 0, 2)]), by decide +kernel⟩,
    ⟨(w [(0x3C0001, 0, 2), (0x3C0003, 0, 1001)]), by decide +kernel⟩,
    ⟨w0, by decide +kernel⟩,
    ⟨(w [(0x3C0001, 0, 3)]), by decide +kernel⟩,
    ⟨w0, by decide +kernel⟩,
    ⟨(w [(0x3C0001, 0, 0)] ({ · with time.everLocked := false, tick.running := true })), .supervisor, by decide +kernel⟩,
    ⟨(w [(0x3C0001, 0, 1)]), .supervisor, by decide +kernel⟩,
    ⟨(w [(0x3C000A, 0, 1)]), by decide +kernel⟩,
    ⟨(w [(0x3C000A, 0, 2)]), by decide +kernel⟩,
    ⟨(w [(0x3C000A, 0, 0)]), by decide +kernel⟩,
    ⟨(w [(0x3C3001, 0, 1)]), 0, 0, by decide +kernel⟩,
    ⟨(w [(0x3C3001, 0, 0)]), 0, by decide +kernel⟩⟩

theorem witness_TriadTimeAndPtp :
    (∃ (s : State) (r : Nat), (s.mod.Runs) ∧ (r ≠ s.mod.leader) ∧ (s.mod.rank ≠ 0) ∧ (1 ≤ r) ∧ (r ≤ 3) ∧ (r ≠ s.mod.rank) ∧ (s.mod.num 0x600102 r = msMember)) ∧
    (∃ (s : State), (s.mod.Runs) ∧ (s.mod.mstate = msMember) ∧ (s.mod.leader = s.mod.rank)) ∧
    (∃ (s : State) (l : Nat), (s.mod.Runs) ∧ (s.mod.following = true) ∧ (s.mod.triadLink l = true) ∧ (s.mod.num 0x600101 s.mod.leader = s.mod.num 0x611006 l) ∧ (s.mod.selected = selTransfer)) ∧
    (∃ (s : State) (l : Nat), (s.mod.following = false ∨ s.mod.triadLink l = false)) ∧
    (∃ (s : State), (s.mod.Runs) ∧ (s.mod.following = true) ∧ (s.mod.time.xfer = true)) ∧
    (∃ (s : State) (j : Nat), (s.mod.Runs) ∧ (s.mod.bestSource = some j) ∧ (s.mod.following = true) ∧ (s.mod.num 0x3C0011 < (s.mod.srcX j).natAbs)) ∧
    (∃ (s : State) (x : PtpMsg) (i : Nat) (g : Gm), (s.mod.Runs) ∧ (s.mod.ptpOf x = some i) ∧ (x.twoStep = false) ∧ (s.mod.parent i = some g) ∧ (s.mod.num 0x3D4001 x.port = ptSlave) ∧ (g.cls ≤ s.mod.num 0x3D000B i)) ∧
    (∃ (s : State) (x : PtpMsg) (i : Nat), (s.mod.Runs) ∧ (s.mod.ptpOf x = some i) ∧ (x.twoStep = true)) ∧
    (∃ (s : State) (x : PtpMsg) (i t2 : Nat) (c : Int), (s.mod.Runs) ∧ (s.mod.ptpOf x = some i) ∧ ((s.mod.ptpPort x.port).sync = some (x.seq, t2, c))) ∧
    (∃ (s : State) (x : PtpMsg), (s.mod.ptpOf x = none)) ∧
    (∃ (s : State) (x : PtpMsg) (i : Nat), (s.mod.Runs) ∧ (s.mod.ptpOf x = some i) ∧ ((s.mod.ptpPort x.port).best = none) ∧ ((((s.mod.setPtpPort x.port { s.mod.ptpPort x.port with best := some { p1 := x.p1, cls := x.cls, acc := x.acc, var := x.var, p2 := x.p2, id := x.gmId, steps := x.steps + 1, sender := x.sender, port := x.senderPort } }).bmca i none).takeUtc x).parent i = none)) ∧
    (∃ (s : State) (x : PtpMsg), (s.mod.Runs) ∧ (x.port < 768) ∧ ((s.mod.ptpOf x).isSome = true)) ∧
    (∃ (s : State) (p : Nat), (s.mod.Runs) ∧ (p < 768) ∧ ((s.mod.ptpInst p).isSome = true)) ∧
    (∃ (s : State), (s.mod.Runs)) ∧
    (∃ (s : State) (p i : Nat), (s.mod.Runs) ∧ (s.mod.ptpInst p = some i) ∧ (s.mod.num 0x3D4001 p = ptMaster)) ∧
    (∃ (s : State) (p i : Nat), (s.mod.Runs) ∧ (s.mod.ptpInst p = some i) ∧ (s.mod.num 0x3D4001 p ≠ ptMaster)) ∧
    (∃ (s : State) (p i : Nat), (s.mod.Runs) ∧ (s.mod.ptpInst p = some i)) ∧
    (∃ (s : State) (i : Nat), (s.mod.Runs) ∧ (i < 2)) ∧
    (∃ (m : Mod) (j : Nat), (m.qstate j ≠ qsQualifying) ∧ (m.qstate j ≠ qsQualified)) :=
  ⟨⟨(w [(0x600001, 0, 1), (0x600102, 2, 4)]), 2, by decide +kernel⟩,
    ⟨(w [(0x3C000F, 0, 1), (0x600001, 0, 1), (0x600002, 0, 4)]), by decide +kernel⟩,
    ⟨(w [(0x3C0002, 0, 254), (0x3C000F, 0, 2), (0x600001, 0, 1), (0x600002, 0, 4), (0x611009, 0, 1)]), 0, by decide +kernel⟩,
    ⟨w0, 0, by decide +kernel⟩,
    ⟨(w [(0x3C000F, 0, 2), (0x600001, 0, 1), (0x600002, 0, 4)] ({ · with time.xfer := true })), by decide +kernel⟩,
    ⟨(w [(0x3C000F, 0, 2), (0x3C1003, 3, 3), (0x3C1004, 3, 1001), (0x600001, 0, 1), (0x600002, 0, 4)]), 3, by decide +kernel⟩,
    ⟨(w [(0x3D0001, 0, 1), (0x3D4001, 767, 9)] (fun m => ({ m with time.ptp := [(767, { best := some { cls := 7 } })] }).setOct 0x3D0004 [255, 2])), { port := 767 }, 0, { cls := 7 }, by decide +kernel⟩,
    ⟨(w [(0x3D0001, 0, 1)] (fun m => ({ m with freeCount := 0 }).setOct 0x3D0004 [255, 2])), { port := 767, twoStep := true }, 0, by decide +kernel⟩,
    ⟨(w [(0x3D0001, 0, 1)] (fun m => ({ m with time.ptp := [(767, { sync := some (0, 5, 6) })] }).setOct 0x3D0004 [255, 2])), { port := 767 }, 0, 5, 6, by decide +kernel⟩,
    ⟨w0, {}, by decide +kernel⟩,
    ⟨(w [(0x3D0001, 0, 1), (0x3D000A, 0, 0)] (fun m => ({ m with freeCount := 0 }).setOct 0x3D0004 [255, 2])), { port := 767 }, 0, by decide +kernel⟩,
    ⟨(w [(0x3D0001, 0, 1)] (fun m => ({ m with freeCount := 0 }).setOct 0x3D0004 [255, 2])), { port := 767 }, by decide +kernel⟩,
    ⟨(w [(0x3D0001, 0, 1)] (fun m => ({ m with freeCount := 0 }).setOct 0x3D0004 [255, 2])), 767, by decide +kernel⟩,
    ⟨w0, by decide +kernel⟩,
    ⟨(w [(0x3D0001, 0, 1), (0x3D4001, 767, 6)] (fun m => ({ m with freeCount := 0 }).setOct 0x3D0004 [255, 2])), 767, 0, by decide +kernel⟩,
    ⟨(w [(0x3D0001, 0, 1)] (fun m => ({ m with freeCount := 0 }).setOct 0x3D0004 [255, 2])), 767, 0, by decide +kernel⟩,
    ⟨(w [(0x3D0001, 0, 1)] (fun m => ({ m with freeCount := 0 }).setOct 0x3D0004 [255, 2])), 767, 0, by decide +kernel⟩,
    ⟨w0, 0, by decide +kernel⟩,
    ⟨w0.mod, 0, by decide +kernel⟩⟩

theorem witness_TheClicker :
    (∃ (s : State) (c : CapTick), (s.mod.Runs) ∧ (s.mod.tick.phase = .V ∨ s.mod.tick.phase = .P) ∧ (s.mod.tick.running = true) ∧ (s.mod.click.wrote ≠ s.mod.k + 1) ∧ (s.mod.click.hist.find? (fun c => c.k + 10 = s.mod.k) = some c)) ∧
    (∃ (s : State), (s.mod.Runs) ∧ (s.mod.tick.phase = .V ∨ s.mod.tick.phase = .P) ∧ (s.mod.tick.running = true) ∧ (s.mod.click.wrote ≠ s.mod.k + 1) ∧ (s.mod.click.hist.find? (fun c => c.k + 10 = s.mod.k) = none)) ∧
    (∃ (s : State), (s.mod.click.wrote = s.mod.k + 1 ∨ s.mod.tick.running = false ∨ (s.mod.tick.phase ≠ .V ∧ s.mod.tick.phase ≠ .P))) ∧
    (∃ (s : State) (j now : Nat) (lv : Bool), (s.mod.Runs) ∧ (j ≤ 31) ∧ (s.mod.num 0x4C6001 j = 0) ∧ (s.mod.num 0x4C6005 j ≠ b2n lv)) ∧
    (∃ (s : State) (j : Nat) (lv : Bool), (31 < j ∨ s.mod.num 0x4C6001 j ≠ 0 ∨ s.mod.num 0x4C6005 j = b2n lv)) ∧
    (∃ (s : State) (j : Nat), (s.mod.Runs) ∧ (s.mod.trigMode j = some 1) ∧ (s.mod.num 0x4C6005 j = 1)) ∧
    (∃ (s : State) (j : Nat), (s.mod.trigMode j ≠ some 1 ∨ s.mod.num 0x4C6005 j = 0)) ∧
    (∃ (s : State) (h : FlitHdr) (p : Packet), (s.mod.Takes h p) ∧ (p.dst = (s.mod.received h p).moduleId ∨ p.dst = 255) ∧ (p.ty = .xtrig)) ∧
    (∃ (s : State) (h : FlitHdr) (p : Packet), (s.mod.Takes h p) ∧ (p.dst ≠ (s.mod.received h p).moduleId) ∧ (p.dst ≠ 255)) ∧
    (∃ (m : Mod) (p : Packet) (now : Nat), (p.dst ≠ 255 ∨ p.src = (m.takeXtrig p now).moduleId)) ∧
    (∃ (m : Mod) (p : Packet) (now : Nat), (p.dst = 255) ∧ (p.src ≠ (m.takeXtrig p now).moduleId)) ∧
    (∃ (m : Mod) (p : Packet), (p.src = m.moduleId ∨ field p.data 0 1 ≠ 1)) ∧
    (∃ (m : Mod) (p : Packet), (p.src ≠ m.moduleId) ∧ (field p.data 0 1 = 1)) ∧
    (∃ (s : State) (p : Path) (x : Nat), (s.mod.Serves p) ∧ (x ≤ 63)) ∧
    (∃ (s : State) (p : Path) (x : Nat), (s.mod.Serves p) ∧ (x ≤ 63) ∧ (s.mod.ckState x = ckTriggered)) ∧
    (∃ (s : State) (p : Path) (x : Nat), (s.mod.Serves p) ∧ (x ≤ 63) ∧ (s.mod.ckState x = ckComplete)) ∧
    (∃ (s : State) (p : Path) (x : Nat), (s.mod.Serves p) ∧ (x ≤ 63) ∧ (s.mod.ckState x = ckComplete ∨ s.mod.ckState x = ckDone)) ∧
    (∃ (s : State) (p : Path) (x : Nat), (s.mod.Serves p) ∧ (x ≤ 63)) ∧
    (∃ (s : State) (p : Path) (x v : Nat), (s.mod.Serves p) ∧ (x ≤ 63) ∧ (v ≠ 1)) ∧
    (∃ (s : State) (p : Path) (x : Nat), (s.mod.Serves p) ∧ (63 < x)) ∧
    (∃ (s : State) (p : Path) (x : Nat) (b : List Byte), (s.mod.Serves p) ∧ (x ≤ 63) ∧ (b.length = 12) ∧ (field b 8 4 ≠ 0) ∧ (field b 0 8 + field b 8 4 ≤ s.mod.imageLen x) ∧ ((s.mod.ck x).gone = 0) ∧ (s.mod.ckState x = ckComplete ∨ s.mod.ckState x = ckDone)) ∧
    (∃ (s : State) (p : Path) (x : Nat) (b : List Byte), (s.mod.Serves p) ∧ (x ≤ 63) ∧ (b.length = 12)) ∧
    (∃ (s : State) (p : Path) (b : List Byte), (s.mod.Serves p) ∧ (b.length ≠ 12)) ∧
    (∃ (s : State) (x : Nat), (s.mod.Runs) ∧ (((List.range 64).map (fun i => (s.mod.click.turn + 1 + i) % 64)).find? s.mod.wantsDrain = some x)) ∧
    (∃ (s : State), ((∀ x, x < 64 → s.mod.wantsDrain x = false))) ∧
    (∃ (m : Mod) (x off len : Nat) (t : List (Nat × Nat)), ((m.ck x).resend = (off, len) :: t)) ∧
    (∃ (m : Mod) (x : Nat), ((m.ck x).resend = []) ∧ (m.ckMode x 0 = false) ∧ ((m.ck x).sent < m.imageLen x)) ∧
    (∃ (m : Mod) (x : Nat), ((m.ck x).resend = []) ∧ (m.ckMode x 0 = true) ∧ ((m.ck x).sent < m.imageLen x)) ∧
    (∃ (m : Mod) (x : Nat), ((m.ck x).resend = []) ∧ (m.ckMode x 0 = true) ∧ (m.imageLen x ≤ (m.ck x).sent) ∧ (m.ckState x = ckDraining)) :=
  ⟨⟨(w [] ({ · with tick.phase := .V, click.hist := [{ kf := 988, k := 990 }] })), { kf := 988, k := 990 }, by decide +kernel⟩,
    ⟨(w [] ({ · with tick.phase := .V, tick.running := true })), by decide +kernel⟩,
    ⟨(w [] ({ · with click.wrote := 1001 })), by decide +kernel⟩,
    ⟨(w [(0x4C6001, 0, 0)]), 0, 0, true, by decide +kernel⟩,
    ⟨w0, 32, true, by decide +kernel⟩,
    ⟨(w [(0x4C6001, 31, 1), (0x4C6003, 31, 2 ^ 30), (0x4C6005, 31, 1)]), 31, by decide +kernel⟩,
    ⟨w0, 0, by decide +kernel⟩,
    ⟨(w [(0x610001, 0, 1), (0x611004, 0, 3)]), {}, { ty := .xtrig, vc := 0, dst := 255 }, by decide +kernel⟩,
    ⟨(w [(0x610001, 0, 1), (0x611004, 0, 3)]), {}, { ty := .xtrig, vc := 0, dst := 2 }, by decide +kernel⟩,
    ⟨w0.mod, {}, 0, by decide +kernel⟩,
    ⟨(w [(0x610001, 0, 1), (0x611004, 0, 3)]).mod, { ty := .xtrig, vc := 0, dst := 255 }, 0, by decide +kernel⟩,
    ⟨w0.mod, {}, by decide +kernel⟩,
    ⟨(w [(0x610001, 0, 1), (0x611004, 0, 3)]).mod, { ty := .xtrig, vc := 0, data := [1] }, by decide +kernel⟩,
    ⟨w0, .supervisor, 0, by decide +kernel⟩,
    ⟨(w [(0x4C2001, 0, 2)]), .supervisor, 0, by decide +kernel⟩,
    ⟨(w [(0x4C2001, 0, 3)]), .supervisor, 0, by decide +kernel⟩,
    ⟨(w [(0x4C2001, 0, 3)]), .supervisor, 0, by decide +kernel⟩,
    ⟨w0, .supervisor, 0, by decide +kernel⟩,
    ⟨w0, .supervisor, 0, 0, by decide +kernel⟩,
    ⟨w0, .supervisor, 64, by decide +kernel⟩,
    ⟨(w [(0x4C2001, 63, 3)]), .supervisor, 63, toLE 8 96 ++ toLE 4 4, by decide +kernel⟩,
    ⟨w0, .supervisor, 63, List.replicate 12 0, by decide +kernel⟩,
    ⟨w0, .supervisor, [], by decide +kernel⟩,
    ⟨(w [(0x4C2001, 63, 4)]), 63, by decide +kernel⟩,
    ⟨w0, by decide +kernel⟩,
    ⟨(w [] ({ · with click.slots := [(0, { resend := [(0, 4)] })] })).mod, 0, 0, 4, [], by decide +kernel⟩,
    ⟨w0.mod, 0, by decide +kernel⟩,
    ⟨(w [(0x4C1006, 0, 1)]).mod, 0, by decide +kernel⟩,
    ⟨(w [(0x4C1006, 0, 1), (0x4C2001, 0, 4)] ({ · with click.slots := [(0, { sent := 256 })] })).mod, 0, by decide +kernel⟩⟩

theorem witness_CanChannels :
    (∃ (s : State) (n : Nat), (s.mod.Runs) ∧ (n ≤ 191) ∧ (s.mod.busOff n = true) ∧ (s.mod.on 0x5C100C n = true)) ∧
    (∃ (s : State) (n : Nat), (s.mod.busOff n = false)) ∧
    (∃ (m : Mod) (n : Nat), (m.Good) ∧ (n ≤ 191)) ∧
    (∃ (s : State) (p : Path) (n : Nat), (s.mod.Serves p) ∧ (n ≤ 191) ∧ (s.mod.busOff n = true) ∧ (s.mod.on 0x5C100C n = false)) ∧
    (∃ (s : State) (p : Path) (n v : Nat), (s.mod.Serves p) ∧ (s.mod.Good) ∧ (n ≤ 191) ∧ (v ≤ 3) ∧ ((v = 3 → n ≤ 7))) ∧
    (∃ (s : State) (p : Path) (n v : Nat), (s.mod.Serves p) ∧ (n ≤ 191) ∧ (3 < v ∨ (v = 3 ∧ 7 < n))) ∧
    (∃ (s : State) (p : Path) (i : Nat) (idle : Bool), (s.mod.Serves p) ∧ (i ≤ 575) ∧ ((s.mod.setCanChan (i / 3) { s.mod.canChan (i / 3) with busy := !idle && (s.mod.canChan (i / 3)).sending.isNone }).num 0x5C2005 i = 0) ∧ ((s.mod.setCanChan (i / 3) { s.mod.canChan (i / 3) with busy := !idle && (s.mod.canChan (i / 3)).sending.isNone }).num 0x5C2007 i ≠ 1) ∧ ((s.mod.setCanChan (i / 3) { s.mod.canChan (i / 3) with busy := !idle && (s.mod.canChan (i / 3)).sending.isNone }).num 0x5C2007 i ≠ 2)) ∧
    (∃ (s : State) (p : Path) (i : Nat), (s.mod.Serves p) ∧ (i ≤ 575) ∧ (s.mod.num 0x5C2007 i = 1)) ∧
    (∃ (s : State) (p : Path) (i : Nat), (s.mod.Serves p) ∧ (i ≤ 575) ∧ (s.mod.num 0x5C2007 i = 2)) ∧
    (∃ (s : State) (p : Path) (n : Nat) (r : List Byte) (l : List (List Byte)), (s.mod.Reaches p) ∧ (n ≤ 191) ∧ ((s.mod.canChan n).fifo = r :: l)) ∧
    (∃ (s : State), (s.mod.can.batch = [])) ∧
    (∃ (s : State), (s.mod.Runs)) ∧
    (∃ (s : State) (bs : List Byte) (e : Nat), (s.mod.Runs) ∧ (tunnelParse (bs.drop (if hasTag 0x8100 bs then 18 else 14)) = .error e)) ∧
    (∃ (s : State) (n : Nat), (s.mod.Runs) ∧ (n ≤ 191) ∧ (s.mod.canMode n ≠ 0) ∧ (s.mod.busOff n = false)) ∧
    (∃ (s : State) (n : Nat), (s.mod.canMode n = 0 ∨ s.mod.busOff n = true)) ∧
    (∃ (s : State) (n : Nat), (s.mod.Runs) ∧ (n ≤ 191) ∧ (s.mod.canMode n = 1) ∧ (s.mod.busOff n = false) ∧ ((s.mod.canChan n).sending = none)) ∧
    (∃ (s : State) (n b : Nat), (s.mod.Runs) ∧ ((s.mod.canChan n).sending = some (.buf b))) ∧
    (∃ (s : State) (n : Nat), ((s.mod.canChan n).sending = none)) ∧
    (∃ (s : State) (n b : Nat), (s.mod.Runs) ∧ ((s.mod.canChan n).sending = some (.buf b))) ∧
    (∃ (s : State) (n j : Nat), (s.mod.Runs) ∧ ((s.mod.canChan n).sending = some (.excl j)) ∧ (255 < ((((s.mod.setCanChan n { s.mod.canChan n with sending := none }).emit (.canError n)).loseWindow n j)).num 0x5C1013 n + 8)) ∧
    (∃ (m : Mod) (i : Nat), ((m.canBuf i).abort = false)) ∧
    (∃ (s : State) (n : Nat), (s.mod.Runs) ∧ (s.mod.canMode n ≠ 3)) ∧
    (∃ (s : State) (n ct : Nat), (s.mod.Runs) ∧ (n ≤ 7) ∧ (s.mod.canMode n = 3) ∧ (s.mod.inPhase .P = true) ∧ (((s.mod.canChan n).run = none ∧ ct = s.mod.num 0x5E0001 n) ∨ (∃ x : TtRun, (s.mod.canChan n).run = some x ∧ ct = x.cycleTicks)) ∧ (s.mod.k % ct = 0) ∧ ((s.mod.canChan n).excl = none)) ∧
    (∃ (s : State) (n : Nat), (s.mod.inPhase .P = false ∨ 7 < n)) ∧
    (∃ (s : State) (n j st len : Nat) (r : TtRun), (s.mod.Runs) ∧ (n ≤ 7) ∧ (j ≤ 31) ∧ (s.mod.canMode n = 3) ∧ ((s.mod.canChan n).run = some r) ∧ ((s.mod.canChan n).excl = none) ∧ (columnOf r.columns j = (st, len, 2))) ∧
    (∃ (s : State) (n j st len : Nat) (r : TtRun), (s.mod.Runs) ∧ (n ≤ 7) ∧ (j ≤ 31) ∧ (s.mod.canMode n = 3) ∧ ((s.mod.canChan n).run = some r) ∧ ((s.mod.canChan n).excl = none) ∧ (columnOf r.columns j = (st, len, 1)) ∧ (s.mod.triad.armedCan.contains (256 * n + j) = true)) ∧
    (∃ (s : State) (n : Nat), ((s.mod.canChan n).run = none)) :=
  ⟨⟨(w [(0x5C100C, 0, 1), (0x5C1011, 0, 2)]), 0, by decide +kernel⟩,
    ⟨w0, 0, by decide +kernel⟩,
    ⟨w0.mod, 0, ⟨by decide +kernel, by decide +kernel, by decide +kernel⟩, by decide +kernel⟩,
    ⟨(w [(0x5C100C, 0, 0), (0x5C1011, 0, 2)]), .supervisor, 0, by decide +kernel⟩,
    ⟨w0, .supervisor, 0, 0, by and_intros <;> first | decide +kernel | exact ⟨by decide +kernel, by decide +kernel, by decide +kernel⟩⟩,
    ⟨w0, .supervisor, 8, 3, by decide +kernel⟩,
    ⟨w0, .supervisor, 0, true, by decide +kernel⟩,
    ⟨(w [(0x5C2007, 0, 1)]), .supervisor, 0, by decide +kernel⟩,
    ⟨(w [(0x5C2007, 0, 2)]), .supervisor, 0, by decide +kernel⟩,
    ⟨(w [] ({ · with can.chans := [(191, { fifo := [[1]] })] })), .supervisor, 191, [1], [], by decide +kernel⟩,
    ⟨w0, by decide +kernel⟩,
    ⟨w0, by decide +kernel⟩,
    ⟨w0, [], 1, by decide +kernel, by unfold tunnelParse; rw [if_pos (by decide +kernel)]⟩,
    ⟨(w [(0x5C1001, 0, 1)]), 0, by decide +kernel⟩,
    ⟨(w [(0x5C1001, 0, 0)]), 0, by decide +kernel⟩,
    ⟨(w [(0x5C1001, 0, 1)] ({ · with can.chans := [(0, { sending := none })] })), 0, by decide +kernel⟩,
    ⟨(w [] ({ · with can.chans := [(191, { sending := some (.buf 2) })] })), 191, 2, by decide +kernel⟩,
    ⟨(w [] ({ · with can.chans := [(0, { sending := none })] })), 0, by decide +kernel⟩,
    ⟨(w [] ({ · with can.chans := [(191, { sending := some (.buf 2) })] })), 191, 2, by decide +kernel⟩,
    ⟨(w [(0x5C1013, 0, 250)] ({ · with can.chans := [(0, { sending := some (.excl 3) })] })), 0, 3, by decide +kernel⟩,
    ⟨w0.mod, 0, by decide +kernel⟩,
    ⟨w0, 0, by decide +kernel⟩,
    ⟨(w [(0x5C1001, 0, 3), (0x5E0001, 0, 1)] ({ · with tick.phase := .P })), 0, 1, by decide +kernel, by decide, by decide +kernel, by decide +kernel, Or.inl ⟨by decide +kernel, by decide +kernel⟩, by decide +kernel, by decide +kernel⟩,
    ⟨w0, 0, by decide +kernel⟩,
    ⟨(w [(0x5C1001, 0, 3)] ({ · with can.chans := [(0, { run := some { columns := List.replicate 8 0 ++ [2] } })] })), 0, 0, 0, 0, { columns := List.replicate 8 0 ++ [2] }, by decide +kernel⟩,
    ⟨(w [(0x5C1001, 7, 3)] ({ · with triad.armedCan := [1792], can.chans := [(7, { run := some { columns := List.replicate 8 0 ++ [1] } })] })), 7, 0, 0, 0, { columns := List.replicate 8 0 ++ [1] }, by decide +kernel⟩,
    ⟨(w [] ({ · with can.chans := [(0, { run := none })] })), 0, by decide +kernel⟩⟩

theorem witness_TheRecorder :
    (∃ (s : State) (same : Nat) (e : Ev), (s.mod.Runs) ∧ (firstEvent same s.mod.raised = some e)) ∧
    (∃ (s : State), (s.mod.raised = [])) ∧
    (∃ (e : RecEntry), (codeExempt e.code = true)) ∧
    (∃ (m : Mod) (e : RecEntry), (codeExempt e.code = false) ∧ ((m.bucket e.code).used < m.num 0x682002 (codeRange e.code))) ∧
    (∃ (m : Mod) (e : RecEntry), (codeExempt e.code = false) ∧ (m.num 0x682002 (codeRange e.code) ≤ (m.bucket e.code).used)) ∧
    (∃ (m : Mod), (m.recorder.scanned = true) ∧ (m.recorder.queue = []) ∧ (m.recorder.dropDue = false) ∧ (m.recorder.used < 2000)) ∧
    (∃ (m : Mod), (m.recorder.scanned = false) ∧ (m.recorder.queue.length < 256)) ∧
    (∃ (m : Mod), (m.recorder.drops ≠ 0) ∧ (256 ≤ m.recorder.queue.length)) ∧
    (∃ (m : Mod), (m.Good)) ∧
    (∃ (s : State) (c : Nat), (s.mod.Runs) ∧ ((s.mod.bucket c).used ≠ 0) ∧ ((s.mod.bucket c).count = 0)) ∧
    (∃ (s : State) (c : Nat), (s.mod.Runs) ∧ ((s.mod.bucket c).used ≠ 0) ∧ ((s.mod.bucket c).count ≠ 0)) ∧
    (∃ (s : State) (c : Nat), ((s.mod.bucket c).used = 0)) ∧
    (∃ (s : State), (s.mod.Runs) ∧ (s.mod.recorder.scanned = true) ∧ (s.mod.recorder.dropDue = false)) ∧
    (∃ (s : State), (s.mod.Runs) ∧ (s.mod.recorder.scanned = true) ∧ (s.mod.recorder.dropDue = true)) ∧
    (∃ (m : Mod), ((m.bucket 0x0003).used < m.num 0x682002 0)) ∧
    (∃ (s : State), (s.mod.Runs) ∧ (s.mod.recorder.scanned = false)) ∧
    (∃ (s : State), (s.mod.Runs) ∧ (s.mod.recorder.scanned = false) ∧ (s.mod.newestRecord = none)) ∧
    (∃ (s : State) (b : List Byte), (s.mod.Runs) ∧ (s.mod.recorder.scanned = false) ∧ (s.mod.newestRecord = some b)) ∧
    (∃ (s : State), (s.mod.recorder.scanned = true)) ∧
    (∃ (s : State), (s.mod.Runs) ∧ (s.mod.recorder.scanned = true)) ∧
    (∃ (s : State) (p : Path), (s.mod.Serves p)) ∧
    (∃ (s : State) (p : Path) (v : Nat), (s.mod.Serves p) ∧ (v ≠ 1)) ∧
    (∃ (s : State) (p : Path), (s.mod.Serves p) ∧ (0x8000 ≤ s.mod.num 0x683001) ∧ (s.mod.num 0x683002 ≤ 4) ∧ (s.mod.num 0x683003 = 0x80)) ∧
    (∃ (s : State) (p : Path), (s.mod.Serves p) ∧ (s.mod.num 0x683001 < 0x8000 ∨ 4 < s.mod.num 0x683002)) :=
  ⟨⟨(w [] ({ · with raised := [{ code := 5, payload := [] }] })), 1, { code := 5, payload := [] }, by decide +kernel⟩,
    ⟨w0, by decide +kernel⟩,
    ⟨{}, by decide +kernel⟩,
    ⟨(w [(0x682002, 5, 1)]).mod, { code := 0x500 }, by decide +kernel⟩,
    ⟨(w [(0x682002, 5, 1)] ({ · with recorder.buckets := [(0x500, { used := 1 })] })).mod, { code := 0x500 }, by decide +kernel⟩,
    ⟨(w [] ({ · with recorder.scanned := true })).mod, by decide +kernel⟩,
    ⟨w0.mod, by decide +kernel⟩,
    ⟨(w [] ({ · with recorder.drops := 1, recorder.queue := List.replicate 256 {} })).mod, by decide +kernel⟩,
    ⟨w0.mod, ⟨by decide +kernel, by decide +kernel, by decide +kernel⟩⟩,
    ⟨(w [] ({ · with recorder.buckets := [(0, { used := 1, count := 0 })] })), 0, by decide +kernel⟩,
    ⟨(w [] ({ · with recorder.buckets := [(0, { used := 1, count := 1 })] })), 0, by decide +kernel⟩,
    ⟨(w [] ({ · with recorder.buckets := [(0, { used := 0 })] })), 0, by decide +kernel⟩,
    ⟨(w [] ({ · with recorder.scanned := true, recorder.dropDue := false })), by decide +kernel⟩,
    ⟨(w [] ({ · with recorder.scanned := true, recorder.dropDue := true })), by decide +kernel⟩,
    ⟨w0.mod, by decide +kernel⟩,
    ⟨(w [] ({ · with recorder.scanned := false })), by decide +kernel⟩,
    ⟨(w [] ({ · with recorder.scanned := false })), by decide +kernel⟩,
    ⟨recorded, oldRecord, by decide +kernel⟩,
    ⟨(w [] ({ · with recorder.scanned := true })), by decide +kernel⟩,
    ⟨(w [] ({ · with recorder.scanned := true })), by decide +kernel⟩,
    ⟨w0, .supervisor, by decide +kernel⟩,
    ⟨w0, .supervisor, 0, by decide +kernel⟩,
    ⟨(w [(0x683001, 0, 32768), (0x683003, 0, 128)]), .supervisor, by decide +kernel⟩,
    ⟨(w [(0x683001, 0, 0x7FFF)]), .supervisor, by decide +kernel⟩⟩

theorem witness_ResetAndPower :
    (∃ (s : State), (s.mod.power.held = 1) ∧ (s.mod.power.factory = false)) ∧
    (∃ (s : State), (s.mod.power.held ≠ 1 ∨ s.mod.power.factory = true)) ∧
    (∃ (s : State), (2 ≤ s.mod.power.held) ∧ (s.mod.power.held ≠ 6 ∨ b32.le s.mod.power.tempMax (b32.sub s.mod.power.trip 0x41700000) = true)) ∧
    (∃ (s : State), (s.mod.power.held < 2 ∨ (s.mod.power.held = 6 ∧ b32.le s.mod.power.tempMax (b32.sub s.mod.power.trip 0x41700000) = false))) ∧
    (∃ (m : Mod), (m.Good)) ∧
    (∃ (s : State), (s.mod.num 0x203001 ≠ 4 ∨ s.mod.power.halted = true)) ∧
    (∃ (s : State) (a b : Option (List Byte)), (s.mod.num 0x203001 = 4) ∧ (s.mod.power.halted = false) ∧ (s.mod.copyCause a ≠ 0) ∧ (s.mod.copyCause b ≠ 0)) ∧
    (∃ (s : State) (p : Path), (s.mod.Reaches p)) ∧
    (∃ (m : Mod) (n : Nat), (m.Good) ∧ (m.num 0x203001 = n)) ∧
    (∃ (m : Mod) (n : Nat), (m.num 0x203001 ≠ n)) ∧
    (∃ (s : State), (s.mod.power.held ≠ 1)) ∧
    (∃ (s : State), (s.mod.Runs) ∧ (s.mod.debugState ≠ 0)) ∧
    (∃ (s : State), (s.mod.debugState = 0)) ∧
    (∃ (s : State), (s.mod.Runs)) ∧
    (∃ (s : State) (ap mm : Bool) (p : Path) (v : Nat), (s.mod.Reaches p) ∧ (v ≠ 0xA5 ∨ (ap = true ∧ mm = false) ∨ (ap = false ∧ p ≠ .supervisor))) ∧
    (∃ (s : State) (now : Nat), (s.mod.Runs) ∧ (s.mod.num 0x203006 ≠ 0) ∧ (s.mod.power.wdtAt + s.mod.num 0x203006 * 1000000 ≤ now)) ∧
    (∃ (s : State) (now : Nat), (s.mod.num 0x203006 = 0 ∨ now < s.mod.power.wdtAt + s.mod.num 0x203006 * 1000000)) ∧
    (∃ (s : State), (s.mod.Runs)) ∧
    (∃ (s : State) (p : Path), (s.mod.Reaches p)) ∧
    (∃ (s : State) (jtag : Option (List Byte)) (g : Nat), (s.mod.Runs) ∧ ((s.mod.lcState = lcBlank ↔ jtag.isSome = true)) ∧ ((jtag.elim s.mod (fun tok => { s.mod with keys := { s.mod.keys with token := tok } })).lcResult g = 2 ^ 31)) ∧
    (∃ (s : State) (jtag : Option (List Byte)) (g : Nat), (s.mod.Runs) ∧ ((s.mod.lcState = lcBlank ↔ jtag.isSome = true)) ∧ ((jtag.elim s.mod (fun tok => { s.mod with keys := { s.mod.keys with token := tok } })).lcResult g ≠ 2 ^ 31)) ∧
    (∃ (s : State) (p : Path) (mm : Bool) (jtag : Option (List Byte)), (s.mod.Reaches p) ∧ ((s.mod.lcState = lcBlank ∧ jtag = none) ∨ (s.mod.lcState ≠ lcBlank ∧ (jtag.isSome = true ∨ mm = false ∨ p ≠ .supervisor)))) ∧
    (∃ (s : State), (s.mod.power.avs = false)) ∧
    (∃ (s : State) (sl : Nat), (s.mod.Good) ∧ (s.mod.power.avs = true) ∧ (s.mod.on 0x204001 = true) ∧ (s.mod.power.avsStopped = false) ∧ (s.mod.num 0x204007 ≤ sl) ∧ (s.mod.num 0x204005 ≤ sl) ∧ (sl ≤ s.mod.num 0x204006)) ∧
    (∃ (s : State) (f : Nat), (s.mod.power.avsStopped = true) ∧ (f < 3)) ∧
    (∃ (s : State) (f : Nat), (s.mod.power.avsStopped = true) ∧ (3 ≤ f)) ∧
    (∃ (s : State), (s.mod.power.avsStopped = false)) ∧
    (∃ (s : State) (j : Nat), (s.mod.Runs) ∧ (j ≤ 11) ∧ (bit (s.mod.num 0x205002) j = false)) ∧
    (∃ (s : State) (j : Nat), (s.mod.Runs) ∧ (j ≤ 11) ∧ (bit (s.mod.num 0x205002) j = true)) ∧
    (∃ (s : State) (j : Nat) (b : Bool), (bit (s.mod.num 0x205002) j = b)) ∧
    (∃ (s : State), (s.mod.power.held ≠ 0)) ∧
    (∃ (s : State) (ts : List Nat), (s.mod.Runs) ∧ (s.mod.Good) ∧ (b32.le (s.mod.num 0x206004) (hottest ts).2 = true)) :=
  ⟨⟨(w [] ({ · with power.held := 1, power.factory := false })), by decide +kernel⟩,
    ⟨w0, by decide +kernel⟩,
    ⟨(w [] ({ · with power.held := 2 })), by decide +kernel⟩,
    ⟨w0, by decide +kernel⟩,
    ⟨({} : Mod), ⟨by decide +kernel, by decide +kernel, by decide +kernel⟩⟩,
    ⟨w0, by decide +kernel⟩,
    ⟨(w [(0x203001, 0, 4)] ({ · with power.halted := false })), none, none, by decide +kernel⟩,
    ⟨w0, .supervisor, by decide +kernel⟩,
    ⟨w0.mod, 11, ⟨by decide +kernel, by decide +kernel, by decide +kernel⟩, by decide +kernel⟩,
    ⟨w0.mod, 0, by decide +kernel⟩,
    ⟨w0, by decide +kernel⟩,
    ⟨w0, by decide +kernel⟩,
    ⟨(w [] ({ · with nv.fuses.groups := [255, 255, 255, 0, 0] })), by decide +kernel⟩,
    ⟨w0, by decide +kernel⟩,
    ⟨w0, true, true, .supervisor, 0, by decide +kernel⟩,
    ⟨(w [(0x203006, 0, 10)]), 10000000, by decide +kernel⟩,
    ⟨(w [(0x203006, 0, 0)]), 0, by decide +kernel⟩,
    ⟨w0, by decide +kernel⟩,
    ⟨w0, .supervisor, by decide +kernel⟩,
    ⟨(w [(0x643002, 0, 1)] (fun m => { (m.setOct 0x640003 (List.replicate 16 0)) with dict := (m.setOct 0x640003 (List.replicate 16 0)).dict ++ [(objKey 0x101804 0, .num 0)], nv.fuses.roots := [[1], [1], [1], [1]], nv.fuses.vkHash := [1], tick.running := false })), (some ([0x4C, 0x43, 0x54, 0x4B] ++ List.replicate 4 0 ++ [0, 1] ++ List.replicate 214 0)), 1, by decide +kernel, by decide +kernel, by decide +kernel⟩,
    ⟨w0, (some []), 0, by decide +kernel⟩,
    ⟨(w [] ({ · with nv.fuses.groups := [255, 0, 0, 0, 0] })), .supervisor, true, (some []), by decide +kernel⟩,
    ⟨(w [] ({ · with power.avs := false })), by decide +kernel⟩,
    ⟨(w [(0x204001, 0, 1)] ({ · with power.avs := true })), 60, by and_intros <;> first | decide +kernel | exact ⟨by decide +kernel, by decide +kernel, by decide +kernel⟩⟩,
    ⟨(w [] ({ · with power.avsStopped := true })), 0, by decide +kernel⟩,
    ⟨(w [] ({ · with power.avsStopped := true })), 3, by decide +kernel⟩,
    ⟨(w [] ({ · with power.avsStopped := false })), by decide +kernel⟩,
    ⟨w0, 0, by decide +kernel⟩,
    ⟨(w [(0x205002, 0, 1)]), 0, by decide +kernel⟩,
    ⟨(w [(0x205002, 0, 4095)]), 11, true, by decide +kernel⟩,
    ⟨(w [] ({ · with power.held := 1 })), by decide +kernel⟩,
    ⟨w0, List.replicate 16 1121714176, by decide +kernel, ⟨by decide +kernel, by decide +kernel, by decide +kernel⟩, by decide +kernel⟩⟩

theorem witness_KeysAndSessions :
    (∃ (s : State) (k : List Byte), (s.mod.Runs) ∧ (s.mod.num 0x642001 (s.mod.num 0x641001) = 0) ∧ (s.mod.keys.value = some k) ∧ (lengthFits (s.mod.num 0x641003) k.length = true) ∧ (s.mod.drbgReady = true)) ∧
    (∃ (s : State), (s.mod.Runs) ∧ (s.mod.num 0x642001 (s.mod.num 0x641001) ≠ 0)) ∧
    (∃ (s : State) (p : Path), (s.mod.Reaches p)) ∧
    (∃ (s : State), (s.mod.Runs) ∧ (s.mod.num 0x642001 (s.mod.num 0x641001) = 0) ∧ (s.mod.num 0x641003 = kuKdf) ∧ (s.mod.num 0x641007 = 0x200) ∧ (s.mod.num 0x641001 < 512) ∧ (s.mod.visibleRoot ≠ []) ∧ (s.mod.oct 0x641008 ≠ []) ∧ (s.mod.drbgReady = true)) ∧
    (∃ (s : State), (s.mod.Runs) ∧ (((s.mod.zeroSlot (s.mod.num 0x641001)).raise 0x0A03 [(s.mod.num 0x641001), s.mod.num 0x642003 (s.mod.num 0x641001)]).num 0x1F3002 ≠ (s.mod.num 0x641001))) ∧
    (∃ (m : Mod), (m.Good)) ∧
    (∃ (s : State) (i : Nat), (s.mod.num 0x642001 i = 0 ∨ s.mod.drbgReady = false)) ∧
    (∃ (s : State) (i : Nat) (k : List Byte) (m : Mod), (s.mod.Runs) ∧ (s.mod.num 0x642001 i ≠ 0) ∧ (s.mod.drbgReady = true) ∧ (s.mod.drawOctets (s.mod.keySlot i).shareA.length = (k, m))) ∧
    (∃ (s : State) (b : List Byte), (s.mod.Runs) ∧ (b.length = 48) ∧ (s.mod.lcState = lcProvisioned) ∧ (s.mod.nv.fuses.okHash = [])) ∧
    (∃ (s : State) (b : List Byte), (s.mod.Runs) ∧ (b.length = 48) ∧ (s.mod.nv.fuses.okHash ≠ [])) ∧
    (∃ (s : State) (v : Nat), (s.mod.Runs) ∧ (s.mod.nv.fuses.minSvn ≤ v) ∧ (v ≤ s.mod.num 0x644002) ∧ (v ≤ 64)) ∧
    (∃ (s : State) (v : Nat), (s.mod.Runs) ∧ (v < s.mod.nv.fuses.minSvn ∨ s.mod.num 0x644002 < v ∨ 64 < v)) ∧
    (∃ (s : State), (s.mod.Runs) ∧ (s.mod.keys.fails = [])) ∧
    (∃ (s : State) (now a b : Nat), (s.mod.Runs) ∧ (s.mod.Good) ∧ (s.mod.keys.fails = [a, b]) ∧ (now < a + 1000000000) ∧ (now < b + 1000000000) ∧ (s.mod.num 0x643002 ≠ 2)) ∧
    (∃ (s : State), (s.mod.Runs) ∧ (s.mod.drbgReady = true)) ∧
    (∃ (s : State), (s.mod.drbgReady = false)) ∧
    (∃ (s : State), (s.mod.Runs) ∧ (s.mod.keys.attached = false) ∧ (s.mod.debugState ≠ 0)) ∧
    (∃ (s : State), (s.mod.keys.attached = true ∨ s.mod.debugState = 0)) ∧
    (∃ (s : State) (n : Nat) (x : Session), (s.mod.Runs) ∧ (Table.find? s.mod.dic.parts (pathNo (.dtp n)) = none) ∧ (s.mod.session? n = some x)) ∧
    (∃ (s : State) (n : Nat), (s.mod.session? n = none)) ∧
    (∃ (s : State) (n : Nat) (x : Session), (s.mod.Runs) ∧ (s.mod.session? n = some x)) ∧
    (∃ (s : State) (p : Path) (v : Nat), (s.mod.Serves p) ∧ (s.mod.numOk 0x1F3002 0 v = true) ∧ (s.mod.usageOk 0x1F3002 v = true)) ∧
    (∃ (s : State) (p : Path) (v : Nat), (s.mod.Serves p) ∧ (s.mod.numOk 0x1F3002 0 v = true) ∧ (s.mod.usageOk 0x1F3002 v = false)) :=
  ⟨⟨(w [(0x641003, 0, 3), (0x643002, 0, 1)] ({ · with keys.value := some (List.replicate 32 1) })), List.replicate 32 1, by decide +kernel⟩,
    ⟨(w [(0x641001, 0, 511), (0x642001, 511, 1)]), by decide +kernel⟩,
    ⟨w0, .supervisor, by decide +kernel⟩,
    ⟨(w [(0x641003, 0, 4), (0x641007, 0, 512), (0x643002, 0, 1)] (fun m => ({ m with nv.fuses.groups := [255, 0, 0, 0, 0], nv.fuses.roots := [[1]] }).setOct 0x641008 [65])), by decide +kernel⟩,
    ⟨w0, by decide +kernel⟩,
    ⟨w0.mod, ⟨by decide +kernel, by decide +kernel, by decide +kernel⟩⟩,
    ⟨(w [(0x642001, 0, 0)]), 0, by decide +kernel⟩,
    ⟨(w [(0x642001, 0, 1), (0x643002, 0, 1)]), 0, [], (w [(0x642001, 0, 1), (0x643002, 0, 1)]).mod, by decide +kernel⟩,
    ⟨(w [] ({ · with nv.fuses.groups := [255, 255, 0, 0, 0] })), List.replicate 48 1, by decide +kernel⟩,
    ⟨(w [] ({ · with nv.fuses.okHash := [1] })), List.replicate 48 1, by decide +kernel⟩,
    ⟨(w [(0x644002, 0, 0)]), 0, by decide +kernel⟩,
    ⟨(w [] ({ · with nv.fuses.minSvn := 1 })), 0, by decide +kernel⟩,
    ⟨w0, by decide +kernel⟩,
    ⟨(w [(0x643002, 0, 1)] ({ · with keys.fails := [5, 4] })), 1000000003, 5, 4, by and_intros <;> first | decide +kernel | exact ⟨by decide +kernel, by decide +kernel, by decide +kernel⟩⟩,
    ⟨(w [(0x643002, 0, 1)]), by decide +kernel⟩,
    ⟨w0, by decide +kernel⟩,
    ⟨(w [] ({ · with keys.attached := false })), by decide +kernel⟩,
    ⟨(w [] ({ · with keys.attached := true })), by decide +kernel⟩,
    ⟨(w [] ({ · with dic.sessions := [(3, {})] })), 3, {}, by decide +kernel⟩,
    ⟨w0, 0, by decide +kernel⟩,
    ⟨(w [] ({ · with dic.sessions := [(3, {})] })), 3, {}, by decide +kernel⟩,
    ⟨(w [(0x642001, 511, 3)]), .supervisor, 511, by decide +kernel⟩,
    ⟨w0, .supervisor, 0, by decide +kernel⟩⟩

theorem witness_DictionaryPaths :
    (∃ (s : State), (s.mod.Runs)) ∧
    (∃ (s : State) (p : Path) (o : Nat), (s.mod.Reaches p) ∧ (s.mod.configured = false) ∧ (earlyIndex (o / 256) = false)) ∧
    (∃ (s : State) (p : Path) (o : Nat), (s.mod.Serves p) ∧ (objRow? o = none) ∧ (indexUsed (o / 256) = false)) ∧
    (∃ (s : State) (p : Path) (o : Nat), (s.mod.Serves p) ∧ (objRow? o = none) ∧ (indexUsed (o / 256) = true) ∧ (o % 256 ≠ 0)) ∧
    (∃ (s : State) (p : Path) (o sel : Nat) (r : ObjRow), (s.mod.Serves p) ∧ (objRow? o = some r) ∧ (r.acc = .ro) ∧ (selMany sel = false)) ∧
    (∃ (s : State) (p : Path) (o sel c : Nat) (r : ObjRow) (l : List Nat), (s.mod.Serves p) ∧ (objRow? o = some r) ∧ (r.acc ≠ .ro) ∧ (r.acc ≠ .wo) ∧ (s.mod.selects r o sel = (c, l)) ∧ (c ≠ 0)) ∧
    (∃ (s : State) (p : Path) (o sel : Nat) (bs : List Byte) (e : Env) (r : ObjRow) (l : List Nat) (v : Val), (s.mod.Serves p) ∧ (objRow? o = some r) ∧ (r.acc = .rw) ∧ (selMany sel = false) ∧ (s.mod.selects r o sel = (0, l)) ∧ (s.mod.readValues r o bs l = (0, v)) ∧ (s.mod.writeBar p e o sel = 0) ∧ (commandOf p e o sel v = none) ∧ (s.mod.usageOk o (valNum v) = true)) ∧
    (∃ (s : State) (p : Path) (o sel : Nat) (bs : List Byte) (e : Env) (r : ObjRow) (l : List Nat) (v : Val), (s.mod.Serves p) ∧ (objRow? o = some r) ∧ (r.acc = .rwt) ∧ (selMany sel = false) ∧ (s.mod.selects r o sel = (0, l)) ∧ (s.mod.readValues r o bs l = (0, v)) ∧ (s.mod.writeBar p e o sel = 0) ∧ (commandOf p e o sel v = none)) ∧
    (∃ (s : State), (s.mod.Runs)) ∧
    (∃ (s : State) (e : Env) (c : Nat) (v : List Byte), (s.mod.Runs) ∧ (s.mod.readOctets .supervisor e s.mod.dp.obj s.mod.dp.sel = (c, v)) ∧ (c ≠ 0)) ∧
    (∃ (s : State) (e : Env) (v : List Byte), (s.mod.Runs) ∧ (s.mod.readOctets .supervisor e s.mod.dp.obj s.mod.dp.sel = (0, v)) ∧ (s.mod.dp.offset % 2 ^ 31 ≠ 0) ∧ (s.mod.dp.obj ≠ 0x515004)) ∧
    (∃ (s : State), (s.mod.Runs) ∧ (s.mod.configured = true)) ∧
    (∃ (s : State), (s.mod.Runs) ∧ (s.mod.configured = false)) ∧
    (∃ (s : State) (d : List Byte) (q : DtpReq), (s.mod.Runs) ∧ (s.mod.on 0x1F3001 = true) ∧ (dtpParse d = some q) ∧ (q.op = 1) ∧ (q.body.length = 18) ∧ (q.session ≠ 0)) ∧
    (∃ (s : State) (d : List Byte), (s.mod.on 0x1F3001 = false ∨ dtpParse d = none)) :=
  ⟨⟨w0, by decide +kernel⟩,
    ⟨(w [(0x203001, 0, 6)]), .supervisor, 0x200001, by decide +kernel⟩,
    ⟨w0, .supervisor, 0, by decide +kernel⟩,
    ⟨w0, .supervisor, 0x2000FF, by decide +kernel⟩,
    ⟨w0, .supervisor, 0x203001, 0, (objRow? 0x203001).get (by decide +kernel), by decide +kernel, (Option.some_get (by decide +kernel)).symm, by decide +kernel, by decide +kernel⟩,
    ⟨w0, .supervisor, 0x200001, 1, (w0.mod.selects ((objRow? 0x200001).get (by decide +kernel)) 0x200001 1).1, (objRow? 0x200001).get (by decide +kernel), (w0.mod.selects ((objRow? 0x200001).get (by decide +kernel)) 0x200001 1).2, by decide +kernel, (Option.some_get (by decide +kernel)).symm, by and_intros <;> decide +kernel⟩,
    ⟨w0, .supervisor, 0x1F1003, 0, [100, 0], {}, (objRow? 0x1F1003).get (by decide +kernel), (w0.mod.selects ((objRow? 0x1F1003).get (by decide +kernel)) 0x1F1003 0).2, (w0.mod.readValues ((objRow? 0x1F1003).get (by decide +kernel)) 0x1F1003 [100, 0] (w0.mod.selects ((objRow? 0x1F1003).get (by decide +kernel)) 0x1F1003 0).2).2, by decide +kernel, (Option.some_get (by decide +kernel)).symm, by and_intros <;> decide +kernel⟩,
    ⟨w0, .supervisor, 0x481010, 4095, [5, 0], {}, (objRow? 0x481010).get (by decide +kernel), (w0.mod.selects ((objRow? 0x481010).get (by decide +kernel)) 0x481010 4095).2, (w0.mod.readValues ((objRow? 0x481010).get (by decide +kernel)) 0x481010 [5, 0] (w0.mod.selects ((objRow? 0x481010).get (by decide +kernel)) 0x481010 4095).2).2, by decide +kernel, (Option.some_get (by decide +kernel)).symm, by and_intros <;> decide +kernel⟩,
    ⟨w0, by decide +kernel⟩,
    ⟨w0, {}, (w0.mod.readOctets .supervisor {} 0 0).1, (w0.mod.readOctets .supervisor {} 0 0).2, by decide +kernel⟩,
    ⟨(w [] ({ · with ten.tenants := [(0, { dp := { addr := 0x2000 * 2 ^ 16 + 256, offset := 1 } })] })), {}, ((w [] ({ · with ten.tenants := [(0, { dp := { addr := 0x2000 * 2 ^ 16 + 256, offset := 1 } })] })).mod.readOctets .supervisor {} 0x200001 0).2, by decide +kernel⟩,
    ⟨w0, by decide +kernel⟩,
    ⟨(w [(0x203001, 0, 6)]), by decide +kernel⟩,
    ⟨(w [(0x1F3001, 0, 1)]), [1, 1, 0, 5, 0, 0, 0, 0, 0, 18, 0, 0] ++ List.replicate 50 0, (dtpParse ([1, 1, 0, 5, 0, 0, 0, 0, 0, 18, 0, 0] ++ List.replicate 50 0)).get (by decide +kernel), by decide +kernel, by decide +kernel, (Option.some_get (by decide +kernel)).symm, by decide +kernel, by decide +kernel, by decide +kernel⟩,
    ⟨(w [(0x1F3001, 0, 0)]), [], by decide +kernel⟩⟩

theorem witness_SdoServer :
    (∃ (s : State), (s.mod.sdoServed = false)) ∧
    (∃ (s : State), (s.mod.Runs) ∧ (s.mod.sdoServed = true) ∧ (s.mod.dic.sdo = none)) ∧
    (∃ (s : State), (s.mod.Runs) ∧ (s.mod.sdoServed = true) ∧ (s.mod.dic.sdo = none)) ∧
    (∃ (s : State) (x : SdoXfer) (bs : List Byte), (s.mod.Runs) ∧ (s.mod.sdoServed = true) ∧ (s.mod.dic.sdo = some x) ∧ (x.up = false) ∧ ((x.data ++ bs).length ≤ lenBound x.obj)) ∧
    (∃ (s : State) (x : SdoXfer) (bs : List Byte), (s.mod.Runs) ∧ (s.mod.sdoServed = true) ∧ (s.mod.dic.sdo = some x) ∧ (x.up = false) ∧ (x.size = none) ∧ ((x.data ++ bs).length ≤ lenBound x.obj)) ∧
    (∃ (s : State) (x : SdoXfer), (s.mod.Runs) ∧ (s.mod.sdoServed = true) ∧ (s.mod.dic.sdo = some x) ∧ (x.up = false)) ∧
    (∃ (s : State), (s.mod.Runs) ∧ (s.mod.sdoServed = true) ∧ (s.mod.dic.sdo = none)) ∧
    (∃ (s : State) (o c : Nat) (v : List Byte) (e : Env), (s.mod.Runs) ∧ (s.mod.sdoServed = true) ∧ (s.mod.dic.sdo = none) ∧ (s.mod.readOctets .sdo e o (s.mod.num 0x1F1004) = (c, v)) ∧ (c ≠ 0)) ∧
    (∃ (s : State) (o : Nat) (v : List Byte) (e : Env), (s.mod.Runs) ∧ (s.mod.sdoServed = true) ∧ (s.mod.dic.sdo = none) ∧ (s.mod.readOctets .sdo e o (s.mod.num 0x1F1004) = (0, v)) ∧ (1 ≤ v.length) ∧ (v.length ≤ 4)) ∧
    (∃ (s : State) (x : SdoXfer), (s.mod.Runs) ∧ (s.mod.sdoServed = true) ∧ (s.mod.dic.sdo = some x) ∧ (x.up = true) ∧ (7 < x.data.length)) ∧
    (∃ (s : State) (x : SdoXfer), (s.mod.Runs) ∧ (s.mod.sdoServed = true) ∧ (s.mod.dic.sdo = some x) ∧ (x.up = true) ∧ (x.data.length ≤ 7)) ∧
    (∃ (s : State) (x : SdoXfer), (s.mod.Runs) ∧ (s.mod.sdoServed = true) ∧ (s.mod.dic.sdo = some x)) ∧
    (∃ (s : State), (s.mod.Runs) ∧ (s.mod.sdoServed = true)) ∧
    (∃ (s : State) (x : SdoXfer), (s.mod.Runs) ∧ (s.mod.dic.sdo = some x)) ∧
    (∃ (s : State), (s.mod.dic.sdo = none)) ∧
    (∃ (s : State) (n : Nat), (s.mod.Runs) ∧ (s.mod.sdoServed = true) ∧ (n = 0 ∨ n = s.mod.sdoNode) ∧ (s.mod.dic.sdo = none)) ∧
    (∃ (s : State) (n : Nat), (n ≠ 0) ∧ (n ≠ s.mod.sdoNode)) :=
  ⟨⟨w0, by decide +kernel⟩,
    ⟨(w [(0x5C1001, 191, 1)] ({ · with dic.sdo := none })), by decide +kernel⟩,
    ⟨(w [(0x5C1001, 191, 1)] ({ · with dic.sdo := none })), by decide +kernel⟩,
    ⟨(w [(0x5C1001, 191, 1)] ({ · with dic.sdo := some { chan := 191, node := 1, obj := 0x401005 } })), { chan := 191, node := 1, obj := 0x401005 }, [1], by decide +kernel⟩,
    ⟨(w [(0x5C1001, 191, 1)] ({ · with dic.sdo := some { chan := 191, node := 1, obj := 0x401005 } })), { chan := 191, node := 1, obj := 0x401005 }, [1], by decide +kernel⟩,
    ⟨(w [(0x5C1001, 191, 1)] ({ · with dic.sdo := some { chan := 191, node := 1 } })), { chan := 191, node := 1 }, by decide +kernel⟩,
    ⟨(w [(0x5C1001, 191, 1)] ({ · with dic.sdo := none })), by decide +kernel⟩,
    ⟨(w [(0x5C1001, 191, 1)]), 0, ((w [(0x5C1001, 191, 1)]).mod.readOctets .sdo {} 0 0).1, ((w [(0x5C1001, 191, 1)]).mod.readOctets .sdo {} 0 0).2, {}, by decide +kernel⟩,
    ⟨(w [(0x5C1001, 191, 1)]), 0x200001, ((w [(0x5C1001, 191, 1)]).mod.readOctets .sdo {} 0x200001 0).2, {}, by decide +kernel⟩,
    ⟨(w [(0x5C1001, 191, 1)] ({ · with dic.sdo := some { chan := 191, node := 1, up := true, data := List.replicate 8 0 } })), { chan := 191, node := 1, up := true, data := List.replicate 8 0 }, by decide +kernel⟩,
    ⟨(w [(0x5C1001, 191, 1)] ({ · with dic.sdo := some { chan := 191, node := 1, up := true, data := List.replicate 7 0 } })), { chan := 191, node := 1, up := true, data := List.replicate 7 0 }, by decide +kernel⟩,
    ⟨(w [(0x5C1001, 191, 1)] ({ · with dic.sdo := some { chan := 191, node := 1 } })), { chan := 191, node := 1 }, by decide +kernel⟩,
    ⟨(w [(0x5C1001, 191, 1)]), by decide +kernel⟩,
    ⟨(w [] ({ · with dic.sdo := some {} })), {}, by decide +kernel⟩,
    ⟨(w [] ({ · with dic.sdo := none })), by decide +kernel⟩,
    ⟨(w [(0x5C1001, 191, 1)] ({ · with dic.sdo := none })), 0, by decide +kernel⟩,
    ⟨w0, 2, by decide +kernel⟩⟩

end Sys2Proof.Tests
end

section
namespace Sys2Proof.Machine

/-! ## Soundness of the state right after reset (R9, R536) -/

/-- The store in which every object still reads its default (R9) lists nothing, and that is its canonical form. -/
@[simp] theorem dictWf_nil : dictWf [] = true := rfl

/-- So it is with a memory that nothing has written. -/
@[simp] theorem Memory.wf_nil : Memory.wf [] = true := Table.wf_nil Memory.empty

/-- A module whose store and memory list nothing is sound when it runs or is held by a cause of R536. -/
theorem Mod.good_of_nil {m : Mod} (hdict : m.dict = []) (hmem : m.mem = []) (hheld : m.power.held ≤ 7) : m.Good where
  dict := hdict ▸ dictWf_nil
  mem := hmem ▸ Memory.wf_nil
  held := hheld

@[simp] theorem State.reset_dict : State.reset.mod.dict = [] := rfl

@[simp] theorem State.reset_mem : State.reset.mod.mem = [] := rfl

/-- Right after reset it is RESET_N, cause 1, that holds the module. -/
@[simp] theorem State.reset_held : State.reset.mod.power.held = 1 := rfl

/-- Settles O3: reset leaves the store and the memory without an entry, and RESET_N is one of the seven causes. -/
theorem resetGood : Obligations.ResetGood := by
  unfold Obligations.ResetGood
  have hheld : State.reset.mod.power.held ≤ 7 := by simp
  exact Mod.good_of_nil State.reset_dict State.reset_mem hheld

end Sys2Proof.Machine
end

section
namespace Sys2Proof.Machine

/-! ## A command and its effect -/

/-- A command with effect `f` on a module that runs leaves what `f` leaves. -/
theorem next_awake {s : State} {f : Mod → Mod} {m : Mod} (hr : s.mod.Runs) (h : f s.mod = m) :
    (.next { s with mod := s.mod.awake f } : Host.Outcome State Fault Refusal) = .next { s with mod := m } := by
  rw [Mod.awake_runs hr, h]

/-- A command whose effect does nothing here leaves the state as it is, held in reset or not. -/
theorem next_awake_self {s : State} {f : Mod → Mod} (h : f s.mod = s.mod) :
    (.next { s with mod := s.mod.awake f } : Host.Outcome State Fault Refusal) = .next s := by
  have hawake : s.mod.awake f = s.mod := by rw [Mod.awake, h, ite_self]
  rw [hawake]

/-- A write with effect `f` on a path that is served leaves what `f` leaves. -/
theorem next_gate {s : State} {p : Path} {f : Mod → Mod} {m : Mod} (hs : s.mod.Serves p) (h : f s.mod = m) :
    (.next { s with mod := s.mod.gate p f } : Host.Outcome State Fault Refusal) = .next { s with mod := m } := by
  obtain ⟨hheld, hpath, hconf⟩ := hs
  rw [Mod.gate_runs hheld hpath hconf, h]

/-! ## The tick starts and stops (R12, R13, R42, R539) -/

theorem Mod.advance_k (m : Mod) : m.advance.tick.k = m.tick.k + 1 := rfl

theorem Mod.advance_q (m : Mod) : m.advance.tick.q = if m.tick.q + 1 = m.hz then 0 else m.tick.q + 1 := by
  simp [Mod.advance]

theorem tickStart_of_not_P {m : Mod} (hp : m.inPhase .P = false) : tickStart m = m := by simp [tickStart, hp]

theorem tickStart_of_stopPending {m : Mod} (hp : m.inPhase .P = true) (hs : m.tick.stopPending = true) :
    tickStart m = { m with tick := { m.tick with running := false, stopPending := false } } := by
  simp [tickStart, hp, hs]

theorem tickStart_of_P {m : Mod} (hp : m.inPhase .P = true) (hs : m.tick.stopPending = false) :
    tickStart m = m.endTick.keepView.advance.takeJump.holdoverTime.triadBits.seekOn.beginTick := by
  simp [tickStart, hp, hs]

theorem firstTickStart_in_step8 {m : Mod} (hrun : m.tick.running = false) (hon : m.on 0x200003 = true) (h8 : m.num 0x203001 = 8)
    (htod : m.heldTod = true) (sec : Nat) : firstTickStart sec m = m.startTick (sec * m.hz) := by
  simp [firstTickStart, hrun, hon, h8, htod]

theorem tickStop_of_running {m : Mod} (hrun : m.tick.running = true) (p : Path) :
    tickStop p m = ({ m.set 0x200003 0 with tick := { m.tick with stopPending := true } } : Mod).stopTick.report p 0 := by
  simp [tickStop, Mod.served, hrun]

theorem tickRunStart_of_other_rate {m : Mod} (hrate : lastRate m.activeLast ≠ m.num 0x200001) (p : Path) (now : Nat) :
    tickRunStart p now m = m.report p abState := by
  simp [tickRunStart, hrate]

/-- A tick that has run since the reset, start-up being past step 8, restarts. -/
theorem tickRunStart_restarts {m : Mod} (hg : m.Good) (hrate : lastRate m.activeLast = m.num 0x200001) (hoff : m.on 0x200003 = false)
    (h8 : 8 < m.num 0x203001) (p : Path) (now : Nat) :
    tickRunStart p now m =
      ((m.set 0x200003 1).startTick ((m.set 0x200003 1).tb now * (m.set 0x200003 1).hz / 1000000000 + 1)).report p 0 := by
  have hstep : (m.set 0x200003 1).num 0x203001 = m.num 0x203001 := Mod.num_set_ne hg.dict 1 (by decide)
  have hpast : ¬ m.num 0x203001 ≤ 8 := by omega
  simp [tickRunStart, Mod.served, hrate, hoff, hstep, hpast]

/-- Settles O9: what each command leaves, in and out of its condition, by the equation of its effect there. -/
theorem tickStartsAndStops : Obligations.TickStartsAndStops := by
  unfold Obligations.TickStartsAndStops
  refine ⟨fun m => ⟨m.advance_k, m.advance_q⟩, ?_, ?_, ?_, ?_, ?_, ?_, ?_⟩
  · intro s hr hp hs
    exact next_awake hr (tickStart_of_P hp hs)
  · intro s hr hp hs
    exact next_awake hr (tickStart_of_stopPending hp hs)
  · intro s hp
    exact next_awake_self (tickStart_of_not_P hp)
  · intro s sec hr hrun hon h8 htod
    exact next_awake hr (firstTickStart_in_step8 hrun hon h8 htod sec)
  · intro s p hs hrun
    exact next_gate hs (tickStop_of_running hrun p)
  · intro s p now hs hrate hoff h8 hg
    exact next_gate hs (tickRunStart_restarts hg hrate hoff h8 p now)
  · intro s p now hs hrate
    exact next_gate hs (tickRunStart_of_other_rate hrate p now)

/-! ## The Last: load, check and store (R32, R33, R42) -/

theorem inactiveImageWrite_of_swap {m : Mod} (hsw : m.swapPending = true) (p : Path) (img : List Byte) :
    inactiveImageWrite p img m = m.report p abState := by
  simp [inactiveImageWrite, hsw]

theorem inactiveImageWrite_loads {m : Mod} (hsw : m.swapPending = false) {img : List Byte} (hlen : img.length ≤ 12516) (p : Path) :
    inactiveImageWrite p img m =
      (((({ m.setInactiveLast img with tick := { (m.setInactiveLast img).tick with checkPending := false } } : Mod).set 0x202008
        (lastCrc img)).set 0x202004 0).report p 0) := by
  have hfits : ¬ 12516 < img.length := by omega
  simp [inactiveImageWrite, hsw, hfits]

theorem lastCheckWrite_one (m : Mod) (p : Path) :
    lastCheckWrite p 1 m = ({ m with tick := { m.tick with checkPending := true } } : Mod).report p 0 := by
  simp [lastCheckWrite]

theorem lastCheckWrite_other {v : Nat} (hv : v ≠ 1) (m : Mod) (p : Path) : lastCheckWrite p v m = m.report p abValue := by
  simp [lastCheckWrite, hv]

theorem lastStore_one (m : Mod) (p : Path) :
    lastStore p 1 m = ({ m with nv := { m.nv with last := m.activeLast } } : Mod).report p 0 := by
  simp [lastStore]

theorem lastStore_other {v : Nat} (hv : v ≠ 1) (m : Mod) (p : Path) : lastStore p v m = m.report p abValue := by
  simp [lastStore, hv]

theorem tickRateWrite_stopped {m : Mod} {v : Nat} (hv : v ≤ 1) (hst : m.stopped = true) (p : Path) :
    tickRateWrite p v m = (m.newRate v).report p 0 := by
  have hrange : ¬ 1 < v := by omega
  simp [tickRateWrite, hrange, hst]

theorem tickRateWrite_running {m : Mod} {v : Nat} (hv : v ≤ 1) (hst : m.stopped = false) (hmem : m.isMember = false) (p : Path) :
    tickRateWrite p v m = m.report p abState := by
  have hrange : ¬ 1 < v := by omega
  simp [tickRateWrite, hrange, hst, hmem]

/-- The entries that R40 finds in the inactive image once the check has located it. -/
def Mod.checkedUnbound (m : Mod) : List (Nat × List Nat) :=
  if !bit (lastCheck m.inactiveLast (m.num 0x200001)) 0 && !bit (lastCheck m.inactiveLast (m.num 0x200001)) 2 then m.unbound m.inactiveLast
  else []

/-- What CHECK_RESULT shows of a check with `n` entries that are not bound-eligible (R33). -/
def checkResult (r n : Nat) : Nat := r + 2048 * b2n (n != 0) + if lastPass r then 2 ^ 31 else 0

theorem lastCheckDone_of_pending {m : Mod} (hp : m.tick.checkPending = true) :
    lastCheckDone m = ({ m with tick := { m.tick with
      checkPending := false, chkUnbound := m.checkedUnbound.length, chkFirst := (unboundSummary m.checkedUnbound).2 } } : Mod).set
        0x202004 (checkResult (lastCheck m.inactiveLast (m.num 0x200001)) m.checkedUnbound.length) := by
  have hempty : (!m.checkedUnbound.isEmpty) = (m.checkedUnbound.length != 0) := by cases m.checkedUnbound <;> rfl
  simp only [checkResult, ← hempty]
  simp [lastCheckDone, hp, Mod.checkedUnbound, unboundSummary]

/-- Settles O10: the effect of each write and of the completed check, CHECK_RESULT read back from the store. -/
theorem lastIsLoadedAndChecked : Obligations.LastIsLoadedAndChecked := by
  unfold Obligations.LastIsLoadedAndChecked
  refine ⟨?_, ?_, ?_, ?_, ?_, ?_, ?_, ?_⟩
  · intro s p img hs hsw hlen
    exact next_gate hs (inactiveImageWrite_loads hsw hlen p)
  · intro s p img hs hsw
    exact next_gate hs (inactiveImageWrite_of_swap hsw p img)
  · intro s p hs
    exact next_gate hs (lastCheckWrite_one s.mod p)
  · intro s p v hs hv
    exact ⟨next_gate hs (lastCheckWrite_other hv s.mod p), next_gate hs (lastStore_other hv s.mod p)⟩
  · intro s hr hg hp
    refine ⟨_, next_awake hr (lastCheckDone_of_pending hp), rfl, ?_, ?_, rfl, rfl, rfl⟩
    · exact Mod.num_set (m := { s.mod with tick := _ }) hg.dict _ _ 0
    · intro o i hk
      exact Mod.val_setVal_ne (m := { s.mod with tick := _ }) hg.dict _ hk
  · intro s p hs
    exact next_gate hs (lastStore_one s.mod p)
  · intro s p v hs hv hst
    exact next_gate hs (tickRateWrite_stopped hv hst p)
  · intro s p v hs hv hst hmem
    exact next_gate hs (tickRateWrite_running hv hst hmem p)

end Sys2Proof.Machine
end

section
namespace Sys2Proof.Machine

/-! ## The CRC of R23 -/

/-- A step of the register is linear over exclusive or. -/
theorem crcBit_xor (a b : Nat) : crcBit (a ^^^ b) = crcBit a ^^^ crcBit b := by
  have hdiv : (a ^^^ b) / 2 = a / 2 ^^^ b / 2 := Nat.xor_div_two
  have hmod : (a ^^^ b) % 2 = (a + b) % 2 := Nat.xor_mod_two_eq
  unfold crcBit
  rw [hdiv, hmod]
  rcases Nat.mod_two_eq_zero_or_one a with ha | ha <;> rcases Nat.mod_two_eq_zero_or_one b with hb | hb <;>
    simp [Nat.add_mod, ha, hb, Nat.xor_assoc, Nat.xor_comm, Nat.xor_left_comm]

/-- A register whose lowest bit is 0 shifts. -/
theorem crcBit_two_mul (a : Nat) : crcBit (2 * a) = a := by simp [crcBit]

theorem crcBit_lt {a : Nat} (h : a < 2 ^ 32) : crcBit a < 2 ^ 32 := by
  unfold crcBit
  split
  · exact Nat.xor_lt_two_pow (by omega) (by decide)
  · omega

theorem crcBit_iterate_xor (n a b : Nat) : crcBit^[n] (a ^^^ b) = crcBit^[n] a ^^^ crcBit^[n] b := by
  induction n generalizing a b with
  | zero => rfl
  | succ n ih => simp only [Function.iterate_succ_apply, crcBit_xor, ih]

theorem crcBit_iterate_two_pow_mul (n a : Nat) : crcBit^[n] (2 ^ n * a) = a := by
  induction n generalizing a with
  | zero => simp
  | succ n ih => rw [Function.iterate_succ_apply, Nat.pow_succ', Nat.mul_assoc, crcBit_two_mul, ih]

theorem crcByte_eq_iterate (c : Nat) (b : Byte) : crcByte c b = crcBit^[8] (c ^^^ b.toNat) := by
  simp only [crcByte, Function.iterate_succ_apply, Function.iterate_zero_apply]

theorem crcByte_lt {c : Nat} (h : c < 2 ^ 32) (b : Byte) : crcByte c b < 2 ^ 32 := by
  have hx : c ^^^ b.toNat < 2 ^ 32 := Nat.xor_lt_two_pow h (by have := b.isLt; omega)
  exact crcBit_lt (crcBit_lt (crcBit_lt (crcBit_lt (crcBit_lt (crcBit_lt (crcBit_lt (crcBit_lt hx)))))))

theorem crcRun_append (c : Nat) (as bs : List Byte) : crcRun c (as ++ bs) = crcRun (crcRun c as) bs := List.foldl_append

theorem crcRun_lt {c : Nat} (h : c < 2 ^ 32) (bs : List Byte) : crcRun c bs < 2 ^ 32 := by
  induction bs generalizing c with
  | nil => exact h
  | cons b bs ih => exact ih (crcByte_lt h b)

/-- A number is its low octet beside the rest. -/
theorem low_octet_xor_rest (v : Nat) : v % 256 ^^^ 2 ^ 8 * (v / 256) = v := by
  apply Nat.eq_of_testBit_eq
  intro i
  rw [show (256 : Nat) = 2 ^ 8 from rfl, Nat.testBit_xor, Nat.testBit_mod_two_pow, Nat.testBit_two_pow_mul, Nat.testBit_div_two_pow]
  by_cases hi : i < 8
  · simp [hi, Nat.not_le.mpr hi]
  · simp [hi, Nat.not_lt.mp hi]

/-- Octets of a number run through the register, least significant first, as the number itself does bit by bit. -/
theorem crcRun_toLE (n c v : Nat) (hv : v < 256 ^ n) : crcRun c (toLE n v) = crcBit^[8 * n] (c ^^^ v) := by
  induction n generalizing c v with
  | zero =>
    obtain rfl : v = 0 := by simpa using hv
    simp [toLE, crcRun]
  | succ n ih =>
    have hrest : v / 256 < 256 ^ n := by rw [Nat.pow_succ] at hv; omega
    have hoctet : (BitVec.ofNat 8 v).toNat = v % 256 := by simp
    calc crcRun c (toLE (n + 1) v)
        = crcRun (crcByte c (BitVec.ofNat 8 v)) (toLE n (v / 256)) := rfl
      _ = crcBit^[8 * n] (crcBit^[8] (c ^^^ v % 256) ^^^ v / 256) := by rw [ih _ _ hrest, crcByte_eq_iterate, hoctet]
      _ = crcBit^[8 * n] (crcBit^[8] (c ^^^ v % 256) ^^^ crcBit^[8] (2 ^ 8 * (v / 256))) := by rw [crcBit_iterate_two_pow_mul 8]
      _ = crcBit^[8 * n] (crcBit^[8] (c ^^^ v)) := by rw [← crcBit_iterate_xor, Nat.xor_assoc, low_octet_xor_rest]
      _ = crcBit^[8 * (n + 1)] (c ^^^ v) := by rw [Nat.mul_succ, Function.iterate_add_apply]

theorem crc32_lt (bs : List Byte) : crc32 bs < 2 ^ 32 := Nat.xor_lt_two_pow (crcRun_lt (by decide) bs) (by decide)

/-- The inversion at the end taken back gives the register. -/
theorem crc32_xor_ones (bs : List Byte) : crc32 bs ^^^ 0xFFFFFFFF = crcRun 0xFFFFFFFF bs := Nat.xor_xor_cancel_right ..

/-- The register meets its own complement, whatever it held: all ones run through 32 steps. -/
theorem crc32_residue (bs : List Byte) : crc32 (bs ++ toLE 4 (crc32 bs)) = 0x2144DF1C := by
  have hones : crcRun 0xFFFFFFFF bs ^^^ crc32 bs = 0xFFFFFFFF := Nat.xor_xor_cancel_left ..
  have hrun : crcRun 0xFFFFFFFF (bs ++ toLE 4 (crc32 bs)) = crcBit^[32] 0xFFFFFFFF := by
    rw [crcRun_append, crcRun_toLE 4 _ _ (crc32_lt bs), hones]
  rw [crc32, hrun]
  decide

/-! ## Numbers as octets -/

theorem leNat_toLE (n v : Nat) : leNat (toLE n v) = v % 256 ^ n := by
  induction n generalizing v with
  | zero => simp [toLE, leNat, Nat.mod_one]
  | succ n ih =>
    rw [toLE, leNat, ih, Nat.pow_succ', Nat.mod_mul]
    simp

theorem toLE_leNat (bs : List Byte) : toLE bs.length (leNat bs) = bs := by
  induction bs with
  | nil => rfl
  | cons b bs ih =>
    have hb := b.isLt
    have hlow : BitVec.ofNat 8 (leNat (b :: bs)) = b := by
      apply BitVec.eq_of_toNat_eq
      simp only [leNat, BitVec.toNat_ofNat]
      omega
    have hrest : leNat (b :: bs) / 256 = leNat bs := by simp only [leNat]; omega
    rw [List.length_cons, toLE, hlow, hrest, ih]

/-- Octets spell a number that fits them exactly when they are its octets. -/
theorem leNat_eq_iff {c : List Byte} {n v : Nat} (hc : c.length = n) (hv : v < 256 ^ n) : v = leNat c ↔ c = toLE n v := by
  constructor
  · rintro rfl
    rw [← hc, toLE_leNat]
  · rintro rfl
    rw [leNat_toLE, Nat.mod_eq_of_lt hv]

theorem b2n_false : b2n false = 0 := rfl

theorem b2n_true : b2n true = 1 := rfl

theorem b2n_le_one (b : Bool) : b2n b ≤ 1 := by cases b <;> decide

/-! ## The CRC of an image of the Last -/

/-- The field of an image's last four octets. -/
theorem field_last_four (body : List Byte) {c : List Byte} (hc : c.length = 4) :
    field (body ++ c) ((body ++ c).length - 4) 4 = leNat c := by
  simp [field, slice, hc, List.take_of_length_le (Nat.le_of_eq hc)]

theorem lastCrc_append (body : List Byte) {c : List Byte} (hc : c.length = 4) : lastCrc (body ++ c) = crc32 body := by
  have hne : (body ++ c).isEmpty = false := by cases c <;> simp_all
  simp [lastCrc, hne, hc]

/-- Bit 3 of the check of R33 is the CRC's, where the image is located. -/
theorem lastCheck_bit3 {img : List Byte} (rate : Nat) (hm : lastMagicOk img = true) (hl : lastLengthOk img = true) :
    bit (lastCheck img rate) 3 = (lastCrc img != field img (img.length - 4) 4) := by
  simp only [lastCheck, hm, hl]
  generalize (lastCrc img != field img (img.length - 4) 4) = crc
  have hrate := b2n_le_one (lastRate img != rate)
  cases crc
  · simp [bit, b2n_false]
    omega
  · simp [bit, b2n_true]
    omega

/-- Settles O11: the register's step is linear, so octets run through it as their number does bit by bit. -/
theorem crcIsEthernets : Obligations.CrcIsEthernets := by
  unfold Obligations.CrcIsEthernets
  refine ⟨rfl, ?_, fun bs => ⟨crc32_lt bs, crc32_residue bs⟩, ?_⟩
  · intro bs b
    rw [crc32_xor_ones, crc32, crcRun_append]
    rfl
  · intro body c rate hc hm hl
    have hfits : crc32 body < 256 ^ 4 := crc32_lt body
    rw [lastCheck_bit3 rate hm hl, lastCrc_append body hc, field_last_four body hc, ← leNat_eq_iff hc hfits]
    simp

end Sys2Proof.Machine
end

section
namespace Sys2Proof.Machine

/-! ## A pending swap is cancelled (R35, R90, R459) -/

theorem Mod.cancelById_in_time {m : Mod} {id : Nat} {c : Commit} (hc : m.commit? id = some c)
    (hst : c.state = .proposed ∨ c.state = .confirmed) (hk : m.k + 16 < c.target) :
    m.cancelById id = (((m.sendCommit 5 c abCancelled).cancelCommit c abCancelled m.rank).stepEnded c, 0) := by
  have hcan : m.canCancel c 16 = true := by simp [Mod.canCancel, hst, hk]
  simp [Mod.cancelById, hc, hcan]

theorem Mod.cancelSwap_in_time {m : Mod} {id : Nat} {c : Commit} (hc : m.commit? id = some c)
    (hst : c.state = .proposed ∨ c.state = .confirmed) (hk : m.k + 16 < c.target) (p : Path) :
    m.cancelSwap p 1 true id = (((m.sendCommit 5 c abCancelled).cancelCommit c abCancelled m.rank).stepEnded c).report p 0 := by
  simp [Mod.cancelSwap, Mod.cancelById_in_time hc hst hk]

theorem Mod.cancelSwap_none_pending (m : Mod) (p : Path) (id : Nat) : m.cancelSwap p 1 false id = m.report p abCancelLate := by
  simp [Mod.cancelSwap]

theorem profileSwapCancel_writable {i : Nat} (h4 : 4 ≤ i) (h64 : i < 64) (p : Path) (v : Nat) (m : Mod) :
    profileSwapCancel p i v m = m.cancelSwap p v (m.profileSwapPending i) (m.profile i).swapCommit := by
  have hguard : profileGuard i = 0 := by simp [profileGuard, Nat.not_lt.mpr h4, h64]
  simp [profileSwapCancel, hguard]

/-- Settles O23: both writes cancel through the commit that carries the swap. -/
theorem swapsAreCancelled : Obligations.SwapsAreCancelled := by
  unfold Obligations.SwapsAreCancelled
  refine ⟨?_, ?_, ?_, ?_⟩
  · intro s p c hs hsw hc hst hk
    refine next_gate hs ?_
    rw [lastSwapCancel, hsw]
    exact Mod.cancelSwap_in_time hc hst hk p
  · intro s p hs hsw
    refine next_gate hs ?_
    rw [lastSwapCancel, hsw]
    exact Mod.cancelSwap_none_pending ..
  · intro s p i c hs h4 h64 hsw hc hst hk
    refine next_gate hs ?_
    rw [profileSwapCancel_writable h4 h64, hsw]
    exact Mod.cancelSwap_in_time hc hst hk p
  · intro s p i hs h4 h64 hsw
    refine next_gate hs ?_
    rw [profileSwapCancel_writable h4 h64, hsw]
    exact Mod.cancelSwap_none_pending ..

/-! ## Phases F and E (R19, R131, R136) -/

theorem filterPhase_after_I {m : Mod} (hi : m.inPhase .I = true) (h2 : m.triad.stage = 2) :
    filterPhase m = (({ m with tick := { m.tick with phase := .F } } : Mod).flushCleared.filterChain.phasors.sequences.loops.writeFreqs) := by
  simp [filterPhase, hi, h2]

theorem filterPhase_out_of_place {m : Mod} (h : m.inPhase .I = false ∨ m.triad.stage ≠ 2) : filterPhase m = m := by
  have hout : (!m.inPhase .I) = true ∨ m.triad.stage ≠ 2 := by simpa using h
  rw [filterPhase, if_pos hout]

theorem elementPhase_of_not_F {m : Mod} (hf : m.inPhase .F = false) : elementPhase m = m := by simp [elementPhase, hf]

/-! ## The decisions of a slot in phase E (R129, R146, R148) -/

theorem opDelayExpiry_operates {m : Mod} {e : Nat} (hw : m.slotWritable e = true) (hty : m.slotType e ≠ 8)
    (hpu : bit (m.slot e).out 0 = true) (hrun : m.num 0x481010 e < (m.slot e).up) (hop : bit (m.slot e).out 1 = false) :
    opDelayExpiry e m = m.writeSlot e { m.slot e with op := true, dn := 0, opRaw := true, out := (m.slot e).out + 2 } := by
  simp [opDelayExpiry, hw, hty, hpu, hrun, hop]

theorem dropDelayExpiry_drops {m : Mod} {e : Nat} (hw : m.slotWritable e = true) (hop : bit (m.slot e).out 1 = true)
    (hraw : (m.slot e).opRaw = false) (hrun : m.num 0x481011 e < (m.slot e).dn) :
    dropDelayExpiry e m = m.writeSlot e { m.slot e with op := false, dn := 0, out := (m.slot e).out - 2 } := by
  simp [dropDelayExpiry, hw, hop, hraw, hrun]

theorem timerOperate_operates {m : Mod} {e : Nat} (hw : m.slotWritable e = true) (hty : m.slotType e = 8)
    (hrunning : (m.slot e).running = true) (hpu : bit (m.slot e).out 0 = true) (hop : bit (m.slot e).out 1 = false)
    (hn : ticksOf m.hz (m.sett e 3) + 1 ≤ (m.slot e).nRun) (hacc : modeCurve (m.slotMode e) = 0 ∨ 2 ^ 32 ≤ (m.slot e).acc) :
    timerOperate e m = m.writeSlot e { m.slot e with op := true, dn := 0, opRaw := true, out := (m.slot e).out + 2 } :=
  if_pos ⟨hw, hty, hrunning, hpu, by simp [hop], hn, hacc⟩

theorem timerDefiniteReset_clears {m : Mod} {e : Nat} (hw : m.slotWritable e = true) (hty : m.slotType e = 8)
    (hmode : modeReset (m.slotMode e) = 1) (hidle : (m.slot e).running = false) (hoff : ticksOf m.hz (m.sett e 4) < (m.slot e).offRun) :
    timerDefiniteReset e m = (m.setSlot e { m.slot e with acc := 0, nRun := 0 }).set 0x481022 0 e :=
  if_pos ⟨hw, hty, hmode, by simp [hidle], hoff⟩

/-- Settles O25: the equation of each phase in its place, and of each decision of a slot where its condition holds. -/
theorem phasesAndSlots : Obligations.PhasesAndSlots := by
  unfold Obligations.PhasesAndSlots
  refine ⟨?_, ?_, ?_, ?_, ?_, ?_, ?_, ?_⟩
  · intro s hr hi h2
    exact next_awake hr (filterPhase_after_I hi h2)
  · intro s h
    exact next_awake_self (filterPhase_out_of_place h)
  · intro s hf
    exact next_awake_self (elementPhase_of_not_F hf)
  · rintro s m n hr hf rfl rfl
    exact next_awake hr (by simp [elementPhase, hf])
  · intro s e hr hw hty hpu hrun hop
    exact next_awake hr (opDelayExpiry_operates hw hty hpu hrun hop)
  · intro s e hr hw hop hraw hrun
    exact next_awake hr (dropDelayExpiry_drops hw hop hraw hrun)
  · intro s e hr hw hty hrunning hpu hop hn hacc
    exact next_awake hr (timerOperate_operates hw hty hrunning hpu hop hn hacc)
  · intro s e hr hw hty hmode hidle hoff
    exact next_awake hr (timerDefiniteReset_clears hw hty hmode hidle hoff)

end Sys2Proof.Machine
end

section
namespace Sys2Proof.Machine

/-! ## A list of like effects in turn -/

theorem Mod.each_append {α : Type} (m : Mod) (as bs : List α) (f : Mod → α → Mod) : m.each (as ++ bs) f = (m.each as f).each bs f :=
  List.foldl_append

theorem Mod.each_cons {α : Type} (m : Mod) (a : α) (as : List α) (f : Mod → α → Mod) : m.each (a :: as) f = (f m a).each as f := rfl

/-- Effects that each do nothing do nothing in turn. -/
theorem Mod.each_of_fixed {α : Type} {m : Mod} {l : List α} {f : Mod → α → Mod} (h : ∀ x ∈ l, f m x = m) : m.each l f = m := by
  induction l with
  | nil => rfl
  | cons x l ih =>
    rw [Mod.each_cons, h x List.mem_cons_self, ih (fun y hy => h y (List.mem_cons_of_mem x hy))]

/-! ## The passes of the engines (R19, R20, R161, R162, R172) -/

theorem logicPassL1_after_E {m n : Mod} (he : m.inPhase .E = true) (hn : n = m.each (List.range 16) (fun m g => l1Engine g m)) :
    logicPassL1 m = (({ n with tick := { n.tick with phase := .L1 }, logic := { n.logic with snap := n.bits } } : Mod).each
      (List.range 16) (fun m g => beginPass 1 g m)) := by
  simp [logicPassL1, he, hn]

theorem logicPassL1_of_not_E {m : Mod} (he : m.inPhase .E = false) : logicPassL1 m = m := by simp [logicPassL1, he]

theorem logicPassL2_once {m : Mod} (hl : m.inPhase .L2 = true) (hfirst : m.logic.l2 = false) :
    logicPassL2 m = (({ m with logic := { m.logic with snap := m.bits, l2 := true } } : Mod).each
      (List.range 16) (fun m g => beginPass 2 g m)) := by
  simp [logicPassL2, hl, hfirst]

theorem logicPassL2_out_of_place {m : Mod} (h : m.inPhase .L2 = false ∨ m.logic.l2 = true) : logicPassL2 m = m := by
  have hout : (!m.inPhase .L2) = true ∨ m.logic.l2 = true := by simpa using h
  rw [logicPassL2, if_pos hout]

theorem beginPass_without_error {m : Mod} {g pass : Nat} (hst : m.engState g = enRunning) (hfr : m.engineFrozen g = false)
    (hruns : m.passRuns g pass = true) (herr : (m.engine g).errDue = false) :
    beginPass pass g m = m.setEngine g { m.engine g with
      run := { pass := pass, pc := liSect (m.engine g).image (m.entry g pass) }, errDue := false, idleSaid := false, words := m.passWords g pass } := by
  simp [beginPass, hst, hfr, hruns, herr]

theorem passOverrun_trips {m : Mod} {g : Nat} (hpass : (m.engine g).run.pass ≠ 0)
    (hused : m.budget g (m.engine g).run.pass ≤ (m.engine g).run.used) : passOverrun g m = m.tripPass g := by
  have hspent : ¬ ((m.engine g).run.pass = 0 ∨ (m.engine g).run.used < m.budget g (m.engine g).run.pass) := by omega
  rw [passOverrun, if_neg hspent]

/-- The tick is the same at the end of the overrun as at its start. -/
theorem Mod.tripPass_eq (m : Mod) (g : Nat) : m.tripPass g =
    (((((((((m.clearMarkers g).safeBits g true).setRun g {}).set 0x581008 (m.engine g).run.pass g).set 0x581009
      (((m.clearMarkers g).safeBits g true).setRun g {}).k g).set 0x58100A (m.engine g).run.pc g).raiseTo
      (if (m.engine g).run.pass = 1 then 0x58100B else 0x58100C) (m.engine g).run.used g).setEngState g enFaulted).raise
      0x0602 [g, (m.engine g).run.pass, (m.engine g).run.pc, (((m.clearMarkers g).safeBits g true).setRun g {}).k]) := by
  rw [Mod.tripPass]
  rfl

theorem passOverrun_within_budget {m : Mod} {g : Nat}
    (h : (m.engine g).run.pass = 0 ∨ (m.engine g).run.used < m.budget g (m.engine g).run.pass) : passOverrun g m = m := by
  rw [passOverrun, if_pos h]

/-- The end of a phase does nothing where every engine has reached END. -/
theorem Mod.endPasses_all_ended {m : Mod} (h : ∀ g, g < 16 → (m.engine g).run.pass = 0) : m.endPasses = m :=
  Mod.each_of_fixed (fun g hg => if_pos (h g (List.mem_range.mp hg)))

/-- The sixteen engines in order: those before engine g, g, and those after it. -/
theorem range16_split {g : Nat} (hg : g < 16) : List.range 16 = List.range g ++ g :: List.range' (g + 1) (15 - g) := by
  have hsplit : List.range' 0 g ++ List.range' (0 + g) (16 - g) = List.range' 0 (g + (16 - g)) := List.range'_append_1
  have htail : List.range' g (16 - g) = g :: List.range' (g + 1) (15 - g) := by
    rw [show 16 - g = (15 - g) + 1 by omega, List.range'_succ]
  rw [Nat.zero_add, htail, Nat.add_sub_of_le hg.le] at hsplit
  rw [List.range_eq_range', List.range_eq_range', hsplit]

/-- At the end of a phase the first engine that has not reached END overruns, and then those after it. -/
theorem Mod.endPasses_first {m : Mod} {g : Nat} (hg : g < 16) (hrun : (m.engine g).run.pass ≠ 0)
    (hbefore : ∀ h, h < g → (m.engine h).run.pass = 0) :
    m.endPasses = (m.tripPass g).each (List.range' (g + 1) (15 - g)) (fun m h => if (m.engine h).run.pass = 0 then m else m.tripPass h) := by
  have hfixed : m.each (List.range g) (fun m h => if (m.engine h).run.pass = 0 then m else m.tripPass h) = m :=
    Mod.each_of_fixed (fun x hx => if_pos (hbefore x (List.mem_range.mp hx)))
  rw [Mod.endPasses, range16_split hg, Mod.each_append, hfixed, Mod.each_cons, if_neg hrun]

/-! ## AUTOSTART (R175) -/

/-- An engine's new state is no start-up choice: COLD_START, object 0x5810.06, is as it was. -/
theorem Mod.coldStart_setEngState {m : Mod} (hg : m.Good) (g st : Nat) : (m.setEngState g st).num 0x581006 g = m.num 0x581006 g := by
  have hrunning : objKey 0x581006 g ≠ objKey 0x580001 0 := by unfold objKey; omega
  have hstate : objKey 0x581006 g ≠ objKey 0x581001 g := by unfold objKey; omega
  exact (Mod.num_set_ne (Mod.set_good hg 0x581001 st g).dict _ hrunning).trans (Mod.num_set_ne hg.dict st hstate)

theorem startEngine_warm {m : Mod} {g : Nat} (hg : m.Good) (hst : m.engState g = enStopped)
    (hown : ownsClash (m.engine g).own (m.othersOwn g) = false) (hwarm : m.on 0x581006 g = false) :
    startEngine g m = (((m.setEngState g enRunning).setEngine g { (m.setEngState g enRunning).engine g with idleSaid := false }).raise
        0x0600 [g, 0, m.k]) := by
  have hzero : m.num 0x581006 g = 0 := by simpa [Mod.on] using hwarm
  have hkept : ∀ e, ((m.setEngState g enRunning).setEngine g e).num 0x581006 g = 0 :=
    fun _ => (Mod.coldStart_setEngState hg g enRunning).trans hzero
  have hk : ∀ e, ((m.setEngState g enRunning).setEngine g e).k = m.k := fun _ => rfl
  have heng : (m.setEngState g enRunning).engine g = m.engine g := rfl
  simp [startEngine, hst, hown, hwarm, hkept, hk, heng]

theorem engineAutostart_at_first_vote {m : Mod} {g : Nat} (hauto : m.on 0x58100D g = true) (hst : m.engState g = enStopped)
    (hrun : m.tick.running = true) (hfirst : m.triad.firstVote = some m.k) (hph : phaseCode m.tick.phase < 3) :
    engineAutostart g m = startEngine g m := if_pos ⟨hauto, hst, hrun, hfirst, hph⟩

theorem engineAutostart_at_no_other {m : Mod} {g : Nat} (h : m.on 0x58100D g = false ∨ m.engState g ≠ enStopped ∨
    m.triad.firstVote ≠ some m.k ∨ 3 ≤ phaseCode m.tick.phase) : engineAutostart g m = m := by
  refine if_neg ?_
  intro hall
  obtain ⟨hauto, hst, _, hfirst, hph⟩ := hall
  rcases h with h | h | h | h
  · simp [hauto] at h
  · exact h hst
  · exact h hfirst
  · omega

/-- Settles O31: the equations of the passes; the end of a phase goes through the engines in order. -/
theorem logicPasses : Obligations.LogicPasses := by
  unfold Obligations.LogicPasses
  refine ⟨?_, ?_, ?_, ?_, ?_, ?_, ?_, ?_, ?_, ?_, ?_⟩
  · intro s m hr he hm
    exact next_awake hr (logicPassL1_after_E he hm)
  · intro s hr hl hfirst
    exact next_awake hr (logicPassL2_once hl hfirst)
  · intro s he
    exact next_awake_self (logicPassL1_of_not_E he)
  · intro s h
    exact next_awake_self (logicPassL2_out_of_place h)
  · intro m pass g hst hfr hruns herr
    exact beginPass_without_error hst hfr hruns herr
  · rintro s g m hr hpass hused rfl
    exact next_awake hr ((passOverrun_trips hpass hused).trans (s.mod.tripPass_eq g))
  · intro m h
    exact m.endPasses_all_ended h
  · intro m g hg hrun hbefore
    exact Mod.endPasses_first hg hrun hbefore
  · intro s g h
    exact next_awake_self (passOverrun_within_budget h)
  · intro s g hr hauto hst hrun hfirst hph hown hwarm hg
    exact next_awake hr ((engineAutostart_at_first_vote hauto hst hrun hfirst hph).trans (startEngine_warm hg hst hown hwarm))
  · intro s g h
    exact next_awake_self (engineAutostart_at_no_other h)

end Sys2Proof.Machine
end

section
namespace Sys2Proof.Machine

/-! ## Reading a table's and a hart's new value -/

/-- A value other than the default is read where it was set, in whatever form the table is. -/
theorem Table.get_set_of_ne {α : Type} [DecidableEq α] (t : Table α) (d : α) (k : Nat) {v : α} (hv : v ≠ d) :
    Table.get (Table.set t d k v) d k = v := by
  simp [Table.get, Table.set, hv]

theorem Mod.hart_setHart (m : Mod) (j : Nat) {h : HartSt} (hh : h ≠ {}) : (m.setHart j h).hart j = h :=
  Table.get_set_of_ne _ _ _ hh

/-- A hart in a window is not as after reset. -/
theorem HartSt.ne_default {h : HartSt} (hw : h.winTenant ≠ 0) : h ≠ {} := by
  rintro rfl
  exact hw rfl

theorem length_slice (bs : List Byte) (a n : Nat) : (slice bs a n).length = n := by
  simp only [slice, List.length_append, List.length_replicate, List.length_take]
  omega

/-- A run of memory reads the octets written there. -/
theorem Mod.readN_poke_slice {m : Mod} (hg : m.Good) (a n : Nat) (bs : List Byte) :
    Memory.readN (m.poke a (slice bs 0 n)).mem a n = slice bs 0 n := by
  have h := Memory.readN_writeN a (slice bs 0 n) hg.mem
  rwa [length_slice] at h

/-! ## Windows (R201, R202, R206) -/

/-- Phase T stands, or begins where no engine is left in a pass of L1: then the phase alone changes. -/
theorem Mod.startT_passes_ended {m : Mod} (h : m.inPhase .T = true ∨ (m.inPhase .L1 = true ∧ ∀ g, g < 16 → (m.engine g).run.pass = 0)) :
    m.startT = { m with tick := { m.tick with phase := .T } } := by
  rcases h with hT | ⟨hL, hend⟩
  · obtain ⟨-, hph⟩ : m.tick.running = true ∧ m.tick.phase = .T := by simpa [Mod.inPhase] using hT
    rw [Mod.startT, if_pos hph, ← hph]
  · obtain ⟨-, hph⟩ : m.tick.running = true ∧ m.tick.phase = .L1 := by simpa [Mod.inPhase] using hL
    rw [Mod.startT, if_neg (by simp [hph]), Mod.endPasses_all_ended hend]

/-- The hart `h` of a core as window `w`, entry `e`, leaves it at its START in tick `k`: the tenant's context and mode resume (R201). -/
def HartSt.entered (h : HartSt) (e : LastWin) (w k root : Nat) (ctx : List Byte) (mode : HartMode) : HartSt :=
  { h.unpredict with
    ctx := ctx
    mode := mode
    hgatp := hgatpOf root e.tenant
    winTenant := e.tenant
    winTick := k
    winStart := e.start
    winEnd := e.stop
    winIndex := w
    bgMode := h.mode
    bgHgatp := h.hgatp
    stalled := none
    reserved := none }

/-- The module as window entry `e` makes it ready for its tenant: phase T stands, the background context is saved, no identity is latched any more
and the free value of the mode is drawn. -/
def Mod.readied (m : Mod) (e : LastWin) : Mod :=
  (((({ m with tick := { m.tick with phase := .T } } : Mod).poke (saveArea e.core) (slice (m.hart e.core).ctx 0 2048)).setTenant e.tenant
    { m.tenant e.tenant with irqLatch := 0 }).draw 1).2

theorem Mod.readied_good {m : Mod} (hg : m.Good) (e : LastWin) : (m.readied e).Good :=
  ⟨hg.dict, Memory.wf_writeN _ _ hg.mem, hg.held⟩

/-- The context that window entry `e` loads: the tenant's, with identity 1 and every latched identity pending (R201). -/
def Mod.loadedCtx (m : Mod) (e : LastWin) : List Byte :=
  ((List.range 16).filter (fun i => i = 1 ∨ bit (m.tenant e.tenant).irqLatch i)).foldl ctxPend
    (Memory.readN (m.poke (saveArea e.core) (slice (m.hart e.core).ctx 0 2048)).mem ((m.tnSram e.tenant).1 + 0x800 * e.core) 2048)

/-- Which of the guest's modes resumes is a free value. -/
def Mod.drawnMode (m : Mod) : HartMode := if (m.draw 1).1 = 0 then .vs else .vu

theorem Mod.drawnMode_guest (m : Mod) : m.drawnMode = .vs ∨ m.drawnMode = .vu := by
  unfold Mod.drawnMode
  split <;> simp

/-- The hart of the core of window `w`, entry `e`, once the window has begun. -/
def Mod.enteredHart (m : Mod) (w : Nat) (e : LastWin) : HartSt :=
  (m.hart e.core).entered e w m.k (m.num 0x51000C e.tenant) (m.loadedCtx e) m.drawnMode

/-- The module in window `w`, entry `e`: the hart is entered and the window recorded. -/
def Mod.inWindow (m : Mod) (w : Nat) (e : LastWin) : Mod :=
  (((m.readied e).setHart e.core (m.enteredHart w e)).set 0x501001 1 e.core).set 0x501002 e.tenant e.core

/-- WINDOW_ENTRY of a window that runs puts the module in the window; a late entry is counted. -/
theorem windowEntry_runs {m : Mod} {w : Nat} {e : LastWin} (he : e = lastWin m.activeLast w)
    (hph : m.inPhase .T = true ∨ (m.inPhase .L1 = true ∧ ∀ g, g < 16 → (m.engine g).run.pass = 0)) (hw : w < 256) (hen : e.en = true)
    (hoff : m.k % 2 ^ e.div = e.offset) (hst : m.tnState e.tenant = tnRunning) (hfree : (m.hart e.core).winTenant = 0) (late : Bool) :
    windowEntry w late m = (m.inWindow w e).when late (fun m => m.bump 0x501003 e.core) := by
  subst he
  have hphase : (m.inPhase .L1 || m.inPhase .T) = true := by
    rcases hph with hT | ⟨hL, -⟩ <;> simp [*]
  have hlast : w ≤ 255 := by omega
  have hin : ¬ ((!(m.inPhase .L1 || m.inPhase .T)) = true ∨ (!(lastWin m.activeLast w).en) = true ∨
      m.k % 2 ^ (lastWin m.activeLast w).div ≠ (lastWin m.activeLast w).offset ∨ m.tnState (lastWin m.activeLast w).tenant ≠ tnRunning ∨
      (m.hart (lastWin m.activeLast w).core).winTenant ≠ 0 ∨ 255 < w) := by
    simp [hphase, hen, hoff, hst, hfree, hlast]
  rw [windowEntry, if_neg hin, Mod.startT_passes_ended hph]
  rfl

/-- Objects of one core, and of any other index, lie apart. -/
theorem objKey_ne_same {o p : Nat} (h : o ≠ p) (i : Nat) : objKey o i ≠ objKey p i := by
  unfold objKey
  omega

theorem Mod.inWindow_good {m : Mod} (hg : m.Good) (w : Nat) (e : LastWin) : (m.inWindow w e).Good :=
  Mod.set_good (Mod.set_good (Mod.setHart_good (Mod.readied_good hg e) _ _) ..) ..

theorem Mod.inWindow_hart (m : Mod) (w : Nat) {e : LastWin} (hten : e.tenant ≠ 0) : (m.inWindow w e).hart e.core = m.enteredHart w e :=
  Mod.hart_setHart (m.readied e) _ (HartSt.ne_default hten)

/-- The window's state and tenant are recorded, and the count of late entries is as it was. -/
theorem Mod.inWindow_num {m : Mod} (hg : m.Good) (w : Nat) (e : LastWin) :
    (m.inWindow w e).num 0x501001 e.core = 1 ∧ (m.inWindow w e).num 0x501002 e.core = e.tenant ∧
      (m.inWindow w e).num 0x501003 e.core = m.num 0x501003 e.core := by
  have hentered := Mod.setHart_good (Mod.readied_good hg e) e.core (m.enteredHart w e)
  have hstate := Mod.set_good hentered 0x501001 1 e.core
  refine ⟨?_, Mod.num_set hstate.dict .., ?_⟩
  · exact (Mod.num_set_ne hstate.dict _ (objKey_ne_same (by decide) _)).trans (Mod.num_set hentered.dict ..)
  · exact (Mod.num_set_ne hstate.dict _ (objKey_ne_same (by decide) _)).trans
      (Mod.num_set_ne hentered.dict _ (objKey_ne_same (by decide) _))

theorem Mod.num_when_bump {m : Mod} (hg : m.Good) (c : Bool) (o i : Nat) :
    (m.when c (fun m => m.bump o i)).num o i = if c then min (m.num o i + 1) (objMax o) else m.num o i := by
  cases c with
  | false => rfl
  | true => exact Mod.num_bump hg.dict o i 1

theorem Mod.num_when_bump_ne {m : Mod} (hg : m.Good) (c : Bool) {o i p j : Nat} (hk : objKey p j ≠ objKey o i) :
    (m.when c (fun m => m.bump o i)).num p j = m.num p j := by
  cases c with
  | false => rfl
  | true => exact Mod.num_set_ne hg.dict _ hk

/-- A count that is raised or not leaves everything but the store as it was. -/
theorem Mod.when_bump_frame (m : Mod) (c : Bool) (o i : Nat) :
    (m.when c (fun m => m.bump o i)).tick = m.tick ∧ (m.when c (fun m => m.bump o i)).ten = m.ten ∧
      (m.when c (fun m => m.bump o i)).mem = m.mem ∧ (m.when c (fun m => m.bump o i)).raised = m.raised ∧
      (m.when c (fun m => m.bump o i)).out = m.out := by
  cases c <;> exact ⟨rfl, rfl, rfl, rfl, rfl⟩

/-- A window of a tenant that is not RUNNING does not run. -/
theorem windowEntry_of_not_running {m : Mod} {w : Nat} (h : m.tnState (lastWin m.activeLast w).tenant ≠ tnRunning) (late : Bool) :
    windowEntry w late m = m := by
  simp [windowEntry, h]

/-- The hart `g` of a core whose window is over, `h` as the window left it: the background resumes with the context `bg` (R202). -/
def HartSt.resumed (g h : HartSt) (bg : List Byte) : HartSt :=
  { g.unpredict with
    ctx := if bg.all (· == 0) then [] else bg
    mode := h.bgMode
    hgatp := h.bgHgatp
    winTenant := 0
    winTick := 0
    winStart := 0
    winEnd := 0
    winIndex := 0
    bgMode := .m
    bgHgatp := 0
    stalled := none
    reserved := none }

/-- The same, an interrupt 20 that waited taken (R206). -/
def HartSt.resumedTrap (g h : HartSt) (bg : List Byte) : HartSt :=
  if (g.resumed h bg).irq20 then (g.resumed h bg).takeIrq20 else g.resumed h bg

/-- Whether or not interrupt 20 waited, the window is over, the reservation and the predictions are lost, buffered stores and caches are as they were. -/
theorem HartSt.resumedTrap_fields (g h : HartSt) (bg : List Byte) :
    (g.resumedTrap h bg).winTenant = 0 ∧ (g.resumedTrap h bg).reserved = none ∧ (g.resumedTrap h bg).predictor = 0 ∧
      (g.resumedTrap h bg).returns = 0 ∧ (g.resumedTrap h bg).stores = g.stores ∧ (g.resumedTrap h bg).l1d = g.l1d ∧
      (g.resumedTrap h bg).l1i = g.l1i := by
  unfold HartSt.resumedTrap
  split <;> exact ⟨rfl, rfl, rfl, rfl, rfl, rfl, rfl⟩

/-- The tenant's context saved at the end of its window on core j (R202). -/
def Mod.saved (m : Mod) (j : Nat) : Mod := m.poke ((m.tnSram (m.hart j).winTenant).1 + 0x800 * j) (slice (m.hart j).ctx 0 2048)

/-- The same with the caches cleaned where the tenant's ISOLATE is set. -/
def Mod.vacated (m : Mod) (j : Nat) : Mod :=
  if m.num 0x510008 (m.hart j).winTenant = 1 then (m.saved j).isolate j else m.saved j

theorem Mod.vacated_saved {m : Mod} (j : Nat) : (m.vacated j).dict = m.dict ∧ (m.vacated j).mem = (m.saved j).mem ∧
    (m.vacated j).raised = m.raised ∧ (m.vacated j).out = m.out ∧
    (m.vacated j).ten.harts = if m.num 0x510008 (m.hart j).winTenant = 1 then (m.isolate j).ten.harts else m.ten.harts := by
  unfold Mod.vacated
  split <;> exact ⟨rfl, rfl, rfl, rfl, rfl⟩

/-- ISOLATE empties the caches of the hart and leaves its buffered stores (R198, R202). -/
theorem Mod.hart_vacated {m : Mod} {j : Nat} (hwin : (m.hart j).winTenant ≠ 0) :
    ((m.vacated j).hart j).stores = (m.hart j).stores ∧
      (m.num 0x510008 (m.hart j).winTenant = 1 → ((m.vacated j).hart j).l1d = [] ∧ ((m.vacated j).hart j).l1i = []) := by
  unfold Mod.vacated
  split
  case isTrue hiso =>
    have hclean : ((m.saved j).isolate j).hart j = { m.hart j with l1d := [], l1i := [] } :=
      Mod.hart_setHart (m.saved j) j (HartSt.ne_default hwin)
    rw [hclean]
    exact ⟨rfl, fun _ => ⟨rfl, rfl⟩⟩
  case isFalse hiso => exact ⟨rfl, fun h => absurd h hiso⟩

theorem windowExit_of_window {m : Mod} {w j : Nat} (hj : j = (lastWin m.activeLast w).core) (hwin : (m.hart j).winTenant ≠ 0)
    (hidx : (m.hart j).winIndex = w) :
    windowExit w m = (((m.vacated j).setHart j (((m.vacated j).hart j).resumedTrap (m.hart j)
      (Memory.readN (m.saved j).mem (saveArea j) 2048))).set 0x501001 0 j).set 0x501002 0 j := by
  subst hj
  have hin : ¬ ((m.hart (lastWin m.activeLast w).core).winTenant = 0 ∨ (m.hart (lastWin m.activeLast w).core).winIndex ≠ w) := by
    simp [hwin, hidx]
  rw [windowExit, if_neg hin]
  rfl

theorem phaseTEnd_of_T {m : Mod} (hT : m.inPhase .T = true) :
    phaseTEnd m = (({ m with bits := m.bits.filter (fun e => !decide (0x90000 ≤ e.1 ∧ e.1 < 0xA0000)), tick := { m.tick with phase := .L2 } } : Mod).each
      m.tenantsOn (fun m t => m.setBits (m.tbitsOf t))) := by
  obtain ⟨-, hph⟩ : m.tick.running = true ∧ m.tick.phase = .T := by simpa [Mod.inPhase] using hT
  have hstart : m.startT = m := if_pos hph
  simp only [phaseTEnd, hT, hstart]
  simp
  rfl

theorem phaseTEnd_out_of_place {m : Mod} (hL : m.inPhase .L1 = false) (hT : m.inPhase .T = false) : phaseTEnd m = m := by
  simp [phaseTEnd, hL, hT]

/-- Settles O33: an entry leaves `Mod.inWindow`, an exit `Mod.vacated` with the background resumed, and what each field then reads follows. -/
theorem windowsSwitchTenants : Obligations.WindowsSwitchTenants := by
  unfold Obligations.WindowsSwitchTenants
  refine ⟨?_, ?_, ?_, ?_, ?_⟩
  · intro s w late e hr hg he hph hw hen hoff hst hfree hten
    have hin := Mod.inWindow_good hg w e
    obtain ⟨hstate, htenant, hlate⟩ := Mod.inWindow_num hg w e
    obtain ⟨htick, htens, hmem, hraised, hout⟩ := Mod.when_bump_frame (s.mod.inWindow w e) late 0x501003 e.core
    have hhart : ((s.mod.inWindow w e).when late (fun m => m.bump 0x501003 e.core)).hart e.core = s.mod.enteredHart w e := by
      rw [← Mod.inWindow_hart s.mod w hten, Mod.hart, htens, Mod.hart]
    refine ⟨_, next_awake hr (windowEntry_runs he hph hw hen hoff hst hfree late), ?_⟩
    rw [hhart, htick, hmem, hraised, hout, Mod.num_when_bump hin, Mod.num_when_bump_ne hin late (objKey_ne_same (by decide) _),
      Mod.num_when_bump_ne hin late (objKey_ne_same (by decide) _), hlate]
    exact ⟨rfl, hstate, htenant, rfl, rfl, rfl, rfl, rfl, rfl, rfl, s.mod.drawnMode_guest, Mod.readN_poke_slice hg .., rfl, rfl, rfl⟩
  · intro s w late h
    exact next_awake_self (windowEntry_of_not_running h late)
  · intro s w j hr hg hj hwin hidx
    obtain ⟨hdict, hmem, hraised, hout, hharts⟩ := Mod.vacated_saved (m := s.mod) j
    obtain ⟨hstores, hcaches⟩ := Mod.hart_vacated hwin
    obtain ⟨hten, hres, hpred, hret, hbuf, hdata, hinstr⟩ :=
      ((s.mod.vacated j).hart j).resumedTrap_fields (s.mod.hart j) (Memory.readN (s.mod.saved j).mem (saveArea j) 2048)
    refine ⟨_, next_awake hr (windowExit_of_window hj hwin hidx), ?_⟩
    generalize ((s.mod.vacated j).hart j).resumedTrap (s.mod.hart j) (Memory.readN (s.mod.saved j).mem (saveArea j) 2048) = x at *
    have hwf : dictWf ((s.mod.vacated j).setHart j x).dict = true := by
      show dictWf (s.mod.vacated j).dict = true
      rw [hdict]
      exact hg.dict
    have hwf' : dictWf (((s.mod.vacated j).setHart j x).set 0x501001 0 j).dict = true := dictWf_putVal _ _ hwf
    refine ⟨?_, Mod.num_set hwf' .., ⟨x, ?_, hten, hres, hpred, hret, hbuf.trans hstores, ?_⟩, ?_, ?_, hraised, hout⟩
    · exact (Mod.num_set_ne hwf' _ (objKey_ne_same (by decide) _)).trans (Mod.num_set hwf ..)
    · rw [← hharts]
      rfl
    · intro hiso
      obtain ⟨hl1d, hl1i⟩ := hcaches hiso
      exact ⟨hdata.trans hl1d, hinstr.trans hl1i⟩
    · have hread := Mod.readN_poke_slice hg ((s.mod.tnSram (s.mod.hart j).winTenant).1 + 0x800 * j) 2048 (s.mod.hart j).ctx
      rw [← hread]
      exact congrArg (fun mem => Memory.readN mem _ 2048) hmem
    · intro o i h1 h2
      have hkept : (s.mod.vacated j).val o i = s.mod.val o i := by rw [Mod.val, hdict, ← Mod.val]
      exact (Mod.val_setVal_ne hwf' _ h2).trans ((Mod.val_setVal_ne hwf _ h1).trans hkept)
  · intro s hr hT
    exact next_awake hr (phaseTEnd_of_T hT)
  · intro s hL hT
    exact next_awake_self (phaseTEnd_out_of_place hL hT)

end Sys2Proof.Machine
end

section
namespace Sys2Proof.Machine

/-! ## The majority (R249) -/

theorem majorityOf_few (a : Nat × VoteVec) : majorityOf [] = none ∧ majorityOf [a] = none := by simp [majorityOf]

/-- Two vectors have a majority exactly when they are equal. -/
theorem majorityOf_two (a b : Nat × VoteVec) :
    (a.2 = b.2 → majorityOf [a, b] = some a.2) ∧ (a.2 ≠ b.2 → majorityOf [a, b] = none) := by
  constructor
  · intro hab
    simp [majorityOf, hab]
  · intro hab
    simp [majorityOf, hab, Ne.symm hab]

/-- Of three vectors the majority is the one that two equal; three that differ have none. -/
theorem majorityOf_three (a b c : Nat × VoteVec) :
    (a.2 = b.2 → majorityOf [a, b, c] = some a.2) ∧ (a.2 ≠ b.2 → a.2 = c.2 → majorityOf [a, b, c] = some a.2) ∧
    (a.2 ≠ b.2 → b.2 = c.2 → majorityOf [a, b, c] = some b.2) ∧ (a.2 ≠ b.2 → a.2 ≠ c.2 → b.2 ≠ c.2 → majorityOf [a, b, c] = none) := by
  refine ⟨?_, ?_, ?_, ?_⟩
  · intro hab
    by_cases hac : b.2 = c.2 <;> simp [majorityOf, hab, hac]
  · intro hab hac
    have hcb : c.2 ≠ b.2 := hac ▸ hab
    simp [majorityOf, hac, Ne.symm hcb]
  · intro hab hbc
    have hac : a.2 ≠ c.2 := hbc ▸ hab
    simp [majorityOf, hbc, hac, Ne.symm hac]
  · intro hab hac hbc
    simp [majorityOf, hab, hac, hbc, Ne.symm hab, Ne.symm hac, Ne.symm hbc]

/-! ## V start, the deadline and V end (R19, R20, R248, R250) -/

theorem voteStart_after_L2 {m n v : Mod} (hl : m.inPhase .L2 = true) (hpass : m.logic.l2 = true) (hst : m.triad.stage = 2)
    (hn : n = m.endPasses)
    (hv : v = ({ n with
      tick := { n.tick with phase := .V }
      triad := { n.triad with
        stage := 3, own := n.ownVector, ownStatus := n.triadStatus, laceView := n.sampleLace, vDrive := n.triad.drive } } : Mod).set
        0x602001 (36 + n.ownVector.body.length)) (now : Nat) :
    voteStart now m = (if v.inTriad then v.sendTriad (triadBytes 2 v.triadHdr n.ownVector.body) else v).clickerVStart now := by
  have hin : ¬ ((!m.inPhase .L2) = true ∨ (!m.logic.l2) = true ∨ m.triad.stage ≠ 2) := by simp [hl, hpass, hst]
  rw [voteStart, if_neg hin, hv, hn]
  rfl

theorem voteStart_out_of_place {m : Mod} (h : m.inPhase .L2 = false ∨ m.logic.l2 = false ∨ m.triad.stage ≠ 2) (now : Nat) :
    voteStart now m = m := by
  have hout : (!m.inPhase .L2) = true ∨ (!m.logic.l2) = true ∨ m.triad.stage ≠ 2 := by simpa using h
  rw [voteStart, if_pos hout]

/-- The module as the deadline finds it with vectors `vs` of which `v` is the majority (R249). -/
def Mod.judged (m : Mod) (own : Bool) (vs : List (Nat × VoteVec)) (v : VoteVec) : Mod :=
  { m with triad := { m.triad with
    stage := 4, ownInTime := own, majority := some v, present := rankMask (vs.map Prod.fst),
    inMajority := rankMask ((vs.filter (fun e => e.2 = v)).map Prod.fst) } }

theorem voteDeadline_majority {m : Mod} (hst : m.triad.stage = 3) {own : Bool} {v : VoteVec} (hmaj : majorityOf (m.presentVectors own) = some v) :
    voteDeadline own m =
      if !m.isMember then m.judged own (m.presentVectors own) v
      else if !own then (m.judged own (m.presentVectors own) v).releaseClaim 3
      else if some v ≠ some m.triad.own then (m.judged own (m.presentVectors own) v).releaseClaim 4
      else m.judged own (m.presentVectors own) v := by
  rw [voteDeadline, if_neg (by simp [hst])]
  simp only [hmaj]
  rfl

theorem vEnd_after_deadline {m : Mod} (hst : m.triad.stage = 4) :
    vEnd m = ({ m with triad := { m.triad with stage := 5 } } : Mod).endVote (m.num 0x602006) := by
  simp [vEnd, hst]

theorem vEnd_out_of_place {m : Mod} (hst : m.triad.stage ≠ 4) : vEnd m = m := if_pos hst

/-! ## Demotion (R251) -/

theorem Mod.isMember_of_mstate {m : Mod} (h : m.mstate = msMember) : m.isMember = true := by simp [Mod.isMember, h]

theorem isLine_of_range {r : Nat} (h1 : 1 ≤ r) (h3 : r ≤ 3) : isLine r = true := by simp [isLine, h1, h3]

theorem demotion_of_self {m : Mod} (hmem : m.mstate = msMember) {r : Nat} (hr : r = m.rank) (h1 : 1 ≤ r) (h3 : r ≤ 3)
    (hmin : 3 ≤ m.num 0x602102 r) :
    demotion r m = ((((m.releaseClaim 5).setMstate msDemoted).raise
      0x0301 [r, Config.eventField 0x0301 1, ((m.releaseClaim 5).setMstate msDemoted).k]).missArmed 2) := by
  subst hr
  have hcause : m.demotionCause = 1 := by simp [Mod.demotionCause, hmin]
  simp [demotion, Mod.isMember_of_mstate hmem, isLine_of_range h1 h3, hcause]

theorem demotion_of_peer {m : Mod} (hmem : m.mstate = msMember) {r : Nat} (hr : r ≠ m.rank) (h1 : 1 ≤ r) (h3 : r ≤ 3)
    (hlimit : 3 ≤ m.num 0x602102 r ∨ 16 ≤ m.num 0x602101 r) : demotion r m = m.set 0x602104 1 r := by
  simp [demotion, Mod.isMember_of_mstate hmem, isLine_of_range h1 h3, hr, hlimit]

theorem demotion_within_limits {m : Mod} {r : Nat} (hr : r ≠ m.rank) (hmin : m.num 0x602102 r < 3) (habs : m.num 0x602101 r < 16) :
    demotion r m = m := by
  have hlimit : ¬ (3 ≤ m.num 0x602102 r ∨ 16 ≤ m.num 0x602101 r) := by omega
  simp [demotion, hr, hlimit]

/-! ## Revert and its hold-off (R260) -/

theorem revertDelayElapsed_reverts {m : Mod} {l : Nat} {rs : List Nat} (helig : maskRanks m.triad.eligible = l :: rs) (hst : m.triad.stage = 5)
    (hmem : m.mstate = msMember) (hon : m.num 0x602003 = 1) (hpub : m.num 0x602006 ∈ rs) (hlow : l < m.num 0x602006)
    (hdelay : m.num 0x602004 ≤ Table.get m.triad.hold.runs 0 l) :
    revertDelayElapsed m = ((({ m with triad := { m.triad with
      hold := { m.triad.hold with holdoffOn := true, holdoffLeft := m.num 0x602005 } } } : Mod).set 0x602006 0).releaseClaim 1) := by
  have hnone : m.num 0x602006 ≠ 0 := by omega
  simp [revertDelayElapsed, helig, hst, Mod.isMember_of_mstate hmem, hon, hpub, hlow, hdelay, hnone]

theorem revertHoldoffEnd_claims {m : Mod} {l : Nat} {rs : List Nat} (hon : m.triad.hold.holdoffOn = true) (hleft : m.triad.hold.holdoffLeft = 0)
    (hst : m.triad.stage = 5) (hmem : m.mstate = msMember) (helig : maskRanks m.triad.eligible = l :: rs) (hnone : m.num 0x602006 = 0) :
    revertHoldoffEnd m = ((({ m with triad := { m.triad with
      hold := { m.triad.hold with holdoffOn := false } } } : Mod).set 0x602006 l).drivePublisher) := by
  have hin : ¬ ((!m.triad.hold.holdoffOn) = true ∨ m.triad.hold.holdoffLeft ≠ 0 ∨ m.triad.stage ≠ 5 ∨ (!m.isMember) = true) := by
    simp [hon, hleft, hst, Mod.isMember_of_mstate hmem]
  rw [revertHoldoffEnd, if_neg hin]
  simp only [helig]
  exact if_pos hnone

/-! ## The hold limit (R263) -/

theorem holdLimitReached_turns_safe {m : Mod} {slots : Table LogicPub} (hlim : m.num 0x602002 ≤ m.num 0x602007)
    (hsafe : m.triad.hold.safe = false) (hlast : m.triad.lastPub = true)
    (hslots : slots = m.triad.hold.slots.map (fun e =>
      (e.1, { bits := memberBitsOf m.safeTable e.1, stNum := e.2.stNum + 1, sq := 0, chg := some m.k, fresh := true }))) :
    holdLimitReached m = ({ m with triad := { m.triad with
      hold := { m.triad.hold with safe := true, bits := m.safeTable, slots := slots } } } : Mod).raise 0x0309 [m.num 0x602007, m.k] := by
  have hin : ¬ (m.num 0x602007 < m.num 0x602002 ∨ m.triad.hold.safe = true ∨ (!m.triad.lastPub) = true) := by
    simp [hsafe, hlast, hlim]
  rw [holdLimitReached, if_neg hin, hslots]
  rfl

theorem holdLimitReached_out_of_place {m : Mod}
    (h : m.num 0x602007 < m.num 0x602002 ∨ m.triad.hold.safe = true ∨ m.triad.lastPub = false) : holdLimitReached m = m := by
  have hout : m.num 0x602007 < m.num 0x602002 ∨ m.triad.hold.safe = true ∨ (!m.triad.lastPub) = true := by simpa using h
  rw [holdLimitReached, if_pos hout]

/-- Settles O43: the equations of the vote's steps in and out of their place, and the majority of up to three vectors. -/
theorem theVote : Obligations.TheVote := by
  unfold Obligations.TheVote
  refine ⟨?_, ?_, ?_, ?_, ?_, ?_, ?_, ?_, ?_, ?_, ?_, ?_, ?_, ?_⟩
  · intro s now n m hr hl hpass hst hn hm
    exact next_awake hr (voteStart_after_L2 hl hpass hst hn hm now)
  · intro s now h
    exact next_awake_self (voteStart_out_of_place h now)
  · rintro s vs hr hst rfl hmaj
    refine next_awake hr ((voteDeadline_majority hst hmaj).trans ?_)
    simp [Mod.judged]
  · rintro s own vs v hr hmem hst rfl hmaj hout
    refine next_awake hr ((voteDeadline_majority hst hmaj).trans ?_)
    cases own with
    | false => simp [Mod.isMember_of_mstate hmem, Mod.judged]
    | true => 
      have hv : v ≠ s.mod.triad.own := by simpa using hout
      simp [Mod.isMember_of_mstate hmem, Mod.judged, hv]
  · intro a b c
    obtain ⟨hnil, hone⟩ := majorityOf_few a
    obtain ⟨heq, hne⟩ := majorityOf_two a b
    obtain ⟨hab, hac, hbc, hnone⟩ := majorityOf_three a b c
    exact ⟨hnil, hone, hab, hac, hbc, hnone, heq, hne⟩
  · intro s hr hst
    exact next_awake hr (vEnd_after_deadline hst)
  · intro s hst
    exact next_awake_self (vEnd_out_of_place hst)
  · intro s r hr hmem hrank h1 h3 hmin
    exact next_awake hr (demotion_of_self hmem hrank h1 h3 hmin)
  · intro s r hr hmem hrank h1 h3 hlimit
    exact next_awake hr (demotion_of_peer hmem hrank h1 h3 hlimit)
  · intro s r hr hrank hmin habs
    exact next_awake_self (demotion_within_limits hrank hmin habs)
  · intro s l rs hr helig hst hmem hon hpub hlow hdelay
    exact next_awake hr (revertDelayElapsed_reverts helig hst hmem hon hpub hlow hdelay)
  · intro s l rs hr hon hleft hst hmem helig hnone
    exact next_awake hr (revertHoldoffEnd_claims hon hleft hst hmem helig hnone)
  · rintro s slots m hr hlim hsafe hlast hslots rfl
    exact next_awake hr (holdLimitReached_turns_safe hlim hsafe hlast hslots)
  · intro s h
    exact next_awake_self (holdLimitReached_out_of_place h)

end Sys2Proof.Machine
end

section
namespace Sys2Proof.Machine

/-! ## The guard time and P start (R30, R39, R41) -/

theorem guardTimeStart_of_carrier {m : Mod} (hrun : m.tick.running = true) {p : Nat}
    (hp : (lastPubs m.activeLast).any (fun e => (m.entryPorts e).contains p) = true) :
    guardTimeStart p m = m.setPort p { m.port p with guard := true } := by
  simp only [guardTimeStart, hrun, hp]
  rfl

theorem guardTimeStart_of_other {m : Mod} {p : Nat} (hp : (lastPubs m.activeLast).any (fun e => (m.entryPorts e).contains p) = false) :
    guardTimeStart p m = m := by
  simp only [guardTimeStart, hp]
  simp

theorem publishStart_after_V {m n : Mod} (hv : m.inPhase .V = true) (hst : m.triad.stage = 5) (hon : m.onSchedule = true)
    (hn : n = { m with
      tick := { m.tick with phase := .P }
      triad := { m.triad with
        gateAtP := m.gateOpen
        armed := m.triad.majority.isSome
        armedBits := m.triad.hold.bits
        armedCan := ((lastPubs m.activeLast).filter (fun e => pubKind e == 3)).map pubObject } }) (now : Nat) :
    publishStart now m =
      (n.each (indexed (lastPubs n.activeLast)) (fun n' e => n'.publishEntry now e.2 (Table.get (n.unbound n.activeLast) [] e.1))).endGuards := by
  have hin : ¬ ((!m.inPhase .V) = true ∨ m.triad.stage ≠ 5) := by simp [hv, hst]
  have hsame : n.onSchedule = m.onSchedule := by rw [hn]; rfl
  have hsched : ¬ (!n.onSchedule) = true := by simp [hsame, hon]
  rw [publishStart, if_neg hin]
  subst hn
  exact if_neg hsched

theorem publishStart_out_of_place {m : Mod} (h : m.inPhase .V = false ∨ m.triad.stage ≠ 5) (now : Nat) : publishStart now m = m := by
  have hout : (!m.inPhase .V) = true ∨ m.triad.stage ≠ 5 := by simpa using h
  rw [publishStart, if_pos hout]

theorem Mod.publishEntry_sc0 {m : Mod} {e : Nat} (hk : pubKind e = 2) (hf : (m.sc0 (pubObject e)).frame ≠ [])
    (ht : (m.sc0 (pubObject e)).frameTick = m.k) (hg : m.triad.gateAtP = true) (now : Nat) (late : List Nat) :
    m.publishEntry now e late =
      (m.inject (m.sc0 (pubObject e)).frame 1 now (fun p => if late.contains p then none else some m.bound)).bump 0x516002 (pubObject e) := by
  simp [Mod.publishEntry, hk, hf, ht, hg]

theorem Mod.publishEntry_sc0_gate_closed {m : Mod} {e : Nat} (hk : pubKind e = 2) (hg : m.triad.gateAtP = false) (now : Nat) (late : List Nat) :
    m.publishEntry now e late = m := by
  simp [Mod.publishEntry, hk, hg]

/-! ## Repetitions (R213, R250, R263) -/

/-- The module with logic-owned slot `u` as `x`. -/
def Mod.putLogicSlot (m : Mod) (u : Nat) (x : LogicPub) : Mod :=
  { m with triad := { m.triad with hold := { m.triad.hold with slots := Table.put m.triad.hold.slots u x } } }

theorem pubRetransmit_logic {m : Mod} (hrun : m.tick.running = true) (u now : Nat) : pubRetransmit (2048 + u) now m = m.repeatLogic u now := by
  simp [pubRetransmit, hrun]

theorem Mod.repeatLogic_of_slot {m : Mod} (hon : m.onSchedule = true) {u : Nat} {x : LogicPub}
    (hx : Table.find? m.triad.hold.slots u = some x) (now : Nat) :
    m.repeatLogic u now =
      (m.putLogicSlot u (if x.fresh then { x with fresh := false } else { x with sq := (x.sq + 1) % 2 ^ 32 })).injectLogic u
        (if x.fresh then { x with fresh := false } else { x with sq := (x.sq + 1) % 2 ^ 32 }) 2 now (fun _ => none) := by
  simp only [Mod.repeatLogic, hx, hon]
  rfl

theorem pubRetransmit_tenant {m : Mod} (hrun : m.tick.running = true) {i : Nat} (hi : i < 2048) (now : Nat) :
    pubRetransmit i now m = m.repeatSlot i now := by
  simp [pubRetransmit, hrun, hi]

/-- A tenant slot's frame without a key is sent as it stands. -/
theorem Mod.dueFrame_no_key {m : Mod} {i : Nat} (hkey : m.num 0x513009 i = 0xFFFF) (f : List Byte) : m.dueFrame i f = (some f, m) := by
  simp [Mod.dueFrame, hkey]

theorem Mod.repeatSlot_due {m n : Mod} {i sqAt iv : Nat} {f : List Byte} {x : PubSlot} (hon : m.onSchedule = true)
    (hten : m.tnState (i / 32 + 1) = tnRunning) (hx : x = m.pub i) (hiv0 : x.interval ≠ 0) (hframe : x.frame ≠ []) (hdue : x.due ≤ m.k)
    (hkey : m.num 0x513009 i = 0xFFFF) (hsafe : m.triad.hold.safe = false) (hsq : sqAt = m.num 0x513008 i)
    (hf : f = x.frame.take sqAt ++ toBE 4 ((x.sq + 1) % 2 ^ 32) ++ x.frame.drop (sqAt + 4))
    (hiv : iv = min (2 * x.interval) (max 1 (m.num 0x513007 i)))
    (hn : n = m.setPub i { x with frame := f, sq := (x.sq + 1) % 2 ^ 32, interval := iv, due := x.due + iv }) (now : Nat) :
    m.repeatSlot i now = (n.inject f 2 now (fun _ => none)).when (n.gateOpen || n.holdGate) (fun m => m.bump 0x51300C i) := by
  have hin : ¬ ((m.pub i).interval = 0 ∨ (m.pub i).frame.isEmpty = true ∨ m.k < (m.pub i).due ∨ (!m.onSchedule) = true ∨
      m.tnState (i / 32 + 1) ≠ tnRunning) := by
    rw [← hx]
    simp [hiv0, hframe, hdue, hon, hten]
  have hsend : n.dueFrame i f = (some f, n) := Mod.dueFrame_no_key (by rw [hn]; exact hkey) f
  have hturned : n.triad.hold.safe = false := by rw [hn]; exact hsafe
  subst hx hsq hf hiv hn
  rw [Mod.repeatSlot, if_neg hin]
  simp only [hsend]
  exact if_neg (by simpa using hturned)

theorem Mod.repeatSlot_not_due {m : Mod} {i : Nat} (h : m.k < (m.pub i).due ∨ m.tnState (i / 32 + 1) ≠ tnRunning) (now : Nat) :
    m.repeatSlot i now = m := by
  refine if_pos ?_
  rcases h with h | h
  · exact Or.inr (Or.inr (Or.inl h))
  · exact Or.inr (Or.inr (Or.inr (Or.inr h)))

theorem pubRetransmit_nothing {m : Mod} {i : Nat}
    (h : m.tick.running = false ∨ (i < 2048 ∧ (m.k < (m.pub i).due ∨ m.tnState (i / 32 + 1) ≠ tnRunning))) (now : Nat) :
    pubRetransmit i now m = m := by
  by_cases hrun : m.tick.running = true
  · have hrest := h.resolve_left (by simp [hrun])
    rw [pubRetransmit_tenant hrun hrest.1, Mod.repeatSlot_not_due hrest.2]
  · exact if_pos (by simpa using hrun)

/-! ## The gates judged at a copy's first bit (R259, R263) -/

theorem Mod.mayLeave_iff (m : Mod) (c : Copy) : m.mayLeave c = true ↔ c.pub = 0 ∨ m.gateOpen = true ∨ (c.pub = 2 ∧ m.holdGate = true) := by
  by_cases h : c.pub = 0 <;> simp [Mod.mayLeave, h]

/-- Settles O45: the equations of the guard time, of P start and its entries, and of the repetitions of both kinds of slot. -/
theorem publication : Obligations.Publication := by
  unfold Obligations.Publication
  refine ⟨?_, ?_, ?_, ?_, ?_, ?_, ?_, ?_, ?_, ?_, ?_⟩
  · intro s p hr hrun hp
    exact next_awake hr (guardTimeStart_of_carrier hrun hp)
  · intro s p hp
    exact next_awake_self (guardTimeStart_of_other hp)
  · intro s now m hr hv hst hon hm
    exact next_awake hr (publishStart_after_V hv hst hon hm now)
  · intro s now h
    exact next_awake_self (publishStart_out_of_place h now)
  · intro m now e late hk hf ht hg
    exact Mod.publishEntry_sc0 hk hf ht hg now late
  · intro m now e late hk hg
    exact Mod.publishEntry_sc0_gate_closed hk hg now late
  · rintro s u now x m hr hrun hon hx hfresh rfl
    refine next_awake hr ((pubRetransmit_logic hrun u now).trans ((Mod.repeatLogic_of_slot hon hx now).trans ?_))
    simp only [hfresh]
    rfl
  · rintro s u now x m hr hrun hon hx hfresh rfl
    refine next_awake hr ((pubRetransmit_logic hrun u now).trans ((Mod.repeatLogic_of_slot hon hx now).trans ?_))
    simp only [hfresh]
    rfl
  · intro s i now sqAt iv f x m hr hrun hon hi hten hx hiv0 hframe hdue hkey hsafe hsq hf hiv hm
    have hrepeat := (pubRetransmit_tenant hrun hi now).trans
      (Mod.repeatSlot_due hon hten hx hiv0 hframe hdue hkey hsafe hsq hf hiv hm now)
    constructor
    · intro hgate
      exact next_awake hr (hrepeat.trans (if_pos (by simpa using hgate)))
    · intro hopen hhold
      exact next_awake hr (hrepeat.trans (if_neg (by simp [hopen, hhold])))
  · intro s i now h
    exact next_awake_self (pubRetransmit_nothing h now)
  · intro m c
    exact m.mayLeave_iff c

end Sys2Proof.Machine
end

section
namespace Sys2Proof.Machine

/-! ## Where a sampled-value frame ends (R43, R45, R48, R54, R64, R67) -/

theorem ingestFrame_overload (f : SvFrame) (port : Nat) (m : Mod) : ingestFrame f port true m = m.bump 0x400004 := by
  simp [ingestFrame]

theorem ingestFrame_malformed {m : Mod} {f : SvFrame}
    (h : svOutside f (m.num 0x400005) = true ∨ f.asdus = [] ∨ f.asdus.any asduMalformed = true) (port : Nat) :
    ingestFrame f port false m = m.bump 0x400003 := by
  have hbad : (svOutside f (m.num 0x400005) || f.asdus.isEmpty || f.asdus.any asduMalformed) = true := by
    simpa only [Bool.or_eq_true, List.isEmpty_iff, or_assoc] using h
  exact if_pos hbad

/-- A frame within R43 and R64 whose ASDUs are well formed goes on to its match (R48). -/
theorem svFrame_goes_on {f : SvFrame} {udpPort : Nat} (hin : svOutside f udpPort = false) (hasdus : f.asdus ≠ [])
    (hform : f.asdus.any asduMalformed = false) : ¬ (svOutside f udpPort || f.asdus.isEmpty || f.asdus.any asduMalformed) = true := by
  simp only [hin, hform, List.isEmpty_eq_false_iff.mpr hasdus]
  decide

theorem ingestFrame_unmatched {m : Mod} {f : SvFrame} (hin : svOutside f (m.num 0x400005) = false) (hasdus : f.asdus ≠ [])
    (hform : f.asdus.any asduMalformed = false) (hnone : m.streamOf f = none) (port : Nat) :
    ingestFrame f port false m = m.bump 0x400002 := by
  rw [ingestFrame, if_neg Bool.false_ne_true, if_neg (svFrame_goes_on hin hasdus hform), hnone]

theorem ingestFrame_matched {m : Mod} {f : SvFrame} {s : Nat} (hin : svOutside f (m.num 0x400005) = false) (hasdus : f.asdus ≠ [])
    (hform : f.asdus.any asduMalformed = false) (hs : m.streamOf f = some s) (port : Nat) :
    ingestFrame f port false m = streamFrame s port f m := by
  rw [ingestFrame, if_neg Bool.false_ne_true, if_neg (svFrame_goes_on hin hasdus hform), hs]

/-! ## A frame that passes the checks of its stream (R46, R47, R58, R65) -/

/-- Frame f, of the one ASDU a with sample count n, passes the checks of stream s, which asks for no authentication. -/
structure Mod.Accepts (m : Mod) (s : Nat) (f : SvFrame) (a : Asdu) (n : Nat) : Prop where
  asdus : f.asdus = [a]
  count : m.num 0x401008 s = 1
  svID : a.svID = some (m.oct 0x401005 s)
  confRev : a.confRev = some (m.num 0x401006 s)
  seqLen : a.seqLen = some (8 * m.num 0x401009 s)
  smpCnt : a.smpCnt = some n
  rate : n < m.streamRate s
  sim : f.sim = m.on 0x40100E s
  noAuth : m.num 0x401010 s = 0
  notHmac : f.auth ≠ .hmac
  notEncrypted : f.auth ≠ .encrypted

/-- Stream s after a frame that passed: the right CONF_REV is noted and the frame counts at FRAMES. -/
def Mod.counted (m : Mod) (s : Nat) : Mod := (m.setStreamRt s { m.streamRt s with confOk := true }).bump 0x401020 s

/-- A stream that asks for no authentication takes every frame but those R64 refuses. -/
theorem Mod.authVerdict_accepted {m : Mod} {s : Nat} {f : SvFrame} (hno : m.num 0x401010 s = 0) (hhmac : f.auth ≠ .hmac)
    (henc : f.auth ≠ .encrypted) : m.authVerdict s f = .accepted := by
  simp [Mod.authVerdict, hno, hhmac, henc]

@[simp] theorem Mod.num_setStreamRt (m : Mod) (s : Nat) (x : StreamRt) (o i : Nat) : (m.setStreamRt s x).num o i = m.num o i := rfl

@[simp] theorem Mod.on_setStreamRt (m : Mod) (s : Nat) (x : StreamRt) (o i : Nat) : (m.setStreamRt s x).on o i = m.on o i := rfl

@[simp] theorem Mod.streamRate_setStreamRt (m : Mod) (s : Nat) (x : StreamRt) (t : Nat) : (m.setStreamRt s x).streamRate t = m.streamRate t :=
  rfl

@[simp] theorem Mod.tick_setStreamRt (m : Mod) (s : Nat) (x : StreamRt) : (m.setStreamRt s x).tick = m.tick := rfl

theorem streamFrame_accepted {m : Mod} {s n : Nat} {f : SvFrame} {a : Asdu} (h : m.Accepts s f a n) (hrun : m.tick.running = true)
    (port : Nat) : streamFrame s port f m = fileAsdu s port f.stamp a (m.counted s) := by
  obtain ⟨hasdus, hcount, hid, hconf, hlen, hsmp, hrate, hsim, hno, hhmac, henc⟩ := h
  have hauth : (m.setStreamRt s { m.streamRt s with confOk := true }).authVerdict s f = .accepted :=
    Mod.authVerdict_accepted hno hhmac henc
  simp [streamFrame, hasdus, hcount, hid, hconf, hlen, hsmp, Nat.not_le.mpr hrate, hsim, hauth, hno, hrun, Mod.each, Mod.counted]

/-! ## The filing of a new sub-sample (R53) -/

/-- Stream s, at base rate, has the open and free place of filing tick kf for sample count n. -/
structure Mod.FilesAt (m : Mod) (s n kf : Nat) : Prop where
  baseRate : m.on 0x401007 s = false
  filingTick : m.filingTick n = some kf
  notLate : m.k < kf + m.delay
  notEarly : kf ≤ m.k + 8
  free : Table.find? m.ingest.filings (filingKey s kf 0) = none

/-- What is filed of an ASDU with sample count n. -/
def asduFiling (port stamp n : Nat) (a : Asdu) : Filing :=
  { smpCnt := n, sync := syncClass (a.smpSynch.getD 0), vals := a.seq, port := port, stamp := stamp }

/-- The module with a filing at a place. -/
def Mod.putFiling (m : Mod) (key : Nat) (x : Filing) : Mod :=
  { m with ingest := { m.ingest with filings := Table.put m.ingest.filings key x } }

theorem fileAsdu_new {m : Mod} {s n kf : Nat} {a : Asdu} (h : m.FilesAt s n kf) (hsmp : a.smpCnt = some n) (hgm : a.gmIdentity = none)
    (port stamp : Nat) : fileAsdu s port stamp a m = m.putFiling (filingKey s kf 0) (asduFiling port stamp n a) := by
  obtain ⟨hbase, htick, hlate, hearly, hfree⟩ := h
  simp [fileAsdu, hsmp, hbase, htick, Nat.not_le.mpr hlate, Nat.not_lt.mpr hearly, hfree, hgm, Mod.putFiling, asduFiling]

/-! ## What counting a frame leaves as it was -/

theorem Mod.val_counted_ne {m : Mod} (hg : m.Good) (s : Nat) {o i : Nat} (hk : objKey o i ≠ objKey 0x401020 s) :
    (m.counted s).val o i = m.val o i :=
  Mod.val_setVal_ne (m := m.setStreamRt s _) hg.dict _ hk

theorem Mod.num_counted_ne {m : Mod} (hg : m.Good) (s : Nat) {o i : Nat} (hk : objKey o i ≠ objKey 0x401020 s) :
    (m.counted s).num o i = m.num o i := by
  rw [Mod.num, Mod.val_counted_ne hg s hk, Mod.num]

/-- The settings of the tick stand before every stream's objects in the store. -/
theorem Mod.num_counted_of_lt {m : Mod} (hg : m.Good) (s : Nat) {o : Nat} (ho : o < 0x401020) : (m.counted s).num o = m.num o :=
  Mod.num_counted_ne hg s (by unfold objKey; omega)

theorem Mod.filingTick_counted {m : Mod} (hg : m.Good) (s n : Nat) : (m.counted s).filingTick n = m.filingTick n := by
  have hhz : (m.counted s).hz = m.hz := by simp only [Mod.hz, Mod.num_counted_of_lt hg s (show 0x200001 < 0x401020 by decide)]
  simp only [Mod.filingTick, hhz]
  rfl

/-- Counting the frame leaves the place of its sub-sample open and free. -/
theorem Mod.FilesAt.counted {m : Mod} {s n kf : Nat} (hg : m.Good) (h : m.FilesAt s n kf) : (m.counted s).FilesAt s n kf where
  baseRate := by rw [Mod.on, Mod.num_counted_ne hg s (objKey_ne_same (by decide) s)]; exact h.baseRate
  filingTick := (Mod.filingTick_counted hg s n).trans h.filingTick
  notLate := by rw [Mod.delay, Mod.num_counted_of_lt hg s (by decide)]; exact h.notLate
  notEarly := h.notEarly
  free := h.free

/-- A frame that matches and passes is counted, and its sub-sample, being new, filed. -/
theorem ingestFrame_files {m : Mod} {f : SvFrame} {s n kf : Nat} {a : Asdu} (hin : svOutside f (m.num 0x400005) = false)
    (hform : asduMalformed a = false) (hs : m.streamOf f = some s) (hacc : m.Accepts s f a n) (hrun : m.tick.running = true)
    (hfile : m.FilesAt s n kf) (hgm : a.gmIdentity = none) (hg : m.Good) (port : Nat) :
    ingestFrame f port false m = (m.counted s).putFiling (filingKey s kf 0) (asduFiling port f.stamp n a) := by
  have hasdus : f.asdus ≠ [] := by simp [hacc.asdus]
  have hforms : f.asdus.any asduMalformed = false := by simp [hacc.asdus, hform]
  rw [ingestFrame_matched hin hasdus hforms hs, streamFrame_accepted hacc hrun, fileAsdu_new (hfile.counted hg) hacc.smpCnt hgm]

theorem Mod.streamRt_counted (m : Mod) (s : Nat) : (m.counted s).streamRt s = { m.streamRt s with confOk := true } := by
  refine Table.get_set_of_ne m.ingest.streams {} s ?_
  intro heq
  exact Bool.noConfusion (congrArg StreamRt.confOk heq)

/-- Settles O20: the three ends before a match, and the filing of a sub-sample, read back from the counted module. -/
theorem framesAreFiled : Obligations.FramesAreFiled := by
  unfold Obligations.FramesAreFiled
  refine ⟨?_, ?_, ?_, ?_⟩
  · intro s f port hr
    exact next_awake hr (ingestFrame_overload f port s.mod)
  · intro s f port hr h
    exact next_awake hr (ingestFrame_malformed h port)
  · intro s f port hr hin hasdus hform hnone
    exact next_awake hr (ingestFrame_unmatched hin hasdus hform hnone port)
  · intro s f port strm n kf a hr hin hasdus hform hs hcount hid hconf hlen hsmp hrate hsim hno hhmac henc hrun hbase htick hlate hearly
      hfree hgm hg
    have hacc : s.mod.Accepts strm f a n := ⟨hasdus, hcount, hid, hconf, hlen, hsmp, hrate, hsim, hno, hhmac, henc⟩
    have hfile : s.mod.FilesAt strm n kf := ⟨hbase, htick, hlate, hearly, hfree⟩
    refine ⟨_, next_awake hr (ingestFrame_files hin hform hs hacc hrun hfile hgm hg port), ?_, ?_, ?_, ?_, rfl, rfl, rfl⟩
    · exact Table.find?_put ..
    · exact Mod.num_bump (m := s.mod.setStreamRt strm _) hg.dict 0x401020 strm 1
    · exact congrArg StreamRt.confOk (s.mod.streamRt_counted strm)
    · intro o i hk
      exact Mod.val_counted_ne hg strm hk

end Sys2Proof.Machine
end

section
namespace Sys2Proof.Machine

/-! ## The states of a stream (R60) -/

theorem streamRunning_after_three {m : Mod} {x : Nat} (hst : m.num 0x401015 x = 1 ∨ m.num 0x401015 x = 3)
    (hthree : 3 ≤ (m.streamRt x).present) :
    streamRunning x m = ((m.set 0x401015 2 x).setBitAt (0x81000 + x) true).raise 0x0711 [x, m.k] := if_pos ⟨hst, hthree⟩

theorem streamRunning_otherwise {m : Mod} {x : Nat}
    (h : (m.streamRt x).present < 3 ∨ m.num 0x401015 x = 0 ∨ m.num 0x401015 x = 2) : streamRunning x m = m := by
  have hnot : ¬ ((m.num 0x401015 x = 1 ∨ m.num 0x401015 x = 3) ∧ 3 ≤ (m.streamRt x).present) := by omega
  exact if_neg hnot

theorem streamLost_after_loss {m : Mod} {x : Nat} (hst : m.num 0x401015 x = 2) (hloss : m.num 0x401014 x ≤ (m.streamRt x).absent) :
    streamLost x m = ((m.set 0x401015 3 x).setBitAt (0x81000 + x) false).raise 0x0710 [x, m.k] := if_pos ⟨hst, hloss⟩

theorem streamLost_otherwise {m : Mod} {x : Nat} (h : (m.streamRt x).absent < m.num 0x401014 x ∨ m.num 0x401015 x ≠ 2) :
    streamLost x m = m := by
  have hnot : ¬ (m.num 0x401015 x = 2 ∧ m.num 0x401014 x ≤ (m.streamRt x).absent) := by omega
  exact if_neg hnot

/-! ## A held value that is too old (R59) -/

theorem substHoldExpiry_expires {m : Mod} {c : Nat} {d : Delivered} (hd : Table.find? m.ingest.deliv c = some d)
    (hmode : m.num 0x402003 c = 0) (hvalid : (Table.get m.ingest.held {} c).valid = true)
    (hold : m.num 0x402004 c < d.kf - (Table.get m.ingest.held {} c).kg) :
    substHoldExpiry c m = { m with ingest := { m.ingest with
      deliv := Table.put m.ingest.deliv c { d with subs := d.subs.map (fun e => if flagBad e.2 then (0, e.2) else e) } } } := by
  simp only [substHoldExpiry, hd]
  exact if_pos ⟨hmode, hvalid, hold⟩

/-- Settles O21: the equation of each change of state in and out of its condition, and of the expiry of a held value. -/
theorem streamStates : Obligations.StreamStates := by
  unfold Obligations.StreamStates
  refine ⟨?_, ?_, ?_, ?_, ?_⟩
  · intro s x hr hst hthree
    exact next_awake hr (streamRunning_after_three hst hthree)
  · intro s x hr hst hloss
    exact next_awake hr (streamLost_after_loss hst hloss)
  · intro s x h
    exact next_awake_self (streamRunning_otherwise h)
  · intro s x h
    exact next_awake_self (streamLost_otherwise h)
  · intro s c d hr hd hmode hvalid hold
    exact next_awake hr (substHoldExpiry_expires hd hmode hvalid hold)

end Sys2Proof.Machine
end

section
namespace Sys2Proof.Machine

/-! ## A user profile's objects (R80, R97) -/

theorem profileGuard_user {i : Nat} (h4 : 4 ≤ i) (h64 : i < 64) : profileGuard i = 0 := by
  simp [profileGuard, Nat.not_lt.mpr h4, h64]

theorem profileGuard_preset {i : Nat} (hi : i < 4) : profileGuard i = abReadOnly := if_pos hi

/-! ## Writes to the inactive bank (R88) -/

theorem profileTapsWrite_preset {i : Nat} (hi : i < 4) (p : Path) (n : Nat) (m : Mod) :
    profileTapsWrite p i n m = m.report p abReadOnly := by
  simp [profileTapsWrite, profileGuard_preset hi, abReadOnly]

theorem profileTapsWrite_swap_pending {i : Nat} (h4 : 4 ≤ i) (h64 : i < 64) {m : Mod} (hsw : m.profileSwapPending i = true)
    (p : Path) (n : Nat) : profileTapsWrite p i n m = m.report p abState := by
  simp [profileTapsWrite, profileGuard_user h4 h64, hsw]

theorem profileTapsWrite_loads {i : Nat} (h4 : 4 ≤ i) (h64 : i < 64) {m : Mod} (hsw : m.profileSwapPending i = false)
    (p : Path) (n : Nat) :
    profileTapsWrite p i n m = (m.writeBank i { m.inactiveBank i with taps := n, gain := [] }).report p 0 := by
  simp [profileTapsWrite, profileGuard_user h4 h64, hsw]

theorem profileCoeffsWrite_loads {i : Nat} (h4 : 4 ≤ i) (h64 : i < 64) {m : Mod} (hsw : m.profileSwapPending i = false)
    {w : List Byte} (hlen : w.length ≤ 576) (p : Path) :
    profileCoeffsWrite p i w m = (m.writeBank i { m.inactiveBank i with words := w, gain := [] }).report p 0 := by
  simp [profileCoeffsWrite, profileGuard_user h4 h64, Nat.not_lt.mpr hlen, hsw]

/-! ## The check of a bank (R89, R103) -/

theorem profileCheckWrite_starts {i : Nat} (h4 : 4 ≤ i) (h64 : i < 64) (p : Path) (m : Mod) :
    profileCheckWrite p i 1 m = (m.setProfile i { m.profile i with checkPending := true }).report p 0 := by
  simp [profileCheckWrite, profileGuard_user h4 h64]

/-- CHECK_RESULT of a bank with failures `r`: PASS is set where none but SUM is (R89). -/
def bankCheckResult (r : Nat) : Nat := r + if r % 16 = 0 then 2 ^ 31 else 0

/-- A module whose check of profile i's inactive bank has ended, the bank with its gain table, before CHECK_RESULT shows it. -/
def Mod.bankChecked (m : Mod) (i : Nat) : Mod :=
  let ended := m.setProfile i { m.profile i with checkPending := false }
  ended.setInactiveBank i (ended.withGain i (m.inactiveBank i))

theorem profileCheckDone_of_pending {m : Mod} {i : Nat} (hp : (m.profile i).checkPending = true) :
    profileCheckDone i m =
      (m.bankChecked i).set 0x44200B (bankCheckResult (bankCheck (m.inactiveBank i) (m.num 0x442003 i))) i := by
  simp [profileCheckDone, hp, Mod.bankChecked, bankCheckResult]

theorem Mod.bankChecked_good {m : Mod} (hg : m.Good) (i : Nat) : (m.bankChecked i).Good :=
  Mod.setInactiveBank_good (Mod.setProfile_good hg ..) ..

/-- The banks of a profile are no objects: replacing one leaves the store, the memory and the events. -/
theorem Mod.setInactiveBank_frame (m : Mod) (i : Nat) (b : Bank) :
    (m.setInactiveBank i b).dict = m.dict ∧ (m.setInactiveBank i b).mem = m.mem ∧ (m.setInactiveBank i b).raised = m.raised := by
  unfold Mod.setInactiveBank
  split <;> exact ⟨rfl, rfl, rfl⟩

theorem Mod.bankChecked_frame (m : Mod) (i : Nat) :
    (m.bankChecked i).dict = m.dict ∧ (m.bankChecked i).mem = m.mem ∧ (m.bankChecked i).raised = m.raised :=
  Mod.setInactiveBank_frame ..

theorem Mod.val_bankChecked (m : Mod) (i o j : Nat) : (m.bankChecked i).val o j = m.val o j := by
  simp only [Mod.val, (m.bankChecked_frame i).1]

/-! ## Exchange while the tick is stopped, and storage (R92, R97) -/

theorem profileSwapNow_stopped {i : Nat} (h4 : 4 ≤ i) (h64 : i < 64) {m : Mod} (hst : m.stopped = true)
    (hpass : bit (m.num 0x44200B i) 31 = true) (p : Path) :
    profileSwapNow p i 1 m = (m.swapProfile i m.k).report p 0 := by
  simp [profileSwapNow, profileGuard_user h4 h64, hst, hpass]

theorem profileSwapNow_running {i : Nat} (h4 : 4 ≤ i) (h64 : i < 64) {m : Mod} (hst : m.stopped = false) (p : Path) :
    profileSwapNow p i 1 m = m.report p abState := by
  simp [profileSwapNow, profileGuard_user h4 h64, hst]

theorem profileStore_one {i : Nat} (h4 : 4 ≤ i) (h64 : i < 64) (p : Path) (m : Mod) :
    profileStore p i 1 m =
      ({ m with nv := { m.nv with profiles := Table.set m.nv.profiles {} i (storedBank (m.activeBank i)) } } : Mod).report p 0 := by
  simp [profileStore, profileGuard_user h4 h64]

/-- Settles O22: the effect of each write, and the completed check with CHECK_RESULT read back from the store. -/
theorem profilesAreLoadedAndChecked : Obligations.ProfilesAreLoadedAndChecked := by
  unfold Obligations.ProfilesAreLoadedAndChecked
  refine ⟨?_, ?_, ?_, ?_, ?_, ?_, ?_, ?_, ?_⟩
  · intro s p i n hs h4 h64 hsw
    exact next_gate hs (profileTapsWrite_loads h4 h64 hsw p n)
  · intro s p i w hs h4 h64 hlen hsw
    exact next_gate hs (profileCoeffsWrite_loads h4 h64 hsw hlen p)
  · intro s p i n hs h4 h64 hsw
    exact next_gate hs (profileTapsWrite_swap_pending h4 h64 hsw p n)
  · intro s p i n hs hi
    exact next_gate hs (profileTapsWrite_preset hi p n s.mod)
  · intro s p i hs h4 h64
    exact next_gate hs (profileCheckWrite_starts h4 h64 p s.mod)
  · intro s i hr hg hp
    obtain ⟨-, hmem, hraised⟩ := s.mod.bankChecked_frame i
    have hdict := (Mod.bankChecked_good hg i).dict
    refine ⟨_, next_awake hr (profileCheckDone_of_pending hp), Mod.num_set hdict .., ?_, hmem, hraised⟩
    intro o j hk
    exact (Mod.val_setVal_ne hdict _ hk).trans (Mod.val_bankChecked ..)
  · intro s p i hs h4 h64 hst hpass
    exact next_gate hs (profileSwapNow_stopped h4 h64 hst hpass p)
  · intro s p i hs h4 h64 hst
    exact next_gate hs (profileSwapNow_running h4 h64 hst p)
  · intro s p i hs h4 h64
    exact next_gate hs (profileStore_one h4 h64 p s.mod)

end Sys2Proof.Machine
end

section
namespace Sys2Proof.Machine

/-! ## The conversion to working samples (R71) -/

theorem sat24_eq_clamp (x : Int) : sat24 x = max (-8388608) (min 8388607 x) := by
  simp only [sat24, satInt]
  split
  · omega
  · split <;> omega

/-- sat24 limits exactly the values outside its range. -/
theorem sat24_ne (x : Int) : (sat24 x != x) = decide (x < -8388608 ∨ 8388607 < x) := by
  rw [Bool.eq_iff_iff, bne_iff_ne, decide_eq_true_iff, sat24_eq_clamp]
  omega

/-- The division that rounds is the arithmetic shift of R71. -/
theorem toWork_eq {shift v : Nat} {y : Int} (hy : y = (toInt 32 v + (if shift = 0 then 0 else 2 ^ (shift - 1))) >>> shift) :
    toWork shift v = (sat24 y, sat24 y != y) := by
  simp [hy, toWork, Int.shiftRight_eq_div_pow]

/-! ## SHIFT, its default and its range (R9, R71) -/

theorem defaultAt_objKey (o : Nat) {i : Nat} (hi : i < 65536) : defaultAt (objKey o i) = objDefault o i := by
  have hobj : objKey o i / 65536 = o := by simp only [objKey]; omega
  have hinst : objKey o i % 65536 = i := by simp only [objKey]; omega
  rw [defaultAt, hobj, hinst]

/-- Right after reset every object reads its default (R9). -/
theorem State.reset_val (o : Nat) {i : Nat} (hi : i < 65536) : State.reset.mod.val o i = objDefault o i := by
  rw [← defaultAt_objKey o hi]
  rfl

/-- The dictionary's row of SHIFT (R97). -/
def shiftRow : ObjRow := n1 0x441002 0 16383 .u8 .rwt 3 0 8

theorem objRow?_shift : objRow? 0x441002 = some shiftRow := rfl

theorem objDefault_shift (c : Nat) : objDefault 0x441002 c = .num 3 := by
  simp [objDefault, objDefaultAt, objRow?_shift, shiftRow, n1, n0]

theorem readValue_shift (m : Mod) (c : Nat) {v : Nat} (hv : v < 256) :
    (m.readValue shiftRow 0x441002 c [BitVec.ofNat 8 v]).1 = 0 ↔ v ≤ 8 := by
  have hnum : leNat [BitVec.ofNat 8 v] = v := by simp [leNat, Nat.mod_eq_of_lt hv]
  have hkept : keptBits 0x441002 v = v := by simp [keptBits]
  have hok : m.numOk 0x441002 c v = true := by simp [Mod.numOk]
  have hread : m.readValue shiftRow 0x441002 c [BitVec.ofNat 8 v] =
      if 8 < v then (abValue, .num 0) else (0, .num v) := by
    simp [Mod.readValue, lengthCode, shiftRow, n1, n0, tySize, hnum, hkept, hok]
  rw [hread]
  split
  · simpa [abValue] using ‹8 < v›
  · simpa using ‹¬ 8 < v›

/-! ## SAT in the history and in the record (R73, R79, R84) -/

/-- The newest entry of a channel's history after a sub-sample. -/
theorem chainPush_newest (shift alpha : Nat) {depth : Nat} (hdepth : 0 < depth) (dcb frozen : Bool) (st : ChanSt) (e : Nat × Nat) :
    (chainPush shift alpha depth dcb frozen st e).hist.getD 0 {} =
      { d := (dcStep dcb (frozen || flagBad e.2) alpha (toWork shift e.1).1 st.m).1, flags := e.2,
        sat := (toWork shift e.1).2 || (dcStep dcb (frozen || flagBad e.2) alpha (toWork shift e.1).1 st.m).2.2 } := by
  obtain ⟨k, rfl⟩ := Nat.exists_eq_add_one.mpr hdepth
  rfl

/-- An output over a window whose newest entry is marked has SAT set. -/
theorem chainOutput_sat_of_newest {n : Nat} (hn : 0 < n) {st : ChanSt} (hsat : (st.hist.getD 0 {}).sat = true) (h : List Int)
    (kind shift scale profile bank smp kf : Nat) : (chainOutput n h kind shift scale profile bank smp kf st).2 = true := by
  obtain ⟨k, rfl⟩ := Nat.exists_eq_add_one.mpr hn
  have hwin : (st.hist.take (k + 1)).any (·.sat) = true := by
    cases hist : st.hist with
    | nil => simp [hist] at hsat
    | cons x t =>
      have hx : x.sat = true := by simpa [hist] using hsat
      simp [hx]
  simp only [chainOutput, hwin, Bool.or_true]

/-- The fields of a status word below bit 7 hold less than 128 together. -/
theorem statusWord_bit7 {bank : Nat} (hbank : bank ≤ 1) (flags : Nat) (sat frozen filling : Bool) :
    bit (flags * 256 + 128 * b2n sat + 64 * b2n frozen + 32 * b2n filling + 16 * bank) 7 = sat := by
  have hfrozen := b2n_le_one frozen
  have hfilling := b2n_le_one filling
  have hdiv : (flags * 256 + 128 * b2n sat + 64 * b2n frozen + 32 * b2n filling + 16 * bank) / 2 ^ 7 = 2 * flags + b2n sat := by omega
  rw [bit, hdiv]
  cases sat <;> simp [b2n]

/-- Bit 7 of the record's word 3 is SAT (R84). -/
theorem chainOutput_bit7 {bank : Nat} (hbank : bank ≤ 1) (n : Nat) (h : List Int) (kind shift scale profile smp kf : Nat) (st : ChanSt) :
    bit ((chainOutput n h kind shift scale profile bank smp kf st).1.getD 3 0) 7 =
      (chainOutput n h kind shift scale profile bank smp kf st).2 :=
  statusWord_bit7 hbank ..

/-- Settles O12: the clamp of sat24, the row of SHIFT, and SAT carried from the newest entry of the history to the record. -/
theorem workingSamples : Obligations.WorkingSamples := by
  unfold Obligations.WorkingSamples
  refine ⟨?_, ?_, ?_, ?_⟩
  · intro shift v y _ _ hy
    rw [toWork_eq hy]
    exact ⟨sat24_eq_clamp _, sat24_ne _⟩
  · intro c hc
    rw [Mod.num, State.reset_val 0x441002 (by omega), objDefault_shift]
  · intro m r c v hr hv
    obtain rfl := Option.some.inj (objRow?_shift.symm.trans hr)
    exact readValue_shift m c hv
  · rintro shift alpha depth dcb frozen st e n h kind scale profile bank smp kf hdepth hn hbank y rfl
    have hnew := chainPush_newest shift alpha hdepth dcb frozen st e
    refine ⟨congrArg HistEntry.d hnew, fun hlimited => ?_⟩
    have hmarked : ((chainPush shift alpha depth dcb frozen st e).hist.getD 0 {}).sat = true := by
      rw [hnew, hlimited, Bool.true_or]
    have hout := chainOutput_sat_of_newest hn hmarked h kind shift scale profile bank smp kf
    exact ⟨hmarked, hout, (chainOutput_bit7 hbank ..).trans hout⟩

end Sys2Proof.Machine
end

section
namespace Sys2Proof.Machine

/-! ## What a change of state leaves as it was, and what is read (R10, R111) -/

/-- The objects of the groups stand after RATE in the store, so a write to one leaves the tick rate. -/
theorem Mod.hz_set {m : Mod} (hg : m.Good) {o : Nat} (ho : 0x200001 < o) (n i : Nat) : (m.set o n i).hz = m.hz := by
  have hrate : (m.set o n i).num 0x200001 = m.num 0x200001 := Mod.num_set_ne hg.dict n (by unfold objKey; omega)
  rw [Mod.hz, hrate, Mod.hz]

/-- Modules with equal stores read the same. -/
theorem Mod.val_of_dict {m n : Mod} (h : m.dict = n.dict) (o i : Nat) : m.val o i = n.val o i := by rw [Mod.val, Mod.val, h]

theorem Mod.num_of_dict {m n : Mod} (h : m.dict = n.dict) (o i : Nat) : m.num o i = n.num o i := by
  rw [Mod.num, Mod.num, Mod.val_of_dict h]

/-! ## The transitions of a group, each where its condition holds (R110, R111, R113) -/

theorem groupLocked_after_48 {m : Mod} {v : Nat} (hf : m.inPhase .F = true) (hst : m.num 0x45200A v = 1)
    (hrun : 48 ≤ (m.group v).lockRun) (hg : m.Good) :
    groupLocked v m =
      ((((m.set 0x45200A 2 v).setGroup v { m.group v with lockRun := 0, errRun := 0, lockedTicks := 0 }).setBitAt (0x82000 + v)
        true).writeFreq v).raise 0x0730 [v, freqOf m.hz (m.group v).delta, m.k] := by
  rw [← Mod.hz_set hg (show 0x200001 < 0x45200A by decide) 2 v]
  exact if_pos ⟨hf, hst, hrun⟩

theorem lockLost_after_8 {m : Mod} {v : Nat} (hf : m.inPhase .F = true) (hst : m.num 0x45200A v = 2) (hrun : 8 ≤ (m.group v).errRun) :
    lockLost v m =
      ((((((m.set 0x45200A 1 v).setGroup v
        { m.group v with errRun := 0, lockRun := 0, lockedTicks := 0, rocofValid := false, rocof := 0 }).unlockBits v).set
          0x45200C 0 v).writeFreq v).bump 0x45200F v).raise 0x0731 [v, ofInt 32 (m.group v).eps, m.k] :=
  if_pos ⟨hf, hst, hrun⟩

theorem signalLostHold_after_los {m : Mod} {v : Nat} (hf : m.inPhase .F = true) (hst : m.num 0x45200A v = 1 ∨ m.num 0x45200A v = 2)
    (hlos : m.num 0x452006 v ≤ (m.group v).absentRun) (hg : m.Good) :
    signalLostHold v m =
      (((((m.set 0x45200A 3 v).setGroup v
        { m.group v with errRun := 0, lockRun := 0, holdTicks := 0, lockedTicks := 0, rocofValid := false, rocof := 0 }).unlockBits v).set
          0x45200C 0 v).writeFreq v).raise 0x0732 [v, freqOf m.hz (m.group v).delta, m.k] := by
  rw [← Mod.hz_set hg (show 0x200001 < 0x45200A by decide) 3 v]
  exact if_pos ⟨hf, hst, hlos⟩

theorem holdReacquire_after_three {m : Mod} {v : Nat} (hf : m.inPhase .F = true) (hst : m.num 0x45200A v = 3)
    (hthree : 3 ≤ (m.group v).presentRun) : holdReacquire v m = m.reacquire v := if_pos ⟨hf, hst, hthree⟩

theorem fallbackReacquire_after_three {m : Mod} {v : Nat} (hf : m.inPhase .F = true) (hst : m.num 0x45200A v = 4)
    (hthree : 3 ≤ (m.group v).presentRun) : fallbackReacquire v m = m.reacquire v := if_pos ⟨hf, hst, hthree⟩

theorem fallbackEntered_after_limit {m : Mod} {v : Nat} (hf : m.inPhase .F = true) (hst : m.num 0x45200A v = 3)
    (hlimit : m.num 0x452007 v ≤ (m.group v).holdTicks) (hfew : (m.group v).presentRun < 3) :
    fallbackEntered v m = ((m.set 0x45200A 4 v).writeFreq v).raise 0x0733 [v, m.num 0x452008 v, m.k] :=
  if_pos ⟨hf, hst, hlimit, hfew⟩

theorem freqLimitRun_at_48 {m : Mod} {v : Nat} (hf : m.inPhase .F = true) (hrun : (m.group v).limitRun = 48) :
    freqLimitRun v m =
      (m.setGroup v { m.group v with limitRun := 49 }).raise 0x0734
        [v, Config.eventField 0x0734 (if (m.group v).limitLow then 40 else 70), m.k] :=
  if_pos ⟨hf, hrun⟩

/-- ROCOF of group v over its window (R113). -/
def Mod.rocofNow (m : Mod) (v : Nat) : Nat :=
  rocofOf m.hz (m.num 0x452009 v) (m.group v).delta (deltaAgo (m.group v) (m.num 0x452009 v))

theorem rocofBecomesValid_after_window {m : Mod} {v : Nat} (hf : m.inPhase .F = true) (hst : m.num 0x45200A v = 2)
    (hlocked : m.num 0x452009 v + 1 ≤ (m.group v).lockedTicks) (hnew : (m.group v).rocofValid = false) :
    rocofBecomesValid v m =
      (((m.setGroup v { m.group v with rocofValid := true, rocof := m.rocofNow v }).setBitAt (0x82100 + v) true).set
        0x45200C (m.rocofNow v) v).writeFreq v :=
  if_pos ⟨hf, hst, hlocked, by simp [hnew]⟩

/-! ## The objects of a group that loses its lock -/

/-- The writes to the store when group v loses its lock: ACQUIRE, ROCOF 0, one more loss counted (R111, R113). -/
def Mod.lockLostObjs (m : Mod) (v : Nat) : Mod := ((m.set 0x45200A 1 v).set 0x45200C 0 v).bump 0x45200F v

/-- Losing the lock writes those objects and raises event 0x0731; the memory stays. -/
theorem lockLost_frame {m : Mod} {v : Nat} (hf : m.inPhase .F = true) (hst : m.num 0x45200A v = 2) (hrun : 8 ≤ (m.group v).errRun) :
    (lockLost v m).dict = (m.lockLostObjs v).dict ∧ (lockLost v m).mem = m.mem ∧
      (lockLost v m).raised = m.raised ++ [{ code := 0x0731, payload := [v, ofInt 32 (m.group v).eps, m.k] }] := by
  rw [lockLost_after_8 hf hst hrun]
  exact ⟨rfl, rfl, rfl⟩

/-- The store keeps its canonical form after the first and after the second of those writes. -/
theorem Mod.lockLostObjs_wf {m : Mod} (hg : m.Good) (v : Nat) :
    dictWf (m.set 0x45200A 1 v).dict = true ∧ dictWf ((m.set 0x45200A 1 v).set 0x45200C 0 v).dict = true :=
  have hacquire : (m.set 0x45200A 1 v).Good := Mod.set_good hg ..
  ⟨hacquire.dict, (Mod.set_good hacquire ..).dict⟩

theorem Mod.lockLostObjs_state {m : Mod} (hg : m.Good) (v : Nat) : (m.lockLostObjs v).num 0x45200A v = 1 := by
  obtain ⟨hwf, hwf'⟩ := Mod.lockLostObjs_wf hg v
  calc (m.lockLostObjs v).num 0x45200A v
    _ = ((m.set 0x45200A 1 v).set 0x45200C 0 v).num 0x45200A v := Mod.num_set_ne hwf' _ (objKey_ne_same (by decide) v)
    _ = (m.set 0x45200A 1 v).num 0x45200A v := Mod.num_set_ne hwf _ (objKey_ne_same (by decide) v)
    _ = 1 := Mod.num_set hg.dict ..

theorem Mod.lockLostObjs_rocof {m : Mod} (hg : m.Good) (v : Nat) : (m.lockLostObjs v).num 0x45200C v = 0 := by
  obtain ⟨hwf, hwf'⟩ := Mod.lockLostObjs_wf hg v
  exact (Mod.num_set_ne hwf' _ (objKey_ne_same (by decide) v)).trans (Mod.num_set hwf ..)

/-- Neither write before the count reaches the counter of losses. -/
theorem Mod.lockLostObjs_losses {m : Mod} (hg : m.Good) (v : Nat) :
    (m.lockLostObjs v).num 0x45200F v = min (m.num 0x45200F v + 1) (objMax 0x45200F) := by
  obtain ⟨hwf, hwf'⟩ := Mod.lockLostObjs_wf hg v
  rw [Mod.lockLostObjs, Mod.num_bump hwf', Mod.num_set_ne hwf _ (objKey_ne_same (by decide) v),
    Mod.num_set_ne hg.dict _ (objKey_ne_same (by decide) v)]

theorem Mod.val_lockLostObjs_ne {m : Mod} (hg : m.Good) {v o i : Nat} (hstate : objKey o i ≠ objKey 0x45200A v)
    (hrocof : objKey o i ≠ objKey 0x45200C v) (hlosses : objKey o i ≠ objKey 0x45200F v) :
    (m.lockLostObjs v).val o i = m.val o i := by
  obtain ⟨hwf, hwf'⟩ := Mod.lockLostObjs_wf hg v
  calc (m.lockLostObjs v).val o i
    _ = ((m.set 0x45200A 1 v).set 0x45200C 0 v).val o i := Mod.val_setVal_ne hwf' _ hlosses
    _ = (m.set 0x45200A 1 v).val o i := Mod.val_setVal_ne hwf _ hrocof
    _ = m.val o i := Mod.val_setVal_ne hg.dict _ hstate

/-- Settles O24: the equation of each transition where its condition holds, and the objects read back where a lock is lost or ROCOF is new. -/
theorem groupStates : Obligations.GroupStates := by
  unfold Obligations.GroupStates
  refine ⟨?_, ?_, ?_, ?_, ?_, ?_, ?_, ?_⟩
  · intro s v hr hf hst hrun hg
    exact next_awake hr (groupLocked_after_48 hf hst hrun hg)
  · intro s v hr hf hst hrun hg
    obtain ⟨hdict, hmem, hraised⟩ := lockLost_frame hf hst hrun
    refine ⟨_, next_awake hr rfl, ?_, ?_, ?_, hraised, ?_, hmem⟩
    · exact (Mod.num_of_dict hdict ..).trans (Mod.lockLostObjs_state hg v)
    · exact (Mod.num_of_dict hdict ..).trans (Mod.lockLostObjs_rocof hg v)
    · exact (Mod.num_of_dict hdict ..).trans (Mod.lockLostObjs_losses hg v)
    · intro o i hstate hrocof hlosses
      exact (Mod.val_of_dict hdict ..).trans (Mod.val_lockLostObjs_ne hg hstate hrocof hlosses)
  · intro s v hr hf hst hlos hg
    exact next_awake hr (signalLostHold_after_los hf hst hlos hg)
  · intro s v hr hf hst hthree
    exact next_awake hr (holdReacquire_after_three hf hst hthree)
  · intro s v hr hf hst hlimit hfew
    exact next_awake hr (fallbackEntered_after_limit hf hst hlimit hfew)
  · intro s v hr hf hst hthree
    exact next_awake hr (fallbackReacquire_after_three hf hst hthree)
  · intro s v hr hf hrun
    exact next_awake hr (freqLimitRun_at_48 hf hrun)
  · intro s v hr hf hst hlocked hnew hg
    refine ⟨_, next_awake hr (rocofBecomesValid_after_window hf hst hlocked hnew), ?_, ?_, rfl, rfl⟩
    · exact Mod.num_set hg.dict 0x45200C (s.mod.rocofNow v) v
    · intro o i hk
      exact Mod.val_setVal_ne hg.dict _ hk

end Sys2Proof.Machine
end

section
namespace Sys2Proof.Machine

/-! ## The next instruction of an engine (R154, R162) -/

/-- The instruction at the engine's index has its effect on the pass that is one instruction further. -/
theorem Mod.instr_next {m : Mod} {g op arg : Nat} (h : m.atInstr g op arg = true) (f : PassSt → Mod → Mod) :
    m.instr g op arg f = f (m.nextRun g) m := if_pos h

theorem Mod.instr_other {m : Mod} {g op arg : Nat} (h : m.atInstr g op arg = false) (f : PassSt → Mod → Mod) :
    m.instr g op arg f = m := if_neg (ne_true_of_eq_false h)

/-- A command that is the engine's next instruction leaves what its effect leaves. -/
theorem next_instr {s : State} {g op arg : Nat} {f : PassSt → Mod → Mod} {m : Mod} (h : s.mod.At g op arg)
    (hf : f (s.mod.nextRun g) s.mod = m) :
    (.next { s with mod := s.mod.awake (fun n => n.instr g op arg f) } : Host.Outcome State Fault Refusal) = .next { s with mod := m } := by
  obtain ⟨hr, hat⟩ := h
  exact next_awake hr ((Mod.instr_next hat f).trans hf)

/-! ## Bits loaded and written (R158, R159, R164) -/

/-- An engine reads back the bit that it has written in its pass. -/
theorem Mod.engineBit_of_written {m : Mod} {g a v : Nat} (h : Table.find? (m.engine g).run.writes a = some v) :
    m.engineBit g a = (v == 1) := by
  rw [Mod.engineBit, h]

/-- Settles O26: each instruction at its index, the bit the pass has written, and LD out of its place. -/
theorem logicLoadsBits : Obligations.LogicLoadsBits := by
  unfold Obligations.LogicLoadsBits
  refine ⟨?ld, ?ldn, ?and, ?andn, ?or, ?orn, ?xor, ?xorn, ?bit, ?other⟩
  case bit =>
    intro s g a v hv
    exact Mod.engineBit_of_written hv
  case other =>
    intro s g a h
    exact next_awake_self (Mod.instr_other h _)
  all_goals
    intro s g a h
    exact next_instr h rfl

/-- Settles O27: SET and RST by the value of A, the others without a condition. -/
theorem logicWritesBits : Obligations.LogicWritesBits := by
  unfold Obligations.LogicWritesBits
  refine ⟨?st, ?stn, ?set, ?setIdle, ?rst, ?rstIdle, ?redge, ?fedge⟩
  case set | rst =>
    intro s g a h ha
    exact next_instr h (congrArg (s.mod.setRun g) (if_pos ha))
  case setIdle | rstIdle =>
    intro s g a h ha
    exact next_instr h (congrArg (s.mod.setRun g) (if_neg (ne_true_of_eq_false ha)))
  case st | stn | redge | fedge =>
    intro s g a h
    exact next_instr h rfl

/-! ## Branches, calls and the end of a pass (R164) -/

theorem PassSt.popBranch_and {p : PassSt} {sv : Bool} {l : List (Bool × Bool)} (h : p.branches = (sv, true) :: l) :
    p.popBranch = { p with branches := l, a := sv && p.a } := by
  simp [PassSt.popBranch, h]

theorem PassSt.popBranch_or {p : PassSt} {sv : Bool} {l : List (Bool × Bool)} (h : p.branches = (sv, false) :: l) :
    p.popBranch = { p with branches := l, a := sv || p.a } := by
  simp [PassSt.popBranch, h]

theorem lgRet_pops {m : Mod} {g r : Nat} {l : List Nat} (hat : m.atInstr g 0x15 0 = true) (hcalls : (m.engine g).run.calls = r :: l) :
    lgRet g m = m.setRun g { m.nextRun g with calls := l, pc := r } := by
  have hstack : (m.nextRun g).calls = r :: l := hcalls
  simp [lgRet, Mod.instr_next hat, hstack]

/-- With nothing to pop the index that was advanced goes back. -/
theorem lgRet_stays {m : Mod} {g : Nat} (hat : m.atInstr g 0x15 0 = true) (hcalls : (m.engine g).run.calls = []) :
    lgRet g m = m.setRun g { m.nextRun g with pc := (m.engine g).run.pc } := by
  have hstack : (m.nextRun g).calls = [] := hcalls
  have hback : (m.nextRun g).pc - 1 = (m.engine g).run.pc := Nat.add_sub_cancel ..
  simp [lgRet, Mod.instr_next hat, hstack, hback]

/-- Settles O28: jumps by the value of A, BCL and RET by the top of their stacks. -/
theorem logicControls : Obligations.LogicControls := by
  unfold Obligations.LogicControls
  refine ⟨?jmp, ?jmpc, ?jmpcNot, ?jmpn, ?jmpnNot, ?andb, ?orb, ?bclAnd, ?bclOr, ?not, ?call, ?ret, ?retEmpty, ?theEnd⟩
  case jmpc | jmpnNot =>
    intro s g i h ha
    exact next_instr h (congrArg (s.mod.setRun g) (if_pos ha))
  case jmpcNot | jmpn =>
    intro s g i h ha
    exact next_instr h (congrArg (s.mod.setRun g) (if_neg (ne_true_of_eq_false ha)))
  case bclAnd =>
    intro s g sv l h htop
    exact next_instr h (congrArg (s.mod.setRun g) (PassSt.popBranch_and htop))
  case bclOr =>
    intro s g sv l h htop
    exact next_instr h (congrArg (s.mod.setRun g) (PassSt.popBranch_or htop))
  case ret =>
    rintro s g r l ⟨hr, hat⟩ hcalls
    exact next_awake hr (lgRet_pops hat hcalls)
  case retEmpty =>
    rintro s g ⟨hr, hat⟩ hcalls
    exact next_awake hr (lgRet_stays hat hcalls)
  case jmp | call =>
    intro s g i h
    exact next_instr h rfl
  case andb | orb | not | theEnd =>
    intro s g h
    exact next_instr h rfl

end Sys2Proof.Machine
end

section
namespace Sys2Proof.Machine

/-! ## Timers (R165) -/

section
variable {k pt : Nat} {a : Bool} {t : TimerSt}

theorem timerTon_running (ha : a = true) (hrun : t.run = true) :
    timerTon k pt a t = { run := true, q := decide (pt ≤ k - t.k0), k0 := t.k0, last := true } := by
  simp [timerTon, ha, hrun]

/-- A timer that starts has run for no tick. -/
theorem timerTon_starts (ha : a = true) (hidle : t.run = false) :
    timerTon k pt a t = { run := true, q := decide (pt = 0), k0 := k, last := true } := by
  simp [timerTon, ha, hidle]

theorem timerTon_off (ha : a = false) : timerTon k pt a t = { t with run := false, q := false, last := false } := by
  simp [timerTon, ha]

theorem timerTof_on (ha : a = true) : timerTof k pt a t = { t with run := false, q := true, last := true } := by
  simp [timerTof, ha]

theorem timerTof_elapsed (ha : a = false) (hrun : t.run = true) (hpt : pt ≤ k - t.k0) :
    timerTof k pt a t = { t with run := false, q := false, last := false } := by
  simp [timerTof, ha, hrun, hpt]

theorem timerTof_running (ha : a = false) (hrun : t.run = true) (hpt : k - t.k0 < pt) :
    timerTof k pt a t = { t with last := false } := by
  have hleft : ¬ pt ≤ k - t.k0 := by omega
  simp [timerTof, ha, hrun, hleft]

theorem timerTof_starts (ha : a = false) (hidle : t.run = false) (hq : t.q = true) (hpt : 0 < pt) :
    timerTof k pt a t = { run := true, q := true, k0 := k, last := false } := by
  have hleft : pt ≠ 0 := by omega
  simp [timerTof, ha, hidle, hq, hleft]

theorem timerTp_starts (ha : a = true) (hlast : t.last = false) (hidle : t.run = false) (hpt : 0 < pt) :
    timerTp k pt a t = { run := true, q := true, k0 := k, last := true } := by
  have hleft : pt ≠ 0 := by omega
  simp [timerTp, ha, hlast, hidle, hleft]

theorem timerTp_elapsed (hrun : t.run = true) (hpt : pt ≤ k - t.k0) :
    timerTp k pt a t = { t with run := false, q := false, last := a } := by
  simp [timerTp, hrun, hpt]

theorem timerTp_running (hrun : t.run = true) (hpt : k - t.k0 < pt) :
    timerTp k pt a t = { t with run := true, q := true, last := a } := by
  simp [timerTp, hrun, hpt]

end

theorem Mod.elapsed_running {m : Mod} {g t : Nat} (hrun : (m.timer g t).run = true) :
    m.elapsed g t = min (m.k - (m.timer g t).k0) (m.preset g t) := if_pos hrun

theorem Mod.elapsed_idle {m : Mod} {g t : Nat} (hidle : (m.timer g t).run = false) : m.elapsed g t = 0 :=
  if_neg (ne_true_of_eq_false hidle)

/-! ## Counters (R166) -/

section
variable {a : Bool} {c : CounterSt}

theorem countUp_edge (ha : a = true) (hlow : c.edge = false) : countUp a c = { cv := satInt 32 (c.cv + 1), edge := true } := by
  simp [countUp, ha, hlow]

theorem countUp_no_edge (h : a = false ∨ c.edge = true) : countUp a c = { c with edge := a } := by
  have hstill : ¬ (a && !c.edge) = true := by rcases h with h | h <;> simp [h]
  simp [countUp, hstill]

theorem countDown_edge (ha : a = true) (hlow : c.edge = false) : countDown a c = { cv := satInt 32 (c.cv - 1), edge := true } := by
  simp [countDown, ha, hlow]

theorem countDown_no_edge (h : a = false ∨ c.edge = true) : countDown a c = { c with edge := a } := by
  have hstill : ¬ (a && !c.edge) = true := by rcases h with h | h <;> simp [h]
  simp [countDown, hstill]

end

/-- A counter instruction leaves the counter's new state and A as that state and the instruction give it. -/
theorem Mod.runCounter_of_eq {m : Mod} {g c : Nat} {p : PassSt} {x y : CounterSt} {q : CounterSt → Bool} {b : Bool} (h : x = y) (hb : q y = b) :
    m.runCounter g c p x q = m.setEngine g { m.engine g with
      counters := Table.set (m.engine g).counters {} c y, run := { p with a := b } } := by
  rw [h, ← hb]
  rfl

/-- Settles O29: the next state of each timer and counter in each of its cases, with A read off it. -/
theorem logicTimersAndCounters : Obligations.LogicTimersAndCounters := by
  unfold Obligations.LogicTimersAndCounters
  refine ⟨?_, ?_, ?_, ?_, ?_, ?_, ?_, ?_, ?_, ?_, ?_, ?_, ?_, ?_, ?_, ?_, ?_, ?_, ?_, ?_, ?_, by decide, by decide⟩
  · intro s g t h ha hrun
    exact next_instr h (congrArg (s.mod.runTimer g t _) (timerTon_running ha hrun))
  · intro s g t h ha hidle
    exact next_instr h (congrArg (s.mod.runTimer g t _) (timerTon_starts ha hidle))
  · intro s g t h ha
    exact next_instr h (congrArg (s.mod.runTimer g t _) (timerTon_off ha))
  · intro s g t h ha
    exact next_instr h (congrArg (s.mod.runTimer g t _) (timerTof_on ha))
  · intro s g t h ha hrun hpt
    exact next_instr h (congrArg (s.mod.runTimer g t _) (timerTof_elapsed ha hrun hpt))
  · intro s g t h ha hrun hpt
    exact next_instr h (congrArg (s.mod.runTimer g t _) (timerTof_running ha hrun hpt))
  · intro s g t h ha hidle hq hpt
    exact next_instr h (congrArg (s.mod.runTimer g t _) (timerTof_starts ha hidle hq hpt))
  · intro s g t h ha hlast hidle hpt
    exact next_instr h (congrArg (s.mod.runTimer g t _) (timerTp_starts ha hlast hidle hpt))
  · intro s g t h hrun hpt
    exact next_instr h (congrArg (s.mod.runTimer g t _) (timerTp_elapsed hrun hpt))
  · intro s g t h hrun hpt
    exact next_instr h (congrArg (s.mod.runTimer g t _) (timerTp_running hrun hpt))
  · intro s g t h
    exact next_instr h rfl
  · intro s g t h hrun
    exact next_instr h (by rw [Mod.elapsed_running hrun])
  · intro s g t h hidle
    exact next_instr h (by rw [Mod.elapsed_idle hidle]; rfl)
  · intro m g t p x
    rfl
  · intro s g c h ha hlow
    exact next_instr h (Mod.runCounter_of_eq (countUp_edge ha hlow) rfl)
  · intro s g c h hstill
    exact next_instr h (Mod.runCounter_of_eq (countUp_no_edge hstill) rfl)
  · intro s g c h ha hlow
    exact next_instr h (Mod.runCounter_of_eq (countDown_edge ha hlow) rfl)
  · intro s g c h hstill
    exact next_instr h (Mod.runCounter_of_eq (countDown_no_edge hstill) rfl)
  · intro s g c h ha
    exact next_instr h (Mod.runCounter_of_eq (if_pos ha) ha)
  · intro s g c h
    exact next_instr h rfl
  · intro s g c h
    exact next_instr h rfl

/-! ## Words (R160, R164) -/

theorem Mod.setWordReg_general {m : Mod} {g r : Nat} (hr : r < 0xF00) (v : Word) :
    m.setWordReg g r v = m.setEngine g { m.engine g with words := Table.set (m.engine g).words 0 r v } := if_pos hr

theorem Mod.setWordReg_read_only {m : Mod} {g r : Nat} (hr : 0xF00 ≤ r) (v : Word) : m.setWordReg g r v = m :=
  if_neg (Nat.not_lt.mpr hr)

/-- Word registers set in turn to numbers. -/
def setWords (t : Table Word) (l : List (Nat × Nat)) : Table Word := l.foldl (fun t e => Table.set t 0 e.1 (BitVec.ofNat 32 e.2)) t

theorem setWords_wf {t : Table Word} (h : Table.wf 0 t = true) (l : List (Nat × Nat)) : Table.wf 0 (setWords t l) = true := by
  induction l generalizing t with
  | nil => exact h
  | cons e l ih => exact ih (Table.wf_set _ _ h)

theorem get_setWords_of_not_set {t : Table Word} (h : Table.wf 0 t = true) {l : List (Nat × Nat)} {r : Nat} (hr : ∀ e ∈ l, r ≠ e.1) :
    Table.get (setWords t l) 0 r = Table.get t 0 r := by
  induction l generalizing t with
  | nil => rfl
  | cons e l ih =>
    obtain ⟨hre, hrl⟩ := List.forall_mem_cons.mp hr
    exact (ih (Table.wf_set _ _ h) hrl).trans (Table.get_set_ne _ hre h)

/-- No later setting reaches the register, the registers being different. -/
theorem get_setWords {t : Table Word} (h : Table.wf 0 t = true) {l : List (Nat × Nat)} (hl : l.Pairwise (fun e f => e.1 ≠ f.1))
    {r v : Nat} (hr : (r, v) ∈ l) : Table.get (setWords t l) 0 r = BitVec.ofNat 32 v := by
  induction l generalizing t with
  | nil => cases hr
  | cons e l ih =>
    obtain ⟨hother, hl⟩ := List.pairwise_cons.mp hl
    rcases List.mem_cons.mp hr with rfl | hr
    · exact (get_setWords_of_not_set (Table.wf_set _ _ h) hother).trans (Table.get_set _ _ h)
    · exact ih (Table.wf_set _ _ h) hl hr

/-- The registers that the start of a pass loads, and what it loads (R160). -/
def Mod.passLoads (m : Mod) (pass : Nat) : List (Nat × Nat) :=
  [(0xF00, m.k % 2 ^ 32), (0xF01, m.k / 2 ^ 32 % 2 ^ 16), (0xF02, m.tick.q), (0xF03, pass)]

theorem Mod.passWords_eq (m : Mod) (g pass : Nat) : m.passWords g pass = setWords (m.engine g).words (m.passLoads pass) := rfl

theorem Mod.passLoads_differ (m : Mod) (pass : Nat) : (m.passLoads pass).Pairwise (fun e f => e.1 ≠ f.1) := by
  simp [Mod.passLoads]

theorem Mod.passLoads_other (m : Mod) (pass : Nat) {r : Nat} (hr : r < 0xF00 ∨ 0xF03 < r) : ∀ e ∈ m.passLoads pass, r ≠ e.1 := by
  simp only [Mod.passLoads, List.forall_mem_cons, List.not_mem_nil, false_implies, implies_true, and_true]
  omega

/-- Settles O30: the instructions by their operand, and the words of a pass as four settings of different registers. -/
theorem logicWords : Obligations.LogicWords := by
  unfold Obligations.LogicWords
  refine ⟨?ldw, ?ldk, ?ldi, ?stw, ?stwReadOnly, ?mov, ?movReadOnly, ?ceq, ?cne, ?cgt, ?cge, ?clt, ?cle, ?words⟩
  case stw =>
    intro s g r h hr
    exact next_instr h (congrArg (Mod.setRun · g _) (Mod.setWordReg_general hr _))
  case stwReadOnly =>
    intro s g r h hr
    exact next_instr h (congrArg (Mod.setRun · g _) (Mod.setWordReg_read_only hr _))
  case mov =>
    intro s g src dst h hr
    exact next_instr h (congrArg (Mod.setRun · g _) (Mod.setWordReg_general hr _))
  case movReadOnly =>
    intro s g src dst h hr
    exact next_instr h (congrArg (Mod.setRun · g _) (Mod.setWordReg_read_only hr _))
  case words =>
    intro m g pass hwf
    rw [Mod.passWords_eq]
    have hloaded {r v : Nat} (h : (r, v) ∈ m.passLoads pass) := get_setWords hwf (m.passLoads_differ pass) h
    refine ⟨setWords_wf hwf _, hloaded ?_, hloaded ?_, hloaded ?_, hloaded ?_, ?_⟩
    iterate 4 simp [Mod.passLoads]
    · intro r hr
      exact get_setWords_of_not_set hwf (m.passLoads_other pass hr)
  all_goals
    intro s g r h
    exact next_instr h rfl

end Sys2Proof.Machine
end

section
namespace Sys2Proof.Machine

/-! ## Images written, checked and stored (R170, R171, R184) -/

/-- A write served at once: the module is no MEMBER with its tick running, and the condition of the object holds. -/
theorem Mod.rws_at_once {m : Mod} (h : m.isMember = false ∨ m.stopped = true) (p : Path) (o i : Nat) (v : Val) (act : Mod → Mod) :
    m.rws p o i v true act = (act m).report p 0 := by
  have hnow : ¬ (m.isMember && !m.stopped) = true := by rcases h with h | h <;> simp [h]
  rw [Mod.rws, if_neg hnow, if_pos rfl]

theorem Mod.rws_refused {m : Mod} (h : m.isMember = false ∨ m.stopped = true) (p : Path) (o i : Nat) (v : Val) (act : Mod → Mod) :
    m.rws p o i v false act = m.report p abState := by
  have hnow : ¬ (m.isMember && !m.stopped) = true := by rcases h with h | h <;> simp [h]
  rw [Mod.rws, if_neg hnow, if_neg Bool.false_ne_true]

/-- An image for an engine that exists and of a length that fits is a write of object 0x5810.02, refused to a RUNNING engine. -/
theorem logicImageWrite_eq {g : Nat} {img : List Byte} (hg : g < 16) (hlen : img.length ≤ 165412) (p : Path) (m : Mod) :
    logicImageWrite p g img m = m.rws p 0x581002 g (.oct img) (m.engState g != enRunning) (putLogicImage g img (isTenantPath p)) := by
  rw [logicImageWrite, if_neg (by omega), if_neg (by omega)]

theorem logicImageWrite_replaces {m : Mod} {p : Path} {g : Nat} {img : List Byte} (hp : isTenantPath p = false) (hg : g < 16)
    (hlen : img.length ≤ 165412) (h : m.isMember = false ∨ m.stopped = true) (hst : m.engState g ≠ enRunning) :
    logicImageWrite p g img m = (putLogicImage g img false m).report p 0 := by
  have hok : (m.engState g != enRunning) = true := bne_iff_ne.mpr hst
  rw [logicImageWrite_eq hg hlen, hok, Mod.rws_at_once h, hp]

theorem logicImageWrite_running {m : Mod} {g : Nat} {img : List Byte} (hg : g < 16) (hlen : img.length ≤ 165412)
    (h : m.isMember = false ∨ m.stopped = true) (hst : m.engState g = enRunning) (p : Path) :
    logicImageWrite p g img m = m.report p abState := by
  have hbad : (m.engState g != enRunning) = false := bne_eq_false_iff_eq.mpr hst
  rw [logicImageWrite_eq hg hlen, hbad, Mod.rws_refused h]

theorem logicCheckWrite_one {g : Nat} (hg : g < 16) (p : Path) (m : Mod) :
    logicCheckWrite p g 1 m = (m.setEngine g { m.engine g with checkPending := true }).report p 0 := by
  have hrange : ¬ 15 < g := by omega
  simp [logicCheckWrite, hrange]

theorem logicCheckDone_fails {m : Mod} {g bits : Nat} (hpend : (m.engine g).checkPending = true)
    (hbits : bits = logicCheck g (m.engine g).image (m.loadedOwn g) (m.engine g).viaPort) (hfail : bits % 8192 ≠ 0) :
    logicCheckDone g m =
      ((m.setEngine g { m.engine g with checkPending := false }).set 0x581004 bits g).raise 0x0603 [g, bits] := by
  subst hbits
  simp [logicCheckDone, hpend, hfail]

theorem logicCheckDone_passes {m n : Mod} {g bits : Nat} (hpend : (m.engine g).checkPending = true)
    (hbits : bits = logicCheck g (m.engine g).image (m.loadedOwn g) (m.engine g).viaPort) (hpass : bits % 8192 = 0)
    (hn : n = ((m.setEngine g { m.engine g with checkPending := false }).set 0x581004 (bits + 2 ^ 31) g).set 0x581010
      (field (m.engine g).image ((m.engine g).image.length - 4) 4) g) (hst : n.engState g = enUnloaded) :
    logicCheckDone g m = loadEngine g n := by
  have hdone : logicCheckDone g m = if n.engState g = enUnloaded then loadEngine g n else n := by
    subst hbits hn
    simp [logicCheckDone, hpend, hpass]
  rw [hdone, if_pos hst]

theorem logicStore_checked {m : Mod} {g : Nat} (hg : g < 16) (hpass : bit (m.num 0x581004 g) 31 = true) (p : Path) :
    logicStore p g 1 m = ({ m with nv := { m.nv with logic := Table.put m.nv.logic g (m.engine g).image } } : Mod).report p 0 := by
  have hrange : ¬ 15 < g := by omega
  simp [logicStore, hrange, hpass]

theorem logicStore_unchecked {m : Mod} {g : Nat} (hg : g < 16) (hpass : bit (m.num 0x581004 g) 31 = false) (p : Path) :
    logicStore p g 1 m = m.report p abCheck := by
  have hrange : ¬ 15 < g := by omega
  simp [logicStore, hrange, hpass]

/-- Settles O32: the effect of each write, and of the completed check by its result. -/
theorem logicImages : Obligations.LogicImages := by
  unfold Obligations.LogicImages
  refine ⟨?_, ?_, ?_, ?_, ?_, ?_, ?_⟩
  · intro s p g img hs hg hlen h hst
    have ⟨_, hp, _⟩ := hs
    exact next_gate hs (logicImageWrite_replaces hp hg hlen h hst)
  · intro s p g img hs hg hlen h hst
    exact next_gate hs (logicImageWrite_running hg hlen h hst p)
  · intro s p g hs hg
    exact next_gate hs (logicCheckWrite_one hg p s.mod)
  · intro s g bits hr hpend hbits hfail
    exact next_awake hr (logicCheckDone_fails hpend hbits hfail)
  · intro s g bits m hr hpend hbits hpass hm hst
    exact next_awake hr (logicCheckDone_passes hpend hbits hpass hm hst)
  · intro s p g hs hg hpass
    exact next_gate hs (logicStore_checked hg hpass p)
  · intro s p g hs hg hpass
    exact next_gate hs (logicStore_unchecked hg hpass p)

end Sys2Proof.Machine
end

section
namespace Sys2Proof.Machine

/-! ## Lanes (R346 to R349) -/

theorem laneModeWrite_existing {l v : Nat} (hl : l ≤ 191) (hv : v ≤ 7) (path : Path) {m n : Mod}
    (hn : n = m.each (lanePorts l) (fun m q => (m.leaveUp q psDisabled).setPort q { (m.leaveUp q psDisabled).port q with link := false })) :
    laneModeWrite path l v m = (((n.set 0x310001 v l).set 0x310005 0 l).each (lanePorts l) Mod.portOn).report path 0 := by
  rw [laneModeWrite, if_neg (by omega), if_neg (by omega), hn]
  rfl

theorem laneModeWrite_no_lane {l : Nat} (hl : 191 < l) (path : Path) (v : Nat) (m : Mod) :
    laneModeWrite path l v m = m.report path abSelector := if_pos hl

theorem lanePolarityWrite_no_lane {l : Nat} (hl : 191 < l) (path : Path) (v : Nat) (m : Mod) :
    lanePolarityWrite path l v m = m.report path abSelector := if_pos hl

theorem lanePolarityWrite_existing {l : Nat} (hl : l ≤ 191) (path : Path) (v : Nat) (m : Mod) :
    lanePolarityWrite path l v m = ((m.set 0x310004 (v % 4) l).set 0x310005 0 l).report path 0 := if_neg (by omega)

theorem laneCdrLoss_locked {l : Nat} (hl : l ≤ 191) {m : Mod} (hlock : m.num 0x310005 l ≠ 0) :
    laneCdrLoss l m = (m.set 0x310005 0 l).bump 0x31000C l := if_neg (by omega)

theorem laneGroupGate_idle {j : Nat} (hj : j ≤ 11) {m : Mod} (hopen : m.num 0x350002 j ≠ 1) (hidle : m.groupIdle j = true) :
    laneGroupGate j m = (m.set 0x350002 1 j).raise 0x0207 [j, m.k] := by
  have hrange : ¬ 11 < j := by omega
  simp [laneGroupGate, hrange, hopen, hidle]

/-- The eye report of a lane leaves the other objects of the lane, FREEZE and the threshold among them. -/
theorem Mod.num_eyeReport {m : Mod} (hg : m.Good) (h w l : Nat) {o : Nat} (hh : o ≠ 0x310009) (hw : o ≠ 0x31000A) :
    ((m.set 0x310009 h l).set 0x31000A w l).num o l = m.num o l :=
  (Mod.num_set_ne (Mod.set_good hg ..).dict _ (objKey_ne_same hw l)).trans (Mod.num_set_ne hg.dict _ (objKey_ne_same hh l))

theorem eyeMonitor_frozen {m n : Mod} (hg : m.Good) {l h w : Nat} (hl : l ≤ 191) (hlock : m.num 0x310005 l ≠ 0) (hfrozen : m.num 0x310006 l = 1)
    (hn : n = (m.set 0x310009 (h % 65536) l).set 0x31000A (w % 65536) l) :
    eyeMonitor l h w m = if h % 65536 < m.num 0x31000B l then n.raise 0x0202 [l, h % 65536] else n := by
  have hrange : ¬ (191 < l ∨ m.num 0x310005 l = 0) := by omega
  subst hn
  simp only [eyeMonitor, if_neg hrange, Mod.num_eyeReport hg _ _ l (o := 0x310006) (by decide) (by decide), hfrozen, BEq.rfl, Bool.true_or, if_true,
    Mod.num_eyeReport hg _ _ l (o := 0x31000B) (by decide) (by decide)]

/-! ## Ports and pause (R350, R354, R355) -/

@[simp] theorem Mod.num_setPort (m : Mod) (q : Nat) (x : SwPort) (o i : Nat) : (m.setPort q x).num o i = m.num o i := rfl

@[simp] theorem Mod.k_setPort (m : Mod) (q : Nat) (x : SwPort) : (m.setPort q x).k = m.k := rfl

@[simp] theorem Mod.k_set (m : Mod) (o n i : Nat) : (m.set o n i).k = m.k := rfl

@[simp] theorem Mod.k_bump (m : Mod) (o i n : Nat) : (m.bump o i n).k = m.k := rfl

theorem portEnableWrite_off {q : Nat} (hq : q ≤ 767) (path : Path) (m : Mod) :
    portEnableWrite path q 0 m = ((m.set 0x320001 0 q).leaveUp q psDisabled).report path 0 := if_neg (by omega)

theorem portEnableWrite_on {q : Nat} (hq : q ≤ 767) (path : Path) (m : Mod) :
    portEnableWrite path q 1 m = ((m.set 0x320001 1 q).portOn q).report path 0 := if_neg (by omega)

theorem portDormantWrite_of_up {q : Nat} (hq : q ≤ 767) {m : Mod} (hst : m.num 0x320002 q = psUp) (path : Path) :
    portDormantWrite path q 1 m = ((m.set 0x320003 1 q).leaveUp q psDormant).report path 0 := by
  have hrange : ¬ 767 < q := by omega
  simp [portDormantWrite, hrange, Mod.served, hst]

/-- A port woken by a write names in event 0x0206 the open number that stands for no filter (log entry 108). -/
theorem portDormantWrite_wakes {q : Nat} (hq : q ≤ 767) (path : Path) (m : Mod) :
    portDormantWrite path q 0 m = ((m.wakePort q wokenByNone).set 0x320003 0 q).report path 0 := if_neg (by omega)

theorem portLinkUp_of_down {q : Nat} (hq : q ≤ 767) {m : Mod} (hprov : m.provided q = true) (hst : m.num 0x320002 q = psDown)
    (hlock : m.num 0x310005 (q / 4) ≠ 0) :
    portLinkUp q none m =
      ((m.setPort q { m.port q with link := true }).setPs q psUp).raise 0x0200 [q, m.num 0x310001 (q / 4), m.k] := by
  have hrange : ¬ 767 < q := by omega
  have hnot : psDown ≠ psDormant := by decide
  simp [portLinkUp, hrange, hprov, hst, hlock, hnot]

theorem portLinkUp_bad {q : Nat} (hq : q ≤ 767) {m : Mod} (hprov : m.provided q = true) (hst : m.num 0x320002 q = psDown) (c : Nat) :
    portLinkUp q (some c) m = m.raise 0x0203 [q, c] := by
  have hrange : ¬ 767 < q := by omega
  simp [portLinkUp, hrange, hprov, hst]

theorem portLinkLoss_of_up {q : Nat} (hq : q ≤ 767) {m : Mod} (hst : m.num 0x320002 q = psUp) (hlink : (m.port q).link = true) (c : Nat) :
    portLinkLoss q c m =
      (((m.setPort q { m.port q with link := false }).bump 0x320029 q).leaveUp q psDown).raise 0x0201 [q, c, m.k] := by
  have hrange : ¬ 767 < q := by omega
  simp [portLinkLoss, hrange, hst, hlink]

theorem portLinkLoss_of_dormant {q : Nat} (hq : q ≤ 767) {m : Mod} (hst : m.num 0x320002 q = psDormant) (hlink : (m.port q).link = true) (c : Nat) :
    portLinkLoss q c m = (m.setPort q { m.port q with link := false }).bump 0x320029 q := by
  have hrange : ¬ 767 < q := by omega
  have hnot : psDormant ≠ psUp := by decide
  simp [portLinkLoss, hrange, hst, hlink, hnot]

theorem pauseFrameRx_obeyed {q : Nat} (hq : q ≤ 767) {m n : Mod} (hst : m.num 0x320002 q = psUp)
    (hn : n = (m.bump 0x320020 q).bump 0x320024 q) (hbus : n.num 0x320006 q ≠ 1) (hrx : n.num 0x320008 q = 1) (quanta : Nat) :
    pauseFrameRx q quanta m = n.setPort q { n.port q with paused := decide (quanta % 65536 ≠ 0) } := by
  have hserved : ¬ (m.num 0x320002 q ≠ psUp ∨ 767 < q) := by omega
  subst hn
  simp only [pauseFrameRx, if_neg hserved, if_neg hbus, if_pos hrx]

theorem pauseXoffRepeat_above {q : Nat} {m : Mod} (hxoff : (m.port q).xoff = true) (hocc : m.num 0x32000A q ≤ m.occupancy q)
    (htx : m.num 0x320007 q = 1) (hbus : m.num 0x320006 q = 0) :
    pauseXoffRepeat q m = (m.bump 0x320025 q).emit (.pause q (m.num 0x32000B q)) := if_pos ⟨hxoff, hocc, htx, hbus⟩

theorem pauseXoffRepeat_ended {q : Nat} {m : Mod} (hxoff : (m.port q).xoff = false) : pauseXoffRepeat q m = m := by
  simp [pauseXoffRepeat, hxoff]

/-! ## Stations (R178, R181) -/

theorem gooseStationRx_unmatched {f : GooseFrame} {m : Mod} (h : m.stationsOn.filter (m.gooseMatches f) = []) (origin : Option Nat) :
    gooseStationRx f origin m = m := by
  rw [gooseStationRx, h]
  exact if_neg (by simp)

theorem gooseStationRx_own {f : GooseFrame} {m : Mod} {rs : List Nat} (h : m.stationsOn.filter (m.gooseMatches f) = rs) (hrs : rs ≠ []) :
    gooseStationRx f none m = (m.each rs (fun m r => gooseAt f m.k r m)).forwardStation f.bytes := by
  rw [gooseStationRx, h]
  exact if_pos (by simp [hrs])

theorem gooseStationRx_forwarded {f : GooseFrame} {m : Mod} {rs : List Nat} (h : m.stationsOn.filter (m.gooseMatches f) = rs) (k : Nat) :
    gooseStationRx f (some k) m = m.each rs (fun m r => gooseAt f k r m) := by
  rw [gooseStationRx, h]
  exact if_neg (by simp)

@[simp] theorem Mod.k_setBitAt (m : Mod) (a : Nat) (b : Bool) : (m.setBitAt a b).k = m.k := rfl

@[simp] theorem Mod.k_setBits (m : Mod) (l : List (Nat × Bool)) : (m.setBits l).k = m.k := by
  induction l generalizing m with
  | nil => rfl
  | cons e l ih => exact (ih (m.setBitAt e.1 e.2)).trans (m.k_setBitAt e.1 e.2)

@[simp] theorem Mod.k_setStationBits (m : Mod) (r v : Nat) : (m.setStationBits r v).k = m.k := m.k_setBits _

theorem stationDropout_of_invalid {r : Nat} {m n : Mod} (hst : m.num 0x5A000E r = stPresent) (hinv : (m.station r).agreed.invalid = true)
    (himg : m.logic.imaged = true) (hn : n = (m.set 0x5A000E stDropped r).setStationBits r (m.substBits r)) :
    stationDropout r m = (((n.setBitAt (0x84000 + r) false).setBitAt (0x84800 + r) true).bump 0x5A000C r).raise 0x0605 [r, 2, m.k] := by
  subst hn
  simp [stationDropout, hst, hinv, himg]

theorem stationDropout_not_present {r : Nat} {m : Mod} (hst : m.num 0x5A000E r ≠ stPresent) : stationDropout r m = m := if_pos (.inl hst)

/-! ## The open number of event 0x0206 -/

/-- A module past step 6 of start-up whose port 0 is DORMANT. -/
def dormantPort : State := { mod := { dict := [(objKey 0x203001 0, .num 11), (objKey 0x320002 0, .num 3)], power := { held := 0 } } }

theorem dormantPort_woken (f : Nat) : (dormantPort.mod.wakePort 0 f).raised = [{ code := 0x0206, payload := [0, f, 0] }] := rfl

/-- O51 writes 0xFF for the filter of event 0x0206 where a write of DORMANT wakes a port; the model has an opaque number there (log entry 108), of
which nothing can be proved. So O51 is neither proved nor refuted: it holds exactly where that number is 0xFF. -/
theorem portsAndStations_iff : Obligations.PortsAndStations ↔ wokenByNone = 0xFF := by
  unfold Obligations.PortsAndStations
  refine ⟨?_, fun hopen => ⟨?_, ?_, ?_, ?_, ?_, ?_, ?_, ?_, ?_, ?_, ?_, ?_, ?_, ?_, ?_, ?_, ?_, ?_, ?_, ?_, ?_, ?_⟩⟩
  · rintro ⟨-, -, -, -, -, hwakes, -⟩
    have hs : dormantPort.mod.Serves .supervisor := ⟨rfl, rfl, rfl⟩
    have hsame := (next_gate hs (portDormantWrite_wakes (by decide) ..)).symm.trans (hwakes dormantPort .supervisor 0 hs (by decide) rfl)
    have hraised : (dormantPort.mod.wakePort 0 wokenByNone).raised = (dormantPort.mod.wakePort 0 0xFF).raised :=
      congrArg (·.mod.raised) (Host.Outcome.next.inj hsame)
    simpa only [dormantPort_woken, List.cons.injEq, Ev.mk.injEq, and_true, true_and] using hraised
  · intro s p l v m hs hl hv hm
    exact next_gate hs (laneModeWrite_existing hl hv p hm)
  · intro s p l v hs hl
    exact ⟨next_gate hs (laneModeWrite_no_lane hl p v s.mod), next_gate hs (lanePolarityWrite_no_lane hl p v s.mod)⟩
  · intro s p l v hs hl
    exact next_gate hs (lanePolarityWrite_existing hl p v s.mod)
  · intro s p q hs hq
    exact ⟨next_gate hs (portEnableWrite_off hq p s.mod), next_gate hs (portEnableWrite_on hq p s.mod)⟩
  · intro s p q hs hq hst
    exact next_gate hs (portDormantWrite_of_up hq hst p)
  · intro s p q hs hq hst
    exact next_gate hs (hopen ▸ portDormantWrite_wakes hq p s.mod)
  · rintro s q m hr - hq hprov hst hlock rfl
    exact next_awake hr (portLinkUp_of_down hq hprov hst hlock)
  · intro s q c hr hq hprov hst
    exact next_awake hr (portLinkUp_bad hq hprov hst c)
  · rintro s q c m hr hq hst hlink rfl
    exact next_awake hr (portLinkLoss_of_up hq hst hlink c)
  · intro s q c hr hq hst hlink
    exact next_awake hr (portLinkLoss_of_dormant hq hst hlink c)
  · intro s l hr hl hlock
    exact next_awake hr (laneCdrLoss_locked hl hlock)
  · intro s j hr hj hgate hidle
    exact next_awake hr (laneGroupGate_idle hj hgate hidle)
  · intro s l h w m hr hg hl hlock hfrozen hm
    exact next_awake hr (eyeMonitor_frozen hg hl hlock hfrozen hm)
  · intro s q n m hr hq hst hm hbus hrx
    exact next_awake hr (pauseFrameRx_obeyed hq hst hm hbus hrx n)
  · intro s q hr
    exact next_awake hr rfl
  · intro s q hr hxoff hocc htx hbus
    exact next_awake hr (pauseXoffRepeat_above hxoff hocc htx hbus)
  · intro s q hxoff
    exact next_awake_self (pauseXoffRepeat_ended hxoff)
  · intro s i hr
    exact next_awake hr rfl
  · intro s f o hr h
    exact next_awake hr (gooseStationRx_unmatched h o)
  · intro s f rs hr h hrs
    exact ⟨next_awake hr (gooseStationRx_own h hrs), fun k => next_awake hr (gooseStationRx_forwarded h k)⟩
  · intro s r m hr hst hinv himg hm
    exact next_awake hr (stationDropout_of_invalid hst hinv himg hm)
  · intro s r hst
    exact next_awake_self (stationDropout_not_present hst)

end Sys2Proof.Machine
end

section
namespace Sys2Proof.Machine

/-! ## A tenant's accesses by name (R218, R445) -/

/-- A write by name acts through the gate of its path. -/
theorem exec_of_gatedPath {c : Instr} {p : Path} (h : gatedPath c = some p) (s : State) :
    ∃ f : Mod → Mod, exec c s = .next { s with mod := s.mod.gate p f } := by
  cases c <;> cases h <;> exact ⟨_, rfl⟩

/-- Any other access by name acts through the access of its path. -/
theorem exec_of_earlyPath {c : Instr} {p : Path} (h : earlyPath c = some p) (s : State) :
    ∃ f : Mod → Mod, exec c s = .next { s with mod := s.mod.access p f } := by
  cases c <;> cases h <;> exact ⟨_, rfl⟩

/-- The gate bars a tenant's write as it bars its every access. -/
theorem Mod.gate_tenant {m : Mod} (hr : m.Runs) (t : Nat) (f : Mod → Mod) : m.gate (.tenant t) f = m.report (.tenant t) abAccess :=
  Mod.access_tenant hr rfl _

/-- Settles O8: an access by name acts through the gate or the access of its path, and both bar a tenant's. -/
theorem tenantsHaveNoAccessByName : Obligations.TenantsHaveNoAccessByName := by
  unfold Obligations.TenantsHaveNoAccessByName
  rintro c t s (hgated | hearly) hr
  · obtain ⟨f, hf⟩ := exec_of_gatedPath hgated s
    rw [hf, Mod.gate_tenant hr t f, abAccess]
  · obtain ⟨f, hf⟩ := exec_of_earlyPath hearly s
    rw [hf, Mod.access_tenant hr rfl f, abAccess]

end Sys2Proof.Machine
end

section
namespace Sys2Proof.Machine

/-! ## Transmit rings (R194, R209, R210) -/

theorem txTailWrite_of_tenant {m : Mod} {t : Nat} (ht : m.tnState t ≠ tnEmpty) (tail now : Nat) :
    txTailWrite t tail now m = takeTxs t now 4096 (m.setTenant t { m.tenant t with tx := { (m.tenant t).tx with tail := tail % 2 ^ 32 } }) := by
  simp only [txTailWrite, if_neg ht]

theorem takeTxs_takes {m : Mod} {t : Nat} {d : List Byte} (hsize : (m.tenant t).tx.size ≠ 0)
    (hdue : (m.tenant t).tx.head ≠ (m.tenant t).tx.tail % (m.tenant t).tx.size) (hviol : m.violLimited t = false) (hst : m.tnState t = tnRunning)
    (hread : m.dmaRead t ((m.tenant t).tx.base + 16 * (m.tenant t).tx.head) 16 = some d) (now n : Nat) :
    takeTxs t now (n + 1) m = takeTxs t now n (takeTx t now ((m.tenant t).tx.base + 16 * (m.tenant t).tx.head) d m) := by
  simp [takeTxs, hsize, hdue, hviol, hst, hread]

theorem takeTxs_stops {m : Mod} {t : Nat} (h : (m.tenant t).tx.size = 0 ∨ (m.tenant t).tx.head = (m.tenant t).tx.tail % (m.tenant t).tx.size ∨
    m.tnState t ≠ tnRunning) (now n : Nat) : takeTxs t now n m = m := by
  cases n with
  | zero => rfl
  | succ n => rw [takeTxs, if_pos (by tauto)]

/-- The descriptors of tenant t taken and not completed replaced. -/
def Mod.setTaken (m : Mod) (t : Nat) (l : List (Nat × Bool)) : Mod := m.setTenant t { m.tenant t with txTaken := l }

/-- What becomes of the frame that the tenant's DMA read for descriptor `d` at `a`, those in `old` being taken already: a fault, the switch, or a
violation (R194, R209, R215). -/
def Mod.takeFrame (m : Mod) (t now a : Nat) (d : List Byte) (old : List (Nat × Bool)) : Option (List Byte) → Mod
  | none => (m.setTaken t (old ++ [(a, false)])).dmaFault t 5 (field d 0 8)
  | some f =>
    if m.ringCheck t f = 0 then
      switchClassify { port := 799 + t, bytes := f, ts := now, cls := max 2 (field d 11 1) }
        (m.setTaken t (old ++ [(a, m.ringCheck t f == 0)]))
    else (m.setTaken t (old ++ [(a, m.ringCheck t f == 0)])).violation t (m.ringCheck t f) 0xFF

section
variable {m n : Mod} {t : Nat} {d : List Byte}
  (hn : n = m.setTenant t { m.tenant t with tx := { (m.tenant t).tx with head := ((m.tenant t).tx.head + 1) % (m.tenant t).tx.size } })
include hn

theorem takeTx_eq (now a : Nat) :
    takeTx t now a d m = n.takeFrame t now a d (m.tenant t).txTaken (n.dmaRead t (field d 0 8) (field d 8 2)) := by
  subst hn
  rfl

theorem takeTx_passes {f : List Byte} (hread : n.dmaRead t (field d 0 8) (field d 8 2) = some f) (hcheck : n.ringCheck t f = 0) (now a : Nat) :
    takeTx t now a d m = switchClassify { port := 799 + t, bytes := f, ts := now, cls := max 2 (field d 11 1) }
      (n.setTaken t ((m.tenant t).txTaken ++ [(a, true)])) := by
  rw [takeTx_eq hn, hread, Mod.takeFrame, if_pos hcheck, hcheck, beq_self_eq_true]

theorem takeTx_fails {f : List Byte} (hread : n.dmaRead t (field d 0 8) (field d 8 2) = some f) (hcheck : n.ringCheck t f ≠ 0) (now a : Nat) :
    takeTx t now a d m = (n.setTaken t ((m.tenant t).txTaken ++ [(a, false)])).violation t (n.ringCheck t f) 0xFF := by
  rw [takeTx_eq hn, hread, Mod.takeFrame, if_neg hcheck, beq_false_of_ne hcheck]

theorem takeTx_faults (hread : n.dmaRead t (field d 0 8) (field d 8 2) = none) (now a : Nat) :
    takeTx t now a d m = (n.setTaken t ((m.tenant t).txTaken ++ [(a, false)])).dmaFault t 5 (field d 0 8) := by
  rw [takeTx_eq hn, hread, Mod.takeFrame]

end

theorem txDescriptorDone_oldest {m n : Mod} {t a pa : Nat} {ok : Bool} {l : List (Nat × Bool)} (htaken : (m.tenant t).txTaken = (a, ok) :: l)
    (hn : n = m.setTenant t { m.tenant t with txTaken := l }) (hdest : n.dmaDest t (a + 10) 1 = some pa) :
    txDescriptorDone t m = (n.dmaPoke pa [(Memory.read n.mem pa &&& 0xF8) ||| 2 ||| (if ok then 0 else 4)]).identity t 7 := by
  simp [txDescriptorDone, htaken, ← hn, hdest]

/-! ## Receive rings (R209) -/

theorem rxFrameDelivery_delivers {m n : Mod} {t pa fa : Nat} {f : List Byte} (hst : m.tnState t ≠ tnEmpty) (hsize : (m.tenant t).rx.size ≠ 0)
    (hfree : (m.tenant t).rx.head ≠ (m.tenant t).rx.tail % (m.tenant t).rx.size)
    (hdesc : m.dmaDest t ((m.tenant t).rx.base + 16 * (m.tenant t).rx.head) 16 = some pa)
    (hdest : m.dmaDest t (leNat (Memory.readN m.mem pa 8)) f.length = some fa) {ts cls : Nat}
    (hn : n = (m.dmaPoke fa f).dmaPoke (pa + 8) (toLE 2 f.length ++ [(Memory.read (m.dmaPoke fa f).mem (pa + 10) &&& 0xF8) ||| 2] ++ toLE 1 cls ++
      toLE 4 (ts % 2 ^ 32))) :
    rxFrameDelivery t f ts cls m = (n.setTenant t { m.tenant t with
      rx := { (m.tenant t).rx with head := ((m.tenant t).rx.head + 1) % (m.tenant t).rx.size } }).identity t 8 := by
  subst hn
  simp [rxFrameDelivery, hst, hsize, hfree, hdesc, hdest]

theorem rxFrameDelivery_dropped {m : Mod} {t : Nat} (h : (m.tenant t).rx.size = 0 ∨
    (m.tenant t).rx.head = (m.tenant t).rx.tail % (m.tenant t).rx.size) (f : List Byte) (ts cls : Nat) : rxFrameDelivery t f ts cls m = m :=
  if_pos (.inr h)

/-- Settles O34: each clause is the equation of the ring's operation in that case. -/
theorem ringsMoveFrames : Obligations.RingsMoveFrames := by
  unfold Obligations.RingsMoveFrames
  refine ⟨?_, ?_, ?_, ?_, ?_, ?_, ?_, ?_⟩
  · intro s t tail now hr ht
    exact next_awake hr (txTailWrite_of_tenant ht tail now)
  · intro m t now n d hsize hdue hviol hst hread
    exact takeTxs_takes hsize hdue hviol hst hread now n
  · intro m t now n h
    exact takeTxs_stops h now n
  · intro m n t now a d f hn hread
    exact ⟨fun hcheck => takeTx_passes hn hread hcheck now a, fun hcheck => takeTx_fails hn hread hcheck now a⟩
  · intro m n t now a d hn hread
    exact takeTx_faults hn hread now a
  · intro s t a pa ok l m hr htaken hm hdest
    exact next_awake hr (txDescriptorDone_oldest htaken hm hdest)
  · intro s t ts cls pa fa f m hr hst hsize hfree hdesc hdest hm
    exact next_awake hr (rxFrameDelivery_delivers hst hsize hfree hdesc hdest hm)
  · intro s t ts cls f h
    exact next_awake_self (rxFrameDelivery_dropped h f ts cls)

end Sys2Proof.Machine
end

section
namespace Sys2Proof.Machine

/-! ## Publication slots (R211, R212, R215) -/

section
variable {m : Mod} {t u data : Nat} (hst : m.tnState t = tnRunning) (hu : u < m.num 0x511108 t)
include hst hu

/-- A commit to a slot of a tenant that runs, in the order of R211: BUSY first, then the token, then the length. -/
theorem pubCommit_of_slot : pubCommit t u data m =
    if (m.pub (pubInst t u)).busy then m.bump 0x51300E (pubInst t u)
    else if bitsOf data 63 32 ≠ m.num 0x513005 (pubInst t u) then
      ((m.setPub (pubInst t u) { m.pub (pubInst t u) with result := 2 }).bump 0x51300E (pubInst t u)).violation t 6 u
    else if data % 2 ^ 16 < 60 ∨ 1514 < data % 2 ^ 16 ∨ m.num 0x51300B (pubInst t u) < data % 2 ^ 16 + 4 then
      ((m.setPub (pubInst t u) { m.pub (pubInst t u) with result := 3 }).bump 0x51300E (pubInst t u)).violation t 7 u
    else m.setPub (pubInst t u) { m.pub (pubInst t u) with busy := true, copyLen := data % 2 ^ 16, copyTick := m.commitTick } :=
  if_neg (by simp [hst, hu])

theorem pubCommit_begins (hbusy : (m.pub (pubInst t u)).busy = false) (htoken : bitsOf data 63 32 = m.num 0x513005 (pubInst t u))
    (h60 : 60 ≤ data % 2 ^ 16) (h1514 : data % 2 ^ 16 ≤ 1514) (hmax : data % 2 ^ 16 + 4 ≤ m.num 0x51300B (pubInst t u)) :
    pubCommit t u data m =
      m.setPub (pubInst t u) { m.pub (pubInst t u) with busy := true, copyLen := data % 2 ^ 16, copyTick := m.commitTick } := by
  have hlen : ¬ (data % 2 ^ 16 < 60 ∨ 1514 < data % 2 ^ 16 ∨ m.num 0x51300B (pubInst t u) < data % 2 ^ 16 + 4) := by omega
  rw [pubCommit_of_slot hst hu, if_neg (by simp [hbusy]), if_neg (not_not_intro htoken), if_neg hlen]

theorem pubCommit_busy (hbusy : (m.pub (pubInst t u)).busy = true) : pubCommit t u data m = m.bump 0x51300E (pubInst t u) := by
  rw [pubCommit_of_slot hst hu, if_pos hbusy]

theorem pubCommit_wrong_token (hbusy : (m.pub (pubInst t u)).busy = false) (htoken : bitsOf data 63 32 ≠ m.num 0x513005 (pubInst t u)) :
    pubCommit t u data m =
      ((m.setPub (pubInst t u) { m.pub (pubInst t u) with result := 2 }).bump 0x51300E (pubInst t u)).violation t 6 u := by
  rw [pubCommit_of_slot hst hu, if_neg (by simp [hbusy]), if_pos htoken]

end

section
variable {m : Mod} {t u : Nat} {f : List Byte} (hbusy : (m.pub (pubInst t u)).busy = true)
  (hf : f = Memory.readN m.mem (vfAt t + 0x10000 + 0x800 * u) (m.pub (pubInst t u)).copyLen)
include hbusy hf

theorem pubCopyDone_stands (hcheck : m.slotCheck t u f = 0)
    (hfirst : Table.find? (m.pub (pubInst t u)).standing (m.pub (pubInst t u)).copyTick = none) :
    pubCopyDone t u m = m.setPub (pubInst t u) { m.pub (pubInst t u) with
      busy := false, result := 1, standing := Table.put (m.pub (pubInst t u)).standing (m.pub (pubInst t u)).copyTick f } := by
  simp [pubCopyDone, hbusy, ← hf, hcheck, hfirst]

theorem pubCopyDone_fails (hcheck : m.slotCheck t u f ≠ 0) :
    pubCopyDone t u m = ((m.setPub (pubInst t u) { m.pub (pubInst t u) with busy := false, result := 3 }).bump 0x51300E
      (pubInst t u)).violation t (m.slotCheck t u f) u := by
  simp [pubCopyDone, hbusy, ← hf, hcheck]

end

/-! ## SC0 frame buffers (R214) -/

theorem sc0Commit_begins {m : Mod} {b data : Nat} (hb : b < 256)
    (hearly : nextTickLow m.k (bitsOf data 63 32) ≠ m.k ∨ m.inVP = false) (hnear : nextTickLow m.k (bitsOf data 63 32) ≤ m.k + 2 ^ 20)
    (hmax : data % 2 ^ 16 + 4 ≤ m.num 0x516001 b) (h60 : 60 ≤ data % 2 ^ 16) (h1514 : data % 2 ^ 16 ≤ 1514) :
    sc0Commit b data m = m.setSc0 b { m.sc0 b with
      busy := true, copyLen := data % 2 ^ 16, copyTick := nextTickLow m.k (bitsOf data 63 32) } := by
  have hbuffer : ¬ 255 < b := by omega
  have htime : ¬ ((nextTickLow m.k (bitsOf data 63 32) = m.k ∧ m.inVP = true) ∨ m.k + 2 ^ 20 < nextTickLow m.k (bitsOf data 63 32)) := by
    rintro (⟨hk, hvp⟩ | hfar)
    · rcases hearly with h | h
      · exact h hk
      · simp [h] at hvp
    · omega
  have hlen : ¬ (m.num 0x516001 b < data % 2 ^ 16 + 4 ∨ data % 2 ^ 16 < 60 ∨ 1514 < data % 2 ^ 16) := by omega
  rw [sc0Commit, if_neg hbuffer, if_neg htime, if_neg hlen]

theorem sc0Commit_late {m : Mod} {b data : Nat} (hb : b < 256) (hk : nextTickLow m.k (bitsOf data 63 32) = m.k) (hvp : m.inVP = true) :
    sc0Commit b data m = (m.setSc0 b { m.sc0 b with result := 2 }).bump 0x516003 b := by
  have hbuffer : ¬ 255 < b := by omega
  rw [sc0Commit, if_neg hbuffer, if_pos (.inl ⟨hk, hvp⟩)]

theorem sc0CopyDone_stands {m : Mod} {b : Nat} (hbusy : (m.sc0 b).busy = true) :
    sc0CopyDone b m = m.setSc0 b { m.sc0 b with
      busy := false, result := 1, standing := Table.put (m.sc0 b).standing (m.sc0 b).copyTick (Memory.readN m.mem (sc0At b) (m.sc0 b).copyLen) } := by
  simp [sc0CopyDone, hbusy]

/-! ## Mailboxes (R219-R221) -/

section
variable {m : Mod} {t i : Nat} (h0 : 0 < t) (h64 : t ≤ 64) (hi : i < 16)
include h0 h64 hi

/-- The slots of a mailbox are the 16 of a tenant. -/
theorem mailbox_slot_exists : ¬ (t = 0 ∨ 64 < t ∨ 15 < i) := by omega

/-- A request that names another generation is stale, whichever of the four it is (R221). -/
theorem mailbox_requests_stale {gen : Nat} (hgen : gen ≠ m.num 0x510002 t) :
    mbPost t i gen m = m.stale t true i gen ∧ mbInRelease t i gen m = m.stale t true i gen ∧
      mbOutPost t i gen m = m.stale t false i gen ∧ mbRelease t i gen m = m.stale t false i gen := by
  have hslot := mailbox_slot_exists h0 h64 hi
  simp [mbPost, mbInRelease, mbOutPost, mbRelease, if_neg hslot, hgen]

variable (hst : m.tnState t ≠ tnEmpty)
include hst

theorem mbOutPost_empty_slot (hempty : bit (m.tenant t).mbOut i = false) {n : Mod} (hn : n = m.stampSlot (mbAt t false i) t) :
    mbOutPost t i (m.num 0x510002 t) m =
      ((n.setTenant t { n.tenant t with mbOut := setBit (n.tenant t).mbOut i true }).bump 0x514002 t).supIdentity t
        ((n.setTenant t { n.tenant t with mbOut := setBit (n.tenant t).mbOut i true }).num 0x514005 t) := by
  subst hn
  simp [mbOutPost, if_neg (mailbox_slot_exists h0 h64 hi), hst, hempty]

theorem mbPost_empty_slot (hempty : bit (m.tenant t).mbIn i = false) {n : Mod} (hn : n = m.stampSlot (mbAt t true i) t) :
    mbPost t i (m.num 0x510002 t) m =
      ((n.setTenant t { n.tenant t with mbIn := setBit (n.tenant t).mbIn i true }).bump 0x514001 t).identity t 2 := by
  subst hn
  simp [mbPost, if_neg (mailbox_slot_exists h0 h64 hi), hst, hempty]

theorem mbOutPost_full_slot (hfull : bit (m.tenant t).mbOut i = true) : mbOutPost t i (m.num 0x510002 t) m = m.bump 0x514004 t := by
  simp [mbOutPost, if_neg (mailbox_slot_exists h0 h64 hi), hst, hfull]

theorem mbPost_full_slot (hfull : bit (m.tenant t).mbIn i = true) : mbPost t i (m.num 0x510002 t) m = m.bump 0x514004 t := by
  simp [mbPost, if_neg (mailbox_slot_exists h0 h64 hi), hst, hfull]

theorem mbInRelease_current : mbInRelease t i (m.num 0x510002 t) m =
    (m.setTenant t { m.tenant t with mbIn := setBit (m.tenant t).mbIn i false }).supIdentity t 3 := by
  simp [mbInRelease, if_neg (mailbox_slot_exists h0 h64 hi), hst]

theorem mbRelease_current : mbRelease t i (m.num 0x510002 t) m =
    (m.setTenant t { m.tenant t with mbOut := setBit (m.tenant t).mbOut i false }).identity t 3 := by
  simp [mbRelease, if_neg (mailbox_slot_exists h0 h64 hi), hst]

end

/-- Settles O35: each clause is the equation of the slot's, the buffer's or the mailbox's operation in that case. -/
theorem slotsAndMailboxes : Obligations.SlotsAndMailboxes := by
  unfold Obligations.SlotsAndMailboxes
  refine ⟨?_, ?_, ?_, ?_, ?_, ?_, ?_, ?_, ?_, ?_, ?_, ?_, ?_, ?_, ?_, ?_⟩
  · intro s t u data hr hst hu hbusy htoken h60 h1514 hmax
    exact next_awake hr (pubCommit_begins hst hu hbusy htoken h60 h1514 hmax)
  · intro s t u data hr hst hu hbusy
    exact next_awake hr (pubCommit_busy hst hu hbusy)
  · intro s t u data hr hst hu hbusy htoken
    exact next_awake hr (pubCommit_wrong_token hst hu hbusy htoken)
  · intro s t u f hr hbusy hf hcheck hfirst
    exact next_awake hr (pubCopyDone_stands hbusy hf hcheck hfirst)
  · intro s t u f hr hbusy hf hcheck
    exact next_awake hr (pubCopyDone_fails hbusy hf hcheck)
  · intro s b data hr hb hearly hnear hmax h60 h1514
    exact next_awake hr (sc0Commit_begins hb hearly hnear hmax h60 h1514)
  · intro s b data hr hb hk hvp
    exact next_awake hr (sc0Commit_late hb hk hvp)
  · intro s b hr hbusy
    exact next_awake hr (sc0CopyDone_stands hbusy)
  · intro s t i m hr h0 h64 hst hi hempty hm
    exact next_awake hr (mbOutPost_empty_slot h0 h64 hi hst hempty hm)
  · intro s t i m hr h0 h64 hst hi hempty hm
    exact next_awake hr (mbPost_empty_slot h0 h64 hi hst hempty hm)
  · intro s t i hr h0 h64 hst hi hfull
    exact next_awake hr (mbOutPost_full_slot h0 h64 hi hst hfull)
  · intro s t i hr h0 h64 hst hi hfull
    exact next_awake hr (mbPost_full_slot h0 h64 hi hst hfull)
  · intro s t i hr h0 h64 hst hi
    exact next_awake hr (mbInRelease_current h0 h64 hi hst)
  · intro s t i hr h0 h64 hst hi
    exact next_awake hr (mbRelease_current h0 h64 hi hst)
  · intro s t i gen hr h0 h64 hi hgen
    obtain ⟨hpost, hinRelease, houtPost, hrelease⟩ := mailbox_requests_stale (m := s.mod) h0 h64 hi hgen
    exact ⟨next_awake hr hpost, next_awake hr hinRelease, next_awake hr houtPost, next_awake hr hrelease⟩
  · intro s t mask hr
    exact next_awake hr rfl

end Sys2Proof.Machine
end

section
namespace Sys2Proof.Machine

/-! ## The registers of a hart (R188, R203) -/

/-- A slice octet by octet, zeros beyond the run's end. -/
theorem slice_eq_map (bs : List Byte) (a n : Nat) : slice bs a n = (List.range n).map (fun i => bs.getD (a + i) 0) := by
  apply List.ext_getElem
  · simp [length_slice]
  · intro i _ hi
    have hin : i < n := by simpa using hi
    simp only [slice, List.getElem_append, List.length_take, List.length_drop, List.getElem_take, List.getElem_drop, List.getElem_map,
      List.getElem_range, List.getElem_replicate]
    split
    · rw [List.getD_eq_getElem _ _ (by omega)]
    · rw [List.getD_eq_default _ _ (by omega)]

theorem length_toLE (n v : Nat) : (toLE n v).length = n := by
  induction n generalizing v with
  | zero => rfl
  | succ n ih => simp [toLE, ih]

/-- Setting a register of the context writes its eight octets and no other. -/
theorem HartSt.setReg_octet (h : HartSt) {o x : Nat} (ho : o + 8 ≤ 2048) (hx : x < 2048) (v : Nat) :
    (h.setReg o v).ctx.getD x 0 = if o ≤ x ∧ x < o + 8 then (toLE 8 v).getD (x - o) 0 else h.ctx.getD x 0 := by
  have hctx : (slice h.ctx 0 2048)[x]?.getD 0 = h.ctx[x]?.getD 0 := by simp [slice_eq_map, hx]
  have hlen := length_toLE 8 v
  have hmin : min o 2048 = o := by omega
  simp only [HartSt.setReg, List.getD_eq_getElem?_getD, List.getElem?_append, List.length_append, List.length_take, length_slice, hlen,
    List.getElem?_take, List.getElem?_drop, hmin]
  rcases lt_or_ge x o with hbefore | hfrom
  · rw [if_pos (by omega), if_pos hbefore, if_pos hbefore, if_neg (by omega), hctx]
  · rcases lt_or_ge x (o + 8) with hin | hafter
    · rw [if_pos hin, if_neg (by omega), if_pos ⟨hfrom, hin⟩]
    · rw [if_neg (by omega), if_neg (by omega), Nat.add_sub_of_le hafter, hctx]

theorem HartSt.reg_setReg (h : HartSt) {o : Nat} (ho : o + 8 ≤ 2048) (v : Nat) : (h.setReg o v).reg o = v % 2 ^ 64 := by
  have hoctets : slice (h.setReg o v).ctx o 8 = slice (toLE 8 v) 0 8 := by
    simp only [slice_eq_map]
    refine List.map_congr_left fun i hi => ?_
    have hi8 : i < 8 := by simpa using hi
    rw [HartSt.setReg_octet h ho (by omega), if_pos (by omega)]
    congr 1
    omega
  rw [HartSt.reg, field, hoctets]
  exact leNat_toLE 8 v

theorem HartSt.reg_setReg_ne (h : HartSt) {o p : Nat} (ho : o + 8 ≤ 2048) (hp : p + 8 ≤ 2048) (hne : p + 8 ≤ o ∨ o + 8 ≤ p) (v : Nat) :
    (h.setReg o v).reg p = h.reg p := by
  simp only [HartSt.reg, field, slice_eq_map]
  congr 1
  refine List.map_congr_left fun i hi => ?_
  have hi8 : i < 8 := by simpa using hi
  rw [HartSt.setReg_octet h ho (by omega), if_neg (by omega)]

theorem HartSt.wf_setCsr {h : HartSt} (hw : Table.wf 0 h.csr = true) (n v : Nat) : Table.wf 0 (h.setCsr n v).csr = true := Table.wf_set _ _ hw

theorem HartSt.csrAt_setCsr {h : HartSt} (hw : Table.wf 0 h.csr = true) (n v : Nat) : (h.setCsr n v).csrAt n = v % 2 ^ 64 := Table.get_set _ _ hw

theorem HartSt.csrAt_setCsr_ne {h : HartSt} (hw : Table.wf 0 h.csr = true) {n k : Nat} (hk : k ≠ n) (v : Nat) :
    (h.setCsr n v).csrAt k = h.csrAt k := Table.get_set_ne _ hk hw

/-- Control and status registers set in turn. -/
def HartSt.setCsrs (h : HartSt) (l : List (Nat × Nat)) : HartSt := l.foldl (fun h e => h.setCsr e.1 e.2) h

theorem HartSt.wf_setCsrs {h : HartSt} (hw : Table.wf 0 h.csr = true) (l : List (Nat × Nat)) : Table.wf 0 (h.setCsrs l).csr = true := by
  induction l generalizing h with
  | nil => exact hw
  | cons e l ih => exact ih (HartSt.wf_setCsr hw e.1 e.2)

theorem HartSt.csrAt_setCsrs_of_not_set {h : HartSt} (hw : Table.wf 0 h.csr = true) {l : List (Nat × Nat)} {k : Nat} (hk : ∀ e ∈ l, k ≠ e.1) :
    (h.setCsrs l).csrAt k = h.csrAt k := by
  induction l generalizing h with
  | nil => rfl
  | cons e l ih =>
    obtain ⟨hke, hkl⟩ := List.forall_mem_cons.mp hk
    exact (ih (HartSt.wf_setCsr hw e.1 e.2) hkl).trans (HartSt.csrAt_setCsr_ne hw hke e.2)

/-- Of registers that differ, each reads what it was set to. -/
theorem HartSt.csrAt_setCsrs {h : HartSt} (hw : Table.wf 0 h.csr = true) {l : List (Nat × Nat)} (hl : l.Pairwise (fun e f => e.1 ≠ f.1))
    {e : Nat × Nat} (he : e ∈ l) : (h.setCsrs l).csrAt e.1 = e.2 % 2 ^ 64 := by
  induction l generalizing h with
  | nil => cases he
  | cons x l ih =>
    obtain ⟨hx, hl⟩ := List.pairwise_cons.mp hl
    have hw' := HartSt.wf_setCsr hw x.1 x.2
    rcases List.mem_cons.mp he with rfl | he
    · exact (HartSt.csrAt_setCsrs_of_not_set hw' hx).trans (HartSt.csrAt_setCsr hw _ _)
    · exact ih hw' hl he

/-! ## Traps (R188) -/

/-- In a trap to VS mode the context alone changes: SSTATUS, SEPC, SCAUSE and STVAL of the guest, and the pc (log entry 213). -/
theorem HartSt.enter_vs (h : HartSt) (c v : Nat) :
    (h.enter .vs c v).reg 0x248 = h.reg 0 % 2 ^ 64 ∧ (h.enter .vs c v).reg 0x250 = c % 2 ^ 64 ∧ (h.enter .vs c v).reg 0x258 = v % 2 ^ 64 ∧
      (h.enter .vs c v).reg 0 = vectorAt (h.reg 0x238) c % 2 ^ 64 := by
  have hreg : ∀ o, (h.enter .vs c v).reg o = (((((h.setReg 0x228 (sstatusIn (h.reg 0x228) h.mode)).setReg 0x248 (h.reg 0)).setReg 0x250 c).setReg
      0x258 v).setReg 0 (vectorAt (h.reg 0x238) c)).reg o := fun _ => rfl
  simp [hreg, HartSt.reg_setReg, HartSt.reg_setReg_ne]

/-- What a trap to HS mode writes to control and status registers. -/
def HartSt.hsSaves (h : HartSt) (c v : Nat) : List (Nat × Nat) :=
  [(0x300, sstatusIn (h.csrAt 0x300) h.mode), (0x600, hstatusIn (h.csrAt 0x600) h.mode (isGuest h.mode && addressCause c)), (0x141, h.reg 0),
   (0x142, c), (0x143, v), (0x643, 0), (0x64A, 0)]

/-- What a trap to M mode writes to them. -/
def HartSt.mSaves (h : HartSt) (c v : Nat) : List (Nat × Nat) :=
  [(0x300, mstatusIn (h.csrAt 0x300) h.mode (isGuest h.mode && addressCause c)), (0x341, h.reg 0), (0x342, c), (0x343, v), (0x34B, 0), (0x34A, 0)]

theorem HartSt.csr_enter_hs (h : HartSt) (c v : Nat) : (h.enter .hs c v).csr = (h.setCsrs (h.hsSaves c v)).csr := rfl

theorem HartSt.csr_enter_m (h : HartSt) (c v : Nat) : (h.enter .m c v).csr = (h.setCsrs (h.mSaves c v)).csr := rfl

section
variable {h : HartSt} (hw : Table.wf 0 h.csr = true) {c v : Nat} {e : Nat × Nat}
include hw

theorem HartSt.csrAt_enter_hs (he : e ∈ h.hsSaves c v) : (h.enter .hs c v).csrAt e.1 = e.2 % 2 ^ 64 := by
  rw [HartSt.csrAt, HartSt.csr_enter_hs]
  exact HartSt.csrAt_setCsrs hw (by simp [HartSt.hsSaves]) he

theorem HartSt.csrAt_enter_m (he : e ∈ h.mSaves c v) : (h.enter .m c v).csrAt e.1 = e.2 % 2 ^ 64 := by
  rw [HartSt.csrAt, HartSt.csr_enter_m]
  exact HartSt.csrAt_setCsrs hw (by simp [HartSt.mSaves]) he

/-- In a trap to HS mode SEPC, SCAUSE and STVAL take the pc, the cause and the value. -/
theorem HartSt.enter_hs : (h.enter .hs c v).csrAt 0x141 = h.reg 0 % 2 ^ 64 ∧ (h.enter .hs c v).csrAt 0x142 = c % 2 ^ 64 ∧
    (h.enter .hs c v).csrAt 0x143 = v % 2 ^ 64 :=
  ⟨HartSt.csrAt_enter_hs hw (e := (0x141, h.reg 0)) (by simp [HartSt.hsSaves]), HartSt.csrAt_enter_hs hw (e := (0x142, c)) (by simp [HartSt.hsSaves]),
    HartSt.csrAt_enter_hs hw (e := (0x143, v)) (by simp [HartSt.hsSaves])⟩

/-- In a trap to M mode MEPC, MCAUSE and MTVAL take them. -/
theorem HartSt.enter_m : (h.enter .m c v).csrAt 0x341 = h.reg 0 % 2 ^ 64 ∧ (h.enter .m c v).csrAt 0x342 = c % 2 ^ 64 ∧
    (h.enter .m c v).csrAt 0x343 = v % 2 ^ 64 :=
  ⟨HartSt.csrAt_enter_m hw (e := (0x341, h.reg 0)) (by simp [HartSt.mSaves]), HartSt.csrAt_enter_m hw (e := (0x342, c)) (by simp [HartSt.mSaves]),
    HartSt.csrAt_enter_m hw (e := (0x343, v)) (by simp [HartSt.mSaves])⟩

end

/-- A trap to HS mode ends at the vector of STVEC. -/
theorem HartSt.reg_enter_hs (h : HartSt) (c v : Nat) : (h.enter .hs c v).reg 0 = vectorAt (h.csrAt 0x105) c % 2 ^ 64 := by
  have hreg : (h.enter .hs c v).reg 0 = ((h.setCsrs (h.hsSaves c v)).setReg 0 (vectorAt (h.csrAt 0x105) c)).reg 0 := rfl
  rw [hreg, HartSt.reg_setReg _ (by omega)]

/-- A trap to M mode ends at the vector of MTVEC. -/
theorem HartSt.reg_enter_m (h : HartSt) (c v : Nat) : (h.enter .m c v).reg 0 = vectorAt (h.csrAt 0x305) c % 2 ^ 64 := by
  have hreg : (h.enter .m c v).reg 0 = ((h.setCsrs (h.mSaves c v)).setReg 0 (vectorAt (h.csrAt 0x305) c)).reg 0 := rfl
  rw [hreg, HartSt.reg_setReg _ (by omega)]

theorem HartSt.wf_enter_hs {h : HartSt} (hw : Table.wf 0 h.csr = true) (c v : Nat) : Table.wf 0 (h.enter .hs c v).csr = true := by
  rw [HartSt.csr_enter_hs]
  exact HartSt.wf_setCsrs hw _

theorem HartSt.wf_enter_m {h : HartSt} (hw : Table.wf 0 h.csr = true) (c v : Nat) : Table.wf 0 (h.enter .m c v).csr = true := by
  rw [HartSt.csr_enter_m]
  exact HartSt.wf_setCsrs hw _

theorem HartSt.trapMode_toHS (h : HartSt) (c : Nat) {hs : Bool} (hhs : hs = true) : h.trapMode c hs = .hs := if_pos hhs

theorem HartSt.mode_enter_hs (h : HartSt) (c v : Nat) : (h.enter .hs c v).mode = .hs := rfl

theorem HartSt.mode_enter_m (h : HartSt) (c v : Nat) : (h.enter .m c v).mode = .m := rfl

theorem HartSt.mode_enter_vs (h : HartSt) (c v : Nat) : (h.enter .vs c v).mode = .vs := rfl

theorem HartSt.csr_setReg (h : HartSt) (o v : Nat) : (h.setReg o v).csr = h.csr := rfl

theorem HartSt.csr_enter_vs (h : HartSt) (c v : Nat) : (h.enter .vs c v).csr = h.csr := by
  simp only [HartSt.enter, HartSt.csr_setReg]

/-! ## Returns, violations and clearing (R206, R216, R224) -/

theorem frozenGuestReturn_frozen {m : Mod} {j w : Nat} {mode : HartMode} (hret : (m.hart j).returnMode w = some mode) (hguest : isGuest mode = true)
    (hfrozen : m.tnState (vmidOf (m.hart j).hgatp) = tnFrozen) (b : Bool) :
    frozenGuestReturn j w b m = m.trap j 2 (if b then w else 0) false := by
  simp [frozenGuestReturn, hret, hguest, hfrozen]

theorem frozenGuestReturn_returns {m : Mod} {j w : Nat} {mode : HartMode} (hret : (m.hart j).returnMode w = some mode)
    (hfree : isGuest mode = false ∨ m.tnState (vmidOf (m.hart j).hgatp) ≠ tnFrozen) (b : Bool) :
    frozenGuestReturn j w b m = m.setHart j ((m.hart j).return w mode) := by
  have hstays : ¬ (isGuest mode = true ∧ m.tnState (vmidOf (m.hart j).hgatp) = tnFrozen) := by
    rintro ⟨hguest, hfrozen⟩
    rcases hfree with h | h
    · simp [hguest] at h
    · exact h hfrozen
  simp only [frozenGuestReturn, hret, if_neg hstays]

theorem frozenGuestReturn_none {m : Mod} {j w : Nat} (hret : (m.hart j).returnMode w = none) (b : Bool) :
    frozenGuestReturn j w b m = m.trap j (if isGuest (m.hart j).mode then 22 else 2) (if b then w else 0) false := by
  simp only [frozenGuestReturn, hret]

theorem violClear_one {t : Nat} (h0 : 0 < t) (h64 : t ≤ 64) (p : Path) (m : Mod) : violClear p t 1 m = (m.set 0x51000A 0 t).report p 0 := by
  have htenant : ¬ (t = 0 ∨ 64 < t) := by omega
  rw [violClear, if_neg htenant, if_neg (not_not_intro rfl)]

theorem sramClearDone_oldest {m : Mod} {b n : Nat} {l : List (Nat × Nat)} (hl : m.ten.clearing = (b, n) :: l) :
    sramClearDone m = (({ m with ten := { m.ten with clearing := l } } : Mod).wipe (sramAt + b) n).tenantTotals := by
  simp only [sramClearDone, hl]

/-- Settles O36: the equation of each command in its case, and what the registers read once a trap has been entered. -/
theorem tenantsAndHarts : Obligations.TenantsAndHarts := by
  unfold Obligations.TenantsAndHarts
  refine ⟨?_, ?_, ?_, ?_, ?_, ?_, ?_, ?_, ?_, ?_⟩
  · intro s p t hs h0 h64
    exact next_gate hs (violClear_one h0 h64 p s.mod)
  · intro s b n l hr hl
    exact next_awake hr (sramClearDone_oldest hl)
  · intro s j w hr
    exact next_awake hr rfl
  · intro s j w b mode hr hret hguest hfrozen
    exact next_awake hr (frozenGuestReturn_frozen hret hguest hfrozen b)
  · intro s j w b mode hr hret hfree
    exact next_awake hr (frozenGuestReturn_returns hret hfree b)
  · intro s j w b hr hret
    exact next_awake hr (frozenGuestReturn_none hret b)
  · intro m j c v hs
    exact ⟨rfl, (m.hart j).trapMode_toHS c, rfl, rfl, rfl⟩
  · intro h c v
    obtain ⟨hepc, hcause, hval, hpc⟩ := h.enter_vs c v
    exact ⟨h.mode_enter_hs c v, h.reg_enter_hs c v, h.mode_enter_m c v, h.reg_enter_m c v, h.mode_enter_vs c v, hepc, hcause, hval, hpc, h.csr_enter_vs c v⟩
  · intro h c v hw
    obtain ⟨hsepc, hscause, hstval⟩ := HartSt.enter_hs hw (c := c) (v := v)
    obtain ⟨hmepc, hmcause, hmtval⟩ := HartSt.enter_m hw (c := c) (v := v)
    exact ⟨hsepc, hscause, hstval, hmepc, hmcause, hmtval, HartSt.wf_enter_hs hw c v, HartSt.wf_enter_m hw c v⟩
  · intro s j hr
    exact next_awake hr rfl

end Sys2Proof.Machine
end

section
namespace Sys2Proof.Machine

/-! ## A tenant's dictionary port (R208, R218, R461) -/

/-- The object that tenant t's registers name. -/
def Mod.portObj (m : Mod) (t : Nat) : Nat := (m.tenant t).dp.addr / 2 ^ 16 * 256 + (m.tenant t).dp.addr / 256 % 256

/-- The identifier of tenant t's next submission (R457). -/
def Mod.nextSubmitId (m : Mod) (t : Nat) : Nat := 0xFF000000 + t * 2 ^ 16 + ((m.tenant t).submits + 1) % 2 ^ 16

/-- Tenant t with its submission BUSY under the next identifier. -/
def Mod.submitting (m : Mod) (t : Nat) : Mod :=
  m.setTenant t { m.tenant t with
    submits := (m.tenant t).submits + 1, dpCommit := m.nextSubmitId t, dp := { (m.tenant t).dp with status := 2 ^ 31, abort := 0 } }

/-- The KIND 2 commit of the write of `v` that tenant t's registers hold. -/
def Mod.submission (m : Mod) (t : Nat) (v : Val) : Commit :=
  { id := m.nextSubmitId t, kind := 2, originRank := 0, path := 3, pathNo := pathNo (.tenant t), target := (m.tenant t).dp.tick,
    entries := [{ obj := m.portObj t, sel := (m.tenant t).dp.instSel, val := v }] }

theorem tenantDpSubmit_busy {m : Mod} {t : Nat} (hbusy : bit (m.tenant t).dp.status 31 = true) : tenantDpSubmit t m = m :=
  if_pos (.inr (.inr (.inr hbusy)))

section
variable {m : Mod} {t : Nat} {v : Val} (h0 : 0 < t) (h64 : t ≤ 64) (hst : m.tnState t ≠ tnEmpty)
  (hidle : bit (m.tenant t).dp.status 31 = false) (hval : m.portValue t = (0, v))
include h0 h64 hst hidle hval

/-- A write that the port accepts is refused at once where its target bars it, and otherwise becomes the module's own copy. -/
theorem tenantDpSubmit_accepted : tenantDpSubmit t m =
    if m.submitBar (m.tenant t).dp.tick ≠ 0 then m.submitRefused t (m.submitBar (m.tenant t).dp.tick)
    else (m.submitting t).submitOwn (m.submission t v) := by
  have hport : ¬ (t = 0 ∨ 64 < t ∨ m.tnState t = tnEmpty ∨ bit (m.tenant t).dp.status 31 = true) := by
    simp only [hst, hidle, Bool.false_eq_true, or_false]
    omega
  rw [tenantDpSubmit, if_neg hport]
  simp only [hval, ne_eq, not_true_eq_false, if_false]
  rfl

theorem tenantDpSubmit_in_range (hbar : m.submitBar (m.tenant t).dp.tick = 0) :
    tenantDpSubmit t m = (m.submitting t).submitOwn (m.submission t v) := by
  rw [tenantDpSubmit_accepted h0 h64 hst hidle hval, if_neg (not_not_intro hbar)]

theorem tenantDpSubmit_barred (hbar : m.submitBar (m.tenant t).dp.tick ≠ 0) :
    tenantDpSubmit t m = m.submitRefused t (m.submitBar (m.tenant t).dp.tick) := by
  rw [tenantDpSubmit_accepted h0 h64 hst hidle hval, if_pos hbar]

end

/-- Settles O37: what the port does with a write it accepts, by its target, and that it does nothing while BUSY. -/
theorem tenantsSubmit : Obligations.TenantsSubmit := by
  unfold Obligations.TenantsSubmit
  refine ⟨?_, ?_, ?_⟩
  · rintro s t o id v m hr h0 h64 hst hidle hval hbar rfl rfl rfl
    exact next_awake hr (tenantDpSubmit_in_range h0 h64 hst hidle hval hbar)
  · intro s t v hr h0 h64 hst hidle hval hbar
    exact next_awake hr (tenantDpSubmit_barred h0 h64 hst hidle hval hbar)
  · intro s t hbusy
    exact next_awake_self (tenantDpSubmit_busy hbusy)

end Sys2Proof.Machine
end

section
namespace Sys2Proof.Machine

/-- An access on a path other than a tenant's, with effect `f`, leaves what `f` leaves. -/
theorem next_access {s : State} {p : Path} {f : Mod → Mod} {m : Mod} (hs : s.mod.Reaches p) (h : f s.mod = m) :
    (.next { s with mod := s.mod.access p f } : Host.Outcome State Fault Refusal) = .next { s with mod := m } := by
  obtain ⟨hheld, hpath⟩ := hs
  rw [Mod.access_runs hheld hpath, h]

/-! ## A tenant's image saved (R227) -/

theorem imageSave_begins {m : Mod} (hfrozen : m.frozenAll (m.num 0x515001) = true) (hfree : m.num 0x515003 < 2) (p : Path) :
    imageSave p 1 m = (({ m with ten := { m.ten with readPos := 0, saving := m.num 0x515001 } } : Mod).set 0x515003 1).report p 0 := by
  have hfree' : ¬ 2 ≤ m.num 0x515003 := by omega
  simp [imageSave, hfrozen, hfree']

theorem imageSave_not_frozen {m : Mod} (hfrozen : m.frozenAll (m.num 0x515001) = false) (p : Path) : imageSave p 1 m = m.report p abState := by
  simp [imageSave, hfrozen]

theorem imageSave_other {v : Nat} (hv : v ≠ 1) (p : Path) (m : Mod) : imageSave p v m = m.report p abValue := if_pos hv

/-- The module once the next `n` octets of `img`, the image being saved, have been read. -/
def Mod.segmentRead (m : Mod) (img : List Byte) (n : Nat) : Mod :=
  ({ m with ten := { m.ten with readPos := m.ten.readPos + n } } : Mod).emit (.data ((img.drop m.ten.readPos).take n))

section
variable {m : Mod} {img : List Byte} (hsaving : m.num 0x515003 = 1) (hfrozen : m.frozenAll m.ten.saving = true)
  (himg : img = m.tenantImage m.ten.saving)
include hsaving hfrozen himg

/-- A segment read while a save is under way gives its octets; at the image's end it ends the save. -/
theorem imageSegmentRead_of_save (p : Path) (n : Nat) : imageSegmentRead p n m =
    (if img.length ≤ m.ten.readPos + n then
      ((({ m.segmentRead img n with ten := { (m.segmentRead img n).ten with saving := 0 } } : Mod).set 0x515003 0).raise 0x0520
        [m.ten.saving, img.length])
    else m.segmentRead img n).report p 0 := by
  rw [himg]
  exact if_neg (by simp [hsaving, hfrozen])

theorem imageSegmentRead_within {n : Nat} (hmore : m.ten.readPos + n < img.length) (p : Path) :
    imageSegmentRead p n m = (m.segmentRead img n).report p 0 := by
  rw [imageSegmentRead_of_save hsaving hfrozen himg, if_neg (by omega)]

theorem imageSegmentRead_last {k : Nat} (hlast : img.length ≤ m.ten.readPos + k) {n : Mod} (hn : n = m.segmentRead img k) (p : Path) :
    imageSegmentRead p k m = ((({ n with ten := { n.ten with saving := 0 } } : Mod).set 0x515003 0).raise 0x0520
      [m.ten.saving, img.length]).report p 0 := by
  rw [imageSegmentRead_of_save hsaving hfrozen himg, if_pos hlast, hn]

end

theorem imageSegmentRead_no_save {m : Mod} (hidle : m.num 0x515003 ≠ 1) (p : Path) (n : Nat) : imageSegmentRead p n m = m.report p abOrder :=
  if_pos (.inl hidle)

/-! ## A tenant's image loaded (R230, R232) -/

/-- The module with `img` as what has come of an image on a path. -/
def Mod.imageLoading (m : Mod) (p : Path) (img : List Byte) : Mod :=
  (({ m with ten := { m.ten with loadBuf := img } } : Mod).set 0x515003 2).report p 0

/-- The module with the check of the whole image reported. -/
def Mod.imageChecked (m : Mod) (p : Path) (img : List Byte) : Mod := (m.set 0x515007 (m.restoreCheck p img)).set 0x515003 0

/-- The module with an image that the check refused dropped, and the SRAM staged for it cleared. -/
def Mod.imageDropped (m : Mod) (p : Path) (t r : Nat) : Mod :=
  (({ m with ten := { m.ten with loadBuf := [] } } : Mod).wipe (sramAt + m.stagedNum p 0x511001 t) (m.stagedNum p 0x511002 t)).raise 0x0521 [t, r]

theorem imageSegmentWrite_out_of_order {m : Mod} {off : Nat} (h0 : 0 < off) (hoff : off ≠ m.ten.loadBuf.length) (p : Path) (bs : List Byte)
    (last : Bool) : imageSegmentWrite p off bs last m = m.report p abOrder :=
  if_pos ⟨by omega, hoff⟩

section
variable {m n : Mod} {p : Path} {off : Nat} {bs img : List Byte} (hoff : off = 0 ∨ off = m.ten.loadBuf.length)
  (himg : img = if off = 0 then bs else m.ten.loadBuf ++ bs) (hn : n = m.imageLoading p img)
include hoff himg hn

/-- A segment in order joins the image, and with the last the image is checked. -/
theorem imageSegmentWrite_in_order (last : Bool) : imageSegmentWrite p off bs last m =
    if !last then n
    else if bit (n.restoreCheck p img) 31 then n.imageChecked p img
    else (n.imageChecked p img).imageDropped p (field img 7 1) (n.restoreCheck p img) := by
  subst himg hn
  exact if_neg (by omega)

theorem imageSegmentWrite_more : imageSegmentWrite p off bs false m = n := imageSegmentWrite_in_order hoff himg hn false

theorem imageSegmentWrite_passes (hpass : bit (n.restoreCheck p img) 31 = true) :
    imageSegmentWrite p off bs true m = n.imageChecked p img := by
  rw [imageSegmentWrite_in_order hoff himg hn, if_neg (by decide), if_pos hpass]

theorem imageSegmentWrite_refused (hfail : bit (n.restoreCheck p img) 31 = false) :
    imageSegmentWrite p off bs true m = (n.imageChecked p img).imageDropped p (field img 7 1) (n.restoreCheck p img) := by
  rw [imageSegmentWrite_in_order hoff himg hn, if_neg (by decide), if_neg (ne_true_of_eq_false hfail)]

end

/-- Settles O38: each clause is the equation of a save, a segment read or a segment written in that case. -/
theorem tenantImages : Obligations.TenantImages := by
  unfold Obligations.TenantImages
  refine ⟨?_, ?_, ?_, ?_, ?_, ?_, ?_, ?_, ?_, ?_, ?_⟩
  · intro s p hs hfrozen hfree
    exact next_gate hs (imageSave_begins hfrozen hfree p)
  · intro s p hs hfrozen
    exact next_gate hs (imageSave_not_frozen hfrozen p)
  · intro s p v hs hv
    exact next_gate hs (imageSave_other hv p s.mod)
  · intro s p n img hs hsaving hfrozen himg hmore
    exact next_access hs (imageSegmentRead_within hsaving hfrozen himg hmore p)
  · intro s p n img m hs hsaving hfrozen himg hlast hm
    exact next_access hs (imageSegmentRead_last hsaving hfrozen himg hlast hm p)
  · intro s p n hs hidle
    exact next_access hs (imageSegmentRead_no_save hidle p n)
  · intro s p off bs hs h0 hoff
    exact next_gate hs (imageSegmentWrite_more (.inr hoff) (if_neg (by omega)).symm rfl)
  · intro s p bs hs
    exact next_gate hs (imageSegmentWrite_more (.inl rfl) rfl rfl)
  · intro s p off bs img m hs hoff himg hm hpass
    exact next_gate hs (imageSegmentWrite_passes hoff himg hm hpass)
  · rintro s p off bs img m n hs hoff himg hm hfail rfl
    exact next_gate hs (imageSegmentWrite_refused hoff himg hm hfail)
  · intro s p off bs last hs h0 hoff
    exact next_gate hs (imageSegmentWrite_out_of_order h0 hoff p bs last)

end Sys2Proof.Machine
end

section
namespace Sys2Proof.Machine

/-! ## Tables whose entries change in place -/

theorem Table.find?_map {α β : Type} (g : Nat → α → β) (t : Table α) (k : Nat) :
    Table.find? (t.map (fun e => (e.1, g e.1 e.2))) k = (Table.find? t k).map (g k) := by
  induction t with
  | nil => rfl
  | cons e t ih =>
    simp only [List.map_cons, Table.find?, ih]
    split
    · subst_vars; rfl
    · split <;> rfl

/-- An entry that a filter keeps is still found. -/
theorem Table.find?_filter {α : Type} {q : Nat × α → Bool} {t : Table α} {k : Nat} {v : α} (hf : Table.find? t k = some v) (hq : q (k, v) = true) :
    Table.find? (t.filter q) k = some v := by
  induction t with
  | nil => cases hf
  | cons e t ih =>
    obtain ⟨i, w⟩ := e
    simp only [Table.find?] at hf
    split at hf
    case isTrue hik =>
      cases hf
      subst hik
      simp [hq, Table.find?]
    case isFalse hik =>
      split at hf
      case isTrue => cases hf
      case isFalse hki =>
        rw [List.filter_cons]
        split
        · rw [Table.find?, if_neg hik, if_neg hki, ih hf]
        · exact ih hf

/-- What no step of a run changes, the run leaves as it was. -/
theorem Mod.each_keeps {α β : Type} (π : Mod → β) {f : Mod → α → Mod} (hf : ∀ m x, π (f m x) = π m) (m : Mod) (l : List α) :
    π (m.each l f) = π m := by
  induction l generalizing m with
  | nil => rfl
  | cons x l ih => exact (ih (f m x)).trans (hf m x)

/-! ## Caches (R187) -/

/-- A hart of which something is kept that is not as after reset is listed. -/
theorem Mod.find?_hart {m : Mod} {j : Nat} (h : m.hart j ≠ {}) : Table.find? m.ten.harts j = some (m.hart j) := by
  cases hf : Table.find? m.ten.harts j with
  | none => exact absurd (by simp [Mod.hart, Table.get, hf]) h
  | some x => simp [Mod.hart, Table.get, hf]

/-- A hart's own store leaves its data cache and its store buffer as they were. -/
theorem Mod.hart_dropLines {m : Mod} {j : Nat} (hbuf : (m.hart j).stores ≠ []) (ls : List Nat) :
    (m.dropLines (some j) ls).hart j = { m.hart j with l1i := (m.hart j).l1i.drop ls } := by
  have hne : m.hart j ≠ {} := fun h => hbuf (by rw [h])
  have hkept : ({ m.hart j with l1i := (m.hart j).l1i.drop ls } : HartSt) ≠ {} := fun h => hbuf (congrArg HartSt.stores h)
  have hfind := Table.find?_map (fun i (h : HartSt) => { h with l1i := h.l1i.drop ls, l1d := if some i = some j then h.l1d else h.l1d.drop ls })
    m.ten.harts j
  rw [Mod.find?_hart hne, Option.map_some, if_pos rfl] at hfind
  rw [Mod.hart, Mod.dropLines, Table.get, Table.find?_filter hfind (decide_eq_true hkept)]
  rfl

/-- A hart's own load leaves the hart as it was: only other data caches are cleaned. -/
theorem Mod.hart_cleanLines (m : Mod) (j : Nat) (ls : List Nat) : (m.cleanLines j ls).hart j = m.hart j := by
  have hfind := Table.find?_map (fun i (h : HartSt) => if i = j then h else { h with l1d := h.l1d.clean ls }) m.ten.harts j
  simp only [Mod.hart, Mod.cleanLines, Table.get, hfind, if_pos]
  cases Table.find? m.ten.harts j <;> rfl

/-- The fill of a data cache changes that cache of the hart alone, once the other caches have given up their copies. -/
theorem Mod.hart_fillLines {m x : Mod} {j a n : Nat} {dirty : Bool}
    (hx : x = if dirty then m.dropLines (some j) (linesOf a n) else m.cleanLines j (linesOf a n)) (hne : ∀ c, { x.hart j with l1d := c } ≠ {}) :
    ∃ c, (m.fillLines j a n false dirty).hart j = { x.hart j with l1d := c } := by
  subst hx
  exact ⟨_, Mod.hart_setHart (Mod.draw _ 5).2 j (hne _)⟩

/-- Filling caches changes no memory, no object and no bit, and nothing leaves the module. -/
theorem Mod.fillLines_frame (m : Mod) (j a n : Nat) (fetch dirty : Bool) :
    (m.fillLines j a n fetch dirty).mem = m.mem ∧ (m.fillLines j a n fetch dirty).dict = m.dict ∧
      (m.fillLines j a n fetch dirty).raised = m.raised ∧ (m.fillLines j a n fetch dirty).out = m.out ∧
      (m.fillLines j a n fetch dirty).bits = m.bits := by
  cases dirty <;> exact ⟨rfl, rfl, rfl, rfl, rfl⟩

theorem Mod.cached_frame (m : Mod) (j : Nat) (acc : CoreAccess) (a n : Nat) :
    (m.cached j acc a n).mem = m.mem ∧ (m.cached j acc a n).dict = m.dict ∧ (m.cached j acc a n).raised = m.raised ∧
      (m.cached j acc a n).out = m.out ∧ (m.cached j acc a n).bits = m.bits := by
  unfold Mod.cached
  split
  · exact m.fillLines_frame ..
  · exact ⟨rfl, rfl, rfl, rfl, rfl⟩

/-- A store leaves the hart's buffered stores as they were. -/
theorem Mod.stores_cached_store {m : Mod} {j : Nat} (hbuf : (m.hart j).stores ≠ []) (a n : Nat) :
    ((m.cached j .store a n).hart j).stores = (m.hart j).stores := by
  unfold Mod.cached
  split
  · have hdrop := Mod.hart_dropLines hbuf (linesOf a n)
    obtain ⟨c, hc⟩ := Mod.hart_fillLines (m := m) (j := j) (a := a) (n := n) (dirty := true) rfl
      (fun c h => hbuf (by have := congrArg HartSt.stores h; rwa [if_pos rfl, hdrop] at this))
    show ((m.fillLines j a n false true).hart j).stores = _
    rw [hc, if_pos rfl, hdrop]
  · rfl

/-- A load leaves the octets loaded as they were. -/
theorem Mod.loaded_cached_load {m : Mod} {j : Nat} (hload : (m.hart j).loaded ≠ []) (a n : Nat) :
    ((m.cached j .load a n).hart j).loaded = (m.hart j).loaded := by
  unfold Mod.cached
  split
  · have hclean := m.hart_cleanLines j (linesOf a n)
    obtain ⟨c, hc⟩ := Mod.hart_fillLines (m := m) (j := j) (a := a) (n := n) (dirty := false) rfl
      (fun c h => hload (by have := congrArg HartSt.loaded h; rwa [if_neg (by simp), hclean] at this))
    show ((m.fillLines j a n false false).hart j).loaded = _
    rw [hc, if_neg (by simp), hclean]
  · rfl

/-! ## Forwarding from the store buffer (R198) -/

theorem length_overlay (e : Nat × List Byte) (a : Nat) (bs : List Byte) : (overlay e a bs).length = bs.length := by
  simp [overlay, indexed]

theorem HartSt.length_forwarded (h : HartSt) (a : Nat) (bs : List Byte) : (h.forwarded a bs).length = bs.length := by
  unfold HartSt.forwarded
  induction h.stores generalizing bs with
  | nil => rfl
  | cons e l ih => rw [List.foldl_cons, ih, length_overlay]

theorem HartSt.forwarded_empty {h : HartSt} (hbuf : h.stores = []) (a : Nat) (bs : List Byte) : h.forwarded a bs = bs := by
  rw [HartSt.forwarded, hbuf, List.foldl_nil]

/-- An entry as long as a run at its address covers it. -/
theorem overlay_whole {new bs : List Byte} (hlen : new.length = bs.length) (a : Nat) : overlay (a, new) a bs = new := by
  apply List.ext_getElem
  · rw [length_overlay, hlen]
  · intro i _ hi
    simp [overlay, indexed, hi]

theorem length_readN (m : Memory) (a n : Nat) : (Memory.readN m a n).length = n := by
  induction n generalizing a with
  | zero => rfl
  | succ n ih => simp [Memory.readN, ih]

/-! ## The store buffer (R198) -/

/-- The cacheable regions that can be written (R191). -/
abbrev Region.Ram (r : Region) : Prop := r = .tenantSram ∨ r = .supSram ∨ r = .clicker

theorem Region.Ram.cacheable {r : Region} (h : r.Ram) : cacheable r = true := by rcases h with rfl | rfl | rfl <;> rfl

theorem Region.Ram.ne_remote {r : Region} (h : r.Ram) : r ≠ .remote := by rcases h with rfl | rfl | rfl <;> decide

theorem Region.Ram.ne_device {r : Region} (h : r.Ram) : r ≠ .device := by rcases h with rfl | rfl | rfl <;> decide

theorem Region.Ram.ne_vf {r : Region} (h : r.Ram) : r ≠ .vf := by rcases h with rfl | rfl | rfl <;> decide

theorem storeEntries_ne_nil (a : Nat) (bs : List Byte) : storeEntries a bs ≠ [] := by
  unfold storeEntries
  split
  · simp
  · have hblocks : bs.length / 16 ≠ 0 := by omega
    simp [hblocks]

theorem Mod.bufferStore_room {m : Mod} {j a : Nat} {bs : List Byte} (hroom : (m.hart j).stores.length + (storeEntries a bs).length ≤ 8)
    (hreg : regionOf a ≠ .remote) (env : Env) :
    m.bufferStore env j a bs = m.setHart j { m.hart j with stores := (m.hart j).stores ++ storeEntries a bs } := by
  have hfull : ¬ 8 < (m.hart j).stores.length + (storeEntries a bs).length := by omega
  have hdrain : (m.hart j).stores.length + (storeEntries a bs).length - 8 = 0 := by omega
  simp only [Mod.bufferStore, hdrain, Mod.drainStores, if_neg hfull, if_neg hreg]

/-- Reservations that are lost change harts alone. -/
theorem Mod.loseReservations_frame (m : Mod) (j : Option Nat) (a n : Nat) :
    (m.loseReservations j a n).mem = m.mem ∧ (m.loseReservations j a n).dict = m.dict ∧ (m.loseReservations j a n).raised = m.raised ∧
      (m.loseReservations j a n).out = m.out := by
  unfold Mod.loseReservations
  exact ⟨Mod.each_keeps Mod.mem (by exact fun _ _ => rfl) .., Mod.each_keeps Mod.dict (by exact fun _ _ => rfl) ..,
    Mod.each_keeps Mod.raised (by exact fun _ _ => rfl) .., Mod.each_keeps Mod.out (by exact fun _ _ => rfl) ..⟩

/-- A hart's octets stored in RAM. -/
theorem Mod.physWrite_ram {m : Mod} {a : Nat} {bs : List Byte} (hreg : (regionOf a).Ram) (hin : inRegion (regionOf a) a bs.length = true)
    (env : Env) (i : Nat) (mMode : Bool) : m.physWrite env (some i) mMode a bs = (m.poke a bs).loseReservations (some i) a bs.length := by
  rcases hreg with h | h | h <;> rw [h] at hin <;> simp [Mod.physWrite, h, hin]

/-- The only buffered store, to RAM, drains into its place. -/
theorem Mod.drainAll_ram {m : Mod} {j a : Nat} {bs : List Byte} (hbuf : (m.hart j).stores = [(a, bs)]) (hreg : (regionOf a).Ram)
    (hin : inRegion (regionOf a) a bs.length = true) (env : Env) :
    m.drainAll env j = ((m.setHart j { m.hart j with stores := [] }).poke a bs).loseReservations (some j) a bs.length := by
  have hleaves : m.storeLeaves (a, bs) = true := by simp [Mod.storeLeaves, hreg.ne_remote]
  simp [Mod.drainAll, hbuf, Mod.drainStores, hleaves, Mod.coreStore, hreg.ne_remote, Mod.physWrite_ram hreg hin]

theorem Mod.drainSome_empty {m : Mod} (h : ∀ e, e ∈ m.ten.harts → e.2.stores = []) (env : Env) : m.drainSome env = m := by
  have hnone : m.ten.harts.filter (fun e => !e.2.stores.isEmpty) = [] := by
    rw [List.filter_eq_nil_iff]
    intro e he
    simp [h e he]
  rw [Mod.drainSome, hnone]
  rfl

/-! ## CORE_MEMORY_ACCESS (R189, R191, R194, R198) -/

theorem coreMemoryAccess_completes {m n : Mod} {j a k : Nat} {acc : CoreAccess} {env : Env} (hruns : m.coreRuns j acc a k = true)
    (hn : n = m.drainSome env) (htrap : n.coreTrap j acc a k = none) (bs : List Byte) :
    coreMemoryAccess j acc a k bs env m = (n.coreAct env j acc a k (slice bs 0 k)).cached j acc a k := by
  simp [coreMemoryAccess, hruns, ← hn, htrap]

theorem coreMemoryAccess_traps {m n : Mod} {j a k cause : Nat} {hs : Bool} {acc : CoreAccess} {env : Env} (hruns : m.coreRuns j acc a k = true)
    (hn : n = m.drainSome env) (htrap : n.coreTrap j acc a k = some (cause, hs)) (bs : List Byte) :
    coreMemoryAccess j acc a k bs env m = n.trap j cause a hs := by
  simp [coreMemoryAccess, hruns, ← hn, htrap]

/-- An access that is no store to a device register has its effect. -/
theorem exec_coreMemoryAccess {s : State} {j a k : Nat} {acc : CoreAccess} (h : s.mod.deviceStore j acc a k = false) (bs : List Byte) (env : Env) :
    exec (.coreMemoryAccess j acc a k bs env) s = .next { s with mod := coreMemoryAccess j acc a k bs env s.mod } :=
  if_neg (by simp [h])

theorem Mod.deviceStore_of_region {m : Mod} {a : Nat} (h : regionOf a ≠ .device) (j : Nat) (acc : CoreAccess) (k : Nat) :
    m.deviceStore j acc a k = false := by
  simp [Mod.deviceStore, h]

theorem Mod.deviceStore_of_trap {m : Mod} {j a k : Nat} {acc : CoreAccess} {x : Nat × Bool} (h : m.coreTrap j acc a k = some x) :
    m.deviceStore j acc a k = false := by
  simp [Mod.deviceStore, h]

/-- A store to RAM for which there is room enters the store buffer. -/
theorem Mod.coreAct_store_ram {m : Mod} {j a n : Nat} {bs : List Byte} (hreg : (regionOf a).Ram)
    (hroom : (m.hart j).stores.length + (storeEntries a bs).length ≤ 8) (env : Env) :
    m.coreAct env j .store a n bs = m.setHart j { m.hart j with stores := (m.hart j).stores ++ storeEntries a bs } := by
  simp [Mod.coreAct, accAtomic, buffered, hreg.cacheable, Mod.bufferStore_room hroom hreg.ne_remote]

theorem Mod.loadOctets_ram {m : Mod} {a n : Nat} (hreg : (regionOf a).Ram) (hin : inRegion (regionOf a) a n = true) (j : Option Nat) :
    m.loadOctets a n j = some (Memory.readN m.mem a n, m) := by
  rcases hreg with h | h | h <;> rw [h] at hin <;> simp [Mod.loadOctets, Mod.physRead, h, hin]

/-- A load of RAM sees the hart's own buffered stores over what stands there. -/
theorem Mod.coreAct_load_ram {m : Mod} {j a n : Nat} (hreg : (regionOf a).Ram) (hin : inRegion (regionOf a) a n = true) (env : Env) (bs : List Byte) :
    m.coreAct env j .load a n bs = m.setHart j { m.hart j with loaded := (m.hart j).forwarded a (Memory.readN m.mem a n) } := by
  have hsync : a ≠ 0x580000E0 := by
    rintro rfl
    exact hreg.ne_vf (by decide)
  simp [Mod.coreAct, accAtomic, buffered, hreg.cacheable, Mod.coreLoad, hreg.ne_remote, hreg.ne_vf, hsync, Mod.loadOctets_ram hreg hin, Mod.setLoaded]

/-- A store-conditional without the reservation stores nothing, and the reservation is gone. -/
theorem Mod.coreAct_sc_unreserved {m : Mod} {j a : Nat} (hbuf : (m.hart j).stores = []) (hres : (m.hart j).reserved ≠ some a) (env : Env) (n : Nat)
    (bs : List Byte) : m.coreAct env j .sc a n bs = m.setHart j { m.hart j with reserved := none, scOk := false } := by
  simp [Mod.coreAct, accAtomic, Mod.drainAll, Mod.drainStores, hbuf, beq_false_of_ne hres]

/-- The widths of a load are not 0. -/
theorem Mod.load_width_pos {m : Mod} {j a n : Nat} (h : m.coreRuns j .load a n = true) : n ≠ 0 := by
  rintro rfl
  simp [Mod.coreRuns, widthOk] at h

/-- Settles O39: the access's effect on the module that the drained stores leave, and what the caches then leave of it. -/
theorem coreAccesses : Obligations.CoreAccesses := by
  unfold Obligations.CoreAccesses
  refine ⟨?_, ?_, ?_, ?_, ?_, ?_, ?_, ?_, ?_, ?_⟩
  · intro s j a n bs env m hruns hm htrap hreg hroom
    refine ⟨_, exec_coreMemoryAccess (Mod.deviceStore_of_region (Region.Ram.ne_device hreg) ..) bs env, ?_⟩
    simp only [coreMemoryAccess_completes hruns hm htrap, Mod.coreAct_store_ram hreg hroom]
    have hbuf : (m.hart j).stores ++ storeEntries a (slice bs 0 n) ≠ [] := by simp [storeEntries_ne_nil]
    have hhart : (m.setHart j { m.hart j with stores := (m.hart j).stores ++ storeEntries a (slice bs 0 n) }).hart j =
        { m.hart j with stores := (m.hart j).stores ++ storeEntries a (slice bs 0 n) } :=
      Mod.hart_setHart m j fun h => hbuf (congrArg HartSt.stores h)
    obtain ⟨hmem, hdict, hraised, hout, hbits⟩ :=
      (m.setHart j { m.hart j with stores := (m.hart j).stores ++ storeEntries a (slice bs 0 n) }).cached_frame j .store a n
    refine ⟨?_, hmem, hdict, hraised, hout, hbits⟩
    rw [Mod.stores_cached_store (by rw [hhart]; exact hbuf), hhart]
  · intro m j a bs env hg hbuf hreg hin
    obtain ⟨hmem, hdict, hraised, hout⟩ :=
      ((m.setHart j { m.hart j with stores := [] }).poke a bs).loseReservations_frame (some j) a bs.length
    rw [Mod.drainAll_ram hbuf hreg hin, hmem]
    exact ⟨Memory.readN_writeN a bs hg.mem, fun x hx => Memory.read_writeN_ne bs hx hg.mem, hdict, hraised, hout⟩
  · intro s j a n bs env m hruns hm htrap hreg hin
    refine ⟨_, exec_coreMemoryAccess (Mod.deviceStore_of_region (Region.Ram.ne_device hreg) ..) bs env, ?_⟩
    simp only [coreMemoryAccess_completes hruns hm htrap, Mod.coreAct_load_ram hreg hin]
    have hload : (m.hart j).forwarded a (Memory.readN m.mem a n) ≠ [] := by
      rw [← List.length_pos_iff_ne_nil, HartSt.length_forwarded, length_readN]
      exact Nat.pos_of_ne_zero (Mod.load_width_pos hruns)
    have hhart : (m.setHart j { m.hart j with loaded := (m.hart j).forwarded a (Memory.readN m.mem a n) }).hart j =
        { m.hart j with loaded := (m.hart j).forwarded a (Memory.readN m.mem a n) } :=
      Mod.hart_setHart m j fun h => hload (congrArg HartSt.loaded h)
    obtain ⟨hmem, hdict, hraised, hout, hbits⟩ :=
      (m.setHart j { m.hart j with loaded := (m.hart j).forwarded a (Memory.readN m.mem a n) }).cached_frame j .load a n
    refine ⟨?_, hmem, hdict, hraised, hout, hbits⟩
    rw [Mod.loaded_cached_load (by rw [hhart]; exact hload), hhart]
  · intro h a bs hbuf
    exact HartSt.forwarded_empty hbuf a bs
  · intro h a bs new hbuf hlen
    rw [HartSt.forwarded, hbuf, List.foldl_cons, List.foldl_nil, overlay_whole hlen]
  · intro s j a n bs env m hruns hm htrap hbuf hres hreg
    rw [exec_coreMemoryAccess (Mod.deviceStore_of_region hreg ..), coreMemoryAccess_completes hruns hm htrap, Mod.coreAct_sc_unreserved hbuf hres]
  · intro m j a n acc
    obtain ⟨hmem, hdict, hraised, hout, -⟩ := m.cached_frame j acc a n
    exact ⟨hmem, hdict, hraised, hout⟩
  · intro s j a n cause hs acc bs env m hruns htrap hm htrap'
    rw [exec_coreMemoryAccess (Mod.deviceStore_of_trap htrap), coreMemoryAccess_traps hruns hm htrap']
  · intro m env h
    exact Mod.drainSome_empty h env
  · intro s j a n acc bs env hruns htrap hacc hreg
    exact if_pos (by simp [Mod.deviceStore, hruns, htrap, hacc, hreg])

end Sys2Proof.Machine
end

section
namespace Sys2Proof.Machine

/-- A command that is not held back in reset and has effect `n` leaves `m` where the two are the same module. -/
theorem next_of_eq {s : State} {n m : Mod} (h : n = m) :
    (.next { s with mod := n } : Host.Outcome State Fault Refusal) = .next { s with mod := m } := by rw [h]

theorem next_self_of_eq {s : State} {n : Mod} (h : n = s.mod) : (.next { s with mod := n } : Host.Outcome State Fault Refusal) = .next s := by rw [h]

/-! ## What a reset leaves (R199, R535, R536) -/

theorem Mod.tearRecord_frame (m : Mod) (torn : Nat) : (m.tearRecord torn).nv = m.nv ∧ (m.tearRecord torn).power = m.power := by
  unfold Mod.tearRecord
  split
  · split
    · exact ⟨rfl, rfl⟩
    · split <;> exact ⟨rfl, rfl⟩
  · exact ⟨rfl, rfl⟩

theorem Mod.tearMram_frame (m : Mod) : m.tearMram.nv = m.nv ∧ m.tearMram.power = m.power :=
  ⟨Mod.each_keeps Mod.nv (by exact fun _ _ => rfl) .., Mod.each_keeps Mod.power (by exact fun _ _ => rfl) ..⟩

theorem Mod.setDrive_frame (m : Mod) (d : Drive) : (m.setDrive d).nv = m.nv ∧ (m.setDrive d).power = m.power := by
  unfold Mod.setDrive
  split <;> exact ⟨rfl, rfl⟩

theorem Mod.setXspi_same {m : Mod} {level : Bool} (h : m.power.xspi = level) : m.setXspi level = m := if_pos h

theorem Mod.setXspi_other {m : Mod} {level : Bool} (h : m.power.xspi ≠ level) :
    m.setXspi level = ({ m with power := { m.power with xspi := level } } : Mod).emit (.xspiReset level) := if_neg h

theorem Mod.setXspi_frame (m : Mod) (level : Bool) :
    (m.setXspi level).nv = m.nv ∧ (m.setXspi level).dict = m.dict ∧ (m.setXspi level).power.tempMax = m.power.tempMax := by
  unfold Mod.setXspi
  split <;> exact ⟨rfl, rfl, rfl⟩

/-- The module as a reset finds it: the record and the MRAM writes under way torn, its outputs at rest. -/
def Mod.torn (m : Mod) (torn : Nat) : Mod := (((m.tearRecord torn).tearMram).setDrive .off).setXspi false

theorem Mod.resetState_eq (m : Mod) (c torn : Nat) : m.resetState c torn =
    ({ (m.torn torn).cleared c with welt := { ((m.torn torn).cleared c).welt with tags := m.quarantined } } : Mod).set 0x613001 m.quarantined.length := rfl

theorem Mod.torn_frame (m : Mod) (torn : Nat) : (m.torn torn).nv = m.nv ∧ (m.torn torn).power.tempMax = m.power.tempMax := by
  obtain ⟨hnv, -, htemp⟩ := (((m.tearRecord torn).tearMram).setDrive .off).setXspi_frame false
  obtain ⟨hnv1, hpower1⟩ := ((m.tearRecord torn).tearMram).setDrive_frame .off
  obtain ⟨hnv2, hpower2⟩ := (m.tearRecord torn).tearMram_frame
  obtain ⟨hnv3, hpower3⟩ := m.tearRecord_frame torn
  exact ⟨hnv.trans (hnv1.trans (hnv2.trans hnv3)), htemp.trans (by rw [hpower1, hpower2, hpower3])⟩

theorem Mod.resetState_nv (m : Mod) (c torn : Nat) : (m.resetState c torn).nv = m.nv := (m.torn_frame torn).1

theorem Mod.resetState_tempMax (m : Mod) (c torn : Nat) : (m.resetState c torn).power.tempMax = m.power.tempMax := (m.torn_frame torn).2

/-- After a reset every object but the count of quarantined reads is at its default. -/
theorem Mod.val_resetState (m : Mod) (c torn : Nat) {o i : Nat} (h : objKey o i ≠ objKey 0x613001 0) :
    (m.resetState c torn).val o i = ({} : Mod).val o i := by
  rw [Mod.resetState_eq, Mod.set, Mod.val_setVal_ne dictWf_nil _ h]
  rfl

theorem Table.find?_filter_none {α : Type} {q : Nat × α → Bool} (t : Table α) {k : Nat} (hq : ∀ v, q (k, v) = false) :
    Table.find? (t.filter q) k = none := by
  induction t with
  | nil => rfl
  | cons e t ih =>
    obtain ⟨i, w⟩ := e
    rw [List.filter_cons]
    split
    case isTrue hkept =>
      have hik : i ≠ k := by
        rintro rfl
        simp [hq] at hkept
      simp [Table.find?, hik, ih]
    case isFalse => exact ih

/-- No memory but MRAM stands after a reset. -/
theorem Memory.read_resetState (m : Mod) (c torn : Nat) {a : Nat} (ha : a < 0x60000000 ∨ 0x61000000 ≤ a) :
    Memory.read (m.resetState c torn).mem a = Memory.read [] a := by
  have hout : isMram a = false := decide_eq_false (by omega)
  have hnone : Table.find? ((m.torn torn).mem.filter (fun e => isMram e.1)) a = none := Table.find?_filter_none _ (fun _ => hout)
  change (Table.find? ((m.torn torn).mem.filter (fun e => isMram e.1)) a).getD _ = _
  rw [hnone]
  rfl

/-! ## Start-up (R497, R535, R538) -/

theorem resetRelease_starts {m : Mod} (hheld : m.power.held = 1) (hfactory : m.power.factory = false) (pos ref : Nat) :
    resetRelease ⟨pos, false⟩ ref m = m.startUp pos ref := by
  simp [resetRelease, hheld, hfactory]

theorem resetRelease_test {m : Mod} (hheld : m.power.held = 1) (hfactory : m.power.factory = false) (pos ref : Nat) :
    resetRelease ⟨pos, true⟩ ref m = { m with power := { m.power with factory := true } } := by
  simp [resetRelease, hheld, hfactory]

theorem resetRelease_ignored {m : Mod} (h : m.power.held ≠ 1 ∨ m.power.factory = true) (pins : Straps) (ref : Nat) : resetRelease pins ref m = m :=
  if_pos h

theorem internalResetEnd_starts {m : Mod} (hheld : 2 ≤ m.power.held)
    (hcool : m.power.held ≠ 6 ∨ b32.le m.power.tempMax (b32.sub m.power.trip 0x41700000) = true) (pos ref : Nat) :
    internalResetEnd pos ref m = m.startUp pos ref := by
  refine if_neg ?_
  rintro (hlow | ⟨hthermal, hhot⟩)
  · omega
  · rcases hcool with h | h
    · exact h hthermal
    · simp [h] at hhot

theorem internalResetEnd_held {m : Mod}
    (h : m.power.held < 2 ∨ (m.power.held = 6 ∧ b32.le m.power.tempMax (b32.sub m.power.trip 0x41700000) = false)) (pos ref : Nat) :
    internalResetEnd pos ref m = m :=
  if_pos (h.imp_right fun ⟨hthermal, hhot⟩ => ⟨hthermal, by rw [hhot]; rfl⟩)

/-- Objects set in turn, each of them at its number 0. -/
def Mod.sets (m : Mod) (l : List (Nat × Nat)) : Mod := l.foldl (fun m e => m.set e.1 e.2) m

theorem Mod.sets_good {m : Mod} (hg : m.Good) (l : List (Nat × Nat)) : (m.sets l).Good := by
  induction l generalizing m with
  | nil => exact hg
  | cons e l ih => exact ih (Mod.set_good hg _ _ _)

theorem Mod.sets_mem (m : Mod) (l : List (Nat × Nat)) : (m.sets l).mem = m.mem := by
  induction l generalizing m with
  | nil => rfl
  | cons e l ih => exact ih (m.set e.1 e.2)

theorem Mod.sets_power (m : Mod) (l : List (Nat × Nat)) : (m.sets l).power = m.power := by
  induction l generalizing m with
  | nil => rfl
  | cons e l ih => exact ih (m.set e.1 e.2)

theorem Mod.num_sets_of_not_set {m : Mod} (hg : m.Good) {l : List (Nat × Nat)} {o : Nat} (ho : ∀ e ∈ l, o ≠ e.1) : (m.sets l).num o = m.num o := by
  induction l generalizing m with
  | nil => rfl
  | cons e l ih =>
    obtain ⟨hoe, hol⟩ := List.forall_mem_cons.mp ho
    exact (ih (Mod.set_good hg _ _ _) hol).trans (Mod.num_set_ne hg.dict _ (objKey_ne_same hoe 0))

/-- Of objects that differ, each reads what it was set to. -/
theorem Mod.num_sets {m : Mod} (hg : m.Good) {l : List (Nat × Nat)} (hl : l.Pairwise (fun e f => e.1 ≠ f.1)) {e : Nat × Nat} (he : e ∈ l) :
    (m.sets l).num e.1 = e.2 := by
  induction l generalizing m with
  | nil => cases he
  | cons x l ih =>
    obtain ⟨hx, hl⟩ := List.pairwise_cons.mp hl
    have hg' := Mod.set_good hg x.1 x.2 0
    rcases List.mem_cons.mp he with rfl | he
    · exact (Mod.num_sets_of_not_set hg' hx).trans (Mod.num_set hg.dict _ _ _)
    · exact ih hg' hl he

/-- Drawing octets takes free values and does nothing else. -/
theorem Mod.drawOctets_module (m : Mod) (n : Nat) : (m.drawOctets n).2 = { m with freeCount := m.freeCount + n } := by
  induction n generalizing m with
  | zero => rfl
  | succ n ih =>
    rw [Mod.drawOctets]
    simp only [ih, Mod.draw]
    congr 1
    omega

/-- A new nonce is 16 octets at 0x6400.03. -/
theorem Mod.newNonce_eq (m : Mod) : m.newNonce = ({ m with freeCount := m.freeCount + 16 } : Mod).setOct 0x640003 (m.drawOctets 16).1 := by
  rw [← Mod.drawOctets_module]
  rfl

theorem Mod.newNonce_frame (m : Mod) : m.newNonce.mem = m.mem ∧ m.newNonce.power = m.power := by
  rw [Mod.newNonce_eq]
  exact ⟨rfl, rfl⟩

theorem Mod.num_newNonce {m : Mod} (hg : m.Good) {o : Nat} (ho : o ≠ 0x640003) : m.newNonce.num o = m.num o := by
  have hkey : objKey o 0 ≠ objKey 0x640003 0 := objKey_ne_same ho 0
  rw [Mod.newNonce_eq]
  exact Mod.num_setOct_ne (m := { m with freeCount := m.freeCount + 16 }) hg.dict _ hkey

/-- The step that BOOT_STEP is in, completed: its duration is filed and the next one begins. -/
theorem Mod.stepDone_current {m : Mod} {n : Nat} (h : m.num 0x203001 = n) :
    ∃ b, m.stepDone n = ((m.draw 32).2.setOct 0x203003 b).set 0x203001 (n + 1) :=
  ⟨_, if_neg (not_not_intro h)⟩

theorem Mod.stepDone_other {m : Mod} {n : Nat} (h : m.num 0x203001 ≠ n) : m.stepDone n = m := if_pos h

theorem Mod.num_stepDone {m : Mod} (hg : m.Good) {n : Nat} (h : m.num 0x203001 = n) : (m.stepDone n).num 0x203001 = n + 1 := by
  obtain ⟨b, hb⟩ := Mod.stepDone_current h
  rw [hb, Mod.num_set (dictWf_putVal _ _ hg.dict)]

theorem Mod.num_stepDone_ne {m : Mod} (hg : m.Good) (n : Nat) {o : Nat} (hstep : o ≠ 0x203001) (htimes : o ≠ 0x203003) :
    (m.stepDone n).num o = m.num o := by
  by_cases h : m.num 0x203001 = n
  · obtain ⟨b, hb⟩ := Mod.stepDone_current h
    have hwf : dictWf (m.draw 32).2.dict = true := hg.dict
    rw [hb, Mod.num_set_ne (dictWf_putVal _ _ hwf) _ (objKey_ne_same hstep 0), Mod.num_setOct_ne hwf _ (objKey_ne_same htimes 0)]
    rfl
  · rw [Mod.stepDone_other h]

theorem Mod.stepDone_frame (m : Mod) (n : Nat) : (m.stepDone n).mem = m.mem ∧ (m.stepDone n).power = m.power := by
  by_cases h : m.num 0x203001 = n
  · obtain ⟨b, hb⟩ := Mod.stepDone_current h
    rw [hb]
    exact ⟨rfl, rfl⟩
  · rw [Mod.stepDone_other h]
    exact ⟨rfl, rfl⟩

/-- Steps 1 to 3 of start-up. -/
def Mod.firstSteps (m : Mod) : Mod := (((m.set 0x203001 1).stepDone 1).stepDone 2).stepDone 3

theorem Mod.firstSteps_frame (m : Mod) : m.firstSteps.mem = m.mem ∧ m.firstSteps.power = m.power := by
  obtain ⟨hmem1, hpower1⟩ := (m.set 0x203001 1).stepDone_frame 1
  obtain ⟨hmem2, hpower2⟩ := ((m.set 0x203001 1).stepDone 1).stepDone_frame 2
  obtain ⟨hmem3, hpower3⟩ := (((m.set 0x203001 1).stepDone 1).stepDone 2).stepDone_frame 3
  exact ⟨hmem3.trans (hmem2.trans hmem1), hpower3.trans (hpower2.trans hpower1)⟩

section
variable {m : Mod} (hg : m.Good)
include hg

theorem Mod.num_firstSteps : m.firstSteps.num 0x203001 = 4 := by
  have hg0 := Mod.set_good hg 0x203001 1 0
  have hg1 := Mod.stepDone_good hg0 1
  exact Mod.num_stepDone (Mod.stepDone_good hg1 2) (Mod.num_stepDone hg1 (Mod.num_stepDone hg0 (Mod.num_set hg.dict _ _ _)))

theorem Mod.num_firstSteps_ne {o : Nat} (hstep : o ≠ 0x203001) (htimes : o ≠ 0x203003) : m.firstSteps.num o = m.num o := by
  have hg0 := Mod.set_good hg 0x203001 1 0
  have hg1 := Mod.stepDone_good hg0 1
  rw [Mod.firstSteps, Mod.num_stepDone_ne (Mod.stepDone_good hg1 2) 3 hstep htimes, Mod.num_stepDone_ne hg1 2 hstep htimes,
    Mod.num_stepDone_ne hg0 1 hstep htimes, Mod.num_set_ne hg.dict _ (objKey_ne_same hstep 0)]

end

/-- The module as the release of a reset finds it: held no longer, each fuse group read as blown or not. -/
def Mod.sensed (m : Mod) : Mod :=
  { m.released with nv := { m.nv with fuses := { m.nv.fuses with groups := m.nv.fuses.groups.map (fun g => if g = 0 then 0 else 255) } } }

theorem Mod.sensed_good {m : Mod} (hg : m.Good) : m.sensed.Good := ⟨hg.dict, hg.mem, Nat.zero_le 7⟩

/-- The objects that start-up sets before its steps. -/
def Mod.startObjs (m : Mod) (pos ref : Nat) : List (Nat × Nat) :=
  [(0x203002, m.power.held), (0x600001, pos % 4), (0x205002, ref % 4096), (0x205003, 15), (0x204003, m.nv.fuses.vcoreMin),
   (0x206002, m.power.tempMax), (0x206005, m.power.tempMax), (0x643002, 1), (0x643005, m.nv.ledger.length)]

theorem Mod.startUp_eq (m : Mod) (pos ref : Nat) : m.startUp pos ref = (m.sensed.sets (m.startObjs pos ref)).newNonce.firstSteps := rfl

theorem Mod.startUp_frame (m : Mod) (pos ref : Nat) : (m.startUp pos ref).mem = m.mem ∧ (m.startUp pos ref).power.held = 0 := by
  obtain ⟨hmem, hpower⟩ := (m.sensed.sets (m.startObjs pos ref)).newNonce.firstSteps_frame
  obtain ⟨hmem1, hpower1⟩ := (m.sensed.sets (m.startObjs pos ref)).newNonce_frame
  rw [Mod.startUp_eq, hmem, hpower, hmem1, hpower1, Mod.sets_mem, Mod.sets_power]
  exact ⟨rfl, rfl⟩

section
variable {m : Mod} (hg : m.Good) (pos ref : Nat)
include hg

theorem Mod.num_startUp_step : (m.startUp pos ref).num 0x203001 = 4 := by
  rw [Mod.startUp_eq]
  exact Mod.num_firstSteps (Mod.newNonce_good (Mod.sets_good (Mod.sensed_good hg) _))

/-- An object that start-up sets reads its value after it. -/
theorem Mod.num_startUp {e : Nat × Nat} (he : e ∈ m.startObjs pos ref) (hstep : e.1 ≠ 0x203001) (htimes : e.1 ≠ 0x203003) (hnonce : e.1 ≠ 0x640003) :
    (m.startUp pos ref).num e.1 = e.2 := by
  have hsets := Mod.sets_good (Mod.sensed_good hg) (m.startObjs pos ref)
  rw [Mod.startUp_eq, Mod.num_firstSteps_ne (Mod.newNonce_good hsets) hstep htimes, Mod.num_newNonce hsets hnonce,
    Mod.num_sets (Mod.sensed_good hg) (by simp [Mod.startObjs]) he]

theorem Mod.num_startUp_all : (m.startUp pos ref).num 0x203002 = m.power.held ∧ (m.startUp pos ref).num 0x600001 = pos % 4 ∧
    (m.startUp pos ref).num 0x643002 = 1 :=
  ⟨Mod.num_startUp hg pos ref (e := (0x203002, m.power.held)) (by simp [Mod.startObjs]) (by simp) (by simp) (by simp),
    Mod.num_startUp hg pos ref (e := (0x600001, pos % 4)) (by simp [Mod.startObjs]) (by simp) (by simp) (by simp),
    Mod.num_startUp hg pos ref (e := (0x643002, 1)) (by simp [Mod.startObjs]) (by simp) (by simp) (by simp)⟩

end

/-! ## Secure boot and the steps after it (R479, R538) -/

theorem Mod.copyCause_setXspi (m : Mod) (level : Bool) (b : Option (List Byte)) : (m.setXspi level).copyCause b = m.copyCause b := by
  by_cases h : m.power.xspi = level
  · rw [Mod.setXspi_same h]
  · rw [Mod.setXspi_other h]
    rfl

section
variable {m : Mod} (hstep : m.num 0x203001 = 4) (hhalt : m.power.halted = false)
include hstep hhalt

/-- In step 4 the copies are tried in turn once XSPI_RESET_N is high. -/
theorem secureBoot_tries (a b : Option (List Byte)) : secureBoot a b m =
    if m.copyCause a = 0 then (m.setXspi true).bootFrom 0 0 (a.getD [])
    else if m.copyCause b = 0 then (m.setXspi true).bootFrom 1 (m.copyCause a) (b.getD [])
    else (({ m.setXspi true with power := { (m.setXspi true).power with halted := true } } : Mod).set 0x644003
      (m.copyCause a + 256 * m.copyCause b)).raise 0x0A11 [m.copyCause a, m.copyCause b] := by
  have hboots : ¬ (m.num 0x203001 ≠ 4 ∨ m.power.halted = true) := by simp [hstep, hhalt]
  rw [secureBoot, if_neg hboots]
  simp only [Mod.copyCause_setXspi]

theorem secureBoot_first {a : List Byte} (ha : m.copyCause (some a) = 0) (b : Option (List Byte)) :
    secureBoot (some a) b m = (m.setXspi true).bootFrom 0 0 a := by
  rw [secureBoot_tries hstep hhalt, if_pos ha, Option.getD_some]

theorem secureBoot_second {a : Option (List Byte)} {b : List Byte} (ha : m.copyCause a ≠ 0) (hb : m.copyCause (some b) = 0) :
    secureBoot a (some b) m = (m.setXspi true).bootFrom 1 (m.copyCause a) b := by
  rw [secureBoot_tries hstep hhalt, if_neg ha, if_pos hb, Option.getD_some]

theorem secureBoot_halts {a b : Option (List Byte)} (ha : m.copyCause a ≠ 0) (hb : m.copyCause b ≠ 0) :
    secureBoot a b m = (({ m.setXspi true with power := { (m.setXspi true).power with halted := true } } : Mod).set 0x644003
      (m.copyCause a + 256 * m.copyCause b)).raise 0x0A11 [m.copyCause a, m.copyCause b] := by
  rw [secureBoot_tries hstep hhalt, if_neg ha, if_neg hb]

end

theorem secureBoot_elsewhere {m : Mod} (h : m.num 0x203001 ≠ 4 ∨ m.power.halted = true) (a b : Option (List Byte)) : secureBoot a b m = m := if_pos h

theorem configDone_one (p : Path) (m : Mod) : configDone p 1 m = (m.stepDone 6).report p 0 := rfl

theorem lanesUpComplete_elapsed (m : Mod) : lanesUpComplete true m = m.stepDone 7 := rfl

/-! ## Internal resets and the watchdog (R535, R536, R544) -/

theorem sysclkLoss_resets {m : Mod} (h : m.power.held ≠ 1) : sysclkLoss m = m.resetState 7 0 := if_neg h

theorem jtagReset_open {m : Mod} (hr : m.Runs) (h : m.debugState ≠ 0) : jtagReset m = m.resetState 5 0 :=
  if_neg (not_or.mpr ⟨not_not_intro hr, h⟩)

theorem jtagReset_closed {m : Mod} (h : m.debugState = 0) : jtagReset m = m := if_pos (.inr h)

theorem Mod.wdtDue_iff (m : Mod) (now : Nat) :
    m.wdtDue now = true ↔ m.num 0x203006 ≠ 0 ∧ m.power.wdtAt + m.num 0x203006 * 1000000 ≤ now := by
  simp [Mod.wdtDue]

/-- A reset through the object, or from M mode through the aperture; its cause is 4 where the watchdog's period has elapsed. -/
theorem swReset_resets (aperture mMode : Bool) (p : Path) (h : (if aperture then mMode else p == .supervisor) = true) (now : Nat) (m : Mod) :
    swReset aperture p mMode 0xA5 now m =
      m.resetState (if m.num 0x203006 ≠ 0 ∧ m.power.wdtAt + m.num 0x203006 * 1000000 ≤ now then 4 else 3) 0 := by
  rw [swReset, if_pos ⟨rfl, h⟩]
  simp only [Mod.wdtDue_iff]

theorem swReset_refused {aperture mMode : Bool} {p : Path} {v : Nat}
    (h : v ≠ 0xA5 ∨ (aperture = true ∧ mMode = false) ∨ (aperture = false ∧ p ≠ .supervisor)) (now : Nat) (m : Mod) :
    swReset aperture p mMode v now m = m.report p abAccess := by
  refine if_neg ?_
  rintro ⟨hv, hpath⟩
  rcases h with h | ⟨hap, hmode⟩ | ⟨hap, hp⟩
  · exact h hv
  · simp [hap, hmode] at hpath
  · rw [if_neg (by simp [hap])] at hpath
    exact hp (by simpa using hpath)

theorem watchdogExpiry_due {m : Mod} {now : Nat} (hr : m.Runs) (hperiod : m.num 0x203006 ≠ 0)
    (hdue : m.power.wdtAt + m.num 0x203006 * 1000000 ≤ now) : watchdogExpiry now m = m.resetState 4 0 := by
  have hwdt := (m.wdtDue_iff now).mpr ⟨hperiod, hdue⟩
  exact if_neg (by simp [hr, hwdt])

theorem watchdogExpiry_early {m : Mod} {now : Nat} (h : m.num 0x203006 = 0 ∨ now < m.power.wdtAt + m.num 0x203006 * 1000000) :
    watchdogExpiry now m = m := by
  have hwdt : m.wdtDue now = false := by
    rw [Bool.eq_false_iff, Ne, Mod.wdtDue_iff]
    omega
  exact if_pos (.inr (by rw [hwdt]; rfl))

theorem wdtKick_kicks (now : Nat) (m : Mod) :
    wdtKick .supervisor true 0x5A now m = ({ m with power := { m.power with wdtAt := now } } : Mod).report .supervisor 0 := rfl

theorem wdtKick_refused (p : Path) (v now : Nat) (m : Mod) : wdtKick p false v now m = m.report p abAccess := rfl

/-! ## Life cycle (R477 to R480) -/

/-- The token of a change through JTAG stands in place of the one written. -/
def Mod.withToken (m : Mod) (jtag : Option (List Byte)) : Mod := jtag.elim m (fun tok => { m with keys := { m.keys with token := tok } })

/-- The fuse groups of a life-cycle state blown, those below `g`. -/
def Mod.blown (m : Mod) (g : Nat) : Mod :=
  { m with nv := { m.nv with fuses := { m.nv.fuses with groups := (List.range 5).map (fun i => if i < g then 255 else m.nv.fuses.groups.getD i 0) } } }

section
variable {m : Mod} {jtag : Option (List Byte)} (hst : m.lcState = lcBlank ↔ jtag.isSome = true)
include hst

/-- A change that reaches its checks: refused with its result, or made, from RETURNED on over the configuration erased. -/
theorem lifecycleChange_checked (g t : Nat) : lifecycleChange .supervisor true jtag g t m =
    (if (m.withToken jtag).lcResult g ≠ 2 ^ 31 then
      (((((m.withToken jtag).set 0x640005 ((m.withToken jtag).lcResult g)).report .supervisor 0).raise 0x0A01 [g, (m.withToken jtag).lcResult g]).newNonce)
    else
      (((if g < lcReturned then ((m.withToken jtag).set 0x640005 ((m.withToken jtag).lcResult g)).report .supervisor 0
        else (((m.withToken jtag).set 0x640005 ((m.withToken jtag).lcResult g)).report .supervisor 0).eraseConfig).blown g).occur
          (evRecord { code := 0x0A00, payload := [m.lcState, g] } t)).resetState 2 0) := by
  cases jtag with
  | none =>
    have hblank : m.lcState ≠ lcBlank := by simpa using hst
    rw [lifecycleChange, if_neg (by simp [hblank, mPath])]
    rfl
  | some tok =>
    have hblank : m.lcState = lcBlank := by simpa using hst
    rw [lifecycleChange, if_neg (by simp [hblank])]
    rfl

theorem lifecycleChange_made {g : Nat} {n : Mod} (hres : (m.withToken jtag).lcResult g = 2 ^ 31)
    (hn : n = if g < lcReturned then ((m.withToken jtag).set 0x640005 (2 ^ 31)).report .supervisor 0
      else (((m.withToken jtag).set 0x640005 (2 ^ 31)).report .supervisor 0).eraseConfig) (t : Nat) :
    lifecycleChange .supervisor true jtag g t m =
      ((n.blown g).occur (evRecord { code := 0x0A00, payload := [m.lcState, g] } t)).resetState 2 0 := by
  rw [lifecycleChange_checked hst, if_neg (not_not_intro hres), hres, hn]

theorem lifecycleChange_failed {g : Nat} (hres : (m.withToken jtag).lcResult g ≠ 2 ^ 31) (t : Nat) :
    lifecycleChange .supervisor true jtag g t m =
      ((((m.withToken jtag).set 0x640005 ((m.withToken jtag).lcResult g)).report .supervisor 0).raise 0x0A01
        [g, (m.withToken jtag).lcResult g]).newNonce := by
  rw [lifecycleChange_checked hst, if_pos hres]

end

theorem lifecycleChange_refused {m : Mod} {p : Path} {mMode : Bool} {jtag : Option (List Byte)}
    (h : (m.lcState = lcBlank ∧ jtag = none) ∨ (m.lcState ≠ lcBlank ∧ (jtag.isSome = true ∨ mMode = false ∨ p ≠ .supervisor))) (g t : Nat) :
    lifecycleChange p mMode jtag g t m = m.report p abAccess := by
  refine if_pos (h.imp (fun ⟨hblank, hjtag⟩ => ⟨hblank, by rw [hjtag]; rfl⟩) fun ⟨hblank, hpath⟩ => ⟨hblank, ?_⟩)
  rcases hpath with hjtag | hmode | hp
  · simp [hjtag]
  · simp [hmode, mPath]
  · cases p <;> simp [mPath] at hp ⊢

/-! ## Voltage scaling (R528 to R530) -/

theorem avsSample_off {m : Mod} (h : m.power.avs = false) (slack fails : Nat) : avsSample slack fails m = m :=
  if_pos (by rw [h]; rfl)

/-- A sample within the band ends the runs of low and of high samples. -/
theorem avsSample_in_band {m : Mod} (hg : m.Good) (havs : m.power.avs = true) (hon : m.on 0x204001 = true) (hgoes : m.power.avsStopped = false)
    {slack : Nat} (hcrit : m.num 0x204007 ≤ slack) (hlow : m.num 0x204005 ≤ slack) (hhigh : slack ≤ m.num 0x204006) (fails : Nat) :
    avsSample slack fails m = { m.set 0x204004 slack with power := { m.power with lowRun := 0, highRun := 0 } } := by
  have hnum : ∀ {o : Nat}, o ≠ 0x204004 → (m.set 0x204004 slack).num o = m.num o := fun ho => Mod.num_set_ne hg.dict _ (objKey_ne_same ho 0)
  have hon' : (m.set 0x204004 slack).on 0x204001 = true := by rw [Mod.on, hnum (by simp)]; exact hon
  have hcrit' : ¬ slack < m.num 0x204007 := by omega
  have hlow' : ¬ slack < m.num 0x204005 := by omega
  have hhigh' : ¬ m.num 0x204006 < slack := by omega
  simp [avsSample, havs, hon', hgoes, hnum, hcrit', hlow', hhigh']

/-- Putting an entry leaves every other key as it was, in whatever form the table is. -/
theorem Table.find?_put_other {α : Type} (t : Table α) {k j : Nat} (v : α) (h : j ≠ k) : Table.find? (Table.put t k v) j = Table.find? t j := by
  induction t with
  | nil => simp [Table.put, Table.find?, h.symm]
  | cons e t ih =>
    obtain ⟨i, w⟩ := e
    rw [Table.put]
    split
    case isTrue hik => simp [Table.find?, hik, h.symm]
    case isFalse hik =>
      split
      case isTrue hki =>
        rw [Table.find?, if_neg h.symm]
        split
        case isTrue hjk => rw [Table.find?, if_neg (by omega), if_pos (by omega)]
        case isFalse => rfl
      case isFalse => simp only [Table.find?, ih]

/-- A number other than the default, written, leaves every other object's number as it was, in whatever form the store is. -/
theorem Mod.num_set_other {m : Mod} {o i p j n : Nat} (hn : Val.num n ≠ defaultAt (objKey o i)) (hk : objKey p j ≠ objKey o i) :
    (m.set o n i).num p j = m.num p j := by
  have hval : (m.set o n i).val p j = m.val p j := by
    simp only [Mod.val, Mod.set, Mod.setVal, putVal, if_neg hn, Table.find?_put_other _ _ hk]
  rw [Mod.num, Mod.num, hval]

/-- A counter counted up that rests at 0 leaves every other object's number as it was. -/
theorem Mod.num_bump_other {m : Mod} {o n p : Nat} (hrest : defaultAt (objKey o 0) = .num 0) (hmax : 0 < objMax o) (hn : 0 < n) (hp : p ≠ o) :
    (m.bump o 0 n).num p = m.num p := by
  refine Mod.num_set_other ?_ (objKey_ne_same hp 0)
  rw [hrest]
  simp only [ne_eq, Val.num.injEq]
  omega

theorem avsbusRetry_sends {m : Mod} {fails : Nat} (hstop : m.power.avsStopped = true) (hf : fails < 3) : avsbusRetry fails m =
    ((({ m with power := { m.power with avsStopped := false } } : Mod).bump 0x204008 0 (fails + 1)).set 0x204002 (m.num 0x204002)).emit
      (.avs (m.num 0x204002) true) := by
  rw [avsbusRetry, if_pos hstop, Mod.avsSend, if_pos hf]

theorem avsbusRetry_fails {m n : Mod} {fails : Nat} (hstop : m.power.avsStopped = true) (hf : 3 ≤ fails)
    (hn : n = ({ m with power := { m.power with avsStopped := true } } : Mod)) : avsbusRetry fails m =
    (((n.bump 0x204008 0 3).bump 0x204009).raise 0x0012 [m.num 0x204002, ((n.bump 0x204008 0 3).bump 0x204009).num 0x204002]).emit
      (.avs (m.num 0x204002) false) := by
  have hsend : avsbusRetry fails m =
      (((n.bump 0x204008 0 3).bump 0x204009).raise 0x0012 [m.num 0x204002, n.num 0x204002]).emit (.avs (m.num 0x204002) false) := by
    rw [hn, avsbusRetry, if_pos hstop, Mod.avsSend, if_neg (by omega)]
  have hvolt : ((n.bump 0x204008 0 3).bump 0x204009).num 0x204002 = n.num 0x204002 :=
    (Mod.num_bump_other rfl (by decide) (by decide) (by decide)).trans (Mod.num_bump_other rfl (by decide) (by decide) (by decide))
  rw [hsend, hvolt]

theorem avsbusRetry_going {m : Mod} (h : m.power.avsStopped = false) (fails : Nat) : avsbusRetry fails m = m :=
  if_neg (by simp [h])

/-! ## Clocks and sensors (R535, R541) -/

section
variable {m : Mod} {j : Nat} (hr : m.Runs) (hj : j ≤ 11)
include hr hj

theorem refclkLoss_returns (h : bit (m.num 0x205002) j = false) :
    refclkLoss j true m = (m.set 0x205002 (setBit (m.num 0x205002) j true)).raise 0x0021 [j, 1] := by
  have hchange : ¬ (11 < j ∨ m.power.held ≠ 0 ∨ bit (m.num 0x205002) j = true) := by simp [hr, h, hj]
  rw [refclkLoss, if_neg hchange]
  rfl

theorem refclkLoss_lost {n : Mod} (h : bit (m.num 0x205002) j = true)
    (hn : n = (m.set 0x205002 (setBit (m.num 0x205002) j false)).raise 0x0021 [j, 0]) : refclkLoss j false m =
    (((n.each ((List.range 16).map (· + 16 * j)) (fun m l => m.set 0x310005 0 l)).each (((List.range 16).map (· + 16 * j)).flatMap lanePorts)
      (fun m p => portLinkLoss p 1 m)).linkDown (2 * j) 1).linkDown (2 * j + 1) 1 := by
  have hchange : ¬ (11 < j ∨ m.power.held ≠ 0 ∨ bit (m.num 0x205002) j = false) := by simp [hr, h, hj]
  rw [refclkLoss, if_neg hchange, hn]
  rfl

end

theorem refclkLoss_unchanged {m : Mod} {j : Nat} {present : Bool} (h : bit (m.num 0x205002) j = present) : refclkLoss j present m = m :=
  if_pos (.inr (.inr h))

theorem thermalSample_in_reset {m : Mod} (h : m.power.held ≠ 0) (temps : List Nat) :
    thermalSample temps m = { m with power := { m.power with tempMax := (hottest temps).2 } } := if_pos h

theorem Mod.thermalWarn_frame (m : Mod) (sensor t : Nat) :
    (m.thermalWarn sensor t).dict = m.dict ∧ (m.thermalWarn sensor t).nv = m.nv ∧ (m.thermalWarn sensor t).power.tempMax = m.power.tempMax := by
  unfold Mod.thermalWarn
  dsimp only
  split
  · exact ⟨rfl, rfl, rfl⟩
  · split <;> exact ⟨rfl, rfl, rfl⟩

theorem Mod.each_set_good {m : Mod} (hg : m.Good) (o : Nat) (l : List (Nat × Nat)) : (m.each l (fun m e => m.set o e.2 e.1)).Good :=
  Mod.each_good hg fun _ e h => Mod.set_good h o e.2 e.1

/-- Numbers of one object set leave every other object's number as it was. -/
theorem Mod.num_each_set {m : Mod} (hg : m.Good) {o p : Nat} (hp : p ≠ o) {l : List (Nat × Nat)} (hl : ∀ e ∈ l, e.1 < 65536) :
    (m.each l (fun m e => m.set o e.2 e.1)).num p = m.num p := by
  induction l generalizing m with
  | nil => rfl
  | cons e l ih =>
    obtain ⟨he, hl⟩ := List.forall_mem_cons.mp hl
    rw [Mod.each_cons, ih (Mod.set_good hg _ _ _) hl, Mod.num_set_ne hg.dict _ (objKey_ne (by omega) he (.inl hp))]

/-- The sensors' readings filed, each and the hottest. -/
def Mod.readings (m : Mod) (temps : List Nat) : Mod :=
  ((({ m with power := { m.power with tempMax := (hottest temps).2 } } : Mod).each ((List.range 16).zip temps)
    (fun m e => m.set 0x206001 e.2 e.1))).set 0x206002 (hottest temps).2

/-- The peak and the warning follow the readings. -/
def Mod.sampled (m : Mod) (temps : List Nat) : Mod :=
  (if b32.lt ((m.readings temps).num 0x206005) (hottest temps).2 then (m.readings temps).set 0x206005 (hottest temps).2
    else m.readings temps).thermalWarn (hottest temps).1 (hottest temps).2

theorem Mod.readings_frame (m : Mod) (temps : List Nat) :
    (m.readings temps).nv = m.nv ∧ (m.readings temps).power.tempMax = (hottest temps).2 :=
  ⟨Mod.each_keeps Mod.nv (by exact fun _ _ => rfl) { m with power := { m.power with tempMax := (hottest temps).2 } } _,
    Mod.each_keeps (fun m => m.power.tempMax) (by exact fun _ _ => rfl) { m with power := { m.power with tempMax := (hottest temps).2 } } _⟩

theorem Mod.sampled_frame (m : Mod) (temps : List Nat) :
    (m.sampled temps).nv = m.nv ∧ (m.sampled temps).power.tempMax = (hottest temps).2 := by
  obtain ⟨hnv, htemp⟩ := m.readings_frame temps
  obtain ⟨-, hnv1, htemp1⟩ := Mod.thermalWarn_frame
    (if b32.lt ((m.readings temps).num 0x206005) (hottest temps).2 then (m.readings temps).set 0x206005 (hottest temps).2 else m.readings temps)
    (hottest temps).1 (hottest temps).2
  rw [Mod.sampled, hnv1, htemp1]
  split <;> exact ⟨hnv, htemp⟩

section
variable {m : Mod} (hg : m.Good) (temps : List Nat) {p : Nat}
include hg

theorem Mod.readings_good : (m.readings temps).Good :=
  Mod.set_good (Mod.each_set_good (m := { m with power := { m.power with tempMax := (hottest temps).2 } }) ⟨hg.dict, hg.mem, hg.held⟩ _ _) _ _ _

theorem Mod.num_readings (hall : p ≠ 0x206001) (hmax : p ≠ 0x206002) : (m.readings temps).num p = m.num p := by
  have hg' : ({ m with power := { m.power with tempMax := (hottest temps).2 } } : Mod).Good := ⟨hg.dict, hg.mem, hg.held⟩
  have hlow : ∀ e ∈ (List.range 16).zip temps, e.1 < 65536 := fun e he => by
    have h16 := List.mem_range.mp (List.of_mem_zip he).1
    omega
  have heach := Mod.num_each_set hg' hall hlow
  exact (Mod.num_set_ne (Mod.each_set_good hg' _ _).dict _ (objKey_ne_same hmax 0)).trans heach

/-- The readings, their peak and the warning leave every other object's number as it was. -/
theorem Mod.num_sampled (hall : p ≠ 0x206001) (hmax : p ≠ 0x206002) (hpeak : p ≠ 0x206005) : (m.sampled temps).num p = m.num p := by
  rw [Mod.sampled, Mod.num_of_dict (Mod.thermalWarn_frame _ _ _).1]
  split
  · rw [Mod.num_set_ne (Mod.readings_good hg temps).dict _ (objKey_ne_same hpeak 0), Mod.num_readings hg temps hall hmax]
  · exact Mod.num_readings hg temps hall hmax

end

/-- A module whose hottest sensor reads TEMP_TRIP or more is reset with cause 6. -/
theorem thermalSample_trips {m : Mod} (hr : m.Runs) (hg : m.Good) {temps : List Nat} (htrip : b32.le (m.num 0x206004) (hottest temps).2 = true) :
    thermalSample temps m = (m.sampled temps).resetState 6 0 := by
  have hruns : thermalSample temps m =
      if b32.le ((m.sampled temps).num 0x206004) (hottest temps).2 then (m.sampled temps).resetState 6 0 else m.sampled temps :=
    if_neg (not_not_intro hr)
  rw [hruns, Mod.num_sampled hg temps (by decide) (by decide) (by decide), if_pos htrip]

/-- Settles O57: what a reset leaves and what start-up sets, and the equation of each command in its case. -/
theorem resetAndPower : Obligations.ResetAndPower := by
  unfold Obligations.ResetAndPower
  refine ⟨?_, ?_, ?_, ?_, ?_, ?_, ?_, ?_, ?_, ?_, ?_, ?_, ?_, ?_, ?_, ?_, ?_, ?_, ?_, ?_, ?_, ?_, ?_, ?_, ?_, ?_, ?_, ?_, ?_, ?_, ?_, ?_, ?_, ?_, ?_, ?_,
    ?_, ?_, ?_, ?_⟩
  · intro m c torn
    exact ⟨rfl, rfl, fun _ _ => Mod.val_resetState m c torn, rfl, rfl, m.resetState_nv c torn, rfl, fun _ => Memory.read_resetState m c torn⟩
  · intro s torn
    exact ⟨rfl, rfl⟩
  · intro s pos ref hheld hfactory
    exact ⟨next_of_eq (resetRelease_starts hheld hfactory pos ref), next_of_eq (resetRelease_test hheld hfactory pos ref)⟩
  · intro s pos ref b h
    exact next_self_of_eq (resetRelease_ignored h ⟨pos, b⟩ ref)
  · intro s pos ref hheld hcool
    exact next_of_eq (internalResetEnd_starts hheld hcool pos ref)
  · intro s pos ref h
    exact next_self_of_eq (internalResetEnd_held h pos ref)
  · intro m pos ref hg
    obtain ⟨hmem, hheld⟩ := m.startUp_frame pos ref
    obtain ⟨hcause, hpos, hdrbg⟩ := Mod.num_startUp_all hg pos ref
    exact ⟨hheld, Mod.num_startUp_step hg pos ref, hcause, hpos, hdrbg, hmem⟩
  · intro s a b hstep hhalt ha
    exact next_of_eq (secureBoot_first hstep hhalt ha b)
  · intro s a b hstep hhalt ha hb
    exact next_of_eq (secureBoot_second hstep hhalt ha hb)
  · intro s a b h
    exact next_self_of_eq (secureBoot_elsewhere h a b)
  · intro m
    exact ⟨Mod.setXspi_same, fun h => Mod.setXspi_other (by simp [h])⟩
  · intro s a b m hstep hhalt ha hb hm
    rw [hm]
    exact next_of_eq (secureBoot_halts hstep hhalt ha hb)
  · intro m
    rfl
  · intro s p hs
    exact next_access hs (configDone_one p s.mod)
  · intro s
    exact next_of_eq (lanesUpComplete_elapsed s.mod)
  · intro m n hg hstep
    exact Mod.num_stepDone hg hstep
  · intro m n hstep
    exact Mod.stepDone_other hstep
  · intro s h
    exact next_of_eq (sysclkLoss_resets h)
  · intro s hr h
    exact next_of_eq (jtagReset_open hr h)
  · intro s h
    exact next_self_of_eq (jtagReset_closed h)
  · intro s now c hr hc
    rw [hc]
    exact ⟨next_access ⟨hr, rfl⟩ (swReset_resets false false .supervisor rfl now s.mod),
      next_access ⟨hr, rfl⟩ (swReset_resets true true .supervisor rfl now s.mod)⟩
  · intro s ap mm p v now hs h
    exact next_access hs (swReset_refused h now s.mod)
  · intro s now hr hperiod hdue
    exact next_of_eq (watchdogExpiry_due hr hperiod hdue)
  · intro s now h
    exact next_self_of_eq (watchdogExpiry_early h)
  · intro s now hr
    exact next_access ⟨hr, rfl⟩ (wdtKick_kicks now s.mod)
  · intro s p v now hs
    exact next_access hs (wdtKick_refused p v now s.mod)
  · intro s jtag g t m n hr hst hm hres hn
    rw [hm] at hres hn
    exact next_access ⟨hr, rfl⟩ (lifecycleChange_made hst hres hn t)
  · intro s jtag g t m hr hst hm hres
    rw [hm] at hres ⊢
    exact next_access ⟨hr, rfl⟩ (lifecycleChange_failed hst hres t)
  · intro s p mm jtag g t hs h
    exact next_access hs (lifecycleChange_refused h g t)
  · intro m
    rfl
  · intro s sl f h
    exact next_self_of_eq (avsSample_off h sl f)
  · intro s sl f m hg havs hon hgoes hm hcrit hlow hhigh
    rw [hm]
    exact next_of_eq (avsSample_in_band hg havs hon hgoes hcrit hlow hhigh f)
  · intro s f hstop hf
    exact next_of_eq (avsbusRetry_sends hstop hf)
  · intro s f m hstop hf hm
    exact next_of_eq (avsbusRetry_fails hstop hf hm)
  · intro s f h
    exact next_self_of_eq (avsbusRetry_going h f)
  · intro s j hr hj h
    exact next_of_eq (refclkLoss_returns hr hj h)
  · intro s j m n hr hj h hm hn
    rw [hn]
    exact next_of_eq (refclkLoss_lost hr hj h hm)
  · intro s j b h
    exact next_self_of_eq (refclkLoss_unchanged h)
  · intro s ts h
    exact next_of_eq (thermalSample_in_reset h ts)
  · intro s ts hr hg htrip
    refine ⟨_, next_of_eq (thermalSample_trips hr hg htrip), rfl, ?_, rfl, ?_, fun o i => Mod.val_resetState _ _ _⟩
    · exact (Mod.resetState_tempMax _ _ _).trans (s.mod.sampled_frame ts).2
    · exact (Mod.resetState_nv _ _ _).trans (s.mod.sampled_frame ts).1

end Sys2Proof.Machine
end

section
namespace Sys2Proof.Machine

/-! ## Writes of objects (R218, R445 to R447, R540) -/

theorem Mod.writeObject_tenant {m : Mod} (hr : m.Runs) (t : Nat) (env : Env) (o sel : Nat) (bs : List Byte) :
    m.writeObject (.tenant t) env o sel bs = m.report (.tenant t) abAccess := by
  have htenant : isTenantPath (.tenant t) = true := rfl
  rw [Mod.writeObject, if_neg (not_not_intro hr), if_pos htenant]

theorem Mod.writeObject_early {m : Mod} {p : Path} (hs : m.Reaches p) (hconf : m.configured = false) {o : Nat} (ho : earlyIndex (o / 256) = false)
    (env : Env) (sel : Nat) (bs : List Byte) : m.writeObject p env o sel bs = m.report p abState := by
  obtain ⟨hheld, hpath⟩ := hs
  simp [Mod.writeObject, hheld, hpath, hconf, ho]

section
variable {m : Mod} {p : Path} (hs : m.Serves p) {o sel : Nat}
include hs

theorem Mod.writeObject_unlisted (ho : objRow? o = none) (env : Env) (bs : List Byte) : m.writeObject p env o sel bs =
    m.report p (if !indexUsed (o / 256) then abNoObject else if o % 256 = 0 then abReadOnly else abNoSub) := by
  obtain ⟨hheld, hpath, hconf⟩ := hs
  simp only [Mod.writeObject, hheld, hpath, hconf, ho, ne_eq, not_true_eq_false, Bool.not_true, Bool.false_eq_true, false_and, if_false]

theorem Mod.writeObject_no_index (ho : objRow? o = none) (hidx : indexUsed (o / 256) = false) (env : Env) (bs : List Byte) :
    m.writeObject p env o sel bs = m.report p abNoObject := by
  rw [Mod.writeObject_unlisted hs ho, if_pos (by rw [hidx]; rfl)]

theorem Mod.writeObject_no_subindex (ho : objRow? o = none) (hidx : indexUsed (o / 256) = true) (hsub : o % 256 ≠ 0) (env : Env) (bs : List Byte) :
    m.writeObject p env o sel bs = m.report p abNoSub := by
  rw [Mod.writeObject_unlisted hs ho, if_neg (by simp [hidx]), if_neg hsub]

variable {r : ObjRow} (hrow : objRow? o = some r)
include hrow

theorem Mod.writeObject_read_only (hacc : r.acc = .ro) (hone : selMany sel = false) (env : Env) (bs : List Byte) :
    m.writeObject p env o sel bs = m.report p abReadOnly := by
  obtain ⟨hheld, hpath, hconf⟩ := hs
  simp [Mod.writeObject, hheld, hpath, hconf, hrow, hacc, hone]

theorem Mod.writeObject_selector {c : Nat} {l : List Nat} (hro : r.acc ≠ .ro) (hwo : r.acc ≠ .wo) (hsel : m.selects r o sel = (c, l)) (hc : c ≠ 0)
    (env : Env) (bs : List Byte) : m.writeObject p env o sel bs = m.report p c := by
  obtain ⟨hheld, hpath, hconf⟩ := hs
  simp [Mod.writeObject, hheld, hpath, hconf, hrow, hro, hwo, hsel, hc]

/-- A write whose selector and value are in order acts on the one place it selects. -/
theorem Mod.writeObject_one {l : List Nat} {v : Val} {bs : List Byte} (hro : r.acc ≠ .ro) (hone : selMany sel = false)
    (hsel : m.selects r o sel = (0, l)) (hval : m.readValues r o bs l = (0, v)) (env : Env) :
    m.writeObject p env o sel bs = m.writeOne p env r o sel v := by
  obtain ⟨hheld, hpath, hconf⟩ := hs
  have hall : sel ≠ 0xFFFF := by
    rintro rfl
    simp [selMany] at hone
  simp [Mod.writeObject, hheld, hpath, hconf, hrow, hro, hone, hsel, hall, hval]

end

section
variable {m : Mod} {p : Path} {env : Env} {r : ObjRow} {o sel : Nat} {v : Val} (hbar : m.writeBar p env o sel = 0)
  (hplain : commandOf p env o sel v = none)
include hbar hplain

theorem Mod.writeOne_rw (hacc : r.acc = .rw) (husage : m.usageOk o (valNum v) = true) :
    m.writeOne p env r o sel v = (m.putRw env o sel v).report p 0 := by
  simp [Mod.writeOne, hbar, hplain, hacc, husage]

theorem Mod.writeOne_rwt (hacc : r.acc = .rwt) : m.writeOne p env r o sel v =
    (m.stageAll p [{ obj := o, sel := sel, val := v }]).1.report p (m.stageAll p [{ obj := o, sel := sel, val := v }]).2 := by
  simp [Mod.writeOne, hbar, hplain, hacc]

end

/-! ## The port (R463, R472) -/

theorem dpWrite_runs {m : Mod} (hr : m.Runs) (env : Env) : dpWrite env m =
    (m.writePart .supervisor env m.dp.obj m.dp.sel (m.dp.offset % 2 ^ 31) (slice m.dp.data 0 (min m.dp.len 512)) (bit m.dp.offset 31)).dpDone :=
  if_neg (not_not_intro hr)

section
variable {m : Mod} (hr : m.Runs) {env : Env}
include hr

theorem dpRead_fails {c : Nat} {v : List Byte} (hread : m.readOctets .supervisor env m.dp.obj m.dp.sel = (c, v)) (hc : c ≠ 0) :
    dpRead env m = (m.report .supervisor c).dpDone := by
  rw [dpRead, if_neg (not_not_intro hr)]
  simp only [hread, if_pos hc]

/-- A read past the first part, of an object that no read ends, changes nothing but the port. -/
theorem dpRead_later_part {v part : List Byte} (hread : m.readOctets .supervisor env m.dp.obj m.dp.sel = (0, v)) (hoff : m.dp.offset % 2 ^ 31 ≠ 0)
    (hobj : m.dp.obj ≠ 0x515004) (hpart : part = (v.drop (m.dp.offset % 2 ^ 31)).take 512) : dpRead env m =
      (((m.setDp { m.dp with data := slice (part ++ m.dp.data.drop part.length) 0 512, len := part.length, total := v.length }).report
        .supervisor 0).dpDone).emit (.data part) := by
  rw [dpRead, if_neg (not_not_intro hr), hpart]
  simp only [hread, ne_eq, not_true_eq_false, if_false, if_neg hobj, decide_eq_false hoff, Bool.false_eq_true]

theorem dpCommit_configured (hconf : m.configured = true) : dpCommit env m = (stageCommit .supervisor m.dp.tick env m).dpDone := by
  rw [dpCommit, if_neg (not_not_intro hr), if_neg (by simp [hconf])]

theorem dpCommit_early (hconf : m.configured = false) : dpCommit env m = (m.report .supervisor abState).dpDone := by
  rw [dpCommit, if_neg (not_not_intro hr), if_pos (by simp [hconf])]

end

/-- The port's registers read what they were set to, of a value other than the one after reset. -/
theorem Mod.dp_setDp (m : Mod) {d : DpRegs} (hd : d ≠ {}) : (m.setDp d).dp = d := by
  have hten : ({ m.tenant 0 with dp := d } : TenantSt) ≠ {} := fun h => hd (congrArg TenantSt.dp h)
  exact congrArg TenantSt.dp (Table.get_set_of_ne m.ten.tenants {} 0 hten)

/-- The last code reported in the port's registers. -/
theorem Mod.dpDone_reports (m : Mod) :
    m.dpDone.dp.status = (if m.lastAbort .supervisor = 0 then 2 ^ 30 else 2 ^ 30 + 2 ^ 29) ∧ m.dpDone.dp.abort = m.lastAbort .supervisor := by
  have hstatus : (if m.lastAbort .supervisor = 0 then 2 ^ 30 else 2 ^ 30 + 2 ^ 29) ≠ 0 := by split <;> decide
  have hdp : m.dpDone.dp = { m.dp with
      status := if m.lastAbort .supervisor = 0 then 2 ^ 30 else 2 ^ 30 + 2 ^ 29, abort := m.lastAbort .supervisor } :=
    Mod.dp_setDp m fun h => hstatus (congrArg DpRegs.status h)
  rw [hdp]
  exact ⟨rfl, rfl⟩

/-! ## DTP (R467 to R471) -/

theorem Mod.dtpServed_on {m : Mod} (hr : m.Runs) (hon : m.on 0x1F3001 = true) : m.dtpServed = true := by
  simp [Mod.dtpServed, hr, hon]

/-- A datagram is ignored while DTP is off, and one of no form always. -/
theorem dtpHello_ignored {m : Mod} {d : List Byte} (h : m.on 0x1F3001 = false ∨ dtpParse d = none) (a u : Nat) : dtpHello a u d m = m := by
  rcases h with hoff | hform
  · simp [dtpHello, Mod.dtpServed, hoff]
  · simp [dtpHello, hform]

theorem Mod.dtpRequest_ignored {m : Mod} {d : List Byte} (h : m.on 0x1F3001 = false ∨ dtpParse d = none) (w : DtpFrom) (op : Nat)
    (f : DtpReq → Mod → Mod × List Byte) : m.dtpRequest w d op f = m := by
  rcases h with hoff | hform
  · simp [Mod.dtpRequest, Mod.dtpServed, hoff]
  · simp [Mod.dtpRequest, hform]

section
variable {m : Mod} (hr : m.Runs) (hon : m.on 0x1F3001 = true) {d : List Byte} {q : DtpReq} (hq : dtpParse d = some q)
include hr hon hq

theorem dtpHello_in_session (hop : q.op = 1) (hlen : q.body.length = 18) (hsession : q.session ≠ 0) (a u : Nat) :
    dtpHello a u d m = (m.bump 0x1F3006).raise 0x0B06 [a, q.session] := by
  simp [dtpHello, Mod.dtpServed_on hr hon, hq, hop, hlen, hsession, Mod.dtpAuthFail]

theorem dtpHello_opens (hop : q.op = 1) (hlen : q.body.length = 18) (hsession : q.session = 0) {slot : Nat} (hslot : slot = m.num 0x1F3002)
    (hlt : slot < 512) (husage : m.num 0x642002 slot = 3) (hkey : m.keyBytes slot ≠ [])
    (htag : q.tag = dtpTag (m.keyBytes slot) q.signed) (a u : Nat) :
    dtpHello a u d m = m.openSession { addr := a, udpPort := u } (m.keyBytes slot) q := by
  simp [dtpHello, Mod.dtpServed_on hr hon, hq, hop, hlen, hsession, ← hslot, hlt, husage, hkey, ← htag]

variable {op : Nat} (hop : q.op = op) {x : Session} (hx : m.session? q.session = some x)
include hop hx

theorem Mod.dtpRequest_tag_fails (htag : q.tag ≠ dtpTag x.key q.signed) (w : DtpFrom) (f : DtpReq → Mod → Mod × List Byte) :
    m.dtpRequest w d op f = m.bump 0x1F3006 := by
  simp [Mod.dtpRequest, Mod.dtpServed_on hr hon, hq, hop, hx, htag, Mod.dtpAuthFail]

variable (htag : q.tag = dtpTag x.key q.signed)
include htag

/-- The last request again is answered as it was. -/
theorem Mod.dtpRequest_again (hseq : q.seq = x.seq) (hany : x.seq ≠ 0) (w : DtpFrom) (f : DtpReq → Mod → Mod × List Byte) :
    m.dtpRequest w d op f = m.dtpSend w x.cached := by
  simp [Mod.dtpRequest, Mod.dtpServed_on hr hon, hq, hop, hx, ← htag, hseq, hany]

theorem Mod.dtpRequest_out_of_order (hseq : q.seq ≠ x.seq) (hnext : q.seq ≠ x.seq + 1) (w : DtpFrom) (f : DtpReq → Mod → Mod × List Byte) :
    m.dtpRequest w d op f = m.bump 0x1F3007 := by
  simp [Mod.dtpRequest, Mod.dtpServed_on hr hon, hq, hop, hx, ← htag, hseq, hnext]

theorem Mod.dtpRequest_next (hseq : q.seq = x.seq + 1) (w : DtpFrom) (f : DtpReq → Mod → Mod × List Byte) :
    m.dtpRequest w d op f = m.dtpServe w x q (f q) := by
  simp [Mod.dtpRequest, Mod.dtpServed_on hr hon, hq, hop, hx, ← htag, hseq]

end

/-- Settles O59: a write by the row of its object, the port's commands, and each request by its tag and its number. -/
theorem dictionaryPaths : Obligations.DictionaryPaths := by
  unfold Obligations.DictionaryPaths
  refine ⟨?_, ?_, ?_, ?_, ?_, ?_, ?_, ?_, ?_, ?_, ?_, ?_, ?_, ?_, ?_, ?_, ?_, ?_, ?_, ?_⟩
  · intro s t o sel bs e hr
    exact next_of_eq (Mod.writeObject_tenant hr t e o sel bs)
  · intro s p o sel bs e hs hconf ho
    exact next_of_eq (Mod.writeObject_early hs hconf ho e sel bs)
  · intro s p o sel bs e hs ho hidx
    exact next_of_eq (Mod.writeObject_no_index hs ho hidx e bs)
  · intro s p o sel bs e hs ho hidx hsub
    exact next_of_eq (Mod.writeObject_no_subindex hs ho hidx hsub e bs)
  · intro s p o sel bs e r hs hrow hacc hone
    exact next_of_eq (Mod.writeObject_read_only hs hrow hacc hone e bs)
  · intro s p o sel c bs e r l hs hrow hro hwo hsel hc
    exact next_of_eq (Mod.writeObject_selector hs hrow hro hwo hsel hc e bs)
  · intro s p o sel bs e r l v hs hrow hacc hone hsel hval hbar hplain husage
    exact next_of_eq ((Mod.writeObject_one hs hrow (by simp [hacc]) hone hsel hval e).trans (Mod.writeOne_rw hbar hplain hacc husage))
  · intro s p o sel bs e r l v hs hrow hacc hone hsel hval hbar hplain
    exact next_of_eq ((Mod.writeObject_one hs hrow (by simp [hacc]) hone hsel hval e).trans (Mod.writeOne_rwt hbar hplain hacc))
  · intro s e hr
    exact next_of_eq (dpWrite_runs hr e)
  · intro s e c v hr hread hc
    exact next_of_eq (dpRead_fails hr hread hc)
  · intro s e v hr hread hoff hobj
    exact next_of_eq (dpRead_later_part hr hread hoff hobj rfl)
  · intro s e hr hconf
    exact next_of_eq (dpCommit_configured hr hconf)
  · intro s e hr hconf
    exact next_of_eq (dpCommit_early hr hconf)
  · intro m
    exact m.dpDone_reports
  · intro s a u d q hr hon hq hop hlen hsession
    exact next_awake hr (dtpHello_in_session hr hon hq hop hlen hsession a u)
  · intro s a u slot d q hr hon hq hop hlen hsession hslot hlt husage hkey htag
    exact next_awake hr (dtpHello_opens hr hon hq hop hlen hsession hslot hlt husage hkey htag a u)
  · intro s a u d e h
    exact ⟨next_awake_self (dtpHello_ignored h a u), next_awake_self (Mod.dtpRequest_ignored h _ _ _),
      next_awake_self (Mod.dtpRequest_ignored h _ _ _), next_awake_self (Mod.dtpRequest_ignored h _ _ _)⟩
  · intro s a u d e q x hr hon hq hx htag hseq
    refine ⟨fun hop => ?_, fun hop => ?_, fun hop => ?_⟩
    · exact next_awake hr (Mod.dtpRequest_next hr hon hq hop hx htag hseq _ (fun q m => m.dtpDoRead e q))
    · exact next_awake hr (Mod.dtpRequest_next hr hon hq hop hx htag hseq _ (fun q m => m.dtpDoWrite e q))
    · exact next_awake hr (Mod.dtpRequest_next hr hon hq hop hx htag hseq _ (fun q m => (m.closeSession q.session 1, toBE 4 0)))
  · intro s a u d e q x hr hon hq hop hx htag
    refine ⟨fun hseq hany => ?_, fun hseq hnext => ?_⟩
    · exact next_awake hr (Mod.dtpRequest_again hr hon hq hop hx htag hseq hany _ (fun q m => m.dtpDoRead e q))
    · exact next_awake hr (Mod.dtpRequest_out_of_order hr hon hq hop hx htag hseq hnext _ (fun q m => m.dtpDoRead e q))
  · intro s a u d q x hr hon hq hop hx htag
    exact next_awake hr (Mod.dtpRequest_tag_fails hr hon hq hop hx htag _ (fun q m => (m.closeSession q.session 1, toBE 4 0)))

end Sys2Proof.Machine
end

section
namespace Sys2Proof.Machine

/-! ## What the operations of the Lace line leave as it was (R256, R259, R262) -/

@[simp] theorem Mod.setDrive_triad (m : Mod) (d : Drive) : (m.setDrive d).triad = { m.triad with drive := d } := by
  unfold Mod.setDrive
  split
  case isTrue h => rw [← h]
  case isFalse => rfl

theorem Mod.setDrive_keeps (m : Mod) (d : Drive) : (m.setDrive d).dict = m.dict ∧ (m.setDrive d).bits = m.bits ∧ (m.setDrive d).mem = m.mem ∧
    (m.setDrive d).raised = m.raised := by
  unfold Mod.setDrive
  split <;> exact ⟨rfl, rfl, rfl, rfl⟩

@[simp] theorem Mod.num_setDrive (m : Mod) (d : Drive) (o i : Nat) : (m.setDrive d).num o i = m.num o i :=
  Mod.num_of_dict (m.setDrive_keeps d).1 o i

theorem Mod.num_gates {m : Mod} (hg : m.Good) {o i : Nat} (hk : objKey o i ≠ objKey 0x601006 0) : m.gates.num o i = m.num o i :=
  Mod.num_set_ne hg.dict _ hk

/-- A claim that follows the lines changes CLAIM_STATE at most, and then GATE follows. -/
theorem Mod.followLines_gates (m : Mod) : ∃ n : Mod, m.followLines = n.gates ∧ (n = m ∨ ∃ st, n = m.set 0x601001 st) := by
  simp only [Mod.followLines]
  split
  · exact ⟨_, rfl, .inr ⟨_, rfl⟩⟩
  · split
    · exact ⟨_, rfl, .inr ⟨_, rfl⟩⟩
    · exact ⟨_, rfl, .inl rfl⟩

@[simp] theorem Mod.followLines_triad (m : Mod) : m.followLines.triad = m.triad := by
  obtain ⟨n, hn, rfl | ⟨st, rfl⟩⟩ := m.followLines_gates <;> rw [hn] <;> rfl

theorem Mod.num_followLines {m : Mod} (hg : m.Good) {o : Nat} (hstate : o ≠ 0x601001) (hgate : o ≠ 0x601006) : m.followLines.num o = m.num o := by
  obtain ⟨n, hn, rfl | ⟨st, rfl⟩⟩ := m.followLines_gates
  · rw [hn, Mod.num_gates hg (objKey_ne_same hgate 0)]
  · rw [hn, Mod.num_gates (Mod.set_good hg ..) (objKey_ne_same hgate 0), Mod.num_set_ne hg.dict _ (objKey_ne_same hstate 0)]

theorem Mod.followLines_opens {m : Mod} (hst : m.num 0x601001 = csClaiming) (hopen : m.gateOpen = true) :
    m.followLines = (m.set 0x601001 csPublishing).gates := by
  simp only [Mod.followLines, hst, hopen, and_self, if_true]

theorem Mod.followLines_closes {m : Mod} (hst : m.num 0x601001 = csPublishing) (hshut : m.gateOpen = false) :
    m.followLines = (m.set 0x601001 csClaiming).gates := by
  simp [Mod.followLines, hst, hshut, csClaiming, csPublishing]

/-! ## The gates, read after CLAIM_STATE was written (R259, R263) -/

theorem Mod.line_set_state {m : Mod} (hg : m.Good) {r : Nat} (hr : 1 ≤ r) (st : Nat) : (m.set 0x601001 st).line r = m.line r :=
  Mod.num_set_ne hg.dict _ (objKey_ne_same (by omega) 0)

theorem Mod.gates_of_state {m : Mod} (hg : m.Good) (hrank : 1 ≤ m.rank) (st : Nat) :
    (m.set 0x601001 st).gateOpen = m.gateOpen ∧ (m.set 0x601001 st).holdGate = m.holdGate := by
  have hsame : (m.set 0x601001 st).rank = m.rank := Mod.num_set_ne hg.dict _ (objKey_ne_same (by decide) 0)
  have hfault : (m.set 0x601001 st).num 0x601005 = m.num 0x601005 := Mod.num_set_ne hg.dict _ (objKey_ne_same (by decide) 0)
  constructor
  · simp [Mod.gateOpen, Mod.otherClaims, hsame, hfault, Mod.line_set_state hg, hrank]
  · simp [Mod.holdGate, Mod.line_set_state hg]

/-- GATE reads what the gates were before the claim followed the lines: CLAIM_STATE opens and closes neither. -/
theorem Mod.gate_followLines {m : Mod} (hg : m.Good) (hrank : 1 ≤ m.rank) :
    m.followLines.num 0x601006 = if m.gateOpen then 1 else if m.holdGate then 2 else 0 := by
  obtain ⟨n, hn, rfl | ⟨st, rfl⟩⟩ := m.followLines_gates
  · rw [hn, Mod.gates, Mod.num_set hg.dict]
  · obtain ⟨hopen, hhold⟩ := Mod.gates_of_state hg hrank st
    rw [hn, Mod.gates, Mod.num_set (Mod.set_good hg ..).dict, hopen, hhold]

theorem Mod.gateOpen_not_claim {m : Mod} (h : m.triad.drive ≠ .claim) : m.gateOpen = false := by simp [Mod.gateOpen, h]

theorem Mod.gateOpen_of_fault {m : Mod} (h : m.num 0x601005 ≠ 0) : m.gateOpen = false := by simp [Mod.gateOpen, h]

/-! ## A claim released, and the drive OFF (R256, R262) -/

/-- The module with its claim let go, event and gates still to follow: the drive ALIVE, CLAIM_STATE RELEASED, and LAST_PUB set where the gate was open at the
last P start. -/
def Mod.unclaimed (m : Mod) : Mod :=
  { (m.setDrive .alive).set 0x601001 csReleased with
    triad := { (m.setDrive .alive).triad with lastPub := (m.setDrive .alive).triad.lastPub || (m.setDrive .alive).triad.gateAtP } }

theorem Mod.releaseClaim_of_claim {m : Mod} (h : m.triad.drive = .claim) (c : Nat) :
    m.releaseClaim c = (m.unclaimed.raise 0x0305 [m.unclaimed.rank, Config.eventField 0x0305 c, m.unclaimed.k]).gates :=
  if_neg (not_not_intro h)

theorem Mod.unclaimed_good {m : Mod} (hg : m.Good) : m.unclaimed.Good :=
  (Mod.set_good (Mod.setDrive_good hg .alive) 0x601001 csReleased 0).of rfl rfl rfl

theorem Mod.unclaimed_triad (m : Mod) :
    m.unclaimed.triad = { m.triad with drive := .alive, lastPub := m.triad.lastPub || m.triad.gateAtP } := by
  simp [Mod.unclaimed]

theorem Mod.unclaimed_dict (m : Mod) : m.unclaimed.dict = ((m.setDrive .alive).set 0x601001 csReleased).dict := rfl

theorem Mod.num_unclaimed {m : Mod} (hg : m.Good) : m.unclaimed.num 0x601001 = csReleased := by
  rw [Mod.num_of_dict m.unclaimed_dict, Mod.num_set (Mod.setDrive_good hg .alive).dict]

theorem Mod.laceOff_triad (m : Mod) : m.laceOff.triad = { m.triad with drive := .off } := m.setDrive_triad .off

theorem Mod.num_laceOff {m : Mod} (hg : m.Good) : m.laceOff.num 0x601001 = 0 := by
  have hoff := Mod.setDrive_good hg .off
  rw [Mod.laceOff, Mod.num_gates (Mod.set_good hoff ..) (by decide), Mod.num_set hoff.dict]

/-! ## LACE_FAULT (R258, R266) -/

theorem bit_setBit_true (v i : Nat) : bit (setBit v i true) i = true := by
  have hpow : 0 < 2 ^ i := Nat.two_pow_pos i
  rw [setBit]
  split
  case isTrue h => exact h
  case isFalse h =>
    have hlow : v / 2 ^ i % 2 = 0 := by simpa [bit] using h
    simp only [if_true, bit, Nat.add_div_right v hpow, decide_eq_true_eq]
    omega

theorem bit_zero (i : Nat) : bit 0 i = false := by simp [bit]

/-- A fault writes its bit and the ticks without a fault count anew; the event and the gates come after. -/
theorem Mod.laceFault_eq (m : Mod) (b r : Nat) : ∃ n : Mod, m.laceFault b r = n.followLines ∧ n.triad = { m.triad with faultFree := 0 } ∧
    n.dict = (m.set 0x601005 (setBit (m.num 0x601005) b true)).dict ∧ (m.Good → n.Good) := by
  simp only [Mod.laceFault]
  split
  · exact ⟨_, rfl, rfl, rfl, fun hg => (Mod.set_good hg ..).of rfl rfl rfl⟩
  · exact ⟨_, rfl, rfl, rfl, fun hg => (Mod.set_good hg ..).of rfl rfl rfl⟩

theorem Mod.laceFault_sets {m : Mod} (hg : m.Good) (b r : Nat) : bit ((m.laceFault b r).num 0x601005) b = true ∧
    (m.laceFault b r).triad.faultFree = 0 := by
  obtain ⟨n, hn, htriad, hdict, hgood⟩ := m.laceFault_eq b r
  constructor
  · rw [hn, Mod.num_followLines (hgood hg) (by decide) (by decide), Mod.num_of_dict hdict, Mod.num_set hg.dict, bit_setBit_true]
  · rw [hn, Mod.followLines_triad, htriad]

theorem Mod.gateOpen_laceFault {m : Mod} (hg : m.Good) (b r : Nat) : (m.laceFault b r).gateOpen = false := by
  refine Mod.gateOpen_of_fault fun h0 => ?_
  have hbit := (Mod.laceFault_sets hg b r).1
  simp [h0, bit_zero] at hbit

/-! ## Decoded lines (R257, R261) -/

theorem Mod.rank_setLine {m : Mod} (hg : m.Good) (r st : Nat) : (m.setLine r st).rank = m.rank :=
  Mod.num_set_ne hg.dict _ (objKey_ne_same (by omega) 0)

/-- The module once another line's CLAIM is decoded, the gates still to follow: LAST_PUB clears (R259). -/
def Mod.otherClaimed (m : Mod) (r : Nat) : Mod := { m.setLine r lnClaim with triad := { m.triad with lastPub := false } }

section
variable {m : Mod} {r : Nat} (h1 : 1 ≤ r) (h3 : r ≤ 3)
include h1 h3

theorem laceClaimDecoded_own (hg : m.Good) (hr : r = m.rank) : laceClaimDecoded r m = (m.setLine r lnClaim).followLines := by
  simp [laceClaimDecoded, isLine_of_range h1 h3, Mod.rank_setLine hg, ← hr]

theorem laceClaimDecoded_idle (hr : r ≠ (m.setLine r lnClaim).rank) (hdrive : m.triad.drive ≠ .claim) :
    laceClaimDecoded r m = (m.otherClaimed r).gates := by
  rw [laceClaimDecoded, isLine_of_range h1 h3]
  exact (if_neg hr).trans (if_neg hdrive)

theorem laceClaimDecoded_contends (hr : r ≠ (m.setLine r lnClaim).rank) (hdrive : m.triad.drive = .claim) :
    laceClaimDecoded r m = (m.otherClaimed r).claimContend r := by
  rw [laceClaimDecoded, isLine_of_range h1 h3]
  exact (if_neg hr).trans (if_pos hdrive)

theorem laceAliveDecoded_line : laceAliveDecoded r m = (m.setLine r 1).followLines := by simp [laceAliveDecoded, isLine_of_range h1 h3]

theorem lacePatternLost_live (hline : m.line r = 1 ∨ m.line r = 2) : lacePatternLost r m = (m.setLine r 3).followLines :=
  if_pos ⟨isLine_of_range h1 h3, hline⟩

theorem laceDeadTimeout_unqualified (hline : m.line r = 3) : laceDeadTimeout r m = (m.setLine r 0).followLines :=
  if_pos ⟨isLine_of_range h1 h3, hline⟩

theorem laceViewFault_after_8 (hrun : 8 ≤ Table.get m.triad.viewRun 0 r) : laceViewFault r m = m.laceFault 1 r :=
  if_pos ⟨isLine_of_range h1 h3, hrun⟩

theorem foreignClaimAlarm_in_8th (hmem : m.mstate = msMember) (hrun : Table.get m.triad.foreignRun 0 r = 8) :
    foreignClaimAlarm r m = m.raise 0x030D [r, m.k] :=
  if_pos ⟨isLine_of_range h1 h3, Mod.isMember_of_mstate hmem, hrun⟩

end

theorem lacePatternLost_quiet {m : Mod} {r : Nat} (halive : m.line r ≠ 1) (hclaim : m.line r ≠ 2) : lacePatternLost r m = m :=
  if_neg fun ⟨_, h⟩ => h.elim halive hclaim

theorem laceDeadTimeout_other {m : Mod} {r : Nat} (h : m.line r ≠ 3) : laceDeadTimeout r m = m := if_neg fun ⟨_, hline⟩ => h hline

/-- A contention is counted and raised; the higher rank of the two releases its claim (R261). -/
theorem Mod.claimContend_otherClaimed {m n : Mod} (hg : m.Good) {r : Nat}
    (hn : n = ((m.otherClaimed r).bump 0x601008).raise 0x0306 [Config.eventField 0x0306 (2 ^ (m.rank - 1) + 2 ^ (r - 1)), m.k]) :
    (m.otherClaimed r).claimContend r = if r < m.rank then n.releaseClaim 2 else n.followLines := by
  have hline : (m.otherClaimed r).rank = m.rank := Mod.rank_setLine hg r lnClaim
  have hwf : dictWf (m.otherClaimed r).dict = true := (Mod.set_good hg ..).dict
  have hrank : n.rank = m.rank := by
    rw [hn]
    exact (Mod.num_set_ne hwf _ (objKey_ne_same (by decide) 0)).trans hline
  rw [← hrank, hn, Mod.claimContend, hline]
  rfl

/-- Settles O44: the equation of each decoded pattern, fault and alarm in and out of its place, and what a released claim, a fault and the drive OFF leave. -/
theorem laceLines : Obligations.LaceLines := by
  unfold Obligations.LaceLines
  refine ⟨?ownClaim, ?otherClaim, ?contention, ?release, ?alive, ?lost, ?notLost, ?dead, ?notDead, ?lines, ?gate, ?loopback, ?view, ?fault, ?clear,
    ?notClear, ?generator, ?foreign⟩
  case ownClaim =>
    intro s r hr hg h1 h3 hown
    exact next_awake hr (laceClaimDecoded_own h1 h3 hg hown)
  case otherClaim =>
    intro s r hr h1 h3 hother hdrive
    exact next_awake hr (laceClaimDecoded_idle h1 h3 hother hdrive)
  case contention =>
    intro s r m hr hg h1 h3 hother hdrive hm
    have hrank : r ≠ (s.mod.setLine r lnClaim).rank := by rwa [Mod.rank_setLine hg]
    exact next_awake hr ((laceClaimDecoded_contends h1 h3 hrank hdrive).trans (Mod.claimContend_otherClaimed hg hm))
  case release =>
    intro m hg hdrive c
    obtain ⟨-, hbits, hmem, -⟩ := m.setDrive_keeps .alive
    have hstate := (Mod.num_gates (Mod.raise_good (Mod.unclaimed_good hg) 0x0305 [m.unclaimed.rank, Config.eventField 0x0305 c, m.unclaimed.k])
      (by decide)).trans (Mod.num_unclaimed hg)
    have htriad := m.unclaimed_triad
    rw [Mod.releaseClaim_of_claim hdrive]
    exact ⟨congrArg TriadSt.drive htriad, hstate, congrArg TriadSt.lastPub htriad, hbits, hmem⟩
  case alive =>
    intro s r hr h1 h3
    exact next_awake hr (laceAliveDecoded_line h1 h3)
  case lost =>
    intro s r hr h1 h3 hline
    exact next_awake hr (lacePatternLost_live h1 h3 hline)
  case notLost =>
    intro s r halive hclaim
    exact next_awake_self (lacePatternLost_quiet halive hclaim)
  case dead =>
    intro s r hr h1 h3 hline
    exact next_awake hr (laceDeadTimeout_unqualified h1 h3 hline)
  case notDead =>
    intro s r hline
    exact next_awake_self (laceDeadTimeout_other hline)
  case lines =>
    intro m r hg h1 h3
    exact Mod.num_followLines hg (by omega) (by omega)
  case gate =>
    intro m hg h1 h3
    refine ⟨Mod.gate_followLines hg h1, fun hst hopen => ?_, fun hst hshut => ?_⟩
    · rw [Mod.followLines_opens hst hopen, Mod.num_gates (Mod.set_good hg ..) (by decide), Mod.num_set hg.dict, csPublishing]
    · rw [Mod.followLines_closes hst hshut, Mod.num_gates (Mod.set_good hg ..) (by decide), Mod.num_set hg.dict, csClaiming]
  case loopback =>
    intro s hr hrank
    exact next_awake hr (if_neg hrank)
  case view =>
    intro s r hr h1 h3 hrun
    exact next_awake hr (laceViewFault_after_8 h1 h3 hrun)
  case fault =>
    intro m b r hg
    obtain ⟨hbit, hfree⟩ := Mod.laceFault_sets hg b r
    exact ⟨hbit, Mod.gateOpen_laceFault hg b r, hfree⟩
  case clear =>
    intro s hr hfree
    exact next_awake hr (if_pos hfree)
  case notClear =>
    intro s hfree
    exact next_awake_self (if_neg (by omega))
  case generator =>
    intro s hr hg
    obtain ⟨-, hbits, -, hraised⟩ := s.mod.setDrive_keeps .off
    have hoff : s.mod.laceOff.triad.drive = .off := by rw [Mod.laceOff_triad]
    exact ⟨_, next_awake hr rfl, hoff, Mod.num_laceOff hg, Mod.gateOpen_not_claim (hoff.trans_ne (by decide)), hbits, hraised⟩
  case foreign =>
    intro s r hr h1 h3 hmem hrun
    exact next_awake hr (foreignClaimAlarm_in_8th h1 h3 hmem hrun)

end Sys2Proof.Machine
end

section
namespace Sys2Proof.Machine

/-! ## What a transmission leaves as it was (R281, R284, R288) -/

/-- The module but for its links, its outbox and the count of free values used: all that sending on a link changes. -/
def Mod.offWire (m : Mod) : Mod := { m with welt := {}, out := [], freeCount := 0 }

@[simp] theorem Mod.setLink_offWire (m : Mod) (l : Nat) (x : WeltLink) : (m.setLink l x).offWire = m.offWire := rfl

@[simp] theorem Mod.emit_offWire (m : Mod) (x : Out) : (m.emit x).offWire = m.offWire := rfl

@[simp] theorem Mod.putFlit_offWire (m : Mod) (l : Nat) (f : Flit) : (m.putFlit l f).offWire = m.offWire := by simp [Mod.putFlit]

@[simp] theorem Mod.oweVia_offWire (m : Mod) (via : Option Nat) (vc n : Nat) : (m.oweVia via vc n).offWire = m.offWire := by
  cases via with
  | none => rfl
  | some l =>
    simp only [Mod.oweVia]
    split <;> rfl

@[simp] theorem Mod.sendVc_offWire (m : Mod) (l vc : Nat) (wrr : List Nat) : (m.sendVc l vc wrr).offWire = m.offWire := by
  unfold Mod.sendVc
  dsimp only
  split <;> simp

theorem pumpLink_offWire (l n : Nat) (m : Mod) : (pumpLink l n m).offWire = m.offWire := by
  induction n generalizing m with
  | zero => rfl
  | succ n ih =>
    unfold pumpLink
    dsimp only
    split
    · simp [ih]
    · split
      · rfl
      · split
        · simp [ih]
        · rfl

theorem Mod.sendLocal_offWire (m : Mod) (l ty : Nat) (b : List Byte) : (m.sendLocal l ty b).offWire = m.offWire := by
  rw [Mod.sendLocal, Mod.pump, pumpLink_offWire, Mod.setLink_offWire]

theorem Mod.sayHello_offWire (m : Mod) (l : Nat) : (m.sayHello l).offWire = m.offWire := by
  unfold Mod.sayHello
  dsimp only
  split
  · rfl
  · split
    · exact m.sendLocal_offWire ..
    · rfl

theorem Mod.helloAll_offWire (m : Mod) : m.helloAll.offWire = m.offWire := Mod.each_keeps Mod.offWire Mod.sayHello_offWire m _

/-- Modules that differ in what they have sent alone agree in every field that is not of the links. -/
theorem Mod.eq_of_offWire {m n : Mod} (h : m.offWire = n.offWire) : m.dict = n.dict ∧ m.triad = n.triad ∧ m.bits = n.bits ∧ m.mem = n.mem :=
  ⟨(congrArg Mod.dict h :), (congrArg Mod.triad h :), (congrArg Mod.bits h :), (congrArg Mod.mem h :)⟩

theorem Mod.num_of_offWire {m n : Mod} (h : m.offWire = n.offWire) (o i : Nat) : m.num o i = n.num o i := Mod.num_of_dict (Mod.eq_of_offWire h).1 o i

/-! ## A change of the member state (R238, R288, R538) -/

/-- Objects lie above every one of a smaller number. -/
theorem objKey_ne_of_lt {o p : Nat} (h : p < o) (i : Nat) : objKey o i ≠ objKey p 0 := by
  unfold objKey
  omega

theorem Mod.stepDone_keeps (m : Mod) (n : Nat) : (m.stepDone n).triad = m.triad ∧ (m.stepDone n).bits = m.bits ∧ (m.stepDone n).mem = m.mem := by
  by_cases h : m.num 0x203001 = n
  · obtain ⟨b, hb⟩ := Mod.stepDone_current h
    rw [hb]
    exact ⟨rfl, rfl, rfl⟩
  · rw [Mod.stepDone_other h]
    exact ⟨rfl, rfl, rfl⟩

/-- The steps of start-up are filed in objects up to STEP_TIMES. -/
theorem Mod.num_stepDone_above {m : Mod} (hg : m.Good) (n : Nat) {o : Nat} (ho : 0x203003 < o) (i : Nat) : (m.stepDone n).num o i = m.num o i := by
  by_cases h : m.num 0x203001 = n
  · obtain ⟨b, hb⟩ := Mod.stepDone_current h
    have hwf : dictWf (m.draw 32).2.dict = true := hg.dict
    rw [hb, Mod.num_set_ne (dictWf_putVal _ _ hwf) _ (objKey_ne_of_lt (by omega) i), Mod.num_setOct_ne hwf _ (objKey_ne_of_lt ho i)]
    rfl
  · rw [Mod.stepDone_other h]

/-- Start-up that completes files its last two steps and raises an event. -/
theorem Mod.joined_steps (m : Mod) : m.joined = m ∨ ∃ times, m.joined = ((m.stepDone 9).stepDone 10).raise 0x0004 times := by
  unfold Mod.joined
  split
  · exact .inr ⟨_, rfl⟩
  · exact .inl rfl

theorem Mod.joined_keeps (m : Mod) : m.joined.triad = m.triad ∧ m.joined.bits = m.bits ∧ m.joined.mem = m.mem := by
  obtain ⟨htriad, hbits, hmem⟩ := m.stepDone_keeps 9
  obtain ⟨htriad', hbits', hmem'⟩ := (m.stepDone 9).stepDone_keeps 10
  obtain h | ⟨times, h⟩ := m.joined_steps <;> rw [h]
  · exact ⟨rfl, rfl, rfl⟩
  · rw [Mod.raise_triad, Mod.raise_bits, Mod.raise_mem]
    exact ⟨htriad'.trans htriad, hbits'.trans hbits, hmem'.trans hmem⟩

theorem Mod.num_joined {m : Mod} (hg : m.Good) {o : Nat} (ho : 0x203003 < o) (i : Nat) : m.joined.num o i = m.num o i := by
  obtain h | ⟨times, h⟩ := m.joined_steps <;> rw [h]
  rw [Mod.raise_num, Mod.num_stepDone_above (Mod.stepDone_good hg 9) 10 ho, Mod.num_stepDone_above hg 9 ho]

theorem Mod.setMstate_same {m : Mod} {st : Nat} (h : m.mstate = st) : m.setMstate st = m := if_pos h

theorem Mod.setMstate_other {m : Mod} {st : Nat} (h : m.mstate ≠ st) : m.setMstate st = (m.set 0x600002 st).helloAll.joined := if_neg h

theorem Mod.setMstate_keeps (m : Mod) (st : Nat) : (m.setMstate st).triad = m.triad ∧ (m.setMstate st).bits = m.bits ∧ (m.setMstate st).mem = m.mem := by
  by_cases h : m.mstate = st
  · rw [Mod.setMstate_same h]
    exact ⟨rfl, rfl, rfl⟩
  · obtain ⟨-, htriad', hbits', hmem'⟩ := Mod.eq_of_offWire (m.set 0x600002 st).helloAll_offWire
    obtain ⟨htriad, hbits, hmem⟩ := (m.set 0x600002 st).helloAll.joined_keeps
    rw [Mod.setMstate_other h]
    exact ⟨htriad.trans htriad', hbits.trans hbits', hmem.trans hmem'⟩

section
variable {m : Mod} (hg : m.Good)
include hg

theorem Mod.num_changed_mstate (st : Nat) {o : Nat} (ho : 0x203003 < o) (i : Nat) :
    (m.set 0x600002 st).helloAll.joined.num o i = (m.set 0x600002 st).num o i := by
  rw [Mod.num_joined (Mod.helloAll_good (Mod.set_good hg ..)) ho, Mod.num_of_offWire (m.set 0x600002 st).helloAll_offWire]

theorem Mod.mstate_setMstate (st : Nat) : (m.setMstate st).mstate = st := by
  by_cases h : m.mstate = st
  · rw [Mod.setMstate_same h, h]
  · rw [Mod.setMstate_other h, Mod.mstate, Mod.num_changed_mstate hg st (by decide), Mod.num_set hg.dict]

theorem Mod.num_setMstate_ne (st : Nat) {o i : Nat} (ho : 0x203003 < o) (hk : objKey o i ≠ objKey 0x600002 0) :
    (m.setMstate st).num o i = m.num o i := by
  by_cases h : m.mstate = st
  · rw [Mod.setMstate_same h]
  · rw [Mod.setMstate_other h, Mod.num_changed_mstate hg st ho, Mod.num_set_ne hg.dict _ hk]

end

/-! ## ALIVE from OFF (R238, R256) -/

/-- The module with its generator re-armed. -/
def Mod.rearm (m : Mod) : Mod := { m with triad := { m.triad with rearmed := m.k } }

theorem Mod.laceAlive_from_off {m : Mod} (hdrive : m.triad.drive = .off) (hrank : m.rank ≠ 0) :
    m.laceAlive = ((m.rearm.setDrive .alive).set 0x601001 csReleased).gates := if_pos ⟨hdrive, hrank⟩

theorem Mod.laceAlive_as_it_is {m : Mod} (h : ¬ (m.triad.drive = .off ∧ m.rank ≠ 0)) : m.laceAlive = m.rearm := if_neg h

/-- The generator re-armed and a drive that is not OFF where the module has a rank: nothing else of the triad's state changes. -/
theorem Mod.laceAlive_triad (m : Mod) : ∃ d, m.laceAlive.triad = { m.triad with rearmed := m.k, drive := d } ∧ (m.rank ≠ 0 → d ≠ .off) := by
  by_cases h : m.triad.drive = .off ∧ m.rank ≠ 0
  · exact ⟨.alive, (congrArg Mod.triad (Mod.laceAlive_from_off h.1 h.2)).trans (m.rearm.setDrive_triad .alive), fun _ => by decide⟩
  · exact ⟨m.triad.drive, congrArg Mod.triad (Mod.laceAlive_as_it_is h), fun hrank hoff => h ⟨hoff, hrank⟩⟩

theorem Mod.laceAlive_keeps (m : Mod) : m.laceAlive.bits = m.bits ∧ m.laceAlive.mem = m.mem := by
  obtain ⟨-, hbits, hmem, -⟩ := m.rearm.setDrive_keeps .alive
  by_cases h : m.triad.drive = .off ∧ m.rank ≠ 0
  · rw [Mod.laceAlive_from_off h.1 h.2]
    exact ⟨hbits, hmem⟩
  · rw [Mod.laceAlive_as_it_is h]
    exact ⟨rfl, rfl⟩

theorem Mod.rearm_good {m : Mod} (hg : m.Good) : m.rearm.Good := hg.of rfl rfl rfl

theorem Mod.num_laceAlive {m : Mod} (hg : m.Good) {o : Nat} (hstate : o ≠ 0x601001) (hgate : o ≠ 0x601006) : m.laceAlive.num o = m.num o := by
  by_cases h : m.triad.drive = .off ∧ m.rank ≠ 0
  · have hdrive := Mod.setDrive_good (Mod.rearm_good hg) .alive
    rw [Mod.laceAlive_from_off h.1 h.2, Mod.num_gates (Mod.set_good hdrive ..) (objKey_ne_same hgate 0),
      Mod.num_set_ne hdrive.dict _ (objKey_ne_same hstate 0), Mod.num_setDrive]
    rfl
  · rw [Mod.laceAlive_as_it_is h]
    rfl

/-! ## SEEK and OUT entered, a MEMBER made (R238) -/

/-- The module with nothing of an earlier search kept. -/
def Mod.searching (m : Mod) : Mod := { m with triad := { m.triad with seekTicks := 0, kForm := none, shadowRun := 0 } }

theorem Mod.searching_good {m : Mod} (hg : m.Good) : m.searching.Good := hg.of rfl rfl rfl

theorem Mod.enterSeek_eq (m : Mod) : m.enterSeek = (m.searching.setMstate msSeek).laceAlive := rfl

theorem Mod.enterSeek_keeps (m : Mod) : m.enterSeek.bits = m.bits ∧ m.enterSeek.mem = m.mem := by
  obtain ⟨-, hbits, hmem⟩ := m.searching.setMstate_keeps msSeek
  obtain ⟨hbits', hmem'⟩ := (m.searching.setMstate msSeek).laceAlive_keeps
  exact ⟨hbits'.trans hbits, hmem'.trans hmem⟩

section
variable {m : Mod} (hg : m.Good)
include hg

theorem Mod.enterSeek_triad : ∃ k d, m.enterSeek.triad = { m.triad with seekTicks := 0, kForm := none, shadowRun := 0, rearmed := k, drive := d } ∧
    (m.rank ≠ 0 → d ≠ .off) := by
  obtain ⟨d, htriad, hd⟩ := (m.searching.setMstate msSeek).laceAlive_triad
  have hrank : (m.searching.setMstate msSeek).rank = m.rank := Mod.num_setMstate_ne (Mod.searching_good hg) msSeek (by decide) (by decide)
  refine ⟨(m.searching.setMstate msSeek).k, d, ?_, fun h => hd (hrank.trans_ne h)⟩
  rw [Mod.enterSeek_eq, htriad, (m.searching.setMstate_keeps msSeek).1]
  rfl

theorem Mod.mstate_enterSeek : m.enterSeek.mstate = msSeek := by
  have hseek := Mod.setMstate_good (Mod.searching_good hg) msSeek
  rw [Mod.enterSeek_eq, Mod.mstate, Mod.num_laceAlive hseek (by decide) (by decide), ← Mod.mstate, Mod.mstate_setMstate (Mod.searching_good hg)]

theorem Mod.num_enterSeek {o : Nat} (ho : 0x600002 < o) (hlace : o < 0x601001) : m.enterSeek.num o = m.num o := by
  have hsearch := Mod.searching_good hg
  rw [Mod.enterSeek_eq, Mod.num_laceAlive (Mod.setMstate_good hsearch _) (by omega) (by omega),
    Mod.num_setMstate_ne hsearch _ (by omega) (objKey_ne_of_lt ho 0)]
  rfl

/-- OUT: the member state, the drive OFF, and CLAIM_STATE as reset leaves it. -/
theorem Mod.enterOut_leaves (c : Nat) : (m.enterOut c).mstate = msOut ∧ (m.enterOut c).triad.drive = .off ∧ (m.enterOut c).num 0x601001 = 0 := by
  have hrel := Mod.releaseClaim_good hg c
  have hoff := Mod.laceOff_good hrel
  refine ⟨Mod.mstate_setMstate hoff _, ?_, ?_⟩
  · rw [Mod.enterOut, ((m.releaseClaim c).laceOff.setMstate_keeps msOut).1, Mod.laceOff_triad]
  · rw [Mod.enterOut, Mod.num_setMstate_ne hoff _ (by decide) (by decide), Mod.num_laceOff hrel]

end

/-- The module about to be a MEMBER: what spoke against it is forgotten (R238, R251). -/
def Mod.forgiven (m : Mod) : Mod :=
  { m with triad := { m.triad with attempts := 0, shadowRun := 0, kForm := none, absences := Table.del m.triad.absences m.rank } }

theorem Mod.forgiven_good {m : Mod} (hg : m.Good) : m.forgiven.Good := hg.of rfl rfl rfl

/-- The same, no longer excluded and its ticks in the minority counted anew. -/
def Mod.readmitted (m : Mod) : Mod := (m.forgiven.set 0x602104 0 m.rank).set 0x602102 0 m.rank

theorem Mod.becomeMember_eq (m : Mod) : m.becomeMember = m.readmitted.setMstate msMember := rfl

theorem Mod.becomeMember_keeps (m : Mod) : m.becomeMember.triad = m.readmitted.triad ∧ m.becomeMember.bits = m.bits ∧ m.becomeMember.mem = m.mem :=
  m.readmitted.setMstate_keeps msMember

section
variable {m : Mod} (hg : m.Good)
include hg

theorem Mod.readmitted_good : m.readmitted.Good := Mod.set_good (Mod.set_good (Mod.forgiven_good hg) ..) ..

theorem Mod.mstate_becomeMember : m.becomeMember.mstate = msMember := Mod.mstate_setMstate (Mod.readmitted_good hg) _

theorem Mod.readmitted_counts : m.readmitted.num 0x602104 m.rank = 0 ∧ m.readmitted.num 0x602102 m.rank = 0 := by
  have hforgiven := Mod.forgiven_good hg
  have hfirst := Mod.set_good hforgiven 0x602104 0 m.rank
  exact ⟨(Mod.num_set_ne hfirst.dict _ (objKey_ne_same (by decide) _)).trans (Mod.num_set hforgiven.dict ..), Mod.num_set hfirst.dict ..⟩

theorem Mod.becomeMember_counts : m.becomeMember.num 0x602104 m.rank = 0 ∧ m.becomeMember.num 0x602102 m.rank = 0 := by
  obtain ⟨hexcl, hmin⟩ := Mod.readmitted_counts hg
  have hready := Mod.readmitted_good hg
  rw [Mod.becomeMember_eq, Mod.num_setMstate_ne hready _ (by decide) (objKey_ne_of_lt (by decide) _),
    Mod.num_setMstate_ne hready _ (by decide) (objKey_ne_of_lt (by decide) _)]
  exact ⟨hexcl, hmin⟩

theorem Mod.num_becomeMember {o : Nat} (ho : 0x600002 < o) (hvote : o < 0x602102) : m.becomeMember.num o = m.num o := by
  have hready := Mod.readmitted_good hg
  have hforgiven := Mod.forgiven_good hg
  have hfirst := Mod.set_good hforgiven 0x602104 0 m.rank
  rw [Mod.becomeMember_eq, Mod.num_setMstate_ne hready _ (by omega) (objKey_ne_of_lt ho 0), Mod.readmitted,
    Mod.num_set_ne hfirst.dict _ (objKey_ne_of_lt hvote _).symm, Mod.num_set_ne hforgiven.dict _ (objKey_ne_of_lt (by omega) _).symm]
  rfl

end

/-! ## The commands of the member states (R238, R239, R269, R273) -/

/-- The module with no failed attempt counted. -/
def Mod.unattempted (m : Mod) : Mod := { m with triad := { m.triad with attempts := 0 } }

theorem Mod.unattempted_good {m : Mod} (hg : m.Good) : m.unattempted.Good := hg.of rfl rfl rfl

theorem rejoinWrite_rejoins {m : Mod} (hst : m.mstate = msOut ∨ m.mstate = msConflict) (hrun : m.stopped = false) (hrank : m.rank ≠ 0) (p : Path) :
    rejoinWrite p 1 m = m.unattempted.enterSeek.report p 0 := by
  simp [rejoinWrite, Mod.served, hst, hrun, hrank, Mod.unattempted]

theorem formWaitExpiry_announces {m : Mod} {r : Nat} (hst : m.mstate = msSeek) (hwait : m.num 0x600008 ≤ m.triad.seekTicks)
    (hfirst : m.triad.kForm = none) (hpeer : (Table.get m.triad.peers {} r).mstate = msSeek)
    (hdigest : (Table.get m.triad.peers {} r).digest = m.settingsDigest) (hlow : m.rank < r)
    (hnone : ∀ x, x = 1 ∨ x = 2 ∨ x = 3 → x = m.rank ∨ m.num 0x600102 x ≠ msMember) (kf k q : Nat) :
    formWaitExpiry r kf k q m =
      ({ m with triad := { m.triad with kForm := some (m.k + 4800), formPeer := r } } : Mod).emit (.formation (m.k + 4800) m.k) := by
  have hno : ([1, 2, 3].any fun x => x != m.rank && m.num 0x600102 x == msMember) = false := by
    refine List.any_eq_false.mpr fun x hx => ?_
    rcases hnone x (by simpa using hx) with h | h <;> simp [h]
  have hready : ¬ (m.mstate ≠ msSeek ∨ m.triad.seekTicks < m.num 0x600008 ∨ m.triad.kForm.isSome = true ∨
      (Table.get m.triad.peers {} r).mstate ≠ msSeek ∨ (Table.get m.triad.peers {} r).digest ≠ m.settingsDigest ∨ r = m.rank ∨
      ([1, 2, 3].any fun x => x != m.rank && m.num 0x600102 x == msMember) = true) := by
    simp only [hst, hfirst, hpeer, hdigest, hno]
    simp
    omega
  rw [formWaitExpiry]
  exact (if_neg hready).trans (if_pos hlow)

theorem formationTick_due {m n v : Mod} (hdue : m.formationDue = true) (hn : n = (m.set 0x600006 m.configDigest).freshTick)
    (hv : v = n.peerIs m.triad.formPeer msMember) :
    formationTick m = (v.raise 0x030B [n.k, n.num 0x600101 m.triad.formPeer]).becomeMember.noteVote.openTick := by
  rw [hv, hn]
  exact if_neg (by simp [hdue])

theorem formationTick_not_due {m : Mod} (h : m.mstate ≠ msSeek ∨ m.triad.kForm ≠ some m.tick.k) : formationTick m = m := by
  have hdue : m.formationDue = false := by
    rcases h with h | h <;> simp [Mod.formationDue, h]
  exact if_pos (by simp [hdue])

/-- The module with one more failed attempt. -/
def Mod.attempted (m : Mod) : Mod := { m with triad := { m.triad with attempts := m.triad.attempts + 1 } }

/-- A failed attempt to resynchronise, counted and raised (R238). -/
def Mod.failedAttempt (m : Mod) (c : Nat) : Mod :=
  (m.attempted.bump 0x600009).raise 0x0303 [m.attempted.num 0x60000B, m.triad.attempts + 1, resyncCause c]

theorem Mod.resyncFail_eq (m : Mod) (c : Nat) :
    m.resyncFail c = if 3 ≤ m.triad.attempts + 1 then (m.failedAttempt c).enterOut 6 else (m.failedAttempt c).enterSeek := rfl

theorem Mod.attempted_good {m : Mod} (hg : m.Good) : m.attempted.Good := hg.of rfl rfl rfl

theorem Mod.failedAttempt_good {m : Mod} (hg : m.Good) (c : Nat) : (m.failedAttempt c).Good :=
  Mod.raise_good (Mod.bump_good (Mod.attempted_good hg) ..) ..

theorem Mod.num_failedAttempt {m : Mod} (hg : m.Good) (c : Nat) :
    (m.failedAttempt c).num 0x600009 = min (m.num 0x600009 + 1) (objMax 0x600009) :=
  Mod.num_bump (Mod.attempted_good hg).dict ..

theorem resyncTimeout_seeks {m : Mod} (hst : m.mstate = msResync) (hfew : m.triad.attempts < 2) (c : Nat) :
    resyncTimeout c m = (m.failedAttempt c).enterSeek := by
  rw [resyncTimeout, if_pos hst, Mod.resyncFail_eq, if_neg (by omega)]

theorem resyncTimeout_gives_up {m : Mod} (hst : m.mstate = msResync) (hmany : 2 ≤ m.triad.attempts) (c : Nat) :
    resyncTimeout c m = (m.failedAttempt c).enterOut 6 := by
  rw [resyncTimeout, if_pos hst, Mod.resyncFail_eq, if_pos (by omega)]

/-- The module after 48 shadow ticks, RESYNC_LAST set and event 0x0300 raised. -/
def Mod.resynced (m : Mod) : Mod :=
  let n := m.set 0x60000A (min ((m.k - m.triad.resyncAt) * 1000000 / m.hz) (2 ^ 32 - 1))
  n.raise 0x0300 [n.rank, n.k]

theorem Mod.resynced_good {m : Mod} (hg : m.Good) : m.resynced.Good := Mod.raise_good (Mod.set_good hg ..) ..

theorem Mod.resynced_keeps (m : Mod) : m.resynced.bits = m.bits ∧ m.resynced.mem = m.mem := by
  rw [Mod.resynced, Mod.raise_bits, Mod.raise_mem, Mod.set_bits, Mod.set_mem]
  exact ⟨rfl, rfl⟩

theorem Mod.num_resynced {m : Mod} (hg : m.Good) :
    m.resynced.num 0x60000A = min ((m.k - m.triad.resyncAt) * 1000000 / m.hz) (2 ^ 32 - 1) := by
  rw [Mod.resynced, Mod.raise_num, Mod.num_set hg.dict]

theorem shadowComplete_after_48 {m : Mod} (hst : m.mstate = msShadow) (hrun : 48 ≤ m.triad.shadowRun) :
    shadowComplete m = m.resynced.becomeMember :=
  if_neg (by simp [hst, hrun])

theorem donorCopyComplete_donates {m n v : Mod} {r : Nat} (hmem : m.mstate = msMember) (hr : r ≠ m.rank) (hpeer : m.num 0x600102 r = msResync)
    (hn : n = m.each m.sramBlocks (fun n a => n.post
      { ty := .wrReq, vc := 2, dst := m.num 0x600101 r, src := n.moduleId, len := 4096, offset := a, data := Memory.readN n.mem a 4096 }))
    (hv : v = n.post { ty := .fence, vc := 2, dst := m.num 0x600101 r, src := n.moduleId }) :
    donorCopyComplete r m = v.emit (.donorFence (m.num 0x600101 r) v.chain) := by
  rw [hv, hn]
  exact if_neg (by simp [Mod.isMember_of_mstate hmem, hr, hpeer])

/-- Settles O40: the equation of each command in and out of its place, and what SEEK, OUT and a new MEMBER read. -/
theorem memberStates : Obligations.MemberStates := by
  unfold Obligations.MemberStates
  refine ⟨?rejoin, ?announce, ?formation, ?noFormation, ?member, ?retry, ?giveUp, ?noResync, ?shadow, ?donor⟩
  case rejoin =>
    intro s p hs hg hst hrun hrank
    have hg' := Mod.unattempted_good hg
    obtain ⟨k, d, htriad, hd⟩ := Mod.enterSeek_triad hg'
    obtain ⟨hbits, hmem⟩ := s.mod.unattempted.enterSeek_keeps
    refine ⟨_, next_gate hs (rejoinWrite_rejoins hst hrun hrank p), ?_⟩
    rw [Mod.mstate, Mod.report_num, Mod.report_triad, Mod.report_bits, Mod.report_mem]
    exact ⟨Mod.mstate_enterSeek hg', congrArg TriadSt.attempts htriad, congrArg TriadSt.seekTicks htriad, congrArg TriadSt.kForm htriad,
      (congrArg TriadSt.drive htriad).trans_ne (hd hrank), hbits, hmem⟩
  case announce =>
    intro s r kf k q hr hst hwait hfirst hpeer hdigest hlow hnone
    exact next_awake hr (formWaitExpiry_announces hst hwait hfirst hpeer hdigest hlow hnone kf k q)
  case formation =>
    intro s m n hr hst hform hI hstage hm hn
    have hdue : s.mod.formationDue = true := by simp [Mod.formationDue, hst, hform, hI, hstage]
    exact next_awake hr (formationTick_due hdue hm hn)
  case noFormation =>
    intro s h
    exact next_awake_self (formationTick_not_due h)
  case member =>
    intro m hg
    have htriad := m.becomeMember_keeps.1
    obtain ⟨hexcl, hmin⟩ := Mod.becomeMember_counts hg
    exact ⟨Mod.mstate_becomeMember hg, congrArg TriadSt.attempts htriad, congrArg TriadSt.kForm htriad, hexcl, hmin⟩
  case retry =>
    intro s c hr hg hst hfew
    have hfail := Mod.failedAttempt_good hg c
    obtain ⟨k, d, htriad, -⟩ := Mod.enterSeek_triad hfail
    refine ⟨_, next_awake hr (resyncTimeout_seeks hst hfew c), Mod.mstate_enterSeek hfail, congrArg TriadSt.attempts htriad, ?_⟩
    exact (Mod.num_enterSeek hfail (by decide) (by decide)).trans (Mod.num_failedAttempt hg c)
  case giveUp =>
    intro s c hr hg hst hmany
    exact ⟨_, next_awake hr (resyncTimeout_gives_up hst hmany c), Mod.enterOut_leaves (Mod.failedAttempt_good hg c) 6⟩
  case noResync =>
    intro s c hr hst
    exact next_awake_self (if_neg hst)
  case shadow =>
    intro s hr hg hst hrun
    have hready := Mod.resynced_good hg
    obtain ⟨hbits, hmem⟩ := s.mod.resynced_keeps
    obtain ⟨htriad, hbits', hmem'⟩ := s.mod.resynced.becomeMember_keeps
    have hlast : s.mod.resynced.becomeMember.num 0x60000A = min ((s.mod.k - s.mod.triad.resyncAt) * 1000000 / s.mod.hz) (2 ^ 32 - 1) :=
      (Mod.num_becomeMember hready (by decide) (by decide)).trans (Mod.num_resynced hg)
    exact ⟨_, next_awake hr (shadowComplete_after_48 hst hrun), Mod.mstate_becomeMember hready, congrArg TriadSt.shadowRun htriad,
      congrArg TriadSt.attempts htriad, hlast, hbits'.trans hbits, hmem'.trans hmem⟩
  case donor =>
    intro s r m n hr hmem hrank hpeer hm hn
    exact next_awake hr (donorCopyComplete_donates hmem hrank hpeer hm hn)

end Sys2Proof.Machine
end

section
namespace Sys2Proof.Machine

/-! ## The outcome for a stream or station (R242) -/

theorem agreeOn_own {own : Nat} {mp : Bool} (hmp : mp = true) {ps : List (Nat × Nat)} (h : ∃ r, (r, own) ∈ ps) : agreeOn own mp ps = .own := by
  obtain ⟨r, hr⟩ := h
  exact if_pos ⟨hmp, List.any_eq_true.mpr ⟨(r, own), hr, by simp⟩⟩

section
variable {own : Nat} (mp : Bool) (a b : Nat) {d : Nat} (hd : d ≠ own)
include hd

theorem agreeOn_peers_pair : agreeOn own mp [(a, d), (b, d)] = .peer a := by simp [agreeOn, hd]

theorem agreeOn_three_differ {d' : Nat} (hd' : d' ≠ own) (hne : d ≠ d') : agreeOn own mp [(a, d), (b, d')] = .no := by
  simp [agreeOn, hd, hd', hne]

theorem agreeOn_two_differ : agreeOn own mp [(a, d)] = .no := by simp [agreeOn, hd]

end

theorem agreeOn_alone (own : Nat) (mp : Bool) : agreeOn own mp [] = .no := by simp [agreeOn]

theorem Mod.agreeStream_own {m : Mod} {i s : Nat}
    (h : m.outcome AgreeMsg.digests (Table.get m.ingest.closed {} s).digest i = .own) : m.agreeStream i s =
      { m with ingest := { m.ingest with agreed := Table.put m.ingest.agreed s (Table.get m.ingest.closed {} s).subs } } := by
  simp only [Mod.agreeStream, h]

theorem Mod.agreeStream_no {m : Mod} {i s : Nat}
    (h : m.outcome AgreeMsg.digests (Table.get m.ingest.closed {} s).digest i = .no) : m.agreeStream i s = m.bump 0x603003 := by
  simp only [Mod.agreeStream, h]

/-! ## The two deadlines (R242, R243, R246) -/

theorem agreeDeadline_settles {m n v : Mod} {absent : List Nat} (hst : m.triad.stage = 0) (hI : m.tick.phase = .I) (hrun : m.tick.running = true)
    (habsent : absent = if m.inTriad then m.otherMembers.filter (fun r => (Table.find? m.triad.agrees r).isNone) else [])
    (hn : n = m.each absent (fun n _ => n.bump 0x603004))
    (hv : v = ({ n with triad := { n.triad with stage := 1 } } : Mod).each (indexed n.streamsOn) (fun v e => v.agreeStream e.1 e.2)) :
    agreeDeadline m = v.each (indexed v.stationsOn) (fun v e => v.agreeStation e.1 e.2) := by
  rw [hv, hn, habsent]
  exact if_neg (by simp [hst, hI, hrun])

theorem agreeDeadline_passed {m : Mod} (h : m.triad.stage ≠ 0) : agreeDeadline m = m := if_pos (.inl h)

theorem fetchDeadline_delivers {m : Mod} (h : m.triad.stage = 1) : fetchDeadline m =
    (applyStations (({ (m.bump 0x603002 0 ((m.triad.fetches.filter (fun f => !f.done)).length)) with
      triad := { m.triad with stage := 2 } } : Mod).deliverAll)).sampleGroups :=
  if_neg (not_not_intro h)

theorem fetchDeadline_out_of_place {m : Mod} (h : m.triad.stage ≠ 1) : fetchDeadline m = m := if_pos h

/-- Settles O42: the outcome by the digests present, a stream by its outcome, and each deadline in and out of its stage. -/
theorem agreementPerTick : Obligations.AgreementPerTick := by
  unfold Obligations.AgreementPerTick
  refine ⟨?agree, ?outcome, ?own, ?none, ?fetch, ?agreePassed, ?noFetch⟩
  case agree =>
    intro s absent m n hr hst hI hrun habsent hm hn
    exact next_awake hr (agreeDeadline_settles hst hI hrun habsent hm hn)
  case outcome =>
    intro own mp
    exact ⟨fun ps hmp h => agreeOn_own hmp h, fun a b d hd => agreeOn_peers_pair mp a b hd,
      fun a b d d' hd hd' hne => agreeOn_three_differ mp a b hd hd' hne, fun a d hd => agreeOn_two_differ mp a hd, agreeOn_alone own mp⟩
  case own =>
    intro m i s h
    exact Mod.agreeStream_own h
  case none =>
    intro m i s h
    exact Mod.agreeStream_no h
  case fetch =>
    intro s hr hst
    exact next_awake hr (fetchDeadline_delivers hst)
  case agreePassed =>
    intro s hst
    exact next_awake_self (agreeDeadline_passed hst)
  case noFetch =>
    intro s hst
    exact next_awake_self (fetchDeadline_out_of_place hst)

end Sys2Proof.Machine
end

section
namespace Sys2Proof.Machine

/-! ## A link up: its store and its memory (R277, R288, R289, R292) -/

/-- What no step of a run of sound modules changes, the run leaves as it was. -/
theorem Mod.each_keeps_of_good {α β : Type} (π : Mod → β) {f : Mod → α → Mod} {l : List α} {m : Mod} (hg : m.Good)
    (hgood : ∀ m x, m.Good → (f m x).Good) (hf : ∀ m x, m.Good → x ∈ l → π (f m x) = π m) : π (m.each l f) = π m := by
  induction l generalizing m with
  | nil => rfl
  | cons x l ih =>
    have htail := ih (hgood m x hg) fun m y h hy => hf m y h (List.mem_cons_of_mem x hy)
    exact htail.trans (hf m x hg List.mem_cons_self)

theorem Mod.num_setLink (m : Mod) (l : Nat) (x : WeltLink) (o i : Nat) : (m.setLink l x).num o i = m.num o i := rfl

/-- ROUTE_IN_USE alone follows the links. -/
theorem Mod.num_routesInUse {m : Mod} (hg : m.Good) {o i : Nat} (ho : o ≠ 0x612002) (hi : i < 65536) : m.routesInUse.num o i = m.num o i := by
  refine Mod.each_keeps_of_good (fun m => m.num o i) hg (fun m d h => Mod.set_good h ..) fun m d h hd => ?_
  have hlow : d < 65536 := by
    obtain ⟨j, hj, rfl⟩ := List.mem_map.mp hd
    have := List.mem_range.mp hj
    omega
  exact Mod.num_set_ne h.dict _ (objKey_ne hi hlow (.inl ho))

theorem Mod.routesInUse_mem (m : Mod) : m.routesInUse.mem = m.mem := by
  rw [Mod.routesInUse]
  exact Mod.each_keeps Mod.mem (fun m d => Mod.set_mem ..) m _

theorem Mod.propose_offWire (m : Mod) (l code : Nat) : (m.propose l code).offWire = m.offWire := by
  simp only [Mod.propose, Mod.sayRate, Mod.sendLocal_offWire, Mod.setLink_offWire]
  rfl

theorem Mod.climbOn_offWire (m : Mod) (l : Nat) : (m.climbOn l).offWire = m.offWire := by
  simp only [Mod.climbOn]
  split
  · exact m.propose_offWire ..
  · rfl

theorem Mod.checkTriadLink_keeps (m : Mod) (l : Nat) : (m.checkTriadLink l).dict = m.dict ∧ (m.checkTriadLink l).mem = m.mem := by
  unfold Mod.checkTriadLink
  split <;> exact ⟨rfl, rfl⟩

theorem Mod.climbOn_keeps (m : Mod) (l : Nat) : (m.climbOn l).dict = m.dict ∧ (m.climbOn l).mem = m.mem := by
  obtain ⟨hdict, -, -, hmem⟩ := Mod.eq_of_offWire (m.climbOn_offWire l)
  exact ⟨hdict, hmem⟩

/-- Of the store TRIAD_LINK alone follows what makes link l a triad link. -/
theorem Mod.judgeTriadLink_keeps (m : Mod) (l : Nat) :
    (m.judgeTriadLink l).dict = (m.set 0x611009 (b2n (m.isTriadLink l)) l).dict ∧ (m.judgeTriadLink l).mem = m.mem := by
  simp only [Mod.judgeTriadLink]
  split
  · rw [(Mod.climbOn_keeps ..).1, (Mod.climbOn_keeps ..).2, (Mod.checkTriadLink_keeps ..).1, (Mod.checkTriadLink_keeps ..).2]
    split <;> exact ⟨rfl, rfl⟩
  · exact ⟨rfl, rfl⟩

/-- The module with the PEER fields of link l written, routes and TRIAD_LINK still to follow. -/
def Mod.peerNamed (m : Mod) (l : Nat) (h : Hello) : Mod :=
  let n := ((m.set 0x611006 h.moduleId l).set 0x611007 h.link l).set 0x611008 h.triadId l
  n.setLink l { n.link l with peerMax := h.rateMax, peerRank := h.rank }

theorem Mod.peerFields_eq (m : Mod) (l : Nat) (h : Hello) : m.peerFields l h = (m.peerNamed l h).routesInUse.judgeTriadLink l := rfl

theorem Mod.peerFields_mem (m : Mod) (l : Nat) (h : Hello) : (m.peerFields l h).mem = m.mem := by
  rw [Mod.peerFields_eq, (Mod.judgeTriadLink_keeps ..).2, Mod.routesInUse_mem]
  rfl

theorem Mod.setLk_mem (m : Mod) (l st : Nat) : (m.setLk l st).mem = m.mem := (m.set 0x611004 st l).routesInUse_mem

section
variable {m : Mod} (hg : m.Good) {l : Nat} (hl : l < 24)
include hg

theorem Mod.peerNamed_good (l : Nat) (h : Hello) : (m.peerNamed l h).Good :=
  Mod.setLink_good (Mod.set_good (Mod.set_good (Mod.set_good hg ..) ..) ..) ..

theorem Mod.peerNamed_reads (h : Hello) : (m.peerNamed l h).num 0x611006 l = h.moduleId ∧ (m.peerNamed l h).num 0x611007 l = h.link ∧
    (m.peerNamed l h).num 0x611008 l = h.triadId ∧ (m.peerNamed l h).num 0x611004 l = m.num 0x611004 l := by
  have hid := Mod.set_good hg 0x611006 h.moduleId l
  have hlink := Mod.set_good hid 0x611007 h.link l
  have hne : ∀ {o p : Nat}, o ≠ p → objKey o l ≠ objKey p l := fun ho => objKey_ne_same ho l
  simp only [Mod.peerNamed, Mod.num_setLink]
  refine ⟨?_, ?_, Mod.num_set hlink.dict .., ?_⟩
  · rw [Mod.num_set_ne hlink.dict _ (hne (by decide)), Mod.num_set_ne hid.dict _ (hne (by decide)), Mod.num_set hg.dict]
  · rw [Mod.num_set_ne hlink.dict _ (hne (by decide)), Mod.num_set hid.dict]
  · rw [Mod.num_set_ne hlink.dict _ (hne (by decide)), Mod.num_set_ne hid.dict _ (hne (by decide)), Mod.num_set_ne hg.dict _ (hne (by decide))]

include hl

theorem Mod.lkState_setLk (st : Nat) : (m.setLk l st).lkState l = st := by
  rw [Mod.lkState, Mod.setLk, Mod.num_routesInUse (Mod.set_good hg ..) (by decide) (by omega), Mod.num_set hg.dict]

/-- Routes and TRIAD_LINK that follow the PEER fields leave every other object of the link as it was. -/
theorem Mod.num_peerFields (h : Hello) {o : Nat} (hroutes : o ≠ 0x612002) (htriad : o ≠ 0x611009) :
    (m.peerFields l h).num o l = (m.peerNamed l h).num o l := by
  have hnamed := Mod.peerNamed_good hg l h
  rw [Mod.peerFields_eq, Mod.num_of_dict (Mod.judgeTriadLink_keeps ..).1, Mod.num_set_ne (Mod.routesInUse_good hnamed).dict _ (objKey_ne_same htriad l),
    Mod.num_routesInUse hnamed hroutes (by omega)]

end

/-- Link l with the credits of a HELLO and SEQ 0 on each side (R281, R283). -/
def Mod.credited (m : Mod) (l : Nat) (h : Hello) : Mod :=
  m.setLink l { credits := h.credits, peerMax := h.rateMax, peerRank := h.rank, climb := true, noUp := (m.link l).noUp, noDown := (m.link l).noDown }

/-- A link that enters ACTIVE: state and PEER fields, then what is said of it. -/
theorem Mod.linkActive_eq (m : Mod) (l : Nat) (h : Hello) {n : Mod} (hn : n = ((m.credited l h).setLk l lkActive).peerFields l h) :
    m.linkActive l h = ((n.raise 0x0400 [l, h.moduleId, h.link, n.num 0x611005 l]).sayHello l).climbOn l := by
  simp only [hn, Mod.linkActive, Mod.credited]

/-- What is said of the link leaves store and memory as they were. -/
theorem Mod.linkActive_keeps (m : Mod) (l : Nat) (h : Hello) :
    (m.linkActive l h).dict = (((m.credited l h).setLk l lkActive).peerFields l h).dict ∧ (m.linkActive l h).mem = m.mem := by
  obtain ⟨hdict, -, -, hmem⟩ := Mod.eq_of_offWire ((((m.credited l h).setLk l lkActive).peerFields l h).raise 0x0400
    [l, h.moduleId, h.link, (((m.credited l h).setLk l lkActive).peerFields l h).num 0x611005 l] |>.sayHello_offWire l)
  rw [Mod.linkActive_eq m l h rfl, (Mod.climbOn_keeps ..).1, (Mod.climbOn_keeps ..).2, hdict, hmem, Mod.raise_dict, Mod.raise_mem, Mod.peerFields_mem,
    Mod.setLk_mem]
  exact ⟨rfl, rfl⟩

theorem Mod.linkActive_reads {m : Mod} (hg : m.Good) {l : Nat} (hl : l < 24) (h : Hello) :
    (m.linkActive l h).num 0x611004 l = lkActive ∧ (m.linkActive l h).num 0x611006 l = h.moduleId ∧
    (m.linkActive l h).num 0x611007 l = h.link ∧ (m.linkActive l h).num 0x611008 l = h.triadId := by
  have hcred : (m.credited l h).Good := Mod.setLink_good hg ..
  have hup := Mod.setLk_good hcred l lkActive
  have hnum : ∀ {o : Nat}, o ≠ 0x612002 → o ≠ 0x611009 →
      (m.linkActive l h).num o l = (((m.credited l h).setLk l lkActive).peerNamed l h).num o l := fun hroutes htriad =>
    (Mod.num_of_dict (m.linkActive_keeps l h).1 _ _).trans (Mod.num_peerFields hup hl h hroutes htriad)
  obtain ⟨hid, hlink, htriad, hstate⟩ := Mod.peerNamed_reads hup (l := l) h
  rw [hnum (by decide) (by decide), hnum (by decide) (by decide), hnum (by decide) (by decide), hnum (by decide) (by decide)]
  exact ⟨hstate.trans (Mod.lkState_setLk hcred hl lkActive), hid, hlink, htriad⟩

/-! ## HELLO received (R288 to R290) -/

theorem Mod.lkUp_before_active {m : Mod} {l : Nat} (h : m.lkState l = lkHello ∨ m.lkState l = lkFault) : m.lkUp l = false := by
  rcases h with h | h <;> simp [Mod.lkUp, h, lkHello, lkFault, lkActive, lkRate]

theorem weltHelloRx_first {m : Mod} {h : FlitHdr} (hst : m.lkState h.l = lkHello ∨ m.lkState h.l = lkFault) (x : Hello) (k q : Nat) :
    weltHelloRx h x k q m = m.firstHello h.l x k q := by
  simp only [weltHelloRx, Mod.lkUp_before_active hst, hst]
  simp

theorem weltHelloRx_up {m : Mod} {h : FlitHdr} (hu : m.Hears h) (x : Hello) (k q : Nat) :
    weltHelloRx h x k q m = ((m.advanced h 1).nextHello h.l x k q).answered h.l :=
  (if_pos hu.2.1).trans (takeLocal_hears (fun m => m.nextHello h.l x k q) hu)

theorem Mod.firstHello_passes {m : Mod} (hid : m.moduleId ≠ 0) {l : Nat} {x : Hello} (hok : m.helloFault l x = 0) (k q : Nat) :
    m.firstHello l x k q = (m.linkActive l x).triadHello x k q :=
  (if_neg hid).trans (if_neg (not_not_intro hok))

theorem Mod.firstHello_fails {m : Mod} (hid : m.moduleId ≠ 0) {l : Nat} (hst : m.lkState l = lkHello) {x : Hello} (hbad : m.helloFault l x ≠ 0)
    (k q : Nat) : m.firstHello l x k q = (m.raise 0x0404 [l, m.helloFault l x]).setLk l lkFault :=
  (if_neg hid).trans ((if_pos hbad).trans (if_neg (by rw [hst]; decide)))

theorem Mod.nextHello_other {m : Mod} {l : Nat} {x : Hello} (h : x.moduleId ≠ m.num 0x611006 l) (k q : Nat) : m.nextHello l x k q = m.linkDown l 4 :=
  if_pos h

theorem Mod.nextHello_same {m : Mod} {l : Nat} {x : Hello} (h : x.moduleId = m.num 0x611006 l) (k q : Nat) :
    m.nextHello l x k q = ((m.peerFields l x).climbOn l).triadHello x k q := if_neg (not_not_intro h)

theorem Mod.helloFault_invalid (m : Mod) (l : Nat) {h : Hello} (hid : h.moduleId = 0 ∨ 255 ≤ h.moduleId) : m.helloFault l h = 1 := if_pos hid

section
variable {m : Mod} (l : Nat) {h : Hello} (h1 : 1 ≤ h.moduleId) (h255 : h.moduleId < 255)
include h1 h255

theorem Mod.helloFault_valid : m.helloFault l h = if h.moduleId = m.moduleId then 2 else if h.lanes ≠ m.num 0x611001 l then 3 else 0 :=
  if_neg (by omega)

theorem Mod.helloFault_own (hown : h.moduleId = m.moduleId) : m.helloFault l h = 2 := by rw [Mod.helloFault_valid l h1 h255, if_pos hown]

theorem Mod.helloFault_lanes (hother : h.moduleId ≠ m.moduleId) (hlanes : h.lanes ≠ m.num 0x611001 l) : m.helloFault l h = 3 := by
  rw [Mod.helloFault_valid l h1 h255, if_neg hother, if_pos hlanes]

end

/-! ## FENCE and the W2 buffer (R269, R299, R300) -/

theorem weltFenceRx_takes {m : Mod} {h : FlitHdr} {p : Packet} (hu : m.Takes h p) (hd : p.dst = (m.received h p).moduleId) (c : Option Chain) :
    weltFenceRx h p c m = ((m.received h p).takeRequest h.l { pkt := p, chain := c }).1.answered h.l := by
  rw [weltFenceRx, takePacket_takes _ hu, if_pos (.inl hd)]
  rfl

section
variable {m n : Mod} {l : Nat} {e : W2Entry} (hempty : (m.link l).w2 = []) (hn : n = m.setLink l { m.link l with w2 := [e] })
include hn

theorem Mod.link_holding : n.link l = { m.link l with w2 := [e] } := by
  have hne : { m.link l with w2 := [e] } ≠ ({} : WeltLink) := fun h => nomatch congrArg WeltLink.w2 h
  rw [hn]
  exact Table.get_set_of_ne _ _ _ hne

include hempty

/-- A request that finds the buffer empty is the only one to be served. -/
theorem Mod.takeRequest_alone : (m.takeRequest l e).1 = serveLink l 1 n := by
  simp [Mod.takeRequest, hempty, ← hn, Mod.serveW2, Mod.link_holding hn]

theorem Mod.takeRequest_served (hserve : n.mayServe e = true) :
    (m.takeRequest l e).1 = ((n.setLink l { n.link l with w2 := [] }).owe l 2 (flitsOf e.pkt)).serve e := by
  simp [Mod.takeRequest_alone hempty hn, serveLink, Mod.link_holding hn, hserve]

theorem Mod.takeRequest_waits (hwait : n.mayServe e = false) : (m.takeRequest l e).1 = n := by
  simp [Mod.takeRequest_alone hempty hn, serveLink, Mod.link_holding hn, hwait]

end

theorem Mod.serve_fence (m : Mod) {e : W2Entry} (h : e.pkt.ty = .fence) : m.mayServe e = true ∧ m.serve e = m.takeFence e.pkt e.chain := by
  simp [Mod.mayServe, Mod.serve, h]

theorem Mod.takeFence_ends {m n : Mod} {p : Packet} {c : Chain} (hn : n = m.set 0x613010 p.fenceId p.src) (hst : n.mstate = msResync)
    (hdonor : p.src = n.num 0x60000B) (htime : n.fenceInTime c = true) : m.takeFence p (some c) = n.resyncComplete c := by
  subst hn
  exact if_pos ⟨hst, hdonor, htime⟩

theorem Mod.takeFence_recorded {m n : Mod} {p : Packet} {c : Chain} (hn : n = m.set 0x613010 p.fenceId p.src)
    (h : n.mstate ≠ msResync ∨ p.src ≠ n.num 0x60000B ∨ n.fenceInTime c = false) : m.takeFence p (some c) = n := by
  subst hn
  refine if_neg fun ⟨hst, hdonor, htime⟩ => ?_
  rcases h with h | h | h
  · exact h hst
  · exact h hdonor
  · exact Bool.false_ne_true (h.symm.trans htime)

/-! ## AGREE and VECTOR received (R240, R251) -/

/-- A message counts on W0, with bit TRIAD, whole, and where `Mod.msgOk` holds. -/
theorem Mod.triadMsg_some {m : Mod} {l ty : Nat} {p : Packet} {x : TriadHdr × List Byte} (h : m.triadMsg l ty p = some x) :
    p.vc = 0 ∧ bit p.flags 1 = true ∧ triadParse ty p.data = some x ∧ m.msgOk l x.1 = true := by
  rw [Mod.triadMsg] at h
  split at h
  case isTrue => cases h
  case isFalse hvc =>
    obtain ⟨hparse, hok⟩ := Option.filter_eq_some_iff.mp h
    have hflags : p.vc = 0 ∧ bit p.flags 1 = true := by simpa using hvc
    exact ⟨hflags.1, hflags.2, hparse, hok⟩

theorem Mod.msgOk_iff {m : Mod} {l : Nat} {h : TriadHdr} : m.msgOk l h = true ↔ m.triadLink l = true ∧ h.tick = m.tick.k ∧ h.rank ≠ m.rank ∧
    (1 ≤ h.rank ∧ h.rank ≤ 3) ∧ m.num 0x602104 h.rank = 0 ∧ m.rank ≠ 0 := by
  simp only [Mod.msgOk, isLine, Bool.and_eq_true, beq_iff_eq, bne_iff_ne, decide_eq_true_eq, and_assoc]

/-- What a peer reports of its state changes the store and what is known of its absences. -/
theorem Mod.peerIs_keeps (m : Mod) (r st : Nat) : (∃ a, (m.peerIs r st).triad = { m.triad with absences := a }) ∧ (m.peerIs r st).bits = m.bits ∧
    (m.peerIs r st).raised = m.raised := by
  simp only [Mod.peerIs]
  split
  · exact ⟨⟨_, rfl⟩, rfl, rfl⟩
  · exact ⟨⟨m.triad.absences, rfl⟩, rfl, rfl⟩

theorem Mod.num_peerIs {m : Mod} (hg : m.Good) (r st : Nat) : (m.peerIs r st).num 0x600102 r = st := by
  have hne : ∀ {p : Nat}, 0x600102 ≠ p → objKey 0x600102 r ≠ objKey p r := fun h => objKey_ne_same h r
  have htold := Mod.set_good hg 0x600102 st r
  have hknown : ∀ t : TriadSt, ({ m.set 0x600102 st r with triad := t } : Mod).Good := fun t => htold.of rfl rfl rfl
  simp only [Mod.peerIs]
  split
  · rw [Mod.num_set_ne (Mod.set_good (Mod.set_good (hknown _) ..) ..).dict _ (hne (by decide)),
      Mod.num_set_ne (Mod.set_good (hknown _) ..).dict _ (hne (by decide)), Mod.num_set_ne (hknown _).dict _ (hne (by decide))]
    exact Mod.num_set hg.dict ..
  · exact Mod.num_set hg.dict ..

/-- The module with a peer's AGREE kept for the tick. -/
def Mod.keepAgree (m : Mod) (r : Nat) (x : AgreeMsg) : Mod := { m with triad := { m.triad with agrees := Table.put m.triad.agrees r x } }

/-- The module with a peer's vector kept for the tick. -/
def Mod.keepVector (m : Mod) (r : Nat) (x : VectorMsg) : Mod := { m with triad := { m.triad with vectors := Table.put m.triad.vectors r x } }

section
variable {m : Mod} {l : Nat} {p : Packet} {h : TriadHdr} {b : List Byte}

theorem Mod.takeAgree_kept (hmsg : m.triadMsg l 1 p = some (h, b)) (hst : m.triad.stage = 0) (rs : List StMsg) :
    m.takeAgree l p rs = (m.keepAgree h.rank (m.readAgree h b rs)).peerIs h.rank h.mstate := by
  simp only [Mod.takeAgree, hmsg]
  exact if_neg (not_not_intro hst)

theorem Mod.takeVector_kept (hmsg : m.triadMsg l 2 p = some (h, b)) (hst : m.triad.stage < 4) :
    m.takeVector l p = (m.keepVector h.rank { hdr := h, body := b }).peerIs h.rank h.mstate := by
  simp only [Mod.takeVector, hmsg]
  exact if_neg (by omega)

end

theorem Mod.takeAgree_ignored {m : Mod} {l : Nat} {p : Packet} (h : m.triadMsg l 1 p = none ∨ m.triad.stage ≠ 0) (rs : List StMsg) :
    m.takeAgree l p rs = m := by
  rw [Mod.takeAgree]
  split
  case h_1 x b hmsg => exact if_pos (h.resolve_left (by simp [hmsg]))
  case h_2 => rfl

theorem Mod.takeVector_ignored {m : Mod} {l : Nat} {p : Packet} (h : m.triadMsg l 2 p = none ∨ 4 ≤ m.triad.stage) : m.takeVector l p = m := by
  rw [Mod.takeVector]
  split
  case h_1 x b hmsg => exact if_pos (h.resolve_left (by simp [hmsg]))
  case h_2 => rfl

/-! ## What one module sends, another reads back (R240) -/

theorem slice_append_of_le {xs : List Byte} {a : Nat} (h : xs.length ≤ a) (ys : List Byte) (n : Nat) :
    slice (xs ++ ys) a n = slice ys (a - xs.length) n := by
  simp only [slice, List.drop_append, List.drop_eq_nil_of_le h, List.nil_append]

theorem slice_append_whole (xs ys : List Byte) : slice (xs ++ ys) 0 xs.length = xs := by simp [slice]

theorem field_append_of_le {xs : List Byte} {a : Nat} (h : xs.length ≤ a) (ys : List Byte) (n : Nat) :
    field (xs ++ ys) a n = field ys (a - xs.length) n := by rw [field, field, slice_append_of_le h]

theorem field_toLE {n v : Nat} (hv : v < 256 ^ n) (ys : List Byte) : field (toLE n v ++ ys) 0 n = v := by
  have hfirst : slice (toLE n v ++ ys) 0 n = toLE n v := by
    have := slice_append_whole (toLE n v) ys
    rwa [length_toLE] at this
  rw [field, hfirst, leNat_toLE, Nat.mod_eq_of_lt hv]

/-- The 32 octets before the body of a triad message of `n` octets. -/
def triadHead (ty : Nat) (h : TriadHdr) (n : Nat) : List Byte :=
  toLE 1 ty ++ (toLE 1 h.rank ++ (toLE 1 h.moduleId ++ (toLE 1 h.mstate ++ (toLE 8 h.tick ++ (toLE 2 n ++ (toLE 2 0 ++ (toLE 4 h.digest ++
    (toLE 4 h.status ++ (toLE 2 h.laceView ++ (toLE 2 h.voteView ++ toLE 4 0))))))))))

theorem length_triadHead (ty : Nat) (h : TriadHdr) (n : Nat) : (triadHead ty h n).length = 32 := by
  simp [triadHead, length_toLE]

theorem triadBytes_eq (ty : Nat) (h : TriadHdr) (b : List Byte) : triadBytes ty h b =
    triadHead ty h (36 + b.length) ++ b ++ toLE 4 (crc32 (triadHead ty h (36 + b.length) ++ b)) := by
  simp only [triadBytes, triadHead, List.append_assoc]

/-- A header whose fields fit theirs. -/
structure TriadHdrFits (h : TriadHdr) : Prop where
  rank : h.rank < 256
  moduleId : h.moduleId < 256
  mstate : h.mstate < 256
  tick : h.tick < 2 ^ 64
  digest : h.digest < 2 ^ 32
  status : h.status < 2 ^ 32
  laceView : h.laceView < 2 ^ 16
  voteView : h.voteView < 2 ^ 16

theorem field_triadHead {ty n : Nat} {h : TriadHdr} (hty : ty < 256) (hn : n < 65536) (hfits : TriadHdrFits h) (rest : List Byte) :
    field (triadHead ty h n ++ rest) 0 1 = ty ∧ field (triadHead ty h n ++ rest) 0x0C 2 = n ∧
    ({ rank := field (triadHead ty h n ++ rest) 1 1, moduleId := field (triadHead ty h n ++ rest) 2 1,
       mstate := field (triadHead ty h n ++ rest) 3 1, tick := field (triadHead ty h n ++ rest) 4 8,
       digest := field (triadHead ty h n ++ rest) 0x10 4, status := field (triadHead ty h n ++ rest) 0x14 4,
       laceView := field (triadHead ty h n ++ rest) 0x18 2, voteView := field (triadHead ty h n ++ rest) 0x1A 2 } : TriadHdr) = h := by
  obtain ⟨hrank, hid, hmstate, htick, hdigest, hstatus, hlace, hvote⟩ := hfits
  simp [triadHead, field_append_of_le, length_toLE, field_toLE (n := 1) hty, field_toLE (n := 2) hn, field_toLE (n := 1) hrank,
    field_toLE (n := 1) hid, field_toLE (n := 1) hmstate, field_toLE (n := 8) htick, field_toLE (n := 4) hdigest, field_toLE (n := 4) hstatus,
    field_toLE (n := 2) hlace, field_toLE (n := 2) hvote]

/-- Octets with their CRC after them: the CRC is read back, and it is that of what stands before it. -/
theorem crc_appended (x : List Byte) : (x ++ toLE 4 (crc32 x)).length = x.length + 4 ∧
    field (x ++ toLE 4 (crc32 x)) (x.length + 4 - 4) 4 = crc32 x ∧ (x ++ toLE 4 (crc32 x)).take (x.length + 4 - 4) = x := by
  have hlen : (x ++ toLE 4 (crc32 x)).length = x.length + 4 := by rw [List.length_append, length_toLE]
  have hsmall : crc32 x < 256 ^ 4 := crc32_lt x
  have hcrc := field_last_four x (length_toLE 4 (crc32 x))
  rw [hlen, leNat_toLE, Nat.mod_eq_of_lt hsmall] at hcrc
  exact ⟨hlen, hcrc, List.take_left⟩

theorem triadParse_triadBytes {ty : Nat} {h : TriadHdr} {b : List Byte} (hty : ty < 256) (hfits : TriadHdrFits h) (hb : b.length < 65500) :
    triadParse ty (triadBytes ty h b) = some (h, b) := by
  have hhead : (triadHead ty h (36 + b.length)).length = 32 := length_triadHead ..
  have hdata : (triadHead ty h (36 + b.length) ++ b).length = 32 + b.length := by rw [List.length_append, hhead]
  obtain ⟨hlen, hcrc, htake⟩ := crc_appended (triadHead ty h (36 + b.length) ++ b)
  rw [triadBytes_eq]
  obtain ⟨hkind, hlength, hhdr⟩ := field_triadHead hty (n := 36 + b.length) (by omega) hfits
    (b ++ toLE 4 (crc32 (triadHead ty h (36 + b.length) ++ b)))
  have hbody : slice (triadHead ty h (36 + b.length) ++ (b ++ toLE 4 (crc32 (triadHead ty h (36 + b.length) ++ b)))) 32 b.length = b := by
    rw [slice_append_of_le hhead.le, hhead]
    exact slice_append_whole ..
  rw [← List.append_assoc] at hkind hlength hhdr hbody
  rw [hdata] at hlen hcrc htake
  have hwhole : 32 + b.length + 4 = 36 + b.length := by omega
  rw [hwhole] at hlen hcrc htake
  simp only [triadParse, hlen, hcrc, htake, hkind, hlength, hhdr, Nat.add_sub_cancel_left, hbody]
  simp

/-- Settles O41: HELLO by the link's state and the peer's ID, a fence through the W2 buffer, a message by whether it counts, and the octets read back. -/
theorem peersAreHeard : Obligations.PeersAreHeard := by
  unfold Obligations.PeersAreHeard
  refine ⟨?firstPasses, ?active, ?activeReads, ?firstFails, ?fault, ?nextOther, ?nextSame, ?fence, ?request, ?serve, ?fenceAlone, ?fenceEnds, ?messages,
    ?counts, ?agreeKept, ?agreeIgnored, ?vectorKept, ?vectorIgnored, ?readBack⟩
  case firstPasses =>
    intro s h x k q hr hst hid hok
    exact next_awake hr ((weltHelloRx_first hst x k q).trans (Mod.firstHello_passes hid hok k q))
  case active =>
    intro m n l h hn
    exact m.linkActive_eq l h hn
  case activeReads =>
    intro m l h hg hl
    obtain ⟨hstate, hid, hlink, htriad⟩ := Mod.linkActive_reads hg hl h
    exact ⟨hstate, hid, hlink, htriad, (m.linkActive_keeps l h).2⟩
  case firstFails =>
    intro s h x k q hr hst hid hbad
    exact next_awake hr ((weltHelloRx_first (.inl hst) x k q).trans (Mod.firstHello_fails hid hst hbad k q))
  case fault =>
    intro m l h
    exact ⟨m.helloFault_invalid l, Mod.helloFault_own l, Mod.helloFault_lanes l⟩
  case nextOther =>
    intro s h x k q m hu hm hother
    subst hm
    exact next_awake hu.1 ((weltHelloRx_up hu x k q).trans (congrArg (Mod.answered · h.l) (Mod.nextHello_other hother k q)))
  case nextSame =>
    intro s h x k q m hu hm hsame
    subst hm
    exact next_awake hu.1 ((weltHelloRx_up hu x k q).trans (congrArg (Mod.answered · h.l) (Mod.nextHello_same hsame k q)))
  case fence =>
    intro s h p c m hu hm hd
    subst hm
    exact next_awake hu.1 (weltFenceRx_takes hu hd c)
  case request =>
    intro m n l e hempty hn
    exact ⟨Mod.takeRequest_served hempty hn, Mod.takeRequest_waits hempty hn⟩
  case serve =>
    intro m e h
    exact m.serve_fence h
  case fenceAlone =>
    intro m p
    rfl
  case fenceEnds =>
    intro m n p c hn
    exact ⟨Mod.takeFence_ends hn, Mod.takeFence_recorded hn⟩
  case messages =>
    intro s h p rs m hu hm hd
    subst hm
    exact ⟨next_awake hu.1 (takeWhole_takes (fun m => m.takeAgree h.l p rs) hu (.inl hd)),
      next_awake hu.1 (takeWhole_takes (fun m => m.takeVector h.l p) hu (.inl hd))⟩
  case counts =>
    intro m l ty p x hmsg
    obtain ⟨hvc, hflag, hparse, hok⟩ := Mod.triadMsg_some hmsg
    obtain ⟨hlink, htick, hrank, ⟨h1, h3⟩, hexcl, -⟩ := Mod.msgOk_iff.mp hok
    exact ⟨hparse, hvc, hflag, hlink, htick, hrank, h1, h3, hexcl⟩
  case agreeKept =>
    intro m l p rs h b hg hmsg hst
    have hkept : (m.keepAgree h.rank (m.readAgree h b rs)).Good := hg.of rfl rfl rfl
    obtain ⟨⟨a, htriad⟩, hbits, hraised⟩ := (m.keepAgree h.rank (m.readAgree h b rs)).peerIs_keeps h.rank h.mstate
    rw [Mod.takeAgree_kept hmsg hst, htriad, Mod.num_peerIs hkept, hbits, hraised]
    exact ⟨Table.find?_put .., rfl, rfl, rfl, rfl⟩
  case agreeIgnored =>
    intro m l p rs h
    exact Mod.takeAgree_ignored h rs
  case vectorKept =>
    intro m l p h b hg hmsg hst
    have hkept : (m.keepVector h.rank { hdr := h, body := b }).Good := hg.of rfl rfl rfl
    obtain ⟨⟨a, htriad⟩, hbits, hraised⟩ := (m.keepVector h.rank { hdr := h, body := b }).peerIs_keeps h.rank h.mstate
    rw [Mod.takeVector_kept hmsg hst, htriad, Mod.num_peerIs hkept, hbits, hraised]
    exact ⟨Table.find?_put .., rfl, rfl, rfl, rfl⟩
  case vectorIgnored =>
    intro m l p h
    exact Mod.takeVector_ignored h
  case readBack =>
    intro ty h b hty hrank hid hmstate htick hdigest hstatus hlace hvote hb
    exact triadParse_triadBytes hty ⟨hrank, hid, hmstate, htick, hdigest, hstatus, hlace, hvote⟩ hb

end Sys2Proof.Machine
end

section
namespace Sys2Proof.Machine

/-! ## LANES and training (R275, R289) -/

/-- Two lanes on an even link whose odd neighbour is off. -/
theorem weltLanesWrite_two {l : Nat} (h23 : l ≤ 23) (heven : l % 2 = 0) {m : Mod} (hfree : m.num 0x611001 (l + 1) = 0) (p : Path) :
    weltLanesWrite p l 2 m = ((((m.set 0x611001 2 l).clearLink l lkOff).set 0x611005 2 l).setLk l lkTrain).report p 0 := by
  rw [weltLanesWrite, if_neg (by omega), if_neg (by omega)]
  rfl

theorem weltLanesWrite_off {l : Nat} (h23 : l ≤ 23) (p : Path) (m : Mod) :
    weltLanesWrite p l 0 m = ((((m.set 0x611001 0 l).clearLink l lkOff).set 0x611005 2 l).setLk l lkOff).report p 0 := by
  rw [weltLanesWrite, if_neg (by omega), if_neg (by omega)]
  rfl

/-- Two lanes on an odd link, or on one whose neighbour is not off. -/
theorem weltLanesWrite_refused {l : Nat} (h23 : l ≤ 23) {m : Mod} (htaken : l % 2 = 1 ∨ m.num 0x611001 (l + 1) ≠ 0) (p : Path) :
    weltLanesWrite p l 2 m = m.report p 0x06090030 := by
  rw [weltLanesWrite, if_neg (by omega), if_pos (.inr (.inl ⟨rfl, htaken⟩))]
  rfl

section
variable {m : Mod} {l : Nat}

theorem laneTrainLock_training (h : m.lkState l = lkTrain) : laneTrainLock l m = (m.setLk l lkHello).sayHello l := if_neg (not_not_intro h)

theorem laneTrainLock_elsewhere (h : m.lkState l ≠ lkTrain) : laneTrainLock l m = m := if_pos h

theorem laneTrainTimeout_training (h : m.lkState l = lkTrain) : laneTrainTimeout l m = m.bump 0x61100D l := if_neg (not_not_intro h)

theorem laneTrainTimeout_elsewhere (h : m.lkState l ≠ lkTrain) : laneTrainTimeout l m = m := if_pos h

theorem weltDownRetrain_down (h : m.lkState l = lkDown) : weltDownRetrain l m = (m.set 0x611005 2 l).setLk l lkTrain := if_neg (not_not_intro h)

/-! ## HELLO and a link's end (R288, R289) -/

theorem weltHelloSend_says (h : m.lkState l = lkHello ∨ m.lkUp l = true) : weltHelloSend l m = m.sayHello l := if_pos h

/-- In ACTIVE a HELLO is a flit of its own. -/
theorem Mod.sayHello_active (h : m.lkState l = lkActive) : m.sayHello l = m.sendLocal l ftHello (helloBytes (m.myHello l)) := by
  have hloud : m.quiet l = false := by rw [Mod.quiet, h]; rfl
  have hup : m.lkUp l = true := by rw [Mod.lkUp, h]; rfl
  simp [Mod.sayHello, hloud, hup]

theorem Mod.sayHello_rate (h : m.lkState l = lkRate) : m.sayHello l = m := if_pos (beq_iff_eq.mpr h)

/-- In HELLO a HELLO is sent without a SEQ. -/
theorem Mod.sayHello_hello (h : m.lkState l = lkHello) : m.sayHello l =
    m.emit (.flit l (({ ty := ftHello, valid := 24, src := m.moduleId, payload := helloBytes (m.myHello l) } : Flit).bytes 0)) := by
  have hloud : m.quiet l = false := by rw [Mod.quiet, h]; rfl
  simp [Mod.sayHello, hloud, Mod.lkUp_before_active (.inl h)]

theorem Mod.linkDown_up (h : m.lkUp l = true) (cause : Nat) :
    m.linkDown l cause = ((m.clearLink l lkDown).bump 0x61100D l).raise 0x0401 [l, cause] := by simp [Mod.linkDown, h]

theorem Mod.linkDown_not_up (h : m.lkUp l = false) (cause : Nat) : m.linkDown l cause = m := by simp [Mod.linkDown, h]

end

/-! ## Flits accepted and discarded (R281, R283) -/

/-- An IDLE or NAK in order takes no SEQ: its ACK and credits alone come in. -/
theorem accept_filler {m : Mod} {h : FlitHdr} (hu : m.Hears h) : m.accept h 0 = (m.ackAndCredit h, true) := by
  simp [Mod.accept, hu.2.1, ← hu.2.2]

theorem accept_not_up {m : Mod} {h : FlitHdr} (hdown : m.lkUp h.l = false) (n : Nat) : m.accept h n = (m, false) := by
  simp [Mod.accept, hdown]

theorem accept_out_of_order {m : Mod} {h : FlitHdr} (hup : m.lkUp h.l = true) (hseq : h.seq ≠ (m.link h.l).rxSeq) (n : Nat) :
    m.accept h n = (m.discardFlit h.l, false) := by
  simp [Mod.accept, hup, hseq]

theorem weltIdleRx_hears {m : Mod} {h : FlitHdr} (hu : m.Hears h) : weltIdleRx h m =
    if ((m.ackAndCredit h).serveW2 h.l).lkUp h.l then ((m.ackAndCredit h).serveW2 h.l).returnCredits h.l else (m.ackAndCredit h).serveW2 h.l := by
  simp [weltIdleRx, accept_filler hu]

theorem weltNakRx_hears {m : Mod} {h : FlitHdr} (hu : m.Hears h) : weltNakRx h m = (m.ackAndCredit h).replay h.l := by
  simp [weltNakRx, accept_filler hu]

/-- An IDLE or a NAK that is not accepted does what the reception leaves, no more. -/
theorem fillerRx_not_accepted {m n : Mod} {h : FlitHdr} (hacc : m.accept h 0 = (n, false)) : weltIdleRx h m = n ∧ weltNakRx h m = n := by
  simp [weltIdleRx, weltNakRx, hacc]

section
variable {m : Mod} {l : Nat}

theorem Mod.discardFlit_first (h : (m.link l).nak = false) :
    m.discardFlit l = (m.setLink l { m.link l with nak := true }).sayFiller l ftNak := if_neg (by simp [h])

theorem Mod.discardFlit_again (h : (m.link l).nak = true) : m.discardFlit l = m := if_pos h

/-- A bad flit on a link that is up is counted by its fault and discarded. -/
theorem weltFlitDiscard_up (h : m.lkUp l = true) : weltFlitDiscard l .crc m = (m.bump 0x61100B l).discardFlit l ∧
    weltFlitDiscard l .seq m = m.discardFlit l ∧ weltFlitDiscard l .type m = (m.bump 0x61300A).discardFlit l := by
  simp [weltFlitDiscard, h]

theorem weltNakRepeat_waiting (hup : m.lkUp l = true) (hnak : (m.link l).nak = true) : weltNakRepeat l m = m.sayFiller l ftNak :=
  if_pos (by rw [hup, hnak]; rfl)

/-! ## Replay (R281) -/

theorem weltReplayTimeout_up (h : m.lkUp l = true) : weltReplayTimeout l m = m.replay l := if_pos h

section
variable (hheld : (m.link l).replay ≠ [])
include hheld

/-- The flits not acknowledged leave again, in order, as they were but for the ACK. -/
theorem Mod.replay_again (hfew : (m.link l).replays < 15) : m.replay l =
    ((m.setLink l { m.link l with replays := (m.link l).replays + 1 }).bump 0x61100C l).each (m.link l).replay
      (fun n f => n.emit (.flit l (f.bytes (((m.link l).rxSeq + 4095) % 4096)))) := by
  have hbusy : (m.link l).replay.isEmpty = false := by simpa using hheld
  have hlimit : ¬ 16 ≤ (m.link l).replays + 1 := by omega
  simp only [Mod.replay, hbusy, hlimit, if_false, Bool.false_eq_true]
  rfl

/-- The 16th replay of one SEQ. -/
theorem Mod.replay_16th (hmany : 15 ≤ (m.link l).replays) : m.replay l =
    ((m.setLink l { m.link l with replays := (m.link l).replays + 1 }).bump 0x61100C l).linkDown l 2 := by
  have hbusy : (m.link l).replay.isEmpty = false := by simpa using hheld
  have hlimit : 16 ≤ (m.link l).replays + 1 := by omega
  simp only [Mod.replay, hbusy, hlimit, if_true, if_false, Bool.false_eq_true]

end

theorem packetAgeExpiry_waiting {i : Nat} {w : Queued} (h : (m.link l).waiting[i]? = some w) : packetAgeExpiry l i m =
    (((m.setLink l { m.link l with waiting := (m.link l).waiting.eraseIdx i }).bump 0x613008).oweVia w.via w.pkt.vc (flitsOf w.pkt)).pump l := by
  simp only [packetAgeExpiry, h]

end

/-! ## A flit's octets, and the turn of the VCs (R278, R284) -/

/-- Header, 52 octets of payload, and the CRC of these 60. -/
theorem Flit.bytes_fields (f : Flit) (a : Nat) : (f.bytes a).length = 64 ∧ field (f.bytes a) 60 4 = crc32 ((f.bytes a).take 60) ∧
    field (f.bytes a) 0 8 = f.header a % 2 ^ 64 := by
  have hbody : (toLE 8 (f.header a) ++ slice f.payload 0 52).length = 60 := by rw [List.length_append, length_toLE, length_slice]
  obtain ⟨hlen, hcrc, htake⟩ := crc_appended (toLE 8 (f.header a) ++ slice f.payload 0 52)
  rw [hbody] at hlen hcrc htake
  have hfirst : slice (f.bytes a) 0 8 = toLE 8 (f.header a) := by
    have h := slice_append_whole (toLE 8 (f.header a)) (slice f.payload 0 52 ++ toLE 4 (crc32 (toLE 8 (f.header a) ++ slice f.payload 0 52)))
    rwa [length_toLE, ← List.append_assoc] at h
  refine ⟨hlen, hcrc.trans (congrArg crc32 htake.symm), ?_⟩
  simp [field, hfirst, leNat_toLE]

/-- W0 goes before every other VC, and takes no slot of the round. -/
theorem WeltLink.turn_w0 {x : WeltLink} (h : x.ready 0 = true) : x.turn = some (0, x.wrr) := if_pos h

theorem WeltLink.turn_none {x : WeltLink} (h0 : x.ready 0 = false) (h1 : x.ready 1 = false) (h2 : x.ready 2 = false) (h3 : x.ready 3 = false) :
    x.turn = none := by simp [WeltLink.turn, h0, h1, h2, h3]

/-- Settles O46: lanes by what R275 admits, each command by the link's state, a flit by whether it comes in order, and replay by the count. -/
theorem weltLinks : Obligations.WeltLinks := by
  unfold Obligations.WeltLinks
  refine ⟨?lanes, ?lanesOff, ?lanesRefused, ?train, ?notTrain, ?helloSend, ?sayHello, ?goesDown, ?notUp, ?retrain, ?idle, ?fillerNotUp, ?fillerDisorder,
    ?firstBad, ?laterBad, ?nak, ?replay, ?replay16, ?age, ?octets, ?turn⟩
  case lanes =>
    intro s p l hs h23 heven hfree
    exact next_gate hs (weltLanesWrite_two h23 heven hfree p)
  case lanesOff =>
    intro s p l hs h23
    exact next_gate hs (weltLanesWrite_off h23 p s.mod)
  case lanesRefused =>
    intro s p l hs h23 htaken
    exact next_gate hs (weltLanesWrite_refused h23 htaken p)
  case train =>
    intro s l hr hst
    exact ⟨next_awake hr (laneTrainLock_training hst), next_awake hr (laneTrainTimeout_training hst)⟩
  case notTrain =>
    intro s l hst
    exact ⟨next_awake_self (laneTrainLock_elsewhere hst), next_awake_self (laneTrainTimeout_elsewhere hst)⟩
  case helloSend =>
    intro s l hr hst
    exact next_awake hr (weltHelloSend_says hst)
  case sayHello =>
    intro m l
    exact ⟨Mod.sayHello_active, Mod.sayHello_rate, Mod.sayHello_hello⟩
  case goesDown =>
    intro s l hr hup
    exact ⟨next_awake hr (Mod.linkDown_up hup 3), next_awake hr (Mod.linkDown_up hup 1)⟩
  case notUp =>
    intro s l hdown
    exact ⟨next_awake_self (Mod.linkDown_not_up hdown 3), next_awake_self (Mod.linkDown_not_up hdown 1)⟩
  case retrain =>
    intro s l hr hst
    exact next_awake hr (weltDownRetrain_down hst)
  case idle =>
    intro s h m hu hm
    subst hm
    exact next_awake hu.1 (weltIdleRx_hears hu)
  case fillerNotUp =>
    intro s h hdown
    obtain ⟨hidle, hnak⟩ := fillerRx_not_accepted (accept_not_up hdown 0)
    exact ⟨next_awake_self hidle, next_awake_self hnak⟩
  case fillerDisorder =>
    intro s h hr hup hseq
    obtain ⟨hidle, hnak⟩ := fillerRx_not_accepted (accept_out_of_order hup hseq 0)
    exact ⟨next_awake hr hidle, next_awake hr hnak⟩
  case firstBad =>
    intro s l hr hup hfirst
    obtain ⟨hcrc, hseq, htype⟩ := weltFlitDiscard_up hup
    exact ⟨next_awake hr (hcrc.trans (Mod.discardFlit_first hfirst)), next_awake hr (hseq.trans (Mod.discardFlit_first hfirst)),
      next_awake hr (htype.trans (Mod.discardFlit_first hfirst))⟩
  case laterBad =>
    intro s l hr hup hagain
    obtain ⟨hcrc, hseq, -⟩ := weltFlitDiscard_up hup
    exact ⟨next_awake hr (hcrc.trans (Mod.discardFlit_again hagain)), next_awake_self (hseq.trans (Mod.discardFlit_again hagain)),
      next_awake hr (weltNakRepeat_waiting hup hagain)⟩
  case nak =>
    intro s h hu
    exact next_awake hu.1 (weltNakRx_hears hu)
  case replay =>
    intro s l hr hup hheld hfew
    exact next_awake hr ((weltReplayTimeout_up hup).trans (Mod.replay_again hheld hfew))
  case replay16 =>
    intro s l hr hup hheld hmany
    exact next_awake hr ((weltReplayTimeout_up hup).trans (Mod.replay_16th hheld hmany))
  case age =>
    intro s l i w hr hw
    exact next_awake hr (packetAgeExpiry_waiting hw)
  case octets =>
    intro f a
    exact f.bytes_fields a
  case turn =>
    intro x
    exact ⟨WeltLink.turn_w0, WeltLink.turn_none⟩

end Sys2Proof.Machine
end

section
namespace Sys2Proof.Machine

/-! ## Packets delivered and forwarded (R280, R286) -/

section
variable {m : Mod} {h : FlitHdr} {p : Packet} (hu : m.Takes h p)
include hu

/-- A packet for another module is forwarded, whatever its delivery here would do. -/
theorem takePacket_forwards (hother : p.dst ≠ (m.received h p).moduleId) (hsingle : p.dst ≠ 255) (f : Mod → Mod × Bool) :
    m.takePacket h p f = ((m.received h p).forwardPacket p h.l).answered h.l := by
  rw [takePacket_takes f hu, if_neg (fun hhere => hhere.elim hother fun hall => hsingle hall.1), if_neg hsingle]

theorem takeWhole_forwards (hother : p.dst ≠ (m.received h p).moduleId) (hsingle : p.dst ≠ 255) (f : Mod → Mod) :
    m.takeWhole h p f = ((m.received h p).forwardPacket p h.l).answered h.l := takePacket_forwards hu hother hsingle _

section
variable (hd : p.dst = (m.received h p).moduleId)
include hd

/-- A frame with STATION goes to the remote stations. -/
theorem weltFrameRx_station (hstation : bit p.flags 2 = true) (sv : Option SvFrame) (g : GooseFrame) (ts : Nat) : weltFrameRx h p sv (some g) ts m =
    (gooseStationRx g (some ((m.received h p).tickFromLow p.tick)) (m.received h p)).freed h p :=
  (takeWhole_takes _ hu (.inl hd)).trans (congrArg (Mod.freed · h p) (if_pos hstation))

/-- A frame of W1 with neither STATION nor TRIAD goes to the switch. -/
theorem weltFrameRx_switch (hstation : bit p.flags 2 = false) (htriad : bit p.flags 1 = false) (hvc : p.vc ≠ 0) (sv : Option SvFrame)
    (g : Option GooseFrame) (ts : Nat) : weltFrameRx h p sv g ts m =
    (switchClassify { port := 768 + h.l, bytes := p.data, ts := ts, sv := sv, flags := p.flags, cls := p.cls } (m.received h p)).freed h p :=
  (takeWhole_takes _ hu (.inl hd)).trans
    (congrArg (Mod.freed · h p) ((if_neg (by simp [hstation])).trans (if_neg (by simp [hvc, htriad]))))

/-- A request for this module enters the W2 buffer of its link, and stands there after it has been delivered. -/
theorem takePacket_requests (e : Mod → W2Entry) : m.takePacket h p (fun m => m.takeRequest h.l (e m)) =
    ((m.received h p).takeRequest h.l (e (m.received h p))).1.answered h.l := by
  rw [takePacket_takes _ hu, if_pos (.inl hd)]
  rfl

end

end

/-- A packet for another module stores to no device register of this one. -/
theorem Mod.deviceWrite_other {m : Mod} {p : Packet} (hother : p.dst ≠ m.moduleId) (h : FlitHdr) : m.deviceWrite h p = false := by
  simp [Mod.deviceWrite, hother]

/-- Nor does a write elsewhere, or one that no grant admits. -/
theorem Mod.deviceWrite_harmless {m : Mod} {p : Packet} (hsafe : regionOf p.offset ≠ .device ∨ m.writeGranted p.src p.offset = false) (h : FlitHdr) :
    m.deviceWrite h p = false := by
  rcases hsafe with hsafe | hsafe <;> simp [Mod.deviceWrite, hsafe]

/-- A write request that stores to no device register leaves what its reception leaves. -/
theorem next_wrReq {s : State} {h : FlitHdr} {p : Packet} {e : Env} {m : Mod} (hr : s.mod.Runs) (hdev : s.mod.deviceWrite h p = false)
    (hrx : weltWrReqRx h p e s.mod = m) : exec (.weltWrReqRx h p e) s = .next { s with mod := m } :=
  (if_neg (by simp [hdev])).trans (next_awake hr hrx)

/-! ## Requests served (R294, R298) -/

section
variable {m n : Mod} {e : W2Entry}

theorem Mod.serve_read_granted (hty : e.pkt.ty = .rdReq) (hgrant : e.granted = true) {bs : List Byte}
    (hload : m.loadOctets e.pkt.offset e.pkt.len none = some (bs, n)) : m.serve e = n.respond e.pkt 0 bs := by
  simp [Mod.serve, hty, Mod.serveRead, hgrant, hload]

theorem Mod.serve_read_refused (hty : e.pkt.ty = .rdReq) (hgrant : e.granted = false) :
    m.serve e = ((m.bump 0x61300B).raise 0x0406 [e.pkt.src, e.pkt.offset, 0]).respond e.pkt 2 [] := by
  simp [Mod.serve, hty, Mod.serveRead, hgrant]

section
variable (hty : e.pkt.ty = .wrReq)
include hty

theorem Mod.mayServe_write : m.mayServe e = true := by simp [Mod.mayServe, hty]

theorem Mod.serve_write_granted (hgrant : e.granted = true) : m.serve e = m.physWrite e.env none false e.pkt.offset e.pkt.data := by
  simp [Mod.serve, hty, Mod.serveWrite, hgrant]

theorem Mod.serve_write_refused (hgrant : e.granted = false) : m.serve e = (m.bump 0x61300C).raise 0x0406 [e.pkt.src, e.pkt.offset, 1] := by
  simp [Mod.serve, hty, Mod.serveWrite, hgrant]

end

end

/-! ## Remote reads (R293, R296, R297) -/

section
variable {m : Mod} {w : Master} {a k : Nat}

theorem remoteRead_barred (h : m.mayUse w a k = false) : remoteRead w a k m = m.masterFault w a false := if_pos (by simp [h])

theorem remoteRead_logged {t : Nat} (huse : m.mayUse w a k = true) (hlog : m.logged w a k = some t) : remoteRead w a k m = m.reissue t := by
  simp [remoteRead, huse, hlog]

theorem remoteRead_new (huse : m.mayUse w a k = true) (hlog : m.logged w a k = none) : remoteRead w a k m = m.newRead w a k := by
  simp [remoteRead, huse, hlog]

/-- A hart uses a remote window in M or HS mode, for 4 or 8 octets aligned to themselves, of another module. -/
theorem Mod.mayUse_hart {j : Nat} (h : m.mayUse (.hart j) a k = true) : regionOf a = .remote ∧ (remoteOf a).1 ≠ 0 ∧ (remoteOf a).1 ≠ 255 ∧
    (remoteOf a).1 ≠ m.moduleId ∧ ((m.hart j).mode = .m ∨ (m.hart j).mode = .hs) ∧ (k = 4 ∨ k = 8) ∧ a % k = 0 := by
  simpa only [Mod.mayUse, Bool.and_eq_true, Bool.or_eq_true, beq_iff_eq, bne_iff_ne, and_assoc] using h

/-- The tags that a master's reads may take: the fetch reserve, or the rest (R296). -/
def tagPool (w : Master) : List Nat := if w = .fetch then (List.range 256).map (· + 768) else List.range 768

/-- The completion octets that they share. -/
def tagSpace (w : Master) : Nat := if w = .fetch then 131072 else 393216

section
variable {n : Mod} {p : Packet} (hn : n = m.abandon w)
  (hp : p = { ty := .rdReq, vc := 2, dst := (remoteOf a).1, src := n.moduleId, len := k, offset := (remoteOf a).2 })
include hn hp

theorem Mod.newRead_unrouted (hroute : n.routeLink p = none) : m.newRead w a k = (n.bump 0x613007).masterFault w a false := by
  subst hp hn
  exact if_pos (Option.isNone_iff_eq_none.mpr hroute)

section
variable (hroute : n.routeLink p ≠ none)
include hroute

theorem Mod.newRead_untagged (hfull : (tagPool w).find? (fun t => (n.tag t).state == .free) = none) :
    m.newRead w a k = (n.bump 0x613003).retry w a k := by
  subst hp hn
  rw [tagPool] at hfull
  simp only [Mod.newRead, beq_iff_eq, Option.isNone_iff_eq_none, hroute, hfull, if_false]

/-- A new read with a route is logged under the first free tag of its pool, where space and its master's limit leave room. -/
theorem Mod.newRead_tagged {t : Nat} (hfree : (tagPool w).find? (fun t => (n.tag t).state == .free) = some t)
    (hspace : k + n.spaceUsed (w == .fetch) ≤ tagSpace w) (hlimit : (n.tagsOf w).length < masterLimit w) : m.newRead w a k =
    ((n.setTag t { gen := (n.tag t).gen, state := .waiting, master := w, addr := a, len := k, outstanding := true }).route
      { p with tagGen := t + 1024 * (n.tag t).gen }).1.retry w a k := by
  subst hp hn
  rw [tagPool] at hfree
  rw [tagSpace] at hspace
  simp only [Mod.newRead, beq_iff_eq, Option.isNone_iff_eq_none, hroute, hfree, if_false, hspace, decide_true, Bool.not_true, Bool.false_eq_true,
    false_or, Nat.not_le.mpr hlimit]

end

end

/-! ## Reissues, responses and expiries (R296) -/

section
variable {t : Nat}

theorem Mod.reissue_waiting (h : (m.tag t).state = .waiting) : m.reissue t = m.retry (m.tag t).master (m.tag t).addr (m.tag t).len :=
  if_neg (by rw [h]; decide)

section
variable (hheld : (m.tag t).state = .held)
include hheld

theorem Mod.reissue_data {j : Nat} (hst : (m.tag t).status = 0) (hw : (m.tag t).master = .hart j) {n : Mod}
    (hn : n = ((m.leaveTag t).setStall (.hart j) none).emit (.readData (.hart j) (m.tag t).data)) :
    m.reissue t = n.setHart j { n.hart j with loaded := (m.tag t).data } := by
  subst hn
  simp [Mod.reissue, hheld, hst, hw]

theorem Mod.reissue_failed (hst : (m.tag t).status ≠ 0) : m.reissue t = (m.leaveTag t).masterFault (m.tag t).master (m.tag t).addr false :=
  (if_pos hheld).trans (if_pos hst)

theorem holdTimeExpiry_held : holdTimeExpiry t m = (m.leaveTag t).bump 0x613004 := if_neg (not_not_intro hheld)

end

theorem respTimeoutExpiry_waiting (h : (m.tag t).state = .waiting) :
    respTimeoutExpiry t m = (m.setTag t { m.tag t with state := .held, status := 4, outstanding := true }).bump 0x613005 := if_neg (not_not_intro h)

theorem quarantineExpiry_quarantined (h : (m.tag t).state = .quarantine) : quarantineExpiry t m = m.setTag t { gen := ((m.tag t).gen + 1) % 4 } :=
  if_neg (not_not_intro h)

/-- A response of the generation that waits fills the entry. -/
theorem Mod.response_awaited {p : Packet} (hwait : (m.tag (p.tagGen % 1024)).state = .waiting) (hgen : (m.tag (p.tagGen % 1024)).gen = p.tagGen / 1024 % 4)
    (st : Nat) (bs : List Byte) : m.response p st bs =
    m.setTag (p.tagGen % 1024) { m.tag (p.tagGen % 1024) with state := .held, status := st, data := bs, outstanding := false } := if_pos ⟨hwait, hgen⟩

/-- A response of another generation is stale. -/
theorem Mod.response_stale {p : Packet} (hgen : (m.tag (p.tagGen % 1024)).gen ≠ p.tagGen / 1024 % 4) (st : Nat) (bs : List Byte) :
    m.response p st bs = (m.bump 0x613006).raise 0x0407 [p.src, p.tagGen % 1024, p.tagGen / 1024 % 4] := by
  simp [Mod.response, hgen]

end

/-! ## Remote writes (R292, R293, R299) -/

theorem Mod.post_sent {n : Mod} {p : Packet} (h : m.route p = (n, true)) : m.post p = n := by simp [Mod.post, h]

theorem Mod.post_unrouted {n : Mod} {p : Packet} (h : m.route p = (n, false)) : m.post p = m.bump 0x613007 := by simp [Mod.post, h]

section
variable {bs : List Byte}

theorem remoteWrite_barred (h : m.mayUse w a bs.length = false) (f : Option Nat) : remoteWrite w a bs f m = m.masterFault w a true :=
  if_pos (by simp [h])

section
variable (huse : m.mayUse w a bs.length = true) (htakes : m.bridgeTakes (m.writeRequest a bs) = true)
include huse htakes

theorem remoteWrite_posts : remoteWrite w a bs none m = m.post (m.writeRequest a bs) := by simp [remoteWrite, huse, htakes]

/-- A fence follows the write of a DMA channel that ends with one. -/
theorem remoteWrite_fences (f : Nat) : remoteWrite w a bs (some f) m = (m.post (m.writeRequest a bs)).post
    { ty := .fence, vc := 2, dst := (remoteOf a).1, src := (m.post (m.writeRequest a bs)).moduleId, fenceId := f } := by
  simp [remoteWrite, huse, htakes]

end

end

end

/-- Settles O47: a packet by whose it is, a read by grant, log, route and tag, a response by generation, and a write by grant and route. -/
theorem weltBridge : Obligations.WeltBridge := by
  unfold Obligations.WeltBridge
  refine ⟨?station, ?switch, ?forward, ?rdReq, ?wrReq, ?readGranted, ?readRefused, ?serveWrite, ?newRead, ?noTag, ?readBarred, ?mayUse, ?reissue,
    ?reissueWaiting, ?reissueData, ?reissueFailed, ?write, ?writeBarred, ?post, ?response, ?stale, ?respTimeout, ?holdTime, ?quarantine⟩
  case station =>
    intro s h p sv g ts m hu hm hd hflag
    subst hm
    exact next_awake hu.1 (weltFrameRx_station hu hd hflag sv g ts)
  case switch =>
    intro s h p sv g ts m hu hm hd hstation htriad hvc
    subst hm
    exact next_awake hu.1 (weltFrameRx_switch hu hd hstation htriad hvc sv g ts)
  case forward =>
    intro s h p sv g ts c e rs m hu hm hother hsingle
    subst hm
    exact ⟨next_awake hu.1 (takeWhole_forwards hu hother hsingle _), next_awake hu.1 (takePacket_forwards hu hother hsingle _),
      next_awake hu.1 (takeWhole_forwards hu hother hsingle _), next_awake hu.1 (takeWhole_forwards hu hother hsingle _),
      next_awake hu.1 (takePacket_forwards hu hother hsingle _), next_awake hu.1 (takeWhole_forwards hu hother hsingle _),
      next_awake hu.1 (takeWhole_forwards hu hother hsingle _), fun hid =>
        next_wrReq hu.1 (Mod.deviceWrite_other (hid.symm ▸ hother) h) (takePacket_forwards hu hother hsingle _)⟩
  case rdReq =>
    intro s h p m hu hm hd
    subst hm
    exact next_awake hu.1 (takePacket_requests hu hd fun m => { pkt := p, granted := m.readGranted p.src p.offset p.len })
  case wrReq =>
    intro s h p e m hu hm hd hsafe
    subst hm
    exact next_wrReq hu.1 (Mod.deviceWrite_harmless hsafe h)
      (takePacket_requests hu hd fun m => { pkt := p, env := e, granted := m.writeGranted p.src p.offset })
  case readGranted =>
    intro m n e bs hty hgrant hload
    exact Mod.serve_read_granted hty hgrant hload
  case readRefused =>
    intro m n e hty hgrant hn
    subst hn
    exact Mod.serve_read_refused hty hgrant
  case serveWrite =>
    intro m e hty
    exact ⟨Mod.mayServe_write hty, Mod.serve_write_granted hty, Mod.serve_write_refused hty⟩
  case newRead =>
    intro s w a k t m p hr huse hlog hm hp hroute hfree hspace hlimit
    exact next_awake hr ((remoteRead_new huse hlog).trans (Mod.newRead_tagged hm hp hroute hfree hspace hlimit))
  case noTag =>
    intro s w a k m p hr huse hlog hm hp
    exact ⟨fun hroute => next_awake hr ((remoteRead_new huse hlog).trans (Mod.newRead_unrouted hm hp hroute)),
      fun hroute hfull => next_awake hr ((remoteRead_new huse hlog).trans (Mod.newRead_untagged hm hp hroute hfull))⟩
  case readBarred =>
    intro s w a k hr hbar
    exact next_awake hr (remoteRead_barred hbar)
  case mayUse =>
    intro m j a k huse
    exact Mod.mayUse_hart huse
  case reissue =>
    intro s w a k
    rfl
  case reissueWaiting =>
    intro s w a k t hr huse hlog hwait
    exact next_awake hr ((remoteRead_logged huse hlog).trans (Mod.reissue_waiting hwait))
  case reissueData =>
    intro s w a k t j m hr huse hlog hheld hst hw hm
    exact next_awake hr ((remoteRead_logged huse hlog).trans (Mod.reissue_data hheld hst hw hm))
  case reissueFailed =>
    intro s w a k t hr huse hlog hheld hst
    exact next_awake hr ((remoteRead_logged huse hlog).trans (Mod.reissue_failed hheld hst))
  case write =>
    intro s w a bs p hr huse hp htakes
    subst hp
    exact ⟨next_awake hr (remoteWrite_posts huse htakes), fun f => next_awake hr (remoteWrite_fences huse htakes f)⟩
  case writeBarred =>
    intro s w a bs f hr hbar
    exact next_awake hr (remoteWrite_barred hbar f)
  case post =>
    intro m n p
    exact ⟨Mod.post_sent, Mod.post_unrouted⟩
  case response =>
    intro s h p m hu hm hd hwait hgen
    subst hm
    exact ⟨next_awake hu.1 ((takeWhole_takes (fun m => m.response p 0 p.data) hu (.inl hd)).trans
        (congrArg (Mod.freed · h p) (Mod.response_awaited hwait hgen 0 p.data))),
      next_awake hu.1 ((takeWhole_takes (fun m => m.response p p.status []) hu (.inl hd)).trans
        (congrArg (Mod.freed · h p) (Mod.response_awaited hwait hgen p.status [])))⟩
  case stale =>
    intro s h p m hu hm hd hgen
    subst hm
    exact next_awake hu.1 ((takeWhole_takes (fun m => m.response p 0 p.data) hu (.inl hd)).trans
      (congrArg (Mod.freed · h p) (Mod.response_stale hgen 0 p.data)))
  case respTimeout =>
    intro s t hr hwait
    exact next_awake hr (respTimeoutExpiry_waiting hwait)
  case holdTime =>
    intro s t hr hheld
    exact next_awake hr (holdTimeExpiry_held hheld)
  case quarantine =>
    intro s t hr hquar
    exact next_awake hr (quarantineExpiry_quarantined hquar)

end Sys2Proof.Machine
end

section
namespace Sys2Proof.Machine

/-! ## A proposal of the own (R302, R303) -/

/-- A link that may propose a rate: ACTIVE with no handshake under way, STEP_ENABLE 1, no triad link (R302). -/
structure Mod.MayPropose (m : Mod) (l : Nat) : Prop where
  active : m.lkState l = lkActive
  idle : (m.link l).hs = .idle
  enabled : m.num 0x610002 ≠ 0
  alone : m.triadLink l = false

section
variable {m n : Mod} {l now : Nat} {w : UtilWindow} (hup : m.lkUp l = true) (hn : n = ((m.endBackoff l now).takeWindow l w).climbOn l)
include hup hn

theorem rateProposal_barred (h : n.lkState l ≠ lkActive ∨ (n.link l).hs ≠ .idle ∨ n.num 0x610002 = 0 ∨ n.triadLink l = true) :
    rateProposal l w now m = n := by
  subst hn
  exact (if_neg (by simp [hup])).trans (if_pos h)

/-- A busy link proposes the next faster code where RATE_MAX leaves one. -/
theorem rateProposal_up (hmay : n.MayPropose l) (hbusy : asksUp w = true) (hfaster : n.num 0x611002 l < n.num 0x611005 l)
    (hback : (n.link l).noUp = none) : rateProposal l w now m = n.propose l (n.num 0x611005 l - 1) := by
  subst hn
  obtain ⟨hactive, hidle, henabled, halone⟩ := hmay
  simp [rateProposal, hup, hactive, hidle, henabled, halone, hbusy, hfaster, hback]

/-- A calm link proposes the next slower code where RATE_MIN leaves one. -/
theorem rateProposal_down (hmay : n.MayPropose l) (hbusy : asksUp w = false) (hslower : n.num 0x611005 l < n.num 0x611003 l)
    (hback : (n.link l).noDown = none) (hcalm : (n.link l).calm (n.num 0x611005 l + 1) = true) :
    rateProposal l w now m = n.propose l (n.num 0x611005 l + 1) := by
  subst hn
  obtain ⟨hactive, hidle, henabled, halone⟩ := hmay
  simp [rateProposal, hup, hactive, hidle, henabled, halone, hbusy, hslower, hback, hcalm]

end

/-- UTIL shows the window of 10 ms that has ended. -/
theorem Mod.num_takeWindow {m : Mod} (hg : m.Good) (l u : Nat) : (m.takeWindow l (.tenMs u)).num 0x61100A l = min u 100 :=
  Mod.num_set (Mod.setLink_good hg ..).dict ..

/-! ## A REQ received (R303 to R305) -/

/-- Whether link l takes a REQ for a code: a step up within RATE_MAX, or a step down on a calm link that is no triad link. -/
def Mod.admitsRate (m : Mod) (l code : Nat) : Bool :=
  if code < m.num 0x611005 l then decide (m.num 0x611002 l ≤ code)
  else !m.triadLink l && decide (m.num 0x611005 l < code ∧ code ≤ 2) && (m.link l).calm code

section
variable {m : Mod} {l code : Nat}

theorem Mod.admitsRate_step (h : (code < m.num 0x611005 l ∧ m.num 0x611002 l ≤ code) ∨
    (m.num 0x611005 l < code ∧ code ≤ 2 ∧ m.triadLink l = false ∧ (m.link l).calm code = true)) : m.admitsRate l code = true := by
  rcases h with ⟨hup, hmax⟩ | ⟨hdown, htwo, halone, hcalm⟩
  · simp [Mod.admitsRate, hup, hmax]
  · simp [Mod.admitsRate, hdown, Nat.not_lt.mpr hdown.le, htwo, halone, hcalm]

theorem Mod.admitsRate_refused (h : (code < m.num 0x611005 l ∧ code < m.num 0x611002 l) ∨
    (m.num 0x611005 l ≤ code ∧ ((m.link l).calm code = false ∨ m.triadLink l = true ∨ code = m.num 0x611005 l ∨ 2 < code))) :
    m.admitsRate l code = false := by
  rcases h with ⟨hup, hmax⟩ | ⟨hdown, hwhy⟩
  · simp [Mod.admitsRate, hup, hmax]
  · rw [Mod.admitsRate, if_neg (by omega)]
    rcases hwhy with hbusy | htriad | hsame | hslow
    · simp [hbusy]
    · simp [htriad]
    · simp [hsame]
    · simp [Nat.not_le.mpr hslow]

section
variable (hactive : m.lkState l = lkActive) (hidle : (m.link l).hs = .idle)
include hactive hidle

/-- A REQ that meets no proposal of the own is judged alone. -/
theorem Mod.answerReq_idle (nonce : Nat) : m.answerReq l code nonce =
    if m.admitsRate l code then ((m.setLink l { m.link l with hs := .idle }).sayRate l 2 code nonce).quiesce l code nonce
    else (((m.setLink l { m.link l with hs := .idle }).bump 0x611010 l).sayRate l 3 code nonce).climbOn l := by
  have hopen : ¬ (m.lkState l ≠ lkActive ∨ ((m.link l).hs ≠ .idle ∧ (m.link l).hs ≠ .proposed)) := by simp [hactive, hidle]
  have hown : ((m.link l).hs == RateHs.proposed) = false := by rw [hidle]; rfl
  simp only [Mod.answerReq, hopen, hown, if_false, Bool.false_and, Bool.false_eq_true]
  simp only [Mod.admitsRate, decide_eq_true_eq]
  rfl

end

/-! ## The answer to a proposal (R302, R304) -/

theorem Mod.takeAck_nonce {nonce : Nat} (hst : (m.link l).hs = .proposed) (hnonce : (m.link l).hsNonce = nonce) :
    m.takeAck l nonce = m.quiesce l (m.link l).hsCode nonce := if_neg (by simp [hst, hnonce])

theorem Mod.takeAck_other {nonce : Nat} (hnonce : (m.link l).hsNonce ≠ nonce) : m.takeAck l nonce = m := if_pos (.inr hnonce)

theorem Mod.dropProposal_proposed (h : (m.link l).hs = .proposed) (now : Nat) : m.dropProposal l now =
    ((m.setLink l { m.link l with hs := .idle }).backOff l (m.link l).hsCode now).bump 0x611010 l := if_neg (not_not_intro h)

theorem Mod.dropProposal_other (h : (m.link l).hs ≠ .proposed) (now : Nat) : m.dropProposal l now = m := if_pos h

theorem Mod.backOff_up (h : code < m.num 0x611005 l) (now : Nat) :
    m.backOff l code now = m.setLink l { m.link l with noUp := some (now + 100000000) } := congrArg (m.setLink l) (if_pos h)

theorem Mod.backOff_down (h : m.num 0x611005 l ≤ code) (now : Nat) :
    m.backOff l code now = m.setLink l { m.link l with noDown := some (now + 100000000) } := congrArg (m.setLink l) (if_neg (by omega))

/-! ## QUIESCE and RETRAIN (R304) -/

theorem quiesceDrained_marks (hst : (m.link l).hs = .quiesce) (hdrained : (m.link l).replay = []) (hmark : (m.link l).markSent = false) :
    quiesceDrained l m =
      ((m.setLink l { m.link l with markSent := true }).sayRate l 4 (m.link l).hsCode (m.link l).hsNonce).maybeRetrain l :=
  if_neg (by simp [hst, hdrained, hmark])

theorem Mod.takeMark_quiesce (h : (m.link l).hs = .quiesce) :
    m.takeMark l = (m.setLink l { m.link l with markSeen := true }).maybeRetrain l := if_neg (not_not_intro h)

theorem Mod.maybeRetrain_both (hst : (m.link l).hs = .quiesce) (hsent : (m.link l).markSent = true) (hseen : (m.link l).markSeen = true) :
    m.maybeRetrain l = m.setLink l { m.link l with hs := .retrain } := if_pos ⟨hst, hsent, hseen⟩

theorem Mod.maybeRetrain_early (h : (m.link l).markSent = false ∨ (m.link l).markSeen = false) : m.maybeRetrain l = m := by
  refine if_neg fun ⟨_, hsent, hseen⟩ => ?_
  rcases h with h | h
  · exact Bool.false_ne_true (h.symm.trans hsent)
  · exact Bool.false_ne_true (h.symm.trans hseen)

section
variable (hst : (m.link l).hs = .retrain)
include hst

theorem retrainLock_new {n : Mod} (hn : n = ((m.setLink l { m.link l with hs := .idle }).set 0x611005 (m.link l).hsCode l).setLk l lkActive) :
    retrainLock l m =
      (((((n.bump 0x61100F l).raise 0x0402 [l, (m.link l).hsOld, (m.link l).hsCode]).sayHello l).pump l).checkTriadLink l).climbOn l := by
  subst hn
  exact if_pos hst

theorem retrainTimeout_retrain (now : Nat) : retrainTimeout l now m =
    (((m.setLink l { m.link l with hs := .fallback }).backOff l (m.link l).hsCode now).bump 0x611010 l).raise 0x0403 [l, (m.link l).hsCode] :=
  if_neg (not_not_intro hst)

end

section
variable (hst : (m.link l).hs = .fallback)
include hst

theorem retrainLock_old : retrainLock l m = (((m.setLink l { m.link l with hs := .idle }).setLk l lkActive).sayHello l).pump l :=
  (if_neg (by rw [hst]; decide)).trans (if_pos hst)

theorem retrainFallbackTimeout_fallback : retrainFallbackTimeout l m = m.linkDown l 1 := if_neg (not_not_intro hst)

end

end

/-- Settles O48: a proposal by its conditions, a REQ by whether its code is admitted, an answer by its NONCE, and the retraining by its stage. -/
theorem weltRates : Obligations.WeltRates := by
  unfold Obligations.WeltRates
  refine ⟨?stepUp, ?stepDown, ?barred, ?propose, ?window, ?reqTaken, ?reqRefused, ?ack, ?ackOther, ?nak, ?timeout, ?drop, ?backOff, ?drained, ?mark,
    ?bothMarks, ?oneMark, ?lockNew, ?lockOld, ?noLock, ?noFallback⟩
  case stepUp =>
    intro s l now w m hr hup hm hactive hidle henabled halone hbusy hfaster hback
    exact next_awake hr (rateProposal_up hup hm ⟨hactive, hidle, henabled, halone⟩ hbusy hfaster hback)
  case stepDown =>
    intro s l now w m hr hup hm hactive hidle henabled halone hbusy hslower hback hcalm
    exact next_awake hr (rateProposal_down hup hm ⟨hactive, hidle, henabled, halone⟩ hbusy hslower hback hcalm)
  case barred =>
    intro s l now w m hr hup hm hbar
    exact next_awake hr (rateProposal_barred hup hm hbar)
  case propose =>
    intro m l code
    rfl
  case window =>
    intro m l u hg _
    exact ⟨Mod.num_takeWindow hg l u, rfl⟩
  case reqTaken =>
    intro s h code nonce util m n hu hm hactive hidle hn hstep
    subst hn hm
    refine next_awake hu.1 ((takeLocal_hears _ hu).trans (congrArg (Mod.answered · h.l) ?_))
    rw [Mod.answerReq_idle hactive hidle, if_pos (Mod.admitsRate_step hstep)]
  case reqRefused =>
    intro s h code nonce util m n hu hm hactive hidle hn hno
    subst hn hm
    refine next_awake hu.1 ((takeLocal_hears _ hu).trans (congrArg (Mod.answered · h.l) ?_))
    rw [Mod.answerReq_idle hactive hidle, if_neg (by simp [Mod.admitsRate_refused hno])]
  case ack =>
    intro s h nonce m hu hm hst hnonce
    subst hm
    exact next_awake hu.1 ((takeLocal_hears _ hu).trans (congrArg (Mod.answered · h.l) (Mod.takeAck_nonce hst hnonce)))
  case ackOther =>
    intro s h nonce m hu hm hnonce
    subst hm
    exact next_awake hu.1 ((takeLocal_hears _ hu).trans (congrArg (Mod.answered · h.l) (Mod.takeAck_other hnonce)))
  case nak =>
    intro s h now hu
    exact next_awake hu.1 (takeLocal_hears (fun m => m.dropProposal h.l now) hu)
  case timeout =>
    intro s l now hr
    exact next_awake hr rfl
  case drop =>
    intro m l now
    exact ⟨fun h => Mod.dropProposal_proposed h now, fun h => Mod.dropProposal_other h now⟩
  case backOff =>
    intro m l code now
    exact ⟨fun h => Mod.backOff_up h now, fun h => Mod.backOff_down h now⟩
  case drained =>
    intro s l hr hst hdrained hmark
    exact next_awake hr (quiesceDrained_marks hst hdrained hmark)
  case mark =>
    intro s h m hu hm hst
    subst hm
    exact next_awake hu.1 ((takeLocal_hears (fun m => m.takeMark h.l) hu).trans (congrArg (Mod.answered · h.l) (Mod.takeMark_quiesce hst)))
  case bothMarks =>
    intro m l hst hsent hseen
    exact Mod.maybeRetrain_both hst hsent hseen
  case oneMark =>
    intro m l h
    exact Mod.maybeRetrain_early h
  case lockNew =>
    intro s l x m hr hx hst hm
    subst hx
    exact next_awake hr (retrainLock_new hst hm)
  case lockOld =>
    intro s l hr hst
    exact next_awake hr (retrainLock_old hst)
  case noLock =>
    intro s l now hr hst
    exact next_awake hr (retrainTimeout_retrain hst now)
  case noFallback =>
    intro s l hr hst
    exact next_awake hr (retrainFallbackTimeout_fallback hst)

end Sys2Proof.Machine
end

section
namespace Sys2Proof.Machine

/-! ## Classification (R313, R318, R373) -/

/-- A frame that a port gives to classification: copies are made where the port passes it or sends it on around a ring, or where a session mirrors what
the port receives. -/
def Mod.judgeFrame (m : Mod) (f : SwFrame) (whole : Bool) : Mod :=
  if (m.verdict f).pass ∨ (m.verdict f).onward.isSome ∨ !(m.sessionsOf f.port 0).isEmpty then m.classify f (m.verdict f) whole else m

section
variable {m : Mod} {f : SwFrame}

theorem Mod.judgeFrame_pass (h : (m.verdict f).pass = true) (whole : Bool) : m.judgeFrame f whole = m.classify f (m.verdict f) whole :=
  if_pos (.inl h)

theorem Mod.judgeFrame_nothing (hpass : (m.verdict f).pass = false) (honward : (m.verdict f).onward = none) (hquiet : m.sessionsOf f.port 0 = [])
    (whole : Bool) : m.judgeFrame f whole = m := by
  simp [Mod.judgeFrame, hpass, honward, hquiet]

theorem switchClassify_barred (h : m.upIn f.port = false ∨ (f.port < 768 ∧ (f.bytes.length < 60 ∨ isMacControl f.bytes = true))) :
    switchClassify f m = m :=
  if_pos (by simpa using h)

/-- A frame of a front port is judged with its filters held, and its copies stay incomplete until it ends. -/
theorem switchClassify_front (hup : m.upIn f.port = true) (hfront : f.port < 768) (hlen : 60 ≤ f.bytes.length) (hdata : isMacControl f.bytes = false) :
    switchClassify f m = (m.holdFilters f.port).judgeFrame f false := by
  simp [switchClassify, Mod.judgeFrame, hup, hfront, Nat.not_lt.mpr hlen, hdata]

/-- A frame of any other port has arrived whole. -/
theorem switchClassify_internal (hup : m.upIn f.port = true) (hport : 768 ≤ f.port) : switchClassify f m = m.judgeFrame f true := by
  simp [switchClassify, Mod.judgeFrame, hup, Nat.not_lt.mpr hport]

end

/-! ## The scheduler (R319, R320) -/

section
variable {m : Mod} {p now : Nat}

theorem egressSchedule_down (h : m.upOut p = false) (ecc : Option (Nat × Nat × Bool)) : egressSchedule p now ecc m = m :=
  if_pos (.inr (by simp [h]))

/-- A port that has sent the whole of a copy gives its cells back and goes on with its queue. -/
theorem egressSchedule_sent {c : Copy} (hup : m.upOut p = true) (hsent : (m.port p).sending = some c) (hwhole : c.whole = true) {n : Mod}
    (hn : n = (m.setPort p { m.port p with sending := none, cut := false }).release c) :
    egressSchedule p now none m = (sendNext p now ((n.port p).q.length + 1) n).swSync := by
  subst hn
  simp [egressSchedule, hup, hsent, hwhole]

section
variable {c : Copy}

theorem Mod.pick_publish (h : (m.port p).q.find? (fun c => c.pub = 1 ∧ c.whole) = some c) :
    m.pick p = some (c, (m.port p).deficit, (m.port p).turn) := by
  simp only [Mod.pick, h]

section
variable (hpub : (m.port p).q.find? (fun c => c.pub = 1 ∧ c.whole) = none)
include hpub

theorem Mod.pick_sc0 (h : (m.port p).head 0 = some c) : m.pick p = some (c, (m.port p).deficit, (m.port p).turn) := by
  simp only [Mod.pick, hpub, h]

/-- The guard time and a received pause hold back every class but SC0 (R41, R355). -/
theorem Mod.pick_held_back (hzero : (m.port p).head 0 = none) (h : (m.port p).guard = true ∨ (m.port p).paused = true) : m.pick p = none := by
  have hstay : (m.port p).mayStart 1 = false := by rcases h with hguard | hpaused <;> simp [SwPort.mayStart, *]
  simp only [Mod.pick, hpub, hzero, hstay, Bool.not_false, if_true]

end

end

theorem queuePromotion_old {c : Nat} {y : Copy} (hlow : 3 ≤ c) (hhigh : c ≤ 7) (hhead : (m.port p).q.find? (fun y => y.cls = c) = some y)
    (hon : m.num 0x300202 c ≠ 0) (hold : 1000 * m.num 0x300202 c < now - y.since) {d : List Nat}
    (hd : d = if (dropFirst y (m.port p).q).any (fun z => z.cls = c) then (m.port p).deficit else (m.port p).deficit.set c 0) :
    queuePromotion p c now m = (((m.setPort p { m.port p with
      q := dropFirst y (m.port p).q ++ [{ y with cls := c - 1, since := now }], deficit := d }).bump 0x301014 p).raiseTo 0x301021
        ((now - y.since) / 1000) p).swSync := by
  have hdue : ¬ (c < 3 ∨ 7 < c ∨ m.num 0x300202 c = 0 ∨ now - y.since ≤ 1000 * m.num 0x300202 c) := by omega
  subst hd
  simp only [queuePromotion, hhead, if_neg hdue]

theorem queuePromotion_never {c : Nat} (h : c < 3 ∨ 7 < c ∨ m.num 0x300202 c = 0) : queuePromotion p c now m = m := by
  rw [queuePromotion]
  split
  next y _ => exact if_pos (by omega)
  next => rfl

end

/-! ## The end of a reception (R352) -/

section
variable {m : Mod} {f : SwFrame}

theorem frameReceived_not_served (hup : m.num 0x320002 f.port ≠ psUp) (hdormant : m.num 0x320002 f.port ≠ psDormant) (fcs : Bool) :
    frameReceived f fcs m = m := if_pos (.inr ⟨hup, hdormant⟩)

section
variable (hport : f.port ≤ 767) (hup : m.num 0x320002 f.port = psUp)
include hport hup

theorem frameReceived_runt (hshort : frameLen f.bytes < 64) (fcs : Bool) :
    frameReceived f fcs m = ((m.runFilters f false).bump 0x320022 f.port).rxBad f.port := by
  simp [frameReceived, Nat.not_lt.mpr hport, hup, psUp, psDormant, hshort]

section
variable (hlen : 64 ≤ frameLen f.bytes)
include hlen

theorem frameReceived_long (hlong : m.num 0x320005 f.port < frameLen f.bytes) (fcs : Bool) :
    frameReceived f fcs m = ((m.runFilters f false).bump 0x320023 f.port).rxBad f.port := by
  simp [frameReceived, Nat.not_lt.mpr hport, hup, psUp, psDormant, Nat.not_lt.mpr hlen, hlong]

section
variable (hmax : frameLen f.bytes ≤ m.num 0x320005 f.port)
include hmax

theorem frameReceived_bad_fcs : frameReceived f false m = ((m.runFilters f false).bump 0x320021 f.port).rxBad f.port := by
  simp [frameReceived, Nat.not_lt.mpr hport, hup, psUp, psDormant, Nat.not_lt.mpr hlen, Nat.not_lt.mpr hmax]

theorem frameReceived_good_fcs (hdata : isMacControl f.bytes = false) :
    frameReceived f true m = ((m.runFilters f true).bump 0x320020 f.port).rxGood f := by
  simp [frameReceived, Nat.not_lt.mpr hport, hup, psUp, psDormant, Nat.not_lt.mpr hlen, Nat.not_lt.mpr hmax, hdata]

end

end

end

end

/-- Settles O49: classification by what the port gives, egress by the order of the queues, promotion by the age of a head, and a received frame by how
it ends. -/
theorem switchForwards : Obligations.SwitchForwards := by
  unfold Obligations.SwitchForwards
  refine ⟨?front, ?internal, ?unclassified, ?freed, ?egressDown, ?publishFirst, ?sc0Next, ?heldBack, ?promoted, ?neverPromoted, ?runt, ?long, ?badFcs,
    ?good, ?notServed⟩
  case front =>
    intro s f m hr hup hlen hfront hdata hm
    subst hm
    have hjudge := switchClassify_front hup hfront hlen hdata
    exact ⟨fun hpass => next_awake hr (hjudge.trans (Mod.judgeFrame_pass hpass _)),
      fun hpass honward hquiet => next_awake hr (hjudge.trans (Mod.judgeFrame_nothing hpass honward hquiet _))⟩
  case internal =>
    intro s f hr hup hport
    have hjudge := switchClassify_internal hup hport
    exact ⟨fun hpass => next_awake hr (hjudge.trans (Mod.judgeFrame_pass hpass _)),
      fun hpass honward hquiet => next_awake_self (hjudge.trans (Mod.judgeFrame_nothing hpass honward hquiet _))⟩
  case unclassified =>
    intro s f h
    exact next_awake_self (switchClassify_barred h)
  case freed =>
    intro s p now c m hr hup hsent hwhole hm
    exact next_awake hr (egressSchedule_sent hup hsent hwhole hm)
  case egressDown =>
    intro s p now e hdown
    exact next_awake_self (egressSchedule_down hdown e)
  case publishFirst =>
    intro m p c h
    exact Mod.pick_publish h
  case sc0Next =>
    intro m p c hpub h
    exact Mod.pick_sc0 hpub h
  case heldBack =>
    intro m p hpub hzero h
    exact Mod.pick_held_back hpub hzero h
  case promoted =>
    intro s p c now y d hr hlow hhigh hhead hon hold hd
    exact next_awake hr (queuePromotion_old hlow hhigh hhead hon hold hd)
  case neverPromoted =>
    intro s p c now h
    exact next_awake_self (queuePromotion_never h)
  case runt =>
    intro s f ok m hr hport hup hshort hm
    subst hm
    exact next_awake hr (frameReceived_runt hport hup hshort ok)
  case long =>
    intro s f ok m hr hport hup hlen hlong hm
    subst hm
    exact next_awake hr (frameReceived_long hport hup hlen hlong ok)
  case badFcs =>
    intro s f m hr hport hup hlen hmax hm
    subst hm
    exact next_awake hr (frameReceived_bad_fcs hport hup hlen hmax)
  case good =>
    intro s f m hr hport hup hlen hmax hdata hm
    subst hm
    exact next_awake hr (frameReceived_good_fcs hport hup hlen hmax hdata)
  case notServed =>
    intro s f ok hup hdormant
    exact next_awake_self (frameReceived_not_served hup hdormant ok)

end Sys2Proof.Machine
end

section
namespace Sys2Proof.Machine

/-! ## OP 1 of the MAC staging (R334, R338) -/

/-- The static entry that the staging set holds. -/
def Mod.stagedMac (m : Mod) : MacEntry :=
  { mac := m.oct 0x381002, context := m.num 0x381001, dest := m.num 0x381003, static := true, hit := false, tick := m.k % 2 ^ 32 }

section
variable {m : Mod}

theorem Mod.macAt_empty (h : m.sw.mac = []) (b : Nat) : m.macAt b = [] := by
  rw [Mod.macAt, h]
  rfl

/-- An empty table holds no key. -/
theorem Mod.macFind_empty (h : m.sw.mac = []) (context : Nat) (mac : List Byte) : m.macFind context mac = none := by
  simp [Mod.macFind, Mod.macAt_empty h]

/-- An empty table has room for any entry. -/
theorem Mod.macInsert_empty (h : m.sw.mac = []) (e : MacEntry) : (m.macInsert e).2 = true := by
  simp [Mod.macInsert, Mod.macAt_empty h, insertBucket]

/-- The staging set with a key that the table lacks, a port in DEST and room in the table: RESULT is 1. Of the three objects staged only DEST is judged
here; KEY_CONTEXT and KEY_MAC are taken as they stand. -/
theorem macInsertOp_new {n : Mod} (hport : m.num 0x381003 ≤ 1023) (hnew : m.macFind (m.num 0x381001) (m.oct 0x381002) = none)
    (hroom : m.macInsert m.stagedMac = (n, true)) : macInsertOp .supervisor m = (n.set 0x381006 1).report .supervisor 0 := by
  have hkind : bit (m.num 0x381003) 15 = false := by simp [bit]; omega
  have hdest : ¬ 1023 < m.num 0x381003 := by omega
  rw [Mod.stagedMac] at hroom
  simp [-Nat.reducePow, macInsertOp, Mod.macOp, supervisorOnly, Mod.served, hkind, hdest, hnew, hroom, Mod.macResult]

end

/-! ## A context past the range of R334 -/

/-- A sound module out of start-up with an empty MAC table, whose KEY_CONTEXT is 4,096 and whose DEST is port 1. -/
def contextPastRange : State :=
  { mod := { dict := [(objKey 0x203001 0, .num 11), (objKey 0x381001 0, .num 4096), (objKey 0x381003 0, .num 1)], power := { held := 0 } } }

theorem contextPastRange_good : contextPastRange.mod.Good := ⟨by decide, rfl, by decide⟩

theorem contextPastRange_serves : contextPastRange.mod.Serves .supervisor := ⟨rfl, rfl, by decide⟩

theorem contextPastRange_context : contextPastRange.mod.num 0x381001 = 4096 := by decide

theorem contextPastRange_dest : contextPastRange.mod.num 0x381003 = 1 := by decide

/-- OP 1 inserts under the context 4,096 with RESULT 1. -/
theorem macInsert_contextPastRange : ∃ n : Mod, n.Good ∧
    exec (.macInsert .supervisor) contextPastRange = .next { contextPastRange with mod := (n.set 0x381006 1).report .supervisor 0 } := by
  have hempty : contextPastRange.mod.sw.mac = [] := rfl
  have hport : contextPastRange.mod.num 0x381003 ≤ 1023 := by rw [contextPastRange_dest]; decide
  have hnew := Mod.macFind_empty hempty (contextPastRange.mod.num 0x381001) (contextPastRange.mod.oct 0x381002)
  have hroom := Mod.macInsert_empty hempty contextPastRange.mod.stagedMac
  exact ⟨_, Mod.macInsert_good contextPastRange_good _, next_gate contextPastRange_serves (macInsertOp_new hport hnew (Prod.ext rfl hroom))⟩

/-- Refutes O50: OP 1 with KEY_CONTEXT 4,096 leaves RESULT 1, where the clause on invalid values wants RESULT 4. The effect of OP 1 judges DEST alone; the
range of KEY_CONTEXT and the length of KEY_MAC are checked only where the dictionary takes a write of those objects, and the clause speaks of any state. -/
theorem not_forwardingTables : ¬ Obligations.ForwardingTables := by
  unfold Obligations.ForwardingTables
  rintro ⟨-, -, -, -, -, -, -, hinvalid, -⟩
  have hpast : 4095 < contextPastRange.mod.num 0x381001 := by rw [contextPastRange_context]; decide
  have hrefused := hinvalid contextPastRange contextPastRange_serves (.inl hpast)
  obtain ⟨n, hg, hdone⟩ := macInsert_contextPastRange
  have hstate := Host.Outcome.next.inj (hdone.symm.trans hrefused)
  have hresult := congrArg (fun s : State => s.mod.num 0x381006) hstate
  simp only [Mod.report_num, Mod.num_set hg.dict, Mod.num_set contextPastRange_good.dict] at hresult
  exact absurd hresult (by decide)

end Sys2Proof.Machine
end

section
namespace Sys2Proof.Machine

/-! ## What a command can do (R463, R532, R536, R540) -/

/-- How a command acts. Its effect on the module keeps a module sound, and does nothing on one held in reset unless it is a command of a reset; the queue stays.
A store by address may instead meet a device register, on a module that runs. -/
inductive Acts (c : Instr) : Prop
  | effect {f : Mod → Mod} (keeps : ∀ {m : Mod}, m.Good → (f m).Good)
      (sleeps : actsInReset c = false → ∀ {m : Mod}, m.power.held ≠ 0 → f m = m)
      (act : ∀ s, exec c s = .next { s with mod := f s.mod } := by exact fun _ => rfl)
  | store {f : Mod → Mod} {meets : Mod → Bool} (byAddress : storesByAddress c = true) (keeps : ∀ {m : Mod}, m.Good → (f m).Good)
      (sleeps : ∀ {m : Mod}, m.power.held ≠ 0 → f m = m) (runs : ∀ {m : Mod}, meets m = true → m.Runs)
      (act : ∀ s, exec c s = if meets s.mod then .fault .deviceRegister else .next { s with mod := f s.mod } := by exact fun _ => rfl)

theorem Mod.access_held {m : Mod} (h : m.power.held ≠ 0) (p : Path) (f : Mod → Mod) : m.access p f = m := if_pos h

theorem Mod.gate_held {m : Mod} (h : m.power.held ≠ 0) (p : Path) (f : Mod → Mod) : m.gate p f = m := Mod.access_held h p _

section
variable {c : Instr} {p : Path} {f : Mod → Mod} (keeps : ∀ {m : Mod}, m.Good → (f m).Good)
include keeps

/-- A command with an effect on a module that runs. -/
theorem Acts.awake (act : ∀ s, exec c s = .next { s with mod := s.mod.awake f } := by exact fun _ => rfl) : Acts c :=
  .effect (fun h => Mod.awake_good h fun _ => keeps) (fun _ _ h => Mod.awake_held h f) act

/-- A write by name, gated until step 6 of start-up completes. -/
theorem Acts.gate (act : ∀ s, exec c s = .next { s with mod := s.mod.gate p f } := by exact fun _ => rfl) : Acts c :=
  .effect (fun h => Mod.gate_good h fun _ => keeps) (fun _ _ h => Mod.gate_held h p f) act

/-- An access by name that is served at any time. -/
theorem Acts.access (act : ∀ s, exec c s = .next { s with mod := s.mod.access p f } := by exact fun _ => rfl) : Acts c :=
  .effect (fun h => Mod.access_good h fun _ => keeps) (fun _ _ h => Mod.access_held h p f) act

/-- A command of a reset. -/
theorem Acts.reset (acts : actsInReset c = true := by rfl) (act : ∀ s, exec c s = .next { s with mod := f s.mod } := by exact fun _ => rfl) : Acts c :=
  .effect keeps (fun h => Bool.noConfusion (acts.symm.trans h)) act

end

/-! ### The commands that judge by themselves whether a reset is held -/

section
variable {m : Mod} (h : m.power.held ≠ 0)
include h

theorem jtagReset_held : jtagReset m = m := if_pos (.inl h)

theorem watchdogExpiry_held (now : Nat) : watchdogExpiry now m = m := if_pos (.inl h)

theorem refclkLoss_held (j : Nat) (present : Bool) : refclkLoss j present m = m := if_pos (.inr (.inl h))

theorem dictionaryWrite_held (p : Path) (o sel : Nat) (bs : List Byte) (env : Env) : dictionaryWrite p o sel bs env m = m := if_pos h

theorem dpWrite_held (env : Env) : dpWrite env m = m := if_pos h

theorem dpRead_held (env : Env) : dpRead env m = m := if_pos h

theorem dpCommit_held (env : Env) : dpCommit env m = m := if_pos h

theorem coreMemoryAccess_held (j : Nat) (acc : CoreAccess) (a n : Nat) (bs : List Byte) (env : Env) : coreMemoryAccess j acc a n bs env m = m := by
  simp [coreMemoryAccess, Mod.coreRuns, h]

end

/-- A core's store meets a device register only on a module that runs. -/
theorem Mod.deviceStore_runs {m : Mod} {j : Nat} {acc : CoreAccess} {a n : Nat} (h : m.deviceStore j acc a n = true) : m.Runs := by
  simp only [Mod.deviceStore, Mod.coreRuns, Bool.and_eq_true, beq_iff_eq] at h
  tauto

/-- So does a remote write. -/
theorem Mod.deviceWrite_runs {m : Mod} {h : FlitHdr} {p : Packet} (hw : m.deviceWrite h p = true) : m.Runs := by
  simp only [Mod.deviceWrite, Bool.and_eq_true, beq_iff_eq] at hw
  tauto

theorem Acts.coreMemoryAccess (j : Nat) (acc : CoreAccess) (a n : Nat) (bs : List Byte) (env : Env) : Acts (.coreMemoryAccess j acc a n bs env) :=
  .store rfl (fun h => coreMemoryAccess_good h j acc a n bs env) (fun h => coreMemoryAccess_held h j acc a n bs env) Mod.deviceStore_runs

theorem Acts.weltWrReqRx (h : FlitHdr) (p : Packet) (env : Env) : Acts (.weltWrReqRx h p env) :=
  .store rfl (fun hg => Mod.awake_good hg fun _ hg => weltWrReqRx_good hg h p env) (fun hh => Mod.awake_held hh _) Mod.deviceWrite_runs

/-- Every command acts: a row for each, with the law that its effect keeps a module sound. -/
theorem acts (c : Instr) : Acts c :=
  match c with
  | .tickStart => .awake tickStart_good
  | .firstTickStart taiS => .awake fun h => firstTickStart_good h taiS
  | .tickStop path => .gate fun h => tickStop_good h path
  | .tickRunStart path now => .gate fun h => tickRunStart_good h path now
  | .tickRateWrite path v => .gate fun h => tickRateWrite_good h path v
  | .inactiveImageWrite path image => .gate fun h => inactiveImageWrite_good h path image
  | .lastCheck path v => .gate fun h => lastCheckWrite_good h path v
  | .lastCheckDone => .awake lastCheckDone_good
  | .lastSwapRequest path kS env => .gate fun h => lastSwapRequest_good h path kS env
  | .lastSwapCancel path v => .gate fun h => lastSwapCancel_good h path v
  | .lastStore path v => .gate fun h => lastStore_good h path v
  | .filterPhase => .awake filterPhase_good
  | .elementPhase => .awake elementPhase_good
  | .logicPassL1 => .awake logicPassL1_good
  | .logicPassL2 => .awake logicPassL2_good
  | .windowEntry w late => .awake fun h => windowEntry_good h w late
  | .windowExit w => .awake fun h => windowExit_good h w
  | .phaseTEnd => .awake phaseTEnd_good
  | .voteStart now => .awake fun h => voteStart_good h now
  | .voteDeadline own => .awake fun h => voteDeadline_good h own
  | .vEnd => .awake vEnd_good
  | .publishStart now => .awake fun h => publishStart_good h now
  | .guardTimeStart p => .awake fun h => guardTimeStart_good h p
  | .ingestFrameArrival f port overload => .awake fun h => ingestFrame_good h f port overload
  | .streamRunning s => .awake fun h => streamRunning_good h s
  | .streamLost s => .awake fun h => streamLost_good h s
  | .substHoldExpiry c => .awake fun h => substHoldExpiry_good h c
  | .profileTapsWrite path p n => .gate fun h => profileTapsWrite_good h path p n
  | .profileCoeffsWrite path p words => .gate fun h => profileCoeffsWrite_good h path p words
  | .profileCheck path p v => .gate fun h => profileCheckWrite_good h path p v
  | .profileCheckDone p => .awake fun h => profileCheckDone_good h p
  | .profileSwapRequest path p kS env => .gate fun h => profileSwapRequest_good h path p kS env
  | .profileSwapCancel path p v => .gate fun h => profileSwapCancel_good h path p v
  | .profileSwapNow path p v => .gate fun h => profileSwapNow_good h path p v
  | .profileStore path p v => .gate fun h => profileStore_good h path p v
  | .groupLocked v => .awake fun h => groupLocked_good h v
  | .lockLost v => .awake fun h => lockLost_good h v
  | .signalLostHold v => .awake fun h => signalLostHold_good h v
  | .holdReacquire v => .awake fun h => holdReacquire_good h v
  | .fallbackEntered v => .awake fun h => fallbackEntered_good h v
  | .fallbackReacquire v => .awake fun h => fallbackReacquire_good h v
  | .freqLimitRun v => .awake fun h => freqLimitRun_good h v
  | .rocofValid v => .awake fun h => rocofBecomesValid_good h v
  | .opDelayExpiry e => .awake fun h => opDelayExpiry_good h e
  | .dropDelayExpiry e => .awake fun h => dropDelayExpiry_good h e
  | .timerOperate e => .awake fun h => timerOperate_good h e
  | .timerDefiniteResetExpiry e => .awake fun h => timerDefiniteReset_good h e
  | .lgLd g a => .awake fun h => lgLd_good h g a
  | .lgLdn g a => .awake fun h => lgLdn_good h g a
  | .lgAnd g a => .awake fun h => lgAnd_good h g a
  | .lgAndn g a => .awake fun h => lgAndn_good h g a
  | .lgOr g a => .awake fun h => lgOr_good h g a
  | .lgOrn g a => .awake fun h => lgOrn_good h g a
  | .lgXor g a => .awake fun h => lgXor_good h g a
  | .lgXorn g a => .awake fun h => lgXorn_good h g a
  | .lgSt g a => .awake fun h => lgSt_good h g a
  | .lgStn g a => .awake fun h => lgStn_good h g a
  | .lgSet g a => .awake fun h => lgSet_good h g a
  | .lgRst g a => .awake fun h => lgRst_good h g a
  | .lgJmp g i => .awake fun h => lgJmp_good h g i
  | .lgJmpc g i => .awake fun h => lgJmpc_good h g i
  | .lgJmpn g i => .awake fun h => lgJmpn_good h g i
  | .lgAndb g => .awake fun h => lgAndb_good h g
  | .lgOrb g => .awake fun h => lgOrb_good h g
  | .lgBcl g => .awake fun h => lgBcl_good h g
  | .lgNot g => .awake fun h => lgNot_good h g
  | .lgCall g sect => .awake fun h => lgCall_good h g sect
  | .lgRet g => .awake fun h => lgRet_good h g
  | .lgRedge g a => .awake fun h => lgRedge_good h g a
  | .lgFedge g a => .awake fun h => lgFedge_good h g a
  | .lgTon g t => .awake fun h => lgTon_good h g t
  | .lgTof g t => .awake fun h => lgTof_good h g t
  | .lgTp g t => .awake fun h => lgTp_good h g t
  | .lgLdtq g t => .awake fun h => lgLdtq_good h g t
  | .lgCtu g c => .awake fun h => lgCtu_good h g c
  | .lgCtd g c => .awake fun h => lgCtd_good h g c
  | .lgCrst g c => .awake fun h => lgCrst_good h g c
  | .lgLdcq g c => .awake fun h => lgLdcq_good h g c
  | .lgLdw g r => .awake fun h => lgLdw_good h g r
  | .lgLdk g c => .awake fun h => lgLdk_good h g c
  | .lgLdi g i => .awake fun h => lgLdi_good h g i
  | .lgStw g r => .awake fun h => lgStw_good h g r
  | .lgMov g src dst => .awake fun h => lgMov_good h g src dst
  | .lgLdtv g t => .awake fun h => lgLdtv_good h g t
  | .lgLdcv g c => .awake fun h => lgLdcv_good h g c
  | .lgCeq g r => .awake fun h => lgCeq_good h g r
  | .lgCne g r => .awake fun h => lgCne_good h g r
  | .lgCgt g r => .awake fun h => lgCgt_good h g r
  | .lgCge g r => .awake fun h => lgCge_good h g r
  | .lgClt g r => .awake fun h => lgClt_good h g r
  | .lgCle g r => .awake fun h => lgCle_good h g r
  | .lgEnd g => .awake fun h => lgEnd_good h g
  | .passOverrun g => .awake fun h => passOverrun_good h g
  | .logicImageWrite path g image => .gate fun h => logicImageWrite_good h path g image
  | .logicCheck path g v => .gate fun h => logicCheckWrite_good h path g v
  | .logicCheckDone g => .awake fun h => logicCheckDone_good h g
  | .engineStartRequest path g kS env => .gate fun h => engineStartRequest_good h path g kS env
  | .engineStopRequest path g kT env => .gate fun h => engineStopRequest_good h path g kT env
  | .logicStore path g v => .gate fun h => logicStore_good h path g v
  | .engineAutostart g => .awake fun h => engineAutostart_good h g
  | .gooseStationRx f origin => .awake fun h => gooseStationRx_good h f origin
  | .stationDropout r => .awake fun h => stationDropout_good h r
  | .coreMemoryAccess hart acc a n bytes env => .coreMemoryAccess hart acc a n bytes env
  | .frozenGuestReturn hart word tval => .awake fun h => frozenGuestReturn_good h hart word tval
  | .mramSyncRead hart => .awake fun h => mramSyncRead_good h hart
  | .pubCommit t u data => .awake fun h => pubCommit_good h t u data
  | .pubCopyDone t u => .awake fun h => pubCopyDone_good h t u
  | .pubRetransmit i now => .awake fun h => pubRetransmit_good h i now
  | .sc0Commit b data => .awake fun h => sc0Commit_good h b data
  | .sc0CopyDone b => .awake fun h => sc0CopyDone_good h b
  | .txTailWrite t tail => .awake fun h => txTailWrite_good h t tail.it tail.now
  | .txDescriptorDone t => .awake fun h => txDescriptorDone_good h t
  | .rxFrameDelivery t frame ts => .awake fun h => rxFrameDelivery_good h t frame.bytes ts frame.cls
  | .tenantDpSubmit t => .awake fun h => tenantDpSubmit_good h t
  | .mbOutPost t slot gen => .awake fun h => mbOutPost_good h t slot gen
  | .mbInRelease t slot gen => .awake fun h => mbInRelease_good h t slot gen
  | .mbPost t slot gen => .awake fun h => mbPost_good h t slot gen
  | .mbRelease t slot gen => .awake fun h => mbRelease_good h t slot gen
  | .vfIrqLatchClear t mask => .awake fun h => vfIrqLatchClear_good h t mask
  | .violClear path t v => .gate fun h => violClear_good h path t v
  | .createTickWrite path t k env => .gate fun h => createTickWrite_good h path t k env
  | .destroyTickWrite path t k env => .gate fun h => destroyTickWrite_good h path t k env
  | .freezeTickWrite path t k env => .gate fun h => freezeTickWrite_good h path t k env
  | .unfreezeTickWrite path t k env => .gate fun h => unfreezeTickWrite_good h path t k env
  | .resourceCommitTickWrite path t k env => .gate fun h => resourceCommitTickWrite_good h path t k env
  | .restoreTickWrite path k env => .gate fun h => restoreTickWrite_good h path k env
  | .sramClearDone => .awake sramClearDone_good
  | .imageSave path v => .gate fun h => imageSave_good h path v
  | .imageSegmentRead path n => .access fun h => imageSegmentRead_good h path n
  | .imageSegmentWrite path offset bytes last => .gate fun h => imageSegmentWrite_good h path offset bytes last
  | .agreeRx x => .awake fun h => Mod.takeWhole_good h x.h x.p _ fun _ h => Mod.takeAgree_good h x.h.l x.p x.records
  | .agreeDeadline => .awake agreeDeadline_good
  | .fetchDeadline => .awake fetchDeadline_good
  | .vectorRx x => .awake fun h => Mod.takeWhole_good h x.h x.p _ fun _ h => Mod.takeVector_good h x.h.l x.p
  | .demotion r => .awake fun h => demotion_good h r
  | .holdLimitReached => .awake holdLimitReached_good
  | .revertDelayElapsed => .awake revertDelayElapsed_good
  | .revertHoldoffEnd => .awake revertHoldoffEnd_good
  | .laceClaimDecoded r => .awake fun h => laceClaimDecoded_good h r
  | .laceAliveDecoded r => .awake fun h => laceAliveDecoded_good h r
  | .lacePatternLost r => .awake fun h => lacePatternLost_good h r
  | .laceDeadTimeout r => .awake fun h => laceDeadTimeout_good h r
  | .laceLoopbackFault => .awake laceLoopbackFault_good
  | .laceViewFault r => .awake fun h => laceViewFault_good h r
  | .laceFaultClear => .awake laceFaultClear_good
  | .laceGeneratorTimeout => .awake laceGeneratorTimeout_good
  | .foreignClaimAlarm r => .awake fun h => foreignClaimAlarm_good h r
  | .formWaitExpiry r kForm k q => .awake fun h => formWaitExpiry_good h r kForm k q
  | .formationTick => .awake formationTick_good
  | .resyncTimeout cause => .awake fun h => resyncTimeout_good h cause
  | .shadowComplete => .awake shadowComplete_good
  | .rejoinWrite path v => .gate fun h => rejoinWrite_good h path v
  | .weltLanesWrite path l v => .gate fun h => weltLanesWrite_good h path l v
  | .laneTrainLock l => .awake fun h => laneTrainLock_good h l
  | .laneTrainTimeout l => .awake fun h => laneTrainTimeout_good h l
  | .weltHelloRx h x => .awake fun hg => weltHelloRx_good hg h x.hello x.k x.q
  | .weltHelloSend l => .awake fun h => weltHelloSend_good h l
  | .weltHelloTimeout l => .awake fun h => Mod.linkDown_good h l 3
  | .weltLockLoss l => .awake fun h => Mod.linkDown_good h l 1
  | .weltDownRetrain l => .awake fun h => weltDownRetrain_good h l
  | .weltIdleRx h => .awake fun hg => weltIdleRx_good hg h
  | .weltFlitDiscard l cause => .awake fun h => weltFlitDiscard_good h l cause
  | .weltNakRx h => .awake fun hg => weltNakRx_good hg h
  | .weltNakRepeat l => .awake fun h => weltNakRepeat_good h l
  | .weltReplayTimeout l => .awake fun h => weltReplayTimeout_good h l
  | .weltFrameRx h p sv goose ts => .awake fun hg => weltFrameRx_good hg h p sv goose ts
  | .packetAgeExpiry l i => .awake fun h => packetAgeExpiry_good h l i
  | .weltRdReqRx h p => .awake fun hg => weltRdReqRx_good hg h p
  | .weltWrReqRx h p env => .weltWrReqRx h p env
  | .weltFenceRx h p c => .awake fun hg => weltFenceRx_good hg h p c
  | .weltRdRspRx h p => .awake fun hg => Mod.takeWhole_good hg h p _ fun _ hg => Mod.response_good hg p 0 p.data
  | .weltRdErrRx h p => .awake fun hg => Mod.takeWhole_good hg h p _ fun _ hg => Mod.response_good hg p p.status []
  | .weltXtrigRx h p now => .awake fun hg => weltXtrigRx_good hg h p now
  | .remoteRead w a n => .awake fun h => remoteRead_good h w a n
  | .remoteReadReissue w a n => .awake fun h => remoteReadReissue_good h w a n
  | .remoteWrite w a bytes fence => .awake fun h => remoteWrite_good h w a bytes fence
  | .respTimeoutExpiry t => .awake fun h => respTimeoutExpiry_good h t
  | .holdTimeExpiry t => .awake fun h => holdTimeExpiry_good h t
  | .quarantineExpiry t => .awake fun h => quarantineExpiry_good h t
  | .rateProposal l w now => .awake fun h => rateProposal_good h l w now
  | .rateReqRx h code nonce _ => .awake fun hg => Mod.takeLocal_good hg h _ fun _ hg => Mod.answerReq_good hg h.l code nonce
  | .rateAckRx h nonce => .awake fun hg => Mod.takeLocal_good hg h _ fun _ hg => Mod.takeAck_good hg h.l nonce
  | .rateNakRx h => .awake fun hg => Mod.takeLocal_good hg h.it _ fun _ hg => Mod.dropProposal_good hg h.it.l h.now
  | .rateMarkRx h => .awake fun hg => Mod.takeLocal_good hg h _ fun _ hg => Mod.takeMark_good hg h.l
  | .rateProposalTimeout l => .awake fun h => rateProposalTimeout_good h l.it l.now
  | .quiesceDrained l => .awake fun h => quiesceDrained_good h l
  | .retrainLock l => .awake fun h => retrainLock_good h l
  | .retrainTimeout l => .awake fun h => retrainTimeout_good h l.it l.now
  | .retrainFallbackTimeout l => .awake fun h => retrainFallbackTimeout_good h l
  | .switchClassify f => .awake fun h => switchClassify_good h f
  | .egressSchedule p now ecc => .awake fun h => egressSchedule_good h p now ecc
  | .queuePromotion p c now => .awake fun h => queuePromotion_good h p c now
  | .macSweep => .awake macSweep_good
  | .macFlushPort path p => .gate fun h => macFlushPort_good h path p
  | .macInsert path => .gate fun h => macInsertOp_good h path
  | .macDelete path => .gate fun h => macDeleteOp_good h path
  | .macLookup path => .gate fun h => macLookupOp_good h path
  | .macDumpStart path => .gate fun h => macDumpStart_good h path
  | .macDumpNext path => .access fun h => macDumpNext_good h path
  | .routeInsert path => .gate fun h => routeInsert_good h path
  | .routeDelete path => .gate fun h => routeDelete_good h path
  | .routeLookupOp path => .gate fun h => routeLookupOp_good h path
  | .laneModeWrite path l v => .gate fun h => laneModeWrite_good h path l v
  | .lanePolarityWrite path l v => .gate fun h => lanePolarityWrite_good h path l v
  | .portEnableWrite path p v => .gate fun h => portEnableWrite_good h path p v
  | .portDormantWrite path p v => .gate fun h => portDormantWrite_good h path p v
  | .portLinkUp p bad => .awake fun h => portLinkUp_good h p bad
  | .portLinkLoss p cause => .awake fun h => portLinkLoss_good h p cause
  | .laneCdrLoss l => .awake fun h => laneCdrLoss_good h l
  | .frameReceived f fcs => .awake fun h => frameReceived_good h f fcs
  | .pauseFrameRx p quanta => .awake fun h => pauseFrameRx_good h p quanta
  | .pauseExpiry p => .awake fun h => pauseExpiry_good h p
  | .pauseXoffRepeat p => .awake fun h => pauseXoffRepeat_good h p
  | .dupEntryForget i => .awake fun h => dupEntryForget_good h i
  | .laneGroupGate j => .awake fun h => laneGroupGate_good h j
  | .eyeMonitor l height width => .awake fun h => eyeMonitor_good h l height width
  | .ptpSyncRx x => .awake fun h => ptpSyncRx_good h x
  | .ptpFollowUpRx x => .awake fun h => ptpFollowUpRx_good h x
  | .ptpAnnounceRx x => .awake fun h => ptpAnnounceRx_good h x
  | .ptpPdelayReqRx x => .awake fun h => ptpPdelayReqRx_good h x
  | .ptpPdelayRespRx p t1 t2 t3 t4 corr => .awake fun h => ptpPdelayRespRx_good h p t1 t2 t3 t4 corr
  | .ptpManagementRx f => .awake fun h => ptpManagementRx_good h f
  | .ptpMessageSend p kind now => .awake fun h => ptpMessageSend_good h p kind now
  | .ptpAnnounceTimeout p => .awake fun h => ptpAnnounceTimeout_good h p
  | .ptpSyncMissed i => .awake fun h => ptpSyncMissed_good h i
  | .irigFrameRx f => .awake fun h => irigFrameRx_good h f
  | .irigFrameLoss => .awake irigFrameLoss_good
  | .ppsInEdge i now => .awake fun h => ppsInEdge_good h i now
  | .ppsLossTimeout i => .awake fun h => ppsLossTimeout_good h i
  | .sourceQualified j => .awake fun h => sourceQualified_good h j
  | .stepRetry => .awake stepRetry_good
  | .stepCaptureCheck => .awake stepCaptureCheck_good
  | .ref10mQualified => .awake ref10mQualified_good
  | .ref10mLoss => .awake ref10mLoss_good
  | .offsetExcursionTimeout => .awake offsetExcursionTimeout_good
  | .holdoverLimitExpiry => .awake holdoverLimitExpiry_good
  | .todSetWrite path v now => .gate fun h => todSetWrite_good h path v now
  | .leaderChange r => .awake fun h => leaderChange_good h r
  | .timeTransferSend now => .awake fun h => timeTransferSend_good h now
  | .timeTransferRx l origin delay now => .awake fun h => timeTransferRx_good h l origin delay now
  | .timeTransferLoss => .awake timeTransferLoss_good
  | .followerDeviation => .awake followerDeviation_good
  | .ppsOutEdge o now => .awake fun h => ppsOutEdge_good h o now
  | .leapSecond => .awake leapSecond_good
  | .clickerRowWrite now => .awake fun h => clickerRowWrite_good h now
  | .trigInputEdge j now level => .awake fun h => trigInputEdge_good h j now level
  | .clickerForce path x v now => .gate fun h => clickerForce_good h path x v now
  | .clickerStop path x v => .gate fun h => clickerStop_good h path x v
  | .clickerDrain path x v => .gate fun h => clickerDrain_good h path x v
  | .clickerRelease path x v => .gate fun h => clickerRelease_good h path x v
  | .clickerResend path x b => .gate fun h => clickerResend_good h path x b
  | .drainFrameSend now => .awake fun h => drainFrameSend_good h now
  | .trigPulseEnd j now => .awake fun h => trigPulseEnd_good h j now
  | .canFrameRx n f sof now => .awake fun h => canFrameRx_good h n f sof now
  | .canTxSuccess n now => .awake fun h => canTxSuccess_good h n now
  | .canArbLoss n => .awake fun h => canArbLoss_good h n
  | .canTxError n counts now => .awake fun h => canTxError_good h n counts now
  | .busoffAutoRecovery n now => .awake fun h => busoffAutoRecovery_good h n now
  | .canRecover path n v now => .gate fun h => canRecover_good h path n v now
  | .canModeWrite path n v => .gate fun h => canModeWrite_good h path n v
  | .canTxRequest path i now idle => .gate fun h => canTxRequest_good h path i now idle
  | .canTxAbort path i => .gate fun h => canTxAbort_good h path i
  | .canFifoRead path n => .access fun h => canFifoRead_good h path n
  | .ttCycleStart n now => .awake fun h => ttCycleStart_good h n now
  | .ttWindowStart n j now => .awake fun h => ttWindowStart_good h n j now
  | .tunnelWaitExpiry now => .awake fun h => tunnelWaitExpiry_good h now
  | .tunnelFrameRx bytes now => .awake fun h => tunnelFrameRx_good h bytes now
  | .dictionaryWrite path obj sel bytes env => .effect (fun h => dictionaryWrite_good h path obj sel bytes env) fun _ _ h => dictionaryWrite_held h path obj sel bytes env
  | .stageCommit path v env => .gate fun h => stageCommit_good h path v env
  | .stageDiscard path v => .gate fun h => stageDiscard_good h path v
  | .commitCancel path v => .gate fun h => commitCancel_good h path v
  | .commitProposeRx rank sendTick c fragOffset fragLen env => .awake fun h => commitProposeRx_good h rank sendTick c fragOffset fragLen env
  | .commitAcceptRx rank id => .awake fun h => commitAcceptRx_good h rank id
  | .commitRefuseRx rank id code => .awake fun h => commitRefuseRx_good h rank id code
  | .commitConfirmRx rank id => .awake fun h => commitConfirmRx_good h rank id
  | .commitCancelRx rank id code => .awake fun h => commitCancelRx_good h rank id code
  | .commitAcceptDeadline => .awake commitAcceptDeadline_good
  | .commitArm => .awake commitArm_good
  | .commitApply env => .awake fun h => commitApply_good h env
  | .dpWrite env => .effect (fun h => dpWrite_good h env) fun _ _ h => dpWrite_held h env
  | .dpRead env => .effect (fun h => dpRead_good h env) fun _ _ h => dpRead_held h env
  | .dpCommit env => .effect (fun h => dpCommit_good h env) fun _ _ h => dpCommit_held h env
  | .sdoInitiateDownload obj expedited size bytes env => .awake fun h => sdoInitiateDownload_good h obj expedited size bytes env
  | .sdoDownloadSegment toggle bytes last env => .awake fun h => sdoDownloadSegment_good h toggle bytes last env
  | .sdoInitiateUpload obj env => .awake fun h => sdoInitiateUpload_good h obj env
  | .sdoUploadSegment toggle => .awake fun h => sdoUploadSegment_good h toggle
  | .sdoAbortRx code => .awake fun h => sdoAbortRx_good h code
  | .sdoBlockRequest obj => .awake fun h => sdoBlockRequest_good h obj
  | .sdoTimeout => .awake sdoTimeout_good
  | .nmtResetNode node => .awake fun h => nmtResetNode_good h node
  | .nmtResetCommunication node => .awake fun h => nmtResetCommunication_good h node
  | .nmtOtherCommand cmd node => .awake fun h => nmtOtherCommand_good h cmd node
  | .dtpHello addr udpPort datagram => .awake fun h => dtpHello_good h addr udpPort datagram
  | .dtpRead addr udpPort datagram env => .awake fun h => dtpRead_good h addr udpPort datagram env
  | .dtpWrite addr udpPort datagram env => .awake fun h => dtpWrite_good h addr udpPort datagram env
  | .dtpClose addr udpPort datagram => .awake fun h => dtpClose_good h addr udpPort datagram
  | .dtpIdleTimeout session => .awake fun h => dtpIdleTimeout_good h session
  | .dtpSnapshotExpiry session => .awake fun h => dtpSnapshotExpiry_good h session
  | .dtpKeySlotWrite path v => .gate fun h => dtpKeySlotWrite_good h path v
  | .lifecycleChange path mMode jtag target t => .access fun h => lifecycleChange_good h path mMode jtag target t
  | .okHashWrite path mMode b => .access fun h => okHashWrite_good h path mMode b
  | .minSvnSet path mMode v => .access fun h => minSvnSet_good h path mMode v
  | .keyInstall path mMode => .access fun h => keyInstall_good h path mMode
  | .keyDerive path mMode => .access fun h => keyDerive_good h path mMode
  | .keyDestroy path mMode => .access fun h => keyDestroy_good h path mMode
  | .keyRemask i => .awake fun h => keyRemask_good h i
  | .entropyHealthFail test now => .awake fun h => entropyHealthFail_good h test now
  | .drbgReseed => .awake drbgReseed_good
  | .debuggerAttach => .awake debuggerAttach_good
  | .eventRaised same t => .awake fun h => eventRaised_good h same t
  | .recorderScanDone t => .awake fun h => recorderScanDone_good h t
  | .opTimeCheckpoint t => .awake fun h => opTimeCheckpoint_good h t
  | .anchorWrite path v t now => .gate fun h => anchorWrite_good h path v t now
  | .codeTokenRefill code t => .awake fun h => codeTokenRefill_good h code t
  | .globalTokenRefill t => .awake fun h => globalTokenRefill_good h t
  | .swWrite path v t => .gate fun h => swWrite_good h path v t
  | .resetAssert low => .reset (fun h => resetAssert_good h low)
  | .resetRelease pins ref => .reset (fun h => resetRelease_good h pins ref)
  | .internalResetEnd pos ref => .reset (fun h => internalResetEnd_good h pos ref)
  | .secureBoot a b => .reset (fun h => secureBoot_good h a b)
  | .configDone path v => .access fun h => configDone_good h path v
  | .lanesUpComplete elapsed => .reset (fun h => lanesUpComplete_good h elapsed)
  | .avsSample slack fails => .reset (fun h => avsSample_good h slack fails)
  | .avsbusRetry fails => .reset (fun h => avsbusRetry_good h fails)
  | .sysclkLoss => .reset sysclkLoss_good
  | .refclkLoss j present => .effect (fun h => refclkLoss_good h j present) fun _ _ h => refclkLoss_held h j present
  | .thermalSample temps => .reset (fun h => thermalSample_good h temps)
  | .watchdogExpiry now => .effect (fun h => watchdogExpiry_good h now) fun _ _ h => watchdogExpiry_held h now
  | .wdtKick path mMode v now => .access fun h => wdtKick_good h path mMode v now
  | .swReset aperture path mMode v => .access fun h => swReset_good h aperture path mMode v.it v.now
  | .jtagReset => .effect jtagReset_good fun _ => jtagReset_held
  | .canRxError n by8 now => .awake fun h => canRxError_good h n by8 now
  | .donorCopyComplete r => .awake fun h => donorCopyComplete_good h r
  | .illegalInstruction hart word => .awake fun h => illegalInstruction_good h hart word

/-! ## Every step -/

/-- Settles O1: a step is the effect of the command at the front, by its definition. -/
theorem stepRunsFront : Obligations.StepRunsFront := by
  unfold Obligations.StepRunsFront
  intro c rest m
  rfl

/-- No command touches what waits behind it. -/
theorem exec_pending {c : Instr} {s t : State} (h : exec c s = .next t) : t.pending = s.pending := by
  cases acts c with
  | effect _ _ act =>
    rw [act] at h
    cases h
    rfl
  | store _ _ _ _ act =>
    rw [act] at h
    split at h
    · cases h
    · cases h
      rfl

/-- Settles O2: an empty queue idles by definition, and every command's effect is one on the module. -/
theorem queueKept : Obligations.QueueKept := by
  unfold Obligations.QueueKept
  exact ⟨fun _ => rfl, fun _ _ _ h => exec_pending h⟩

/-- A command answers a next state, unless it is a store by address that meets a device register. -/
theorem exec_next_or_fault (c : Instr) (s : State) :
    (∃ t, exec c s = .next t) ∨ (exec c s = .fault .deviceRegister ∧ storesByAddress c = true) := by
  cases acts c with
  | effect _ _ act => exact .inl ⟨_, act s⟩
  | @store f meets byAddress _ _ _ act =>
    cases hmeets : meets s.mod with
    | false => exact .inl ⟨_, by rw [act, hmeets]; rfl⟩
    | true => exact .inr ⟨by rw [act, hmeets]; rfl, byAddress⟩

/-- Settles O5: an empty queue idles, and no command is refused. -/
theorem stepsOn : Obligations.StepsOn := by
  unfold Obligations.StepsOn
  rintro ⟨m, _ | ⟨c, rest⟩⟩
  · exact .inl ⟨_, rfl⟩
  · rcases exec_next_or_fault c { mod := m, pending := rest } with hnext | ⟨hfault, hstores⟩
    · exact .inl hnext
    · exact .inr ⟨hfault, c, rest, rfl, hstores⟩

/-- Every command keeps a sound state sound. -/
theorem exec_good {c : Instr} {s t : State} (hs : s.Good) (h : exec c s = .next t) : t.Good := by
  cases acts c with
  | effect keeps _ act =>
    rw [act] at h
    cases h
    exact keeps hs
  | store _ keeps _ _ act =>
    rw [act] at h
    split at h
    · cases h
    · cases h
      exact keeps hs

/-- Settles O4: an empty queue idles, and every command keeps a sound state sound. -/
theorem stepKeepsGood : Obligations.StepKeepsGood := by
  unfold Obligations.StepKeepsGood
  rintro ⟨m, _ | ⟨c, rest⟩⟩ t hs h
  · cases h
    exact hs
  · exact exec_good (s := { mod := m, pending := rest }) hs h

/-! ## Held in reset, and before step 6 of start-up -/

/-- Settles O6: the effect of every other command does nothing on a module held in reset, where no store meets a device register either. -/
theorem heldInReset : Obligations.HeldInReset := by
  unfold Obligations.HeldInReset
  intro c s hheld hc
  cases acts c with
  | effect _ sleeps act => rw [act, sleeps hc hheld]
  | store _ _ sleeps runs act => rw [act, if_neg (fun h => hheld (runs h)), sleeps hheld]

/-- Settles O7: every write by name acts through the gate of its path. -/
theorem writesBeforeStepSix : Obligations.WritesBeforeStepSix := by
  unfold Obligations.WritesBeforeStepSix
  intro c p s hgated ⟨hheld, hpath⟩ hconf
  obtain ⟨f, hf⟩ := exec_of_gatedPath hgated s
  rw [hf, Mod.gate_early hheld hpath hconf f, abState]

end Sys2Proof.Machine
end

section
namespace Sys2Proof.Machine

/-! ## Sources of time (R380 to R383) -/

section
variable {m : Mod}

/-- A source whose offsets all lie within 1 µs of their mean is QUALIFIED. -/
theorem sourceQualified_of_agreeing {j : Nat} (hq : m.qstate j = qsQualifying) (hos : (m.timeSrc j).offsets ≠ []) (htod : m.isTod j = true)
    (hnear : ∀ x ∈ (m.timeSrc j).offsets, ((x * (m.timeSrc j).offsets.length - (m.timeSrc j).offsets.sum).natAbs : Int) ≤
      1000 * (m.timeSrc j).offsets.length) :
    sourceQualified j m = (((m.set 0x3C1003 qsQualified j).set 0x3C1005 m.k j).raise 0x0103
      [j, ((m.set 0x3C1003 qsQualified j).set 0x3C1005 m.k j).num 0x3C1004 j]).judgeTime := by
  have hspread : ((m.timeSrc j).offsets.any fun x => decide (1000 * ((m.timeSrc j).offsets.length : Int) <
      ((x * (m.timeSrc j).offsets.length - (m.timeSrc j).offsets.sum).natAbs : Int))) = false := by
    simpa only [List.any_eq_false, decide_eq_true_eq, not_lt] using hnear
  simp only [sourceQualified]
  rw [if_neg (by simp [hq, hos]), if_neg (by simp [htod]), hspread, if_neg (by simp)]

theorem sourceQualified_not_qualifying {j : Nat} (hq : m.qstate j ≠ qsQualifying) : sourceQualified j m = m := if_pos (.inl hq)

section
variable (hmode : m.num 0x3C2001 = 1)
include hmode

theorem irigFrameLoss_of_irig : irigFrameLoss m = (m.setTimeSrc 2 { m.timeSrc 2 with last := none }).loseSource 2 1 := if_neg (not_not_intro hmode)

/-- A good frame 1 s later than the one before gives an offset. -/
theorem irigFrameRx_next {f : IrigFrame} {l : Nat} (hcf : m.num 0x3C2002 ≠ 1) (hgood : f.good = true) (hlast : (m.timeSrc 2).last = some l)
    (hnext : m.irigSecond f = l + 1) :
    irigFrameRx f m = (m.setTimeSrc 2 { m.timeSrc 2 with last := some (l + 1) }).measured 2
      ((m.tb f.now : Int) - m.int 32 0x3C2006 - m.irigSecond f * 1000000000) := by
  have hsec : ((l : Int) + 1).toNat = l + 1 := rfl
  have htb (x : SrcSt) : (m.setTimeSrc 2 x).tb f.now = m.tb f.now := rfl
  have hint (x : SrcSt) : (m.setTimeSrc 2 x).int 32 0x3C2006 = m.int 32 0x3C2006 := rfl
  simp [irigFrameRx, hmode, hcf, hgood, hlast, hnext, hsec, htb, hint]

end

theorem irigFrameRx_off (hmode : m.num 0x3C2001 ≠ 1) (f : IrigFrame) : irigFrameRx f m = m := if_pos hmode

theorem irigFrameLoss_off (hmode : m.num 0x3C2001 ≠ 1) : irigFrameLoss m = m := if_pos hmode

/-- An edge 1 s ± 1 µs after the one before, at most 0.4 s past a second of the time base, gives its offset. -/
theorem ppsInEdge_valid {i now j l : Nat} {x : Int} (hsrc : m.ppsSource i = some j) (hlast : (m.timeSrc j).last = some l) (hearly : l + 999999000 ≤ now)
    (hlate : now ≤ l + 1000001000) (hx : x = ((m.tb now : Int) - m.int 32 (0x3C2005 + i)) % 1000000000) (hsmall : x ≤ 400000000) :
    ppsInEdge i now m = (m.setTimeSrc j { m.timeSrc j with last := some now }).measured j x := by
  have hnonneg : 0 ≤ x := hx ▸ Int.emod_nonneg _ (by decide)
  have hfrac : ((m.setTimeSrc j { m.timeSrc j with last := some now }).tb now -
      (m.setTimeSrc j { m.timeSrc j with last := some now }).int 32 (0x3C2005 + i)) % 1000000000 = x := hx.symm
  have hhalf : ¬ 500000000 ≤ x := by omega
  have hlow : ¬ 400000000 < x.natAbs := by omega
  simp only [ppsInEdge, hsrc, hlast, hfrac, if_neg hhalf, if_neg hlow]
  rw [if_neg (by simp [hearly, hlate])]

theorem ppsLossTimeout_of_source {i j : Nat} (hsrc : m.ppsSource i = some j) :
    ppsLossTimeout i m = (m.setTimeSrc j { m.timeSrc j with last := none }).loseSource j 1 := by
  simp only [ppsLossTimeout, hsrc]

theorem ppsInEdge_no_source {i : Nat} (hsrc : m.ppsSource i = none) (now : Nat) : ppsInEdge i now m = m := by
  simp only [ppsInEdge, hsrc]

theorem ppsLossTimeout_no_source {i : Nat} (hsrc : m.ppsSource i = none) : ppsLossTimeout i m = m := by
  simp only [ppsLossTimeout, hsrc]

/-! ## Steps and the states of the time base (R378, R384 to R387) -/

theorem stepRetry_held (h : m.time.stepHold = true) : stepRetry m = ({ m with time := { m.time with stepHold := false } } : Mod).judgeTime := if_pos h

theorem stepRetry_free (h : m.time.stepHold = false) : stepRetry m = m := if_neg (by simp [h])

/-- A MEMBER with a capture in progress cancels the one step due 48 ticks on. -/
theorem stepCaptureCheck_capturing {c : Commit} (hcap : m.capturing = true) (hmem : m.mstate = msMember)
    (hdue : m.stepCommits.filter (fun c => (c.state == .proposed || c.state == .confirmed) && c.target == m.k + 48) = [c]) :
    stepCaptureCheck m = ((((m.sendCommit 5 c abCancelled).cancelCommit c abCancelled m.rank).stepDropped).raise 0x0106 [m.rank, c.target]).noteTime := by
  simp only [stepCaptureCheck, hdue, Mod.each_cons]
  rw [if_neg (by simp [hcap, Mod.isMember_of_mstate hmem])]
  rfl

theorem stepCaptureCheck_idle (h : m.capturing = false) : stepCaptureCheck m = m := if_pos (.inl (by simp [h]))

theorem ref10mQualified_absent (h : m.num 0x3C2007 = 0) : ref10mQualified m = (m.set 0x3C2007 2).raise 0x010B [2] := if_neg (by omega)

theorem ref10mQualified_present (h : m.num 0x3C2007 = 2) : ref10mQualified m = m := if_pos h

theorem ref10mLoss_present (h : m.num 0x3C2007 = 2) : ref10mLoss m = (m.set 0x3C2007 0).raise 0x010B [0] := if_neg (by omega)

theorem ref10mLoss_absent (h : m.num 0x3C2007 = 0) : ref10mLoss m = m := if_pos h

theorem offsetExcursionTimeout_locked (hst : m.timeState = tsLocked) (hx : 1000 < (m.int 64 0x3C0003).natAbs) :
    offsetExcursionTimeout m = ((({ m with time := { m.time with before := tsLocked } } : Mod).set 0x3C0001 tsLocking).raise 0x0104
      [(({ m with time := { m.time with before := tsLocked } } : Mod).set 0x3C0001 tsLocking).selected, 4, m.k]).judgeTime := by
  rw [offsetExcursionTimeout, if_neg (by omega)]
  rfl

theorem offsetExcursionTimeout_small (hx : (m.int 64 0x3C0003).natAbs ≤ 1000) : offsetExcursionTimeout m = m := if_pos (.inr hx)

theorem holdoverLimitExpiry_holdover (hst : m.timeState = tsHoldover) :
    holdoverLimitExpiry m = (((m.set 0x3C0001 tsFreerun).set 0x3C000C (m.num 0x3C0005)).raise 0x0102 [m.num 0x3C0005, m.k]).judgeTime := if_pos hst

theorem holdoverLimitExpiry_other (hst : m.timeState ≠ tsHoldover) : holdoverLimitExpiry m = m := if_neg hst

theorem todSetWrite_freerun (hst : m.timeState = tsFreerun) (hlocked : m.time.everLocked = false) (hmem : m.isMember = false)
    (hrun : m.tick.running = true) (p : Path) (v now : Nat) :
    todSetWrite p v now m = ({ m with time := { m.time with todSet := true, jump := some ((m.tb now : Int) - v) } } : Mod).report p 0 := by
  simp [todSetWrite, Mod.served, hst, hlocked, hmem, hrun]

theorem todSetWrite_refused (h : m.timeState ≠ tsFreerun ∨ m.time.everLocked = true ∨ m.isMember = true) (p : Path) (v now : Nat) :
    todSetWrite p v now m = m.report p abState := if_pos h

/-! ## Leap seconds and PPS outputs (R376, R397) -/

theorem leapSecond_insert (h : m.num 0x3C000A = 1) : leapSecond m = (((m.set 0x3C0009 (ofInt 16 (m.int 16 0x3C0009 + 1))).set 0x3C000A 0).raise 0x010A
    [ofInt 16 (m.int 16 0x3C0009 + 1)]).noteTime := by
  simp [leapSecond, h]

theorem leapSecond_delete (h : m.num 0x3C000A = 2) : leapSecond m = (((m.set 0x3C0009 (ofInt 16 (m.int 16 0x3C0009 - 1))).set 0x3C000A 0).raise 0x010A
    [ofInt 16 (m.int 16 0x3C0009 - 1)]).noteTime := by
  simp [leapSecond, h, Int.sub_eq_add_neg]

theorem leapSecond_none (h : m.num 0x3C000A = 0) : leapSecond m = m := by
  simp [leapSecond, h]

theorem ppsOutEdge_boundary {o now : Nat} (ho : o ≤ 1) (hsec : ((m.tb now : Int) - m.int 32 0x3C3002 o) % 1000000000 = 0) (hmode : m.num 0x3C3001 o = 1) :
    ppsOutEdge o now m = m.emit (.ppsOut o (m.num 0x3C3003 o)) := by
  rw [ppsOutEdge, if_neg (by simp [Nat.not_lt.mpr ho, hsec, hmode])]

theorem ppsOutEdge_off {o : Nat} (hmode : m.num 0x3C3001 o = 0) (now : Nat) : ppsOutEdge o now m = m := by
  rw [ppsOutEdge, if_pos (by simp [hmode])]

end

/-- Settles O52: what each input, timer and write of the time base leaves, in and out of its condition. -/
theorem theTimeBase : Obligations.TheTimeBase := by
  unfold Obligations.TheTimeBase
  refine ⟨?qualified, ?notQualifying, ?irigLost, ?irigNext, ?irigOff, ?ppsEdge, ?ppsLost, ?ppsOff, ?retry, ?noRetry, ?capture, ?noCapture, ?ref10mComes,
    ?ref10mGoes, ?excursion, ?noExcursion, ?holdoverEnds, ?noHoldover, ?todTaken, ?todRefused, ?leapInserted, ?leapDeleted, ?noLeap, ?ppsOut, ?noPpsOut⟩
  case qualified =>
    rintro s j m hr hq hos htod hnear rfl
    exact next_awake hr (sourceQualified_of_agreeing hq hos htod hnear)
  case notQualifying =>
    intro s j hq
    exact next_awake_self (sourceQualified_not_qualifying hq)
  case irigLost =>
    intro s hr hmode
    exact next_awake hr (irigFrameLoss_of_irig hmode)
  case irigNext =>
    intro s f l hr hmode hcf hgood hlast hnext
    exact next_awake hr (irigFrameRx_next hmode hcf hgood hlast hnext)
  case irigOff =>
    intro s f hmode
    exact ⟨next_awake_self (irigFrameRx_off hmode f), next_awake_self (irigFrameLoss_off hmode)⟩
  case ppsEdge =>
    intro s i now j l x hr hsrc hlast hearly hlate hx hsmall
    exact next_awake hr (ppsInEdge_valid hsrc hlast hearly hlate hx hsmall)
  case ppsLost =>
    intro s i j hr hsrc
    exact next_awake hr (ppsLossTimeout_of_source hsrc)
  case ppsOff =>
    intro s i now hsrc
    exact ⟨next_awake_self (ppsInEdge_no_source hsrc now), next_awake_self (ppsLossTimeout_no_source hsrc)⟩
  case retry =>
    intro s hr h
    exact next_awake hr (stepRetry_held h)
  case noRetry =>
    intro s h
    exact next_awake_self (stepRetry_free h)
  case capture =>
    rintro s c m hr hcap hmem hdue rfl
    exact next_awake hr (stepCaptureCheck_capturing hcap hmem hdue)
  case noCapture =>
    intro s h
    exact next_awake_self (stepCaptureCheck_idle h)
  case ref10mComes =>
    intro s hr h
    exact ⟨next_awake hr (ref10mQualified_absent h), next_awake_self (ref10mLoss_absent h)⟩
  case ref10mGoes =>
    intro s hr h
    exact ⟨next_awake hr (ref10mLoss_present h), next_awake_self (ref10mQualified_present h)⟩
  case excursion =>
    rintro s m hr hst hx rfl
    exact next_awake hr (offsetExcursionTimeout_locked hst hx)
  case noExcursion =>
    intro s hx
    exact next_awake_self (offsetExcursionTimeout_small hx)
  case holdoverEnds =>
    intro s hr hst
    exact next_awake hr (holdoverLimitExpiry_holdover hst)
  case noHoldover =>
    intro s hst
    exact next_awake_self (holdoverLimitExpiry_other hst)
  case todTaken =>
    intro s p v now hs hst hlocked hmem hrun
    exact next_gate hs (todSetWrite_freerun hst hlocked hmem hrun p v now)
  case todRefused =>
    intro s p v now hs h
    exact next_gate hs (todSetWrite_refused h p v now)
  case leapInserted =>
    rintro s v hr h rfl
    exact next_awake hr (leapSecond_insert h)
  case leapDeleted =>
    rintro s v hr h rfl
    exact next_awake hr (leapSecond_delete h)
  case noLeap =>
    intro s h
    exact next_awake_self (leapSecond_none h)
  case ppsOut =>
    intro s o now hr ho hsec hmode
    exact next_awake hr (ppsOutEdge_boundary ho hsec hmode)
  case noPpsOut =>
    intro s o now hmode
    exact next_awake_self (ppsOutEdge_off hmode now)

end Sys2Proof.Machine
end

section
namespace Sys2Proof.Machine

/-! ## Time in a triad (R388 to R390) -/

section
variable {m : Mod}

/-- The leader's number changed, the transfer of the old one gone. -/
def Mod.ledBy (m : Mod) (r : Nat) : Mod :=
  let n := (m.raise 0x0108 [m.leader, r, m.k]).set 0x3C000F r
  { n with time := { n.time with xfer := false } }

/-- Another MEMBER leads: a follower waits for its transfer, any other judges its sources. -/
theorem leaderChange_member {r : Nat} (hnew : r ≠ m.leader) (hrank : m.rank ≠ 0) (hlow : 1 ≤ r) (hhigh : r ≤ 3) (hother : r ≠ m.rank)
    (hmem : m.num 0x600102 r = msMember) : leaderChange r m = if (m.ledBy r).following then m.ledBy r else (m.ledBy r).judgeTime := by
  have hzero : r ≠ 0 := by omega
  have hrange : ¬ 3 < r := by omega
  simp only [leaderChange]
  rw [if_neg (by simp [hnew, hrank, hrange, hother, hmem])]
  rfl

theorem leaderChange_same : leaderChange m.leader m = m := if_pos (.inl rfl)

theorem timeTransferSend_leader (hmem : m.mstate = msMember) (hlead : m.leader = m.rank) (now : Nat) :
    timeTransferSend now m =
      m.each (m.linksUp.filter (fun l => m.triadLink l)) (fun m l => (m.sendTransfer l false now).sendTransfer l true now) :=
  if_pos ⟨Mod.isMember_of_mstate hmem, hlead⟩

theorem timeTransferRx_follower {l : Nat} (hfol : m.following = true) (hlink : m.triadLink l = true)
    (hpeer : m.num 0x600101 m.leader = m.num 0x611006 l) (hsel : m.selected = selTransfer) (o d now : Nat) :
    timeTransferRx l o d now m =
      ((({ m with time := { m.time with xfer := true } } : Mod).set 0x3C0003 (ofInt 64 ((m.tb now : Int) - o - d))).judgeTime) := by
  have hsel' : ({ m with time := { m.time with xfer := true } } : Mod).selected = selTransfer := hsel
  rw [timeTransferRx, if_neg (by simp [hfol, hlink, hpeer])]
  simp only [hsel', true_or, if_true]

theorem timeTransferRx_other {l : Nat} (h : m.following = false ∨ m.triadLink l = false) (o d now : Nat) : timeTransferRx l o d now m = m := by
  rw [timeTransferRx, if_pos (by simpa using h.elim .inl (fun h => .inr (.inl h)))]

theorem timeTransferLoss_follower (hfol : m.following = true) (hxfer : m.time.xfer = true) :
    timeTransferLoss m = { m with time := { m.time with xfer := false, servo := .hold } } := if_pos ⟨hfol, hxfer⟩

theorem followerDeviation_beyond {j : Nat} (hbest : m.bestSource = some j) (hfol : m.following = true) (hdev : m.num 0x3C0011 < (m.srcX j).natAbs) :
    followerDeviation m = m.raise 0x0109 [j, m.num 0x3C1004 j] := by
  simp [followerDeviation, hbest, hfol, hdev]

/-! ## PTP (R381, R393, R396) -/

/-- What an Announce says of its grandmaster, one step further away. -/
def announcedGm (x : PtpMsg) : Gm :=
  { p1 := x.p1, cls := x.cls, acc := x.acc, var := x.var, p2 := x.p2, id := x.gmId, steps := x.steps + 1, sender := x.sender, port := x.senderPort }

/-- An offset measured on a SLAVE port whose grandmaster's class is admitted. -/
theorem Mod.ptpOffset_slave {i p : Nat} {g : Gm} (hg : m.parent i = some g) (hslave : m.num 0x3D4001 p = ptSlave) (hcls : g.cls ≤ m.num 0x3D000B i)
    (t2 : Int) (origin : Nat) (corr : Int) :
    m.ptpOffset i p t2 origin corr = m.measured i (t2 - origin - corr - m.num 0x3D4002 p - m.int 32 0x3D4003 p) := by
  have hadmitted : ¬ m.num 0x3D000B i < g.cls := by omega
  simp [Mod.ptpOffset, hg, hslave, hadmitted]

section
variable {x : PtpMsg} {i : Nat} (hof : m.ptpOf x = some i)
include hof

theorem ptpSyncRx_one_step {g : Gm} (hstep : x.twoStep = false) (hg : m.parent i = some g) (hslave : m.num 0x3D4001 x.port = ptSlave)
    (hcls : g.cls ≤ m.num 0x3D000B i) :
    ptpSyncRx x m = m.measured i ((m.tb x.ts : Int) + m.int 32 0x320013 x.port - x.origin - x.corr - m.num 0x3D4002 x.port - m.int 32 0x3D4003 x.port) := by
  simp [ptpSyncRx, hof, hstep, Mod.ptpOffset_slave hg hslave hcls]

theorem ptpSyncRx_two_step (hstep : x.twoStep = true) :
    ptpSyncRx x m = m.setPtpPort x.port { m.ptpPort x.port with
      sync := some (x.seq, ((m.tb x.ts : Int) + m.int 32 0x320013 x.port).toNat, x.corr) } := by
  simp [ptpSyncRx, hof, hstep]

theorem ptpFollowUpRx_waiting {t2 : Nat} {c : Int} (hsync : (m.ptpPort x.port).sync = some (x.seq, t2, c)) :
    ptpFollowUpRx x m = (m.setPtpPort x.port { m.ptpPort x.port with sync := none }).ptpOffset i x.port t2 x.origin (c + x.corr) := by
  simp [ptpFollowUpRx, hof, hsync]

/-- The first Announce on a port is its best. -/
theorem ptpAnnounceRx_first (hbest : (m.ptpPort x.port).best = none)
    (hparent : (((m.setPtpPort x.port { m.ptpPort x.port with best := some (announcedGm x) }).bmca i none).takeUtc x).parent i = none) :
    ptpAnnounceRx x m = ((m.setPtpPort x.port { m.ptpPort x.port with best := some (announcedGm x) }).bmca i none).takeUtc x := by
  simp only [announcedGm] at hparent ⊢
  simp [ptpAnnounceRx, hof, hbest, hparent]

theorem ptpPdelayReqRx_answered (hport : x.port < 768) :
    ptpPdelayReqRx x m = m.emit (.ptp x.port .pdelayResp x.domain
      [x.seq, x.sender, x.senderPort, ((m.tb x.ts : Int) + m.int 32 0x320013 x.port).toNat]) := if_pos ⟨hport, .inl (by simp [hof])⟩

end

section
variable {x : PtpMsg} (hof : m.ptpOf x = none)
include hof

theorem ptpSyncRx_unserved : ptpSyncRx x m = m := by simp [ptpSyncRx, hof]

theorem ptpFollowUpRx_unserved : ptpFollowUpRx x m = m := by simp [ptpFollowUpRx, hof]

theorem ptpAnnounceRx_unserved : ptpAnnounceRx x m = m := by simp [ptpAnnounceRx, hof]

end

section
variable {p i : Nat} (hinst : m.ptpInst p = some i)
include hinst

theorem ptpPdelayRespRx_instance (hport : p < 768) (t1 t2 t3 t4 : Nat) (c : Int) :
    ptpPdelayRespRx p t1 t2 t3 t4 c m = m.set 0x3D4002 (min ((((t4 : Int) - t1 - (t3 - t2) - c) / 2).toNat) (2 ^ 32 - 1)) p :=
  if_pos ⟨hport, .inl (by simp [hinst])⟩

theorem ptpMessageSend_sync (hmaster : m.num 0x3D4001 p = ptMaster) (now : Nat) :
    ptpMessageSend p .sync now m = m.emit (.ptp p .sync (m.num 0x3D0003 i) [m.num 0x3D0008 i, m.tb now]) := by
  simp [ptpMessageSend, hinst, hmaster]

theorem ptpMessageSend_pdelayReq (now : Nat) :
    ptpMessageSend p .pdelayReq now m = m.emit (.ptp p .pdelayReq (m.num 0x3D0003 i) [m.tb now]) := by
  simp [ptpMessageSend, hinst]

/-- Only a MASTER port sends Sync, Announce and Follow_Up. -/
theorem ptpMessageSend_no_master (hmaster : m.num 0x3D4001 p ≠ ptMaster) {kind : PtpKind} (hkind : kind = .sync ∨ kind = .announce ∨ kind = .followUp)
    (now : Nat) : ptpMessageSend p kind now m = m := by
  rcases hkind with rfl | rfl | rfl
  · simp [ptpMessageSend, hinst, hmaster]
  · simp [ptpMessageSend, hinst, hmaster]
  · simp [ptpMessageSend, hinst, hmaster]

theorem ptpAnnounceTimeout_instance :
    ptpAnnounceTimeout p m = if m.num 0x3D4001 p = ptSlave then ((m.setPtpPort p {}).bmca i (some p)).loseSource i 1
      else (m.setPtpPort p {}).bmca i (some p) := by
  simp [ptpAnnounceTimeout, hinst]

end

theorem ptpSyncMissed_instance {i : Nat} (hi : i < 2) : ptpSyncMissed i m = m.loseSource i 1 := if_pos hi

/-- A source that neither qualifies nor is QUALIFIED cannot be lost. -/
theorem Mod.loseSource_not_valid {j : Nat} (hqualifying : m.qstate j ≠ qsQualifying) (hqualified : m.qstate j ≠ qsQualified) (c : Nat) :
    m.loseSource j c = m := if_neg (by tauto)

end

/-- Settles O53: what each message, interval and time-out of the triad's transfer and of PTP leaves. -/
theorem triadTimeAndPtp : Obligations.TriadTimeAndPtp := by
  unfold Obligations.TriadTimeAndPtp
  refine ⟨?newLeader, ?sameLeader, ?transferSent, ?transferTaken, ?transferIgnored, ?transferLost, ?deviates, ?syncOneStep, ?syncTwoStep, ?followUp, ?unserved,
    ?announce, ?pdelayReq, ?pdelayResp, ?management, ?masterSends, ?otherSendsNot, ?announceTimeout, ?syncMissed, ?notLost⟩
  case newLeader =>
    rintro s r m hr hnew hrank hlow hhigh hother hmem rfl
    exact next_awake hr (leaderChange_member hnew hrank hlow hhigh hother hmem)
  case sameLeader =>
    intro s
    exact next_awake_self leaderChange_same
  case transferSent =>
    intro s now hr hmem hlead
    exact next_awake hr (timeTransferSend_leader hmem hlead now)
  case transferTaken =>
    intro s l o d now hr hfol hlink hpeer hsel
    exact next_awake hr (timeTransferRx_follower hfol hlink hpeer hsel o d now)
  case transferIgnored =>
    intro s l o d now h
    exact next_awake_self (timeTransferRx_other h o d now)
  case transferLost =>
    intro s hr hfol hxfer
    exact next_awake hr (timeTransferLoss_follower hfol hxfer)
  case deviates =>
    intro s j hr hbest hfol hdev
    exact next_awake hr (followerDeviation_beyond hbest hfol hdev)
  case syncOneStep =>
    intro s x i g hr hof hstep hg hslave hcls
    exact next_awake hr (ptpSyncRx_one_step hof hstep hg hslave hcls)
  case syncTwoStep =>
    intro s x i hr hof hstep
    exact next_awake hr (ptpSyncRx_two_step hof hstep)
  case followUp =>
    intro s x i t2 c hr hof hsync
    exact next_awake hr (ptpFollowUpRx_waiting hof hsync)
  case unserved =>
    intro s x hof
    exact ⟨next_awake_self (ptpSyncRx_unserved hof), next_awake_self (ptpFollowUpRx_unserved hof), next_awake_self (ptpAnnounceRx_unserved hof)⟩
  case announce =>
    rintro s x i m hr hof hbest rfl hparent
    exact next_awake hr (ptpAnnounceRx_first hof hbest hparent)
  case pdelayReq =>
    intro s x hr hport hof
    obtain ⟨i, hi⟩ := Option.isSome_iff_exists.mp hof
    exact next_awake hr (ptpPdelayReqRx_answered hi hport)
  case pdelayResp =>
    intro s p t1 t2 t3 t4 c hr hport hinst
    obtain ⟨i, hi⟩ := Option.isSome_iff_exists.mp hinst
    exact next_awake hr (ptpPdelayRespRx_instance hi hport t1 t2 t3 t4 c)
  case management =>
    rintro s f c hr rfl
    exact next_awake hr rfl
  case masterSends =>
    intro s p i now hr hinst hmaster
    exact ⟨next_awake hr (ptpMessageSend_sync hinst hmaster now), next_awake hr (ptpMessageSend_pdelayReq hinst now)⟩
  case otherSendsNot =>
    intro s p i now hr hinst hmaster
    exact ⟨next_awake hr (ptpMessageSend_no_master hinst hmaster (.inl rfl) now),
      next_awake hr (ptpMessageSend_no_master hinst hmaster (.inr (.inl rfl)) now),
      next_awake hr (ptpMessageSend_no_master hinst hmaster (.inr (.inr rfl)) now)⟩
  case announceTimeout =>
    intro s p i hr hinst
    exact next_awake hr (ptpAnnounceTimeout_instance hinst)
  case syncMissed =>
    intro s i hr hi
    exact next_awake hr (ptpSyncMissed_instance hi)
  case notLost =>
    intro m j c hqualifying hqualified
    exact Mod.loseSource_not_valid hqualifying hqualified c

end Sys2Proof.Machine
end

section
namespace Sys2Proof.Machine

/-! ## The rows of a tick (R402, R413) -/

section
variable {m : Mod}

/-- The rows of the present tick marked as taken. -/
def Mod.rowsTaken (m : Mod) : Mod := { m with click := { m.click with wrote := m.k + 1 } }

theorem Mod.recording_iff (x : Nat) : m.recording x = true ↔ m.ckState x = ckArmed ∨ m.ckState x = ckTriggered := by
  simp [Mod.recording]

/-- The turn of a slot, one comparison for each of its two states. -/
theorem Mod.ckTurn_eq (now x : Nat) (c : CapTick) (spent : Nat) :
    m.ckTurn now x c spent =
      if m.ckState x ≠ ckArmed ∧ m.ckState x ≠ ckTriggered then (m, spent)
      else if m.num 0x4C0002 < spent + (m.ck x).rowLen * m.ckPer x then ((m.bump 0x4C0003).ckOverflow x 1, spent)
      else
        (if (m.each (List.range (m.ckPer x)) (fun m i => m.writeRow now x c i)).ckState x = ckArmed ∨
            (m.each (List.range (m.ckPer x)) (fun m i => m.writeRow now x c i)).ckState x = ckTriggered then
          (m.each (List.range (m.ckPer x)) (fun m i => m.writeRow now x c i)).ckSync x
        else m.each (List.range (m.ckPer x)) (fun m i => m.writeRow now x c i), spent + (m.ck x).rowLen * m.ckPer x) := by
  have hrests : m.recording x = false ↔ m.ckState x ≠ ckArmed ∧ m.ckState x ≠ ckTriggered := by simp [Mod.recording]
  simp only [Mod.ckTurn, hrests, Mod.recording_iff]

section
variable (hphase : m.tick.phase = .V ∨ m.tick.phase = .P) (hrun : m.tick.running = true) (hdue : m.click.wrote ≠ m.k + 1)
include hphase hrun hdue

/-- The slots that record take the rows of the tick captured ten before, in their turn. -/
theorem clickerRowWrite_writes {c : CapTick} (hcap : m.click.hist.find? (fun c => c.k + 10 = m.k) = some c) (now : Nat) :
    clickerRowWrite now m = (((List.range 64).filter m.recording).foldl (fun a x => a.1.ckTurn now x c a.2) (m.rowsTaken, 0)).1 := by
  have hplace : ¬ (m.tick.phase ≠ .V ∧ m.tick.phase ≠ .P) := by tauto
  simp only [Mod.ckTurn_eq]
  rw [clickerRowWrite, if_neg (by simp [hplace, hdue, hrun])]
  dsimp only
  split
  case h_1 hnone => exact absurd (hcap.symm.trans hnone) nofun
  case h_2 hsome =>
    obtain rfl := Option.some.inj (hcap.symm.trans hsome)
    rfl

theorem clickerRowWrite_none_captured (hcap : m.click.hist.find? (fun c => c.k + 10 = m.k) = none) (now : Nat) :
    clickerRowWrite now m = m.rowsTaken := by
  have hplace : ¬ (m.tick.phase ≠ .V ∧ m.tick.phase ≠ .P) := by tauto
  rw [clickerRowWrite, if_neg (by simp [hplace, hdue, hrun])]
  dsimp only
  split
  case h_1 => rfl
  case h_2 hsome => exact absurd (hcap.symm.trans hsome) nofun

end

theorem clickerRowWrite_out_of_place (h : m.click.wrote = m.k + 1 ∨ m.tick.running = false ∨ (m.tick.phase ≠ .V ∧ m.tick.phase ≠ .P)) (now : Nat) :
    clickerRowWrite now m = m := by
  rw [clickerRowWrite, if_pos]
  simp only [Bool.not_eq_true']
  tauto

/-! ## Lines and cross-triggers (R406, R409, R410) -/

theorem trigInputEdge_counts {j : Nat} (hj : j ≤ 31) (hin : m.num 0x4C6001 j = 0) {lv : Bool} (hedge : m.num 0x4C6005 j ≠ b2n lv) (now : Nat) :
    trigInputEdge j now lv m =
      (((m.set 0x4C6005 (b2n lv) j).set 0x4C6006 (m.tb now - m.num 0x4C6002 j) j).bump 0x4C6007 j).offerTrigger now
        (fun kind edge arg => kind == 2 && arg == j && edgeHit edge lv) { instant := m.tb now - m.num 0x4C6002 j } := by
  rw [trigInputEdge, if_neg]
  simp [hin, hedge, hj]

theorem trigPulseEnd_falls {j : Nat} (hmode : m.trigMode j = some 1) (hhigh : m.num 0x4C6005 j = 1) (now : Nat) :
    trigPulseEnd j now m = (((m.set 0x4C6005 0 j).set 0x4C6006 (m.tb now) j).bump 0x4C6007 j).emit (.trig j false) := by
  have hchange : m.num 0x4C6005 j ≠ b2n false := by simp [hhigh, b2n]
  rw [trigPulseEnd, if_pos hmode, Mod.setTrig, if_neg hchange]
  rfl

theorem trigPulseEnd_nothing {j : Nat} (h : m.trigMode j ≠ some 1 ∨ m.num 0x4C6005 j = 0) (now : Nat) : trigPulseEnd j now m = m := by
  by_cases hmode : m.trigMode j = some 1
  · rw [trigPulseEnd, if_pos hmode]
    exact if_pos (h.resolve_left (not_not_intro hmode))
  · exact if_neg hmode

theorem takeXtrig_ignored {p : Packet} (h : p.src = m.moduleId ∨ field p.data 0 1 ≠ 1) (now : Nat) : m.takeXtrig p now = m.bump 0x4C000B := if_pos h

theorem takeXtrig_offered {p : Packet} (hsrc : p.src ≠ m.moduleId) (hformat : field p.data 0 1 = 1) (now : Nat) :
    m.takeXtrig p now = (m.bump 0x4C000A).offerTrigger now
      (fun kind _ arg => kind == 3 && arg % 16 == field p.data 1 1 && (arg / 256 % 256 == 0 || arg / 256 % 256 == p.src))
      { instant := field p.data 8 8, cross := true, unsync := bit (field p.data 24 1) 5 || bit m.timeQuality 5 } :=
  if_neg (by simp [hsrc, hformat])

theorem takeCross_here {p : Packet} {now : Nat} (h : p.dst ≠ 255 ∨ p.src = (m.takeXtrig p now).moduleId) (l : Nat) :
    m.takeCross l p now = m.takeXtrig p now := if_pos h

section
variable {p : Packet} {now : Nat} (hall : p.dst = 255) (hsrc : p.src ≠ (m.takeXtrig p now).moduleId) (l : Nat)
include hall hsrc

theorem takeCross_last_hop (hhops : p.hops = 0) : m.takeCross l p now = (m.takeXtrig p now).bump 0x613009 := by
  rw [Mod.takeCross, if_neg (by simp [hall, hsrc]), if_pos hhops]

theorem takeCross_goes_on (hhops : p.hops ≠ 0) :
    m.takeCross l p now = (m.takeXtrig p now).broadcast { p with hops := p.hops - 1 } (some l) := by
  rw [Mod.takeCross, if_neg (by simp [hall, hsrc]), if_neg hhops]

end

/-! ## Commands to a slot (R406, R412, R419) -/

theorem Mod.Serves.not_tenant {p : Path} (hs : m.Serves p) : isTenantPath p = false := hs.2.1

section
variable {p : Path} (hp : isTenantPath p = false) {x : Nat} (may : Nat → Bool) (f : Mod → Mod)
include hp

/-- A command to a slot on a path that is not a tenant's: selector, value and state are judged in this order. -/
theorem Mod.ckCommand_eq (v : Nat) :
    m.ckCommand p x v may f = if 63 < x then m.report p abSelector else if v ≠ 1 then m.report p abValue
      else if !may (m.ckState x) then m.report p abState else m.served p f := by
  cases p with
  | tenant j => cases hp
  | supervisor | sdo | dtp => rfl

theorem Mod.ckCommand_selector (hx : 63 < x) (v : Nat) : m.ckCommand p x v may f = m.report p 0x08800001 := by
  rw [Mod.ckCommand_eq hp, if_pos hx, abSelector]

variable (hx : x ≤ 63)
include hx

theorem Mod.ckCommand_value {v : Nat} (hv : v ≠ 1) : m.ckCommand p x v may f = m.report p 0x06090030 := by
  rw [Mod.ckCommand_eq hp, if_neg (by omega), if_pos hv, abValue]

theorem Mod.ckCommand_state (hmay : may (m.ckState x) = false) : m.ckCommand p x 1 may f = m.report p 0x08000022 := by
  rw [Mod.ckCommand_eq hp, if_neg (by omega), if_neg (by simp), if_pos (by simp [hmay]), abState]

theorem Mod.ckCommand_acts (hmay : may (m.ckState x) = true) : m.ckCommand p x 1 may f = (f m).report p 0 := by
  rw [Mod.ckCommand_eq hp, if_neg (by omega), if_neg (by simp), if_neg (by simp [hmay]), Mod.served]

end

section
variable {p : Path} {b : List Byte}

theorem clickerResend_length (hlen : b.length ≠ 12) (x : Nat) : clickerResend p x b m = m.report p 0x06070010 := if_pos hlen

variable (hp : isTenantPath p = false) {x : Nat} (hx : x ≤ 63) (hlen : b.length = 12)
include hp hx hlen

theorem clickerResend_outside (h : field b 8 4 = 0 ∨ m.imageLen x < field b 0 8 + field b 8 4 ∨ ((m.ck x).ring < field b 0 8 + field b 8 4 ∧
      max (field b 0 8) (m.ck x).ring < (m.ck x).ring + (m.ck x).gone * (m.ck x).rowLen)) :
    clickerResend p x b m = m.report p 0x06090030 := by
  rw [clickerResend, if_neg (not_not_intro hlen), if_pos (by tauto), Mod.ckCommand_value hp _ _ hx (by decide)]

section
variable (hsome : field b 8 4 ≠ 0) (hin : field b 0 8 + field b 8 4 ≤ m.imageLen x) (hheld : (m.ck x).gone = 0)
include hsome hin hheld

omit hp hx in
/-- A range of an image whose rows are all held is a value that is taken. -/
theorem clickerResend_eq : clickerResend p x b m = m.ckCommand p x 1 (fun st => st == ckComplete || st == ckDone)
    (fun m' => m'.setCk x { m.ck x with resend := (m.ck x).resend ++ [(field b 0 8, field b 8 4)] }) := by
  have hwithin : ¬ m.imageLen x < field b 0 8 + field b 8 4 := by omega
  have hrows : ¬ max (field b 0 8) (m.ck x).ring < (m.ck x).ring := by omega
  rw [clickerResend, if_neg (not_not_intro hlen), if_neg]
  simp only [hheld, hsome, hwithin, gt_iff_lt, Nat.zero_mul, Nat.add_zero, hrows, and_false, or_false, not_false_eq_true]

theorem clickerResend_state (hc : m.ckState x ≠ ckComplete) (hd : m.ckState x ≠ ckDone) : clickerResend p x b m = m.report p 0x08000022 := by
  rw [clickerResend_eq hlen hsome hin hheld, Mod.ckCommand_state hp _ _ hx (by simp [hc, hd])]

theorem clickerResend_takes (hst : m.ckState x = ckComplete ∨ m.ckState x = ckDone) : clickerResend p x b m =
    (m.setCk x { m.ck x with resend := (m.ck x).resend ++ [(field b 0 8, field b 8 4)] }).report p 0 := by
  rw [clickerResend_eq hlen hsome hin hheld, Mod.ckCommand_acts hp _ _ hx (by simpa using hst)]

end

end

/-! ## The drain (R418) -/

theorem drainFrameSend_turn {x : Nat} (h : ((List.range 64).map (fun i => (m.click.turn + 1 + i) % 64)).find? m.wantsDrain = some x) (now : Nat) :
    drainFrameSend now m = ({ m with click := { m.click with turn := x } } : Mod).drainSlot now x := by
  rw [drainFrameSend, h]

theorem drainFrameSend_idle (h : ∀ x, x < 64 → m.wantsDrain x = false) (now : Nat) : drainFrameSend now m = m := by
  have hnone : ((List.range 64).map (fun i => (m.click.turn + 1 + i) % 64)).find? m.wantsDrain = none := by
    simp only [List.find?_eq_none, List.forall_mem_map]
    intro i _
    simp [h _ (Nat.mod_lt _ (by decide : 0 < 64))]
  rw [drainFrameSend, hnone]

/-- A range to be sent again goes first, as much of it as a frame holds. -/
theorem Mod.drainSlot_resends {x off len : Nat} {t : List (Nat × Nat)} {n : Mod} (hre : (m.ck x).resend = (off, len) :: t)
    (hn : n = m.setCk x { m.ck x with resend := if len ≤ m.num 0x4C0008 then t else (off + m.num 0x4C0008, len - m.num 0x4C0008) :: t }) (now : Nat) :
    m.drainSlot now x = n.sendDrain now x (2 + 4 * b2n (m.ckMode x 0)) off (m.imageLen x) (n.imageOctets x (m.ck x).count off (min len (m.num 0x4C0008))) := by
  subst hn
  simp only [Mod.drainSlot, hre, min_eq_left_iff]
  by_cases hfits : len ≤ m.num 0x4C0008
  · simp only [if_pos hfits]
  · simp only [if_neg hfits, Nat.min_eq_right (Nat.le_of_not_le hfits)]

section
variable {x most : Nat} {n : Mod} (hre : (m.ck x).resend = []) (hsent : (m.ck x).sent < m.imageLen x)
  (hmost : most = min (m.num 0x4C0008) (m.imageLen x - (m.ck x).sent)) (hn : n = (m.setCk x { m.ck x with sent := (m.ck x).sent + most }).bump 0x4C2008 x most)
  (now : Nat)
include hre hsent hmost hn

section
variable (honce : m.ckMode x 0 = false)
include honce

theorem Mod.drainSlot_goes_on (hmore : (m.ck x).sent + most ≠ m.imageLen x) :
    m.drainSlot now x = n.sendDrain now x 0 (m.ck x).sent (m.imageLen x) (m.imageOctets x (m.ck x).count (m.ck x).sent most) := by
  subst hn
  simp only [Mod.drainSlot, hre, if_pos hsent, ← hmost, honce, beq_false_of_ne hmore]
  rfl

theorem Mod.drainSlot_last (hlast : (m.ck x).sent + most = m.imageLen x) :
    m.drainSlot now x = (n.sendDrain now x 1 (m.ck x).sent (m.imageLen x) (m.imageOctets x (m.ck x).count (m.ck x).sent most)).drained x := by
  subst hn
  simp only [Mod.drainSlot, hre, if_pos hsent, ← hmost, honce, hlast, beq_self_eq_true]
  rfl

end

/-- A continuous record shows no length while it runs, and its drain has no last octet. -/
theorem Mod.drainSlot_continuous (hcont : m.ckMode x 0 = true) : m.drainSlot now x =
    n.sendDrain now x 4 (m.ck x).sent (if m.ckState x = ckTriggered then 0 else m.imageLen x) (m.imageOctets x 0 (m.ck x).sent most) := by
  subst hn
  simp only [Mod.drainSlot, hre, if_pos hsent, ← hmost, hcont, beq_iff_eq, true_and]
  rfl

end

theorem Mod.drainSlot_final_header {x : Nat} (hre : (m.ck x).resend = []) (hcont : m.ckMode x 0 = true) (hsent : m.imageLen x ≤ (m.ck x).sent)
    (hst : m.ckState x = ckDraining) (now : Nat) :
    m.drainSlot now x = (m.sendDrain now x 13 0 (m.imageLen x) (m.imageOctets x (m.ck x).count 0 0x100)).drained x := by
  simp only [Mod.drainSlot, hre, if_neg (Nat.not_lt.2 hsent), hcont, hst, and_self, if_true]

end

/-- Settles O54: a lemma above for each way a command of the Clicker can go. -/
theorem theClicker : Obligations.TheClicker := by
  unfold Obligations.TheClicker
  refine ⟨?rows, ?noRows, ?rowsOutOfPlace, ?inputEdge, ?inputStill, ?pulseEnds, ?pulseNone, ?crossHere, ?crossElsewhere, ?crossStays, ?crossHops, ?crossIgnored,
    ?crossOffered, ?force, ?stop, ?drain, ?release, ?states, ?values, ?selectors, ?resend, ?resendRefused, ?resendLength, ?turn, ?idle, ?resends, ?record,
    ?continuous, ?finalHeader⟩
  case rows => exact fun s now c hr hphase hrun hdue hcap => next_awake hr (clickerRowWrite_writes hphase hrun hdue hcap now)
  case noRows => exact fun s now hr hphase hrun hdue hcap => next_awake hr (clickerRowWrite_none_captured hphase hrun hdue hcap now)
  case rowsOutOfPlace => exact fun s now h => next_awake_self (clickerRowWrite_out_of_place h now)
  case inputEdge =>
    rintro s j now at' lv hr hj hin hedge rfl
    exact next_awake hr (trigInputEdge_counts hj hin hedge now)
  case inputStill => exact fun s j now lv h => next_awake_self (if_pos h)
  case pulseEnds => exact fun s j now hr hmode hhigh => next_awake hr (trigPulseEnd_falls hmode hhigh now)
  case pulseNone => exact fun s j now h => next_awake_self (trigPulseEnd_nothing h now)
  case crossHere =>
    rintro s h p now m hu rfl hdst hty
    exact next_awake hu.1 (takeWhole_takes _ hu (hdst.imp_right fun hall => ⟨hall, hty⟩))
  case crossElsewhere =>
    rintro s h p now m hu rfl hother hsingle
    exact next_awake hu.1 (takeWhole_forwards hu hother hsingle _)
  case crossStays => exact fun m l p now h => takeCross_here h l
  case crossHops =>
    rintro m n l p now rfl hall hsrc
    exact ⟨takeCross_last_hop hall hsrc l, takeCross_goes_on hall hsrc l⟩
  case crossIgnored => exact fun m p now h => takeXtrig_ignored h now
  case crossOffered => exact fun m p now hsrc hformat => takeXtrig_offered hsrc hformat now
  case force => exact fun s p x now hs hx => next_gate hs (Mod.ckCommand_acts hs.not_tenant _ _ hx rfl)
  case stop => exact fun s p x hs hx hst => next_gate hs (Mod.ckCommand_acts hs.not_tenant _ _ hx (by simpa using hst))
  case drain => exact fun s p x hs hx hst => next_gate hs (Mod.ckCommand_acts hs.not_tenant _ _ hx (by simpa using hst))
  case release => exact fun s p x hs hx hst => next_gate hs (Mod.ckCommand_acts hs.not_tenant _ _ hx (by simpa using hst))
  case states =>
    exact fun s p x hs hx => ⟨fun hst => next_gate hs (Mod.ckCommand_state hs.not_tenant _ _ hx (by simpa using hst)),
      fun hst => next_gate hs (Mod.ckCommand_state hs.not_tenant _ _ hx (by simpa using hst)),
      fun hc hd => next_gate hs (Mod.ckCommand_state hs.not_tenant _ _ hx (by simp [hc, hd]))⟩
  case values =>
    intro s p x v now hs hx hv
    have hrefused (may : Nat → Bool) (f : Mod → Mod) := Mod.ckCommand_value (m := s.mod) hs.not_tenant may f hx hv
    exact ⟨next_gate hs (hrefused _ _), next_gate hs (hrefused _ _), next_gate hs (hrefused _ _), next_gate hs (hrefused _ _)⟩
  case selectors =>
    intro s p x v now hs hx
    have hrefused (may : Nat → Bool) (f : Mod → Mod) := Mod.ckCommand_selector (m := s.mod) hs.not_tenant may f hx v
    exact ⟨next_gate hs (hrefused _ _), next_gate hs (hrefused _ _), next_gate hs (hrefused _ _), next_gate hs (hrefused _ _)⟩
  case resend => exact fun s p x b hs hx hlen hsome hin hheld hst => next_gate hs (clickerResend_takes hs.not_tenant hx hlen hsome hin hheld hst)
  case resendRefused =>
    exact fun s p x b hs hx hlen => ⟨fun h => next_gate hs (clickerResend_outside hs.not_tenant hx hlen h),
      fun hsome hin hheld hc hd => next_gate hs (clickerResend_state hs.not_tenant hx hlen hsome hin hheld hc hd)⟩
  case resendLength => exact fun s p x b hs hlen => next_gate hs (clickerResend_length hlen x)
  case turn => exact fun s now x hr h => next_awake hr (drainFrameSend_turn h now)
  case idle => exact fun s now h => next_awake_self (drainFrameSend_idle h now)
  case resends => exact fun m n now x off len t hre hn => Mod.drainSlot_resends hre hn now
  case record =>
    exact fun m n now x most hre honce hsent hmost hn =>
      ⟨Mod.drainSlot_goes_on hre hsent hmost hn now honce, Mod.drainSlot_last hre hsent hmost hn now honce⟩
  case continuous => exact fun m n now x most hre hcont hsent hmost hn => Mod.drainSlot_continuous hre hsent hmost hn now hcont
  case finalHeader => exact fun m now x hre hcont hsent hst => Mod.drainSlot_final_header hre hcont hsent hst now

end Sys2Proof.Machine
end

section
namespace Sys2Proof.Machine

/-! ## What a write leaves of every other object -/

/-- A number of a sound store after one is written. -/
theorem Mod.num_set_eq {m : Mod} (hg : m.Good) {o i p j : Nat} (hi : i < 65536) (hj : j < 65536) (n : Nat) :
    (m.set o n i).num p j = if p = o ∧ j = i then n else m.num p j := by
  split
  case isTrue h =>
    obtain ⟨rfl, rfl⟩ := h
    exact Mod.num_set hg.dict ..
  case isFalse h => exact Mod.num_set_ne hg.dict n (objKey_ne hj hi (by tauto))

theorem Mod.num_setOct_eq {m : Mod} (hg : m.Good) {o i p j : Nat} (hi : i < 65536) (hj : j < 65536) (hne : p ≠ o) (b : List Byte) :
    (m.setOct o b i).num p j = m.num p j := Mod.num_setOct_ne hg.dict b (objKey_ne hj hi (.inl hne))

theorem Mod.oct_set_eq {m : Mod} (hg : m.Good) {o i p j : Nat} (hi : i < 65536) (hj : j < 65536) (hne : p ≠ o) (n : Nat) :
    (m.set o n i).oct p j = m.oct p j := Mod.oct_set_ne hg.dict n (objKey_ne hj hi (.inl hne))

end Sys2Proof.Machine
end

section
namespace Sys2Proof.Machine

/-! ## CAN channels: what an effect leaves as it was (R424, R426, R474) -/

section
variable {m : Mod}

@[simp] theorem Mod.num_setCanChan (n : Nat) (x : CanChan) (o i : Nat) : (m.setCanChan n x).num o i = m.num o i := rfl

@[simp] theorem Mod.oct_setCanChan (n : Nat) (x : CanChan) (o i : Nat) : (m.setCanChan n x).oct o i = m.oct o i := rfl

@[simp] theorem Mod.num_setCanBuf (i : Nat) (x : CanBuf) (o j : Nat) : (m.setCanBuf i x).num o j = m.num o j := rfl

/-- A bridge frame that a buffer takes writes the buffer's own objects only. -/
theorem Mod.num_refill (hg : m.Good) {n : Nat} (hn : n ≤ 191) {o i : Nat} (hi : i < 65536)
    (ho : o ≠ 0x5C2001 ∧ o ≠ 0x5C2002 ∧ o ≠ 0x5C2003 ∧ o ≠ 0x5C2004 ∧ o ≠ 0x5C2007) : (m.refill n).num o i = m.num o i := by
  obtain ⟨hid, hflags, hdlc, hdata, hstatus⟩ := ho
  refine Mod.each_keeps_of_good (fun m => m.num o i) hg (fun m b h => ?_) (fun m b h hb => ?_)
  · dsimp only
    split
    · exact h
    · split
      · exact Mod.askBuf_good (Mod.setOct_good (Mod.set_good (Mod.set_good (Mod.set_good (Mod.setCanChan_good h ..) ..) ..) ..) ..) _
      · exact h
  · have hbuf : 3 * n + b < 65536 := by
      have : b ≤ 2 := by
        simp only [List.mem_cons, List.not_mem_nil, or_false] at hb
        omega
      omega
    dsimp only
    split
    · rfl
    · split
      · have h0 := Mod.setCanChan_good h n { m.canChan n with queue := ‹_› }
        have h1 := Mod.set_good h0 0x5C2001
        have h2 (a) := Mod.set_good (h1 a (3 * n + b)) 0x5C2002
        have h3 (a c) := Mod.set_good (h2 a c (3 * n + b)) 0x5C2003
        have h4 (a c d e) := Mod.setOct_good (h3 a c d (3 * n + b)) 0x5C2004 e (3 * n + b)
        rw [Mod.askBuf, Mod.num_set_eq (Mod.setCanBuf_good (h4 ..) ..) hbuf hi, if_neg (fun h => hstatus h.1), Mod.num_setCanBuf,
          Mod.num_setOct_eq (h3 ..) hbuf hi hdata, Mod.num_set_eq (h2 ..) hbuf hi, if_neg (fun h => hdlc h.1), Mod.num_set_eq (h1 ..) hbuf hi,
          if_neg (fun h => hflags h.1), Mod.num_set_eq h0 hbuf hi, if_neg (fun h => hid h.1), Mod.num_setCanChan]
      · rfl

/-- The error counts of channel n cleared: error active, both counts 0. -/
def Mod.errorsCleared (m : Mod) (n : Nat) : Mod := ((m.set 0x5C1011 0 n).set 0x5C1013 0 n).set 0x5C1014 0 n

theorem Mod.errorsCleared_good (hg : m.Good) (n : Nat) : (m.errorsCleared n).Good := Mod.set_good (Mod.set_good (Mod.set_good hg ..) ..) ..

theorem Mod.num_errorsCleared (hg : m.Good) {n : Nat} (hn : n < 65536) {o i : Nat} (hi : i < 65536) :
    (m.errorsCleared n).num o i = if (o = 0x5C1011 ∨ o = 0x5C1013 ∨ o = 0x5C1014) ∧ i = n then 0 else m.num o i := by
  have h1 := Mod.set_good hg 0x5C1011 0 n
  rw [Mod.errorsCleared, Mod.num_set_eq (Mod.set_good h1 ..) hn hi, Mod.num_set_eq h1 hn hi, Mod.num_set_eq hg hn hi]
  grind

theorem Mod.leaveBusOff_clears (hg : m.Good) {n : Nat} (hn : n ≤ 191) :
    (m.leaveBusOff n).num 0x5C1011 n = 0 ∧ (m.leaveBusOff n).num 0x5C1013 n = 0 ∧ (m.leaveBusOff n).num 0x5C1014 n = 0 := by
  have hlow : n < 65536 := by omega
  have hraised := Mod.raise_good (Mod.errorsCleared_good hg n) 0x0902 [n, (m.errorsCleared n).k]
  have hleft (o : Nat) (ho : o ≠ 0x5C2001 ∧ o ≠ 0x5C2002 ∧ o ≠ 0x5C2003 ∧ o ≠ 0x5C2004 ∧ o ≠ 0x5C2007) :
      (m.leaveBusOff n).num o n = (m.errorsCleared n).num o n := Mod.num_refill hraised hn hlow ho
  rw [hleft _ (by decide), hleft _ (by decide), hleft _ (by decide)]
  simp [Mod.num_errorsCleared hg hlow hlow]

/-! ## A mode goes through OFF (R426) -/

/-- Buffer i aborted with STATUS 8 where it waits or is being sent. -/
def Mod.bufOff (m : Mod) (i : Nat) : Mod := if m.num 0x5C2007 i = 1 ∨ m.num 0x5C2007 i = 2 then m.set 0x5C2007 8 i else m

theorem Mod.bufOff_good (hg : m.Good) (i : Nat) : (m.bufOff i).Good := by
  unfold Mod.bufOff
  split
  · exact Mod.set_good hg ..
  · exact hg

theorem Mod.bufOff_frame (i : Nat) : (m.bufOff i).bits = m.bits ∧ (m.bufOff i).mem = m.mem ∧ (m.bufOff i).raised = m.raised ∧ (m.bufOff i).dic = m.dic := by
  unfold Mod.bufOff
  split <;> exact ⟨rfl, rfl, rfl, rfl⟩

theorem Mod.bufOff_free (hg : m.Good) (i : Nat) : (m.bufOff i).num 0x5C2007 i ≠ 1 ∧ (m.bufOff i).num 0x5C2007 i ≠ 2 := by
  unfold Mod.bufOff
  split
  case isTrue => simp [Mod.num_set hg.dict]
  case isFalse h => tauto

theorem Mod.num_bufOff (hg : m.Good) {i : Nat} (hi : i < 65536) {o j : Nat} (hj : j < 65536) (h : o ≠ 0x5C2007 ∨ j ≠ i) :
    (m.bufOff i).num o j = m.num o j := by
  unfold Mod.bufOff
  split
  · rw [Mod.num_set_eq hg hi hj, if_neg (by tauto)]
  · rfl

/-- The three buffers of channel n aborted. -/
def Mod.bufsOff (m : Mod) (n : Nat) : Mod := ((m.bufOff (3 * n)).bufOff (3 * n + 1)).bufOff (3 * n + 2)

theorem Mod.bufsOff_good (hg : m.Good) (n : Nat) : (m.bufsOff n).Good := Mod.bufOff_good (Mod.bufOff_good (Mod.bufOff_good hg _) _) _

theorem Mod.bufsOff_frame (n : Nat) :
    (m.bufsOff n).bits = m.bits ∧ (m.bufsOff n).mem = m.mem ∧ (m.bufsOff n).raised = m.raised ∧ (m.bufsOff n).dic = m.dic := by
  obtain ⟨hb0, hm0, hr0, hd0⟩ := Mod.bufOff_frame (m := m) (3 * n)
  obtain ⟨hb1, hm1, hr1, hd1⟩ := Mod.bufOff_frame (m := m.bufOff (3 * n)) (3 * n + 1)
  obtain ⟨hb2, hm2, hr2, hd2⟩ := Mod.bufOff_frame (m := (m.bufOff (3 * n)).bufOff (3 * n + 1)) (3 * n + 2)
  exact ⟨hb2.trans (hb1.trans hb0), hm2.trans (hm1.trans hm0), hr2.trans (hr1.trans hr0), hd2.trans (hd1.trans hd0)⟩

theorem Mod.bufsOff_free (hg : m.Good) {n : Nat} (hn : n ≤ 191) : (m.bufsOff n).num 0x5C2007 (3 * n) ≠ 1 ∧ (m.bufsOff n).num 0x5C2007 (3 * n) ≠ 2 := by
  have h1 := Mod.bufOff_good hg (3 * n)
  have hkept : (m.bufsOff n).num 0x5C2007 (3 * n) = (m.bufOff (3 * n)).num 0x5C2007 (3 * n) := by
    rw [Mod.bufsOff, Mod.num_bufOff (Mod.bufOff_good h1 _) (by omega) (by omega) (.inr (by omega)),
      Mod.num_bufOff h1 (by omega) (by omega) (.inr (by omega))]
  rw [hkept]
  exact Mod.bufOff_free hg (3 * n)

theorem Mod.sdoCut_frame : m.sdoCut.bits = m.bits ∧ m.sdoCut.mem = m.mem ∧ (m.dic.sdo = none → m.sdoCut = m) := by
  unfold Mod.sdoCut
  split
  case h_1 x hx => exact ⟨rfl, rfl, fun h => absurd (h.symm.trans hx) nofun⟩
  case h_2 => exact ⟨rfl, rfl, fun _ => rfl⟩

theorem Mod.num_sdoCut (hg : m.Good) {o : Nat} (ho : o ≠ 0x1F1005) {i : Nat} (hi : i < 65536) : m.sdoCut.num o i = m.num o i := by
  unfold Mod.sdoCut
  split
  · have hclear : ({ m with dic := { m.dic with sdo := none } } : Mod).Good := ⟨hg.dict, hg.mem, hg.held⟩
    exact Mod.num_set_ne (o := 0x1F1005) (i := 0) hclear.dict abCutShort (objKey_ne (j := 0) hi (by omega) (.inl ho))
  · rfl

theorem Mod.oct_sdoCut (hg : m.Good) {o : Nat} (ho : o ≠ 0x1F1005) {i : Nat} (hi : i < 65536) : m.sdoCut.oct o i = m.oct o i := by
  unfold Mod.sdoCut
  split
  · have hclear : ({ m with dic := { m.dic with sdo := none } } : Mod).Good := ⟨hg.dict, hg.mem, hg.held⟩
    exact Mod.oct_set_ne (o := 0x1F1005) (i := 0) hclear.dict abCutShort (objKey_ne (j := 0) hi (by omega) (.inl ho))
  · rfl

/-- Channel n as OFF leaves it: no buffer waits, no error counts, nothing received. -/
def Mod.channelOff (m : Mod) (n : Nat) : Mod := ((((m.bufsOff n).errorsCleared n).setCanChan n {}).setOct 0x5C3001 [] n).set 0x5C3002 0 n

/-- The SDO transfer on channel n cut short. -/
def Mod.cutOn (m : Mod) (n : Nat) : Mod := if m.sdoChannel = n then m.sdoCut else m

theorem canModeWrite_eq {n v : Nat} (hn : n ≤ 191) (hv : v ≤ 3) (htt : v = 3 → n ≤ 7) (p : Path) :
    canModeWrite p n v m = (((m.channelOff n).cutOn n).set 0x5C1001 v n).report p 0 := by
  rw [canModeWrite, if_neg (by omega), if_neg (by omega)]
  rfl

theorem Mod.cutOn_good (hg : m.Good) (n : Nat) : (m.cutOn n).Good := by
  unfold Mod.cutOn
  split
  · exact Mod.sdoCut_good hg
  · exact hg

theorem Mod.cutOn_frame (n : Nat) : (m.cutOn n).bits = m.bits ∧ (m.cutOn n).mem = m.mem := by
  unfold Mod.cutOn
  split
  · obtain ⟨hbits, hmem, -⟩ := Mod.sdoCut_frame (m := m)
    exact ⟨hbits, hmem⟩
  · exact ⟨rfl, rfl⟩

/-- No transfer is cut where none is in progress on the channel. -/
theorem Mod.cutOn_idle {n : Nat} (h : m.dic.sdo = none ∨ m.sdoChannel ≠ n) : m.cutOn n = m := by
  unfold Mod.cutOn
  split
  case isTrue hchan => exact Mod.sdoCut_frame.2.2 (h.resolve_right (not_not_intro hchan))
  case isFalse => rfl

theorem Mod.num_cutOn (hg : m.Good) (n : Nat) {o : Nat} (ho : o ≠ 0x1F1005) {i : Nat} (hi : i < 65536) : (m.cutOn n).num o i = m.num o i := by
  unfold Mod.cutOn
  split
  · exact Mod.num_sdoCut hg ho hi
  · rfl

theorem Mod.oct_cutOn (hg : m.Good) (n : Nat) {o : Nat} (ho : o ≠ 0x1F1005) {i : Nat} (hi : i < 65536) : (m.cutOn n).oct o i = m.oct o i := by
  unfold Mod.cutOn
  split
  · exact Mod.oct_sdoCut hg ho hi
  · rfl

section
variable (hg : m.Good) {n : Nat} (hn : n ≤ 191)
include hg

theorem Mod.channelOff_good (n : Nat) : (m.channelOff n).Good :=
  Mod.set_good (Mod.setOct_good (Mod.setCanChan_good (Mod.errorsCleared_good (Mod.bufsOff_good hg n) n) ..) ..) ..

include hn

theorem Mod.num_channelOff {o i : Nat} (hi : i < 65536) (ho : o ≠ 0x5C3001) : (m.channelOff n).num o i =
    if (o = 0x5C3002 ∨ o = 0x5C1011 ∨ o = 0x5C1013 ∨ o = 0x5C1014) ∧ i = n then 0 else (m.bufsOff n).num o i := by
  have hlow : n < 65536 := by omega
  have herrors := Mod.setCanChan_good (Mod.errorsCleared_good (Mod.bufsOff_good hg n) n) n {}
  rw [Mod.channelOff, Mod.num_set_eq (Mod.setOct_good herrors ..) hlow hi, Mod.num_setOct_eq herrors hlow hi ho, Mod.num_setCanChan,
    Mod.num_errorsCleared (Mod.bufsOff_good hg n) hlow hi]
  grind

theorem Mod.oct_channelOff : (m.channelOff n).oct 0x5C3001 n = [] := by
  have hlow : n < 65536 := by omega
  have herrors := Mod.setCanChan_good (Mod.errorsCleared_good (Mod.bufsOff_good hg n) n) n {}
  rw [Mod.channelOff, Mod.oct_set_eq (Mod.setOct_good herrors ..) hlow hlow (by decide), Mod.oct_setOct herrors.dict]

end

theorem Mod.channelOff_frame (n : Nat) : (m.channelOff n).bits = m.bits ∧ (m.channelOff n).mem = m.mem ∧ (m.channelOff n).raised = m.raised ∧
    (m.channelOff n).dic = m.dic := Mod.bufsOff_frame n

/-- An idle server stays idle through OFF, and one on another channel stays there. -/
theorem Mod.channelOff_idle {n : Nat} (h : m.dic.sdo = none ∨ m.sdoChannel ≠ n) :
    (m.channelOff n).dic.sdo = none ∨ (m.channelOff n).sdoChannel ≠ n := by
  obtain ⟨-, -, -, hdic⟩ := Mod.channelOff_frame (m := m) n
  cases hsdo : m.dic.sdo with
  | none => exact .inl (by rw [hdic, hsdo])
  | some x =>
    refine .inr ?_
    have hchan := h.resolve_left (by simp [hsdo])
    simpa only [Mod.sdoChannel, hdic, hsdo] using hchan

section
variable (hg : m.Good) {n v : Nat} (hn : n ≤ 191) (hv : v ≤ 3) (htt : v = 3 → n ≤ 7) (p : Path)
include hn hv htt

theorem canModeWrite_frame : (canModeWrite p n v m).bits = m.bits ∧ (canModeWrite p n v m).mem = m.mem ∧
    (m.dic.sdo = none ∨ m.sdoChannel ≠ n → (canModeWrite p n v m).raised = m.raised) := by
  obtain ⟨hbits, hmem, hraised, -⟩ := Mod.channelOff_frame (m := m) n
  obtain ⟨hcutBits, hcutMem⟩ := Mod.cutOn_frame (m := m.channelOff n) n
  rw [canModeWrite_eq hn hv htt]
  refine ⟨hcutBits.trans hbits, hcutMem.trans hmem, fun hidle => ?_⟩
  rw [Mod.cutOn_idle (Mod.channelOff_idle hidle)]
  exact hraised

include hg

/-- What a mode written leaves of the channel's numbers. -/
theorem num_canModeWrite {o i : Nat} (hi : i < 65536) (ho : o ≠ 0x5C3001 ∧ o ≠ 0x1F1005) : (canModeWrite p n v m).num o i =
    if o = 0x5C1001 ∧ i = n then v else if (o = 0x5C3002 ∨ o = 0x5C1011 ∨ o = 0x5C1013 ∨ o = 0x5C1014) ∧ i = n then 0 else (m.bufsOff n).num o i := by
  have hoff := Mod.channelOff_good hg n
  rw [canModeWrite_eq hn hv htt, Mod.report_num, Mod.num_set_eq (Mod.cutOn_good hoff n) (by omega) hi, Mod.num_cutOn hoff n ho.2 hi,
    Mod.num_channelOff hg hn hi ho.1]

theorem oct_canModeWrite : (canModeWrite p n v m).oct 0x5C3001 n = [] := by
  have hlow : n < 65536 := by omega
  have hoff := Mod.channelOff_good hg n
  rw [canModeWrite_eq hn hv htt, Mod.report_oct, Mod.oct_set_eq (Mod.cutOn_good hoff n) hlow hlow (by decide), Mod.oct_cutOn hoff n (by decide) hlow,
    Mod.oct_channelOff hg hn]

theorem canModeWrite_free : (canModeWrite p n v m).num 0x5C2007 (3 * n) ≠ 1 ∧ (canModeWrite p n v m).num 0x5C2007 (3 * n) ≠ 2 := by
  have hbuf : (canModeWrite p n v m).num 0x5C2007 (3 * n) = (m.bufsOff n).num 0x5C2007 (3 * n) := by
    rw [num_canModeWrite hg hn hv htt p (by omega) (by decide), if_neg (by simp), if_neg (by simp)]
  rw [hbuf]
  exact Mod.bufsOff_free hg hn

theorem canModeWrite_resets : (canModeWrite p n v m).num 0x5C1001 n = v ∧ (canModeWrite p n v m).num 0x5C1011 n = 0 ∧
    (canModeWrite p n v m).num 0x5C1013 n = 0 ∧ (canModeWrite p n v m).num 0x5C1014 n = 0 ∧ (canModeWrite p n v m).num 0x5C3002 n = 0 := by
  have hnum {o : Nat} (ho : o ≠ 0x5C3001 ∧ o ≠ 0x1F1005) := num_canModeWrite hg hn hv htt p (i := n) (by omega) ho
  and_intros
  · rw [hnum (by decide), if_pos ⟨rfl, rfl⟩]
  all_goals rw [hnum (by decide), if_neg (by simp), if_pos (by simp)]

end

/-! ## What software asks of a channel (R424, R428, R430, R432) -/

section
variable {n : Nat} (hn : n ≤ 191) (hoff : m.busOff n = true)
include hn hoff

theorem busoffAutoRecovery_recovers (hauto : m.on 0x5C100C n = true) (now : Nat) : busoffAutoRecovery n now m = (m.leaveBusOff n).contend n now := by
  rw [busoffAutoRecovery, if_neg (by simp [hoff, hauto, hn])]

theorem canRecover_recovers (hsoft : m.on 0x5C100C n = false) (p : Path) (now : Nat) :
    canRecover p n 1 now m = ((m.leaveBusOff n).contend n now).report p 0 := by
  rw [canRecover, if_neg (by omega), if_neg (by simp), Mod.served, if_pos (by simp [hoff, hsoft])]

end

section
variable (p : Path) {i : Nat} (hi : i ≤ 575)
include hi

theorem canTxRequest_asks {idle : Bool} {b : Mod}
    (hb : b = m.setCanChan (i / 3) { m.canChan (i / 3) with busy := !idle && (m.canChan (i / 3)).sending.isNone }) (hsource : b.num 0x5C2005 i = 0)
    (hwaits : b.num 0x5C2007 i ≠ 1) (hsent : b.num 0x5C2007 i ≠ 2) (now : Nat) :
    canTxRequest p i now idle m = (((b.setCanBuf i {}).set 0x5C2007 1 i).contend (i / 3) now).report p 0 := by
  subst hb
  rw [canTxRequest, if_neg (by omega), Mod.served]
  simp only
  rw [if_neg (by tauto), Mod.askBuf]

theorem canTxAbort_pending (hst : m.num 0x5C2007 i = 1) : canTxAbort p i m = ((m.set 0x5C2007 6 i).refill (i / 3)).report p 0 := by
  rw [canTxAbort, if_neg (by omega), Mod.served, if_pos hst]
  rfl

theorem canTxAbort_sending (hst : m.num 0x5C2007 i = 2) : canTxAbort p i m = (m.setCanBuf i { m.canBuf i with abort := true }).report p 0 := by
  rw [canTxAbort, if_neg (by omega), Mod.served, if_neg (by omega), if_pos hst]

end

theorem canFifoRead_oldest {n : Nat} (hn : n ≤ 191) {r : List Byte} {l : List (List Byte)} (hfifo : (m.canChan n).fifo = r :: l) (p : Path) :
    canFifoRead p n m = (((m.emit (.data r)).setCanChan n { m.canChan n with
      fifo := l, overrun := (m.canChan n).overrun && !l.isEmpty }).fifoSync n).report p 0 := by
  rw [canFifoRead, if_neg (by omega)]
  simp only [hfifo, List.headD_cons, List.drop_one, List.tail_cons]

/-! ## The tunnel (R442) -/

theorem tunnelWaitExpiry_empty (h : m.can.batch = []) (now : Nat) : tunnelWaitExpiry now m = m := by
  rw [tunnelWaitExpiry, Mod.sendTunnel, if_pos (by simp [h])]

theorem tunnelFrameRx_malformed {bs : List Byte} {e : Nat} (h : tunnelParse (bs.drop (if hasTag 0x8100 bs then 18 else 14)) = .error e) (now : Nat) :
    tunnelFrameRx bs now m = (m.bump 0x5C0009).raise 0x0906 [beNat (slice bs 6 6), Config.eventField 0x0906 e] := by
  rw [tunnelFrameRx, h]

theorem tunnelParse_version {b : List Byte} (h : field b 0 1 ≠ 1) : tunnelParse b = .error 1 := if_pos h

theorem tunnelParse_no_record {b : List Byte} (hversion : field b 0 1 = 1) (hnone : field b 1 1 = 0) : tunnelParse b = .error 2 := by
  rw [tunnelParse, if_neg (not_not_intro hversion), if_pos hnone]

/-! ## Frames received and sent (R424, R430, R432) -/

theorem canFrameRx_good_frame {n : Nat} {f : CanFrame} {a b : Mod} (hn : n ≤ 191) (hmode : m.canMode n ≠ 0) (hoff : m.busOff n = false)
    (ha : a = if m.canDrives n then m.emit (.canAck n) else m)
    (hb : b = ((a.setCanChan n { m.canChan n with busy := false }).bump 0x5C1015 n).rxCountDown n) (sof now : Nat) :
    canFrameRx n f sof now m = (if (b.dropRef n (b.isRef n f)).sdoConsumes n f then b.dropRef n (b.isRef n f)
      else (b.dropRef n (b.isRef n f)).offerFrame n f sof now).contend n now := by
  have hchan : a.canChan n = m.canChan n := by
    rw [ha]
    split <;> rfl
  rw [canFrameRx, if_neg (by simp [hmode, hoff, hn]), hb, ← hchan, ha]

theorem canFrameRx_deaf {n : Nat} (h : m.canMode n = 0 ∨ m.busOff n = true) (f : CanFrame) (sof now : Nat) : canFrameRx n f sof now m = m := if_pos (.inr h)

theorem canRxError_active {n : Nat} (hn : n ≤ 191) (hmode : m.canMode n = 1) (hoff : m.busOff n = false) (hidle : (m.canChan n).sending = none)
    (by8 : Bool) (now : Nat) : canRxError n by8 now m =
      ((((m.setCanChan n { m.canChan n with busy := false, refLost := false }).bump 0x5C1014 n (if by8 then 8 else 1)).errState n).emit
        (.canError n)).contend n now := by
  have hmode' : (m.setCanChan n { m.canChan n with busy := false, refLost := false }).canMode n = 1 := hmode
  rw [canRxError, if_neg (by simp [hmode, hoff, hidle, hn])]
  simp only
  rw [if_neg (by rw [hmode']; decide)]

section
variable {n : Nat}

theorem canTxSuccess_buffer {b : Nat} {x : Mod} (hsend : (m.canChan n).sending = some (.buf b))
    (hx : x = (m.setCanChan n { m.canChan n with sending := none }).bump 0x5C1016 n) (now : Nat) :
    canTxSuccess n now m = ((((x.set 0x5C1013 (x.num 0x5C1013 n - 1) n).errState n).set 0x5C2007 3 (3 * n + b)).refill n).contend n now := by
  rw [canTxSuccess, hsend, hx]

theorem canArbLoss_buffer {b : Nat} {x : Mod} (hsend : (m.canChan n).sending = some (.buf b))
    (hx : x = (m.setCanChan n { m.canChan n with sending := none, busy := true, refLost := false }).setCanBuf (3 * n + b)
      { m.canBuf (3 * n + b) with losses := (m.canBuf (3 * n + b)).losses + 1 }) :
    canArbLoss n m = x.retryBuf n (3 * n + b) (x.num 0x5C100F n != 0 && decide (x.num 0x5C100F n ≤ (m.canBuf (3 * n + b)).losses + 1)) 4 := by
  rw [canArbLoss, hsend, hx]
  rfl

theorem canTxError_exclusive {j : Nat} {x : Mod} (hsend : (m.canChan n).sending = some (.excl j))
    (hx : x = ((m.setCanChan n { m.canChan n with sending := none }).emit (.canError n)).loseWindow n j) (hover : 255 < x.num 0x5C1013 n + 8) (now : Nat) :
    canTxError n true now m = (x.set 0x5C1013 255 n).enterBusOff n := by
  subst hx
  rw [canTxError, hsend]
  simp only [if_true, if_pos hover, Nat.min_eq_right hover.le]

section
variable (hidle : (m.canChan n).sending = none)
include hidle

theorem canTxSuccess_idle (now : Nat) : canTxSuccess n now m = m := by rw [canTxSuccess, hidle]

theorem canArbLoss_idle : canArbLoss n m = m := by rw [canArbLoss, hidle]

theorem canTxError_idle (c : Bool) (now : Nat) : canTxError n c now m = m := by rw [canTxError, hidle]

end

theorem Mod.retryBuf_again {i : Nat} (h : (m.canBuf i).abort = false) (st : Nat) : m.retryBuf n i false st = m.set 0x5C2007 1 i := by
  rw [Mod.retryBuf, if_neg (by simp [h]), if_neg (by simp)]

/-! ## Time-triggered channels (R433 to R438) -/

theorem Mod.loseWaiting_none (h : (m.canChan n).excl = none) : m.loseWaiting n = m := by rw [Mod.loseWaiting, h]

theorem ttCycleStart_other_mode (hmode : m.canMode n ≠ 3) (now : Nat) : ttCycleStart n now m = m := if_pos (.inr (.inl hmode))

theorem ttCycleStart_out_of_place (h : m.inPhase .P = false ∨ 7 < n) (now : Nat) : ttCycleStart n now m = m := by
  refine if_pos (h.elim (fun hphase => .inr (.inr (.inl ?_))) .inl)
  simp [hphase]

/-- The settings of channel n take effect in a basic cycle, which begins. -/
def Mod.cycleBegun (m : Mod) (n now : Nat) : Mod :=
  let r := m.ttSettings n
  ((m.setCanChan n { m.canChan n with run := some r, cycleAt := m.tb now, arb := (0, 0), ref := none, refLost := false }).set 0x5E0006
    (m.k / r.cycleTicks % r.cycles) n).bump 0x5E000A n (m.triad.armedCan.filter (fun o => o / 256 == n && (columnOf r.columns (o % 256)).2.2 != 1)).length

/-- The ticks of a cycle: those of the settings in force, or before the first cycle those of the objects. -/
def Mod.CycleOf (m : Mod) (n ct : Nat) : Prop :=
  ((m.canChan n).run = none ∧ ct = m.num 0x5E0001 n) ∨ ∃ x : TtRun, (m.canChan n).run = some x ∧ ct = x.cycleTicks

theorem ttCycleStart_begins {ct : Nat} (hn : n ≤ 7) (hmode : m.canMode n = 3) (hphase : m.inPhase .P = true) (hct : m.CycleOf n ct)
    (hdue : m.k % ct = 0) (hexcl : (m.canChan n).excl = none) (now : Nat) : ttCycleStart n now m =
      if ((m.cycleBegun n now).isMember ∨ (m.cycleBegun n now).mstate = msStandalone) ∧ !(m.cycleBegun n now).busOff n then
        ((m.cycleBegun n now).setCanChan n { (m.cycleBegun n now).canChan n with
          ref := some ((m.cycleBegun n now).refFrame n (m.k / (m.ttSettings n).cycleTicks % (m.ttSettings n).cycles)) }).contend n now
      else m.cycleBegun n now := by
  have hplace : ¬ (7 < n ∨ m.canMode n ≠ 3 ∨ !m.inPhase .P ∨ m.k % ct ≠ 0) := by simp [hn, hmode, hphase, hdue]
  rcases hct with ⟨hrun, rfl⟩ | ⟨x, hrun, rfl⟩ <;>
  · rw [ttCycleStart]
    simp only [hrun, if_neg hplace, Mod.loseWaiting_none hexcl]
    rfl

section
variable {j st len ty : Nat} {r : TtRun} (hn : n ≤ 7) (hj : j ≤ 31) (hmode : m.canMode n = 3) (hrun : (m.canChan n).run = some r)
  (hexcl : (m.canChan n).excl = none)
include hn hj hmode hrun hexcl

theorem ttWindowStart_arbitrating (hcol : columnOf r.columns j = (st, len, 2)) (now : Nat) : ttWindowStart n j now m =
    (m.setCanChan n { m.canChan n with arb := ((m.canChan n).cycleAt + st, (m.canChan n).cycleAt + st + len) }).contend n now := by
  have hplace : ¬ (7 < n ∨ 31 < j ∨ m.canMode n ≠ 3) := by omega
  simp only [ttWindowStart, hrun, if_neg hplace, Mod.loseWaiting_none hexcl, hcol, if_true]

section
variable (hcol : columnOf r.columns j = (st, len, 1)) (hnamed : m.triad.armedCan.contains (256 * n + j) = true)
include hcol

include hnamed in
theorem ttWindowStart_exclusive {bits : Table Nat} (hvalid : bit (matrixAt r.matrix (m.num 0x5E0006 n) j) 15 = true) (hbits : m.windowBits = some bits)
    (now : Nat) : ttWindowStart n j now m =
      m.openExclusive n j ((m.canChan n).cycleAt + st + len) now (m.outMessage (matrixAt r.matrix (m.num 0x5E0006 n) j % 512) bits) := by
  have hplace : ¬ (7 < n ∨ 31 < j ∨ m.canMode n ≠ 3) := by omega
  simp only [ttWindowStart, hrun, if_neg hplace, Mod.loseWaiting_none hexcl, hcol, hnamed, hvalid, hbits, and_self, if_true, if_neg (show ¬ 1 = 2 by decide)]

theorem ttWindowStart_unused (hempty : bit (matrixAt r.matrix (m.num 0x5E0006 n) j) 15 = false) (now : Nat) : ttWindowStart n j now m = m := by
  have hplace : ¬ (7 < n ∨ 31 < j ∨ m.canMode n ≠ 3) := by omega
  simp [ttWindowStart, hrun, hplace, Mod.loseWaiting_none hexcl, hcol, hempty]

end

end

theorem ttWindowStart_no_cycle (hrun : (m.canChan n).run = none) (j now : Nat) : ttWindowStart n j now m = m := by rw [ttWindowStart, hrun]

end

end

/-- Settles O55: a lemma above for each way a command of a CAN channel can go. -/
theorem canChannels : Obligations.CanChannels := by
  unfold Obligations.CanChannels
  refine ⟨?recovery, ?noRecovery, ?cleared, ?recover, ?mode, ?badMode, ?request, ?abort, ?abortSending, ?fifo, ?emptyBatch, ?batch, ?malformed, ?parse, ?frame,
    ?deaf, ?rxError, ?sent, ?nothingSent, ?arbLoss, ?txError, ?again, ?otherMode, ?cycle, ?noCycle, ?arbitrating, ?exclusive, ?noRun⟩
  case recovery => exact fun s n now hr hn hoff hauto => next_awake hr (busoffAutoRecovery_recovers hn hoff hauto now)
  case noRecovery => exact fun s n now hoff => next_awake_self (if_pos (.inr (.inl (by simp [hoff]))))
  case cleared => exact fun m n hg hn => Mod.leaveBusOff_clears hg hn
  case recover => exact fun s p n now hs hn hoff hsoft => next_gate hs (canRecover_recovers hn hoff hsoft p now)
  case mode =>
    intro s p n v hs hg hn hv htt
    obtain ⟨hmode, herr, htec, hrec, hcount⟩ := canModeWrite_resets hg hn hv htt p
    obtain ⟨hpending, hsending⟩ := canModeWrite_free hg hn hv htt p
    exact ⟨_, next_gate hs rfl, hmode, herr, htec, hrec, oct_canModeWrite hg hn hv htt p, hcount, hpending, hsending, canModeWrite_frame hn hv htt p⟩
  case badMode =>
    intro s p n v hs hn hv
    refine next_gate hs ?_
    rw [canModeWrite, if_neg (by omega), if_pos hv, abValue]
  case request => exact fun s p i now idle m hs hi hm hsource hwaits hsent => next_gate hs (canTxRequest_asks p hi hm hsource hwaits hsent now)
  case abort => exact fun s p i hs hi hst => next_gate hs (canTxAbort_pending p hi hst)
  case abortSending => exact fun s p i hs hi hst => next_gate hs (canTxAbort_sending p hi hst)
  case fifo => exact fun s p n r l hs hn hfifo => next_access hs (canFifoRead_oldest hn hfifo p)
  case emptyBatch => exact fun s now h => next_awake_self (tunnelWaitExpiry_empty h now)
  case batch => exact fun s now hr => next_awake hr rfl
  case malformed => exact fun s bs now e hr h => next_awake hr (tunnelFrameRx_malformed h now)
  case parse => exact fun b => ⟨tunnelParse_version, tunnelParse_no_record⟩
  case frame => exact fun s n sof now f a m hr hn hmode hoff ha hm => next_awake hr (canFrameRx_good_frame hn hmode hoff ha hm sof now)
  case deaf => exact fun s n sof now f h => next_awake_self (canFrameRx_deaf h f sof now)
  case rxError => exact fun s n now b hr hn hmode hoff hidle => next_awake hr (canRxError_active hn hmode hoff hidle b now)
  case sent => exact fun s n now b m hr hsend hm => next_awake hr (canTxSuccess_buffer hsend hm now)
  case nothingSent =>
    exact fun s n now c hidle => ⟨next_awake_self (canTxSuccess_idle hidle now), next_awake_self (canArbLoss_idle hidle),
      next_awake_self (canTxError_idle hidle c now)⟩
  case arbLoss => exact fun s n b m hr hsend hm => next_awake hr (canArbLoss_buffer hsend hm)
  case txError => exact fun s n now j m hr hsend hm hover => next_awake hr (canTxError_exclusive hsend hm hover now)
  case again => exact fun m i n st h => Mod.retryBuf_again h st
  case otherMode => exact fun s n now hr hmode => next_awake_self (ttCycleStart_other_mode hmode now)
  case cycle =>
    rintro s n now c ct m r hr hn hmode hphase hct hdue hexcl rfl rfl rfl
    have hbegins := ttCycleStart_begins hn hmode hphase hct hdue hexcl now
    refine ⟨fun hsends hon => next_awake hr (hbegins.trans (if_pos ?_)), fun hsilent => next_awake hr (hbegins.trans (if_neg ?_))⟩
    · exact ⟨hsends, Bool.not_eq_true' _ ▸ hon⟩
    · rintro ⟨hsends, hon⟩
      rcases hsilent with ⟨hmem, hst⟩ | hoff
      · exact hsends.elim (fun h => absurd (hmem.symm.trans h) nofun) hst
      · rw [Mod.cycleBegun, hoff] at hon
        cases hon
  case noCycle => exact fun s n now h => next_awake_self (ttCycleStart_out_of_place h now)
  case arbitrating => exact fun s n j now st len r hr hn hj hmode hrun hexcl hcol => next_awake hr (ttWindowStart_arbitrating hn hj hmode hrun hexcl hcol now)
  case exclusive =>
    rintro s n j now st len e r bits hr hn hj hmode hrun hexcl hcol hnamed rfl
    exact ⟨fun hvalid hbits => next_awake hr (ttWindowStart_exclusive hn hj hmode hrun hexcl hcol hnamed hvalid hbits now),
      fun hempty => next_awake_self (ttWindowStart_unused hn hj hmode hrun hexcl hcol hempty now)⟩
  case noRun => exact fun s n j now hrun => next_awake_self (ttWindowStart_no_cycle hrun j now)

end Sys2Proof.Machine
end

section
namespace Sys2Proof.Machine

/-! ## Fingerprints (R489) -/

section
variable {m : Mod}

/-- A warning writes no object. -/
theorem Mod.num_warnKey (i o j : Nat) : (m.warnKey i).num o j = m.num o j := by
  unfold Mod.warnKey
  split <;> rfl

theorem Mod.withKeys_good (hg : m.Good) (k : KeysSt) : ({ m with keys := k } : Mod).Good := ⟨hg.dict, hg.mem, hg.held⟩

/-- A key loaded ends with the objects of its slot, set in a sound module, and event 0x0A02. -/
theorem Mod.loadKey_ends (hg : m.Good) (i st : Nat) (key : List Byte) : ∃ (n : Mod) (state inv : Nat), n.Good ∧ m.loadKey i st key =
    ((((((n.set 0x642001 state i).set 0x642002 (m.num 0x641003) i).set 0x642003 (beNat ((keyPrint key).take 4)) i).set 0x642004 (n.num 0x641004) i).set
      0x642005 inv i).raise 0x0A02 [i, m.num 0x641003, beNat ((keyPrint key).take 4)]).warnKey i := by
  have hslot (x : KeySlot) := Mod.setKeySlot_good (Mod.maskKey_good hg key) i x
  exact ⟨_, _, _, Mod.withKeys_good (good_ite (Mod.setCeiling_good (hslot _) ..) (hslot _)) _, rfl⟩

/-- KCV is the first half of the fingerprint. -/
theorem Mod.num_loadKey (hg : m.Good) (i st : Nat) (key : List Byte) : (m.loadKey i st key).num 0x642003 i = beNat ((keyPrint key).take 4) := by
  obtain ⟨n, state, inv, hn, hload⟩ := Mod.loadKey_ends hg i st key
  have husage := Mod.set_good (Mod.set_good hn 0x642001 state i) 0x642002 (m.num 0x641003) i
  have hkcv := Mod.set_good husage 0x642003 (beNat ((keyPrint key).take 4)) i
  rw [hload, Mod.num_warnKey, Mod.raise_num, Mod.num_set_ne (Mod.set_good hkcv ..).dict _ (objKey_ne_same (by decide) i),
    Mod.num_set_ne hkcv.dict _ (objKey_ne_same (by decide) i), Mod.num_set husage.dict]

theorem getD_keyPrint (key : List Byte) {j : Nat} (hj : j < 8) :
    (keyPrint key).getD j 0 = (Config.hmac key ("KUNATH-KFP".toList.map (fun ch => BitVec.ofNat 8 ch.toNat))).getD j 0 := by
  have htext : "KUNATH-KFP".toList.map (fun ch => BitVec.ofNat 8 ch.toNat) = [0x4B, 0x55, 0x4E, 0x41, 0x54, 0x48, 0x2D, 0x4B, 0x46, 0x50] := by decide
  rw [htext, keyPrint, slice_eq_map]
  simp [hj]

/-- Settles O13: a fingerprint is the start of its HMAC, and the objects set after KCV leave it. -/
theorem keyFingerprints : Obligations.KeyFingerprints := by
  unfold Obligations.KeyFingerprints
  exact ⟨fun key => ⟨length_slice .., fun _ hj => getD_keyPrint key hj⟩, fun m i st key hg _ => Mod.num_loadKey hg i st key⟩

end
end Sys2Proof.Machine
end

section
namespace Sys2Proof.Machine

/-! ## Commands on key slots (R484 to R491) -/

section
variable {m : Mod}

/-- The end of a key command of the supervisor: KEY_VALUE zeroised, KEY_RESULT. -/
def Mod.keyDone (m : Mod) (r : Nat) : Mod := (({ m with keys := { m.keys with value := none } } : Mod).set 0x64100B r).report .supervisor 0

theorem Mod.keyCommand_supervisor {f : Nat → Mod → Nat × Mod} {r : Nat} {n : Mod} (h : f (m.num 0x641001) m = (r, n)) :
    m.keyCommand .supervisor true f = n.keyDone r := by
  rw [Mod.keyCommand, if_neg (by decide), h]
  rfl

/-- Outside M mode a key command is refused. -/
theorem Mod.keyCommand_unprivileged (p : Path) (f : Nat → Mod → Nat × Mod) : m.keyCommand p false f = (m.set 0x64100B 4).report p 0x06010000 := if_pos rfl

section
variable (hused : m.num 0x642001 (m.num 0x641001) ≠ 0)
include hused

theorem keyInstall_used : keyInstall .supervisor true m = m.keyDone 2 := Mod.keyCommand_supervisor (if_pos hused)

theorem keyDerive_used : keyDerive .supervisor true m = m.keyDone 2 := Mod.keyCommand_supervisor (if_pos hused)

end

section
variable (hempty : m.num 0x642001 (m.num 0x641001) = 0)
include hempty

theorem keyInstall_installs {k : List Byte} (hvalue : m.keys.value = some k) (hfits : lengthFits (m.num 0x641003) k.length = true)
    (hdrbg : m.drbgReady = true) : keyInstall .supervisor true m = (m.loadKey (m.num 0x641001) 1 k).keyDone 1 := by
  refine Mod.keyCommand_supervisor ?_
  simp [hempty, hvalue, hfits, hdrbg]

/-- A KDF key derived from the root of the life-cycle state. -/
theorem keyDerive_root (husage : m.num 0x641003 = kuKdf) (hsource : m.num 0x641007 = 0x200) (hslot : m.num 0x641001 < 512) (hroot : m.visibleRoot ≠ [])
    (hlabel : m.oct 0x641008 ≠ []) (hdrbg : m.drbgReady = true) :
    keyDerive .supervisor true m = (m.loadKey (m.num 0x641001) 2 (kdf m.visibleRoot (m.oct 0x641008) (m.oct 0x641009))).keyDone 1 := by
  have hother : ¬ 0x200 = m.num 0x641001 := by omega
  refine Mod.keyCommand_supervisor ?_
  simp only [hempty, husage, hsource, if_true]
  rw [if_neg (by simp), if_neg (by simp [hother, hroot, hlabel]), if_neg (by simp [hdrbg])]

end

theorem keyDestroy_destroys {i : Nat} {n : Mod} (hi : i = m.num 0x641001) (hn : n = (m.zeroSlot i).raise 0x0A03 [i, m.num 0x642003 i])
    (hdtp : n.num 0x1F3002 ≠ i) : keyDestroy .supervisor true m = n.keyDone 1 := by
  subst hi hn
  refine Mod.keyCommand_supervisor ?_
  dsimp only
  rw [if_neg hdtp]

/-- The shares of slot i gone, its objects still to be cleared. -/
def Mod.sharesGone (m : Mod) (i : Nat) : Mod :=
  { m with keys := { m.keys with slots := Table.del m.keys.slots i, warned := Table.del m.keys.warned i } }

theorem Mod.zeroSlot_eq (i : Nat) : m.zeroSlot i =
    (((((m.sharesGone i).set 0x642001 0 i).set 0x642002 0 i).set 0x642003 0 i).set 0x642004 0 i).set 0x642005 0 i := by
  rw [Mod.zeroSlot, Mod.setKeySlot, Table.set, if_pos rfl]
  rfl

theorem Mod.num_zeroSlot (hg : m.Good) (i : Nat) : (m.zeroSlot i).num 0x642001 i = 0 ∧ (m.zeroSlot i).num 0x642002 i = 0 ∧
    (m.zeroSlot i).num 0x642003 i = 0 ∧ (m.zeroSlot i).num 0x642005 i = 0 := by
  have h0 : (m.sharesGone i).Good := ⟨hg.dict, hg.mem, hg.held⟩
  have h1 := Mod.set_good h0 0x642001 0 i
  have h2 := Mod.set_good h1 0x642002 0 i
  have h3 := Mod.set_good h2 0x642003 0 i
  have h4 := Mod.set_good h3 0x642004 0 i
  have hpast {o : Nat} (h : o ≠ 0x642005) := Mod.num_set_ne h4.dict (j := i) 0 (objKey_ne_same h i)
  have hid {o : Nat} (h : o ≠ 0x642004) := Mod.num_set_ne h3.dict (j := i) 0 (objKey_ne_same h i)
  have hkcv {o : Nat} (h : o ≠ 0x642003) := Mod.num_set_ne h2.dict (j := i) 0 (objKey_ne_same h i)
  have husage {o : Nat} (h : o ≠ 0x642002) := Mod.num_set_ne h1.dict (j := i) 0 (objKey_ne_same h i)
  rw [Mod.zeroSlot_eq]
  refine ⟨?_, ?_, ?_, Mod.num_set h4.dict ..⟩
  · rw [hpast (by decide), hid (by decide), hkcv (by decide), husage (by decide), Mod.num_set h0.dict]
  · rw [hpast (by decide), hid (by decide), hkcv (by decide), Mod.num_set h1.dict]
  · rw [hpast (by decide), hid (by decide), Mod.num_set h2.dict]

theorem Mod.zeroSlot_frame (i : Nat) :
    (m.zeroSlot i).keys.slots = Table.del m.keys.slots i ∧ (m.zeroSlot i).mem = m.mem ∧ (m.zeroSlot i).raised = m.raised := by
  rw [Mod.zeroSlot_eq]
  exact ⟨rfl, rfl, rfl⟩

theorem keyRemask_nothing {i : Nat} (h : m.num 0x642001 i = 0 ∨ m.drbgReady = false) : keyRemask i m = m := if_pos (h.imp_right fun h => by simp [h])

/-- Both shares take what the fresh mask changes in the first. -/
theorem keyRemask_fresh {i : Nat} {k : List Byte} {n : Mod} (hused : m.num 0x642001 i ≠ 0) (hdrbg : m.drbgReady = true)
    (hdraw : m.drawOctets (m.keySlot i).shareA.length = (k, n)) : keyRemask i m = n.setKeySlot i { m.keySlot i with
      shareA := k, shareB := List.zipWith (· ^^^ ·) (m.keySlot i).shareB (List.zipWith (· ^^^ ·) (m.keySlot i).shareA k) } := by
  rw [keyRemask, if_neg (by simp [hused, hdrbg])]
  simp only [hdraw]

/-! ## Fuses, random numbers and debug (R482, R497, R498, R502, R503) -/

section
variable {b : List Byte} (hlen : b.length = 48)
include hlen

theorem okHashWrite_blows (hlc : m.lcState = lcProvisioned) (hunset : m.nv.fuses.okHash = []) : okHashWrite .supervisor true b m =
    ({ m with nv := { m.nv with fuses := { m.nv.fuses with okHash := b } } } : Mod).report .supervisor 0 := by
  rw [okHashWrite, if_neg (by decide), if_neg (by omega), if_neg (by simp [hlc, hunset])]

theorem okHashWrite_again (hset : m.nv.fuses.okHash ≠ []) : okHashWrite .supervisor true b m = m.report .supervisor 0x08000022 := by
  rw [okHashWrite, if_neg (by decide), if_neg (by omega), if_pos (by simp [hset]), abState]

end

theorem minSvnSet_rises {v : Nat} (hmin : m.nv.fuses.minSvn ≤ v) (himage : v ≤ m.num 0x644002) (hmax : v ≤ 64) : minSvnSet .supervisor true v m =
    ({ m with nv := { m.nv with fuses := { m.nv.fuses with minSvn := v } } } : Mod).report .supervisor 0 := by
  rw [minSvnSet, if_neg (by decide), if_neg (by omega)]

theorem minSvnSet_refused {v : Nat} (h : v < m.nv.fuses.minSvn ∨ m.num 0x644002 < v ∨ 64 < v) :
    minSvnSet .supervisor true v m = m.report .supervisor 0x06090030 := by
  rw [minSvnSet, if_neg (by decide), if_pos (by omega), abValue]

theorem entropyHealthFail_first (h : m.keys.fails = []) (test now : Nat) : entropyHealthFail test now m =
    (({ m with keys := { m.keys with fails := [now] } } : Mod).bump 0x643004).raise 0x0A05 [test, 1] := by
  rw [entropyHealthFail, h]
  rfl

/-- The third failure within a second stops the DRBG. -/
theorem entropyHealthFail_third (hg : m.Good) {now a b : Nat} (hfails : m.keys.fails = [a, b]) (ha : now < a + 1000000000) (hb : now < b + 1000000000)
    (hdrbg : m.num 0x643002 ≠ 2) (test : Nat) : entropyHealthFail test now m =
      (((({ m with keys := { m.keys with fails := [now, a, b] } } : Mod).bump 0x643004).raise 0x0A05 [test, 3]).set 0x643002 2).raise 0x0A06 [m.k] := by
  have hfailed : ({ m with keys := { m.keys with fails := [now, a, b] } } : Mod).Good := ⟨hg.dict, hg.mem, hg.held⟩
  have hready : (({ m with keys := { m.keys with fails := [now, a, b] } } : Mod).bump 0x643004).num 0x643002 ≠ 2 := by
    rw [Mod.bump, Mod.num_set_ne hfailed.dict _ (objKey_ne_same (by decide) 0)]
    exact hdrbg
  have hrecent : m.keys.fails.filter (fun t => decide (now < t + 1000000000)) = [a, b] := by simp [hfails, ha, hb]
  rw [entropyHealthFail, hrecent]
  exact if_pos ⟨le_refl 3, hready⟩

theorem debuggerAttach_first (hfirst : m.keys.attached = false) (hopen : m.debugState ≠ 0) : debuggerAttach m =
    ({ m with keys := { m.keys with attached := true } } : Mod).raise 0x0A12 [m.debugState] := by
  rw [debuggerAttach, if_neg (by simp [hfirst, hopen])]

/-! ## Sessions (R469, R471, R474, R488) -/

section
variable {n : Nat}

theorem closeSession_open {x : Session} (hparts : Table.find? m.dic.parts (pathNo (.dtp n)) = none) (hopen : m.session? n = some x) (why : Nat) :
    m.closeSession n why =
      ((m.setStage (.dtp n) []).setSessions (Table.del m.dic.sessions n)).raise 0x0B07 [n, Config.eventField 0x0B07 why] := by
  have hkept : m.dropParts (.dtp n) = m := by rw [Mod.dropParts, hparts]
  rw [Mod.closeSession, if_neg (by simp [hopen]), hkept]
  rfl

theorem closeSession_none (hnone : m.session? n = none) (why : Nat) : m.closeSession n why = m := if_pos (by simp [hnone])

theorem dtpSnapshotExpiry_none (hnone : m.session? n = none) : dtpSnapshotExpiry n m = m := by rw [dtpSnapshotExpiry, hnone]

theorem dtpSnapshotExpiry_open {x : Session} (hopen : m.session? n = some x) :
    dtpSnapshotExpiry n m = m.setSessions (Table.put m.dic.sessions n { x with snap := none }) := by rw [dtpSnapshotExpiry, hopen]

end

section
variable {v : Nat} (hv : m.numOk 0x1F3002 0 v = true) (p : Path)
include hv

theorem dtpKeySlotWrite_closes (husage : m.usageOk 0x1F3002 v = true) : dtpKeySlotWrite p v m = ((m.set 0x1F3002 v).closeSessions 4).report p 0 := by
  rw [dtpKeySlotWrite, if_neg (by simp [hv]), if_neg (by simp [husage])]

theorem dtpKeySlotWrite_usage (husage : m.usageOk 0x1F3002 v = false) : dtpKeySlotWrite p v m = m.report p 0x0880000C := by
  rw [dtpKeySlotWrite, if_neg (by simp [hv]), if_pos (by simp [husage]), abCheck]

end

end

/-- Settles O58: a lemma above for each way a command on keys, fuses, debug and sessions can go. -/
theorem keysAndSessions : Obligations.KeysAndSessions := by
  unfold Obligations.KeysAndSessions
  refine ⟨?install, ?used, ?unprivileged, ?derive, ?destroy, ?zeroised, ?remaskNothing, ?remask, ?hash, ?hashAgain, ?svn, ?svnRefused, ?failure, ?thirdFailure,
    ?reseed, ?noReseed, ?attach, ?attached, ?idle, ?noSession, ?snapshot, ?keySlot, ?keyUsage⟩
  case install =>
    rintro s k m hr hempty hvalue hfits hdrbg rfl
    exact next_access ⟨hr, rfl⟩ (keyInstall_installs hempty hvalue hfits hdrbg)
  case used => exact fun s hr hused => ⟨next_access ⟨hr, rfl⟩ (keyInstall_used hused), next_access ⟨hr, rfl⟩ (keyDerive_used hused)⟩
  case unprivileged =>
    exact fun s p hs => ⟨next_access hs (Mod.keyCommand_unprivileged p _), next_access hs (Mod.keyCommand_unprivileged p _),
      next_access hs (Mod.keyCommand_unprivileged p _)⟩
  case derive =>
    rintro s m hr hempty husage hsource hslot hroot hlabel hdrbg rfl
    exact next_access ⟨hr, rfl⟩ (keyDerive_root hempty husage hsource hslot hroot hlabel hdrbg)
  case destroy => exact fun s i m hr hi hm hdtp => next_access ⟨hr, rfl⟩ (keyDestroy_destroys hi hm hdtp)
  case zeroised =>
    intro m i hg
    obtain ⟨hstate, husage, hkcv, hinv⟩ := Mod.num_zeroSlot hg i
    obtain ⟨hslots, hmem, hraised⟩ := Mod.zeroSlot_frame (m := m) i
    exact ⟨hslots, hstate, husage, hkcv, hinv, hmem, hraised⟩
  case remaskNothing => exact fun s i h => next_awake_self (keyRemask_nothing h)
  case remask => exact fun s i k m hr hused hdrbg hdraw => next_awake hr (keyRemask_fresh hused hdrbg hdraw)
  case hash => exact fun s b hr hlen hlc hunset => next_access ⟨hr, rfl⟩ (okHashWrite_blows hlen hlc hunset)
  case hashAgain => exact fun s b hr hlen hset => next_access ⟨hr, rfl⟩ (okHashWrite_again hlen hset)
  case svn => exact fun s v hr hmin himage hmax => next_access ⟨hr, rfl⟩ (minSvnSet_rises hmin himage hmax)
  case svnRefused => exact fun s v hr h => next_access ⟨hr, rfl⟩ (minSvnSet_refused h)
  case failure => exact fun s test now hr h => next_awake hr (entropyHealthFail_first h test now)
  case thirdFailure =>
    rintro s test now a b m hr hg hfails ha hb hdrbg rfl
    exact next_awake hr (entropyHealthFail_third hg hfails ha hb hdrbg test)
  case reseed => exact fun s hr hdrbg => next_awake hr (if_pos hdrbg)
  case noReseed => exact fun s hdrbg => next_awake_self (if_neg (by simp [hdrbg]))
  case attach => exact fun s hr hfirst hopen => next_awake hr (debuggerAttach_first hfirst hopen)
  case attached => exact fun s h => next_awake_self (if_pos h)
  case idle => exact fun s n x hr hparts hopen => next_awake hr (closeSession_open hparts hopen 2)
  case noSession => exact fun s n hnone => ⟨next_awake_self (closeSession_none hnone 2), next_awake_self (dtpSnapshotExpiry_none hnone)⟩
  case snapshot => exact fun s n x hr hopen => next_awake hr (dtpSnapshotExpiry_open hopen)
  case keySlot => exact fun s p v hs hv husage => next_gate hs (dtpKeySlotWrite_closes hv p husage)
  case keyUsage => exact fun s p v hs hv husage => next_gate hs (dtpKeySlotWrite_usage hv p husage)

end Sys2Proof.Machine
end

section
namespace Sys2Proof.Machine

/-! ## Records (R508, R509, R512) -/

/-- A record fills its slot. -/
theorem length_recordOctets (e : RecEntry) (cycle op seq : Nat) : (recordOctets e cycle op seq).length = 128 := by
  simp [recordOctets, length_toLE, length_slice]

section
variable {m : Mod}

theorem Mod.recSync_next (hg : m.Good) : m.recSync.num 0x680001 = m.num 0x680001 := by
  rw [Mod.recSync, Mod.num_set_ne (Mod.set_good hg ..).dict _ (objKey_ne_same (by decide) 0), Mod.num_set_ne hg.dict _ (objKey_ne_same (by decide) 0)]

/-- What a slot held before a record is written to it. -/
def Mod.slotKept (m : Mod) : Mod :=
  { m with recorder := { m.recorder with
      undo := some (slotOfSeq (m.num 0x680001), Memory.readN m.mem (recAt (slotOfSeq (m.num 0x680001))) 128) } }

/-- A record in its slot, NEXT_SEQ still to follow. -/
def Mod.recordStored (m : Mod) (e : RecEntry) : Mod :=
  m.slotKept.poke (recAt (slotOfSeq (m.num 0x680001))) (recordOctets e (m.num 0x680004) (m.opAt e.t) (m.num 0x680001))

theorem Mod.writeRecord_eq (e : RecEntry) : m.writeRecord e = ((m.recordStored e).set 0x680001 (m.num 0x680001 + 1)).recSync := rfl

theorem Mod.writeRecord_mem (e : RecEntry) : (m.writeRecord e).mem = Memory.writeN m.mem (recAt (slotOfSeq (m.num 0x680001)))
    (recordOctets e (m.num 0x680004) (m.opAt e.t) (m.num 0x680001)) := rfl

section
variable (hg : m.Good) (e : RecEntry)
include hg

theorem Mod.recordStored_good : (m.recordStored e).Good :=
  have hkept : m.slotKept.Good := ⟨hg.dict, hg.mem, hg.held⟩
  Mod.poke_good hkept ..

theorem Mod.num_writeRecord : (m.writeRecord e).num 0x680001 = m.num 0x680001 + 1 := by
  have hstored := Mod.recordStored_good hg e
  rw [Mod.writeRecord_eq, Mod.recSync_next (Mod.set_good hstored ..), Mod.num_set hstored.dict]

theorem Mod.readN_writeRecord : Memory.readN (m.writeRecord e).mem (recAt (slotOfSeq (m.num 0x680001))) 128 =
    recordOctets e (m.num 0x680004) (m.opAt e.t) (m.num 0x680001) := by
  have h := Memory.readN_writeN (recAt (slotOfSeq (m.num 0x680001))) (recordOctets e (m.num 0x680004) (m.opAt e.t) (m.num 0x680001)) hg.mem
  rwa [length_recordOctets] at h

theorem Mod.read_writeRecord_outside {a : Nat} (ha : a < recAt (slotOfSeq (m.num 0x680001)) ∨ recAt (slotOfSeq (m.num 0x680001)) + 128 ≤ a) :
    Memory.read (m.writeRecord e).mem a = Memory.read m.mem a := by
  rw [Mod.writeRecord_mem]
  exact Memory.read_writeN_ne _ (by rwa [length_recordOctets]) hg.mem

end

/-! ## Tokens and the queue (R512, R517, R519) -/

section
variable {e : RecEntry}

theorem Mod.occur_exempt (h : codeExempt e.code = true) : m.occur e = m.submit e := if_pos h

section
variable (h : codeExempt e.code = false)
include h

theorem Mod.occur_token (htoken : (m.bucket e.code).used < m.num 0x682002 (codeRange e.code)) :
    m.occur e = (m.setBucket e.code { m.bucket e.code with used := (m.bucket e.code).used + 1 }).submit e := by
  rw [Mod.occur, h, if_neg (by decide), if_pos htoken]

theorem Mod.occur_suppressed (hspent : m.num 0x682002 (codeRange e.code) ≤ (m.bucket e.code).used) : m.occur e = m.suppress e := by
  rw [Mod.occur, h, if_neg (by decide), if_neg (by omega)]

end

theorem Mod.submit_written (hscan : m.recorder.scanned = true) (hqueue : m.recorder.queue = []) (hdue : m.recorder.dropDue = false)
    (htoken : m.recorder.used < 2000) :
    m.submit e = ({ m with recorder := { m.recorder with used := m.recorder.used + 1 } } : Mod).writeRecord e :=
  if_pos (by simp [hscan, hqueue, hdue, htoken])

theorem Mod.submit_waits (hscan : m.recorder.scanned = false) (hroom : m.recorder.queue.length < 256) :
    m.submit e = { m with recorder := { m.recorder with queue := m.recorder.queue ++ [e] } } := by
  rw [Mod.submit, if_neg (by simp [hscan]), if_pos hroom]

/-- A drop that is not the first leaves the time of the first. -/
theorem Mod.submit_dropped (hdrops : m.recorder.drops ≠ 0) (hfull : 256 ≤ m.recorder.queue.length) :
    m.submit e = ({ m with recorder := { m.recorder with drops := m.recorder.drops + 1 } } : Mod).bump 0x680008 := by
  have hwaiting : m.recorder.queue ≠ [] := by
    intro h
    simp [h] at hfull
  rw [Mod.submit, if_neg (by simp [hwaiting]), if_neg (by omega)]
  simp only [if_neg hdrops]

end

theorem eventRaised_first {same : Nat} {e : Ev} (h : firstEvent same m.raised = some e) (t : Nat) : eventRaised same t m =
    (({ m with raised := dropFirst e m.raised } : Mod).occur (evRecord e t)).opTime t := by rw [eventRaised, h]

theorem eventRaised_none (h : m.raised = []) (same t : Nat) : eventRaised same t m = m := by
  rw [eventRaised, h, firstEvent, List.take_nil]
  rfl

/-! ## Refills (R517 to R519) -/

section
variable {c : Nat}

theorem codeTokenRefill_full (h : (m.bucket c).used = 0) (t : Nat) : codeTokenRefill c t m = m := if_pos h

section
variable (hused : (m.bucket c).used ≠ 0)
include hused

theorem codeTokenRefill_token (hnone : (m.bucket c).count = 0) (t : Nat) :
    codeTokenRefill c t m = (m.setBucket c { m.bucket c with used := (m.bucket c).used - 1 }).opTime t := by
  rw [codeTokenRefill, if_neg hused, if_pos hnone]

theorem codeTokenRefill_summary (hsome : (m.bucket c).count ≠ 0) (t : Nat) : codeTokenRefill c t m =
    ((m.setBucket c { used := (m.bucket c).used }).submit (ownRecord 0x0002
      (toLE 2 c ++ [0, 0] ++ toLE 4 (min (m.bucket c).count 0xFFFFFFFF) ++ toLE 6 (m.opAt (m.bucket c).first) ++ [0, 0] ++
        toLE 6 (m.opAt (m.bucket c).last) ++ [0, 0] ++ slice (m.bucket c).payload 0 72) t)).opTime t := by
  rw [codeTokenRefill, if_neg hused, if_neg hsome]

end

end

/-- The global bucket with a token given back. -/
def Mod.globalToken (m : Mod) : Mod := { m with recorder := { m.recorder with used := m.recorder.used - 1 } }

theorem globalTokenRefill_unscanned (hscan : m.recorder.scanned = false) (t : Nat) : globalTokenRefill t m = m.globalToken := if_pos (by simp [hscan])

section
variable (hscan : m.recorder.scanned = true)
include hscan

theorem globalTokenRefill_queue (hdue : m.recorder.dropDue = false) (t : Nat) : globalTokenRefill t m = (drainQueue 1 m.globalToken).opTime t := by
  rw [globalTokenRefill, if_neg (by simp [hscan]), if_neg (by simp [hdue])]
  rfl

theorem globalTokenRefill_drops (hdue : m.recorder.dropDue = true) (t : Nat) : globalTokenRefill t m = (m.globalToken.writeDrops t).opTime t := by
  rw [globalTokenRefill, if_neg (by simp [hscan]), if_pos hdue]
  rfl

theorem recorderScanDone_scanned (t : Nat) : recorderScanDone t m = m := if_pos (.inl hscan)

theorem opTimeCheckpoint_submits (t : Nat) : opTimeCheckpoint t m = (m.submit (ownRecord 0x0001 [] t)).opTime t := if_pos hscan

end

theorem Mod.writeDrops_token {b : Bucket} (hb : b = m.bucket 0x0003) (htoken : b.used < m.num 0x682002 0) (t : Nat) :
    m.writeDrops t = ({ m with recorder := { m.recorder with drops := 0, firstDrop := 0, dropDue := false,
                                                             buckets := Table.set m.recorder.buckets {} 0x0003 { b with used := b.used + 1 },
                                                             used := m.recorder.used + 1 } } : Mod).writeRecord
      (ownRecord 0x0003 (toLE 4 m.recorder.drops ++ toLE 6 (m.opAt m.recorder.firstDrop)) t) := by
  subst hb
  exact if_pos htoken

/-! ## The restart scan (R513, R514) -/

/-- How many records of the area are not valid. -/
def Mod.badRecords (m : Mod) : Nat := ((usedSlots m.mem).filter (fun j => !recordValid j (m.slotOctets j))).length

/-- The recorder after its scan: the next SEQ, the power cycle and the operating time it goes on from; the power-up record takes a token. -/
def Mod.scannedAt (m : Mod) (t next cycle base : Nat) : Mod :=
  let n := ((m.set 0x680006 m.badRecords).set 0x680001 next).set 0x680004 cycle
  { n with recorder := { n.recorder with scanned := true, base := base, origin := t, used := n.recorder.used + 1 } }

/-- The power-up record written, and the records that waited after it. -/
def Mod.poweredUp (m : Mod) (t bad : Nat) : Mod :=
  (drainQueue 256 (m.writeRecord (ownRecord 0x0000 (toLE 1 (m.num 0x203002) ++ toLE 1 m.lcState ++ toLE 4 bad) t))).opTime t

section
variable (hr : m.Runs) (hscan : m.recorder.scanned = false)
include hr hscan

theorem recorderScanDone_empty (hnewest : m.newestRecord = none) (t : Nat) :
    recorderScanDone t m = (m.scannedAt t 0 0 0).poweredUp t m.badRecords := by
  rw [recorderScanDone, if_neg (by simp [hr, hscan]), hnewest]
  rfl

theorem recorderScanDone_newest {b : List Byte} (hnewest : m.newestRecord = some b) (t : Nat) : recorderScanDone t m =
    (m.scannedAt t (field b 0x10 6 + 1) ((field b 0x04 3 + 1) % 2 ^ 24) (field b 0x08 6)).poweredUp t m.badRecords := by
  rw [recorderScanDone, if_neg (by simp [hr, hscan]), hnewest]
  rfl

end

/-! ## Anchors and software events (R516, R522) -/

theorem anchorWrite_submits (p : Path) (t now : Nat) : anchorWrite p 1 t now m = ((m.submit (ownRecord 0x0110
    (toLE 8 (m.tb now) ++ toLE 1 m.timeQuality ++ toLE 8 m.k ++ toLE 1 (m.num 0x3C0001)) t)).opTime t).report p 0 := if_neg (by simp)

theorem swWrite_occurs (hcode : 0x8000 ≤ m.num 0x683001) (hsev : m.num 0x683002 ≤ 4) (hsrc : m.num 0x683003 = 0x80) (p : Path) (t : Nat) :
    swWrite p 1 t m = ((m.occur { code := m.num 0x683001, severity := m.num 0x683002, source := m.num 0x683003,
                                  payload := m.oct 0x683004, t := t }).opTime t).report p 0 := by
  rw [swWrite, if_neg (by simp [hcode, hsev, hsrc]), Mod.served]

theorem swWrite_refused (h : m.num 0x683001 < 0x8000 ∨ 4 < m.num 0x683002) (p : Path) (t : Nat) : swWrite p 1 t m = m.report p 0x06090030 :=
  if_pos (.inr (h.imp_right .inl))

end

/-- Settles O56: a lemma above for each way a command of the recorder can go. -/
theorem theRecorder : Obligations.TheRecorder := by
  unfold Obligations.TheRecorder
  refine ⟨?first, ?none, ?exempt, ?token, ?suppressed, ?written, ?waits, ?dropped, ?record, ?refill, ?summary, ?full, ?queue, ?drops, ?dropRecord, ?unscanned,
    ?scanEmpty, ?scanNewest, ?scanned, ?checkpoint, ?anchor, ?anchorRefused, ?software, ?softwareRefused⟩
  case first => exact fun s same t e hr h => next_awake hr (eventRaised_first h t)
  case none => exact fun s same t h => next_awake_self (eventRaised_none h same t)
  case exempt => exact fun m e h => Mod.occur_exempt h
  case token => exact fun m e h htoken => Mod.occur_token h htoken
  case suppressed => exact fun m e h hspent => Mod.occur_suppressed h hspent
  case written => exact fun m e hscan hqueue hdue htoken => Mod.submit_written hscan hqueue hdue htoken
  case waits => exact fun m e hscan hroom => Mod.submit_waits hscan hroom
  case dropped => exact fun m e hdrops hfull => Mod.submit_dropped hdrops hfull
  case record =>
    exact fun m e hg => ⟨Mod.num_writeRecord hg e, Mod.readN_writeRecord hg e, fun _ ha => Mod.read_writeRecord_outside hg e ha, rfl, rfl⟩
  case refill => exact fun s c t hr hused hnone => next_awake hr (codeTokenRefill_token hused hnone t)
  case summary => exact fun s c t hr hused hsome => next_awake hr (codeTokenRefill_summary hused hsome t)
  case full => exact fun s c t h => next_awake_self (codeTokenRefill_full h t)
  case queue => exact fun s t hr hscan hdue => next_awake hr (globalTokenRefill_queue hscan hdue t)
  case drops =>
    rintro s t m hr hscan hdue rfl
    exact next_awake hr (globalTokenRefill_drops hscan hdue t)
  case dropRecord => exact fun m t b hb htoken => Mod.writeDrops_token hb htoken t
  case unscanned => exact fun s t hr hscan => next_awake hr (globalTokenRefill_unscanned hscan t)
  case scanEmpty =>
    rintro s t bad m n hr hscan hnewest rfl rfl rfl
    exact next_awake hr (recorderScanDone_empty hr hscan hnewest t)
  case scanNewest =>
    rintro s t bad b m n hr hscan hnewest rfl rfl rfl
    exact next_awake hr (recorderScanDone_newest hr hscan hnewest t)
  case scanned => exact fun s t hscan => next_awake_self (recorderScanDone_scanned hscan t)
  case checkpoint => exact fun s t hr hscan => next_awake hr (opTimeCheckpoint_submits hscan t)
  case anchor => exact fun s p t now hs => next_gate hs (anchorWrite_submits p t now)
  case anchorRefused => exact fun s p v t now hs hv => next_gate hs (if_pos hv)
  case software => exact fun s p t hs hcode hsev hsrc => next_gate hs (swWrite_occurs hcode hsev hsrc p t)
  case softwareRefused => exact fun s p t hs h => next_gate hs (swWrite_refused h p t)

end Sys2Proof.Machine
end

section
namespace Sys2Proof.Machine

/-! ## The SDO server (R464 to R466, R474) -/

section
variable {m : Mod}

/-- A server that is not served does nothing. -/
theorem sdo_not_served (h : m.sdoServed = false) :
    (∀ o x z bs e, sdoInitiateDownload o x z bs e m = m) ∧ (∀ g bs l e, sdoDownloadSegment g bs l e m = m) ∧ (∀ o e, sdoInitiateUpload o e m = m) ∧
      (∀ g, sdoUploadSegment g m = m) ∧ (∀ c, sdoAbortRx c m = m) ∧ (∀ o, sdoBlockRequest o m = m) ∧ ∀ n, m.nmtReset n = m := by
  have hoff : (!m.sdoServed) = true := by simp [h]
  exact ⟨fun _ _ _ _ _ => if_pos hoff, fun _ _ _ _ => if_pos hoff, fun _ _ => if_pos hoff, fun _ => if_pos hoff, fun _ => if_pos (.inl hoff),
    fun _ => if_pos hoff, fun _ => if_pos (.inl hoff)⟩

section
variable (hnone : m.dic.sdo = none)
include hnone

/-- With no transfer the server is where its objects say. -/
theorem Mod.sdoAt_idle : m.sdoAt = (m.num 0x1F1001, m.num 0x1F1002) := by rw [Mod.sdoAt, Mod.sdoChannel, Mod.sdoNode, hnone]

theorem Mod.sdoFresh_idle : m.sdoFresh = m := by rw [Mod.sdoFresh, hnone]

theorem Mod.sdoCut_idle : m.sdoCut = m := by rw [Mod.sdoCut, hnone]

end

section
variable {x : SdoXfer} (hsome : m.dic.sdo = some x)
include hsome

/-- A transfer stays on the channel and node on which it began. -/
theorem Mod.sdoAt_busy : m.sdoAt = (x.chan, x.node) := by rw [Mod.sdoAt, Mod.sdoChannel, Mod.sdoNode, hsome]

theorem sdoTimeout_aborts : sdoTimeout m = (m.setSdo none).sdoAbort (x.chan, x.node) x.obj 0x05040000 := by
  rw [← Mod.sdoAt_busy hsome, sdoTimeout, hsome, abTimeout]

end

theorem sdoTimeout_idle (hnone : m.dic.sdo = none) : sdoTimeout m = m := by rw [sdoTimeout, hnone]

section
variable (hserved : m.sdoServed = true)
include hserved

theorem sdo_is_served : ¬ (!m.sdoServed) = true := by simp [hserved]

/-! ### Requests without a transfer -/

section
variable (hnone : m.dic.sdo = none)
include hnone

theorem sdoInitiateDownload_begins (o : Nat) (z : Option Nat) (bs : List Byte) (e : Env) : sdoInitiateDownload o false z bs e m =
    (m.setSdo (some { up := false, obj := o, sel := m.num 0x1F1004, size := z, chan := m.num 0x1F1001, node := m.num 0x1F1002 })).sdoReply
      (m.num 0x1F1001, m.num 0x1F1002) (.downloadOk o) := by
  have hchan : m.sdoChannel = m.num 0x1F1001 := congrArg Prod.fst (Mod.sdoAt_idle hnone)
  have hnode : m.sdoNode = m.num 0x1F1002 := congrArg Prod.snd (Mod.sdoAt_idle hnone)
  simp only [sdoInitiateDownload, if_neg (sdo_is_served hserved), Mod.sdoFresh_idle hnone, Bool.false_eq_true, if_false, hchan, hnode, Mod.sdoAt_idle hnone]

theorem sdoInitiateDownload_expedited (o : Nat) (z : Option Nat) (bs : List Byte) (e : Env) :
    sdoInitiateDownload o true z bs e m = m.sdoWrite e o (m.num 0x1F1004) bs (.downloadOk o) := by
  simp only [sdoInitiateDownload, if_neg (sdo_is_served hserved), Mod.sdoFresh_idle hnone, if_true]

theorem sdoDownloadSegment_stray (g : Bool) (bs : List Byte) (l : Bool) (e : Env) :
    sdoDownloadSegment g bs l e m = m.sdoAbort (m.num 0x1F1001, m.num 0x1F1002) 0 0x05040001 := by
  rw [← Mod.sdoAt_idle hnone, sdoDownloadSegment, if_neg (sdo_is_served hserved), hnone, abSpecifier]

theorem sdoUploadSegment_stray (g : Bool) : sdoUploadSegment g m = m.sdoAbort (m.num 0x1F1001, m.num 0x1F1002) 0 0x05040001 := by
  rw [← Mod.sdoAt_idle hnone, sdoUploadSegment, if_neg (sdo_is_served hserved), hnone, abSpecifier]

theorem sdoInitiateUpload_refused {o c : Nat} {v : List Byte} {e : Env} (hread : m.readOctets .sdo e o (m.num 0x1F1004) = (c, v)) (hc : c ≠ 0) :
    sdoInitiateUpload o e m = m.sdoAbort (m.num 0x1F1001, m.num 0x1F1002) o c := by
  simp only [sdoInitiateUpload, if_neg (sdo_is_served hserved), Mod.sdoFresh_idle hnone, hread, ne_eq, hc, not_false_eq_true, if_true, Mod.sdoAt_idle hnone]

theorem sdoInitiateUpload_expedited {o : Nat} {v : List Byte} {e : Env} {n : Mod} (hread : m.readOctets .sdo e o (m.num 0x1F1004) = (0, v))
    (hlow : 1 ≤ v.length) (hhigh : v.length ≤ 4) (hn : n = (m.readTakes o (m.num 0x1F1004)).report .sdo 0) :
    sdoInitiateUpload o e m = n.emit (.sdo n.sdoChannel n.sdoNode (.value o v)) := by
  subst hn
  simp only [sdoInitiateUpload, if_neg (sdo_is_served hserved), Mod.sdoFresh_idle hnone, hread, ne_eq, not_true_eq_false, if_false, hlow, hhigh,
    and_self, if_true]
  rfl

theorem Mod.nmtReset_resets {n : Nat} (hn : n = 0 ∨ n = m.sdoNode) : m.nmtReset n = (m.setStage .sdo []).set 0x1F1004 0 := by
  have hnode : ¬ (n ≠ 0 ∧ n ≠ m.sdoNode) := by tauto
  rw [Mod.nmtReset, if_neg (not_or.2 ⟨sdo_is_served hserved, hnode⟩), Mod.sdoCut_idle hnone]

end

/-! ### Requests in a transfer -/

section
variable {x : SdoXfer} (hsome : m.dic.sdo = some x)
include hsome

theorem sdoAbortRx_ends (c : Nat) : sdoAbortRx c m = (m.setSdo none).set 0x1F1005 c := if_neg (by simp [hserved, hsome])

section
variable (hdown : x.up = false)
include hdown

theorem sdoDownloadSegment_toggle (bs : List Byte) (l : Bool) (e : Env) :
    sdoDownloadSegment (!x.toggle) bs l e m = (m.setSdo none).sdoAbort (x.chan, x.node) x.obj 0x05030000 := by
  rw [← Mod.sdoAt_busy hsome, sdoDownloadSegment, if_neg (sdo_is_served hserved), hsome]
  dsimp only
  rw [if_neg (by simp [hdown]), if_pos (by simp), abToggle]

section
variable {bs : List Byte} (hfits : (x.data ++ bs).length ≤ lenBound x.obj) (e : Env)
include hfits

theorem sdoDownloadSegment_goes_on : sdoDownloadSegment x.toggle bs false e m =
    (m.setSdo (some { x with data := x.data ++ bs, toggle := !x.toggle })).sdoReply (x.chan, x.node) (.segmentOk x.toggle) := by
  rw [← Mod.sdoAt_busy hsome, sdoDownloadSegment, if_neg (sdo_is_served hserved), hsome]
  dsimp only
  rw [if_neg (by simp [hdown]), if_neg (by simp), if_neg (by simp only [decide_eq_false (Nat.not_lt.2 hfits), Bool.and_false]; decide), if_pos (by decide)]

theorem sdoDownloadSegment_last (hsize : x.size = none) :
    sdoDownloadSegment x.toggle bs true e m = m.sdoWrite e x.obj x.sel (x.data ++ bs) (.segmentOk x.toggle) := by
  rw [sdoDownloadSegment, if_neg (sdo_is_served hserved), hsome]
  dsimp only
  rw [if_neg (by simp [hdown]), if_neg (by simp), if_neg (by simp only [decide_eq_false (Nat.not_lt.2 hfits), Bool.and_false]; decide), if_neg (by decide),
    hsize, if_neg Bool.false_ne_true]

end

end

section
variable (hup : x.up = true)
include hup

theorem sdoUploadSegment_goes_on (hmore : 7 < x.data.length) : sdoUploadSegment x.toggle m =
    (m.setSdo (some { x with data := x.data.drop 7, toggle := !x.toggle })).sdoReply (x.chan, x.node) (.segment x.toggle (x.data.take 7) false) := by
  rw [← Mod.sdoAt_busy hsome, sdoUploadSegment, if_neg (sdo_is_served hserved), hsome]
  dsimp only
  rw [if_neg (by simp [hup]), if_neg (by simp), decide_eq_false (Nat.not_le.2 hmore)]
  rfl

theorem sdoUploadSegment_last (hlast : x.data.length ≤ 7) :
    sdoUploadSegment x.toggle m = (m.setSdo none).sdoReply (x.chan, x.node) (.segment x.toggle (x.data.take 7) true) := by
  rw [← Mod.sdoAt_busy hsome, sdoUploadSegment, if_neg (sdo_is_served hserved), hsome]
  dsimp only
  rw [if_neg (by simp [hup]), if_neg (by simp), decide_eq_true hlast]
  rfl

end

end

theorem sdoBlockRequest_refused (o : Nat) : sdoBlockRequest o m =
    ((m.report .sdo 0x05040001).set 0x1F1005 0x05040001).emit (.sdo m.sdoChannel m.sdoNode (.abort o 0x05040001)) := if_neg (sdo_is_served hserved)

end

theorem Mod.nmtReset_other {n : Nat} (hall : n ≠ 0) (hnode : n ≠ m.sdoNode) : m.nmtReset n = m := if_pos (.inr ⟨hall, hnode⟩)

end

/-- Settles O60: a lemma above for each way a request to the server can go. -/
theorem sdoServer : Obligations.SdoServer := by
  unfold Obligations.SdoServer
  refine ⟨?notServed, ?begins, ?expedited, ?segment, ?lastSegment, ?toggle, ?stray, ?readRefused, ?read, ?upload, ?lastUpload, ?abort, ?block, ?timeout,
    ?noTimeout, ?reset, ?otherNode, ?otherCommand⟩
  case notServed =>
    intro s o c n x g l z bs e h
    obtain ⟨hdown, hsegment, hup, hupSegment, habort, hblock, hreset⟩ := sdo_not_served h
    exact ⟨next_awake_self (hdown o x z bs e), next_awake_self (hsegment g bs l e), next_awake_self (hup o e), next_awake_self (hupSegment g),
      next_awake_self (habort c), next_awake_self (hblock o), next_awake_self (hreset n), next_awake_self (hreset n)⟩
  case begins => exact fun s o z bs e hr hserved hnone => next_awake hr (sdoInitiateDownload_begins hserved hnone o z bs e)
  case expedited => exact fun s o z bs e hr hserved hnone => next_awake hr (sdoInitiateDownload_expedited hserved hnone o z bs e)
  case segment => exact fun s x bs e hr hserved hsome hdown hfits => next_awake hr (sdoDownloadSegment_goes_on hserved hsome hdown hfits e)
  case lastSegment => exact fun s x bs e hr hserved hsome hdown hsize hfits => next_awake hr (sdoDownloadSegment_last hserved hsome hdown hfits e hsize)
  case toggle => exact fun s x bs l e hr hserved hsome hdown => next_awake hr (sdoDownloadSegment_toggle hserved hsome hdown bs l e)
  case stray =>
    exact fun s g l bs e hr hserved hnone => ⟨next_awake hr (sdoDownloadSegment_stray hserved hnone g bs l e),
      next_awake hr (sdoUploadSegment_stray hserved hnone g)⟩
  case readRefused => exact fun s o c v e hr hserved hnone hread hc => next_awake hr (sdoInitiateUpload_refused hserved hnone hread hc)
  case read => exact fun s o v e m hr hserved hnone hread hlow hhigh hm => next_awake hr (sdoInitiateUpload_expedited hserved hnone hread hlow hhigh hm)
  case upload => exact fun s x hr hserved hsome hup hmore => next_awake hr (sdoUploadSegment_goes_on hserved hsome hup hmore)
  case lastUpload => exact fun s x hr hserved hsome hup hlast => next_awake hr (sdoUploadSegment_last hserved hsome hup hlast)
  case abort => exact fun s x c hr hserved hsome => next_awake hr (sdoAbortRx_ends hserved hsome c)
  case block => exact fun s o hr hserved => next_awake hr (sdoBlockRequest_refused hserved o)
  case timeout => exact fun s x hr hsome => next_awake hr (sdoTimeout_aborts hsome)
  case noTimeout => exact fun s hnone => next_awake_self (sdoTimeout_idle hnone)
  case reset =>
    exact fun s n hr hserved hn hnone => ⟨next_awake hr (Mod.nmtReset_resets hserved hnone hn), next_awake hr (Mod.nmtReset_resets hserved hnone hn)⟩
  case otherNode => exact fun s n hall hnode => ⟨next_awake_self (Mod.nmtReset_other hall hnode), next_awake_self (Mod.nmtReset_other hall hnode)⟩
  case otherCommand => exact fun s c n => next_awake_self rfl

end Sys2Proof.Machine
end

section
namespace Sys2Proof.Machine

/-! ## Proposals (R453 to R455, R460) -/

section
variable {m : Mod} {p : Path} {env : Env} {t : Nat} {es : List StageEntry}

theorem Mod.targetOf_named (h : t ≠ 0) : m.targetOf t = t := if_neg h

theorem stageCommit_proposes (ht : t < 2 ^ 48) : stageCommit p t env m =
    (m.proposeEntries p env (m.targetOf t) (m.stage p)).1.report p (m.proposeEntries p env (m.targetOf t) (m.stage p)).2 := if_neg (by omega)

/-- A proposal that is barred with a code leaves the code alone. -/
theorem stageCommit_barred {code : Nat} (ht : t < 2 ^ 48) (h : m.proposeEntries p env (m.targetOf t) (m.stage p) = (m, code)) :
    stageCommit p t env m = m.report p code := by
  rw [stageCommit_proposes ht, h]

theorem Mod.proposeEntries_empty : m.proposeEntries p env t [] = (m, 0x06090030) := by
  rw [Mod.proposeEntries, if_pos List.isEmpty_nil, abValue]

theorem Mod.may_propose (hcan : m.isMember = true ∨ m.mstate = msStandalone) : ¬ (!m.stopped ∧ !m.isMember ∧ m.mstate ≠ msStandalone) := by
  rcases hcan with hmem | halone
  · simp [hmem]
  · simp [halone]

/-- The next COMMIT_ID taken leaves the tick as it runs. -/
theorem Mod.stopped_identified : (m.identified p).stopped = m.stopped := by
  simp only [Mod.identified, Mod.nextCommitId]
  split <;> rfl

theorem Mod.swapsBarred_none (hlast : swapsLast es = false) (hprofiles : swapsProfiles es = []) (same tickBad : Bool) : m.swapsBarred same tickBad es = none := by
  simp [Mod.swapsBarred, hlast, hprofiles]

section
variable (hes : es ≠ [])
include hes

section
variable (hrun : m.stopped = false)
include hrun

theorem Mod.proposeEntries_no_member (hmem : m.isMember = false) (halone : m.mstate ≠ msStandalone) :
    m.proposeEntries p env t es = (m, 0x0880000B) := by
  rw [Mod.proposeEntries, if_neg (by simpa using hes), if_pos (by simp [hrun, hmem, halone]), abMember]

section
variable (hcan : m.isMember = true ∨ m.mstate = msStandalone)
include hcan

theorem Mod.proposeEntries_target (hlast : swapsLast es = false) (hprofiles : swapsProfiles es = []) (ht : t < m.k + 48 ∨ m.k + 2 ^ 24 < t) :
    m.proposeEntries p env t es = (m, 0x08800003) := by
  have hout : m.targetOk t = false := decide_eq_false (by omega)
  rw [Mod.proposeEntries, if_neg (by simpa using hes), if_neg (Mod.may_propose hcan), if_pos (by simp [hrun, hlast, hprofiles, hout]), abTarget]

theorem Mod.proposeEntries_pending (hlow : m.k + 48 ≤ t) (hhigh : t ≤ m.k + 2 ^ 24) (hfull : 64 ≤ m.pendingCommits.length) :
    m.proposeEntries p env t es = (m, 0x08800009) := by
  have hin : m.targetOk t = true := decide_eq_true ⟨hlow, hhigh⟩
  rw [Mod.proposeEntries, if_neg (by simpa using hes), if_neg (Mod.may_propose hcan), if_neg (by simp [hin]), if_pos (by simp [hrun, hfull]), abPending]

end

end

/-! ### Proposals taken up -/

section
variable (hlast : swapsLast es = false) (hprofiles : swapsProfiles es = [])
include hlast hprofiles

theorem Mod.proposeEntries_running (hrun : m.stopped = false) (hcan : m.isMember = true ∨ m.mstate = msStandalone) (hlow : m.k + 48 ≤ t)
    (hhigh : t ≤ m.k + 2 ^ 24) (hroom : m.pendingCommits.length < 64) :
    m.proposeEntries p env t es = (m.identified p).proposeRunning env (m.proposal p t es) := by
  have hin : m.targetOk t = true := decide_eq_true ⟨hlow, hhigh⟩
  have hrun' : ¬ (m.identified p).stopped = true := by simp [Mod.stopped_identified, hrun]
  rw [Mod.proposeEntries, if_neg (by simpa using hes), if_neg (Mod.may_propose hcan), if_neg (by simp [hin]), if_neg (by omega),
    Mod.swapsBarred_none hlast hprofiles]
  exact if_neg hrun'

theorem Mod.proposeEntries_stopped (hstop : m.stopped = true) :
    m.proposeEntries p env t es = (m.identified p).proposeStopped env (m.proposal p t es) := by
  have hstop' : (m.identified p).stopped = true := by rw [Mod.stopped_identified, hstop]
  rw [Mod.proposeEntries, if_neg (by simpa using hes), if_neg (by simp [hstop]), if_neg (by simp [hstop]), if_neg (by simp [hstop]),
    Mod.swapsBarred_none hlast hprofiles]
  exact if_pos hstop'

end

end

theorem Mod.proposeRunning_accepted {c : Commit} (h : ((m.expected env c).commitVerdict env c).code = 0) :
    m.proposeRunning env c = (((m.takeUp c).markSwaps c).markAllots c, 0) := if_neg (not_not_intro h)

/-- A commit applied at once, as its entries leave the module. -/
def Mod.appliedAtOnce (m : Mod) (env : Env) (c : Commit) : Mod × List Nat :=
  Mod.applyEntries ((m.keepCommit c).mapCommit c.id (fun c => { c with state := .applied }), []) env c

theorem Mod.proposeStopped_accepted {c : Commit} (h : (m.commitVerdict env c).code = 0) : m.proposeStopped env c =
    ((((((m.appliedAtOnce env c).1.reportTick (m.appliedAtOnce env c).2).tellDigest m.settingsDigest).bump 0x1F0102).raise 0x0B00
      [c.id, c.target, 0]).tenantOutcome c 0, 0) := if_neg (not_not_intro h)

/-! ## Writes that name a target (R453) -/

theorem Mod.Joins.serves {o i : Nat} (h : m.Joins p o i t) : m.Serves p := h.1

theorem Mod.Joins.contains {o i : Nat} (h : m.Joins p o i t) : (instancesAll o).contains i = true := h.2.1

theorem Mod.proposeWith_joins {o i : Nat} (h : m.Joins p o i t) : m.proposeWith p env [{ obj := o, sel := i, val := .num t }] t =
    (m.proposeEntries p env t (m.stageWith p o i t)).1.report p (m.proposeEntries p env t (m.stageWith p o i t)).2 := by
  obtain ⟨-, -, ht, hcount, hbytes⟩ := h
  have hstage : ((m.stage p).filter (fun e => !([{ obj := o, sel := i, val := .num t }] : List StageEntry).any (fun x => x.obj == e.obj && x.sel == e.sel))) ++
      [{ obj := o, sel := i, val := .num t }] = m.stageWith p o i t := by
    simp only [List.any_cons, List.any_nil, Bool.or_false, Mod.stageWith]
  rw [Mod.proposeWith, if_neg (by omega)]
  simp only [hstage]
  rw [if_neg (by omega)]

theorem Mod.writeTarget_joins {o i : Nat} (h : m.Joins p o i t) (env : Env) : m.writeTarget p env o i t =
    (m.proposeEntries p env t (m.stageWith p o i t)).1.report p (m.proposeEntries p env t (m.stageWith p o i t)).2 := by
  rw [Mod.writeTarget, if_neg (by rw [h.contains]; decide), Mod.proposeWith_joins h]

/-- A profile that has a SWAP_TICK is one of the 64. -/
theorem profile_lt_of_contains {i : Nat} (h : (instancesAll 0x44200C).contains i = true) : i < 64 := by
  have hall : ∀ j ∈ instancesAll 0x44200C, j < 64 := by decide
  exact hall i (List.contains_iff_mem.mp h)

theorem profileSwapRequest_joins {i : Nat} (h4 : 4 ≤ i) (h : m.Joins p 0x44200C i t) (env : Env) : profileSwapRequest p i t env m =
    (m.proposeEntries p env t (m.stageWith p 0x44200C i t)).1.report p (m.proposeEntries p env t (m.stageWith p 0x44200C i t)).2 := by
  have hwritable : ¬ profileGuard i ≠ 0 := not_not_intro (profileGuard_user h4 (profile_lt_of_contains h.contains))
  rw [profileSwapRequest, if_neg hwritable, Mod.writeTarget_joins h]

theorem engineStartRequest_joins {i : Nat} (h : m.Joins p 0x581005 i t) (hmay : p = .supervisor ∨ m.engState i ≠ enFaulted) (env : Env) :
    engineStartRequest p i t env m =
      (m.proposeEntries p env t (m.stageWith p 0x581005 i t)).1.report p (m.proposeEntries p env t (m.stageWith p 0x581005 i t)).2 := by
  rw [engineStartRequest, if_neg (by tauto), Mod.writeTarget_joins h]

end

/-- Settles O14: each command is a write to its target object, which joins the stage. -/
theorem targetWritesPropose : Obligations.TargetWritesPropose := by
  unfold Obligations.TargetWritesPropose
  refine ⟨?last, ?profile, ?start, ?stop, ?create, ?destroy, ?freeze, ?unfreeze, ?allotment, ?restore⟩
  case profile => exact fun s p env i t h4 h => next_gate h.serves (profileSwapRequest_joins h4 h env)
  case start => exact fun s p env i t h hmay => next_gate h.serves (engineStartRequest_joins h hmay env)
  case last => exact fun s p env t h => next_gate h.serves (Mod.writeTarget_joins h env)
  case stop => exact fun s p env i t h => next_gate h.serves (Mod.writeTarget_joins h env)
  case create => exact fun s p env i t h => next_gate h.serves (Mod.writeTarget_joins h env)
  case destroy => exact fun s p env i t h => next_gate h.serves (Mod.writeTarget_joins h env)
  case freeze => exact fun s p env i t h => next_gate h.serves (Mod.writeTarget_joins h env)
  case unfreeze => exact fun s p env i t h => next_gate h.serves (Mod.writeTarget_joins h env)
  case allotment => exact fun s p env i t h => next_gate h.serves (Mod.writeTarget_joins h env)
  case restore => exact fun s p env t h => next_gate h.serves (Mod.writeTarget_joins h env)

/-- Settles O15: what bars a proposal is judged in order, and leaves the module as it is. -/
theorem proposalsAreBarred : Obligations.ProposalsAreBarred := by
  unfold Obligations.ProposalsAreBarred
  refine ⟨?empty, ?noMember, ?target, ?pending⟩
  case empty =>
    intro s p t env hs ht hempty
    refine next_gate hs (stageCommit_barred ht ?_)
    rw [hempty, Mod.proposeEntries_empty]
  case noMember => exact fun s p t env hs ht hes hrun hmem halone => next_gate hs (stageCommit_barred ht (Mod.proposeEntries_no_member hes hrun hmem halone))
  case target =>
    intro s p t env hs ht hes hrun hcan hlast hprofiles hnamed hout
    refine next_gate hs (stageCommit_barred ht ?_)
    rw [Mod.targetOf_named hnamed, Mod.proposeEntries_target hes hrun hcan hlast hprofiles hout]
  case pending =>
    intro s p t env hs ht hes hrun hcan hlow hhigh hfull
    refine next_gate hs (stageCommit_barred ht ?_)
    rw [Mod.targetOf_named (by omega), Mod.proposeEntries_pending hes hrun hcan hlow hhigh hfull]

/-- Settles O16: a proposal that nothing bars and the check accepts is taken up, or applies at once. -/
theorem proposalsAreTakenUp : Obligations.ProposalsAreTakenUp := by
  unfold Obligations.ProposalsAreTakenUp
  refine ⟨?running, ?stopped⟩
  case running =>
    intro s p t env hs hpos ht hes hrun hcan hlast hprofiles hlow hhigh hroom hcode
    refine next_gate hs ?_
    rw [stageCommit_proposes ht, Mod.targetOf_named (by omega), Mod.proposeEntries_running hes hlast hprofiles hrun hcan hlow hhigh hroom,
      Mod.proposeRunning_accepted hcode]
  case stopped =>
    intro s p t env hs hpos ht hes hstop hlast hprofiles hcode
    have haccepted := Mod.proposeStopped_accepted hcode
    refine ⟨next_gate hs ?_, haccepted⟩
    rw [stageCommit_proposes ht, Mod.targetOf_named (by omega), Mod.proposeEntries_stopped hes hlast hprofiles hstop, haccepted]

end Sys2Proof.Machine
end

section
namespace Sys2Proof.Machine

/-! ## Commits discarded and cancelled (R459, R475) -/

section
variable {m : Mod} {id : Nat} {c : Commit}

theorem commitCancel_in_time (hc : m.commit? id = some c) (hst : c.state = .proposed ∨ c.state = .confirmed) (hk : m.k + 16 < c.target) (p : Path) :
    commitCancel p id m = (((m.sendCommit 5 c 0x08800006).cancelCommit c 0x08800006 m.rank).stepEnded c).report p 0 := by
  rw [commitCancel, Mod.cancelById_in_time hc hst hk, abCancelled]

theorem commitCancel_late (h : ∀ c, m.commit? id = some c → c.target ≤ m.k + 16 ∨ (c.state ≠ .proposed ∧ c.state ≠ .confirmed)) (p : Path) :
    commitCancel p id m = m.report p 0x08800007 := by
  have hrefused : m.cancelById id = (m, abCancelLate) := by
    cases hc : m.commit? id with
    | none => simp [Mod.cancelById, hc]
    | some c =>
      have hcannot : m.canCancel c 16 = false := by
        rcases h c hc with hlate | ⟨hprop, hconf⟩
        · simp [Mod.canCancel, Nat.not_lt.2 hlate]
        · simp [Mod.canCancel, hprop, hconf]
      simp [Mod.cancelById, hc, hcannot]
  rw [commitCancel, hrefused, abCancelLate]

theorem commitCancelRx_in_time (hc : m.commit? id = some c) (hst : c.state = .proposed ∨ c.state = .confirmed) (hk : m.k + 8 < c.target) (rank code : Nat) :
    commitCancelRx rank id code m = (m.cancelCommit c code rank).stepEnded c := by
  have hcan : m.canCancel c 8 = true := by simp [Mod.canCancel, hst, hk]
  simp only [commitCancelRx, hc, if_pos hcan]

theorem commitCancelRx_late (hc : m.commit? id = some c) (hk : c.target ≤ m.k + 8) (rank code : Nat) : commitCancelRx rank id code m = m := by
  have hcannot : m.canCancel c 8 = false := by simp [Mod.canCancel, Nat.not_lt.2 hk]
  simp [commitCancelRx, hc, hcannot]

/-! ## What the members answer (R458 to R460) -/

theorem Mod.confirmIf_complete (hc : m.commit? id = some c) (hown : c.own = true) (hst : c.state = .proposed) (hkind : c.kind ≠ 2)
    (hall : c.members.all c.accepted.contains = true) (hk : m.k + 32 < c.target) :
    m.confirmIf id = (m.mapCommit id (fun c => { c with state := .confirmed })).sendCommit 4 c 0 := by
  have hcomplete : c.complete = true := by rw [Commit.complete, if_neg hkind, hall]
  simp only [Mod.confirmIf, hc, hown, hst, hcomplete, hk, and_self, if_true, if_neg hkind]

section
variable (hc : m.commit? id = some c) (hst : c.state = .proposed)
include hc hst

/-- The origin of a commit that a member refuses sends CANCEL. -/
theorem commitRefuseRx_origin (hown : c.own = true) (hkind : c.kind ≠ 2) (rank code : Nat) :
    commitRefuseRx rank id code m = ((m.sendCommit 5 c code).refuseCommit c code rank).stepEnded c := by
  have hsends : (c.own && c.kind != 2) = true := by simp [hown, hkind]
  simp only [commitRefuseRx, hc, hst, ne_eq, not_true_eq_false, if_false, hsends, Mod.when, if_true]

theorem commitRefuseRx_other (hown : c.own = false) (rank code : Nat) : commitRefuseRx rank id code m = (m.refuseCommit c code rank).stepEnded c := by
  have hsilent : (c.own && c.kind != 2) = false := by simp [hown]
  simp only [commitRefuseRx, hc, hst, ne_eq, not_true_eq_false, if_false, hsilent, Mod.when, Bool.false_eq_true]

end

/-- The fragments of a PROPOSE held, its record's among them. -/
def Mod.fragsHeld (m : Mod) (id : Nat) (l : List (Nat × Nat)) : Mod := { m with dic := { m.dic with frags := Table.set m.dic.frags [] id l } }

/-- The commit that a peer's PROPOSE spells, as this module holds it. -/
def Commit.received (c : Commit) (members : List Nat) : Commit :=
  { id := c.id, kind := c.kind, originRank := c.originRank, path := c.path, target := c.target, entries := c.entries, step := c.step,
    timeBits := c.timeBits, freeze := c.freeze, own := false, pathNo := 0xFFFFFFFF, members := members }

section
variable (hmem : m.isMember = true) {off len : Nat}
include hmem

theorem commitProposeRx_holds (hpart : covered c.recordLen ((off, len) :: Table.get m.dic.frags [] c.id) = false) (rank k : Nat) (env : Env) :
    commitProposeRx rank k c off len env m = m.fragsHeld c.id ((off, len) :: Table.get m.dic.frags [] c.id) := by
  rw [commitProposeRx, if_neg (by simp [hmem]), if_pos (by simp [hpart]), Mod.fragsHeld]

theorem commitProposeRx_complete (hfull : covered c.recordLen ((off, len) :: Table.get m.dic.frags [] c.id) = true) (hkind : c.kind ≠ 2)
    (hnew : m.commit? c.id = none) (rank k : Nat) (env : Env) : commitProposeRx rank k c off len env m =
      (m.fragsHeld c.id []).takeProposal env k (c.received (m.fragsHeld c.id []).otherMembers) := by
  have hnew' : ¬ ((m.fragsHeld c.id []).commit? c.id).isSome = true := by
    rw [show (m.fragsHeld c.id []).commit? c.id = none from hnew]
    decide
  rw [commitProposeRx, if_neg (by simp [hmem]), if_neg (by simp [hfull])]
  dsimp only
  rw [if_neg hkind]
  exact if_neg hnew'

end

/-! ## The schedule (R456, R459, R460) -/

/-- A commit that has not every ACCEPT in time is refused, and its origin sends CANCEL. -/
theorem commitAcceptDeadline_one (hkind : c.kind ≠ 2)
    (hlate : m.dic.held.filter (fun c => c.state == .proposed && (c.own || c.kind == 2) && decide (c.target ≤ m.k + 32)) = [c]) :
    commitAcceptDeadline m = ((m.sendCommit 5 c 0x08800005).refuseCommit c 0x08800005 (m.sendCommit 5 c 0x08800005).rank).stepEnded c := by
  have hsends : (c.kind != 2) = true := by simp [hkind]
  rw [commitAcceptDeadline, hlate, Mod.each_cons, hsends, abInTime]
  rfl

section
variable (hrun : m.stopped = false) (hk : m.k ≤ c.target)
  (hdue : m.dic.held.filter (fun c => (c.state == .proposed || c.state == .confirmed || c.state == .armed) && decide (c.target ≤ m.k + 8)) = [c])
include hrun hk hdue

theorem commitArm_confirmed (hst : c.state = .confirmed) : commitArm m = m.mapCommit c.id (fun c => { c with state := .armed }) := by
  rw [commitArm, if_neg (by simp [hrun]), hdue, Mod.each_cons, if_neg (by omega), hst]
  rfl

theorem commitArm_proposed (hst : c.state = .proposed) (horigin : m.originMember c = true) : commitArm m = (m.missCommit c 1).stepEnded c := by
  rw [commitArm, if_neg (by simp [hrun]), hdue, Mod.each_cons, if_neg (by omega), hst, horigin]
  rfl

end

theorem commitApply_due {env : Env} {l : List Commit} (hphase : m.inPhase .I = true) (hstage : m.triad.stage = 0)
    (hdue : m.dueCommits.mergeSort commitLe = l) (hl : l ≠ []) : commitApply env m =
      (((Mod.applyAll env l (m, [])).1.reportTick (Mod.applyAll env l (m, [])).2).tellDigest m.settingsDigest).openTick := by
  subst hdue
  exact if_neg (by simp [hphase, hstage, hl])

theorem commitApply_nothing (env : Env) (h : m.inPhase .I = false ∨ m.triad.stage ≠ 0 ∨ m.dueCommits = []) : commitApply env m = m := by
  refine if_pos ?_
  rcases h with hphase | hstage | hnone
  · exact .inl (by simp [hphase])
  · exact .inr (.inl hstage)
  · exact .inr (.inr (by simp [hnone]))

section
variable {env : Env} {r : List Nat} {l : List Commit}

theorem Mod.applyAll_accepted (h : ((m.swappedBy env l).commitVerdict env c).code = 0) : Mod.applyAll env (c :: l) (m, r) =
    Mod.applyAll env l (Mod.applyEntries (m.mapCommit c.id (fun c => { c with state := .applying }), r) env c) := by
  rw [Mod.applyAll, Mod.applyDue, if_neg (not_not_intro h)]

theorem Mod.applyAll_refused (h : ((m.swappedBy env l).commitVerdict env c).code ≠ 0) : Mod.applyAll env (c :: l) (m, r) =
    Mod.applyAll env l (m.refuseBy c ((m.swappedBy env l).commitVerdict env c) 0x0880000C, r) := by
  rw [Mod.applyAll, Mod.applyDue, if_pos h, abCheck]

end

end

/-- Settles O17: a lemma above for each way a stage is discarded or a commit cancelled. -/
theorem commitsAreCancelled : Obligations.CommitsAreCancelled := by
  unfold Obligations.CommitsAreCancelled
  refine ⟨?discard, ?discardRefused, ?cancel, ?cancelLate, ?peer, ?peerLate⟩
  case discard => exact fun s p hs => next_gate hs (if_neg (by decide))
  case discardRefused => exact fun s p v hs hv => next_gate hs (if_pos hv)
  case cancel => exact fun s p id c hs hc hst hk => next_gate hs (commitCancel_in_time hc hst hk p)
  case cancelLate => exact fun s p id hs h => next_gate hs (commitCancel_late h p)
  case peer => exact fun s rank id code c hr hc hst hk => next_awake hr (commitCancelRx_in_time hc hst hk rank code)
  case peerLate => exact fun s rank id code c hc hk => next_awake_self (commitCancelRx_late hc hk rank code)

/-- Settles O18: a lemma above for each message of a member. -/
theorem membersAnswer : Obligations.MembersAnswer := by
  unfold Obligations.MembersAnswer
  refine ⟨?accept, ?confirms, ?confirm, ?refuse, ?refuseOther, ?part, ?propose⟩
  case accept => exact fun s rank id hr => next_awake hr rfl
  case confirms => exact fun m id c hc hown hst hkind hall hk => Mod.confirmIf_complete hc hown hst hkind hall hk
  case confirm => exact fun s rank id hr => next_awake hr rfl
  case refuse => exact fun s rank id code c hr hc hst hown hkind => next_awake hr (commitRefuseRx_origin hc hst hown hkind rank code)
  case refuseOther => exact fun s rank id code c hr hc hst hown => next_awake hr (commitRefuseRx_other hc hst hown rank code)
  case part => exact fun s rank k off len c env hr hmem hpart => next_awake hr (commitProposeRx_holds hmem hpart rank k env)
  case propose =>
    rintro s rank k off len c env m hr hmem hfull hkind hnew rfl
    exact next_awake hr (commitProposeRx_complete hmem hfull hkind hnew rank k env)

/-- Settles O19: a lemma above for each deadline of a commit. -/
theorem commitsFollowTheSchedule : Obligations.CommitsFollowTheSchedule := by
  unfold Obligations.CommitsFollowTheSchedule
  refine ⟨?deadline, ?arm, ?miss, ?apply, ?accepted, ?refused, ?nothing⟩
  case deadline => exact fun s c hr hkind hlate => next_awake hr (commitAcceptDeadline_one hkind hlate)
  case arm => exact fun s c hr hrun hk hst hdue => next_awake hr (commitArm_confirmed hrun hk hdue hst)
  case miss => exact fun s c hr hrun hk hst horigin hdue => next_awake hr (commitArm_proposed hrun hk hdue hst horigin)
  case apply => exact fun s env l hr hphase hstage hdue hl => next_awake hr (commitApply_due hphase hstage hdue hl)
  case accepted => exact fun env m r c l h => Mod.applyAll_accepted h
  case refused => exact fun env m r c l h => Mod.applyAll_refused h
  case nothing => exact fun s env h => next_awake_self (commitApply_nothing env h)

end Sys2Proof.Machine
end
